-- ==== Sys2Proof/Word.lean ====
section
/-! DEFINITION. The words the manual counts in: the byte of every wire value (R35) and the 16-bit word of the host port (R48) and of the SPI buses (R79, R121). -/

namespace Sys2Proof

/-- One byte on a wire or in a memory (R35). -/
abbrev Byte := BitVec 8

/-- A string of bytes in the order they travel. -/
abbrev Bytes := List Byte

/-- A 16-bit word of the host port, the LF SPI or the front-end SPI, sent most significant bit first. -/
abbrev Word := BitVec 16

end Sys2Proof
end

