-- ==== Sys2Proof/Syntax.lean ====
section
/-! DEFINITION. The commands of the block: one constructor of Instr for every row of the opcode table, and the types of their operands.
Each command carries dt, the nanoseconds that pass between the command before it and this one. Rows that the manual drives by
time or by the world outside carry what the device then sees (levels, words, frames, soft decisions). -/

namespace Sys2Proof

/-- A dictionary client (R506): the host port, or a client channel of a CAN bus. -/
inductive Client where
  | host
  | can (bus chan : Nat)
  deriving DecidableEq, Repr

/-- Initiators of fabric writes, the columns of the table of R27. -/
inductive Initiator where
  | trustPair | vehiclePair | se (n : Nat) | cipherTrust | cipherVehicle | capture | nand | tagEngine
  deriving DecidableEq, Repr

/-- SRAM regions of R27. -/
inductive Region where
  | trust | vehicle | roundBuffers | messages | jobRings | journalTail | tagSnapshot
  deriving DecidableEq, Repr

/-- Why a sample lane goes DOWN (R118). -/
inductive LaneLoss where
  | codeErrors (n : Nat) | marker | frontEnd
  deriving DecidableEq, Repr

/-- Where a policy request comes from (R219). -/
inductive Source where
  | door | can | host (c : Client) | walkAway
  deriving DecidableEq, Repr

/-- A group of cores with a watchdog (R460). -/
inductive CoreGroup where
  | trust | vehicle | se (n : Nat)
  deriving DecidableEq, Repr

/-- The PLLs with a lock monitor (R448). -/
inductive Pll where
  | core | sample | can
  deriving DecidableEq, Repr

/-- A CAN or CAN FD frame (R412, R414). -/
structure CanFrame where
  /-- [29] identifier -/
  id : Nat
  /-- [1] extended identifier -/
  ide : Bool := false
  /-- [1] remote frame -/
  rtr : Bool := false
  /-- [1] FD format -/
  fdf : Bool := false
  /-- [1] bit-rate switch -/
  brs : Bool := false
  /-- [1] error state indicator -/
  esi : Bool := false
  /-- [4] data length code -/
  dlc : Nat := 0
  /-- data bytes, as many as R414 gives for the DLC -/
  data : Bytes := []
  deriving DecidableEq, Repr

/-- How a frame on the bus ends (R422). -/
inductive FrameOutcome where
  | sent (tdc : Nat)
  | lostArbitration
  | error (code : Nat) (dataPhase : Bool)
  deriving DecidableEq, Repr

/-- What a unit's start-up finds (R32): its known-answer tests, and the words its bus answers with. -/
structure StartObs where
  /-- known-answer tests pass -/
  kat : Bool := true
  /-- words on FE_MISO during the LF driver sequence of R83 -/
  words : List Word := []
  /-- slots whose backing record fails its tag (R316), or AES cores whose known-answer test fails -/
  fails : List Nat := []
  deriving DecidableEq, Repr

/-- The fields of a UHF Select (R264). -/
structure SelectCmd where
  /-- [3] target: 0 to 3 the inventoried flag of S0 to S3, 4 SL -/
  target : Nat
  /-- [3] action -/
  action : Nat
  /-- [2] MemBank -/
  bank : Nat
  /-- bit address of the mask -/
  ptr : Nat
  /-- mask bits, first sent first -/
  mask : List Bool := []
  /-- [1] Truncate, which the device ignores -/
  truncate : Bool := false
  deriving DecidableEq, Repr

/-- The fields of a UHF Query (R264). -/
structure QueryCmd where
  /-- [1] divide ratio 64/3 rather than 8 -/
  dr : Bool := false
  /-- [2] M: FM0, Miller 2, 4 or 8 -/
  m : Nat := 0
  /-- [1] TRext -/
  trext : Bool := false
  /-- [2] Sel: 0 and 1 all, 2 not SL, 3 SL -/
  sel : Nat := 0
  /-- [2] session -/
  session : Nat := 0
  /-- [1] Target B rather than A -/
  target : Bool := false
  /-- [4] Q -/
  q : Nat := 0
  deriving DecidableEq, Repr

/-- A raw block of the generator (R323, R325): what its four sources gave. -/
structure RawBlock where
  /-- 1,024 raw bits of each source as 128 bytes, first sample in the most significant bit -/
  bits : List Bytes
  /-- oscillator cycles of each source over the block -/
  cycles : List Nat
  /-- the conditioner's known-answer test passes -/
  kat : Bool := true
  deriving DecidableEq, Repr
/-- What the start-up of the ranging group meets (R153). -/
structure FrontEndObs where
  /-- ID registers of front ends 0 to 2 -/
  ids : List Word := [0xC500, 0xC500, 0xC500]
  /-- Status registers when the time for PLL lock has passed -/
  status : List Word := [0xE000, 0xE000, 0xE000]
  /-- comma alignment reached on RX0 to RX2 -/
  aligned : List Bool := [true, true, true]
  /-- markers in position on RX0 to RX2 -/
  inPosition : List Bool := [true, true, true]
  /-- first idle noise floors of RX0 to RX2, 0.25 dBFS -/
  floors : List Int := [0, 0, 0]
  /-- temperatures, 0.25 degree -/
  temps : List Int := [100, 100, 100]
  deriving DecidableEq, Repr
/-- What one receive lane gives for a frame: channel impulse responses, one complex tap per sample. A tap is in units of 2^-20 of the
amplitude whose power is FS of R145. -/
structure LaneObs where
  /-- 508 taps of the preamble CIR -/
  pre : List (Int × Int)
  /-- sample index of the first chip of the frame that tap 0 of the preamble CIR stands for -/
  preAt : Nat
  /-- 256 taps of the early half -/
  early : List (Int × Int) := []
  /-- 256 taps of the late half -/
  late : List (Int × Int) := []
  /-- saturated samples of the preamble, per mille -/
  sat : Nat := 0
  deriving DecidableEq, Repr

/-- A frame at the end of its reception (R137): what the lanes and the modem's front half give. -/
structure FrameObs where
  /-- the SFD found is SFD_B -/
  sfdB : Bool
  /-- lanes RX0 to RX2 -/
  lanes : List LaneObs
  /-- soft decisions of the 60 coded header bits, -8 to 7, positive for a coded 0 -/
  header : List Int
  /-- soft decisions of the coded payload bits -/
  payload : List Int := []
  /-- pilots after tracking -/
  pilots : List (Int × Int) := []
  /-- carrier offset of the preamble estimate, Hz -/
  carrier : Int := 0
  /-- the pilot residual exceeded 2 ppm -/
  residual : Bool := false
  deriving DecidableEq, Repr
/-- What the journal store meets on its medium at start (R357, R368). -/
structure JournalObs where
  /-- the medium answers within the times of R357 -/
  present : Bool := true
  /-- READ ID: manufacturer, device -/
  id : Bytes := [0, 0]
  /-- die * 2^24 + row of each programmed page that reports uncorrectable ECC -/
  unreadable : List Nat := []
  deriving DecidableEq, Repr
/-- What a cold start meets (R457): the supplies, the crystal, the sensors, TEST_MODE, and what the record scan of R346 finds. -/
structure BootObs where
  /-- VDD_CORE, VDD_IO, VDD_18, VDD_SER and VAON in mV -/
  rails : List Nat := [800, 3300, 1800, 900, 3300]
  /-- the crystal is valid within 10 ms of the rails -/
  crystal : Bool := true
  /-- the four junction sensors, 0.25 degree -/
  sensors : List Int := [100, 100, 100, 100]
  /-- TEST_MODE is high at the end of the reset -/
  testMode : Bool := false
  /-- record keys whose banks hold the same sequence with different content -/
  conflicts : List Nat := []
  /-- record keys of which one bank is rewritten: the key, and the bank -/
  repaired : List (Nat × Nat) := []
  /-- record keys with no valid copy in either bank -/
  lost : List Nat := []
  deriving DecidableEq, Repr

/-- The commands, in the order of the opcode table. -/
inductive Instr where
  | unitStop (dt : Nat) (c : Client) (uid : Nat)
  | unitStart (dt : Nat) (c : Client) (uid : Nat)
  | unitStartUp (dt : Nat) (uid : Nat) (o : StartObs)
  | trustRequestServed (dt : Nat)
  | firewallFault (dt : Nat) (ini : Initiator) (region : Region)
  | nop (dt : Nat) (words : List Word)
  | ignoredOpcode (dt : Nat) (words : List Word)
  | reqRead (dt : Nat) (words : List Word)
  | reqWrite (dt : Nat) (words : List Word)
  | response (dt : Nat) (words : List Word)
  | fastRead (dt : Nat) (words : List Word)
  | objectWrite (dt : Nat) (c : Client) (idx sub : Nat) (data : Bytes)
  | persistentCommit (dt : Nat) (c : Client)
  | nvFenced (dt : Nat) (c : Client)
  | role (dt : Nat) (c : Client) (code : Nat)
  | proof (dt : Nat) (c : Client) (data : Bytes)
  | sessionOpenTimeout (dt : Nat) (c : Client)
  | close (dt : Nat) (c : Client)
  | sessionIdleTimeout (dt : Nat) (c : Client)
  | proofHoldOffEnd (dt : Nat) (c : Client)
  | nextEvent (dt : Nat) (c : Client)
  | clearLostCount (dt : Nat) (c : Client)
  | applyFastMap (dt : Nat) (c : Client)
  | streamIdleTimeout (dt : Nat)
  | readSnapshotTimeout (dt : Nat) (c : Client)
  | expeditedWrite (dt : Nat) (bus chan : Nat) (fr : Bytes) (fd : Bool)
  | segmentedWriteInitiate (dt : Nat) (bus chan : Nat) (fr : Bytes) (fd : Bool)
  | blockWriteInitiate (dt : Nat) (bus chan : Nat) (fr : Bytes) (fd : Bool)
  | readInitiate (dt : Nat) (bus chan : Nat) (fr : Bytes) (fd : Bool)
  | blockReadInitiate (dt : Nat) (bus chan : Nat) (fr : Bytes) (fd : Bool)
  | segmentedWriteSegment (dt : Nat) (bus chan : Nat) (fr : Bytes) (fd : Bool)
  | blockWriteSegment (dt : Nat) (bus chan : Nat) (fr : Bytes) (fd : Bool)
  | segmentedReadRequest (dt : Nat) (bus chan : Nat) (fr : Bytes) (fd : Bool)
  | blockReadAcknowledgement (dt : Nat) (bus chan : Nat) (fr : Bytes) (fd : Bool)
  | blockReadEndAcknowledgement (dt : Nat) (bus chan : Nat) (fr : Bytes) (fd : Bool)
  | writeEnd (dt : Nat) (bus chan : Nat) (fr : Bytes) (fd : Bool)
  | abort (dt : Nat) (bus chan : Nat) (fr : Bytes) (fd : Bool)
  | transferTimeout (dt : Nat) (bus chan : Nat)
  | wakeDoor (dt : Nat) (levels : List Bool)
  | wakeRf (dt : Nat) (levels : List Bool)
  | canWake (dt : Nat) (bus : Nat) (levels : List Bool)
  | pollDue (dt : Nat)
  | pollAnswerWindowEnd (dt : Nat)
  | pollPhase (dt : Nat)
  | pollingStopped (dt : Nat)
  | muteEnd (dt : Nat)
  | requestTelegram (dt : Nat) (c : Client)
  | telegramStart (dt : Nat)
  | tone (dt : Nat)
  | replyWindowOpen (dt : Nat)
  | stopPolling (dt : Nat) (c : Client)
  | restartPolling (dt : Nat) (c : Client)
  | runDiagnostics (dt : Nat) (c : Client)
  | diagnosisRepeat (dt : Nat) (diag : List Word)
  | driverStatusRecheck (dt : Nat) (status : List Word)
  | rangingStartUp (dt : Nat) (o : FrontEndObs)
  | resynchronise (dt : Nat) (c : Client)
  | feSync (dt : Nat) (inPosition : List Bool)
  | laneDown (dt : Nat) (lane : Nat) (why : LaneLoss)
  | laneUp (dt : Nat) (lane : Nat)
  | preambleDetection (dt : Nat) (lane phase : Nat) (power : Int)
  | sfdTimeout (dt : Nat)
  | frameDelivery (dt : Nat) (f : FrameObs)
  | noiseMeasurement (dt : Nat) (floors : List Int)
  | frontEndTemperatureRead (dt : Nat) (temps : List Int)
  | deferredFrontEndWrite (dt : Nat)
  | frontEndStatusRead (dt : Nat) (fe : Nat) (status : Word)
  | calibrationStart (dt : Nat) (c : Client)
  | calibrationDone (dt : Nat)
  | reply (dt : Nat)
  | macCheckDone (dt : Nat)
  | replyWindowClose (dt : Nat)
  | rowSelect (dt : Nat) (c : Client) (row : Nat)
  | epochEnd (dt : Nat)
  | roundStart (dt : Nat)
  | slotStart (dt : Nat)
  | resp (dt : Nat)
  | report (dt : Nat)
  | roundEnd (dt : Nat)
  | couplingTimeout (dt : Nat)
  | pairPartner (dt : Nat) (c : Client) (id : Bytes)
  | entryStatus (dt : Nat) (c : Client) (entry status : Nat)
  | rotateGroupKey (dt : Nat) (c : Client) (which : Nat)
  | importTractorRecord (dt : Nat) (c : Client) (n : Nat) (data : Bytes)
  | peerChallenge (dt : Nat)
  | peerChallengeReceived (dt : Nat)
  | pollReceived (dt : Nat)
  | finalReceived (dt : Nat)
  | peerSessionTimeout (dt : Nat)
  | zoneMap (dt : Nat) (c : Client) (data : Bytes)
  | unlock (dt : Nat) (src : Source)
  | start (dt : Nat) (src : Source)
  | lock (dt : Nat) (src : Source)
  | cancel (dt : Nat) (src : Source)
  | unlockedNotice (dt : Nat) (src : Source)
  | decisionTimeout (dt : Nat)
  | suspectCleared (dt : Nat)
  | walkAwayLock (dt : Nat)
  | releaseRenewal (dt : Nat)
  | releaseEnded (dt : Nat)
  | engineStateFrame (dt : Nat) (bus : Nat) (f : CanFrame)
  | engineRunning (dt : Nat) (c : Client) (v : Nat)
  | latchEnd (dt : Nat)
  | engineStateStale (dt : Nat)
  | outputReadback (dt : Nat) (seA seB : Bool)
  | releaseMessage (dt : Nat)
  | trustLostMessage (dt : Nat)
  | rebind (dt : Nat)
  | presencePoll (dt : Nat)
  | thermalLevel (dt : Nat)
  | latchResume (dt : Nat)
  | tagPowerOn (dt : Nat) (mv : Nat)
  | tagPowerOff (dt : Nat) (mv : Nat)
  | select (dt : Nat) (q : SelectCmd)
  | query (dt : Nat) (q : QueryCmd)
  | queryAdjust (dt : Nat) (session : Nat) (upDn : Nat)
  | queryRep (dt : Nat) (session : Nat)
  | ack (dt : Nat) (rn : Word)
  | nak (dt : Nat)
  | reqRn (dt : Nat) (rn : Word)
  | read (dt : Nat) (bank ptr count : Nat) (handle : Word)
  | write (dt : Nat) (bank ptr : Nat) (data : Word) (handle : Word) (mv : Nat)
  | blockWrite (dt : Nat) (bank ptr count : Nat) (data : List Word) (handle : Word) (mv : Nat)
  | kill (dt : Nat) (recom : Nat) (half : Word) (handle : Word) (mv : Nat)
  | uhfLock (dt : Nat) (mask action : Nat) (handle : Word)
  | tvSummary (dt : Nat) (ptr count : Nat) (handle : Word)
  | unsupportedUhfCommand (dt : Nat) (bits : List Bool)
  | tagCommit (dt : Nat)
  | reqa (dt : Nat)
  | wupa (dt : Nat)
  | hlta (dt : Nat)
  | anticollision (dt : Nat) (level : Nat) (known : List Bool)
  | hfSelect (dt : Nat) (level : Nat) (uid : Bytes)
  | rats (dt : Nat) (param : Byte)
  | rAck (dt : Nat) (block : Nat)
  | rNak (dt : Nat) (block : Nat)
  | sDeselect (dt : Nat)
  | getSummary (dt : Nat) (inf : Bytes)
  | hfRead (dt : Nat) (inf : Bytes)
  | getCertificate (dt : Nat) (inf : Bytes)
  | windowData (dt : Nat) (c : Client) (data : Bytes)
  | hostTagTimeout (dt : Nat) (c : Client)
  | summaryRefresh (dt : Nat)
  | refreshNow (dt : Nat) (c : Client)
  | killObject (dt : Nat) (c : Client) (pw : Bytes)
  | harvOn (dt : Nat) (mv : Nat)
  | harvOff (dt : Nat) (mv : Nat)
  | harvOverload (dt : Nat)
  | harvRetry (dt : Nat)
  | keyImport (dt : Nat) (c : Client)
  | generate (dt : Nat) (c : Client)
  | erase (dt : Nat) (c : Client)
  | zeroizeNow (dt : Nat) (c : Client)
  | importPlain (dt : Nat) (c : Client)
  | zeroizeAll (dt : Nat) (c : Client)
  | slotSelect (dt : Nat) (c : Client) (slot : Nat)
  | anchorChange (dt : Nat) (c : Client) (data : Bytes)
  | summaryCertificate (dt : Nat) (c : Client) (data : Bytes)
  | ecb (dt : Nat) (c : Client)
  | cbc (dt : Nat) (c : Client)
  | ctr (dt : Nat) (c : Client)
  | gcm (dt : Nat) (c : Client)
  | ccm (dt : Nat) (c : Client)
  | cmac (dt : Nat) (c : Client)
  | jobStart (dt : Nat) (pk : Bool)
  | jobDone (dt : Nat) (core : Nat) (fault : Bool)
  | sign (dt : Nat) (c : Client)
  | verify (dt : Nat) (c : Client)
  | ecdh (dt : Nat) (c : Client)
  | hash (dt : Nat) (c : Client)
  | pkJobDone (dt : Nat) (fault : Bool)
  | outputRead (dt : Nat) (c : Client)
  | hostJobTimeout (dt : Nat) (pk : Bool)
  | blockRelease (dt : Nat) (b : RawBlock)
  | rngRestarted (dt : Nat)
  | randomBytes (dt : Nat) (c : Client)
  | testPattern (dt : Nat) (c : Client) (code : Nat)
  | programComplete (dt : Nat) (failedVerifies : Nat)
  | fenceUp (dt : Nat) (rail mv : Nat)
  | fenceReleased (dt : Nat)
  | increment (dt : Nat) (c : Client) (counter amount : Nat)
  | nandOperationDone (dt : Nat) (status : Byte)
  | nandTimeout (dt : Nat)
  | mediumRetry (dt : Nat) (id : Bytes)
  | flushInterval (dt : Nat)
  | checkpoint (dt : Nat)
  | format (dt : Nat) (c : Client) (bad : List Nat)
  | requestExport (dt : Nat) (c : Client)
  | journalReady (dt : Nat) (o : JournalObs)
  | timerMatch (dt : Nat) (n : Nat)
  | timerOverflow (dt : Nat) (n : Nat)
  | compare (dt : Nat) (c : Client) (n : Nat) (v : Nat) (tickClock : Bool)
  | timerStart (dt : Nat) (c : Client) (n : Nat)
  | timerStop (dt : Nat) (c : Client) (n : Nat)
  | timerReset (dt : Nat) (c : Client) (n : Nat)
  | timerRestart (dt : Nat) (c : Client) (n : Nat)
  | groupStart (dt : Nat) (c : Client) (mask : Nat)
  | groupStop (dt : Nat) (c : Client) (mask : Nat)
  | groupReset (dt : Nat) (c : Client) (mask : Nat)
  | capture (dt : Nat) (n : Nat) (latchClock : Bool)
  | captureTrigger (dt : Nat) (c : Client) (n : Nat)
  | timerClear (dt : Nat) (c : Client) (n mask : Nat)
  | msPulse (dt : Nat)
  | speedUpdate (dt : Nat)
  | sessionReq (dt : Nat)
  | sessionResp (dt : Nat) (fr : Bytes)
  | dataReq (dt : Nat)
  | dataResp (dt : Nat) (fr : Bytes)
  | parkedPulse (dt : Nat) (levels : List Bool)
  | nmeaSentence (dt : Nat) (chars : Bytes)
  | gnPps (dt : Nat)
  | ppsTimeout (dt : Nat)
  | schedulerTest (dt : Nat)
  | clearTamperFlags (dt : Nat) (c : Client) (mask : Nat)
  | frameReceived (dt : Nat) (bus : Nat) (f : CanFrame) (latchClock : Bool)
  | nextRecord (dt : Nat) (c : Client) (bus : Nat)
  | highPriorityRecord (dt : Nat) (c : Client) (bus : Nat)
  | clearOverrun (dt : Nat) (c : Client) (bus : Nat)
  | txRequest (dt : Nat) (c : Client) (bus b : Nat)
  | txAbort (dt : Nat) (c : Client) (bus b : Nat)
  | txChoice (dt : Nat) (bus : Nat)
  | frameEnd (dt : Nat) (bus : Nat) (o : FrameOutcome)
  | recoveryDelay (dt : Nat) (bus : Nat)
  | recover (dt : Nat) (c : Client) (bus : Nat)
  | busRecovered (dt : Nat) (bus : Nat)
  | integrated (dt : Nat) (bus : Nat)
  | canClockRc (dt : Nat) (bus : Nat)
  | ref (dt : Nat)
  | refReceived (dt : Nat) (f : CanFrame)
  | epochReceived (dt : Nat) (f : CanFrame)
  | masterTaken (dt : Nat)
  | refTimeout (dt : Nat)
  | powerOnReset (dt : Nat)
  | railReset (dt : Nat) (rail mv : Nat)
  | externalReset (dt : Nat) (lowNs : Nat)
  | resetNow (dt : Nat) (c : Client)
  | deferredReset (dt : Nat)
  | coldStart (dt : Nat) (o : BootObs)
  | vddSerLow (dt : Nat) (mv : Nat)
  | vddSerRecovered (dt : Nat) (mv : Nat)
  | clockLost (dt : Nat)
  | clockRestored (dt : Nat)
  | pllLockLost (dt : Nat) (pll : Pll)
  | pllRelock (dt : Nat) (pll : Pll)
  | rcTrim (dt : Nat) (code : Nat)
  | temperature (dt : Nat) (sensors : List Int)
  | thermalReset (dt : Nat) (sensors : List Int)
  | glitch (dt : Nat) (supply clock : Bool)
  | parkRequest (dt : Nat) (c : Client)
  | parkOnIdle (dt : Nat)
  | parkingComplete (dt : Nat)
  | hostUngate (dt : Nat)
  | watchdogExpiry (dt : Nat) (g : CoreGroup)
  | lockstepMismatch (dt : Nat) (vehicle : Bool)
  | faultEnded (dt : Nat) (src : Nat)
  | clearSummary (dt : Nat) (c : Client) (uid : Nat)
  | clearSource (dt : Nat) (c : Client) (code : Nat)
  | nextFaultEntry (dt : Nat) (c : Client)
  | trialConfirmed (dt : Nat)
  | meshCheck (dt : Nat) (good : Bool)
  | loopSample (dt : Nat) (good : Bool)
  | lidDetection (dt : Nat) (level : Bool) (heldNs : Nat)
  | clearLatches (dt : Nat) (c : Client) (mask : Nat)
  | advanceIntegration (dt : Nat) (c : Client)
  | advanceField (dt : Nat) (c : Client)
  | advanceReturned (dt : Nat) (c : Client)
  | updateBegin (dt : Nat) (c : Client)
  | chunk (dt : Nat) (c : Client) (data : Bytes)
  | updateVerify (dt : Nat) (c : Client)
  | activate (dt : Nat) (c : Client)
  | groupPollEnd (dt : Nat)
  | hfFieldLoss (dt : Nat)
  | hfUnknownCommand (dt : Nat) (inf : Bytes)
  | canReceiveError (dt : Nat) (bus : Nat) (code : Nat) (dataPhase : Bool)
  | conservativeCompactionDue (dt : Nat)
  deriving DecidableEq, Repr

end Sys2Proof
end

