-- ==== Sys2Proof/Config.lean ====
section
/-! DEFINITION. What an implementation fixes and the free values: constants without a body, of which no proof knows more than their type. -/

namespace Sys2Proof.Config

open Sys2Proof

/-- The value a unit under an abruptly cut program phase reads as at the next start (R354): 0 old, 1 new, anything else uncorrectable.
It is taken at a fresh index each time (log entry 4). -/
opaque tornRead : Nat → Nat

/-- Bits that the tag draws where the manual names no source for them: slot counters and RN16 values of the inventory (log entry 4). -/
opaque tagDraw : Nat → Nat

/-- Where in the 119 to 127 that ISO 11898-1 allows the receive error count falls after a good frame (log entry 4). -/
opaque recAfter : Nat → Nat

/-- Usage bits of a slot that an ECDH job has written (R310), of which the manual names none (log entry 4). -/
opaque ecdhUsage : Nat → Nat

/-- Whether a slot that an ECDH job has written is persistent (R310), which the manual leaves open (log entry 4). -/
opaque ecdhPersistent : Nat → Bool

/-- The P-384 public key that the boot ROM holds (R472), uncompressed. -/
opaque romKey : Bytes

/-- The device-unique hardware key of R316. -/
opaque hardwareKey : Bytes

/-- The wafer-level serial of the device before FACTORY writes one (R18). -/
opaque deviceSerial : Bytes

/-- 20 log10(0) of R212, for a tone whose current code is 0, in 1/256 dB (log entry 4). -/
opaque logOfZero : Int

/-- The direction, in 2^-30, of the point of the range sphere nearest to its own centre (R214), which the manual leaves open (log entry 4). -/
opaque sphereDirection : Int × (Int × Int)

/-- The vehicle identifier that the trust group writes at the first pairing (R18), of which the manual gives no source (log entry 4). -/
opaque vehicleIdentifier : Nat

/-- Time of the last fusion in us (R251), of which the manual gives no value (log entry 4). -/
opaque fusionTime : Nat → Nat

/-- The ReRAM page, in bits 16 to 0, and unit, in bits 18 and 17, that backs 16 bytes of a tag bank (R376), given as 4096 times the bank code
plus the 16 bytes' number: the manual lays out no addresses in the tag memory backing (log entry 4). -/
opaque tagCell : Nat → Nat

/-- The HF UID (R268), which the factory writes. -/
opaque hfUid : Bytes

/-- The mask designer identifier of the TID header (R259), which the factory writes. -/
opaque maskDesigner : Nat

/-- Whether an inventoried or SL flag survives a time for which the standard of R264 leaves it open (log entry 4). -/
opaque flagKept : Nat → Bool

end Sys2Proof.Config
end

