-- ==== Sys2Proof/Machine/Bits.lean ====
section
/-! DEFINITION. Byte strings and numbers: byte orders (R35), check sequences (R50, R87, R203), saturating counters, and sorted lists by key. -/

namespace Sys2Proof.Machine

open Sys2Proof

/-- The n-byte little-endian string of a number (R35). -/
def leBytes : Nat → Nat → Bytes
  | 0, _ => []
  | n + 1, v => BitVec.ofNat 8 v :: leBytes n (v / 256)

/-- The number of a little-endian string (R35). -/
def leNat : Bytes → Nat
  | [] => 0
  | b :: r => b.toNat + 256 * leNat r

/-- The n-byte big-endian string of a number. -/
def beBytes (n v : Nat) : Bytes := (leBytes n v).reverse

/-- The number of a big-endian string. -/
def beNat (b : Bytes) : Nat := b.foldl (fun a x => a * 256 + x.toNat) 0

/-- A byte of a number. -/
def byte (v : Nat) : Byte := BitVec.ofNat 8 v

/-- ASCII bytes of a string. -/
def ascii (s : String) : Bytes := s.toList.map (fun c => byte c.toNat)

/-- A string cut or zero-padded at its end to n bytes. -/
def padTo (n : Nat) (b : Bytes) : Bytes := b.take n ++ List.replicate (n - b.length) 0

/-- Bytes off to off + n of a string. -/
def slice (off n : Nat) (b : Bytes) : Bytes := (b.drop off).take n

/-- Bit n of a number. -/
def bit (v n : Nat) : Bool := v.testBit n

/-- The field [hi:lo] of a number. -/
def field (v hi lo : Nat) : Nat := (v >>> lo) % 2 ^ (hi + 1 - lo)

/-- 0 or 1. -/
def b2n (b : Bool) : Nat := if b then 1 else 0

/-- A counter of w bits that saturates (R46 and the counters of every chapter). -/
def satAdd (w a b : Nat) : Nat := min (a + b) (2 ^ w - 1)

/-- The two's complement of an integer in w bits. -/
def twos (w : Nat) (v : Int) : Nat := (v % (2 ^ w : Nat)).toNat

/-- The integer of a two's complement number of w bits. -/
def untwos (w v : Nat) : Int := if v < 2 ^ (w - 1) then v else (v : Int) - (2 ^ w : Nat)

/-- An integer kept inside a signed field of w bits. -/
def clampI (w : Nat) (v : Int) : Int := max (-(2 ^ (w - 1) : Nat)) (min v ((2 ^ (w - 1) : Nat) - 1))

/-- Bits of a byte string in the order sent, most significant bit first. -/
def bitsOf (b : Bytes) : List Bool := b.flatMap (fun x => (List.range 8).map (fun k => x.toNat.testBit (7 - k)))

/-- The number of a bit string, first bit most significant. -/
def natOfBits (l : List Bool) : Nat := l.foldl (fun a x => 2 * a + b2n x) 0

/-- A check sequence of w bits over a bit string, without reflection and without a final XOR (R50, R87). -/
def crcBits (w poly : Nat) (start : Nat) (l : List Bool) : Nat :=
  l.foldl (fun c x =>
    let t := (c >>> (w - 1)) % 2
    let s := (c * 2) % 2 ^ w
    if t = b2n x then s else s ^^^ poly) start

/-- The CRC-16 of R50 and R87 over a byte string. -/
def crc16 (b : Bytes) : Nat := crcBits 16 0x1021 0xFFFF (bitsOf b)

/-- The CRC-8 of R87 over a byte string. -/
def crc8 (b : Bytes) : Nat := crcBits 8 0x2F 0xFF (bitsOf b)

/-- One step of the reflected CRC-32. -/
def crc32Step (c : Nat) : Nat := if c % 2 = 1 then (c / 2) ^^^ 0xEDB88320 else c / 2

/-- The CRC-32 of IEEE 802.3 (R203). -/
def crc32 (b : Bytes) : Nat :=
  (b.foldl (fun c x => crc32Step (crc32Step (crc32Step (crc32Step (crc32Step (crc32Step (crc32Step (crc32Step
    (c ^^^ x.toNat))))))))) 0xFFFFFFFF) ^^^ 0xFFFFFFFF

/-- Integer square root, rounded down. -/
def isqrtGo : Nat → Nat → Nat → Nat
  | 0, _, r => r
  | f + 1, n, r =>
    let t := r + 2 ^ f
    if t * t ≤ n then isqrtGo f n t else isqrtGo f n r

/-- Integer square root of a number below 2^128, rounded down. -/
def isqrt (n : Nat) : Nat := isqrtGo 64 n 0

/-- A quotient rounded to the nearest whole number, halves up. -/
def divRound (a b : Nat) : Nat := if b = 0 then 0 else (2 * a + b) / (2 * b)

/-- A quotient of integers rounded to the nearest whole number, halves away from 0. -/
def divRoundI (a : Int) (b : Nat) : Int :=
  if a < 0 then -((divRound a.natAbs b : Nat) : Int) else (divRound a.natAbs b : Nat)

/-- The value under a key in a list by key. -/
def kvGet? {α : Type} : List (Nat × α) → Nat → Option α
  | [], _ => none
  | (k', v) :: r, k => if k = k' then some v else kvGet? r k

/-- The value under a key, or a default. -/
def kvGet {α : Type} (d : α) (l : List (Nat × α)) (k : Nat) : α := (kvGet? l k).getD d

/-- Removes a key. -/
def kvDel {α : Type} (l : List (Nat × α)) (k : Nat) : List (Nat × α) := l.filter (fun e => e.1 != k)

/-- Puts a value under a key and keeps the keys rising. -/
def kvPut {α : Type} : List (Nat × α) → Nat → α → List (Nat × α)
  | [], k, v => [(k, v)]
  | (k', v') :: r, k, v =>
    if k < k' then (k, v) :: (k', v') :: r
    else if k = k' then (k, v) :: r
    else (k', v') :: kvPut r k v

/-- Puts a value under a key, or removes the key where the value is the one an unlisted key stands for. -/
def kvSet {α : Type} [DecidableEq α] (d : α) (l : List (Nat × α)) (k : Nat) (v : α) : List (Nat × α) :=
  if v = d then kvDel l k else kvPut l k v

/-- The keys of a list rise strictly. -/
def kvSorted {α : Type} : List (Nat × α) → Bool
  | [] => true
  | [_] => true
  | (k, _) :: (k', v') :: r => decide (k < k') && kvSorted ((k', v') :: r)

/-- Replaces the n-th member of a list. -/
def setAt {α : Type} (l : List α) (n : Nat) (v : α) : List α := l.set n v

/-- The n-th member of a list, or a default. -/
def nth {α : Type} (d : α) (l : List α) (n : Nat) : α := l.getD n d

/-- Cuts a list into runs of n; the first argument bounds the number of runs. -/
def chunks {α : Type} : Nat → Nat → List α → List (List α)
  | 0, _, _ => []
  | f + 1, n, l => if l.isEmpty then [] else l.take n :: chunks f n (l.drop n)

end Sys2Proof.Machine
end

