-- ==== Sys2Proof/Machine/Crypto.lean ====
section
/-! DEFINITION. The symmetric ciphers and hashes that the manual names: AES (FIPS 197) in its modes, AES-CMAC, the counter-mode KDF
of R42 and R159, GCM, CCM, and the SHA-2 family. Numbers stand for words; every operation reduces its result to its width. -/

namespace Sys2Proof.Machine

open Sys2Proof

/-- Round constants of SHA-384 and SHA-512; their high halves are those of SHA-256. -/
def sha512K : List Nat :=
  [0x428A2F98D728AE22, 0x7137449123EF65CD, 0xB5C0FBCFEC4D3B2F, 0xE9B5DBA58189DBBC, 0x3956C25BF348B538, 0x59F111F1B605D019, 0x923F82A4AF194F9B, 0xAB1C5ED5DA6D8118,
    0xD807AA98A3030242, 0x12835B0145706FBE, 0x243185BE4EE4B28C, 0x550C7DC3D5FFB4E2, 0x72BE5D74F27B896F, 0x80DEB1FE3B1696B1, 0x9BDC06A725C71235, 0xC19BF174CF692694,
    0xE49B69C19EF14AD2, 0xEFBE4786384F25E3, 0x0FC19DC68B8CD5B5, 0x240CA1CC77AC9C65] ++
  [0x2DE92C6F592B0275, 0x4A7484AA6EA6E483, 0x5CB0A9DCBD41FBD4, 0x76F988DA831153B5, 0x983E5152EE66DFAB, 0xA831C66D2DB43210, 0xB00327C898FB213F, 0xBF597FC7BEEF0EE4,
    0xC6E00BF33DA88FC2, 0xD5A79147930AA725, 0x06CA6351E003826F, 0x142929670A0E6E70, 0x27B70A8546D22FFC, 0x2E1B21385C26C926, 0x4D2C6DFC5AC42AED, 0x53380D139D95B3DF,
    0x650A73548BAF63DE, 0x766A0ABB3C77B2A8, 0x81C2C92E47EDAEE6, 0x92722C851482353B] ++
  [0xA2BFE8A14CF10364, 0xA81A664BBC423001, 0xC24B8B70D0F89791, 0xC76C51A30654BE30, 0xD192E819D6EF5218, 0xD69906245565A910, 0xF40E35855771202A, 0x106AA07032BBD1B8,
    0x19A4C116B8D2D0C8, 0x1E376C085141AB53, 0x2748774CDF8EEB99, 0x34B0BCB5E19B48A8, 0x391C0CB3C5C95A63, 0x4ED8AA4AE3418ACB, 0x5B9CCA4F7763E373, 0x682E6FF3D6B2B8A3,
    0x748F82EE5DEFB2FC, 0x78A5636F43172F60, 0x84C87814A1F0AB72, 0x8CC702081A6439EC] ++
  [0x90BEFFFA23631E28, 0xA4506CEBDE82BDE9, 0xBEF9A3F7B2C67915, 0xC67178F2E372532B, 0xCA273ECEEA26619C, 0xD186B8C721C0C207, 0xEADA7DD6CDE0EB1E, 0xF57D4F7FEE6ED178,
    0x06F067AA72176FBA, 0x0A637DC5A2C898A6, 0x113F9804BEF90DAE, 0x1B710B35131C471B, 0x28DB77F523047D84, 0x32CAAB7B40C72493, 0x3C9EBE0A15C9BEBC, 0x431D67C49C100D4C,
    0x4CC5D4BECB3E42B6, 0x597F299CFC657E2A, 0x5FCB6FAB3AD6FAEC, 0x6C44198C4A475817]

/-- Initial value of SHA-512; its high halves are those of SHA-256. -/
def sha512Init : List Nat :=
  [0x6A09E667F3BCC908, 0xBB67AE8584CAA73B, 0x3C6EF372FE94F82B, 0xA54FF53A5F1D36F1, 0x510E527FADE682D1, 0x9B05688C2B3E6C1F, 0x1F83D9ABFB41BD6B, 0x5BE0CD19137E2179]

/-- Initial value of SHA-384. -/
def sha384Init : List Nat :=
  [0xCBBB9D5DC1059ED8, 0x629A292A367CD507, 0x9159015A3070DD17, 0x152FECD8F70E5939, 0x67332667FFC00B31, 0x8EB44A8768581511, 0xDB0C2E0D64F98FA7, 0x47B5481DBEFA4FA4]

/-- The AES substitution table of FIPS 197. -/
def aesSbox : List Nat :=
  [0x63, 0x7C, 0x77, 0x7B, 0xF2, 0x6B, 0x6F, 0xC5,
    0x30, 0x01, 0x67, 0x2B, 0xFE, 0xD7, 0xAB, 0x76,
    0xCA, 0x82, 0xC9, 0x7D, 0xFA, 0x59, 0x47, 0xF0,
    0xAD, 0xD4, 0xA2, 0xAF, 0x9C, 0xA4, 0x72, 0xC0,
    0xB7, 0xFD, 0x93, 0x26, 0x36, 0x3F, 0xF7, 0xCC,
    0x34, 0xA5, 0xE5, 0xF1, 0x71, 0xD8, 0x31, 0x15,
    0x04, 0xC7, 0x23, 0xC3, 0x18, 0x96, 0x05, 0x9A,
    0x07, 0x12, 0x80, 0xE2, 0xEB, 0x27, 0xB2, 0x75] ++
  [0x09, 0x83, 0x2C, 0x1A, 0x1B, 0x6E, 0x5A, 0xA0,
    0x52, 0x3B, 0xD6, 0xB3, 0x29, 0xE3, 0x2F, 0x84,
    0x53, 0xD1, 0x00, 0xED, 0x20, 0xFC, 0xB1, 0x5B,
    0x6A, 0xCB, 0xBE, 0x39, 0x4A, 0x4C, 0x58, 0xCF,
    0xD0, 0xEF, 0xAA, 0xFB, 0x43, 0x4D, 0x33, 0x85,
    0x45, 0xF9, 0x02, 0x7F, 0x50, 0x3C, 0x9F, 0xA8,
    0x51, 0xA3, 0x40, 0x8F, 0x92, 0x9D, 0x38, 0xF5,
    0xBC, 0xB6, 0xDA, 0x21, 0x10, 0xFF, 0xF3, 0xD2] ++
  [0xCD, 0x0C, 0x13, 0xEC, 0x5F, 0x97, 0x44, 0x17,
    0xC4, 0xA7, 0x7E, 0x3D, 0x64, 0x5D, 0x19, 0x73,
    0x60, 0x81, 0x4F, 0xDC, 0x22, 0x2A, 0x90, 0x88,
    0x46, 0xEE, 0xB8, 0x14, 0xDE, 0x5E, 0x0B, 0xDB,
    0xE0, 0x32, 0x3A, 0x0A, 0x49, 0x06, 0x24, 0x5C,
    0xC2, 0xD3, 0xAC, 0x62, 0x91, 0x95, 0xE4, 0x79,
    0xE7, 0xC8, 0x37, 0x6D, 0x8D, 0xD5, 0x4E, 0xA9,
    0x6C, 0x56, 0xF4, 0xEA, 0x65, 0x7A, 0xAE, 0x08] ++
  [0xBA, 0x78, 0x25, 0x2E, 0x1C, 0xA6, 0xB4, 0xC6,
    0xE8, 0xDD, 0x74, 0x1F, 0x4B, 0xBD, 0x8B, 0x8A,
    0x70, 0x3E, 0xB5, 0x66, 0x48, 0x03, 0xF6, 0x0E,
    0x61, 0x35, 0x57, 0xB9, 0x86, 0xC1, 0x1D, 0x9E,
    0xE1, 0xF8, 0x98, 0x11, 0x69, 0xD9, 0x8E, 0x94,
    0x9B, 0x1E, 0x87, 0xE9, 0xCE, 0x55, 0x28, 0xDF,
    0x8C, 0xA1, 0x89, 0x0D, 0xBF, 0xE6, 0x42, 0x68,
    0x41, 0x99, 0x2D, 0x0F, 0xB0, 0x54, 0xBB, 0x16]

/-- Its inverse. -/
def aesInvSbox : List Nat :=
  [0x52, 0x09, 0x6A, 0xD5, 0x30, 0x36, 0xA5, 0x38,
    0xBF, 0x40, 0xA3, 0x9E, 0x81, 0xF3, 0xD7, 0xFB,
    0x7C, 0xE3, 0x39, 0x82, 0x9B, 0x2F, 0xFF, 0x87,
    0x34, 0x8E, 0x43, 0x44, 0xC4, 0xDE, 0xE9, 0xCB,
    0x54, 0x7B, 0x94, 0x32, 0xA6, 0xC2, 0x23, 0x3D,
    0xEE, 0x4C, 0x95, 0x0B, 0x42, 0xFA, 0xC3, 0x4E,
    0x08, 0x2E, 0xA1, 0x66, 0x28, 0xD9, 0x24, 0xB2,
    0x76, 0x5B, 0xA2, 0x49, 0x6D, 0x8B, 0xD1, 0x25] ++
  [0x72, 0xF8, 0xF6, 0x64, 0x86, 0x68, 0x98, 0x16,
    0xD4, 0xA4, 0x5C, 0xCC, 0x5D, 0x65, 0xB6, 0x92,
    0x6C, 0x70, 0x48, 0x50, 0xFD, 0xED, 0xB9, 0xDA,
    0x5E, 0x15, 0x46, 0x57, 0xA7, 0x8D, 0x9D, 0x84,
    0x90, 0xD8, 0xAB, 0x00, 0x8C, 0xBC, 0xD3, 0x0A,
    0xF7, 0xE4, 0x58, 0x05, 0xB8, 0xB3, 0x45, 0x06,
    0xD0, 0x2C, 0x1E, 0x8F, 0xCA, 0x3F, 0x0F, 0x02,
    0xC1, 0xAF, 0xBD, 0x03, 0x01, 0x13, 0x8A, 0x6B] ++
  [0x3A, 0x91, 0x11, 0x41, 0x4F, 0x67, 0xDC, 0xEA,
    0x97, 0xF2, 0xCF, 0xCE, 0xF0, 0xB4, 0xE6, 0x73,
    0x96, 0xAC, 0x74, 0x22, 0xE7, 0xAD, 0x35, 0x85,
    0xE2, 0xF9, 0x37, 0xE8, 0x1C, 0x75, 0xDF, 0x6E,
    0x47, 0xF1, 0x1A, 0x71, 0x1D, 0x29, 0xC5, 0x89,
    0x6F, 0xB7, 0x62, 0x0E, 0xAA, 0x18, 0xBE, 0x1B,
    0xFC, 0x56, 0x3E, 0x4B, 0xC6, 0xD2, 0x79, 0x20,
    0x9A, 0xDB, 0xC0, 0xFE, 0x78, 0xCD, 0x5A, 0xF4] ++
  [0x1F, 0xDD, 0xA8, 0x33, 0x88, 0x07, 0xC7, 0x31,
    0xB1, 0x12, 0x10, 0x59, 0x27, 0x80, 0xEC, 0x5F,
    0x60, 0x51, 0x7F, 0xA9, 0x19, 0xB5, 0x4A, 0x0D,
    0x2D, 0xE5, 0x7A, 0x9F, 0x93, 0xC9, 0x9C, 0xEF,
    0xA0, 0xE0, 0x3B, 0x4D, 0xAE, 0x2A, 0xF5, 0xB0,
    0xC8, 0xEB, 0xBB, 0x3C, 0x83, 0x53, 0x99, 0x61,
    0x17, 0x2B, 0x04, 0x7E, 0xBA, 0x77, 0xD6, 0x26,
    0xE1, 0x69, 0x14, 0x63, 0x55, 0x21, 0x0C, 0x7D]

/-- Rotation to the right in a word of w bits. -/
def rotr (w x n : Nat) : Nat := ((x >>> n) ||| (x <<< (w - n))) % 2 ^ w

/-- The complement of a word of w bits. -/
def cpl (w x : Nat) : Nat := (2 ^ w - 1) ^^^ x

/-- Rotation and shift amounts of a SHA-2 function: big sigma 0, big sigma 1, small sigma 0, small sigma 1. -/
structure ShaParams where
  /-- word width -/
  w : Nat
  /-- rounds -/
  rounds : Nat
  /-- the twelve amounts in order -/
  r : List Nat

/-- SHA-256. -/
def sha256P : ShaParams := { w := 32, rounds := 64, r := [2, 13, 22, 6, 11, 25, 7, 18, 3, 17, 19, 10] }

/-- SHA-384 and SHA-512. -/
def sha512P : ShaParams := { w := 64, rounds := 80, r := [28, 34, 39, 14, 18, 41, 1, 8, 7, 19, 61, 6] }

/-- The message schedule, newest word first. -/
def shaSchedule (p : ShaParams) : Nat → List Nat → List Nat
  | 0, l => l
  | f + 1, l =>
    let x := l.getD 14 0
    let y := l.getD 1 0
    let s0 := rotr p.w x (p.r.getD 6 0) ^^^ rotr p.w x (p.r.getD 7 0) ^^^ (x >>> p.r.getD 8 0)
    let s1 := rotr p.w y (p.r.getD 9 0) ^^^ rotr p.w y (p.r.getD 10 0) ^^^ (y >>> p.r.getD 11 0)
    shaSchedule p f (((l.getD 15 0 + s0 + l.getD 6 0 + s1) % 2 ^ p.w) :: l)

/-- One round. -/
def shaRound (p : ShaParams) (v : List Nat) (k : Nat) : List Nat :=
  match v with
  | [a, b, c, d, e, f, g, h] =>
    let s1 := rotr p.w e (p.r.getD 3 0) ^^^ rotr p.w e (p.r.getD 4 0) ^^^ rotr p.w e (p.r.getD 5 0)
    let ch := (e &&& f) ^^^ (cpl p.w e &&& g)
    let t1 := h + s1 + ch + k
    let s0 := rotr p.w a (p.r.getD 0 0) ^^^ rotr p.w a (p.r.getD 1 0) ^^^ rotr p.w a (p.r.getD 2 0)
    let mj := (a &&& b) ^^^ (a &&& c) ^^^ (b &&& c)
    [(t1 + s0 + mj) % 2 ^ p.w, a, b, c, (d + t1) % 2 ^ p.w, e, f, g]
  | _ => v

/-- The compression of one block. -/
def shaBlock (p : ShaParams) (h : List Nat) (blk : Bytes) : List Nat :=
  let ws := (chunks 16 (p.w / 8) blk).map beNat
  let sched := (shaSchedule p (p.rounds - 16) ws.reverse).reverse
  let ks := if p.w = 32 then sha512K.map (fun k => k >>> 32) else sha512K
  let v := (sched.zip ks).foldl (fun v q => shaRound p v (q.1 + q.2)) h
  (h.zip v).map (fun q => (q.1 + q.2) % 2 ^ p.w)

/-- The padded message. -/
def shaPad (p : ShaParams) (m : Bytes) : Bytes :=
  let bl := 2 * p.w
  let z := (2 * bl - 1 - p.w / 4 - m.length % bl) % bl
  m ++ [0x80] ++ List.replicate z 0 ++ beBytes (p.w / 4) (8 * m.length)

/-- A SHA-2 digest. -/
def shaRun (p : ShaParams) (init : List Nat) (m : Bytes) : Bytes :=
  let padded := shaPad p m
  ((chunks (padded.length + 1) (2 * p.w) padded).foldl (shaBlock p) init).flatMap (beBytes (p.w / 8))

/-- SHA-256. -/
def sha256 (m : Bytes) : Bytes := shaRun sha256P (sha512Init.map (fun h => h >>> 32)) m

/-- SHA-384. -/
def sha384 (m : Bytes) : Bytes := (shaRun sha512P sha384Init m).take 48

/-- SHA-512. -/
def sha512 (m : Bytes) : Bytes := shaRun sha512P sha512Init m

/-- HMAC over a SHA-2 hash of block length bl. -/
def hmac (hash : Bytes → Bytes) (bl : Nat) (key msg : Bytes) : Bytes :=
  let k := padTo bl (if key.length > bl then hash key else key)
  hash (k.map (fun b => b ^^^ 0x5C) ++ hash (k.map (fun b => b ^^^ 0x36) ++ msg))

/-- Multiplication by x in the AES field. -/
def xtime (a : Nat) : Nat := if a < 128 then 2 * a else (2 * a ^^^ 0x11B) % 256

/-- Multiplication in the AES field. -/
def gmul (a b : Nat) : Nat :=
  (List.range 8).foldl (fun acc i => acc ^^^ (if b.testBit i then (List.range i).foldl (fun x _ => xtime x) a else 0)) 0

/-- The exclusive-or of two byte strings, as long as the shorter. -/
def xorBytes (a b : Bytes) : Bytes := (a.zip b).map (fun q => q.1 ^^^ q.2)

/-- The AES key schedule as 4-byte words, newest first. -/
def aesExpand (nk : Nat) : Nat → Nat → Nat → List (List Nat) → List (List Nat)
  | 0, _, _, l => l
  | f + 1, i, rc, l =>
    let t := l.headD [0, 0, 0, 0]
    let back := l.getD (nk - 1) [0, 0, 0, 0]
    let sub := fun (x : List Nat) => x.map (fun b => aesSbox.getD b 0)
    let t' :=
      if i % nk = 0 then
        match sub (t.drop 1 ++ t.take 1) with
        | a :: r => (a ^^^ rc) :: r
        | [] => []
      else if nk > 6 && i % nk == 4 then sub t else t
    aesExpand nk f (i + 1) (if i % nk = 0 then xtime rc else rc) ((t'.zip back).map (fun q => q.1 ^^^ q.2) :: l)

/-- The round keys, each 16 bytes. -/
def aesKeys (key : Bytes) : List (List Nat) :=
  let nk := key.length / 4
  let ws := chunks nk 4 (key.map (·.toNat))
  chunks 15 16 ((aesExpand nk (4 * (nk + 7) - nk) nk 1 ws.reverse).reverse.flatten)

/-- ShiftRows by columns: byte i of the result comes from this place. -/
def shiftRows (s : List Nat) : List Nat := (List.range 16).map (fun i => s.getD ((i + 4 * (i % 4)) % 16) 0)

/-- The inverse of ShiftRows. -/
def invShiftRows (s : List Nat) : List Nat := (List.range 16).map (fun i => s.getD ((i + 12 * (i % 4)) % 16) 0)

/-- MixColumns with the given first row of its matrix. -/
def mixWith (m : List Nat) (s : List Nat) : List Nat :=
  (List.range 16).map (fun i =>
    let c := 4 * (i / 4)
    (List.range 4).foldl (fun acc j => acc ^^^ gmul (s.getD (c + j) 0) (m.getD ((j + 4 - i % 4) % 4) 0)) 0)

/-- AddRoundKey. -/
def addKey (s k : List Nat) : List Nat := (s.zip k).map (fun q => q.1 ^^^ q.2)

/-- AES encryption of one block with expanded keys. -/
def aesEncK (ks : List (List Nat)) (blk : Bytes) : Bytes :=
  let s0 := addKey (blk.map (·.toNat)) (ks.headD [])
  let mid := (ks.drop 1).dropLast
  let s1 := mid.foldl (fun s k => addKey (mixWith [2, 3, 1, 1] (shiftRows (s.map (fun b => aesSbox.getD b 0)))) k) s0
  (addKey (shiftRows (s1.map (fun b => aesSbox.getD b 0))) (ks.getLastD [])).map byte

/-- AES decryption of one block with expanded keys. -/
def aesDecK (ks : List (List Nat)) (blk : Bytes) : Bytes :=
  let s0 := addKey (blk.map (·.toNat)) (ks.getLastD [])
  let mid := ((ks.drop 1).dropLast).reverse
  let s1 := mid.foldl (fun s k => mixWith [14, 11, 13, 9] (addKey ((invShiftRows s).map (fun b => aesInvSbox.getD b 0)) k)) s0
  (addKey ((invShiftRows s1).map (fun b => aesInvSbox.getD b 0)) (ks.headD [])).map byte

/-- AES encryption of one block. -/
def aesEnc (key blk : Bytes) : Bytes := aesEncK (aesKeys key) blk

/-- 16-byte blocks of a string, the last one as short as it is. -/
def blocks (m : Bytes) : List Bytes := chunks (m.length + 1) 16 m

/-- Doubling in the field of CMAC. -/
def cmacDouble (b : Bytes) : Bytes :=
  let v := beNat b
  beBytes 16 ((2 * v ^^^ (if v ≥ 2 ^ 127 then 0x87 else 0)) % 2 ^ 128)

/-- AES-CMAC. -/
def cmac (key m : Bytes) : Bytes :=
  let ks := aesKeys key
  let k1 := cmacDouble (aesEncK ks (List.replicate 16 0))
  let full := m.length ≠ 0 && m.length % 16 == 0
  let cut := if full then m.length - 16 else m.length - m.length % 16
  let last := if full then xorBytes (m.drop cut) k1 else xorBytes (padTo 16 (m.drop cut ++ [0x80])) (cmacDouble k1)
  let x := (blocks (m.take cut)).foldl (fun x b => aesEncK ks (xorBytes x b)) (List.replicate 16 0)
  aesEncK ks (xorBytes x last)

/-- The counter-mode KDF of R42 and R159 with output length l in bits. -/
def kdf (key label ctx : Bytes) (l : Nat) : Bytes :=
  ((List.range ((l + 127) / 128)).flatMap (fun i =>
    cmac key (beBytes 4 (i + 1) ++ label ++ [0] ++ ctx ++ beBytes 4 l))).take (l / 8)

/-- The block with its low w bits, read big-endian, increased by n. -/
def incBlock (w n : Nat) (b : Bytes) : Bytes :=
  let v := beNat b
  beBytes 16 (v / 2 ^ w * 2 ^ w + (v + n) % 2 ^ w)

/-- Counter mode from the given first counter block, counter field of w bits. -/
def ctrMode (w : Nat) (key ctr m : Bytes) : Bytes :=
  let ks := aesKeys key
  ((blocks m).zipIdx).flatMap (fun q => xorBytes q.1 (aesEncK ks (incBlock w q.2 ctr)))

/-- ECB over whole blocks. -/
def ecbEnc (key m : Bytes) : Bytes := (blocks m).flatMap (aesEncK (aesKeys key))

/-- ECB decryption. -/
def ecbDec (key m : Bytes) : Bytes := (blocks m).flatMap (aesDecK (aesKeys key))

/-- CBC over whole blocks. -/
def cbcEnc (key iv m : Bytes) : Bytes :=
  let ks := aesKeys key
  ((blocks m).foldl (fun (acc : Bytes × Bytes) b =>
    let c := aesEncK ks (xorBytes acc.1 b)
    (c, acc.2 ++ c)) (iv, [])).2

/-- CBC decryption. -/
def cbcDec (key iv m : Bytes) : Bytes :=
  let ks := aesKeys key
  ((blocks m).foldl (fun (acc : Bytes × Bytes) b => (b, acc.2 ++ xorBytes acc.1 (aesDecK ks b))) (iv, [])).2

/-- Multiplication in the field of GHASH; bit 0 is the most significant. -/
def ghashMul (x y : Nat) : Nat :=
  ((List.range 128).foldl (fun (zv : Nat × Nat) i =>
    (if x.testBit (127 - i) then zv.1 ^^^ zv.2 else zv.1,
     if zv.2 % 2 = 1 then (zv.2 / 2) ^^^ (0xE1 <<< 120) else zv.2 / 2)) (0, y)).1

/-- GHASH over whole or short blocks, each zero-padded. -/
def ghash (h : Nat) (ms : List Bytes) : Nat :=
  ms.foldl (fun y b => ghashMul (y ^^^ beNat (padTo 16 b)) h) 0

/-- The first counter block of GCM for an IV. -/
def gcmJ0 (h : Nat) (iv : Bytes) : Bytes :=
  if iv.length = 12 then iv ++ [0, 0, 0, 1]
  else beBytes 16 (ghash h (blocks iv ++ [beBytes 16 (8 * iv.length)]))

/-- The full GCM tag over additional data and ciphertext. -/
def gcmTag (key iv aad ct : Bytes) : Bytes :=
  let h := beNat (aesEnc key (List.replicate 16 0))
  let s := ghash h (blocks aad ++ blocks ct ++ [beBytes 8 (8 * aad.length) ++ beBytes 8 (8 * ct.length)])
  xorBytes (beBytes 16 s) (aesEnc key (gcmJ0 h iv))

/-- The GCM key stream applied to a text, in either direction. -/
def gcmCrypt (key iv m : Bytes) : Bytes :=
  let h := beNat (aesEnc key (List.replicate 16 0))
  ctrMode 32 key (incBlock 32 1 (gcmJ0 h iv)) m

/-- GCM encryption: ciphertext and 16-byte tag. -/
def gcmEnc (key iv aad m : Bytes) : Bytes × Bytes :=
  let c := gcmCrypt key iv m
  (c, gcmTag key iv aad c)

/-- GCM decryption: the text where the tag of any length verifies. -/
def gcmDec (key iv aad c tag : Bytes) : Option Bytes :=
  if (gcmTag key iv aad c).take tag.length = tag then some (gcmCrypt key iv c) else none

/-- The CBC-MAC of CCM over nonce n, additional data and text, for a tag of t bytes. -/
def ccmMac (key n aad m : Bytes) (t : Nat) : Bytes :=
  let q := 15 - n.length
  let b0 := byte ((if aad.isEmpty then 0 else 64) + 8 * ((t - 2) / 2) + (q - 1)) :: n ++ beBytes q m.length
  let a := if aad.isEmpty then [] else beBytes 2 aad.length ++ aad
  let ks := aesKeys key
  let pad := fun (x : Bytes) => x ++ List.replicate ((16 - x.length % 16) % 16) 0
  ((blocks (b0 ++ pad a ++ pad m)).foldl (fun x b => aesEncK ks (xorBytes x b)) (List.replicate 16 0)).take t

/-- The counter block i of CCM. -/
def ccmCtr (n : Bytes) (i : Nat) : Bytes := byte (14 - n.length) :: n ++ beBytes (15 - n.length) i

/-- The CCM key stream applied to a text. -/
def ccmCrypt (key n m : Bytes) : Bytes := ctrMode (8 * (15 - n.length)) key (ccmCtr n 1) m

/-- CCM encryption: ciphertext and tag of t bytes. -/
def ccmEnc (key n aad m : Bytes) (t : Nat) : Bytes × Bytes :=
  (ccmCrypt key n m, xorBytes (ccmMac key n aad m t) (aesEnc key (ccmCtr n 0)))

/-- CCM decryption. -/
def ccmDec (key n aad c tag : Bytes) : Option Bytes :=
  let m := ccmCrypt key n c
  if xorBytes (ccmMac key n aad m tag.length) (aesEnc key (ccmCtr n 0)) = tag then some m else none

end Sys2Proof.Machine
end

