-- ==== Sys2Proof/Machine/Ec.lean ====
section
/-! DEFINITION. The public-key operations of R310 to R313: ECDSA and ECDH on the four Weierstrass curves, Ed25519 and X25519.
Points are computed in projective coordinates over natural numbers reduced by the field prime. -/

namespace Sys2Proof.Machine

open Sys2Proof

/-- Power modulo m; the first argument bounds the bits of the exponent. -/
def powMod : Nat → Nat → Nat → Nat → Nat
  | 0, _, _, m => 1 % m
  | f + 1, b, e, m =>
    let h := powMod f (b * b % m) (e / 2) m
    if e % 2 = 1 then h * b % m else h

/-- Inverse modulo a prime below 2^521. -/
def invMod (a p : Nat) : Nat := powMod 521 (a % p) (p - 2) p

/-- Difference modulo p. -/
def subMod (a b p : Nat) : Nat := (a % p + p - b % p) % p

/-- A Weierstrass curve y^2 = x^3 + a x + b over the field of p, with base point and its order. -/
structure Curve where
  /-- field prime -/
  p : Nat
  /-- coefficient a -/
  a : Nat
  /-- coefficient b -/
  b : Nat
  /-- base point -/
  gx : Nat
  /-- base point -/
  gy : Nat
  /-- order -/
  n : Nat
  /-- bytes of a coordinate -/
  len : Nat

/-- NIST P-256. -/
def p256 : Curve where
  p := 0xffffffff00000001000000000000000000000000ffffffffffffffffffffffff
  a := 0xffffffff00000001000000000000000000000000fffffffffffffffffffffffc
  b := 0x5ac635d8aa3a93e7b3ebbd55769886bc651d06b0cc53b0f63bce3c3e27d2604b
  gx := 0x6b17d1f2e12c4247f8bce6e563a440f277037d812deb33a0f4a13945d898c296
  gy := 0x4fe342e2fe1a7f9b8ee7eb4a7c0f9e162bce33576b315ececbb6406837bf51f5
  n := 0xffffffff00000000ffffffffffffffffbce6faada7179e84f3b9cac2fc632551
  len := 32

/-- NIST P-384. -/
def p384 : Curve where
  p := 0xfffffffffffffffffffffffffffffffffffffffffffffffffffffffffffffffeffffffff0000000000000000ffffffff
  a := 0xfffffffffffffffffffffffffffffffffffffffffffffffffffffffffffffffeffffffff0000000000000000fffffffc
  b := 0xb3312fa7e23ee7e4988e056be3f82d19181d9c6efe8141120314088f5013875ac656398d8a2ed19d2a85c8edd3ec2aef
  gx := 0xaa87ca22be8b05378eb1c71ef320ad746e1d3b628ba79b9859f741e082542a385502f25dbf55296c3a545e3872760ab7
  gy := 0x3617de4a96262c6f5d9e98bf9292dc29f8f41dbd289a147ce9da3113b5f0b8c00a60b1ce1d7e819d7a431d7c90ea0e5f
  n := 0xffffffffffffffffffffffffffffffffffffffffffffffffc7634d81f4372ddf581a0db248b0a77aecec196accc52973
  len := 48

/-- brainpoolP256r1. -/
def bp256 : Curve where
  p := 0xa9fb57dba1eea9bc3e660a909d838d726e3bf623d52620282013481d1f6e5377
  a := 0x7d5a0975fc2c3057eef67530417affe7fb8055c126dc5c6ce94a4b44f330b5d9
  b := 0x26dc5c6ce94a4b44f330b5d9bbd77cbf958416295cf7e1ce6bccdc18ff8c07b6
  gx := 0x8bd2aeb9cb7e57cb2c4b482ffc81b7afb9de27e1e3bd23c23a4453bd9ace3262
  gy := 0x547ef835c3dac4fd97f8461a14611dc9c27745132ded8e545c1d54c72f046997
  n := 0xa9fb57dba1eea9bc3e660a909d838d718c397aa3b561a6f7901e0e82974856a7
  len := 32

/-- brainpoolP384r1. -/
def bp384 : Curve where
  p := 0x8cb91e82a3386d280f5d6f7e50e641df152f7109ed5456b412b1da197fb71123acd3a729901d1a71874700133107ec53
  a := 0x7bc382c63d8c150c3c72080ace05afa0c2bea28e4fb22787139165efba91f90f8aa5814a503ad4eb04a8c7dd22ce2826
  b := 0x4a8c7dd22ce28268b39b55416f0447c2fb77de107dcd2a62e880ea53eeb62d57cb4390295dbc9943ab78696fa504c11
  gx := 0x1d1c64f068cf45ffa2a63a81b7c13f6b8847a3e77ef14fe3db7fcafe0cbd10e8e826e03436d646aaef87b2e247d4af1e
  gy := 0x8abe1d7520f9c2a45cb1eb8e95cfd55262b70b29feec5864e19c054ff99129280e4646217791811142820341263c5315
  n := 0x8cb91e82a3386d280f5d6f7e50e641df152f7109ed5456b31f166e6cac0425a7cf3ab6af6b7fc3103b883202e9046565
  len := 48

/-- A point in Jacobian coordinates; z = 0 is the point at infinity. -/
abbrev JPoint := Nat × (Nat × Nat)

/-- Doubling. -/
def ecDouble (c : Curve) (q : JPoint) : JPoint :=
  let x := q.1
  let y := q.2.1
  let z := q.2.2
  if y = 0 || z = 0 then (1, (1, 0)) else
  let yy := y * y % c.p
  let s := 4 * x * yy % c.p
  let zz := z * z % c.p
  let m := (3 * x * x + c.a * (zz * zz % c.p)) % c.p
  let x' := subMod (m * m) (2 * s) c.p
  (x', (subMod (m * subMod s x' c.p) (8 * yy * yy) c.p, 2 * y * z % c.p))

/-- Addition. -/
def ecAdd (c : Curve) (q r : JPoint) : JPoint :=
  if q.2.2 = 0 then r else if r.2.2 = 0 then q else
  let z1 := q.2.2 * q.2.2 % c.p
  let z2 := r.2.2 * r.2.2 % c.p
  let u1 := q.1 * z2 % c.p
  let u2 := r.1 * z1 % c.p
  let s1 := q.2.1 * (z2 * r.2.2 % c.p) % c.p
  let s2 := r.2.1 * (z1 * q.2.2 % c.p) % c.p
  if u1 = u2 then (if s1 = s2 then ecDouble c q else (1, (1, 0))) else
  let h := subMod u2 u1 c.p
  let t := subMod s2 s1 c.p
  let hh := h * h % c.p
  let hhh := h * hh % c.p
  let v := u1 * hh % c.p
  let x := subMod (t * t) (hhh + 2 * v) c.p
  (x, (subMod (t * subMod v x c.p) (s1 * hhh) c.p, h * (q.2.2 * r.2.2 % c.p) % c.p))

/-- Multiple of a point; the first argument bounds the bits of the factor. -/
def ecMulGo (c : Curve) : Nat → Nat → JPoint → JPoint
  | 0, _, _ => (1, (1, 0))
  | f + 1, k, q =>
    let r := ecMulGo c f (k / 2) (ecDouble c q)
    if k % 2 = 1 then ecAdd c r q else r

/-- Multiple of a point, in affine coordinates; none is the point at infinity. -/
def ecAffine (c : Curve) (q : JPoint) : Option (Nat × Nat) :=
  if q.2.2 = 0 then none else
  let i := invMod q.2.2 c.p
  let ii := i * i % c.p
  some (q.1 * ii % c.p, q.2.1 * (ii * i % c.p) % c.p)

/-- Multiple of a point. -/
def ecMul (c : Curve) (k : Nat) (q : Nat × Nat) : Option (Nat × Nat) :=
  ecAffine c (ecMulGo c (8 * c.len + 1) k (q.1, (q.2, 1)))

/-- The public key of a scalar, 0x04 and both coordinates (R311). -/
def ecPublic (c : Curve) (k : Nat) : Bytes :=
  match ecMul c k (c.gx, c.gy) with
  | some (x, y) => 0x04 :: (beBytes c.len x ++ beBytes c.len y)
  | none => []

/-- A supplied public key, checked under R312. -/
def ecPoint (c : Curve) (key : Bytes) : Option (Nat × Nat) :=
  if key.headD 0 ≠ 0x04 || key.length < 2 * c.len + 1 then none else
  let x := beNat (slice 1 c.len key)
  let y := beNat (slice (1 + c.len) c.len key)
  if x < c.p && y < c.p && (y * y) % c.p == (x * x * x + c.a * x + c.b) % c.p then some (x, y) else none

/-- The number a digest stands for, its leading bits of the order's length. -/
def ecBits2int (c : Curve) (h : Bytes) : Nat := beNat (h.take c.len)

/-- The hash that R310 pairs with a curve. -/
def ecHash (c : Curve) (m : Bytes) : Bytes := if c.len = 32 then sha256 m else sha384 m

/-- HMAC with the curve's hash. -/
def ecHmac (c : Curve) (k m : Bytes) : Bytes := if c.len = 32 then hmac sha256 64 k m else hmac sha384 128 k m

/-- The candidate loop of RFC 6979 section 3.2, step h. -/
def rfc6979Go (c : Curve) : Nat → Bytes → Bytes → Nat
  | 0, _, _ => 1
  | f + 1, k, v =>
    let v' := ecHmac c k v
    let t := beNat v'
    if 0 < t && t < c.n then t
    else
      let k' := ecHmac c k (v' ++ [0])
      rfc6979Go c f k' (ecHmac c k' v')

/-- The nonce of RFC 6979, with additional data (R313). -/
def rfc6979 (c : Curve) (x : Nat) (h extra : Bytes) : Nat :=
  let v := List.replicate c.len (1 : Byte)
  let k := List.replicate c.len (0 : Byte)
  let seed := beBytes c.len x ++ beBytes c.len (ecBits2int c h % c.n) ++ extra
  let k1 := ecHmac c k (v ++ [0] ++ seed)
  let v1 := ecHmac c k1 v
  let k2 := ecHmac c k1 (v1 ++ [1] ++ seed)
  rfc6979Go c 64 k2 (ecHmac c k2 v1)

/-- An ECDSA signature over a digest with a given nonce. -/
def ecdsaSignK (c : Curve) (x : Nat) (h : Bytes) (k : Nat) : Bytes :=
  match ecMul c k (c.gx, c.gy) with
  | some (px, _) =>
    let r := px % c.n
    beBytes c.len r ++ beBytes c.len (invMod k c.n * (ecBits2int c h + r * x) % c.n)
  | none => []

/-- An ECDSA signature over a digest (R313). -/
def ecdsaSign (c : Curve) (x : Nat) (h extra : Bytes) : Bytes := ecdsaSignK c x h (rfc6979 c x h extra)

/-- ECDSA verification of a digest under a checked point (R312). -/
def ecdsaVerify (c : Curve) (q : Nat × Nat) (h sig : Bytes) : Bool :=
  let r := beNat (sig.take c.len)
  let s := beNat (slice c.len c.len sig)
  if r = 0 || s = 0 || c.n ≤ r || c.n ≤ s then false else
  let w := invMod s c.n
  let g := ecMulGo c (8 * c.len + 1) (ecBits2int c h * w % c.n) (c.gx, (c.gy, 1))
  let u := ecMulGo c (8 * c.len + 1) (r * w % c.n) (q.1, (q.2, 1))
  match ecAffine c (ecAdd c g u) with
  | some (x, _) => x % c.n == r
  | none => false

/-- The shared x-coordinate of ECDH. -/
def ecdh (c : Curve) (x : Nat) (q : Nat × Nat) : Option Bytes := (ecMul c x q).map (fun s => beBytes c.len s.1)

/-- The field prime of Curve25519. -/
def p25519 : Nat := 2 ^ 255 - 19

/-- One step of the Montgomery ladder of X25519: the state holds x2, z2, x3, z3. -/
def ladderStep (x1 : Nat) (bitv : Bool) (s : List Nat) : List Nat :=
  let p := p25519
  let sw := fun (l : List Nat) => if bitv then [l.getD 2 0, l.getD 3 0, l.getD 0 0, l.getD 1 0] else l
  let t := sw s
  let a := (t.getD 0 0 + t.getD 1 0) % p
  let aa := a * a % p
  let b := subMod (t.getD 0 0) (t.getD 1 0) p
  let bb := b * b % p
  let e := subMod aa bb p
  let da := subMod (t.getD 2 0) (t.getD 3 0) p * a % p
  let cb := (t.getD 2 0 + t.getD 3 0) % p * b % p
  let x3 := (da + cb) * (da + cb) % p
  let y := subMod da cb p
  sw [aa * bb % p, e * ((aa + 121665 * e) % p) % p, x3, x1 * (y * y % p) % p]

/-- X25519 of a scalar and a u-coordinate, both 32 bytes. -/
def x25519 (k u : Bytes) : Bytes :=
  let n := leNat (k.take 32)
  let n' := (n / 8 * 8) % 2 ^ 255 % 2 ^ 254 + 2 ^ 254
  let x1 := leNat (u.take 32) % 2 ^ 255 % p25519
  let s := (List.range 255).foldl (fun s i => ladderStep x1 (n'.testBit (254 - i)) s) [1, 0, x1, 1]
  leBytes 32 (s.getD 0 0 * invMod (s.getD 1 0) p25519 % p25519)

/-- The coefficient d of Ed25519. -/
def ed25519D : Nat := 0x52036cee2b6ffe738cc740797779e89800700a4d4141d8ab75eb4dca135978a3

/-- The order of the Ed25519 base point. -/
def ed25519L : Nat := 2 ^ 252 + 27742317777372353535851937790883648493

/-- A point of Ed25519 in extended coordinates x, y, z, t. -/
abbrev EdPoint := List Nat

/-- The neutral point. -/
def edZero : EdPoint := [0, 1, 1, 0]

/-- Addition. -/
def edAdd (q r : EdPoint) : EdPoint :=
  let p := p25519
  let a := subMod (q.getD 1 0) (q.getD 0 0) p * subMod (r.getD 1 0) (r.getD 0 0) p % p
  let b := (q.getD 1 0 + q.getD 0 0) % p * ((r.getD 1 0 + r.getD 0 0) % p) % p
  let c := 2 * (q.getD 3 0 * r.getD 3 0 % p) * ed25519D % p
  let d := 2 * q.getD 2 0 * r.getD 2 0 % p
  let e := subMod b a p
  let f := subMod d c p
  let g := (d + c) % p
  let h := (b + a) % p
  [e * f % p, g * h % p, f * g % p, e * h % p]

/-- Multiple of a point. -/
def edMul : Nat → Nat → EdPoint → EdPoint
  | 0, _, _ => edZero
  | f + 1, k, q =>
    let r := edMul f (k / 2) (edAdd q q)
    if k % 2 = 1 then edAdd r q else r

/-- The x-coordinate of a y with a sign bit, where the point exists. -/
def edRecover (y : Nat) (sign : Bool) : Option Nat :=
  let p := p25519
  if p ≤ y then none else
  let u := subMod (y * y) 1 p
  let v := (ed25519D * (y * y % p) + 1) % p
  let xx := u * invMod v p % p
  let x := powMod 256 xx ((p + 3) / 8) p
  let x' := if x * x % p = xx then x else x * powMod 256 2 ((p - 1) / 4) p % p
  if x' * x' % p ≠ xx then none
  else if x' = 0 && sign then none
  else some (if (x' % 2 == 1) = sign then x' else (p - x') % p)

/-- The base point of Ed25519. -/
def edBase : EdPoint :=
  let y := 4 * invMod 5 p25519 % p25519
  let x := (edRecover y false).getD 0
  [x, y, 1, x * y % p25519]

/-- The encoding of a point. -/
def edEncode (q : EdPoint) : Bytes :=
  let i := invMod (q.getD 2 0) p25519
  let x := q.getD 0 0 * i % p25519
  let y := q.getD 1 0 * i % p25519
  leBytes 32 (y + (x % 2) * 2 ^ 255)

/-- The point of an encoding. -/
def edDecode (b : Bytes) : Option EdPoint :=
  let v := leNat (b.take 32)
  let y := v % 2 ^ 255
  (edRecover y (v.testBit 255)).map (fun x => [x, y, 1, x * y % p25519])

/-- The secret scalar and the hash prefix of a seed. -/
def edSecret (seed : Bytes) : Nat × Bytes :=
  let h := sha512 seed
  ((leNat (h.take 32) / 8 * 8) % 2 ^ 254 + 2 ^ 254, h.drop 32)

/-- The Ed25519 public key of a seed. -/
def edPublic (seed : Bytes) : Bytes := edEncode (edMul 255 (edSecret seed).1 edBase)

/-- An Ed25519 signature. -/
def edSign (seed m : Bytes) : Bytes :=
  let s := edSecret seed
  let pub := edEncode (edMul 255 s.1 edBase)
  let r := leNat (sha512 (s.2 ++ m)) % ed25519L
  let rb := edEncode (edMul 253 r edBase)
  let k := leNat (sha512 (rb ++ pub ++ m)) % ed25519L
  rb ++ leBytes 32 ((r + k * s.1) % ed25519L)

/-- Ed25519 verification. -/
def edVerify (pub m sig : Bytes) : Bool :=
  match edDecode pub, edDecode (sig.take 32) with
  | some a, some r =>
    let s := leNat (slice 32 32 sig)
    if ed25519L ≤ s then false else
    let k := leNat (sha512 (sig.take 32 ++ pub.take 32 ++ m)) % ed25519L
    edEncode (edMul 253 s edBase) == edEncode (edAdd r (edMul 253 k a))
  | _, _ => false

/-- The curve of a key type (R290). -/
def curveOf (ty : Nat) : Option Curve :=
  if ty = 0x10 then some p256 else if ty = 0x11 then some p384
  else if ty = 0x12 then some bp256 else if ty = 0x13 then some bp384 else none

/-- The public key of a key of any EC type, empty for another type (R311). -/
def publicOf (ty : Nat) (key : Bytes) : Bytes :=
  match curveOf ty with
  | some c => ecPublic c (beNat key)
  | none => if ty = 0x14 then edPublic key else if ty = 0x15 then x25519 key (leBytes 32 9) else []

/-- A signature over a message or, for ECDSA, a digest, with a key of an EC type (R310, R313). -/
def signWith (ty : Nat) (key input : Bytes) (digest : Bool) (extra : Bytes) : Bytes :=
  match curveOf ty with
  | some c => ecdsaSign c (beNat key) (if digest then input else ecHash c input) extra
  | none => edSign key input

/-- A signature's check under a public key: none for a key that R312 refuses. -/
def verifyWith (ty : Nat) (pub input : Bytes) (digest : Bool) (sig : Bytes) : Option Bool :=
  match curveOf ty with
  | some c => (ecPoint c pub).map (fun q => ecdsaVerify c q (if digest then input else ecHash c input) sig)
  | none => (edDecode pub).map (fun _ => edVerify pub input sig)

end Sys2Proof.Machine
end

