-- ==== Sys2Proof/Machine/ObjTable.lean ====
section
/-! DEFINITION. The object dictionary's tables: index, subindex, type, access, roles, default, whether the object is persistent, and the check
of R6 on its value. One row stands for a run of subindices, and for n instances a stride apart. -/

namespace Sys2Proof.Machine

open Sys2Proof

/-- Object types (R36). -/
inductive Ty where
  | bool | u8 | u16 | u32 | u64 | i16 | i32
  | bytes (n : Nat)
  | str (n : Nat)
  deriving DecidableEq, Repr

/-- Access kinds (R5). -/
inductive Acc where
  | ro | rw | wo | rws
  deriving DecidableEq, Repr

/-- The check of R6 on a written value. -/
inductive Chk where
  /-- any value of the type -/
  | any
  /-- a range -/
  | rng (lo hi : Nat)
  /-- only bits of the mask -/
  | mask (m : Nat)
  /-- only bits of the mask, and not this value -/
  | maskNe (m v : Nat)
  /-- only bits of the mask, and bits [1:0] at most k -/
  | maskLow (m k : Nat)
  /-- one of a list -/
  | oneOf (l : List Nat)
  deriving DecidableEq, Repr

/-- A row of an object table (R5). -/
structure ObjDef where
  /-- first index -/
  ix : Nat
  /-- instances -/
  n : Nat
  /-- distance of their indices -/
  stride : Nat
  /-- first subindex -/
  lo : Nat
  /-- last subindex -/
  hi : Nat
  /-- type -/
  ty : Ty
  /-- access -/
  acc : Acc
  /-- role mask: bit 0 H, bit 1 W, bit 2 E, bit 3 F -/
  roles : Nat
  /-- default -/
  dflt : Nat
  /-- held in ReRAM -/
  pers : Bool
  /-- values it takes -/
  chk : Chk
  deriving DecidableEq, Repr

/-- Length on the wire (R36); a STRING's is its maximum. -/
def Ty.len : Ty → Nat
  | .bool => 1 | .u8 => 1 | .u16 => 2 | .u32 => 4 | .u64 => 8 | .i16 => 2 | .i32 => 4
  | .bytes n => n
  | .str n => n

/-- Whether a value passes the check. -/
def Chk.ok : Chk → Nat → Bool
  | .any, _ => true
  | .rng lo hi, v => decide (lo ≤ v) && decide (v ≤ hi)
  | .mask m, v => v &&& m == v
  | .maskNe m x, v => v &&& m == v && v != x
  | .maskLow m k, v => v &&& m == v && decide (v % 4 ≤ k)
  | .oneOf l, v => l.contains v

/-- Whether a row covers an index. -/
def ObjDef.hitIx (d : ObjDef) (ix : Nat) : Bool :=
  if d.stride = 0 then ix == d.ix
  else decide (d.ix ≤ ix) && (ix - d.ix) % d.stride == 0 && decide ((ix - d.ix) / d.stride < d.n)

/-- Whether a row covers an object. -/
def ObjDef.hit (d : ObjDef) (ix sub : Nat) : Bool := d.hitIx ix && decide (d.lo ≤ sub) && decide (sub ≤ d.hi)

/-- Object rows from 0x1001, in the order of their tables. -/
def objRoot0 : List ObjDef := [
  ⟨0x1001, 1, 0x0, 0x1, 0x38, .u16, .ro, 15, 0, false, .any⟩,
  ⟨0x1002, 1, 0x0, 0x1, 0x1, (.str 32), .ro, 15, 0, false, .any⟩,
  ⟨0x1002, 1, 0x0, 0x2, 0x2, (.str 32), .ro, 15, 0, false, .any⟩,
  ⟨0x1002, 1, 0x0, 0x3, 0x3, .u16, .ro, 15, 176, false, .any⟩,
  ⟨0x1002, 1, 0x0, 0x4, 0x4, .u32, .ro, 15, 0, false, .any⟩,
  ⟨0x1002, 1, 0x0, 0x5, 0x5, (.bytes 16), .ro, 15, 0, false, .any⟩,
  ⟨0x1002, 1, 0x0, 0x6, 0x6, (.bytes 8), .ro, 15, 0, false, .any⟩,
  ⟨0x1101, 1, 0x0, 0x1, 0x1, .u8, .rw, 3, 1, true, .mask 3⟩,
  ⟨0x1101, 1, 0x0, 0x2, 0x2, .u16, .rw, 3, 1728, true, .rng 0 0x7F0⟩,
  ⟨0x1101, 1, 0x0, 0x3, 0x3, .u16, .rw, 3, 1760, true, .rng 0 0x7F0⟩,
  ⟨0x1101, 1, 0x0, 0x4, 0x4, .u16, .rw, 3, 1000, true, .rng 10 10000⟩,
  ⟨0x1101, 1, 0x0, 0x5, 0x5, .u8, .rw, 3, 127, true, .rng 1 127⟩,
  ⟨0x1101, 1, 0x0, 0x6, 0x6, .bool, .rw, 3, 0, true, .rng 0 1⟩,
  ⟨0x1101, 1, 0x0, 0x7, 0x7, .u16, .rw, 3, 30, true, .rng 5 600⟩,
  ⟨0x1101, 1, 0x0, 0x8, 0x8, .u8, .ro, 15, 32, false, .any⟩,
  ⟨0x1102, 1, 0x0, 0x1, 0x1, .u32, .ro, 15, 0, false, .any⟩,
  ⟨0x1102, 1, 0x0, 0x2, 0x2, .u32, .ro, 15, 0, false, .any⟩,
  ⟨0x1102, 1, 0x0, 0x3, 0x3, .u32, .ro, 15, 0, false, .any⟩,
  ⟨0x1102, 1, 0x0, 0x4, 0x4, .u32, .ro, 15, 0, false, .any⟩,
  ⟨0x1102, 1, 0x0, 0x5, 0x5, .u32, .ro, 15, 0, false, .any⟩,
  ⟨0x1110, 1, 0x0, 0x1, 0x1, .u8, .rw, 15, 0, false, .rng 1 4⟩,
  ⟨0x1110, 1, 0x0, 0x2, 0x2, (.bytes 16), .wo, 15, 0, false, .any⟩,
  ⟨0x1110, 1, 0x0, 0x3, 0x3, (.bytes 16), .ro, 15, 0, false, .any⟩,
  ⟨0x1110, 1, 0x0, 0x4, 0x4, (.bytes 65), .wo, 15, 0, false, .any⟩,
  ⟨0x1110, 1, 0x0, 0x5, 0x5, (.bytes 65), .ro, 15, 0, false, .any⟩,
  ⟨0x1110, 1, 0x0, 0x6, 0x6, (.bytes 512), .wo, 15, 0, false, .any⟩,
  ⟨0x1110, 1, 0x0, 0x7, 0x7, (.bytes 96), .wo, 15, 0, false, .any⟩,
  ⟨0x1110, 1, 0x0, 0x8, 0x8, .u8, .wo, 15, 0, false, .rng 1 1⟩,
  ⟨0x1110, 1, 0x0, 0x9, 0x9, .u8, .ro, 15, 0, false, .any⟩,
  ⟨0x1110, 1, 0x0, 0xA, 0xA, .u32, .ro, 15, 0, false, .any⟩,
  ⟨0x1180, 1, 0x0, 0x1, 0x1, .u8, .ro, 15, 0, false, .any⟩,
  ⟨0x1180, 1, 0x0, 0x2, 0x2, .u16, .ro, 15, 0, false, .any⟩,
  ⟨0x1180, 1, 0x0, 0x3, 0x3, .u16, .rw, 1, 65534, false, .mask 0xFFFE⟩,
  ⟨0x1180, 1, 0x0, 0x4, 0x4, .u8, .wo, 1, 0, false, .rng 1 1⟩,
  ⟨0x1181, 1, 0x0, 0x1, 0x1, (.bytes 12), .ro, 1, 0, false, .any⟩,
  ⟨0x1201, 1, 0x0, 0x1, 0x1, .u8, .ro, 15, 0, false, .any⟩,
  ⟨0x1201, 1, 0x0, 0x2, 0x2, .u8, .wo, 1, 0, false, .rng 1 1⟩,
  ⟨0x1201, 1, 0x0, 0x3, 0x3, .u16, .rw, 3, 30, true, .rng 0 3600⟩,
  ⟨0x1210, 1, 0x0, 0x1, 0x1, .u8, .ro, 15, 0, false, .any⟩,
  ⟨0x1210, 1, 0x0, 0x2, 0x2, .u64, .ro, 15, 0, false, .any⟩]

/-- Object rows from 0x1210, in the order of their tables. -/
def objRoot1 : List ObjDef := [
  ⟨0x1210, 1, 0x0, 0x3, 0x3, .u8, .wo, 11, 0, false, .rng 1 1⟩,
  ⟨0x1281, 1, 0x0, 0x1, 0x5, .u16, .ro, 15, 0, false, .any⟩,
  ⟨0x1281, 1, 0x0, 0x6, 0x8, .u16, .ro, 15, 0, false, .any⟩,
  ⟨0x1281, 1, 0x0, 0x9, 0x9, .u32, .ro, 15, 0, false, .any⟩,
  ⟨0x1282, 1, 0x0, 0x1, 0x1, .u8, .ro, 15, 0, false, .any⟩,
  ⟨0x1282, 1, 0x0, 0x2, 0x2, .u32, .ro, 15, 0, false, .any⟩,
  ⟨0x1282, 1, 0x0, 0x3, 0x3, .u16, .ro, 15, 0, false, .any⟩,
  ⟨0x1283, 1, 0x0, 0x1, 0x1, .i16, .ro, 15, 0, false, .any⟩,
  ⟨0x1283, 1, 0x0, 0x2, 0x5, .i16, .ro, 15, 0, false, .any⟩,
  ⟨0x1283, 1, 0x0, 0x6, 0x6, .u32, .ro, 15, 0, false, .any⟩,
  ⟨0x1301, 1, 0x0, 0x1, 0x1, .u8, .ro, 15, 0, false, .any⟩,
  ⟨0x1301, 1, 0x0, 0x2, 0x2, .u16, .ro, 15, 0, false, .any⟩,
  ⟨0x1302, 1, 0x0, 0x1, 0x1, .u16, .wo, 3, 0, false, .any⟩,
  ⟨0x1302, 1, 0x0, 0x2, 0x2, .u8, .wo, 3, 0, false, .rng 1 0x1E⟩,
  ⟨0x1311, 1, 0x0, 0x1, 0x1E, .u8, .ro, 15, 0, false, .any⟩,
  ⟨0x1312, 1, 0x0, 0x1, 0x1E, .u8, .ro, 15, 0, false, .any⟩,
  ⟨0x1313, 1, 0x0, 0x1, 0x1E, .u32, .ro, 15, 0, false, .any⟩,
  ⟨0x1320, 1, 0x0, 0x1, 0x1, (.bytes 12), .ro, 3, 0, false, .any⟩,
  ⟨0x1401, 1, 0x0, 0x1, 0x1, .u8, .ro, 15, 0, false, .any⟩,
  ⟨0x1401, 1, 0x0, 0x2, 0x2, .u8, .wo, 10, 0, false, .rng 1 4⟩,
  ⟨0x1410, 1, 0x0, 0x1, 0x1, .u8, .ro, 15, 0, false, .any⟩,
  ⟨0x1410, 1, 0x0, 0x2, 0x2, .u8, .ro, 15, 0, false, .any⟩,
  ⟨0x1410, 1, 0x0, 0x3, 0x3, .bool, .ro, 15, 0, false, .any⟩,
  ⟨0x1410, 1, 0x0, 0x4, 0x4, .u16, .ro, 15, 0, false, .any⟩,
  ⟨0x1410, 1, 0x0, 0x5, 0x6, .u32, .ro, 15, 0, false, .any⟩,
  ⟨0x1420, 1, 0x0, 0x1, 0x1, .u8, .wo, 3, 0, false, .rng 1 3⟩,
  ⟨0x1420, 1, 0x0, 0x2, 0x2, .u8, .ro, 3, 0, false, .any⟩,
  ⟨0x1421, 1, 0x0, 0x1, 0x1, .u32, .rw, 3, 0, false, .any⟩,
  ⟨0x1421, 1, 0x0, 0x2, 0x2, (.bytes 4096), .wo, 3, 0, false, .any⟩,
  ⟨0x1481, 1, 0x0, 0x1, 0x1, .u8, .ro, 15, 0, false, .any⟩,
  ⟨0x1481, 1, 0x0, 0x2, 0x2, .u8, .wo, 10, 0, false, .mask 7⟩,
  ⟨0x1482, 1, 0x0, 0x1, 0x1, .bool, .rw, 10, 0, true, .rng 0 1⟩,
  ⟨0x1482, 1, 0x0, 0x2, 0x2, .u8, .rw, 10, 0, true, .rng 0 1⟩,
  ⟨0x1482, 1, 0x0, 0x3, 0x3, .bool, .rw, 10, 0, true, .rng 0 1⟩,
  ⟨0x1482, 1, 0x0, 0x4, 0x4, .u8, .rw, 10, 2, true, .mask 3⟩]

/-- Object rows of the indices 0x1000 to 0x1FFF. -/
def objRoot : List ObjDef := objRoot0 ++ objRoot1

/-- Object rows from 0x2010, in the order of their tables. -/
def objField0 : List ObjDef := [
  ⟨0x2010, 1, 0x0, 0x1, 0x1, .u16, .ro, 15, 0, false, .any⟩,
  ⟨0x2010, 1, 0x0, 0x2, 0x2, .u8, .rw, 3, 63, true, .rng 1 0x3F⟩,
  ⟨0x2010, 1, 0x0, 0x3, 0x3, .u8, .rw, 3, 3, true, .rng 1 0x3F⟩,
  ⟨0x2010, 1, 0x0, 0x4, 0x4, .u8, .rw, 3, 0, true, .mask 0x3F⟩,
  ⟨0x2010, 1, 0x0, 0x5, 0x5, .u8, .rw, 3, 10, true, .rng 1 20⟩,
  ⟨0x2011, 1, 0x0, 0x1, 0x6, .u8, .rw, 3, 40, true, .rng 0 63⟩,
  ⟨0x2012, 1, 0x0, 0x1, 0x6, .u8, .rw, 3, 32, true, .rng 0 63⟩,
  ⟨0x2013, 1, 0x0, 0x1, 0x6, .u8, .rws, 11, 128, true, .any⟩,
  ⟨0x2014, 1, 0x0, 0x1, 0x6, .u8, .ro, 15, 0, false, .any⟩,
  ⟨0x2015, 1, 0x0, 0x1, 0x3, .u16, .ro, 15, 0, false, .any⟩,
  ⟨0x2015, 1, 0x0, 0x4, 0x4, .u8, .wo, 3, 0, false, .rng 1 1⟩,
  ⟨0x2020, 1, 0x0, 0x1, 0x1, .u16, .rw, 3, 504, true, .rng 24 2160⟩,
  ⟨0x2020, 1, 0x0, 0x2, 0x2, .u8, .rw, 3, 14, true, .mask 0xF⟩,
  ⟨0x2020, 1, 0x0, 0x3, 0x3, (.bytes 8), .ro, 15, 0, false, .any⟩,
  ⟨0x2020, 1, 0x0, 0x4, 0x4, .u8, .rw, 3, 8, true, .rng 1 64⟩,
  ⟨0x2021, 1, 0x0, 0x1, 0x1, .u8, .ro, 15, 0, false, .any⟩,
  ⟨0x2021, 1, 0x0, 0x2, 0x2, .u32, .ro, 15, 0, false, .any⟩,
  ⟨0x2021, 1, 0x0, 0x3, 0x3, .u8, .ro, 15, 0, false, .any⟩,
  ⟨0x2021, 1, 0x0, 0x4, 0x4, .bool, .ro, 15, 0, false, .any⟩,
  ⟨0x2021, 1, 0x0, 0x5, 0x5, .u32, .ro, 15, 0, false, .any⟩,
  ⟨0x2021, 1, 0x0, 0x6, 0x6, .u32, .ro, 15, 0, false, .any⟩,
  ⟨0x2021, 1, 0x0, 0x7, 0x7, .u32, .ro, 15, 0, false, .any⟩,
  ⟨0x2021, 1, 0x0, 0x8, 0x8, .u32, .ro, 15, 0, false, .any⟩,
  ⟨0x2021, 1, 0x0, 0x9, 0x9, .u8, .ro, 15, 0, false, .any⟩,
  ⟨0x2022, 1, 0x0, 0x1, 0x1, .u8, .wo, 1, 0, false, .rng 1 1⟩,
  ⟨0x2022, 1, 0x0, 0x2, 0x2, .u8, .wo, 1, 0, false, .rng 1 2⟩,
  ⟨0x2030, 1, 0x0, 0x1, 0x1, .u8, .rw, 3, 15, true, .mask 0xF⟩,
  ⟨0x2030, 1, 0x0, 0x2, 0x2, .bool, .rw, 3, 1, true, .rng 0 1⟩,
  ⟨0x2030, 1, 0x0, 0x3, 0x3, .u16, .rw, 3, 3000, true, .rng 500 10000⟩,
  ⟨0x2030, 1, 0x0, 0x4, 0x4, .bool, .rw, 3, 1, true, .rng 0 1⟩,
  ⟨0x2030, 1, 0x0, 0x5, 0x5, .u8, .ro, 15, 0, false, .any⟩,
  ⟨0x2030, 1, 0x0, 0x6, 0x6, .u32, .ro, 15, 0, false, .any⟩,
  ⟨0x2401, 1, 0x0, 0x1, 0x1, .u8, .rw, 3, 1, true, .rng 0 3⟩,
  ⟨0x2401, 1, 0x0, 0x2, 0x2, .u8, .rw, 3, 3, true, .rng 1 3⟩,
  ⟨0x2401, 1, 0x0, 0x3, 0x3, .u8, .rw, 3, 96, true, .any⟩,
  ⟨0x2401, 1, 0x0, 0x4, 0x4, .u16, .rw, 3, 2000, true, .rng 500 60000⟩,
  ⟨0x2401, 1, 0x0, 0x5, 0x5, .u8, .ro, 15, 9, false, .any⟩,
  ⟨0x2401, 1, 0x0, 0x6, 0x6, .u32, .ro, 15, 0, false, .any⟩,
  ⟨0x2411, 1, 0x0, 0x1, 0x4, .u8, .ro, 15, 0, false, .any⟩,
  ⟨0x2412, 1, 0x0, 0x1, 0x4, .u32, .ro, 15, 0, false, .any⟩]

/-- Object rows from 0x2413, in the order of their tables. -/
def objField1 : List ObjDef := [
  ⟨0x2413, 1, 0x0, 0x1, 0x4, .u32, .ro, 15, 0, false, .any⟩,
  ⟨0x2414, 1, 0x0, 0x1, 0x3, .u16, .ro, 15, 0, false, .any⟩,
  ⟨0x2415, 1, 0x0, 0x1, 0x1, .u64, .ro, 15, 0, false, .any⟩,
  ⟨0x2415, 1, 0x0, 0x2, 0x2, .u8, .wo, 11, 0, false, .rng 1 1⟩,
  ⟨0x2441, 1, 0x0, 0x1, 0x1, .u8, .rw, 11, 40, true, .rng 24 80⟩,
  ⟨0x2441, 1, 0x0, 0x2, 0x2, .u8, .rw, 11, 48, true, .rng 8 128⟩,
  ⟨0x2441, 1, 0x0, 0x3, 0x3, .u16, .rw, 10, 64, true, .rng 16 256⟩,
  ⟨0x2441, 1, 0x0, 0x4, 0x4, .u8, .rw, 10, 24, true, .rng 4 48⟩,
  ⟨0x2441, 1, 0x0, 0x5, 0x5, .u16, .rw, 10, 128, true, .rng 32 1024⟩,
  ⟨0x2442, 1, 0x0, 0x1, 0x3, .i16, .ro, 15, 0, false, .any⟩,
  ⟨0x2442, 1, 0x0, 0x4, 0x4, .i16, .rw, 3, 65376, true, .any⟩,
  ⟨0x2443, 1, 0x0, 0x1, 0x1, .u32, .ro, 15, 0, false, .any⟩,
  ⟨0x2443, 1, 0x0, 0x2, 0x2, .u32, .ro, 15, 0, false, .any⟩,
  ⟨0x2443, 1, 0x0, 0x3, 0x3, .u32, .ro, 15, 0, false, .any⟩,
  ⟨0x2443, 1, 0x0, 0x4, 0x4, .u32, .ro, 15, 0, false, .any⟩,
  ⟨0x2444, 3, 0x1, 0x1, 0x1, .u64, .ro, 15, 0, false, .any⟩,
  ⟨0x2444, 3, 0x1, 0x2, 0x2, .i16, .ro, 15, 0, false, .any⟩,
  ⟨0x2444, 3, 0x1, 0x3, 0x3, .i16, .ro, 15, 0, false, .any⟩,
  ⟨0x2444, 3, 0x1, 0x4, 0x4, .i16, .ro, 15, 0, false, .any⟩,
  ⟨0x2444, 3, 0x1, 0x5, 0x5, .i16, .ro, 15, 0, false, .any⟩,
  ⟨0x2444, 3, 0x1, 0x6, 0x6, .i16, .ro, 15, 0, false, .any⟩,
  ⟨0x2444, 3, 0x1, 0x7, 0x7, .i16, .ro, 15, 0, false, .any⟩,
  ⟨0x2444, 3, 0x1, 0x8, 0x8, .u8, .ro, 15, 0, false, .any⟩,
  ⟨0x2444, 3, 0x1, 0x9, 0x9, .i16, .ro, 15, 0, false, .any⟩,
  ⟨0x2444, 3, 0x1, 0xA, 0xA, .u16, .ro, 15, 0, false, .any⟩,
  ⟨0x2481, 1, 0x0, 0x1, 0x1, .u32, .ro, 15, 0, false, .any⟩,
  ⟨0x2481, 1, 0x0, 0x2, 0x2, .u32, .ro, 15, 0, false, .any⟩,
  ⟨0x2481, 1, 0x0, 0x3, 0x3, .u32, .ro, 15, 0, false, .any⟩,
  ⟨0x2481, 1, 0x0, 0x4, 0x4, .u32, .ro, 15, 0, false, .any⟩,
  ⟨0x2481, 1, 0x0, 0x5, 0x5, .u32, .ro, 15, 0, false, .any⟩,
  ⟨0x2481, 1, 0x0, 0x6, 0x6, .u32, .ro, 15, 0, false, .any⟩,
  ⟨0x2482, 1, 0x0, 0x1, 0x1, .i32, .ro, 15, 0, false, .any⟩,
  ⟨0x2482, 1, 0x0, 0x2, 0x2, .i32, .ro, 15, 0, false, .any⟩,
  ⟨0x2482, 1, 0x0, 0x3, 0x3, .u16, .ro, 15, 0, false, .any⟩,
  ⟨0x2482, 1, 0x0, 0x4, 0x4, .u16, .ro, 15, 0, false, .any⟩,
  ⟨0x2482, 1, 0x0, 0x5, 0x5, .u8, .ro, 15, 0, false, .any⟩,
  ⟨0x2482, 1, 0x0, 0x6, 0x6, .u8, .ro, 15, 0, false, .any⟩,
  ⟨0x2483, 1, 0x0, 0x1, 0x1, .u8, .ro, 15, 64, false, .any⟩,
  ⟨0x2483, 1, 0x0, 0x2, 0x2, .u8, .ro, 15, 4, false, .any⟩,
  ⟨0x2483, 1, 0x0, 0x3, 0x3, .u8, .ro, 15, 108, false, .any⟩]

/-- Object rows from 0x2483, in the order of their tables. -/
def objField2 : List ObjDef := [
  ⟨0x2483, 1, 0x0, 0x4, 0x4, .u8, .ro, 15, 124, false, .any⟩,
  ⟨0x24C1, 1, 0x0, 0x1, 0x3, .u16, .ro, 15, 0, false, .any⟩,
  ⟨0x24C2, 1, 0x0, 0x1, 0x3, .u16, .ro, 15, 0, false, .any⟩,
  ⟨0x24C2, 1, 0x0, 0x4, 0x6, .i16, .ro, 15, 0, false, .any⟩,
  ⟨0x24C3, 1, 0x0, 0x1, 0x1, .u8, .rw, 3, 0, true, .rng 0 1⟩,
  ⟨0x24C3, 1, 0x0, 0x2, 0x2, .u8, .rw, 3, 16, true, .rng 0 31⟩,
  ⟨0x24C3, 1, 0x0, 0x3, 0x3, .u8, .rw, 3, 20, true, .rng 0 31⟩,
  ⟨0x24C3, 1, 0x0, 0x4, 0x4, .u8, .rw, 11, 12, true, .rng 0 63⟩,
  ⟨0x24C3, 1, 0x0, 0x5, 0x5, .u16, .rws, 11, 1000, true, .rng 256 4096⟩,
  ⟨0x2511, 4, 0x10, 0x1, 0x1, .u32, .ro, 15, 0, false, .any⟩,
  ⟨0x2511, 4, 0x10, 0x2, 0x2, .u8, .ro, 15, 0, false, .any⟩,
  ⟨0x2511, 4, 0x10, 0x3, 0x3, .u32, .ro, 15, 0, false, .any⟩,
  ⟨0x2601, 1, 0x0, 0x1, 0x6, .i32, .rw, 10, 0, true, .any⟩,
  ⟨0x2602, 1, 0x0, 0x1, 0x2, .i32, .rw, 10, 0, true, .any⟩,
  ⟨0x2603, 1, 0x0, 0x1, 0x4, .i16, .rw, 10, 0, true, .any⟩,
  ⟨0x2604, 1, 0x0, 0x1, 0x1, .i16, .rw, 10, 0, true, .any⟩,
  ⟨0x2604, 1, 0x0, 0x2, 0x2, .i16, .rw, 10, 0, true, .any⟩,
  ⟨0x2605, 1, 0x0, 0x1, 0x3, .u16, .rw, 10, 0, true, .rng 300 10000⟩,
  ⟨0x2605, 1, 0x0, 0x4, 0x4, .u8, .rw, 10, 64, true, .rng 16 255⟩,
  ⟨0x2605, 1, 0x0, 0x5, 0x5, .u8, .rw, 10, 0, true, .any⟩,
  ⟨0x2605, 1, 0x0, 0x6, 0x6, .u8, .wo, 10, 0, false, .rng 1 1⟩,
  ⟨0x2605, 1, 0x0, 0x7, 0x7, .u8, .ro, 15, 0, false, .any⟩,
  ⟨0x2605, 1, 0x0, 0x8, 0x8, .u16, .ro, 15, 0, false, .any⟩]

/-- Object rows of the indices 0x2000 to 0x27FF. -/
def objField : List ObjDef := objField0 ++ objField1 ++ objField2

/-- Object rows from 0x2C01, in the order of their tables. -/
def objEntry0 : List ObjDef := [
  ⟨0x2C01, 1, 0x0, 0x1, 0x1, .u16, .ro, 15, 0, false, .any⟩,
  ⟨0x2C01, 1, 0x0, 0x2, 0x2, .u8, .ro, 15, 0, false, .any⟩,
  ⟨0x2C01, 1, 0x0, 0x3, 0x3, .u8, .ro, 15, 0, false, .any⟩,
  ⟨0x2C01, 1, 0x0, 0x4, 0x4, .u8, .ro, 15, 0, false, .any⟩,
  ⟨0x2C01, 1, 0x0, 0x5, 0x5, (.bytes 8), .ro, 15, 0, false, .any⟩,
  ⟨0x2C01, 1, 0x0, 0x6, 0x6, .u32, .ro, 15, 0, false, .any⟩,
  ⟨0x2C01, 1, 0x0, 0x7, 0x7, .u32, .ro, 15, 0, false, .any⟩,
  ⟨0x2C02, 1, 0x0, 0x1, 0x1, .u32, .ro, 15, 0, false, .any⟩,
  ⟨0x2C02, 1, 0x0, 0x2, 0x2, .u32, .ro, 15, 0, false, .any⟩,
  ⟨0x2C02, 1, 0x0, 0x3, 0x3, .u32, .ro, 15, 0, false, .any⟩,
  ⟨0x2C02, 1, 0x0, 0x4, 0x4, .u32, .ro, 15, 0, false, .any⟩,
  ⟨0x2C02, 1, 0x0, 0x5, 0x5, .u32, .ro, 15, 0, false, .any⟩,
  ⟨0x2C02, 1, 0x0, 0x6, 0x6, .u32, .ro, 15, 0, false, .any⟩,
  ⟨0x2C02, 1, 0x0, 0x7, 0x7, .u32, .ro, 15, 0, false, .any⟩,
  ⟨0x2C02, 1, 0x0, 0x8, 0x8, .u32, .ro, 15, 0, false, .any⟩,
  ⟨0x2C02, 1, 0x0, 0x9, 0x9, .u32, .ro, 15, 0, false, .any⟩,
  ⟨0x2C03, 1, 0x0, 0x1, 0x1, .u16, .rw, 3, 20, true, .rng 20 1000⟩,
  ⟨0x2C03, 1, 0x0, 0x2, 0x2, .u8, .rw, 3, 10, true, .rng 1 50⟩,
  ⟨0x2C03, 1, 0x0, 0x3, 0x3, .u16, .rw, 3, 100, true, .rng 20 2000⟩,
  ⟨0x2C03, 1, 0x0, 0x4, 0x4, .u8, .rw, 3, 32, true, .rng 1 32⟩,
  ⟨0x2C03, 1, 0x0, 0x5, 0x5, .u16, .rw, 3, 30, true, .rng 5 300⟩,
  ⟨0x2C03, 1, 0x0, 0x6, 0x6, .u8, .rw, 3, 10, true, .rng 3 50⟩,
  ⟨0x2C03, 1, 0x0, 0x7, 0x7, .u16, .rw, 10, 40, true, .rng 8 256⟩,
  ⟨0x2C03, 1, 0x0, 0x8, 0x8, .u16, .rw, 10, 1000, true, .rng 200 5000⟩,
  ⟨0x2C03, 1, 0x0, 0x9, 0x9, .u16, .rw, 10, 32, true, .rng 0 256⟩,
  ⟨0x2C04, 1, 0x0, 0x1, 0x1, .u8, .rw, 3, 0, true, .rng 0 3⟩,
  ⟨0x2C04, 1, 0x0, 0x2, 0x2, .u16, .rw, 3, 10, true, .rng 1 600⟩,
  ⟨0x2C04, 1, 0x0, 0x3, 0x3, .u8, .ro, 15, 0, false, .any⟩,
  ⟨0x2C04, 1, 0x0, 0x4, 0x4, .u8, .rw, 10, 5, true, .rng 2 50⟩,
  ⟨0x2C04, 1, 0x0, 0x5, 0x5, .u16, .rw, 10, 60, true, .rng 10 3600⟩,
  ⟨0x2C05, 1, 0x0, 0x1, 0x4, .u8, .ro, 15, 0, false, .any⟩,
  ⟨0x2C06, 1, 0x0, 0x1, 0x11, .u8, .ro, 15, 0, false, .any⟩,
  ⟨0x2C08, 1, 0x0, 0x1, 0x1, .u8, .rw, 15, 0, false, .any⟩,
  ⟨0x2C08, 1, 0x0, 0x2, 0x2, .u32, .ro, 15, 0, false, .any⟩,
  ⟨0x2C10, 1, 0x0, 0x1, 0x1, .u8, .ro, 15, 0, false, .any⟩,
  ⟨0x2C10, 1, 0x0, 0x2, 0x2, .u8, .ro, 15, 0, false, .any⟩,
  ⟨0x2C10, 1, 0x0, 0x3, 0x3, (.bytes 8), .ro, 15, 0, false, .any⟩,
  ⟨0x2C10, 1, 0x0, 0x4, 0x4, .u16, .ro, 15, 0, false, .any⟩,
  ⟨0x2C10, 1, 0x0, 0x5, 0x5, .u32, .ro, 15, 0, false, .any⟩,
  ⟨0x2C10, 1, 0x0, 0x6, 0x6, .u32, .ro, 15, 0, false, .any⟩]

/-- Object rows from 0x2C10, in the order of their tables. -/
def objEntry1 : List ObjDef := [
  ⟨0x2C10, 1, 0x0, 0x7, 0x7, .u16, .ro, 15, 0, false, .any⟩,
  ⟨0x2C10, 1, 0x0, 0x8, 0x8, .u8, .ro, 15, 0, false, .any⟩,
  ⟨0x2C10, 1, 0x0, 0x9, 0x9, .u8, .ro, 15, 0, false, .any⟩,
  ⟨0x2C10, 1, 0x0, 0xA, 0xA, (.bytes 18), .ro, 15, 0, false, .any⟩,
  ⟨0x2C10, 1, 0x0, 0xB, 0xD, .i32, .ro, 15, 0, false, .any⟩,
  ⟨0x2C10, 1, 0x0, 0xE, 0xE, .u16, .ro, 15, 0, false, .any⟩,
  ⟨0x2C10, 1, 0x0, 0xF, 0xF, .u32, .ro, 15, 0, false, .any⟩,
  ⟨0x2C10, 1, 0x0, 0x10, 0x10, .i32, .ro, 15, 0, false, .any⟩,
  ⟨0x2C10, 1, 0x0, 0x11, 0x11, .i32, .ro, 15, 0, false, .any⟩,
  ⟨0x2C10, 1, 0x0, 0x12, 0x12, (.bytes 3), .ro, 15, 0, false, .any⟩,
  ⟨0x2C10, 1, 0x0, 0x13, 0x13, .u8, .ro, 15, 0, false, .any⟩,
  ⟨0x2C10, 1, 0x0, 0x14, 0x14, .u8, .ro, 15, 0, false, .any⟩,
  ⟨0x2C10, 1, 0x0, 0x15, 0x15, .u8, .ro, 15, 0, false, .any⟩,
  ⟨0x2C10, 1, 0x0, 0x16, 0x16, .u32, .ro, 15, 0, false, .any⟩,
  ⟨0x2C10, 1, 0x0, 0x17, 0x17, .u8, .ro, 15, 0, false, .any⟩,
  ⟨0x2C21, 1, 0x0, 0x1, 0x80, (.bytes 8), .ro, 15, 0, false, .any⟩,
  ⟨0x2C22, 1, 0x0, 0x1, 0x80, .u8, .rw, 3, 0, true, .rng 0 2⟩,
  ⟨0x2C23, 1, 0x0, 0x1, 0x1, (.bytes 8), .wo, 2, 0, false, .any⟩,
  ⟨0x2C23, 1, 0x0, 0x2, 0x2, .u8, .rw, 2, 0, true, .rng 0 63⟩,
  ⟨0x2C23, 1, 0x0, 0x3, 0x3, (.bytes 84), .ro, 2, 0, false, .any⟩,
  ⟨0x2C23, 1, 0x0, 0x4, 0x4, .u8, .wo, 2, 0, false, .rng 1 2⟩,
  ⟨0x2C30, 1, 0x0, 0x1, 0x1, .bool, .rw, 3, 0, true, .rng 0 1⟩,
  ⟨0x2C30, 1, 0x0, 0x2, 0x2, .u16, .rw, 3, 30, true, .rng 5 300⟩,
  ⟨0x2C30, 1, 0x0, 0x3, 0x3, .u16, .rw, 3, 1000, true, .rng 100 10000⟩,
  ⟨0x2C30, 1, 0x0, 0x4, 0x4, .u16, .rw, 3, 25000, true, .rng 2000 30000⟩,
  ⟨0x2C30, 1, 0x0, 0x5, 0x5, .u8, .ro, 15, 0, false, .any⟩,
  ⟨0x2C30, 1, 0x0, 0x6, 0x6, (.bytes 8), .ro, 15, 0, false, .any⟩,
  ⟨0x2C30, 1, 0x0, 0x7, 0x7, .bool, .rw, 3, 0, true, .rng 0 1⟩,
  ⟨0x2C30, 1, 0x0, 0x8, 0x8, (.bytes 8), .ro, 15, 0, false, .any⟩,
  ⟨0x2C31, 1, 0x0, 0x1, 0x4, (.bytes 8), .ro, 15, 0, false, .any⟩,
  ⟨0x2C32, 1, 0x0, 0x1, 0x4, (.bytes 84), .wo, 2, 0, false, .any⟩,
  ⟨0x2801, 1, 0x0, 0x1, 0x1, .u8, .ro, 15, 0, false, .any⟩,
  ⟨0x2801, 1, 0x0, 0x2, 0x2, .u32, .ro, 15, 0, false, .any⟩,
  ⟨0x2801, 1, 0x0, 0x3, 0x3, .u32, .ro, 15, 0, false, .any⟩,
  ⟨0x2801, 1, 0x0, 0x4, 0x4, .u32, .ro, 15, 0, false, .any⟩,
  ⟨0x2801, 1, 0x0, 0x5, 0x5, .u32, .ro, 15, 0, false, .any⟩,
  ⟨0x2801, 1, 0x0, 0x6, 0x6, .u32, .ro, 15, 0, false, .any⟩,
  ⟨0x2801, 1, 0x0, 0x7, 0x7, .u16, .ro, 15, 0, false, .any⟩,
  ⟨0x2802, 1, 0x0, 0x1, 0x1, .u8, .rw, 10, 36, true, .rng 12 80⟩,
  ⟨0x2802, 1, 0x0, 0x2, 0x2, .u8, .rw, 10, 60, true, .rng 24 120⟩]

/-- Object rows from 0x2802, in the order of their tables. -/
def objEntry2 : List ObjDef := [
  ⟨0x2802, 1, 0x0, 0x3, 0x3, .u16, .rw, 10, 1500, true, .rng 300 5000⟩,
  ⟨0x2802, 1, 0x0, 0x4, 0x4, .u16, .rw, 10, 600, true, .rng 100 2000⟩,
  ⟨0x2802, 1, 0x0, 0x5, 0x5, .u16, .rw, 10, 2000, true, .rng 600 20000⟩,
  ⟨0x2802, 1, 0x0, 0x6, 0x6, .i16, .rw, 10, 24, true, .any⟩,
  ⟨0x2802, 1, 0x0, 0x7, 0x7, .i16, .rw, 10, 60, true, .any⟩,
  ⟨0x2802, 1, 0x0, 0x8, 0x8, .u16, .rw, 10, 2000, true, .rng 500 10000⟩,
  ⟨0x2810, 1, 0x0, 0x1, 0x1, (.bytes 16384), .rw, 11, 0, true, .any⟩,
  ⟨0x2811, 1, 0x0, 0x1, 0x1, .u32, .ro, 15, 0, false, .any⟩,
  ⟨0x2811, 1, 0x0, 0x2, 0x2, .u16, .ro, 15, 0, false, .any⟩,
  ⟨0x2811, 1, 0x0, 0x3, 0x3, .u32, .ro, 15, 0, false, .any⟩,
  ⟨0x2811, 1, 0x0, 0x4, 0x4, .u8, .ro, 15, 0, false, .any⟩,
  ⟨0x2811, 1, 0x0, 0x5, 0x5, .u8, .ro, 15, 0, false, .any⟩,
  ⟨0x2811, 1, 0x0, 0x6, 0x6, .u8, .ro, 15, 0, false, .any⟩,
  ⟨0x2821, 1, 0x0, 0x1, 0x3, .i16, .ro, 15, 0, false, .any⟩,
  ⟨0x2821, 1, 0x0, 0x4, 0x4, .u16, .ro, 15, 0, false, .any⟩,
  ⟨0x2821, 1, 0x0, 0x5, 0x5, .u8, .ro, 15, 0, false, .any⟩,
  ⟨0x2821, 1, 0x0, 0x6, 0x6, .u8, .ro, 15, 0, false, .any⟩,
  ⟨0x2821, 1, 0x0, 0x7, 0x7, .u8, .ro, 15, 0, false, .any⟩,
  ⟨0x2821, 1, 0x0, 0x8, 0x8, .u8, .ro, 15, 0, false, .any⟩,
  ⟨0x2821, 1, 0x0, 0x9, 0x9, .u16, .ro, 15, 65535, false, .any⟩,
  ⟨0x2821, 1, 0x0, 0xA, 0xA, .i16, .ro, 15, 0, false, .any⟩,
  ⟨0x2821, 1, 0x0, 0xB, 0xB, .u16, .ro, 15, 0, false, .any⟩,
  ⟨0x2821, 1, 0x0, 0xC, 0xC, .u8, .ro, 15, 0, false, .any⟩,
  ⟨0x2821, 1, 0x0, 0xD, 0xD, .u16, .ro, 15, 0, false, .any⟩,
  ⟨0x2821, 1, 0x0, 0xE, 0xE, .i16, .ro, 15, 0, false, .any⟩,
  ⟨0x2821, 1, 0x0, 0xF, 0xF, .u32, .ro, 15, 0, false, .any⟩,
  ⟨0x2821, 1, 0x0, 0x10, 0x10, .u8, .ro, 15, 0, false, .any⟩,
  ⟨0x2901, 1, 0x0, 0x1, 0x1, .u8, .rw, 15, 48, true, .mask 0xFE⟩,
  ⟨0x2901, 1, 0x0, 0x2, 0x2, .u8, .rw, 15, 2, true, .mask 0xFE⟩,
  ⟨0x2901, 1, 0x0, 0x3, 0x3, .u8, .rw, 15, 0, true, .rng 0 1⟩,
  ⟨0x2901, 1, 0x0, 0x4, 0x4, .u16, .rw, 15, 300, true, .rng 100 2000⟩,
  ⟨0x2901, 1, 0x0, 0x5, 0x5, .u16, .rw, 15, 30, true, .rng 5 600⟩,
  ⟨0x2901, 1, 0x0, 0x6, 0x6, .u8, .rw, 15, 2, true, .rng 1 4⟩,
  ⟨0x2901, 1, 0x0, 0x7, 0x7, .bool, .rw, 15, 1, true, .rng 0 1⟩,
  ⟨0x2901, 1, 0x0, 0x8, 0x8, .bool, .rw, 15, 1, true, .rng 0 1⟩,
  ⟨0x2901, 1, 0x0, 0x9, 0x9, .bool, .rw, 15, 1, true, .rng 0 1⟩,
  ⟨0x2901, 1, 0x0, 0xA, 0xA, .u16, .rw, 15, 0, true, .rng 0 600⟩,
  ⟨0x2901, 1, 0x0, 0xB, 0xB, .u16, .rw, 15, 10, true, .rng 5 120⟩,
  ⟨0x2902, 1, 0x0, 0x1, 0x1, .u8, .rw, 15, 1, true, .rng 0 2⟩,
  ⟨0x2902, 1, 0x0, 0x2, 0x2, .u8, .rw, 15, 2, true, .rng 2 4⟩]

/-- Object rows from 0x2902, in the order of their tables. -/
def objEntry3 : List ObjDef := [
  ⟨0x2902, 1, 0x0, 0x3, 0x3, .u16, .rw, 15, 100, true, .rng 50 1000⟩,
  ⟨0x2903, 1, 0x0, 0x1, 0x1, .u16, .ro, 15, 2000, false, .any⟩,
  ⟨0x2903, 1, 0x0, 0x2, 0x2, .u16, .ro, 15, 500, false, .any⟩,
  ⟨0x2904, 1, 0x0, 0x1, 0x1, .u8, .ro, 15, 0, false, .any⟩,
  ⟨0x2904, 1, 0x0, 0x2, 0x2, .i16, .ro, 15, 0, false, .any⟩,
  ⟨0x2904, 1, 0x0, 0x3, 0x3, .u32, .ro, 15, 0, false, .any⟩,
  ⟨0x2905, 1, 0x0, 0x1, 0x1, .u8, .ro, 15, 0, false, .any⟩,
  ⟨0x2905, 1, 0x0, 0x2, 0x2, .u32, .ro, 15, 0, false, .any⟩,
  ⟨0x2905, 1, 0x0, 0x3, 0x3, .u32, .ro, 15, 0, false, .any⟩,
  ⟨0x2905, 1, 0x0, 0x4, 0x4, .u8, .ro, 15, 0, false, .any⟩,
  ⟨0x2905, 1, 0x0, 0x5, 0x5, .u32, .ro, 15, 0, false, .any⟩,
  ⟨0x2906, 1, 0x0, 0x1, 0x1, (.bytes 8), .ro, 15, 0, false, .any⟩,
  ⟨0x2906, 1, 0x0, 0x2, 0x2, (.bytes 8), .ro, 15, 0, false, .any⟩,
  ⟨0x2906, 1, 0x0, 0x3, 0x3, .u8, .ro, 15, 0, false, .any⟩,
  ⟨0x2A10, 1, 0x0, 0x1, 0x1, .u16, .rw, 3, 160, true, .rng 0 0x7FF⟩,
  ⟨0x2A10, 1, 0x0, 0x2, 0x2, .u8, .rw, 3, 1, true, .rng 1 3⟩,
  ⟨0x2A10, 1, 0x0, 0x3, 0x3, .u8, .ro, 15, 12, false, .any⟩,
  ⟨0x2A10, 1, 0x0, 0x4, 0x4, .bool, .rw, 3, 1, true, .rng 0 1⟩,
  ⟨0x2A11, 1, 0x0, 0x1, 0x1, .u32, .ro, 15, 0, false, .any⟩,
  ⟨0x2A11, 1, 0x0, 0x2, 0x2, .u32, .ro, 15, 0, false, .any⟩,
  ⟨0x2A20, 1, 0x0, 0x1, 0x1, .u8, .wo, 1, 0, false, .rng 1 5⟩,
  ⟨0x2A21, 1, 0x0, 0x1, 0x1, .u16, .rw, 3, 161, true, .rng 0 0x7FF⟩,
  ⟨0x2A21, 1, 0x0, 0x2, 0x2, .u8, .rw, 3, 1, true, .rng 1 3⟩,
  ⟨0x2A21, 1, 0x0, 0x3, 0x3, .bool, .rw, 3, 1, true, .rng 0 1⟩,
  ⟨0x2A22, 1, 0x0, 0x1, 0x1, .u8, .rw, 3, 0, true, .rng 0 1⟩,
  ⟨0x2A22, 1, 0x0, 0x2, 0x2, .u16, .rw, 3, 162, true, .rng 0 0x7FF⟩,
  ⟨0x2A22, 1, 0x0, 0x3, 0x3, .u8, .rw, 3, 0, true, .maskNe 0x3F 8⟩,
  ⟨0x2A22, 1, 0x0, 0x4, 0x4, .u16, .rw, 3, 1000, true, .rng 100 5000⟩,
  ⟨0x2A22, 1, 0x0, 0x5, 0x5, .bool, .rw, 1, 0, false, .rng 0 1⟩,
  ⟨0x2A22, 1, 0x0, 0x6, 0x6, .bool, .ro, 15, 0, false, .any⟩,
  ⟨0x2A30, 1, 0x0, 0x1, 0x1, .u8, .ro, 15, 0, false, .any⟩,
  ⟨0x2A30, 1, 0x0, 0x2, 0x2, .u8, .ro, 15, 0, false, .any⟩,
  ⟨0x2A30, 1, 0x0, 0x3, 0x3, .u8, .ro, 15, 0, false, .any⟩,
  ⟨0x2A30, 1, 0x0, 0x4, 0x4, .u8, .ro, 15, 0, false, .any⟩,
  ⟨0x2A30, 1, 0x0, 0x5, 0x5, .u8, .ro, 15, 255, false, .any⟩,
  ⟨0x2A30, 1, 0x0, 0x6, 0x6, .u8, .ro, 15, 255, false, .any⟩,
  ⟨0x2A30, 1, 0x0, 0x7, 0x7, .u8, .ro, 15, 0, false, .any⟩,
  ⟨0x2A30, 1, 0x0, 0x8, 0x8, .u32, .ro, 15, 0, false, .any⟩,
  ⟨0x2A30, 1, 0x0, 0x9, 0x9, .u8, .ro, 15, 0, false, .any⟩,
  ⟨0x2A31, 1, 0x0, 0x1, 0x1, .u8, .ro, 15, 0, false, .any⟩]

/-- Object rows from 0x2A31, in the order of their tables. -/
def objEntry4 : List ObjDef := [
  ⟨0x2A31, 1, 0x0, 0x2, 0x2, .u16, .ro, 15, 0, false, .any⟩,
  ⟨0x2A31, 1, 0x0, 0x3, 0x3, .u32, .ro, 15, 0, false, .any⟩,
  ⟨0x2A31, 1, 0x0, 0x4, 0x4, .u32, .ro, 15, 0, false, .any⟩]

/-- Object rows of the indices 0x2800 to 0x2FFF. -/
def objEntry : List ObjDef := objEntry0 ++ objEntry1 ++ objEntry2 ++ objEntry3 ++ objEntry4

/-- Object rows from 0x3001, in the order of their tables. -/
def objTag0 : List ObjDef := [
  ⟨0x3001, 1, 0x0, 0x1, 0x1, .u8, .ro, 15, 0, false, .any⟩,
  ⟨0x3001, 1, 0x0, 0x2, 0x2, .u8, .ro, 15, 0, false, .any⟩,
  ⟨0x3001, 1, 0x0, 0x3, 0x3, .u16, .ro, 15, 0, false, .any⟩,
  ⟨0x3002, 1, 0x0, 0x1, 0x1, .u32, .ro, 15, 0, false, .any⟩,
  ⟨0x3002, 1, 0x0, 0x2, 0x2, .u32, .ro, 15, 0, false, .any⟩,
  ⟨0x3002, 1, 0x0, 0x3, 0x3, .u32, .ro, 15, 0, false, .any⟩,
  ⟨0x3002, 1, 0x0, 0x4, 0x4, .u32, .ro, 15, 0, false, .any⟩,
  ⟨0x3002, 1, 0x0, 0x5, 0x5, .u32, .ro, 15, 0, false, .any⟩,
  ⟨0x3002, 1, 0x0, 0x6, 0x6, .u32, .ro, 15, 0, false, .any⟩,
  ⟨0x3002, 1, 0x0, 0x7, 0x7, .u32, .ro, 15, 0, false, .any⟩,
  ⟨0x3010, 1, 0x0, 0x1, 0x1, .bool, .rw, 10, 1, true, .any⟩,
  ⟨0x3010, 1, 0x0, 0x2, 0x2, .bool, .rw, 10, 1, true, .rng 0 1⟩,
  ⟨0x3011, 1, 0x0, 0x1, 0x1, (.bytes 4), .ro, 15, 0, false, .any⟩,
  ⟨0x3011, 1, 0x0, 0x2, 0x2, (.bytes 7), .ro, 15, 0, false, .any⟩,
  ⟨0x3012, 1, 0x0, 0x1, 0x1, (.bytes 32), .rw, 3, 0, true, .any⟩,
  ⟨0x3012, 1, 0x0, 0x2, 0x2, .u8, .rw, 3, 6, true, .rng 1 16⟩,
  ⟨0x3013, 1, 0x0, 0x1, 0x1, (.bytes 4), .wo, 10, 0, false, .any⟩,
  ⟨0x3020, 1, 0x0, 0x1, 0x1, .u8, .rw, 15, 3, false, .rng 1 4⟩,
  ⟨0x3020, 1, 0x0, 0x2, 0x2, .u16, .rw, 15, 0, false, .any⟩,
  ⟨0x3020, 1, 0x0, 0x3, 0x3, .u8, .rw, 15, 128, false, .rng 1 128⟩,
  ⟨0x3020, 1, 0x0, 0x4, 0x4, (.bytes 256), .rw, 15, 0, false, .any⟩,
  ⟨0x3021, 1, 0x0, 0x1, 0x1, .bool, .rw, 3, 0, true, .rng 0 1⟩,
  ⟨0x3021, 1, 0x0, 0x2, 0x2, .bool, .rw, 3, 0, true, .rng 0 1⟩,
  ⟨0x3021, 1, 0x0, 0x3, 0x3, .bool, .rw, 3, 0, true, .rng 0 1⟩,
  ⟨0x3021, 1, 0x0, 0x4, 0x4, .u8, .ro, 15, 0, false, .any⟩,
  ⟨0x3030, 1, 0x0, 0x1, 0x1, .u16, .rw, 10, 600, true, .rng 300 3600⟩,
  ⟨0x3030, 1, 0x0, 0x2, 0x2, .u16, .ro, 15, 60, false, .any⟩,
  ⟨0x3030, 1, 0x0, 0x3, 0x3, .u8, .ro, 15, 48, false, .any⟩,
  ⟨0x3030, 1, 0x0, 0x4, 0x4, .u32, .ro, 15, 0, false, .any⟩,
  ⟨0x3030, 1, 0x0, 0x5, 0x5, .u8, .ro, 15, 0, false, .any⟩,
  ⟨0x3030, 1, 0x0, 0x6, 0x6, .u16, .ro, 15, 0, false, .any⟩,
  ⟨0x3030, 1, 0x0, 0x7, 0x7, .u8, .wo, 2, 0, false, .rng 1 1⟩,
  ⟨0x3040, 1, 0x0, 0x1, 0x1, (.bytes 4), .wo, 2, 0, false, .any⟩,
  ⟨0x3050, 1, 0x0, 0x1, 0x1, .bool, .rw, 1, 0, true, .rng 0 1⟩,
  ⟨0x3050, 1, 0x0, 0x2, 0x2, .u8, .rw, 1, 0, true, .rng 0 1⟩,
  ⟨0x3050, 1, 0x0, 0x3, 0x3, .u32, .ro, 15, 0, false, .any⟩,
  ⟨0x3701, 1, 0x0, 0x1, 0x1, .u8, .ro, 15, 0, false, .any⟩,
  ⟨0x3701, 1, 0x0, 0x2, 0x2, .u16, .ro, 15, 0, false, .any⟩,
  ⟨0x3701, 1, 0x0, 0x3, 0x3, .u32, .ro, 15, 0, false, .any⟩,
  ⟨0x3701, 1, 0x0, 0x4, 0x4, .u32, .ro, 15, 0, false, .any⟩]

/-- Object rows from 0x3702, in the order of their tables. -/
def objTag1 : List ObjDef := [
  ⟨0x3702, 1, 0x0, 0x1, 0x1, .u8, .rw, 15, 0, false, .rng 0 63⟩,
  ⟨0x3702, 1, 0x0, 0x2, 0x2, .u32, .ro, 15, 0, false, .any⟩,
  ⟨0x3710, 1, 0x0, 0x1, 0x1, .u8, .ro, 15, 0, false, .any⟩,
  ⟨0x3710, 1, 0x0, 0x2, 0x2, .u16, .ro, 15, 0, false, .any⟩,
  ⟨0x3710, 1, 0x0, 0x3, 0x3, .bool, .ro, 15, 0, false, .any⟩,
  ⟨0x3710, 1, 0x0, 0x4, 0x4, .u32, .ro, 15, 0, false, .any⟩,
  ⟨0x3710, 1, 0x0, 0x5, 0x5, .u8, .ro, 15, 0, false, .any⟩,
  ⟨0x3710, 1, 0x0, 0x6, 0x6, .u8, .ro, 15, 0, false, .any⟩,
  ⟨0x3710, 1, 0x0, 0x7, 0x7, .u32, .ro, 15, 0, false, .any⟩,
  ⟨0x3710, 1, 0x0, 0x8, 0x8, (.bytes 3), .ro, 15, 0, false, .any⟩,
  ⟨0x3710, 1, 0x0, 0x9, 0x9, (.bytes 97), .ro, 15, 0, false, .any⟩,
  ⟨0x3720, 1, 0x0, 0x1, 0x1, .u8, .rw, 11, 0, false, .rng 0 63⟩,
  ⟨0x3720, 1, 0x0, 0x2, 0x2, .u8, .rw, 11, 1, false, .oneOf [1, 2, 3, 16, 17, 18, 19, 20, 21]⟩,
  ⟨0x3720, 1, 0x0, 0x3, 0x3, .u16, .rw, 11, 0, false, .any⟩,
  ⟨0x3720, 1, 0x0, 0x4, 0x4, .bool, .rw, 11, 1, false, .rng 0 1⟩,
  ⟨0x3720, 1, 0x0, 0x5, 0x5, (.bytes 76), .wo, 11, 0, false, .any⟩,
  ⟨0x3720, 1, 0x0, 0x6, 0x6, .u8, .wo, 11, 0, false, .rng 1 6⟩,
  ⟨0x3720, 1, 0x0, 0x7, 0x7, .u16, .ro, 11, 0, false, .any⟩,
  ⟨0x3730, 1, 0x0, 0x1, 0x8, (.bytes 108), .rw, 15, 0, true, .any⟩,
  ⟨0x3731, 1, 0x0, 0x1, 0x1, (.bytes 206), .wo, 10, 0, false, .any⟩,
  ⟨0x3732, 1, 0x0, 0x1, 0x20, (.bytes 8), .rw, 10, 0, true, .any⟩,
  ⟨0x3733, 1, 0x0, 0x1, 0x1, .u8, .ro, 15, 0, false, .any⟩,
  ⟨0x3733, 1, 0x0, 0x2, 0x2, .u32, .ro, 15, 0, false, .any⟩,
  ⟨0x3733, 1, 0x0, 0x3, 0x3, .u32, .ro, 15, 0, false, .any⟩,
  ⟨0x3740, 1, 0x0, 0x1, 0x1, (.bytes 2030), .rw, 10, 0, true, .any⟩,
  ⟨0x3740, 1, 0x0, 0x2, 0x2, .u16, .rw, 10, 0, true, .rng 0 2030⟩,
  ⟨0x3401, 1, 0x0, 0x1, 0x1, .u8, .ro, 15, 4, false, .any⟩,
  ⟨0x3401, 1, 0x0, 0x2, 0x2, .u32, .ro, 15, 0, false, .any⟩,
  ⟨0x3401, 1, 0x0, 0x3, 0x3, .u32, .ro, 15, 0, false, .any⟩,
  ⟨0x3401, 1, 0x0, 0x4, 0x4, .u32, .ro, 15, 0, false, .any⟩,
  ⟨0x3410, 1, 0x0, 0x1, 0x1, .u8, .rw, 11, 4, false, .rng 1 6⟩,
  ⟨0x3410, 1, 0x0, 0x2, 0x2, .u8, .rw, 11, 0, false, .rng 0 1⟩,
  ⟨0x3410, 1, 0x0, 0x3, 0x3, .u8, .rw, 11, 32, false, .rng 0 63⟩,
  ⟨0x3410, 1, 0x0, 0x4, 0x4, (.bytes 16), .rw, 11, 0, false, .any⟩,
  ⟨0x3410, 1, 0x0, 0x5, 0x5, .u8, .rw, 11, 12, false, .rng 0 16⟩,
  ⟨0x3410, 1, 0x0, 0x6, 0x6, .u8, .rw, 11, 16, false, .rng 0 16⟩,
  ⟨0x3410, 1, 0x0, 0x7, 0x7, .u8, .rw, 11, 0, false, .rng 0 1⟩,
  ⟨0x3410, 1, 0x0, 0x8, 0x8, .u8, .rw, 11, 32, false, .oneOf [32, 64, 128]⟩,
  ⟨0x3410, 1, 0x0, 0x9, 0x9, .u16, .rw, 11, 0, false, .rng 0 256⟩,
  ⟨0x3410, 1, 0x0, 0xA, 0xA, .u16, .rw, 11, 0, false, .rng 0 4096⟩]

/-- Object rows from 0x3411, in the order of their tables. -/
def objTag2 : List ObjDef := [
  ⟨0x3411, 1, 0x0, 0x1, 0x1, (.bytes 256), .wo, 11, 0, false, .any⟩,
  ⟨0x3411, 1, 0x0, 0x2, 0x2, (.bytes 4096), .wo, 11, 0, false, .any⟩,
  ⟨0x3411, 1, 0x0, 0x3, 0x3, (.bytes 16), .wo, 11, 0, false, .any⟩,
  ⟨0x3412, 1, 0x0, 0x1, 0x1, .u8, .wo, 11, 0, false, .rng 1 1⟩,
  ⟨0x3412, 1, 0x0, 0x2, 0x2, .u8, .ro, 11, 0, false, .any⟩,
  ⟨0x3412, 1, 0x0, 0x3, 0x3, .u8, .ro, 11, 0, false, .any⟩,
  ⟨0x3412, 1, 0x0, 0x4, 0x4, .u16, .ro, 11, 0, false, .any⟩,
  ⟨0x3412, 1, 0x0, 0x5, 0x5, (.bytes 4112), .ro, 11, 0, false, .any⟩,
  ⟨0x3412, 1, 0x0, 0x6, 0x6, (.bytes 16), .ro, 11, 0, false, .any⟩,
  ⟨0x3412, 1, 0x0, 0x7, 0x7, .u32, .ro, 11, 0, false, .any⟩,
  ⟨0x3412, 1, 0x0, 0x8, 0x8, .u8, .ro, 11, 0, false, .any⟩,
  ⟨0x3501, 1, 0x0, 0x1, 0x1, .u32, .ro, 15, 0, false, .any⟩,
  ⟨0x3501, 1, 0x0, 0x2, 0x2, .u32, .ro, 15, 0, false, .any⟩,
  ⟨0x3510, 1, 0x0, 0x1, 0x1, .u8, .rw, 11, 2, false, .rng 1 4⟩,
  ⟨0x3510, 1, 0x0, 0x2, 0x2, .u8, .rw, 11, 16, false, .oneOf [1, 2, 3, 16, 17, 18, 19, 20, 21]⟩,
  ⟨0x3510, 1, 0x0, 0x3, 0x3, .u8, .rw, 11, 1, false, .rng 1 3⟩,
  ⟨0x3510, 1, 0x0, 0x4, 0x4, .u8, .rw, 11, 56, false, .rng 0 63⟩,
  ⟨0x3510, 1, 0x0, 0x5, 0x5, .u8, .rw, 11, 0, false, .rng 0 1⟩,
  ⟨0x3510, 1, 0x0, 0x6, 0x6, .u16, .rw, 11, 0, false, .rng 0 4096⟩,
  ⟨0x3510, 1, 0x0, 0x7, 0x7, .u8, .rw, 11, 32, false, .rng 0 63⟩,
  ⟨0x3510, 1, 0x0, 0x8, 0x8, .u8, .rw, 11, 3, false, .rng 0 3⟩,
  ⟨0x3511, 1, 0x0, 0x1, 0x1, (.bytes 4096), .wo, 11, 0, false, .any⟩,
  ⟨0x3511, 1, 0x0, 0x2, 0x2, (.bytes 97), .wo, 11, 0, false, .any⟩,
  ⟨0x3511, 1, 0x0, 0x3, 0x3, (.bytes 96), .wo, 11, 0, false, .any⟩,
  ⟨0x3512, 1, 0x0, 0x1, 0x1, .u8, .wo, 11, 0, false, .rng 1 1⟩,
  ⟨0x3512, 1, 0x0, 0x2, 0x2, .u8, .ro, 11, 0, false, .any⟩,
  ⟨0x3512, 1, 0x0, 0x3, 0x3, .u8, .ro, 11, 0, false, .any⟩,
  ⟨0x3512, 1, 0x0, 0x4, 0x4, (.bytes 96), .ro, 11, 0, false, .any⟩,
  ⟨0x3512, 1, 0x0, 0x5, 0x5, (.bytes 64), .ro, 11, 0, false, .any⟩,
  ⟨0x3512, 1, 0x0, 0x6, 0x6, .u32, .ro, 11, 0, false, .any⟩,
  ⟨0x3601, 1, 0x0, 0x1, 0x1, .u8, .ro, 15, 0, false, .any⟩,
  ⟨0x3601, 1, 0x0, 0x2, 0x2, .u8, .ro, 15, 0, false, .any⟩,
  ⟨0x3601, 1, 0x0, 0x3, 0x3, .u8, .ro, 15, 0, false, .any⟩,
  ⟨0x3601, 1, 0x0, 0x4, 0x4, .u8, .ro, 15, 255, false, .any⟩,
  ⟨0x3602, 1, 0x0, 0x1, 0x1, .u32, .ro, 15, 0, false, .any⟩,
  ⟨0x3602, 1, 0x0, 0x2, 0x2, .u32, .ro, 15, 0, false, .any⟩,
  ⟨0x3602, 1, 0x0, 0x3, 0x3, .u32, .ro, 15, 0, false, .any⟩,
  ⟨0x3602, 1, 0x0, 0x4, 0x4, .u32, .ro, 15, 0, false, .any⟩,
  ⟨0x3603, 1, 0x0, 0x1, 0x4, .u16, .ro, 15, 0, false, .any⟩,
  ⟨0x3610, 1, 0x0, 0x1, 0x8, .u8, .ro, 15, 0, false, .any⟩]

/-- Object rows from 0x3611, in the order of their tables. -/
def objTag3 : List ObjDef := [
  ⟨0x3611, 1, 0x0, 0x1, 0x8, .u32, .ro, 15, 0, false, .any⟩,
  ⟨0x3620, 1, 0x0, 0x1, 0x1, (.bytes 32), .ro, 3, 0, false, .any⟩,
  ⟨0x3630, 1, 0x0, 0x1, 0x1, .u8, .rw, 8, 0, false, .rng 0 4⟩,
  ⟨0x3630, 1, 0x0, 0x2, 0x2, .u8, .rw, 8, 15, false, .mask 0xF⟩,
  ⟨0x3630, 1, 0x0, 0x3, 0x3, .u32, .ro, 8, 0, false, .any⟩,
  ⟨0x3630, 1, 0x0, 0x4, 0x4, (.bytes 512), .ro, 8, 0, false, .any⟩,
  ⟨0x3630, 1, 0x0, 0x5, 0x5, (.bytes 32), .ro, 8, 0, false, .any⟩]

/-- Object rows of the indices 0x3000 to 0x37FF. -/
def objTag : List ObjDef := objTag0 ++ objTag1 ++ objTag2 ++ objTag3

/-- Object rows from 0x3801, in the order of their tables. -/
def objStore0 : List ObjDef := [
  ⟨0x3801, 1, 0x0, 0x1, 0x1, .u16, .ro, 15, 20480, false, .any⟩,
  ⟨0x3801, 1, 0x0, 0x2, 0x2, .u16, .ro, 15, 0, false, .any⟩,
  ⟨0x3801, 1, 0x0, 0x3, 0x3, .u32, .ro, 15, 0, false, .any⟩,
  ⟨0x3801, 1, 0x0, 0x4, 0x4, .u32, .ro, 15, 0, false, .any⟩,
  ⟨0x3801, 1, 0x0, 0x5, 0x5, .u32, .ro, 15, 0, false, .any⟩,
  ⟨0x3801, 1, 0x0, 0x6, 0x6, .bool, .ro, 15, 0, false, .any⟩,
  ⟨0x3801, 1, 0x0, 0x7, 0x7, .u32, .ro, 15, 0, false, .any⟩,
  ⟨0x3801, 1, 0x0, 0x8, 0x8, .u8, .ro, 15, 0, false, .any⟩,
  ⟨0x3801, 1, 0x0, 0x9, 0x9, .u32, .ro, 15, 0, false, .any⟩,
  ⟨0x3802, 1, 0x0, 0x1, 0x2, .u16, .ro, 15, 0, false, .any⟩,
  ⟨0x3802, 1, 0x0, 0x3, 0x3, .u32, .ro, 15, 0, false, .any⟩,
  ⟨0x3802, 1, 0x0, 0x4, 0x4, .u32, .ro, 15, 0, false, .any⟩,
  ⟨0x3802, 1, 0x0, 0x5, 0x5, .u32, .ro, 15, 0, false, .any⟩,
  ⟨0x3802, 1, 0x0, 0x6, 0x6, .u32, .ro, 15, 0, false, .any⟩,
  ⟨0x3802, 1, 0x0, 0x7, 0x7, .u64, .ro, 15, 0, false, .any⟩,
  ⟨0x3810, 1, 0x0, 0x1, 0x40, .u64, .ro, 15, 0, false, .any⟩,
  ⟨0x3811, 1, 0x0, 0x1, 0x40, .u16, .wo, 11, 0, false, .rng 1 65535⟩,
  ⟨0x3812, 1, 0x0, 0x1, 0x40, .u32, .ro, 15, 0, false, .any⟩,
  ⟨0x3813, 1, 0x0, 0x1, 0x40, .u8, .ro, 15, 0, false, .any⟩,
  ⟨0x3A01, 1, 0x0, 0x1, 0x1, .u16, .rws, 10, 4096, true, .oneOf [2048, 4096]⟩,
  ⟨0x3A01, 1, 0x0, 0x2, 0x2, .u16, .rws, 10, 4096, true, .rng 1024 8192⟩,
  ⟨0x3A01, 1, 0x0, 0x3, 0x3, .u8, .rws, 10, 2, true, .rng 1 8⟩,
  ⟨0x3A01, 1, 0x0, 0x4, 0x4, (.bytes 2), .rws, 10, 0, true, .any⟩,
  ⟨0x3A01, 1, 0x0, 0x5, 0x5, .u8, .wo, 10, 0, false, .rng 1 1⟩,
  ⟨0x3A02, 1, 0x0, 0x1, 0x1, .u8, .ro, 15, 0, false, .any⟩,
  ⟨0x3A02, 1, 0x0, 0x2, 0x2, .u64, .ro, 15, 0, false, .any⟩,
  ⟨0x3A02, 1, 0x0, 0x3, 0x3, .u64, .ro, 15, 0, false, .any⟩,
  ⟨0x3A02, 1, 0x0, 0x4, 0x4, .u64, .ro, 15, 0, false, .any⟩,
  ⟨0x3A02, 1, 0x0, 0x5, 0x5, .u32, .ro, 15, 0, false, .any⟩,
  ⟨0x3A02, 1, 0x0, 0x6, 0x6, .u16, .ro, 15, 0, false, .any⟩,
  ⟨0x3A02, 1, 0x0, 0x7, 0x7, .u32, .ro, 15, 0, false, .any⟩,
  ⟨0x3A02, 1, 0x0, 0x8, 0x8, .u32, .ro, 15, 0, false, .any⟩,
  ⟨0x3A02, 1, 0x0, 0x9, 0x9, .u32, .ro, 15, 0, false, .any⟩,
  ⟨0x3A02, 1, 0x0, 0xA, 0xA, .u64, .ro, 15, 0, false, .any⟩,
  ⟨0x3A02, 1, 0x0, 0xB, 0xB, (.bytes 2), .ro, 15, 0, false, .any⟩,
  ⟨0x3A02, 1, 0x0, 0xC, 0xC, .u32, .ro, 15, 0, false, .any⟩,
  ⟨0x3A03, 1, 0x0, 0x1, 0x1, .u16, .rw, 3, 2, true, .rng 1 60⟩,
  ⟨0x3A03, 1, 0x0, 0x2, 0x2, .u16, .rw, 10, 256, true, .rng 16 4096⟩,
  ⟨0x3A03, 1, 0x0, 0x3, 0x3, .u16, .rw, 10, 60, true, .rng 10 3600⟩,
  ⟨0x3A20, 1, 0x0, 0x1, 0x1, .u64, .rw, 7, 0, false, .any⟩]

/-- Object rows from 0x3A20, in the order of their tables. -/
def objStore1 : List ObjDef := [
  ⟨0x3A20, 1, 0x0, 0x2, 0x2, .u32, .rw, 7, 0x100000, false, .any⟩,
  ⟨0x3A20, 1, 0x0, 0x3, 0x3, .u8, .wo, 7, 0, false, .rng 1 1⟩,
  ⟨0x3A20, 1, 0x0, 0x4, 0x4, .u32, .ro, 7, 0, false, .any⟩,
  ⟨0x3A20, 1, 0x0, 0x5, 0x5, .u64, .ro, 7, 0, false, .any⟩,
  ⟨0x3A20, 1, 0x0, 0x6, 0x6, .u64, .ro, 7, 0, false, .any⟩,
  ⟨0x3A20, 1, 0x0, 0x7, 0x7, .u8, .ro, 7, 0, false, .any⟩,
  ⟨0x3A21, 1, 0x0, 0x1, 0x1, (.bytes 1048576), .ro, 7, 0, false, .any⟩]

/-- Object rows of the indices 0x3800 to 0x3FFF. -/
def objStore : List ObjDef := objStore0 ++ objStore1

/-- Object rows from 0x4001, in the order of their tables. -/
def objBus0 : List ObjDef := [
  ⟨0x4001, 1, 0x0, 0x1, 0x1, .bool, .ro, 15, 0, false, .any⟩,
  ⟨0x4001, 1, 0x0, 0x2, 0x2, .u16, .ro, 15, 0, false, .any⟩,
  ⟨0x4101, 1, 0x0, 0x1, 0x1, .bool, .rw, 3, 1, true, .rng 0 1⟩,
  ⟨0x4201, 1, 0x0, 0x1, 0x1, .bool, .rw, 3, 1, true, .rng 0 1⟩,
  ⟨0x4101, 1, 0x0, 0x2, 0x2, .u8, .rws, 11, 0, true, .rng 0 3⟩,
  ⟨0x4201, 1, 0x0, 0x2, 0x2, .u8, .rws, 11, 0, true, .rng 0 3⟩,
  ⟨0x4101, 1, 0x0, 0x3, 0x3, .bool, .rws, 3, 1, true, .rng 0 1⟩,
  ⟨0x4201, 1, 0x0, 0x3, 0x3, .bool, .rws, 3, 1, true, .rng 0 1⟩,
  ⟨0x4101, 1, 0x0, 0x4, 0x4, .u8, .rws, 3, 1, true, .rng 1 32⟩,
  ⟨0x4201, 1, 0x0, 0x4, 0x4, .u8, .rws, 3, 1, true, .rng 1 32⟩,
  ⟨0x4101, 1, 0x0, 0x5, 0x5, .u16, .rws, 3, 127, true, .rng 2 256⟩,
  ⟨0x4201, 1, 0x0, 0x5, 0x5, .u16, .rws, 3, 127, true, .rng 2 256⟩,
  ⟨0x4101, 1, 0x0, 0x6, 0x6, .u8, .rws, 3, 32, true, .rng 1 128⟩,
  ⟨0x4201, 1, 0x0, 0x6, 0x6, .u8, .rws, 3, 32, true, .rng 1 128⟩,
  ⟨0x4101, 1, 0x0, 0x7, 0x7, .u8, .rws, 3, 32, true, .rng 1 128⟩,
  ⟨0x4201, 1, 0x0, 0x7, 0x7, .u8, .rws, 3, 32, true, .rng 1 128⟩,
  ⟨0x4101, 1, 0x0, 0x8, 0x8, .bool, .rws, 3, 0, true, .rng 0 1⟩,
  ⟨0x4201, 1, 0x0, 0x8, 0x8, .bool, .rws, 3, 0, true, .rng 0 1⟩,
  ⟨0x4101, 1, 0x0, 0x9, 0x9, .u8, .rws, 3, 1, true, .rng 1 32⟩,
  ⟨0x4201, 1, 0x0, 0x9, 0x9, .u8, .rws, 3, 1, true, .rng 1 32⟩,
  ⟨0x4101, 1, 0x0, 0xA, 0xA, .u8, .rws, 3, 29, true, .rng 1 32⟩,
  ⟨0x4201, 1, 0x0, 0xA, 0xA, .u8, .rws, 3, 29, true, .rng 1 32⟩,
  ⟨0x4101, 1, 0x0, 0xB, 0xB, .u8, .rws, 3, 10, true, .rng 1 16⟩,
  ⟨0x4201, 1, 0x0, 0xB, 0xB, .u8, .rws, 3, 10, true, .rng 1 16⟩,
  ⟨0x4101, 1, 0x0, 0xC, 0xC, .u8, .rws, 3, 10, true, .rng 1 16⟩,
  ⟨0x4201, 1, 0x0, 0xC, 0xC, .u8, .rws, 3, 10, true, .rng 1 16⟩,
  ⟨0x4101, 1, 0x0, 0xD, 0xD, .bool, .rws, 3, 1, true, .rng 0 1⟩,
  ⟨0x4201, 1, 0x0, 0xD, 0xD, .bool, .rws, 3, 1, true, .rng 0 1⟩,
  ⟨0x4101, 1, 0x0, 0xE, 0xE, .u8, .rws, 3, 30, true, .rng 0 127⟩,
  ⟨0x4201, 1, 0x0, 0xE, 0xE, .u8, .rws, 3, 30, true, .rng 0 127⟩,
  ⟨0x4101, 1, 0x0, 0xF, 0xF, .u8, .rw, 3, 0, true, .rng 0 1⟩,
  ⟨0x4201, 1, 0x0, 0xF, 0xF, .u8, .rw, 3, 0, true, .rng 0 1⟩,
  ⟨0x4101, 1, 0x0, 0x10, 0x10, .u8, .rw, 3, 0, true, .rng 0 1⟩,
  ⟨0x4201, 1, 0x0, 0x10, 0x10, .u8, .rw, 3, 0, true, .rng 0 1⟩,
  ⟨0x4101, 1, 0x0, 0x11, 0x11, .u16, .rw, 3, 100, true, .rng 0 10000⟩,
  ⟨0x4201, 1, 0x0, 0x11, 0x11, .u16, .rw, 3, 100, true, .rng 0 10000⟩,
  ⟨0x4101, 1, 0x0, 0x12, 0x12, .u32, .ro, 15, 0x7a120, false, .any⟩,
  ⟨0x4201, 1, 0x0, 0x12, 0x12, .u32, .ro, 15, 0x7a120, false, .any⟩,
  ⟨0x4101, 1, 0x0, 0x13, 0x13, .u32, .ro, 15, 0x1e8480, false, .any⟩,
  ⟨0x4201, 1, 0x0, 0x13, 0x13, .u32, .ro, 15, 0x1e8480, false, .any⟩]

/-- Object rows from 0x4101, in the order of their tables. -/
def objBus1 : List ObjDef := [
  ⟨0x4101, 1, 0x0, 0x14, 0x14, .bool, .ro, 15, 0, false, .any⟩,
  ⟨0x4201, 1, 0x0, 0x14, 0x14, .bool, .ro, 15, 0, false, .any⟩,
  ⟨0x4101, 1, 0x0, 0x15, 0x15, .u8, .rw, 3, 0, true, .rng 0 255⟩,
  ⟨0x4201, 1, 0x0, 0x15, 0x15, .u8, .rw, 3, 0, true, .rng 0 255⟩,
  ⟨0x4102, 1, 0x0, 0x1, 0x1, .u8, .ro, 15, 0, false, .any⟩,
  ⟨0x4202, 1, 0x0, 0x1, 0x1, .u8, .ro, 15, 0, false, .any⟩,
  ⟨0x4102, 1, 0x0, 0x2, 0x2, .u16, .ro, 15, 0, false, .any⟩,
  ⟨0x4202, 1, 0x0, 0x2, 0x2, .u16, .ro, 15, 0, false, .any⟩,
  ⟨0x4102, 1, 0x0, 0x3, 0x3, .u8, .ro, 15, 0, false, .any⟩,
  ⟨0x4202, 1, 0x0, 0x3, 0x3, .u8, .ro, 15, 0, false, .any⟩,
  ⟨0x4102, 1, 0x0, 0x4, 0x4, .u8, .ro, 15, 0, false, .any⟩,
  ⟨0x4202, 1, 0x0, 0x4, 0x4, .u8, .ro, 15, 0, false, .any⟩,
  ⟨0x4102, 1, 0x0, 0x5, 0x5, .u8, .ro, 15, 0, false, .any⟩,
  ⟨0x4202, 1, 0x0, 0x5, 0x5, .u8, .ro, 15, 0, false, .any⟩,
  ⟨0x4102, 1, 0x0, 0x6, 0x6, .u8, .wo, 3, 0, false, .rng 1 1⟩,
  ⟨0x4202, 1, 0x0, 0x6, 0x6, .u8, .wo, 3, 0, false, .rng 1 1⟩,
  ⟨0x4103, 1, 0x0, 0x1, 0x1, .u32, .ro, 15, 0, false, .any⟩,
  ⟨0x4203, 1, 0x0, 0x1, 0x1, .u32, .ro, 15, 0, false, .any⟩,
  ⟨0x4103, 1, 0x0, 0x2, 0x2, .u32, .ro, 15, 0, false, .any⟩,
  ⟨0x4203, 1, 0x0, 0x2, 0x2, .u32, .ro, 15, 0, false, .any⟩,
  ⟨0x4103, 1, 0x0, 0x3, 0x3, .u32, .ro, 15, 0, false, .any⟩,
  ⟨0x4203, 1, 0x0, 0x3, 0x3, .u32, .ro, 15, 0, false, .any⟩,
  ⟨0x4103, 1, 0x0, 0x4, 0x4, .u32, .ro, 15, 0, false, .any⟩,
  ⟨0x4203, 1, 0x0, 0x4, 0x4, .u32, .ro, 15, 0, false, .any⟩,
  ⟨0x4103, 1, 0x0, 0x5, 0x5, .u32, .ro, 15, 0, false, .any⟩,
  ⟨0x4203, 1, 0x0, 0x5, 0x5, .u32, .ro, 15, 0, false, .any⟩,
  ⟨0x4103, 1, 0x0, 0x6, 0x6, .u32, .ro, 15, 0, false, .any⟩,
  ⟨0x4203, 1, 0x0, 0x6, 0x6, .u32, .ro, 15, 0, false, .any⟩,
  ⟨0x4103, 1, 0x0, 0x7, 0x7, .u32, .ro, 15, 0, false, .any⟩,
  ⟨0x4203, 1, 0x0, 0x7, 0x7, .u32, .ro, 15, 0, false, .any⟩,
  ⟨0x4110, 3, 0x1, 0x1, 0x1, .u32, .rw, 11, 0, false, .any⟩,
  ⟨0x4210, 3, 0x1, 0x1, 0x1, .u32, .rw, 11, 0, false, .any⟩,
  ⟨0x4110, 3, 0x1, 0x2, 0x2, .u8, .rw, 11, 0, false, .mask 0xF8⟩,
  ⟨0x4210, 3, 0x1, 0x2, 0x2, .u8, .rw, 11, 0, false, .mask 0xF8⟩,
  ⟨0x4110, 3, 0x1, 0x3, 0x3, .u8, .rw, 11, 0, false, .rng 0 15⟩,
  ⟨0x4210, 3, 0x1, 0x3, 0x3, .u8, .rw, 11, 0, false, .rng 0 15⟩,
  ⟨0x4110, 3, 0x1, 0x4, 0x4, (.bytes 64), .rw, 11, 0, false, .any⟩,
  ⟨0x4210, 3, 0x1, 0x4, 0x4, (.bytes 64), .rw, 11, 0, false, .any⟩,
  ⟨0x4110, 3, 0x1, 0x5, 0x5, .u8, .wo, 11, 0, false, .rng 1 2⟩,
  ⟨0x4210, 3, 0x1, 0x5, 0x5, .u8, .wo, 11, 0, false, .rng 1 2⟩]

/-- Object rows from 0x4110, in the order of their tables. -/
def objBus2 : List ObjDef := [
  ⟨0x4110, 3, 0x1, 0x6, 0x6, .u8, .ro, 15, 0, false, .any⟩,
  ⟨0x4210, 3, 0x1, 0x6, 0x6, .u8, .ro, 15, 0, false, .any⟩,
  ⟨0x4110, 3, 0x1, 0x7, 0x7, .u8, .ro, 15, 0, false, .any⟩,
  ⟨0x4210, 3, 0x1, 0x7, 0x7, .u8, .ro, 15, 0, false, .any⟩,
  ⟨0x4110, 3, 0x1, 0x8, 0x8, .u64, .ro, 15, 0, false, .any⟩,
  ⟨0x4210, 3, 0x1, 0x8, 0x8, .u64, .ro, 15, 0, false, .any⟩,
  ⟨0x4120, 1, 0x0, 0x1, 0x20, .u32, .rw, 3, 0, true, .mask 0x1FFFFFFF⟩,
  ⟨0x4220, 1, 0x0, 0x1, 0x20, .u32, .rw, 3, 0, true, .mask 0x1FFFFFFF⟩,
  ⟨0x4121, 1, 0x0, 0x1, 0x20, .u32, .rw, 3, 0, true, .mask 0x1FFFFFFF⟩,
  ⟨0x4221, 1, 0x0, 0x1, 0x20, .u32, .rw, 3, 0, true, .mask 0x1FFFFFFF⟩,
  ⟨0x4122, 1, 0x0, 0x1, 0x20, .u8, .rw, 3, 0, true, .maskLow 0xC3 2⟩,
  ⟨0x4222, 1, 0x0, 0x1, 0x20, .u8, .rw, 3, 0, true, .maskLow 0xC3 2⟩,
  ⟨0x4123, 1, 0x0, 0x1, 0x8, .u32, .ro, 15, 0, false, .any⟩,
  ⟨0x4223, 1, 0x0, 0x1, 0x8, .u32, .ro, 15, 0, false, .any⟩,
  ⟨0x4130, 1, 0x0, 0x1, 0x1, .u8, .ro, 15, 0, false, .any⟩,
  ⟨0x4230, 1, 0x0, 0x1, 0x1, .u8, .ro, 15, 0, false, .any⟩,
  ⟨0x4130, 1, 0x0, 0x2, 0x2, .u32, .ro, 15, 0, false, .any⟩,
  ⟨0x4230, 1, 0x0, 0x2, 0x2, .u32, .ro, 15, 0, false, .any⟩,
  ⟨0x4130, 1, 0x0, 0x3, 0x3, (.bytes 80), .ro, 3, 0, false, .any⟩,
  ⟨0x4230, 1, 0x0, 0x3, 0x3, (.bytes 80), .ro, 3, 0, false, .any⟩,
  ⟨0x4131, 1, 0x0, 0x1, 0x1, .u16, .ro, 15, 0, false, .any⟩,
  ⟨0x4231, 1, 0x0, 0x1, 0x1, .u16, .ro, 15, 0, false, .any⟩,
  ⟨0x4131, 1, 0x0, 0x2, 0x2, (.bytes 80), .ro, 3, 0, false, .any⟩,
  ⟨0x4231, 1, 0x0, 0x2, 0x2, (.bytes 80), .ro, 3, 0, false, .any⟩,
  ⟨0x4131, 1, 0x0, 0x3, 0x3, .u8, .wo, 3, 0, false, .rng 1 1⟩,
  ⟨0x4231, 1, 0x0, 0x3, 0x3, .u8, .wo, 3, 0, false, .rng 1 1⟩,
  ⟨0x4301, 1, 0x0, 0x1, 0x1, .u8, .rw, 3, 1, true, .rng 0 2⟩,
  ⟨0x4301, 1, 0x0, 0x2, 0x2, .u8, .rw, 3, 0, true, .rng 0 1⟩,
  ⟨0x4301, 1, 0x0, 0x3, 0x3, .u16, .rw, 3, 16, true, .rng 0 0x7FF⟩,
  ⟨0x4301, 1, 0x0, 0x4, 0x4, .u16, .rw, 3, 100, true, .rng 10 1000⟩,
  ⟨0x4301, 1, 0x0, 0x5, 0x5, .u8, .rw, 3, 8, true, .rng 0 15⟩,
  ⟨0x4301, 1, 0x0, 0x6, 0x6, .u8, .rw, 3, 3, true, .rng 2 10⟩,
  ⟨0x4301, 1, 0x0, 0x7, 0x7, .u8, .ro, 15, 10, false, .any⟩,
  ⟨0x4302, 1, 0x0, 0x1, 0x1, .u8, .ro, 15, 0, false, .any⟩,
  ⟨0x4302, 1, 0x0, 0x2, 0x2, .u64, .ro, 15, 0, false, .any⟩,
  ⟨0x4302, 1, 0x0, 0x3, 0x3, .bool, .ro, 15, 0, false, .any⟩,
  ⟨0x4302, 1, 0x0, 0x4, 0x4, .i32, .ro, 15, 0, false, .any⟩,
  ⟨0x4302, 1, 0x0, 0x5, 0x5, .u8, .ro, 15, 0, false, .any⟩,
  ⟨0x4302, 1, 0x0, 0x6, 0x6, .u32, .ro, 15, 0, false, .any⟩,
  ⟨0x4302, 1, 0x0, 0x7, 0x7, .u32, .ro, 15, 0, false, .any⟩]

/-- Object rows from 0x4302, in the order of their tables. -/
def objBus3 : List ObjDef := [
  ⟨0x4302, 1, 0x0, 0x8, 0x8, .u32, .ro, 15, 0, false, .any⟩,
  ⟨0x4302, 1, 0x0, 0x9, 0x9, .u8, .ro, 15, 255, false, .any⟩]

/-- Object rows of the indices 0x4000 to 0x43FF. -/
def objBus : List ObjDef := objBus0 ++ objBus1 ++ objBus2 ++ objBus3

/-- Object rows from 0x4501, in the order of their tables. -/
def objTime0 : List ObjDef := [
  ⟨0x4501, 1, 0x0, 0x1, 0x1, .u8, .wo, 11, 0, false, .any⟩,
  ⟨0x4501, 1, 0x0, 0x2, 0x2, .u8, .wo, 11, 0, false, .any⟩,
  ⟨0x4501, 1, 0x0, 0x3, 0x3, .u8, .wo, 11, 0, false, .any⟩,
  ⟨0x4510, 8, 0x1, 0x1, 0x1, .u8, .rw, 11, 0, false, .maskLow 0xF 2⟩,
  ⟨0x4510, 8, 0x1, 0x2, 0x2, .u8, .rw, 11, 0, false, .rng 0 15⟩,
  ⟨0x4510, 8, 0x1, 0x3, 0x3, .u32, .rw, 11, 0, false, .any⟩,
  ⟨0x4510, 8, 0x1, 0x4, 0x4, .u32, .rw, 11, 0xffffffff, false, .any⟩,
  ⟨0x4510, 8, 0x1, 0x5, 0x5, .u32, .ro, 15, 0, false, .any⟩,
  ⟨0x4510, 8, 0x1, 0x6, 0x6, .u8, .rw, 11, 0, false, .rng 0 6⟩,
  ⟨0x4510, 8, 0x1, 0x7, 0x7, .u8, .ro, 15, 0, false, .any⟩,
  ⟨0x4510, 8, 0x1, 0x8, 0x8, .u8, .wo, 11, 0, false, .mask 7⟩,
  ⟨0x4510, 8, 0x1, 0x9, 0x9, .u8, .rw, 11, 255, false, .oneOf [0, 1, 2, 3, 4, 5, 6, 7, 255]⟩,
  ⟨0x4510, 8, 0x1, 0xA, 0xA, .u8, .rw, 11, 0, false, .mask 0xF⟩,
  ⟨0x4510, 8, 0x1, 0xB, 0xB, .u8, .wo, 11, 0, false, .rng 1 4⟩,
  ⟨0x4510, 8, 0x1, 0xC, 0xC, .u32, .ro, 15, 0, false, .any⟩,
  ⟨0x4510, 8, 0x1, 0xD, 0xD, .u32, .ro, 15, 0, false, .any⟩,
  ⟨0x4510, 8, 0x1, 0xE, 0xE, .u32, .rw, 11, 0xffffffff, false, .any⟩,
  ⟨0x4510, 8, 0x1, 0xF, 0xF, .u8, .wo, 11, 0, false, .rng 1 1⟩,
  ⟨0x4401, 1, 0x0, 0x1, 0x1, .u64, .ro, 15, 0, false, .any⟩,
  ⟨0x4401, 1, 0x0, 0x2, 0x2, .bool, .ro, 15, 0, false, .any⟩,
  ⟨0x4410, 1, 0x0, 0x1, 0x1, .u64, .ro, 15, 0, false, .any⟩,
  ⟨0x4410, 1, 0x0, 0x2, 0x2, .u32, .ro, 15, 0, false, .any⟩,
  ⟨0x4410, 1, 0x0, 0x3, 0x3, .u16, .ro, 15, 0, false, .any⟩,
  ⟨0x4411, 1, 0x0, 0x1, 0x1, .u16, .rw, 10, 8000, true, .rng 1000 50000⟩,
  ⟨0x4412, 1, 0x0, 0x1, 0x1, .u32, .ro, 15, 0, false, .any⟩,
  ⟨0x4412, 1, 0x0, 0x2, 0x2, .u32, .ro, 15, 0, false, .any⟩,
  ⟨0x4412, 1, 0x0, 0x3, 0x3, .u8, .ro, 15, 0, false, .any⟩,
  ⟨0x4601, 1, 0x0, 0x1, 0x1, .u64, .ro, 15, 0, false, .any⟩,
  ⟨0x4601, 1, 0x0, 0x2, 0x2, .u64, .ro, 15, 0, false, .any⟩,
  ⟨0x4601, 1, 0x0, 0x3, 0x3, .u8, .ro, 15, 0, false, .any⟩,
  ⟨0x4601, 1, 0x0, 0x4, 0x4, .u8, .ro, 15, 3, false, .any⟩,
  ⟨0x4610, 1, 0x0, 0x1, 0x1, .u8, .rw, 10, 1, true, .rng 1 4⟩,
  ⟨0x4611, 1, 0x0, 0x1, 0x1, .u8, .rw, 10, 2, true, .rng 1 4⟩,
  ⟨0x4612, 6, 0x1, 0x1, 0x1, .u8, .rw, 10, 1, true, .rng 1 4⟩,
  ⟨0x4618, 16, 0x1, 0x1, 0x1, .u8, .rw, 11, 1, true, .rng 1 4⟩,
  ⟨0x4610, 1, 0x0, 0x2, 0x2, .u64, .rw, 10, 0, true, .any⟩,
  ⟨0x4611, 1, 0x0, 0x2, 0x2, .u64, .rw, 10, 0, true, .any⟩,
  ⟨0x4612, 6, 0x1, 0x2, 0x2, .u64, .rw, 10, 0, true, .any⟩,
  ⟨0x4618, 16, 0x1, 0x2, 0x2, .u64, .rw, 11, 0, true, .any⟩,
  ⟨0x4610, 1, 0x0, 0x3, 0x3, .u32, .rw, 10, 60000, true, .any⟩]

/-- Object rows from 0x4611, in the order of their tables. -/
def objTime1 : List ObjDef := [
  ⟨0x4611, 1, 0x0, 0x3, 0x3, .u32, .rw, 10, 1000, true, .any⟩,
  ⟨0x4612, 6, 0x1, 0x3, 0x3, .u32, .rw, 10, 0, true, .any⟩,
  ⟨0x4618, 16, 0x1, 0x3, 0x3, .u32, .rw, 11, 0, true, .any⟩,
  ⟨0x4610, 1, 0x0, 0x4, 0x4, .u8, .rw, 10, 1, true, .rng 1 3⟩,
  ⟨0x4611, 1, 0x0, 0x4, 0x4, .u8, .rw, 10, 1, true, .rng 1 3⟩,
  ⟨0x4612, 6, 0x1, 0x4, 0x4, .u8, .rw, 10, 1, true, .rng 1 3⟩,
  ⟨0x4618, 16, 0x1, 0x4, 0x4, .u8, .rw, 11, 1, true, .rng 1 3⟩,
  ⟨0x4610, 1, 0x0, 0x5, 0x5, .bool, .rw, 10, 1, true, .rng 0 1⟩,
  ⟨0x4611, 1, 0x0, 0x5, 0x5, .bool, .rw, 10, 1, true, .rng 0 1⟩,
  ⟨0x4612, 6, 0x1, 0x5, 0x5, .bool, .rw, 10, 0, true, .rng 0 1⟩,
  ⟨0x4618, 16, 0x1, 0x5, 0x5, .bool, .rw, 11, 0, true, .rng 0 1⟩,
  ⟨0x4610, 1, 0x0, 0x6, 0x6, (.bytes 32), .rw, 10, 0, true, .any⟩,
  ⟨0x4611, 1, 0x0, 0x6, 0x6, (.bytes 32), .rw, 10, 0, true, .any⟩,
  ⟨0x4612, 6, 0x1, 0x6, 0x6, (.bytes 32), .rw, 10, 0, true, .any⟩,
  ⟨0x4618, 16, 0x1, 0x6, 0x6, (.bytes 32), .rw, 11, 0, true, .any⟩,
  ⟨0x4610, 1, 0x0, 0x7, 0x7, .u64, .ro, 15, 0, false, .any⟩,
  ⟨0x4611, 1, 0x0, 0x7, 0x7, .u64, .ro, 15, 0, false, .any⟩,
  ⟨0x4612, 6, 0x1, 0x7, 0x7, .u64, .ro, 15, 0, false, .any⟩,
  ⟨0x4618, 16, 0x1, 0x7, 0x7, .u64, .ro, 15, 0, false, .any⟩,
  ⟨0x4610, 1, 0x0, 0x8, 0x8, .u32, .ro, 15, 0, false, .any⟩,
  ⟨0x4611, 1, 0x0, 0x8, 0x8, .u32, .ro, 15, 0, false, .any⟩,
  ⟨0x4612, 6, 0x1, 0x8, 0x8, .u32, .ro, 15, 0, false, .any⟩,
  ⟨0x4618, 16, 0x1, 0x8, 0x8, .u32, .ro, 15, 0, false, .any⟩,
  ⟨0x4610, 1, 0x0, 0x9, 0x9, .u32, .ro, 15, 0, false, .any⟩,
  ⟨0x4611, 1, 0x0, 0x9, 0x9, .u32, .ro, 15, 0, false, .any⟩,
  ⟨0x4612, 6, 0x1, 0x9, 0x9, .u32, .ro, 15, 0, false, .any⟩,
  ⟨0x4618, 16, 0x1, 0x9, 0x9, .u32, .ro, 15, 0, false, .any⟩,
  ⟨0x4801, 1, 0x0, 0x1, 0x1, .u8, .rw, 10, 10, true, .rng 2 40⟩,
  ⟨0x4802, 1, 0x0, 0x1, 0x1, (.bytes 8), .rw, 10, 0, true, .any⟩,
  ⟨0x4802, 1, 0x0, 0x2, 0x2, .u8, .ro, 15, 0, false, .any⟩,
  ⟨0x4802, 1, 0x0, 0x3, 0x3, .u16, .rw, 10, 1000, true, .rng 250 2000⟩,
  ⟨0x4802, 1, 0x0, 0x4, 0x4, .u8, .ro, 15, 0, false, .any⟩,
  ⟨0x4802, 1, 0x0, 0x5, 0x5, .u32, .ro, 15, 0, false, .any⟩,
  ⟨0x4802, 1, 0x0, 0x6, 0x6, .u16, .ro, 15, 0, false, .any⟩,
  ⟨0x4803, 1, 0x0, 0x1, 0x1, .u8, .ro, 15, 0, false, .any⟩,
  ⟨0x4803, 1, 0x0, 0x2, 0x2, .u8, .wo, 10, 0, false, .mask 0x38⟩,
  ⟨0x4881, 1, 0x0, 0x1, 0x1, .u8, .rw, 3, 1, true, .rng 0 3⟩,
  ⟨0x4881, 1, 0x0, 0x2, 0x2, .bool, .rw, 3, 1, true, .rng 0 1⟩,
  ⟨0x4881, 1, 0x0, 0x3, 0x3, .u8, .rw, 10, 40, true, .rng 10 100⟩,
  ⟨0x4882, 1, 0x0, 0x1, 0x1, .bool, .ro, 15, 0, false, .any⟩]

/-- Object rows from 0x4882, in the order of their tables. -/
def objTime2 : List ObjDef := [
  ⟨0x4882, 1, 0x0, 0x2, 0x2, .i32, .ro, 15, 0, false, .any⟩,
  ⟨0x4882, 1, 0x0, 0x3, 0x3, .i32, .ro, 15, 0, false, .any⟩,
  ⟨0x4882, 1, 0x0, 0x4, 0x4, .u16, .ro, 15, 0, false, .any⟩,
  ⟨0x4882, 1, 0x0, 0x5, 0x5, .u8, .ro, 15, 0, false, .any⟩,
  ⟨0x4882, 1, 0x0, 0x6, 0x6, .u32, .ro, 15, 0, false, .any⟩,
  ⟨0x4883, 1, 0x0, 0x1, 0x1, .u16, .rw, 10, 1500, true, .any⟩,
  ⟨0x4883, 1, 0x0, 0x2, 0x2, .u8, .rw, 10, 60, true, .rng 10 200⟩,
  ⟨0x4883, 1, 0x0, 0x3, 0x3, .u16, .rw, 10, 250, true, .rng 150 1000⟩]

/-- Object rows of the indices 0x4400 to 0x4FFF. -/
def objTime : List ObjDef := objTime0 ++ objTime1 ++ objTime2

/-- Object rows from 0x5010, in the order of their tables. -/
def objHost0 : List ObjDef := [
  ⟨0x5010, 1, 0x0, 0x1, 0x1, .u8, .rw, 1, 0, false, .rng 0 4⟩,
  ⟨0x5010, 1, 0x0, 0x2, 0x2, .u16, .rw, 1, 10, false, .rng 1 600⟩,
  ⟨0x5010, 1, 0x0, 0x3, 0x3, .bool, .rw, 1, 1, false, .rng 0 1⟩,
  ⟨0x5011, 1, 0x0, 0x1, 0x1, .u32, .ro, 15, 0, false, .any⟩,
  ⟨0x5011, 1, 0x0, 0x2, 0x2, .u32, .ro, 15, 0, false, .any⟩,
  ⟨0x5011, 1, 0x0, 0x3, 0x3, .u32, .ro, 15, 0, false, .any⟩,
  ⟨0x5020, 1, 0x0, 0x1, 0x20, .u32, .rw, 1, 0, false, .mask 0xFFFFFF00⟩,
  ⟨0x5021, 1, 0x0, 0x1, 0x1, .u8, .wo, 1, 0, false, .rng 1 1⟩,
  ⟨0x5021, 1, 0x0, 0x2, 0x2, .u8, .ro, 1, 2, false, .any⟩]

/-- Object rows of the indices 0x5000 to 0x50FF. -/
def objHost : List ObjDef := objHost0

/-- The rows that an index can be found in. -/
def objRows (ix : Nat) : List ObjDef :=
  if ix < 0x2000 then objRoot
  else if ix < 0x2800 then objField
  else if ix < 0x3000 then objEntry
  else if ix < 0x3800 then objTag
  else if ix < 0x4000 then objStore
  else if ix < 0x4400 then objBus
  else if ix < 0x5000 then objTime
  else if ix < 0x5100 then objHost
  else []

/-- The row of an object. -/
def objFind (ix sub : Nat) : Option ObjDef := (objRows ix).find? (fun d => d.hit ix sub)

/-- An index of the tables. -/
def objIndex (ix : Nat) : Bool := (objRows ix).any (fun d => d.hitIx ix)

/-- The highest subindex of an index. -/
def objTop (ix : Nat) : Nat := ((objRows ix).filter (fun d => d.hitIx ix)).foldl (fun a d => max a d.hi) 0

/-- The unit that owns an object's index (R34). -/
def ownerOf (ix : Nat) : Nat :=
  if 0x1001 ≤ ix ∧ ix ≤ 0x10FF then 0x0000
  else if 0x1100 ≤ ix ∧ ix ≤ 0x11FF then 0x0024
  else if 0x1280 ≤ ix ∧ ix ≤ 0x12FF then 0x0037
  else if 0x1200 ≤ ix ∧ ix ≤ 0x127F then 0x0011
  else if 0x1300 ≤ ix ∧ ix ≤ 0x13FF then 0x0035
  else if 0x1400 ≤ ix ∧ ix ≤ 0x147F then 0x0022
  else if 0x1480 ≤ ix ∧ ix ≤ 0x14FF then 0x0036
  else if 0x2000 ≤ ix ∧ ix ≤ 0x23FF then 0x0003
  else if 0x2410 ≤ ix ∧ ix ≤ 0x243F then 0x0025
  else if 0x2440 ≤ ix ∧ ix ≤ 0x247F then 0x0026
  else if 0x2480 ≤ ix ∧ ix ≤ 0x24BF then 0x0027
  else if 0x24C0 ≤ ix ∧ ix ≤ 0x24FF then 0x0028
  else if 0x2500 ≤ ix ∧ ix ≤ 0x25FF then 0x0029
  else if 0x2400 ≤ ix ∧ ix ≤ 0x27FF then 0x0004
  else if 0x2800 ≤ ix ∧ ix ≤ 0x28FF then 0x0005
  else if 0x2900 ≤ ix ∧ ix ≤ 0x29FF then 0x0021
  else if 0x2A00 ≤ ix ∧ ix ≤ 0x2BFF then 0x0006
  else if 0x2C00 ≤ ix ∧ ix ≤ 0x2FFF then 0x0007
  else if 0x3000 ≤ ix ∧ ix ≤ 0x33FF then 0x0008
  else if 0x3400 ≤ ix ∧ ix ≤ 0x34FF then 0x0009
  else if 0x3500 ≤ ix ∧ ix ≤ 0x35FF then 0x000A
  else if 0x3600 ≤ ix ∧ ix ≤ 0x36FF then 0x000B
  else if 0x3700 ≤ ix ∧ ix ≤ 0x37FF then 0x000C
  else if 0x3800 ≤ ix ∧ ix ≤ 0x39FF then 0x000D
  else if 0x3A00 ≤ ix ∧ ix ≤ 0x3FFF then 0x000E
  else if 0x4100 ≤ ix ∧ ix ≤ 0x41FF then 0x002E
  else if 0x4200 ≤ ix ∧ ix ≤ 0x42FF then 0x002F
  else if 0x4300 ≤ ix ∧ ix ≤ 0x43FF then 0x0030
  else if 0x4000 ≤ ix ∧ ix ≤ 0x40FF then 0x000F
  else if 0x4500 ≤ ix ∧ ix ≤ 0x45FF then 0x0031
  else if 0x4600 ≤ ix ∧ ix ≤ 0x47FF then 0x0032
  else if 0x4400 ≤ ix ∧ ix ≤ 0x44FF then 0x0010
  else if 0x4880 ≤ ix ∧ ix ≤ 0x48FF then 0x0034
  else if 0x4800 ≤ ix ∧ ix ≤ 0x487F then 0x0033
  else if 0x5000 ≤ ix ∧ ix ≤ 0x50FF then 0x0012
  else 0

end Sys2Proof.Machine
end

