-- ==== Sys2Proof/Machine/State.lean ====
section
/-! DEFINITION. The state of the block as plain data: everything the manual gives the device, the outcomes' reasons, and the state right after reset.
Each field's docstring starts with its width, the rule that names it, and a letter: S where the manual gives the value after reset
(or the value follows from the manual's words), D where the model chose it (log entry 3), M where the field is the model's own. -/

namespace Sys2Proof.Machine

open Sys2Proof

/-- Dictionary values by key, index * 256 + subindex, keys rising, no entry equal to the object's default. A value is the
little-endian number of the object's bytes (R35). -/
abbrev Objs := List (Nat × Nat)

/-- Why a command ends the run. No command of this block does: every row of the table has an effect, and a row whose event does not
occur in the present state only lets time pass (log entry 2). -/
inductive Fault where
  /-- raised by no meaning; the type needs a name (safe) -/
  | unreachable
  deriving DecidableEq, Repr

/-- Why a command has no meaning. -/
inductive Refusal where
  /-- the arm of exec for this command has no meaning yet (safe); raised by exec only -/
  | notModelled (mnemonic : String)
  deriving DecidableEq, Repr

/-- One entry of the event queue (R74). -/
structure Event where
  /-- [16] R74 S: event code -/
  code : Nat := 0
  /-- [16] R74 S: ID of the unit that raised it -/
  unit : Nat := 0
  /-- [32] R74 S: parameter -/
  param : Nat := 0
  /-- [32] R74 S: ms since reset, modulo 2^32 -/
  ms : Nat := 0
  deriving DecidableEq, Repr

/-- A frame the device hands to a CAN device queue or reads from a bus is a `CanFrame` of Syntax; its class orders the queue (R420). -/
inductive TxClass where
  | bellwether | release | bdp
  deriving DecidableEq, Repr

/-- The answer a client was last given to an object-level request (R73). -/
structure Reply where
  /-- [24] R73 M: index * 256 + subindex of the object asked for -/
  key : Nat := 0
  /-- [16] R73 M: abort code -/
  abort : Nat := 0
  /-- [bytes] R73 M: data of a read -/
  data : Bytes := []
  deriving DecidableEq, Repr

/-- A read snapshot of a large object (R69). -/
structure ReadSnap where
  /-- [24] R69 S: object -/
  key : Nat
  /-- [bytes] R69 S: the value at initiation -/
  data : Bytes
  /-- [ns] R69 S: time of the client's last request -/
  last : Nat
  deriving DecidableEq, Repr

/-- A write staged in pieces (R56). -/
structure Stage where
  /-- [24] R56 S: object -/
  key : Nat
  /-- [32] R56 S: declared object length -/
  total : Nat
  /-- [bytes] R56 S: contiguous bytes received from offset 0 -/
  data : Bytes
  deriving DecidableEq, Repr

/-- Kinds of BDP transfer that keep state between frames (R62). -/
inductive XferKind where
  | segWrite | blkWrite | segRead | blkRead
  deriving DecidableEq, Repr

/-- The transfer in progress on one BDP channel (R61 to R68). -/
structure Xfer where
  /-- [2] R62 S: kind -/
  kind : XferKind
  /-- [24] R62 S: object -/
  key : Nat
  /-- [32] R61 S: object length of the initiate -/
  total : Nat
  /-- [bytes] R61 S: bytes received, or the snapshot being sent -/
  data : Bytes
  /-- [32] R61 S: bytes already acknowledged (block read) or sent (segmented read) -/
  done : Nat := 0
  /-- [1] R65 S: toggle expected next -/
  toggle : Bool := false
  /-- [7] R66 S: highest sequence number received in unbroken order in this block -/
  seq : Nat := 0
  /-- [7] R66 S: block size in force -/
  blk : Nat := 0
  /-- [1] R60 S: the client uses FD frames -/
  fd : Bool := false
  /-- [1] R66 S: a segment marked last has been taken, or the last segment has been sent -/
  ended : Bool := false
  /-- [ns] R67 S: time of the device's own last frame -/
  last : Nat := 0
  /-- [1] R64 M: the whole value has been handed to the store, whose outcome the transfer waits for -/
  commit : Bool := false
  deriving DecidableEq, Repr

/-- Snapshot of one context row behind 0x2C10 and 0x2821 (R173): the row's objects as they read, by key. -/
structure RowSnap where
  /-- [8] R173 S: row number -/
  row : Nat := 0
  /-- [32] R198 S: snapshot time in ms since reset -/
  ms : Nat := 0
  /-- [objects] R173 S: values of 0x2C10 and 0x2821 by key; unlisted reads the object's value for a FREE row -/
  vals : Objs := []
  deriving DecidableEq, Repr

/-- One instance of everything that is per client (R506), with the client's session (R40) and transfer (R60). -/
structure ClientCtx where
  /-- [6] R506 M: which client -/
  c : Client
  /-- [8] R46 S: session state, 0 NONE, 1 NONCE_ISSUED, 2 OPEN -/
  st : Nat := 0
  /-- [8] R46 S: role code held or being opened, 0 none -/
  role : Nat := 0
  /-- [128] R40 S: device nonce -/
  devNonce : Bytes := List.replicate 16 0
  /-- [128] R40 D: client nonce -/
  cliNonce : Bytes := List.replicate 16 0
  /-- [520] R40 D: client ephemeral public key -/
  cliEph : Bytes := List.replicate 65 0
  /-- [520] R40 S: device ephemeral public key -/
  devEph : Bytes := List.replicate 65 0
  /-- [256] R40 M: device ephemeral private scalar, a working key without parent (R293) -/
  devPriv : Nat := 0
  /-- [4096] R40 D: credential -/
  cred : Bytes := []
  /-- [32] R43 S: transfer counter -/
  ctr : Nat := 0
  /-- [128] R42 D: session key -/
  key : Bytes := []
  /-- [1] R299 S: the session key has been revoked -/
  revoked : Bool := false
  /-- [ns] R40 S: time of the role write -/
  openedAt : Nat := 0
  /-- [ns] R44 S: time of the last request -/
  lastUse : Nat := 0
  /-- [2] R44 S: tag checks failed in this session -/
  tagFails : Nat := 0
  /-- [ns] R44 S: role writes return BUSY before this time -/
  holdUntil : Nat := 0
  /-- [1] R40 S: the last opening ran out of its 10 s -/
  lapsed : Bool := false
  /-- [8] R45 S: context row the session holds -/
  row : Option Nat := none
  /-- [objects] R506 S: per-client RW objects away from their defaults -/
  vals : Objs := []
  /-- [608] R318 D: the wrapped key written to 0x3720:05 -/
  wrapped : Bytes := List.replicate 76 0
  /-- [16] R318 S: outcome of the last key operation -/
  keyOutcome : Nat := 0
  /-- [row] R173 S: context-row snapshot -/
  rowSnap : RowSnap := {}
  /-- [32] R318 S: slot snapshot time, ms -/
  slotMs : Nat := 0
  /-- [objects] R318 S: slot snapshot, values of 0x3710 by key -/
  slotVals : Objs := []
  /-- [record] R69 S: read snapshot held -/
  readSnap : Option ReadSnap := none
  /-- [record] R56 S: staged write -/
  stage : Option Stage := none
  /-- [record] R60 S: BDP transfer in progress -/
  xfer : Option Xfer := none
  /-- [record] R73 M: last answer -/
  reply : Option Reply := none
  /-- [32] R375 S: stream length fixed at the last export request -/
  expLen : Nat := 0
  /-- [64] R375 S: first record exported -/
  expFirst : Nat := 0
  /-- [64] R375 S: last record exported -/
  expLast : Nat := 0
  /-- [8] R375 S: export state -/
  expState : Nat := 0
  deriving DecidableEq, Repr

/-- A persistent write waiting for its ReRAM commit (R55). -/
structure Commit where
  /-- [6] R55 S: the client that waits -/
  c : Client
  /-- [24] R55 S: object -/
  key : Nat
  /-- [bytes] R55 S: the value to commit -/
  data : Bytes
  /-- [ns] R55 S: time the write arrived -/
  at_ : Nat
  /-- [16] R345 M: number of the ReRAM work that carries it -/
  work : Nat
  deriving DecidableEq, Repr

/-- The open stream of a streamed object (R72). -/
structure Stream where
  /-- [6] R72 S: its one reader -/
  c : Client
  /-- [bytes] R369 S: the whole stream, fixed at the request -/
  data : Bytes
  /-- [16] R72 S: the window the reader holds, none before the first -/
  window : Option Nat := none
  /-- [ns] R72 S: time of the last request -/
  last : Nat
  deriving DecidableEq, Repr

/-- The dictionary server (unit 0x0024). -/
structure Dict where
  /-- [33 instances] R506 S: clients that are not at their defaults -/
  clients : List ClientCtx := []
  /-- [records] R55 S: persistent writes waiting to commit, oldest first -/
  commits : List Commit := []
  /-- [record] R72 S: the stream -/
  stream : Option Stream := none
  /-- [32] R46 S: transfers completed -/
  completed : Nat := 0
  /-- [32] R46 S: aborts sent -/
  aborts : Nat := 0
  /-- [32] R46 S: tag failures -/
  tagFails : Nat := 0
  /-- [32] R46 S: segment timeouts -/
  segTimeouts : Nat := 0
  /-- [32] R46 S: sessions opened -/
  opened : Nat := 0
  deriving DecidableEq, Repr

/-- The host port (unit 0x0012). -/
structure HostPort where
  /-- [words] R51 S: words of the last executed request -/
  lastReq : List Word := []
  /-- [words] R51 S: its response, words 1 onwards with CRC -/
  lastResp : List Word := []
  /-- [words] R52 S: the response that waits, words 1 onwards with CRC -/
  resp : List Word := []
  /-- [1] R49 S: RESP_AVAIL -/
  avail : Bool := false
  /-- [1] R53 S: a request is held and READY is 0 -/
  busy : Bool := false
  /-- [words] R53 M: the request frame being executed -/
  cur : List Word := []
  /-- [1] R49 S: CRC_ERR -/
  crcErr : Bool := false
  /-- [words] R50 M: words shifted out on HS_MISO in the last transaction -/
  miso : List Word := []
  /-- [32x24] R59 S: fast map in force, keys of the mapped slots by slot number -/
  map : Objs := []
  /-- [32x64] R58 D: latched values by slot -/
  latched : Objs := []
  /-- [32x64] R58 M: value of each mapped object when last looked at, by slot -/
  seen : Objs := []
  /-- [32] R58 S: new-data flags -/
  newData : Nat := 0
  /-- [32] R59 S: frames accepted -/
  accepted : Nat := 0
  /-- [32] R59 S: CRC errors -/
  crcErrs : Nat := 0
  /-- [32] R59 S: responses repeated -/
  repeated : Nat := 0
  /-- [ns] R452 S: start of the present idle time -/
  idleFrom : Nat := 0
  deriving DecidableEq, Repr

/-- An LF driver chip as the device knows it (R81, R83, R106). -/
structure Chip where
  /-- [1] R83 S: marked absent -/
  absent : Bool := false
  /-- [1] R106 S: put to SLEEP for overtemperature or undervoltage -/
  hot : Bool := false
  /-- [1] R106 S: consecutive status words without the condition -/
  clear : Nat := 0
  /-- [16] R108 S: last status word -/
  status : Nat := 0
  deriving DecidableEq, Repr

/-- An LF antenna (R83, R106). -/
structure Antenna where
  /-- [1] R108 S: open -/
  open_ : Bool := false
  /-- [1] R108 S: short -/
  short : Bool := false
  /-- [1] R83 S: the last diagnosis since reset found it open -/
  diagOpen : Bool := false
  /-- [1] R83 S: the last diagnosis since reset found it shorted -/
  diagShort : Bool := false
  deriving DecidableEq, Repr

/-- The full telegram in progress, from its carrier to the close of its reply window (R89). -/
structure Telegram where
  /-- [ns] R89 S: first carrier period -/
  start : Nat
  /-- [64] R86 S: vehicle nonce -/
  nonce : Bytes
  /-- [8] R86 S: round counter -/
  counter : Nat
  /-- [16] R86 S: round parameters -/
  params : Nat
  /-- [6] R164 S: reply slots -/
  slots : Nat
  /-- [6] R105 S: antennas driven -/
  ants : Nat
  /-- [1] R86 S: CLK_RC flag -/
  clkRc : Bool
  /-- [4] R125 S: ranging channel, 5 or 9 -/
  chan : Nat
  /-- [120] R86 S: body and check bits in the order sent -/
  bits : List Bool
  /-- [3] R88 S: tones begun, 0 to 6 -/
  tones : Nat := 0
  /-- [1] R89 S: the reply window is open -/
  window : Bool := false
  deriving DecidableEq, Repr

/-- The group poll in progress (R85). -/
structure Poll where
  /-- [ns] R89 S: first carrier period, on the always-on clock -/
  start : Nat
  /-- [6] R105 S: antennas driven -/
  ants : Nat
  /-- [1] R243 S: a presence poll -/
  presence : Bool
  /-- [32] R86 S: body and check bits in the order sent -/
  bits : List Bool
  deriving DecidableEq, Repr

/-- The LF field controller (unit 0x0003), the part outside the always-on domain. -/
structure Lf where
  /-- [3] R83 S: driver chips -/
  chips : List Chip := [{}, {}, {}]
  /-- [6] R83 S: antennas -/
  ants : List Antenna := [{}, {}, {}, {}, {}, {}]
  /-- [1] R108 S: a diagnosis has been asked for -/
  diagAsked : Bool := false
  /-- [ns] R83 S: time of the last repetition of the check -/
  lastCheck : Nat := 0
  /-- [ns] R106 S: time of the last status recheck -/
  lastRecheck : Nat := 0
  /-- [1] R458 S: the driver sequence waits for the wake telegram's window -/
  deferDrv : Bool := false
  /-- [48-bit groups] R79 M: words of the LF transactions of the last command that issued any, chip 2 first in each -/
  spi : List Word := []
  /-- [record] R89 S: full telegram in progress -/
  tele : Option Telegram := none
  /-- [8] R100 S: demands waiting -/
  waiting : Nat := 0
  /-- [ns] R101 S: start times of full telegrams and presence polls of the last second -/
  starts : List Nat := []
  /-- [ns] R101 S: close of the last reply window -/
  lastClose : Option Nat := none
  /-- [8] R108 S: round counter of the last full telegram -/
  counter : Nat := 0
  /-- [2] R104 S: tone step -/
  toneStep : Nat := 0
  /-- [2] R104 S: rounds without a saturation report -/
  cleanRun : Nat := 0
  /-- [32] R108 S: full telegrams sent -/
  telegrams : Nat := 0
  /-- [8] R108 S: last wake cause -/
  lastWake : Nat := 0
  /-- [32] R108 S: wakes -/
  wakes : Nat := 0
  deriving DecidableEq, Repr

/-- A 32 kHz sampled input of the always-on domain (R98, R397). -/
structure WakeIn where
  /-- [1] R98 D: last sample was at the active level -/
  prev : Bool := false
  /-- [1] R98 D: last sample was inactive, one of the two that re-arm -/
  low : Bool := true
  /-- [1] R98 D: armed -/
  armed : Bool := true
  deriving DecidableEq, Repr

/-- Rooster, the part of the schedule that the always-on domain holds (R92 to R97). -/
structure Rooster where
  /-- [8] R108 S: state, 0 IDLE, 1 to 4 phase, 5 POLL_STOPPED, 6 HOST_STOPPED -/
  st : Nat := 0
  /-- [ns] R97 M: time since lock at the moment `lockAt` -/
  base : Nat := 0
  /-- [ns] R92 M: the lock, or the moment R97 resumes, on the always-on clock -/
  lockAt : Nat := 0
  /-- [ns] R93 S: start of the last poll, on the always-on clock -/
  lastPoll : Nat := 0
  /-- [7] R96 S: consecutive poll hits without an unlock -/
  hits : Nat := 0
  /-- [1] R96 S: hits muted -/
  muted : Bool := false
  /-- [ns] R96 S: since when, on the always-on clock -/
  muteAt : Nat := 0
  /-- [record] R85 S: group poll in progress or in its answer window -/
  poll : Option Poll := none
  /-- [32] R108 S: polls sent -/
  polls : Nat := 0
  /-- [32] R108 S: polls skipped -/
  skipped : Nat := 0
  /-- [32] R108 S: poll hits -/
  pollHits : Nat := 0
  deriving DecidableEq, Repr

/-- A sample lane: RX0 to RX2 and TX (R118, R154). -/
structure Lane where
  /-- [8] R154 S: lane state -/
  state : Nat := 0
  /-- [32] R154 S: code errors -/
  codeErrs : Nat := 0
  /-- [32] R154 S: realignments -/
  realigns : Nat := 0
  /-- [1] R118 S: the lane went DOWN during the frame in progress -/
  lost : Bool := false
  /-- [1] R118 M: the lane has realigned and returned since the last FE_SYNC -/
  back : Bool := false
  deriving DecidableEq, Repr

/-- A ranging front end as the device knows it (R122, R151). -/
structure FrontEnd where
  /-- [16] R154 S: ID register -/
  id : Nat := 0
  /-- [16] R154 S: Status register -/
  status : Nat := 0
  /-- [16] R154 S: temperature, 0.25 degree -/
  temp : Int := 0
  /-- [1] R153 S: absent -/
  absent : Bool := false
  /-- [1] R151 S: lanes excluded for a reported fault -/
  fault : Bool := false
  /-- [ns] R151 S: time of the last clear status read of the pair that readmits -/
  clearAt : Option Nat := none
  deriving DecidableEq, Repr

/-- One front-end transaction (R121): chip selects, word 0, word 1. -/
structure FeTxn where
  /-- [3] R121 S: chip selects driven low -/
  cs : Nat
  /-- [16] R121 S: word 0 -/
  w0 : Nat
  /-- [16] R121 S: word 1 -/
  w1 : Nat
  deriving DecidableEq, Repr

/-- Lane report 0x2444 + n (R154). -/
structure LaneReport where
  /-- [40] R154 S: RX timestamp, RTU -/
  ts : Nat := 0
  /-- [16] R154 S: half difference -/
  half : Int := 0
  /-- [16] R154 S: first-path power -/
  fpp : Int := 0
  /-- [16] R154 S: receive power -/
  rxp : Int := 0
  /-- [16] R154 S: noise per tap -/
  noise : Int := 0
  /-- [16] R154 S: first-path SNR -/
  snr : Int := 0
  /-- [16] R154 S: peak-to-first ratio -/
  pfr : Int := 0
  /-- [8] R154 S: LQF -/
  lqf : Nat := 0
  /-- [16] R154 S: first-path phase -/
  phase : Int := 0
  /-- [16] R154 S: flags -/
  flags : Nat := 0
  deriving DecidableEq, Repr

/-- A frame in reception (R138). -/
structure Rx where
  /-- [2] R138 S: lane of the detection -/
  lane : Nat
  /-- [9] R138 S: code phase of the detection -/
  phase : Nat
  /-- [ns] R138 S: time of the detection -/
  at_ : Nat
  deriving DecidableEq, Repr

/-- A frame delivered to the session layer (R137). -/
structure DFrame where
  /-- [1] R130 S: SFD_B -/
  sfdB : Bool
  /-- [bytes] R133 S: payload -/
  payload : Bytes
  /-- [3] R145 S: lane reports of this frame -/
  lanes : List LaneReport
  /-- [32] R144 S: clock offset, ppb -/
  co : Int
  /-- [ns] R137 S: time of delivery -/
  at_ : Nat
  /-- [40] R111 S: sample index of the reference chip, for slot arithmetic -/
  idx : Nat
  deriving DecidableEq, Repr

/-- A frame the device sends (R128). -/
structure TxFrame where
  /-- [1] R130 S: SFD_B -/
  sfdB : Bool
  /-- [128] R131 S: sequence key -/
  key : Bytes
  /-- [96] R131 S: sequence IV -/
  iv : Bytes
  /-- [bytes] R133 S: payload -/
  payload : Bytes
  /-- [4] R125 S: channel -/
  chan : Nat
  /-- [48] R120 S: TX index of the first chip -/
  idx : Nat
  deriving DecidableEq, Repr

/-- A calibration run (R149). -/
structure CalRun where
  /-- [8] R149 S: reference row -/
  row : Nat
  /-- [4] R149 S: channel -/
  chan : Nat
  /-- [8] R149 S: rounds made -/
  made : Nat := 0
  /-- [lists] R149 S: per lane, the ToF values collected, 1/16 RTU -/
  tofs : List (List Int) := [[], [], []]
  /-- [lists] R149 S: lanes 1 and 2, uncorrected phase differences -/
  phases : List (List Int) := [[], []]
  deriving DecidableEq, Repr

/-- The ranging group's radio half: sample ports, correlator, modem, front-end SPI, signal engines (units 0x0004, 0x0025 to 0x002D). -/
structure Phy where
  /-- [8] R154 S: current channel -/
  chan : Nat := 9
  /-- [32] R154 S: channel changes -/
  changes : Nat := 0
  /-- [ns] R127 S: last adaptive switch -/
  lastSwitch : Option Nat := none
  /-- [2] R127 S: consecutive rounds with low median LQF -/
  lowRun : Nat := 0
  /-- [3x2] R146 S: consecutive noise measurements above the alarm level, per lane -/
  noiseRun : List Nat := [0, 0, 0]
  /-- [3x16] R154 S: idle noise floor, 0.25 dBFS -/
  floors : List Int := [0, 0, 0]
  /-- [4] R154 S: lanes RX0 to RX2, TX -/
  lanes : List Lane := [{}, {}, {}, {}]
  /-- [3x16] R154 S: saturated samples, per mille -/
  sat : List Nat := [0, 0, 0]
  /-- [3] R154 S: front ends -/
  fes : List FrontEnd := [{}, {}, {}]
  /-- [ns] R111 S: time at which the sample counter was 0 -/
  origin : Option Nat := none
  /-- [1] R154 S: FE_SYNC alignment is due at the next moment no round runs -/
  resync : Bool := false
  /-- [list] R123 S: front-end writes held back -/
  deferredFe : List FeTxn := []
  /-- [list] R121 M: front-end transactions issued by the last step that issued any -/
  feOut : List FeTxn := []
  /-- [5] R124 S: gain code in force on the front ends -/
  gain : Nat := 20
  /-- [1] R138 S: a receive window is open -/
  window : Bool := false
  /-- [1] R123 S: a round runs -/
  round : Bool := false
  /-- [record] R138 S: frame in reception -/
  rx : Option Rx := none
  /-- [record] R137 S: frame delivered and not yet taken -/
  delivered : Option DFrame := none
  /-- [record] R128 M: last frame sent -/
  tx : Option TxFrame := none
  /-- [3] R154 S: lane reports -/
  reports : List LaneReport := [{}, {}, {}]
  /-- [32] R154 S: frames correlated -/
  correlated : Nat := 0
  /-- [32] R154 S: half-consistency failures -/
  halfFails : Nat := 0
  /-- [32] R154 S: preamble mismatches -/
  preMis : Nat := 0
  /-- [32] R154 S: SFD timeouts -/
  sfdTimeouts : Nat := 0
  /-- [32] R154 S: frames detected -/
  detected : Nat := 0
  /-- [32] R154 S: SFD_B frames -/
  sfdB : Nat := 0
  /-- [32] R154 S: header failures -/
  hdrFails : Nat := 0
  /-- [32] R154 S: payload failures -/
  payFails : Nat := 0
  /-- [32] R154 S: tracking lost -/
  trackLost : Nat := 0
  /-- [32] R154 S: version rejects -/
  verRejects : Nat := 0
  /-- [32] R154 S: clock offset of the last frame, ppb -/
  co : Int := 0
  /-- [32] R154 S: carrier offset, Hz -/
  carrier : Int := 0
  /-- [16] R154 S: pilot EVM -/
  evm : Nat := 0
  /-- [16] R154 S: re-encode errors -/
  reenc : Nat := 0
  /-- [8] R154 S: payload length -/
  payLen : Nat := 0
  /-- [8] R154 S: frame channel -/
  frameChan : Nat := 0
  /-- [record] R149 S: calibration run -/
  cal : Option CalRun := none
  /-- [8] R154 S: run status -/
  calStatus : Nat := 0
  /-- [16] R154 S: run spread -/
  calSpread : Nat := 0
  /-- [4x8] R154 S: signal-engine load -/
  seLoad : List Nat := [0, 0, 0, 0]
  /-- [4x32] R154 S: signal-engine local ECC corrections -/
  seEcc : List Nat := [0, 0, 0, 0]
  deriving DecidableEq, Repr

/-- What a ReRAM program operation brings about when it ends (R339, R350, R270). -/
inductive NvFx where
  /-- nothing beyond the page's content -/
  | page
  /-- the last page of a dictionary record of a client (R345) -/
  | commit (c : Client)
  /-- an increment of a monotonic counter (R350) -/
  | counter (c amount : Nat)
  /-- the last page of a tag write (R270) -/
  | tag
  deriving DecidableEq, Repr

/-- One program operation (R339). -/
structure NvOp where
  /-- [2] R339 S: class, 0 tag-engine field write, 1 counter increment, 2 any other -/
  cls : Nat
  /-- [16] R342 S: unit whose write it is -/
  unit : Nat
  /-- [17] R338 S: logical page -/
  page : Nat
  /-- [4] R339 S: units of the page that it writes -/
  mask : Nat
  /-- [effect] R339 S: what its end brings about -/
  fx : NvFx
  deriving DecidableEq, Repr

/-- The write fence (R342, R445), while it is up. -/
structure Fence where
  /-- [ns] R445 S: rise of the fence -/
  since : Nat
  /-- [4] R445 S: the rail that first fell below its warning threshold -/
  first : Nat
  /-- [3] R445 S: mask of rails that fell below their warning thresholds -/
  mask : Nat
  /-- [16] R445 S: lowest voltage of the first rail, mV -/
  low : Nat
  /-- [8] R342 S: operations deferred in this fence -/
  deferred : Nat := 0
  deriving DecidableEq, Repr

/-- A dictionary increment that waits in the pending count (R343). -/
structure IncWait where
  /-- [6] R343 S: client -/
  c : Client
  /-- [6] R343 S: counter -/
  counter : Nat
  /-- [16] R343 S: amount -/
  amount : Nat
  /-- [ns] R343 S: arrival -/
  at_ : Nat
  deriving DecidableEq, Repr

/-- The non-volatile store's own state outside the cells (unit 0x000D). -/
structure Nv where
  /-- [op] R339 S: operation under way -/
  run : Option NvOp := none
  /-- [ops] R339 S: operations waiting, in arrival order -/
  wait : List NvOp := []
  /-- [64 ops] R342 S: deferred queue -/
  deferred : List NvOp := []
  /-- [record] R342 S: the fence, while up -/
  fence : Option Fence := none
  /-- [list] R343 S: pending counts by counter -/
  pend : List (Nat × Nat) := []
  /-- [list] R343 S: dictionary increments in the pending counts -/
  incs : List IncWait := []
  /-- [8+32] R376 M: deferred operations of the fence that ended and its duration in ms, until FENCE_RELEASED -/
  released : Option (Nat × Nat) := none
  /-- [32] R374 S: corrected reads -/
  corrected : Nat := 0
  /-- [32] R374 S: uncorrectable reads -/
  uncorrectable : Nat := 0
  /-- [32] R374 S: program failures -/
  failures : Nat := 0
  /-- [32] R374 S: fences -/
  fences : Nat := 0
  /-- [32] R374 S: last fence duration, us -/
  lastFence : Nat := 0
  /-- [32] R374 S: compactions -/
  compactions : Nat := 0
  /-- [32] R374 S: record conflicts -/
  conflicts : Nat := 0
  /-- [32] R374 S: records repaired -/
  repaired : Nat := 0
  /-- [32] R374 S: records lost -/
  lost : Nat := 0
  /-- [1] R467 S: a compaction waits for the fence to have been down for 10 s -/
  compactDue : Bool := false
  /-- [ns] R467 S: when the fence last lifted -/
  lifted : Nat := 0
  deriving DecidableEq, Repr

/-- One bank of a record area (R345), counted in 16-byte units. -/
structure Bank where
  /-- [16] R345 S: head -/
  head : Nat := 0
  /-- [16] R347 S: units between tail and head -/
  used : Nat := 0
  /-- [48] R345 S: last stamp used -/
  stamp : Nat := 0
  deriving DecidableEq, Repr

/-- A record area with its two banks (R340, R345). -/
structure Area where
  /-- [48] R345 S: last sequence number used -/
  seq : Nat := 0
  /-- [bank] R345 S: bank 0 -/
  b0 : Bank := {}
  /-- [bank] R345 S: bank 1 -/
  b1 : Bank := {}
  /-- [list] R346 S: records in force by key, each with its data length and sequence number -/
  recs : List (Nat × (Nat × Nat)) := []
  deriving DecidableEq, Repr

/-- A monotonic counter (R350). -/
structure Counter where
  /-- [48] R350 S: largest value in a valid cell -/
  value : Nat := 0
  /-- [7] R350 S: cell that holds it -/
  cell : Nat := 127
  /-- [32] R353 S: cell writes -/
  writes : Nat := 0
  /-- [128] R353 S: retired cells -/
  retired : List Nat := []
  /-- [1] R351 S: COUNTER_EXHAUSTED has been raised -/
  exhausted : Bool := false
  /-- [1] R353 S: COUNTER_WEAR has been raised -/
  worn : Bool := false
  deriving DecidableEq, Repr

/-- Header of an admitted firmware image (R472). -/
structure FwHeader where
  /-- [32] R472 S: release number -/
  release : Nat
  /-- [16] R472 S: security version -/
  version : Nat
  deriving DecidableEq, Repr

/-- A firmware bank (R472, R474). -/
structure FwBank where
  /-- [2 MiB] R472 S: bytes programmed by updates; unlisted bytes are unprogrammed -/
  mem : List Host.Cell := []
  /-- [header] R472 D: the image the device was shipped with, while no update has touched the bank -/
  shipped : Option FwHeader := none
  deriving DecidableEq, Repr

/-- A journal record before it is numbered and chained (R358). -/
structure JRaw where
  /-- [16] R358 S: type -/
  ty : Nat
  /-- [32] R358 S: UTC seconds, 0 unknown -/
  utc : Nat
  /-- [8] R358 S: time source -/
  src : Nat
  /-- [3] R358 S: flags -/
  flags : Nat
  /-- [32] R358 S: time since reset, ms -/
  ms : Nat
  /-- [48] R358 S: odometer -/
  odo : Nat
  /-- [64] R358 S: bound driver -/
  driver : Nat
  /-- [bytes] R359 S: content from byte 72 -/
  body : Bytes
  deriving DecidableEq, Repr

/-- A numbered and chained journal record (R358). -/
structure JRec where
  /-- [record] R358 S: its fields -/
  raw : JRaw
  /-- [64] R358 S: record number -/
  num : Nat
  /-- [256] R358 S: chain hash -/
  chain : Bytes
  deriving DecidableEq, Repr

/-- A programmed journal page (R362). -/
structure JPage where
  /-- [64] R362 S: page sequence -/
  seq : Nat
  /-- [8] R362 S: seal -/
  sealed : Nat
  /-- [records] R362 S: records of its body -/
  recs : List JRec
  /-- [1] R368 S: the page cannot be read -/
  bad : Bool := false
  deriving DecidableEq, Repr

/-- The external serial NAND as the journal has left it (R355). -/
structure Medium where
  /-- [16] R356 S: manufacturer and device, as READ ID answers -/
  id : Bytes := [0, 0]
  /-- [pages] R362 S: programmed pages by die * 2^24 + row -/
  pages : List (Nat × JPage) := []
  /-- [1] R368 S: the medium holds a page of this format -/
  formatted : Bool := false
  deriving DecidableEq, Repr

/-- Kinds of NAND operation that take a command of their own to end (R356, R357). -/
inductive NandKind where
  | program | erase
  deriving DecidableEq, Repr

/-- The NAND operation under way (R357). -/
structure NandOp where
  /-- [1] R356 S: kind -/
  kind : NandKind
  /-- [27] R356 S: die * 2^24 + row -/
  row : Nat
  /-- [1] R357 S: it is the retry after a RESET -/
  retry : Bool := false
  /-- [ns] R357 S: start -/
  start : Nat
  deriving DecidableEq, Repr

/-- The journal store's volatile state (unit 0x000E). -/
structure Journal where
  /-- [8] R375 S: journal state -/
  st : Nat := 0
  /-- [records] R368 S: records raised before the store found its head -/
  early : List JRaw := []
  /-- [128 KiB] R364 S: journal tail, oldest first -/
  tail : List JRec := []
  /-- [17] R364 S: bytes of the tail -/
  tailBytes : Nat := 0
  /-- [records] R362 S: records of the page being programmed -/
  pageRecs : List JRec := []
  /-- [record] R358 S: last record sealed, the one the next chain hash covers -/
  last : Option JRec := none
  /-- [1] R368 S: the head has been found and records are numbered -/
  ready : Bool := false
  /-- [64] R363 S: next record number -/
  next : Nat := 0
  /-- [64] R363 S: next page sequence -/
  pageSeq : Nat := 0
  /-- [27] R366 S: where the next page goes, die * 2^24 + row -/
  head : Nat := 0
  /-- [64] R375 S: newest record programmed -/
  programmed : Nat := 0
  /-- [64] R375 S: last checkpoint -/
  lastChk : Nat := 0
  /-- [64] R360 S: first record not covered by a checkpoint -/
  uncovered : Option Nat := none
  /-- [32] R360 S: records not covered -/
  uncoveredN : Nat := 0
  /-- [ns] R360 S: when the first record not covered was written -/
  uncoveredAt : Nat := 0
  /-- [ns] R364 S: when the first record of the page being filled was written -/
  pageAt : Nat := 0
  /-- [1] R364 S: a flush of every page of the tail is under way -/
  flushing : Bool := false
  /-- [32] R375 S: records dropped -/
  dropped : Nat := 0
  /-- [32] R365 S: records dropped in the present run of drops -/
  dropRun : Nat := 0
  /-- [32] R376 M: length of the run of drops that has ended, until RECORDS_DROPPED is raised -/
  dropSaid : Nat := 0
  /-- [1] R366 M: the block of the head has been erased -/
  erased : Bool := false
  /-- [32] R375 S: pages discarded -/
  discarded : Nat := 0
  /-- [op] R357 S: NAND operation under way -/
  op : Option NandOp := none
  /-- [ns] R357 S: when the medium is tried again -/
  retryAt : Option Nat := none
  /-- [2] R361 M: reason of the JOURNAL_UNSIGNED last raised -/
  unsignedWhy : Nat := 0
  /-- [16] R375 S: NAND ID -/
  nandId : Bytes := [0, 0]
  deriving DecidableEq, Repr

/-- A Sheepdog fault source (R459). -/
structure FaultSrc where
  /-- [ns list] R459 S: counts inside the window, oldest first -/
  times : List Nat := []
  /-- [8] R476 S: 0 clear, 1 transient, 2 lasting -/
  st : Nat := 0
  /-- [32] R476 S: total count since reset -/
  total : Nat := 0
  /-- [ns] R460 S: last count, or since when the end condition holds without a break -/
  quiet : Nat := 0
  deriving DecidableEq, Repr

/-- An entry of the fault entry queue (R508). -/
structure FaultEntry where
  /-- [16] R508 S: source -/
  src : Nat
  /-- [16] R508 S: unit charged -/
  unit : Nat
  /-- [16] R508 S: event code -/
  code : Nat
  /-- [32] R508 S: ms since reset -/
  ms : Nat
  deriving DecidableEq, Repr

/-- Supervision, the monitors and Sheepdog: the part that a reset clears (units 0x0011, 0x0035, 0x0037). -/
structure Sup where
  /-- [3] R454 S: parking step under way, 0 none -/
  parkStep : Nat := 0
  /-- [8] R478 S: cause of the parking under way, 1 request, 2 idle -/
  parkCause : Nat := 0
  /-- [ns] R454 S: when step 3 of the parking under way was done -/
  parkAt : Nat := 0
  /-- [5x16] R475 S: rail voltages, mV -/
  rails : List Nat := [0, 0, 0, 0, 0]
  /-- [3x16] R475 S: last dip minima, mV -/
  dipMin : List Nat := [0, 0, 0]
  /-- [32] R475 S: dips -/
  dips : Nat := 0
  /-- [1] R475 S: the RC oscillator is the reference -/
  rc : Bool := false
  /-- [ns] R478 S: since when -/
  rcSince : Nat := 0
  /-- [32] R475 S: crystal losses -/
  xtalLosses : Nat := 0
  /-- [1] R448 S: PLL_S has lost lock -/
  pllS : Bool := false
  /-- [1] R448 S: the CAN PLL has lost lock -/
  pllCan : Bool := false
  /-- [1] R444 S: VDD_SER is below reset, or not 10 ms above 0.86 V -/
  serLow : Bool := false
  /-- [4x16] R475 S: sensor temperatures, 0.25 degree -/
  tj : List Int := [0, 0, 0, 0]
  /-- [1] R450 S: the ranging group is gated for temperature -/
  hot : Bool := false
  /-- [32] R475 S: glitches -/
  glitches : Nat := 0
  /-- [record] R507 S: a reset asked for and not begun: kind, client and time of the response -/
  pendingReset : Option (Nat × Client × Nat) := none
  /-- [30 records] R459 S: fault sources by code -/
  srcs : List (Nat × FaultSrc) := []
  /-- [32 entries] R508 S: fault entry queue, oldest first -/
  faults : List FaultEntry := []
  /-- [16] R464 S: mask of services lost -/
  lost : Nat := 0
  /-- [8] R464 S: root service level -/
  level : Nat := 0
  /-- [ns] R473 S: completion of step 6 -/
  step6 : Option Nat := none
  /-- [1] R473 S: no bank was admitted and the device stays in the boot ROM -/
  bootRom : Bool := false
  /-- [1] R471 S: Tvedwin's scan test runs -/
  scan : Bool := false
  /-- [1] R477 S: running bank -/
  running : Nat := 0
  /-- [1] R477 S: the running bank is a trial -/
  trial : Bool := false
  /-- [8] R477 S: update state -/
  update : Nat := 0
  /-- [1] R465 S: the vehicle pair is FAILED and the device keeps running -/
  vehicleLost : Bool := false
  /-- [list] R459 M: sources that turned lasting in this step and whose action is still to be taken; empty between steps -/
  acts : List Nat := []
  /-- [1] R456 S: a reset is held: RESET_N low, a rail below reset, or THERMAL -/
  held : Bool := true
  deriving DecidableEq, Repr

/-- A tamper detection logged with the control rails down (R469). -/
structure OffTamper where
  /-- [8] R469 S: source, 1 lid, 2 loop, 3 mesh -/
  src : Nat
  /-- [32 kHz] R469 S: time count -/
  count : Nat
  deriving DecidableEq, Repr

/-- What a pending write of tag memory stores (R270, R276). -/
inductive TagJobKind where
  /-- a single-word field Write, in place -/
  | fieldWord
  /-- a field BlockWrite through the shadow -/
  | fieldBlock
  /-- a host write of the window -/
  | host (c : Client)
  deriving DecidableEq, Repr

/-- A write of tag memory between its reserve check and its commit record (R270 to R272). -/
structure TagJob where
  /-- [2] R270 S: kind -/
  kind : TagJobKind
  /-- [3] R259 S: bank code -/
  bank : Nat
  /-- [16] R270 S: word address in the bank -/
  ptr : Nat
  /-- [words] R270 S: words -/
  words : List Word
  /-- [16] R273 S: handle, of a field write -/
  handle : Word := 0
  /-- [ns] R339 S: end of its last program, on the always-on clock -/
  due : Nat
  /-- [ns] R275 S: arrival, time since reset -/
  at_ : Nat
  deriving DecidableEq, Repr

/-- The last field write of a bank, as its commit record keeps it (R273). -/
structure LastWrite where
  /-- [16] R273 S: handle -/
  handle : Word
  /-- [16] R273 S: word pointer -/
  ptr : Nat
  /-- [8] R273 S: word count -/
  count : Nat
  /-- [16] R273 S: CRC-16 of the data -/
  crc : Nat
  deriving DecidableEq, Repr

/-- The commit record in force of a bank (R270, R273). -/
structure TagCommit where
  /-- [32] R270 S: sequence number -/
  seq : Nat := 0
  /-- [record] R273 S: last field write -/
  last : Option LastWrite := none
  deriving DecidableEq, Repr

/-- Tag memory in ReRAM (R259, R260). -/
structure TagMem where
  /-- [4096 words] R259 S: User bank; an unlisted word reads 0xFFFF (R338) -/
  user : List (Nat × Word) := []
  /-- [16 words] R259 D: words 2 to 17 of the UII bank -/
  uii : List Word := List.replicate 16 0
  /-- [11] R259 D: StoredPC outside its length field -/
  pc : Nat := 0
  /-- [5] R259 S: length field of the StoredPC -/
  len : Nat := 6
  /-- [values] R287 S: 0x3012:01 and 02 that the UII bank was written from -/
  uiiFrom : Nat × Nat := (0, 6)
  /-- [bytes] R260 S: certificate in the Enforcement bank -/
  cert : Bytes := []
  /-- [8x256] R261 S: summary slots by number; one that is not listed has never been written -/
  slots : List (Nat × Bytes) := []
  /-- [1] R263 S: TRUST_LOST -/
  lost : Bool := false
  /-- [1] R282 S: kill record -/
  killed : Bool := false
  /-- [32] R281 S: kill password; 0 until one is set -/
  killPw : Bytes := [0, 0, 0, 0]
  /-- [2] R280 S: lock bits set from the field, bit 1 UII, bit 0 User -/
  locks : Nat := 0
  /-- [4 records] R270 S: commit records in force by bank code -/
  commits : List (Nat × TagCommit) := []
  /-- [32] R285 S: field writes committed -/
  writes : Nat := 0
  /-- [32] R285 S: field writes that the tag application has journaled -/
  journaled : Nat := 0
  /-- [units] R272 S: units that read as uncorrectable: bank code * 4096 + unit -/
  bad : List Nat := []
  /-- [1] R285 S: a commit record found torn is still to be reported -/
  torn : Bool := false
  deriving DecidableEq, Repr

/-- States of the UHF inventory (R264). -/
inductive UhfState where
  | ready | arbitrate | reply | acknowledged | secured
  deriving DecidableEq, Repr

/-- States of the HF path (R268). -/
inductive HfState where
  | idle | ready1 | ready2 | active | halt | proto
  deriving DecidableEq, Repr

/-- The tag engine in the tag domain (R255 to R284): it works from VTAG and no reset of the control domain touches it. -/
structure TagDom where
  /-- [1] R257 S: VTAG has passed V_TAG_ON -/
  on : Bool := false
  /-- [16] R287 S: last VTAG reading, mV -/
  vtag : Nat := 0
  /-- [1] R287 S: UHF field present -/
  uhf : Bool := false
  /-- [1] R287 S: HF field present -/
  hf : Bool := false
  /-- [4] R264 S: UHF state -/
  st : UhfState := .ready
  /-- [5x1] R264 S: inventoried flags of S0 to S3, true for B, and SL -/
  flags : List Bool := [false, false, false, false, false]
  /-- [ns] R264 M: when S1 was last set, on the always-on clock -/
  s1At : Nat := 0
  /-- [ns] R264 M: when VTAG last fell below V_TAG_OFF, on the always-on clock -/
  offAt : Nat := 0
  /-- [2] R264 S: session of the inventory round -/
  session : Nat := 0
  /-- [4] R264 S: Q -/
  q : Nat := 0
  /-- [15] R264 D: slot counter -/
  slot : Nat := 0
  /-- [16] R264 D: RN16 of the inventory round -/
  rn : Word := 0
  /-- [16] R264 D: handle -/
  handle : Word := 0
  /-- [16] R281 S: first half of the kill password received -/
  half : Option Word := none
  /-- [ns] R282 M: programming of the first kill unit ends, on the always-on clock -/
  killAt : Option Nat := none
  /-- [bits] R264 M: bits of the last backscatter reply -/
  uhfOut : List Bool := []
  /-- [6] R268 S: HF state -/
  hst : HfState := .idle
  /-- [1] R268 S: the HF path returns to HALT rather than IDLE -/
  halted : Bool := false
  /-- [9] R268 S: largest frame that the HF reader takes, bytes -/
  fsd : Nat := 256
  /-- [1] R268 S: block number -/
  blk : Nat := 1
  /-- [bytes] R268 S: response bytes still to be chained -/
  chain : Bytes := []
  /-- [bytes] R268 M: last HF frame sent, without its CRC -/
  hfOut : Bytes := []
  /-- [row] R279 S: UHF reader session: none, or its row, none without one -/
  uhfSess : Option (Option Nat) := none
  /-- [row] R279 S: HF reader session -/
  hfSess : Option (Option Nat) := none
  /-- [1] R279 S: the UHF session has read Enforcement words -/
  uhfEnf : Bool := false
  /-- [1] R279 S: the HF session has read Enforcement words -/
  hfEnf : Bool := false
  /-- [job] R271 S: field write under way -/
  job : Option TagJob := none
  /-- [1] R284 S: HARV is on, but for the time of a write -/
  harv : Bool := false
  /-- [ns] R284 S: end of HARV's off time after an overload, on the always-on clock -/
  harvOff : Option Nat := none
  /-- [ns] R262 S: last refresh, on the always-on clock -/
  refreshAt : Option Nat := none
  deriving DecidableEq, Repr

/-- The tag application (unit 0x0008), which a reset clears. -/
structure TagApp where
  /-- [32] R287 S: field commands -/
  cmds : Nat := 0
  /-- [32] R287 S: field writes -/
  writes : Nat := 0
  /-- [32] R287 S: power refusals -/
  power : Nat := 0
  /-- [32] R287 S: host BUSY -/
  busy : Nat := 0
  /-- [32] R287 S: sessions unrecorded -/
  unrecorded : Nat := 0
  /-- [32] R287 S: Enforcement reads -/
  enf : Nat := 0
  /-- [32] R287 S: retries absorbed -/
  absorbed : Nat := 0
  /-- [32] R287 S: HARV overloads -/
  overloads : Nat := 0
  /-- [1] R262 S: a refresh has been asked for -/
  ask : Bool := false
  /-- [jobs] R276 S: host writes of tag memory waiting for their programs, oldest first -/
  jobs : List TagJob := []
  deriving DecidableEq, Repr

/-- What the backing record of a key slot holds (R292, R296). -/
structure Slot where
  /-- [8] R290 S: type -/
  ty : Nat := 0
  /-- [16] R291 S: usage -/
  usage : Nat := 0
  /-- [1] R318 S: persistent -/
  pers : Bool := false
  /-- [32] R292 S: generation -/
  gen : Nat := 0
  /-- [8] R318 S: origin -/
  origin : Nat := 0
  /-- [bytes] R290 S: key -/
  key : Bytes := []
  deriving DecidableEq, Repr

/-- A job of the host interface of the cipher engine, from its submission on (R306, R309). -/
structure CipherJob where
  /-- [6] R309 S: client -/
  c : Client
  /-- [4] R291 S: role of the client at submission -/
  role : Nat
  /-- [8] R319 S: mode -/
  mode : Nat
  /-- [1] R319 S: decrypt or verify -/
  dec : Bool
  /-- [6] R319 S: slot -/
  slot : Nat
  /-- [bytes] R319 S: IV -/
  iv : Bytes
  /-- [8] R319 S: tag length -/
  tagLen : Nat
  /-- [1] R319 S: padding -/
  pad : Bool
  /-- [8] R319 S: counter width -/
  ctrW : Nat
  /-- [bytes] R319 S: additional data -/
  aad : Bytes
  /-- [bytes] R319 S: input -/
  input : Bytes
  /-- [bytes] R319 S: tag in -/
  tag : Bytes
  deriving DecidableEq, Repr

/-- A job on an AES core (R297). -/
structure CoreJob where
  /-- [job] R297 S: the job -/
  job : CipherJob
  /-- [bytes] R297 S: captured key -/
  key : Bytes
  /-- [32] R297 S: captured generation -/
  gen : Nat
  /-- [ns] R308 S: start -/
  start : Nat
  deriving DecidableEq, Repr

/-- The cipher engine (unit 0x0009). -/
structure Cipher where
  /-- [6] R309 S: holder of the host interface -/
  holder : Option Client := none
  /-- [ns] R309 S: its last access -/
  last : Nat := 0
  /-- [job] R305 S: host ring -/
  ring : Option CipherJob := none
  /-- [4 cores] R305 S: jobs on the cores -/
  cores : List (Option CoreJob) := [none, none, none, none]
  /-- [4] R316 S: cores excluded -/
  excluded : Nat := 0
  /-- [4 lists] R460 S: times of the ENGINE_FAULTs of each core in the last 60 s -/
  faults : List (List Nat) := [[], [], [], []]
  /-- [32] R319 S: jobs completed -/
  completed : Nat := 0
  /-- [32] R319 S: authentication failures -/
  authFails : Nat := 0
  /-- [32] R319 S: jobs revoked -/
  revoked : Nat := 0
  /-- [8] R319 S: job state -/
  st : Nat := 0
  /-- [8] R319 S: result -/
  result : Nat := 0
  /-- [bytes] R319 S: output -/
  out : Bytes := []
  /-- [128] R319 S: tag out -/
  tagOut : Bytes := List.replicate 16 0
  /-- [32] R319 S: generation -/
  gen : Nat := 0
  /-- [8] R319 S: result flags -/
  flags : Nat := 0
  deriving DecidableEq, Repr

/-- A job of the host interface of the public-key engine (R310, R320). -/
structure PkJob where
  /-- [6] R320 S: client -/
  c : Client
  /-- [4] R320 S: role of the client at submission -/
  role : Nat
  /-- [8] R320 S: operation -/
  op : Nat
  /-- [8] R320 S: algorithm -/
  alg : Nat
  /-- [8] R320 S: hash -/
  hash : Nat
  /-- [6] R320 S: slot -/
  slot : Nat
  /-- [1] R320 S: input is a digest -/
  digest : Bool
  /-- [6] R320 S: ECDH target -/
  target : Nat
  /-- [2] R320 S: hash flags -/
  flags : Nat
  /-- [bytes] R320 S: message -/
  msg : Bytes
  /-- [bytes] R320 S: peer public key -/
  peer : Bytes
  /-- [bytes] R320 S: signature in -/
  sig : Bytes
  deriving DecidableEq, Repr

/-- A public-key job that runs (R297, R314). -/
structure PkRun where
  /-- [job] R314 S: the job -/
  job : PkJob
  /-- [8] R290 S: captured type -/
  ty : Nat
  /-- [bytes] R297 S: captured key -/
  key : Bytes
  /-- [32] R297 S: captured generation -/
  gen : Nat
  deriving DecidableEq, Repr

/-- The public-key engine (unit 0x000A). -/
structure Pk where
  /-- [6] R320 S: holder of the host interface -/
  holder : Option Client := none
  /-- [ns] R320 S: its last access -/
  last : Nat := 0
  /-- [job] R314 S: host ring -/
  ring : Option PkJob := none
  /-- [job] R314 S: running job -/
  run : Option PkRun := none
  /-- [bytes] R314 S: message parts hashed since FIRST, host ring -/
  hash : Option Bytes := none
  /-- [32] R320 S: jobs completed -/
  completed : Nat := 0
  /-- [32] R320 S: fault checks failed -/
  faults : Nat := 0
  /-- [8] R320 S: job state -/
  st : Nat := 0
  /-- [8] R320 S: result -/
  result : Nat := 0
  /-- [768] R320 S: signature out -/
  sigOut : Bytes := List.replicate 96 0
  /-- [512] R320 S: digest -/
  digest : Bytes := List.replicate 64 0
  /-- [32] R320 S: generation -/
  gen : Nat := 0
  deriving DecidableEq, Repr

/-- The key store outside its backing records (unit 0x000C). -/
structure KeyStore where
  /-- [slots] R292 S: keys of volatile slots; their generations are in ReRAM -/
  vol : List (Nat × Slot) := []
  /-- [64x32] R318 S: uses by slot -/
  uses : List (Nat × Nat) := []
  /-- [64] R292 S: volatile slots whose increase of the reset has not committed -/
  stale : List Nat := []
  /-- [32] R318 S: zeroizes -/
  zeroizes : Nat := 0
  /-- [32] R318 S: integrity failures -/
  integrity : Nat := 0
  /-- [8] R318 S: rejection cause -/
  cause : Nat := 0
  /-- [32] R318 S: credentials accepted -/
  accepted : Nat := 0
  /-- [32] R318 S: credentials rejected -/
  rejected : Nat := 0
  deriving DecidableEq, Repr

/-- A dictionary request that waits for random bytes (R327, R329). -/
structure RngWait where
  /-- [3] R327 S: channel -/
  ch : Nat
  /-- [8] R327 S: bytes it needs -/
  need : Nat
  /-- [6] R329 S: client -/
  c : Client
  /-- [24] R329 S: object written -/
  key : Nat
  /-- [bytes] R329 S: data written -/
  data : Bytes
  deriving DecidableEq, Repr

/-- The random number generator (unit 0x000B). -/
structure Rng where
  /-- [8] R336 S: state -/
  st : Nat := 0
  /-- [ns list] R331 S: health failures of the last 10 s -/
  failTimes : List Nat := []
  /-- [8] R336 S: last failed test -/
  lastTest : Nat := 0
  /-- [8] R336 S: last failed source -/
  lastSrc : Nat := 0xFF
  /-- [32] R336 S: blocks released -/
  released : Nat := 0
  /-- [32] R336 S: blocks discarded -/
  discarded : Nat := 0
  /-- [32] R336 S: health failures -/
  failures : Nat := 0
  /-- [32] R336 S: restarts -/
  restarts : Nat := 0
  /-- [4x16] R336 S: source frequencies, MHz -/
  freq : List Nat := [0, 0, 0, 0]
  /-- [1] R329 S: channels 0 to 5 have stopped -/
  standardStopped : Bool := false
  /-- [1] R331 S: every channel has stopped -/
  fatal : Bool := false
  /-- [8 buffers] R327 S: buffers of tested bytes -/
  bufs : List Bytes := [[], [], [], [], [], [], [], []]
  /-- [8x32] R336 S: bytes delivered -/
  delivered : List Nat := [0, 0, 0, 0, 0, 0, 0, 0]
  /-- [requests] R327 S: requests waiting, oldest first -/
  waits : List RngWait := []
  /-- [3] R327 S: first standard channel offered next -/
  turn : Nat := 0
  /-- [1] R326 S: the next block is the start-up block -/
  startBlock : Bool := true
  /-- [ns] R337 S: start of the restart under way -/
  restartAt : Nat := 0
  /-- [1] R326 M: the restart follows a health failure and RNG_RESTARTED is to be raised -/
  restarting : Bool := false
  /-- [4x10] R325 S: repetition-count run of each source: length and last bit -/
  runs : List (Nat × Bool) := [(0, false), (0, false), (0, false), (0, false)]
  /-- [4x5] R325 S: consecutive blocks with an identical cycle count: length and count -/
  same : List (Nat × Nat) := [(0, 0), (0, 0), (0, 0), (0, 0)]
  /-- [4096] R336 S: raw bits of the last block -/
  raw : Bytes := List.replicate 512 0
  /-- [256] R336 S: conditioner output of the last block under injection -/
  testOut : Bytes := List.replicate 32 0
  /-- [32] R336 S: test failures under injection -/
  testFails : Nat := 0
  /-- [256] R327 S: the last 32 bytes channel 4 delivered, from which masks expand once it stops -/
  mask : Bytes := List.replicate 32 0
  /-- [bytes] R336 S: bytes of the last read of the random-bytes object -/
  read : Bytes := List.replicate 32 0
  deriving DecidableEq, Repr

/-- A timer of the timer set (R377, R409). -/
structure Timer where
  /-- [4] R381 S: prescaler code in effect -/
  p : Nat := 0
  /-- [1] R409 S: RUNNING -/
  running : Bool := false
  /-- [32] R377 M: count at the moment `from_`, or the count held while stopped -/
  base : Nat := 0
  /-- [clk] R377 M: peripheral clock at which the count is `base` -/
  from_ : Nat := 0
  /-- [32] R378 M: count shown before `from_`, after a PERIODIC match -/
  hold : Nat := 0
  /-- [clk] R378 M: tick of the last tick match -/
  matchedAt : Option Nat := none
  /-- [32] R409 S: compare -/
  cmp : Nat := 0xFFFFFFFF
  /-- [32] R409 S: capture -/
  capture : Nat := 0
  /-- [32] R384 S: pending holder, with the clock of the latch it waits for -/
  pend : Option (Nat × Nat) := none
  /-- [8] R382 S: link master in force -/
  master : Nat := 0xFF
  /-- [4] R382 S: link actions in force -/
  actions : Nat := 0
  /-- [1] R409 S: NEW -/
  new : Bool := false
  /-- [1] R409 S: OVERRUN -/
  overrun : Bool := false
  /-- [1] R409 S: OVF -/
  ovf : Bool := false
  /-- [1] R409 S: MATCH -/
  mtch : Bool := false
  /-- [32] R409 S: match count -/
  matches_ : Nat := 0
  /-- [32] R409 S: overflow count -/
  ovfs : Nat := 0
  /-- [ns list] R385 S: times of the events raised in the last 1 s -/
  evTimes : List Nat := []
  /-- [16] R385 S: events withheld -/
  withheld : Nat := 0
  /-- [ns] R385 S: last TIMER_EVENTS_LIMITED -/
  limitedAt : Option Nat := none
  deriving DecidableEq, Repr

/-- Distance timebase and motion-sensor input (units 0x0010, 0x0033), the part outside the always-on domain. -/
structure Dist where
  /-- [32] R410 S: pulse count since reset -/
  pulses : Nat := 0
  /-- [ns list] R387 S: edges of the last 1,000 ms -/
  edges : List Nat := []
  /-- [ns] R231 S: last motion-sensor pulse -/
  lastPulse : Option Nat := none
  /-- [16] R387 S: speed, 0.01 km/h -/
  speed : Nat := 0
  /-- [1] R387 S: OVERRATE has been raised and the rate has not fallen -/
  overrate : Bool := false
  /-- [32] R410 S: parked pulses added -/
  parked : Nat := 0
  /-- [8] R410 S: distance source -/
  source : Nat := 0
  /-- [16] R396 M: coefficient in effect, 0 before the first start -/
  coeff : Nat := 0
  /-- [8] R411 S: link state -/
  link : Nat := 0
  /-- [32] R391 S: session number -/
  session : Nat := 0
  /-- [64] R390 S: device nonce of the session -/
  devNonce : Bytes := []
  /-- [128] R391 S: session key -/
  key : Option Bytes := none
  /-- [ns] R392 S: last SESSION_REQ -/
  reqAt : Option Nat := none
  /-- [1] R392 S: a SESSION_RESP is awaited -/
  opening : Bool := false
  /-- [1] R392 S: no session is formed before the next SESSION_REQ interval -/
  pairingFault : Bool := false
  /-- [16] R390 S: number of the last DATA_REQ -/
  reqNo : Nat := 0
  /-- [ns] R392 S: last DATA_REQ -/
  dataAt : Nat := 0
  /-- [1] R392 S: the last DATA_REQ has no counting DATA_RESP yet -/
  await : Bool := false
  /-- [2] R392 S: consecutive requests unanswered -/
  unanswered : Nat := 0
  /-- [2] R392 S: MAC failures in this session -/
  sessMacFails : Nat := 0
  /-- [32] R392 S: own MS_PULSE count latched at the last DATA_REQ -/
  latched : Nat := 0
  /-- [32] R398 S: own count latched for the last counting DATA_RESP -/
  prevLatched : Option Nat := none
  /-- [32] R395 S: pulse count of the last counting DATA_RESP -/
  prevCount : Option Nat := none
  /-- [list] R398 S: time, link pulses and mismatch of the DATA_RESPs of the last 60 s -/
  window : List (Nat × (Nat × Nat)) := []
  /-- [8] R411 S: sensor status -/
  status : Nat := 0
  /-- [32] R411 S: MAC failures -/
  macFails : Nat := 0
  /-- [1] R398 M: PULSE_LINK condition present -/
  pulseLink : Bool := false
  /-- [bytes] R388 M: last frame sent on MS_DATA -/
  sent : Bytes := []
  /-- [ns] R460 M: since when the link is AUTHENTICATED -/
  authSince : Nat := 0
  deriving DecidableEq, Repr

/-- GNSS input (unit 0x0034). -/
structure Gnss where
  /-- [1] R411 S: position valid -/
  valid : Bool := false
  /-- [32] R411 S: latitude -/
  lat : Int := 0
  /-- [32] R411 S: longitude -/
  lon : Int := 0
  /-- [16] R411 S: speed, 0.01 km/h -/
  speed : Nat := 0
  /-- [16] R406 S: course, 0.01 degree -/
  course : Nat := 0
  /-- [8] R411 S: satellites -/
  sats : Nat := 0
  /-- [8] R406 S: HDOP, 0.1 -/
  hdop : Nat := 0
  /-- [32] R411 S: sentences rejected -/
  rejected : Nat := 0
  /-- [1] R399 S: the last RMC reports a fix -/
  rmcFix : Bool := false
  /-- [1] R399 S: the last GGA reports a fix -/
  ggaFix : Bool := false
  /-- [ms] R399 S: time of day of the last RMC -/
  rmcTod : Option Nat := none
  /-- [ms] R399 S: time of day of the last GGA -/
  ggaTod : Option Nat := none
  /-- [ms] R401 S: UTC of the last RMC and the local time of its arrival, ns -/
  lastRmc : Option (Nat × Nat) := none
  /-- [ms] R402 S: UTC last known and its local time, ns -/
  utc : Option (Nat × Nat) := none
  /-- [position] R401 S: last valid position, its time ns -/
  lastPos : Option (Int × Int × Nat) := none
  /-- [m, 10^-3] R401 S: GNSS track of the present DISTANCE_RATIO stretch -/
  track : Nat := 0
  /-- [m, 10^-3] R401 S: sensor distance of the same seconds -/
  msTrack : Nat := 0
  /-- [m, 10^-3] R401 S: sensor distance at the last valid position -/
  msAt : Nat := 0
  /-- [ns] R401 S: since when MOTION_CONFLICT holds -/
  conflictAt : Option Nat := none
  /-- [ns] R401 S: since when STATIC holds -/
  staticAt : Option Nat := none
  /-- [6] R401 S: conditions raised and not ended, bit by cause of R412 -/
  raised : Nat := 0
  /-- [ns] R402 S: last GNSS_IMPLAUSIBLE -/
  implausibleAt : Option Nat := none
  /-- [ns] R400 S: last edge of GN_PPS -/
  pps : Option Nat := none
  /-- [32] R400 S: T6 count at that edge -/
  ppsCount : Nat := 0
  deriving DecidableEq, Repr

/-- A scheduler entry's own values (R404). -/
structure SchedEntry where
  /-- [64] R410 S: next due, none while the entry is disabled -/
  next : Option Nat := none
  /-- [32] R410 S: fired -/
  fired : Nat := 0
  /-- [32] R410 S: skipped -/
  skipped : Nat := 0
  /-- [objects] R404 M: its configuration at the last test -/
  cfg : Objs := []
  /-- [1] R405 S: its basis was valid at the last test -/
  valid : Bool := false
  /-- [64] R405 S: its basis value at the last test -/
  seen : Nat := 0
  /-- [1] R404 S: it has fired once with P = 0 and disabled itself -/
  spent : Bool := false
  deriving DecidableEq, Repr

/-- Event scheduler (unit 0x0032). -/
structure Sched where
  /-- [24 records] R410 S: entries -/
  es : List (Nat × SchedEntry) := []
  /-- [1] R406 S: PARKED_MOTION since the previous sample -/
  parked : Bool := false
  /-- [ms] R405 S: NETWORK less LOCAL at the last test -/
  netOff : Option Int := none
  /-- [ms] R405 S: GNSS less LOCAL at the last test -/
  gnssOff : Option Int := none
  /-- [ns] R403 M: time of the last test -/
  last : Nat := 0
  deriving DecidableEq, Repr

/-- A frame in the device queue of a controller (R420). -/
structure DevFrame where
  /-- [2] R420 S: class -/
  cls : TxClass
  /-- [frame] R420 S: the frame -/
  fr : CanFrame
  /-- [6] R507 M: the client that a BDP response answers -/
  c : Option Client := none
  /-- [1] R433 M: an EPOCH rather than a REF -/
  epoch : Bool := false
  deriving DecidableEq, Repr

/-- A transmit buffer's snapshot and status (R424). -/
structure TxBuf where
  /-- [8] R441 S: status -/
  st : Nat := 0
  /-- [8] R441 S: result flags -/
  result : Nat := 0
  /-- [64] R441 S: send time, ns -/
  sendTime : Nat := 0
  /-- [frame] R424 D: the frame of the last request -/
  fr : CanFrame := { id := 0 }
  /-- [1] R422 S: one-shot flag of the request -/
  oneShot : Bool := false
  /-- [1] R443 S: completion event flag of the request -/
  event : Bool := false
  /-- [1] R423 S: an abort waits for the end of the frame -/
  abortLate : Bool := false
  deriving DecidableEq, Repr

/-- The frame on the bus (R421): from the device slot, or from a host buffer. -/
structure CurTx where
  /-- [2] R420 S: buffer, none for the device slot -/
  buf : Option Nat
  /-- [frame] R421 S: frame as sent -/
  fr : CanFrame
  /-- [ns] R441 S: start of frame -/
  start : Nat
  deriving DecidableEq, Repr

/-- A received record (R427). -/
structure RxRec where
  /-- [frame] R427 S: frame -/
  fr : CanFrame
  /-- [1] R427 S: a high-priority filter took it -/
  hp : Bool
  /-- [8] R427 S: filter -/
  filter : Nat
  /-- [64] R427 S: receive time, ns -/
  at_ : Nat
  deriving DecidableEq, Repr

/-- A CAN controller (units 0x002E, 0x002F). -/
structure CanCtl where
  /-- [8] R441 S: protocol state -/
  st : Nat := 0
  /-- [9] R441 S: transmit error count -/
  tec : Nat := 0
  /-- [8] R441 S: receive error count -/
  rxErr : Nat := 0
  /-- [8] R441 S: last error -/
  lastErr : Nat := 0
  /-- [8] R441 S: measured TDC -/
  tdc : Nat := 0
  /-- [32] R441 S: frames received -/
  rxd : Nat := 0
  /-- [32] R441 S: frames sent -/
  sent : Nat := 0
  /-- [32] R441 S: errors detected -/
  errors : Nat := 0
  /-- [32] R441 S: bus-off events -/
  busOffs : Nat := 0
  /-- [32] R441 S: arbitration lost -/
  arbLost : Nat := 0
  /-- [32] R441 S: FIFO drops -/
  drops : Nat := 0
  /-- [32] R441 S: frames unfiltered -/
  unfiltered : Nat := 0
  /-- [16 frames] R420 S: device queue, in the order of service -/
  queue : List DevFrame := []
  /-- [frames] R420 S: BDP responses that wait for a free entry -/
  waiting : List DevFrame := []
  /-- [3 buffers] R420 S: host buffers -/
  bufs : List TxBuf := [{}, {}, {}]
  /-- [frame] R421 S: frame on the bus -/
  cur : Option CurTx := none
  /-- [32 records] R428 S: receive FIFO, oldest first -/
  fifo : List RxRec := []
  /-- [1] R428 S: in a run of drops -/
  dropping : Bool := false
  /-- [record] R429 S: high-priority buffer -/
  hp : Option RxRec := none
  /-- [1] R429 S: NEW -/
  hpNew : Bool := false
  /-- [1] R429 S: OVERRUN -/
  hpOver : Bool := false
  /-- [8] R429 S: arrival count -/
  hpCount : Nat := 0
  /-- [record] R429 S: pending holder -/
  hpPend : Option RxRec := none
  /-- [ns] R429 M: latch that the pending holder waits for -/
  hpLatch : Option Nat := none
  /-- [ns] R430 S: bus-off since -/
  offAt : Nat := 0
  /-- [1] R419 S: on the RC clock -/
  clkRc : Bool := false
  /-- [1] R419 S: RESTRICTED for the RC clock -/
  rcRestricted : Bool := false
  deriving DecidableEq, Repr

/-- The Bellwether (unit 0x0030). -/
structure Bell where
  /-- [8] R442 S: state -/
  st : Nat := 0
  /-- [64] R432 S: T7 count, extended, at the latest reference instant -/
  inst : Option Nat := none
  /-- [6] R435 S: sequence of the REF of that instant -/
  instSeq : Nat := 0
  /-- [6] R442 S: last sequence -/
  seq : Nat := 0
  /-- [pair] R435 S: newest pair: T7 ticks and network time, us -/
  pair : Option (Nat × Nat) := none
  /-- [pair] R435 S: latest pair, in use or not, from which the next rate is formed -/
  lastPair : Option (Nat × Nat) := none
  /-- [64] R435 S: the network time last reported before the newest pair, below which it does not go -/
  floor : Nat := 0
  /-- [ratio] R435 S: rate, us over ticks -/
  rate : Option (Nat × Nat) := none
  /-- [16] R435 S: bits 63 to 48 of the latest EPOCH, carried on -/
  high : Option Nat := none
  /-- [48] R435 S: M of the latest REF -/
  lastM : Option Nat := none
  /-- [1] R436 S: network time valid -/
  valid : Bool := false
  /-- [1] R442 S: UTC -/
  utc : Bool := false
  /-- [32] R442 S: REFs received -/
  refs : Nat := 0
  /-- [32] R442 S: pairs rejected -/
  rejected : Nat := 0
  /-- [32] R442 S: steps -/
  steps : Nat := 0
  /-- [8] R442 S: master seen -/
  seen : Nat := 0xFF
  /-- [ns] R437 S: last REF of another node, or the start of listening -/
  refAt : Nat := 0
  /-- [ns] R434 S: last REF requested as master -/
  sentAt : Nat := 0
  /-- [32] R434 S: REFs sent since the last EPOCH -/
  sinceEpoch : Nat := 0
  /-- [1] R433 S: the next REF carries FIRST -/
  first : Bool := true
  /-- [1] R434 S: the REF requested has not been sent -/
  outstanding : Bool := false
  /-- [pair] R434 S: as master, T7 ticks and network time at the last adjustment -/
  mBase : Nat × Nat := (0, 0)
  /-- [ns] R437 S: extra delay before the role may be taken again -/
  extra : Nat := 0
  /-- [1] R460 S: Sheepdog makes the role act as SLAVE -/
  slaveOnly : Bool := false
  deriving DecidableEq, Repr

/-- A located result (R201, R251). -/
structure Located where
  /-- [3x16] R251 S: position, mm; none without one -/
  pos : Option (Int × Int × Int) := none
  /-- [16] R251 S: standard deviation, mm -/
  sigma : Nat := 0xFFFF
  /-- [8] R251 S: zone ID -/
  zone : Nat := 0
  /-- [8] R251 S: zone class -/
  cls : Nat := 0
  /-- [8] R251 S: relay class -/
  relay : Nat := 0
  /-- [8] R251 S: test mask -/
  mask : Nat := 0
  /-- [32] R209 S: azimuth in 2^-32 turn, none without an angle -/
  az : Option Nat := none
  /-- [16] R251 S: elevation, 0.1 degree -/
  el : Int := 0
  /-- [16] R251 S: range, mm -/
  range : Nat := 0
  /-- [8] R251 S: LF residual RMS, 0.25 dB -/
  rms : Nat := 0
  /-- [16] R251 S: disagreement, mm -/
  disagree : Nat := 0
  /-- [16] R251 S: excess range, mm -/
  excess : Int := 0
  /-- [32] R251 S: result round -/
  round : Nat := 0
  /-- [8] R251 S: service level -/
  level : Nat := 0
  deriving DecidableEq, Repr

/-- What the device keeps of a session's last round until its report has come (R186, R189). -/
structure RespData where
  /-- [32] R181 S: round number -/
  number : Nat
  /-- [40] R186 S: T1 -/
  t1 : Nat
  /-- [40] R186 S: T5 -/
  t5 : Nat := 0
  /-- [1] R186 S: the RESP arrived and its MAC verified -/
  resp : Bool := false
  /-- [1] R188 S: a RESP or REPORT of the round failed its MAC -/
  macFail : Bool := false
  /-- [1] R185 S: the RESP slot delivered a frame -/
  heard : Bool := false
  /-- [3] R186 S: lane reports of the RESP, T4 in each -/
  lanes : List LaneReport := []
  /-- [32] R188 S: clock offset measured on the RESP, ppb -/
  co : Int := 0
  /-- [1] R181 S: a report for the round arrived with a verified MAC -/
  report : Bool := false
  /-- [1] R188 S: the report came with the RESP of the following round -/
  track : Bool := false
  /-- [1] R181 S: POLL_OK and FINAL_OK are both 1 -/
  tokOk : Bool := false
  /-- [32] R181 S: Db -/
  db : Nat := 0
  /-- [32] R181 S: Rb -/
  rb : Nat := 0
  /-- [32] R181 S: token clock offset, ppb -/
  tco : Int := 0
  deriving DecidableEq, Repr

/-- A row of the context table (R170, R171, R198). A FREE row is not listed. -/
structure Row where
  /-- [8] R171 S: state -/
  st : Nat := 0
  /-- [8] R170 S: kind -/
  kind : Nat := 0
  /-- [64] R157 S: partner ID -/
  id : Bytes := List.replicate 8 0
  /-- [16] R171 S: handle -/
  handle : Nat := 0
  /-- [32] R198 S: rounds ranged in this session -/
  rounds : Nat := 0
  /-- [32] R198 S: last seen, ms -/
  seen : Nat := 0
  /-- [16] R198 S: invalid count -/
  invalid : Nat := 0
  /-- [8] R198 S: last invalid cause -/
  cause : Nat := 0
  /-- [8] R162 S: tone step of the REPLY -/
  tone : Nat := 0
  /-- [144] R162 S: RSSI report -/
  rssi : Bytes := List.replicate 18 0
  /-- [3x32] R187 S: time of flight by lane, 1/16 RTU -/
  tof : List Int := [0, 0, 0]
  /-- [16] R188 S: result flags -/
  flags : Nat := 0
  /-- [32] R198 S: result round -/
  round : Nat := 0
  /-- [32] R198 S: clock offset, ppb -/
  co : Int := 0
  /-- [32] R198 S: token clock offset, ppb -/
  tco : Int := 0
  /-- [3x8] R198 S: LQF of the RESP lanes -/
  lqf : List Nat := [0, 0, 0]
  /-- [8] R185 S: missed rounds -/
  missed : Nat := 0
  /-- [5] R124 S: gain hint -/
  gain : Nat := 0
  /-- [2] R198 S: policy marks -/
  marks : Nat := 0
  /-- [32] R198 S: generation of the master key slot used -/
  keyGen : Nat := 0
  /-- [8] R162 S: token status -/
  status : Nat := 0
  /-- [128] R158 S: session MAC key, a working key -/
  kmac : Bytes := []
  /-- [128] R158 S: ranging-sequence key, a working key -/
  krng : Bytes := []
  /-- [ns] R177 S: end of the MAC check that started the session -/
  doneAt : Nat := 0
  /-- [16] R174 M: serial of the epoch that the session belongs to -/
  epoch : Nat := 0
  /-- [ns] R177 S: when the session was last listed -/
  listed : Nat := 0
  /-- [record] R189 S: the last round's data, until its result has been handed over -/
  last : Option RespData := none
  /-- [record] R251 S: located result -/
  loc : Option Located := none
  deriving DecidableEq, Repr

/-- A reply whose MAC is under check (R167, R171). -/
structure MacWait where
  /-- [8] R171 M: row in PENDING, none where no row is free or the ID's row holds a session -/
  row : Option Nat
  /-- [8] R171 M: state to which the row returns where the check fails -/
  was : Nat
  /-- [56 bytes] R162 S: the REPLY -/
  reply : Bytes
  /-- [5] R169 S: position bin of the frame -/
  bin : Nat
  /-- [5] R124 S: gain hint after the frame -/
  gain : Nat
  /-- [1] R25 S: it is in the trust pair's request queue -/
  queued : Bool
  /-- [1] R25 S: it is in service -/
  service : Bool := false
  deriving DecidableEq, Repr

/-- An epoch (R174, R194). -/
structure Epoch where
  /-- [16] R174 M: serial of the epoch since reset -/
  serial : Nat
  /-- [ns] R174 S: its beginning -/
  start : Nat
  /-- [64] R174 S: nonce -/
  nonce : Bytes
  /-- [8] R174 S: round counter -/
  counter : Nat
  /-- [16] R163 S: round parameters -/
  params : Nat
  /-- [6] R211 S: antennas driven -/
  ants : Nat := 0
  /-- [128] R159 S: round key, a working key -/
  krd : Bytes
  /-- [32] R179 S: number of the next round -/
  next : Nat := 0
  /-- [ns] R177 S: start of the previous round -/
  prevAt : Nat := 0
  /-- [ns] R177 S: start of the next round, none before the reply window closes -/
  due : Option Nat := none
  deriving DecidableEq, Repr

/-- The reply window of a telegram or peer challenge (R164 to R167). -/
structure ReplyWin where
  /-- [1] R194 S: it belongs to a peer challenge -/
  peer : Bool
  /-- [ns] R164 S: start of slot 0 -/
  start : Nat
  /-- [6] R164 S: slots -/
  slots : Nat
  /-- [IDs] R167 S: IDs with a valid reply -/
  valid : List Bytes := []
  /-- [16] R165 S: valid replies -/
  count : Nat := 0
  /-- [slots] R166 S: slots with a detection, and its code phase -/
  det : List (Nat × Nat) := []
  /-- [slots] R166 S: slots that delivered a frame -/
  good : List Nat := []
  /-- [slots] R166 S: slots with a second detection away from the first -/
  twice : List Nat := []
  /-- [1] R104 S: a valid token reports saturation -/
  saturated : Bool := false
  deriving DecidableEq, Repr

/-- A session listed in the round in progress (R175). -/
structure Listed where
  /-- [8] R175 S: row -/
  row : Nat
  /-- [64] R175 M: ID of the row when it was listed -/
  id : Bytes
  /-- [16] R179 S: handle -/
  handle : Nat
  /-- [record] R186 S: what this round has given so far -/
  cur : RespData
  /-- [record] R189 S: the previous round's data, with the report that this round's RESP carries -/
  prev : Option RespData
  /-- [1] R191 S: its session has ended and its data is not to be trusted -/
  void : Bool := false
  deriving DecidableEq, Repr

/-- The round in progress (R175). -/
structure Round where
  /-- [1] R194 S: a peer round -/
  peer : Bool
  /-- [32] R179 S: number -/
  number : Nat
  /-- [1] R175 S: FULL -/
  full : Bool
  /-- [1] R174 S: POLL and FINAL carry EPOCH_END -/
  last : Bool
  /-- [ns] R176 S: start of slot 0 -/
  start : Nat
  /-- [128] R182 S: round key of its epoch -/
  krd : Bytes
  /-- [16] R180 S: slots from the FINAL's slot to the next POLL's slot -/
  gap : Nat
  /-- [ns] R213 S: beginning of its epoch -/
  epochAt : Nat
  /-- [16] R220 M: serial of its epoch -/
  serial : Nat
  /-- [1] R211 S: antennas of its epoch's telegram -/
  ants : Nat
  /-- [list] R175 S: sessions in slot order -/
  ss : List Listed
  /-- [8] R175 S: slots begun -/
  begun : Nat := 0
  deriving DecidableEq, Repr

/-- A pairing with a tractor (R196, R198). -/
structure Tractor where
  /-- [64] R160 S: this device's partner ID -/
  id : Bytes := List.replicate 8 0
  /-- [64] R160 S: the tractor's vehicle identifier -/
  vid : Bytes := List.replicate 8 0
  /-- [128] R160 S: K_tok -/
  ktok : Bytes := []
  /-- [128] R160 S: K_pgrp -/
  kpgrp : Bytes := []
  deriving DecidableEq, Repr

/-- The peer-role session (R184, R196). -/
structure PeerSession where
  /-- [2] R196 S: tractor pairing -/
  tractor : Nat
  /-- [8] R196 S: row -/
  row : Nat
  /-- [16] R171 S: handle -/
  handle : Nat
  /-- [128] R158 S: session MAC key -/
  kmac : Bytes
  /-- [128] R158 S: ranging-sequence key -/
  krng : Bytes
  /-- [128] R158 S: round key -/
  krd : Bytes
  /-- [2] R184 S: consecutive rounds without a POLL that passes -/
  failed : Nat := 0
  /-- [32] R196 S: rounds answered -/
  answered : Nat := 0
  /-- [ns] R184 S: last POLL that passed, or the start -/
  pollAt : Nat
  /-- [ns] R184 S: last gap announced -/
  gap : Nat := 0
  /-- [32] R184 S: number of the present round -/
  number : Nat := 0
  /-- [1] R184 S: a round has been answered or heard -/
  any : Bool := false
  /-- [8] R184 S: place in the round, 0 when not listed -/
  place : Nat := 0
  /-- [8] R184 S: N of the present round -/
  n : Nat := 0
  /-- [1] R184 S: the present round is FULL -/
  full : Bool := false
  /-- [ns] R176 S: slot grid: start of the POLL's slot -/
  slotAt : Nat := 0
  /-- [1] R184 S: EPOCH_END was announced -/
  ends : Bool := false
  /-- [40] R181 S: T2 of the present round -/
  t2 : Nat := 0
  /-- [40] R181 S: T3 of the present round -/
  t3 : Nat := 0
  /-- [values] R181 S: Db, Rb, clock offset and LQF of the last complete round, with its number -/
  done : Option (Nat × (Nat × (Nat × (Int × Nat)))) := none
  /-- [1] R181 S: the present round's report is still to be sent -/
  owed : Bool := false
  deriving DecidableEq, Repr

/-- The context table (unit 0x0007). -/
structure Ctx where
  /-- [256 rows] R170 S: rows that are not FREE -/
  rows : List (Nat × Row) := []
  /-- [epoch] R174 S: token epoch -/
  ep : Option Epoch := none
  /-- [epoch] R194 S: peer epoch -/
  pep : Option Epoch := none
  /-- [16] R174 M: epochs begun since reset -/
  serial : Nat := 0
  /-- [window] R164 S: reply window -/
  win : Option ReplyWin := none
  /-- [round] R175 S: round in progress -/
  round : Option Round := none
  /-- [32] R198 S: last round of the token epoch -/
  lastRound : Nat := 0
  /-- [replies] R167 S: MAC checks under way, oldest first -/
  macs : List MacWait := []
  /-- [list] R165 S: valid and collided counts of the last full telegram and its time -/
  memory : Option (Nat × (Nat × Nat)) := none
  /-- [8] R198 S: slot count code used -/
  slotCode : Nat := 0
  /-- [17 bins] R169 S: times of the counts of each bin -/
  bins : List (Nat × List Nat) := []
  /-- [32] R198 S: replies delivered -/
  delivered : Nat := 0
  /-- [32] R198 S: valid replies -/
  valid : Nat := 0
  /-- [32] R198 S: discarded frames -/
  discarded : Nat := 0
  /-- [32] R198 S: collided slots -/
  collided : Nat := 0
  /-- [32] R198 S: invalid replies -/
  invalid : Nat := 0
  /-- [32] R198 S: rounds -/
  rounds : Nat := 0
  /-- [32] R198 S: session MAC failures -/
  macFails : Nat := 0
  /-- [32] R198 S: evictions -/
  evictions : Nat := 0
  /-- [32] R198 S: replies dropped -/
  dropped : Nat := 0
  /-- [ns] R194 S: last peer challenge -/
  challengedAt : Option Nat := none
  /-- [8] R194 S: round counter of the last peer challenge -/
  peerCounter : Nat := 0
  /-- [2] R195 S: consecutive qualifying peer rounds, and the peer's row -/
  coupleRun : Nat := 0
  /-- [8] R195 S: row of the run -/
  coupleRow : Nat := 0
  /-- [ns] R195 S: last qualifying peer round -/
  coupleAt : Nat := 0
  /-- [8] R195 S: coupling state -/
  coupled : Bool := false
  /-- [64] R198 S: coupled peer -/
  peerId : Bytes := List.replicate 8 0
  /-- [record] R196 S: peer-role session -/
  peer : Option PeerSession := none
  deriving DecidableEq, Repr

/-- The locator (unit 0x0005). -/
structure Loc where
  /-- [8] R251 S: service level -/
  level : Nat := 0
  /-- [32] R251 S: results located -/
  located : Nat := 0
  /-- [32] R251 S: relay-suspect results -/
  suspect : Nat := 0
  /-- [32] R251 S: NLOS results -/
  nlos : Nat := 0
  /-- [32] R251 S: LF-weak results -/
  weak : Nat := 0
  /-- [32] R251 S: insufficient results -/
  insufficient : Nat := 0
  /-- [16] R251 S: fusion time, us -/
  fusion : Nat := 0
  /-- [8] R251 S: rejection cause -/
  cause : Nat := 0
  deriving DecidableEq, Repr

/-- A request that policy has pending (R220). -/
structure Request where
  /-- [8] R219 S: code, 1 UNLOCK or 2 START -/
  code : Nat
  /-- [8] R253 S: source -/
  src : Nat
  /-- [ns] R222 S: arrival -/
  at_ : Nat
  /-- [16] R220 S: first epoch that can decide it -/
  epoch : Nat
  /-- [1] R222 S: a qualifying result lay outside every start zone -/
  wrongZone : Bool := false
  /-- [1] R222 S: a suspect token was found -/
  suspect : Bool := false
  /-- [1] R222 S: two or more tokens qualified in a start zone -/
  twoDrivers : Bool := false
  deriving DecidableEq, Repr

/-- A presence poll run (R243). -/
structure Presence where
  /-- [ns] R243 S: last presence poll -/
  last : Option Nat := none
  /-- [1] R243 S: WAKE_RF was inactive at the poll's start -/
  low : Bool := false
  /-- [1] R243 S: WAKE_RF was asserted within the window -/
  hit : Bool := false
  /-- [1] R243 S: the poll's answer window is still open -/
  open_ : Bool := false
  /-- [3] R243 S: consecutive polls that saw presence -/
  run : Nat := 0
  deriving DecidableEq, Repr

/-- What policy remembers of a token (R224). -/
structure Suspect where
  /-- [64] R224 S: token ID -/
  id : Bytes
  /-- [4] R224 S: the last four located results, newest first: RELAY_SUSPECT or not -/
  hist : List Bool := []
  /-- [ns] R224 S: end of the suspect mark -/
  till : Option Nat := none
  deriving DecidableEq, Repr

/-- The latch record in ReRAM (R231). -/
structure Latch where
  /-- [64] R231 S: bound driver -/
  driver : Nat
  /-- [64] R231 S: second driver -/
  driver2 : Nat
  /-- [8] R240 S: zone ID -/
  zone : Nat
  /-- [8] R240 S: zone class -/
  cls : Nat
  /-- [8] R240 S: binding flags -/
  flags : Nat
  deriving DecidableEq, Repr

/-- Policy and the start-lock outputs (units 0x0021, 0x0006). -/
structure Pol where
  /-- [64] R252 S: bound driver -/
  driver : Nat := 0
  /-- [64] R252 S: second driver -/
  driver2 : Nat := 0
  /-- [8] R252 S: binding flags -/
  bindFlags : Nat := 0
  /-- [1] R240 S: a driver is bound -/
  bound : Bool := false
  /-- [8] R240 S: row of the bound driver, 0xFF none -/
  boundRow : Nat := 0xFF
  /-- [1] R222 S: the binding or release is ambiguous -/
  ambiguous : Bool := false
  /-- [requests] R220 S: pending requests -/
  pend : List Request := []
  /-- [1] R246 S: the next interval keeps the configured period -/
  prompt_ : Bool := false
  /-- [8] R253 S: outcome -/
  outcome : Nat := 0
  /-- [8] R253 S: cause -/
  cause : Nat := 0
  /-- [8] R253 S: zone class -/
  cls : Nat := 0
  /-- [8] R253 S: zone ID -/
  zone : Nat := 0
  /-- [8] R253 S: row -/
  row : Nat := 0xFF
  /-- [8] R253 S: second row -/
  row2 : Nat := 0xFF
  /-- [8] R253 S: flags -/
  flags : Nat := 0
  /-- [32] R253 S: decision time, ms -/
  decMs : Nat := 0
  /-- [8] R253 S: request source -/
  src : Nat := 0
  /-- [32] R252 S: decisions -/
  decisions : Nat := 0
  /-- [32] R252 S: refusals -/
  refusals : Nat := 0
  /-- [1] R226 S: lock state -/
  locked : Bool := false
  /-- [1] R227 S: Rooster's lock instant waits for the engine to stop -/
  lockDue : Bool := false
  /-- [8] R253 S: output state -/
  out : Nat := 0
  /-- [ns] R229 S: start of the waveform -/
  waveAt : Nat := 0
  /-- [ns] R229 S: falling edge of SE_A after which an ended waveform stays low -/
  waveEnd : Nat := 0
  /-- [ns] R230 S: end of the validity timer -/
  validTill : Nat := 0
  /-- [ns] R230 S: last renewal -/
  renewAt : Nat := 0
  /-- [ns] R236 S: last release message sent again -/
  msgAt : Nat := 0
  /-- [ns] R236 S: last TRUST_LOST message -/
  lostAt : Option Nat := none
  /-- [32] R253 S: message count -/
  messages : Nat := 0
  /-- [32] R253 S: releases -/
  releases : Nat := 0
  /-- [IDs] R230 S: deciding tokens of the release or latch -/
  partners : List Bytes := []
  /-- [8] R235 S: flags of the release or latch -/
  relFlags : Nat := 0
  /-- [8] R235 S: zone class of the release -/
  relCls : Nat := 0
  /-- [8] R235 S: zone ID of the release -/
  relZone : Nat := 0
  /-- [8] R253 S: deciding token's row -/
  relRow : Nat := 0xFF
  /-- [2] R234 S: balls with a fault present -/
  faultMask : Nat := 0
  /-- [2x2] R234 S: consecutive mismatches of SE_A and SE_B -/
  mis : Nat × Nat := (0, 0)
  /-- [7] R234 S: consecutive matching readbacks -/
  matches_ : Nat := 0
  /-- [32] R253 S: readback faults -/
  outFaults : Nat := 0
  /-- [ns] R234 S: last readback -/
  readAt : Nat := 0
  /-- [latch] R231 S: latch record as it shall stand in ReRAM -/
  latch : Option Latch := none
  /-- [1] R249 S: the latch record read at start is still to be resumed or cleared -/
  resume : Bool := false
  /-- [1] R249 S: the lock state and the latch record have been read since reset -/
  started : Bool := false
  /-- [1] R253 S: engine state used -/
  engine : Bool := false
  /-- [1] R249 S: an engine-state source has answered since reset -/
  engineKnown : Bool := false
  /-- [1] R239 S: door reported open -/
  door : Bool := false
  /-- [ns] R239 S: last engine-state frame -/
  engAt : Nat := 0
  /-- [1] R239 S: ENGINE_STATE_STALE has been raised and no frame has come since -/
  stale : Bool := false
  /-- [frame] R238 S: code, counter and time of the previous request frame -/
  lastReq : Option (Nat × (Nat × Nat)) := none
  /-- [tokens] R224 S: results of tokens and their suspect marks -/
  tokens : List Suspect := []
  /-- [bins] R225 S: bins under hold-off and the end of each -/
  bins : List (Nat × Nat) := []
  /-- [rows] R220 S: partners of the most recent valid located results -/
  recent : List Nat := []
  /-- [list] R230 S: by ID, whether its last located result in a start zone qualified, and its time -/
  startAt : List (Bytes × (Bool × Nat)) := []
  /-- [ns] R228 S: last qualifying result in a zone -/
  walkAt : Nat := 0
  /-- [record] R241 S: rebind candidate's ID, row and since when both conditions hold -/
  rebind : Option (Bytes × (Nat × Nat)) := none
  /-- [record] R243 S: presence polls -/
  presence : Presence := {}
  /-- [8] R252 S: governor level -/
  gov : Nat := 0
  /-- [16] R252 S: junction temperature, 0.25 degree -/
  tj : Int := 0
  /-- [32] R252 S: level changes -/
  govChanges : Nat := 0
  deriving DecidableEq, Repr

/-- The always-on domain (R456): kept by every reset but POWER_ON. -/
structure Aon where
  /-- [ns] R449 S: always-on clock, since POWER_ON -/
  clock : Nat := 0
  /-- [8] R475 S: power mode -/
  mode : Nat := 0
  /-- [8] R456 S: kind of the latest reset -/
  resetKind : Nat := 1
  /-- [8] R109 S: cause of the wake that the cold start under way follows, 0 none -/
  wake : Nat := 0
  /-- [16] R475 S: 32 kHz trim -/
  trim : Nat := 0
  /-- [ns list] R465 S: lasting-fault history, times of the SHEEPDOG resets on the always-on clock -/
  history : List Nat := []
  /-- [3] R477 S: tamper latches -/
  latches : Nat := 0
  /-- [2] R468 S: consecutive wrong mesh checks -/
  meshBad : Nat := 0
  /-- [2] R468 S: consecutive wrong loop samples -/
  loopBad : Nat := 0
  /-- [8 records] R469 S: detections logged with the rails down -/
  offline : List OffTamper := []
  /-- [64] R300 S: zeroize marks by slot -/
  marks : List Nat := []
  /-- [20] R395 S: accumulator -/
  acc : Nat := 0
  /-- [1] R407 S: the accumulator was lost with VAON and the loss has not been raised -/
  accLost : Bool := true
  /-- [24] R397 S: parked count -/
  parked : Nat := 0
  /-- [3] R397 D: MS_PULSE as the 32 kHz samples see it -/
  msIn : WakeIn := {}
  /-- [3] R98 D: WAKE_DOOR as the 32 kHz samples see it -/
  doorIn : WakeIn := {}
  /-- [3] R98 D: WAKE_RF -/
  rfIn : WakeIn := {}
  /-- [3] R98 D: CAN0_RX -/
  can0In : WakeIn := {}
  /-- [3] R98 D: CAN1_RX -/
  can1In : WakeIn := {}
  /-- [record] R97 S: Rooster -/
  rooster : Rooster := {}
  deriving DecidableEq, Repr

/-- The content of the ReRAM (R28, R340): kept by every reset. -/
structure ReRam where
  /-- [objects] R372 S: persistent objects away from their defaults -/
  objs : Objs := []
  /-- [area] R340 S: parameter journal -/
  param : Area := {}
  /-- [area] R340 S: boot and lifecycle records -/
  boot : Area := {}
  /-- [area] R340 S: key store backing -/
  key : Area := {}
  /-- [area] R340 S: calibration -/
  cal : Area := {}
  /-- [64 counters] R352 S: monotonic counters that have a valid cell, by number -/
  ctrs : List (Nat × Counter) := []
  /-- [list] R341 S: logical pages remapped -/
  remapped : List Nat := []
  /-- [16] R341 S: spare pages used -/
  sparesUsed : Nat := 0
  /-- [8] R470 S: lifecycle state -/
  lifecycle : Nat := 1
  /-- [bank] R472 D: firmware bank A -/
  fwA : FwBank := { shipped := some { release := 1, version := 0 } }
  /-- [bank] R472 S: firmware bank B -/
  fwB : FwBank := {}
  /-- [1] R477 S: active bank -/
  active : Nat := 0
  /-- [1] R473 S: the bank marked TRIAL -/
  trialBank : Option Nat := none
  /-- [1] R473 S: a trial has booted and is not confirmed -/
  trialRan : Bool := false
  /-- [16] R477 S: security floor -/
  floor : Nat := 0
  /-- [1024] R367 S: bad-block table, die * 2^16 + block -/
  badBlocks : List Nat := []
  /-- [27] R366 S: head hint, die * 2^24 + row of the block opened last -/
  headHint : Nat := 0
  /-- [64] R366 S: oldest retained record number -/
  oldest : Nat := 0
  /-- [32] R375 S: wraps -/
  wraps : Nat := 0
  /-- [3] R411 S: tamper flags, bits 5 to 3 -/
  tamper : Nat := 0
  /-- [64 slots] R292 S: backing records of the key slots; an unlisted slot is EMPTY at generation 0 -/
  slots : List (Nat × Slot) := []
  /-- [64] R18 D: vehicle identifier -/
  vehicleId : Nat := 0
  /-- [4x64] R103 S: stock nonces without a consume mark -/
  stock : List Bytes := []
  /-- [1] R97 S: lock state that policy records -/
  locked : Bool := false
  /-- [16384] R207 S: zone map in force, empty for none -/
  map : Bytes := []
  /-- [1] R207 S: a committed map awaits its snapshot -/
  mapWaits : Bool := false
  /-- [128 entries] R161 S: paired list: ID and status by entry -/
  paired : List (Nat × (Bytes × Nat)) := []
  /-- [672] R198 S: last pairing record -/
  pairRec : Bytes := List.replicate 84 0
  /-- [4 pairings] R198 S: tractor pairings by number -/
  tractors : List (Nat × Tractor) := []
  /-- [latch] R231 S: latch record -/
  latch : Option Latch := none
  /-- [64 KiB] R259 S: tag memory -/
  tag : TagMem := {}
  /-- [32] R261 S: UTC seconds of the last tamper detection, 0 if none -/
  tamperAt : Nat := 0
  deriving DecidableEq, Repr

/-- The whole block. -/
structure State where
  /-- [ns] R505 S: time since the latest reset ended -/
  now : Nat := 0
  /-- [43 states] R15 S: unit states by unit ID; an unlisted unit reports STARTING -/
  us : List (Nat × Nat) := []
  /-- [43x4] R17 S: sticky bits 3 to 6 of the fault summaries by unit ID -/
  sticky : List (Nat × Nat) := []
  /-- [objects] R372 S: volatile objects away from their defaults -/
  objs : Objs := []
  /-- [objects] R22 S: configuration snapshots in force, by set -/
  snaps : List (Nat × Objs) := []
  /-- [sets] R23 S: sets whose refusal has been raised and not been written since -/
  refused : List Nat := []
  /-- [64 entries] R74 S: event queue, oldest first -/
  evq : List Event := []
  /-- [16] R75 S: lost count -/
  evLost : Nat := 0
  /-- [record] R46 S: dictionary server -/
  dict : Dict := {}
  /-- [record] R59 S: host port -/
  host : HostPort := {}
  /-- [record] R108 S: LF field controller -/
  lf : Lf := {}
  /-- [record] R154 S: ranging group -/
  phy : Phy := {}
  /-- [record] R374 S: non-volatile store -/
  nv : Nv := {}
  /-- [record] R375 S: journal store -/
  jr : Journal := {}
  /-- [record] R475 S: supervision and Sheepdog -/
  sup : Sup := {}
  /-- [8 timers] R409 S: timers T0 to T7; an unlisted one is at its defaults -/
  timers : List (Nat × Timer) := []
  /-- [record] R411 S: distance timebase and motion-sensor input -/
  dist : Dist := {}
  /-- [record] R411 S: GNSS input -/
  gnss : Gnss := {}
  /-- [record] R410 S: scheduler -/
  sched : Sched := {}
  /-- [record] R441 S: CAN0 -/
  can0 : CanCtl := {}
  /-- [record] R441 S: CAN1 -/
  can1 : CanCtl := {}
  /-- [record] R442 S: Bellwether -/
  bell : Bell := {}
  /-- [record] R252 S: policy -/
  pol : Pol := {}
  /-- [record] R319 S: cipher engine -/
  cipher : Cipher := {}
  /-- [record] R320 S: public-key engine -/
  pk : Pk := {}
  /-- [record] R318 S: key store -/
  ks : KeyStore := {}
  /-- [record] R336 S: random number generator -/
  rng : Rng := {}
  /-- [record] R198 S: context table -/
  cx : Ctx := {}
  /-- [record] R251 S: locator -/
  loc : Loc := {}
  /-- [record] R287 S: tag application -/
  tag : TagApp := {}
  /-- [record] R255 S: tag domain -/
  tagd : TagDom := {}
  /-- [record] R456 S: always-on domain -/
  aon : Aon := {}
  /-- [record] R28 S: ReRAM -/
  rr : ReRam := {}
  /-- [record] R355 D: external NAND -/
  medium : Medium := {}
  /-- [counter] M: free values used so far (log entry 4) -/
  free : Nat := 0
  /-- [commands] M: commands waiting, first in, first out -/
  pending : List Instr := []
  deriving DecidableEq, Repr

/-- The machine right after reset: every field at the value its docstring names. -/
def State.reset : State := {}

end Sys2Proof.Machine
end

