-- ==== Sys2Proof/Machine/Units.lean ====
section
/-! DEFINITION. The unit tree of R11 and R12: every unit's ID, parent, kind code and descriptor base index. -/

namespace Sys2Proof.Machine

open Sys2Proof

/-- One row of the unit tree. -/
structure UnitDef where
  /-- unit ID -/
  id : Nat
  /-- parent ID, 0xFFFF at the root -/
  parent : Nat
  /-- kind code -/
  kind : Nat
  /-- base index of the descriptor -/
  base : Nat
  deriving DecidableEq, Repr

/-- The unit tree of silicon revision B0 (R12). -/
def unitTree : List UnitDef := [
  ⟨0x0000, 0xFFFF, 1, 0x1000⟩ /- Root: KV8264 -/,
  ⟨0x0001, 0x0000, 2, 0x1010⟩ /- Trust group -/,
  ⟨0x0002, 0x0000, 2, 0x1020⟩ /- Vehicle group -/,
  ⟨0x0003, 0x0000, 5, 0x2000⟩ /- LF field controller (Rooster) -/,
  ⟨0x0004, 0x0000, 2, 0x2400⟩ /- Ranging group -/,
  ⟨0x0005, 0x0000, 7, 0x2800⟩ /- Locator -/,
  ⟨0x0006, 0x0000, 5, 0x2A00⟩ /- Start-lock outputs -/,
  ⟨0x0007, 0x0000, 6, 0x2C00⟩ /- Context table -/,
  ⟨0x0008, 0x0000, 5, 0x3000⟩ /- Tag engine -/,
  ⟨0x0009, 0x0000, 4, 0x3400⟩ /- Symmetric cipher engine -/,
  ⟨0x000A, 0x0000, 4, 0x3500⟩ /- Public-key engine -/,
  ⟨0x000B, 0x0000, 4, 0x3600⟩ /- Random number generator -/,
  ⟨0x000C, 0x0000, 6, 0x3700⟩ /- Key store -/,
  ⟨0x000D, 0x0000, 6, 0x3800⟩ /- Non-volatile store -/,
  ⟨0x000E, 0x0000, 6, 0x3A00⟩ /- Journal store -/,
  ⟨0x000F, 0x0000, 2, 0x4000⟩ /- CAN unit -/,
  ⟨0x0010, 0x0000, 2, 0x4400⟩ /- Timers and distance timebase -/,
  ⟨0x0011, 0x0000, 2, 0x1200⟩ /- Supervision -/,
  ⟨0x0012, 0x0000, 5, 0x5000⟩ /- Host port -/,
  ⟨0x0020, 0x0001, 3, 0x1030⟩ /- Trust pair -/,
  ⟨0x0021, 0x0001, 7, 0x2900⟩ /- Policy -/,
  ⟨0x0022, 0x0001, 7, 0x1400⟩ /- Lifecycle and boot -/,
  ⟨0x0023, 0x0002, 3, 0x1040⟩ /- Vehicle pair -/,
  ⟨0x0024, 0x0002, 7, 0x1100⟩ /- Dictionary server -/,
  ⟨0x0025, 0x0004, 5, 0x2410⟩ /- Sample ports -/,
  ⟨0x0026, 0x0004, 4, 0x2440⟩ /- Correlator array -/,
  ⟨0x0027, 0x0004, 4, 0x2480⟩ /- Chondoec modem -/,
  ⟨0x0028, 0x0004, 5, 0x24C0⟩ /- Front-end control SPI -/,
  ⟨0x0029, 0x0004, 2, 0x2500⟩ /- Signal engines -/,
  ⟨0x002A, 0x0029, 3, 0x2510⟩ /- Signal engine SE0 -/,
  ⟨0x002B, 0x0029, 3, 0x2520⟩ /- Signal engine SE1 -/,
  ⟨0x002C, 0x0029, 3, 0x2530⟩ /- Signal engine SE2 -/,
  ⟨0x002D, 0x0029, 3, 0x2540⟩ /- Signal engine SE3 -/,
  ⟨0x002E, 0x000F, 5, 0x4100⟩ /- CAN0 -/,
  ⟨0x002F, 0x000F, 5, 0x4200⟩ /- CAN1 -/,
  ⟨0x0030, 0x000F, 7, 0x4300⟩ /- Bellwether (CAN time master) -/,
  ⟨0x0031, 0x0010, 4, 0x4500⟩ /- Timer set -/,
  ⟨0x0032, 0x0010, 7, 0x4600⟩ /- Event scheduler -/,
  ⟨0x0033, 0x0010, 5, 0x4800⟩ /- Motion-sensor input -/,
  ⟨0x0034, 0x0010, 5, 0x4880⟩ /- GNSS input -/,
  ⟨0x0035, 0x0011, 7, 0x1300⟩ /- Sheepdog (fault manager) -/,
  ⟨0x0036, 0x0011, 5, 0x1480⟩ /- Tamper -/,
  ⟨0x0037, 0x0011, 5, 0x1280⟩ /- Supply and clock monitors -/]

/-- The row of a unit. -/
def unitFind (uid : Nat) : Option UnitDef := unitTree.find? (fun u => u.id == uid)

/-- The parent of a unit. -/
def unitParent (uid : Nat) : Nat := ((unitFind uid).map (·.parent)).getD 0xFFFF

/-- The direct children of a unit, in ID order. -/
def unitChildren (uid : Nat) : List Nat := (unitTree.filter (fun u => u.parent == uid)).map (·.id)

/-- A unit that holds other units (R16). -/
def isGroup (uid : Nat) : Bool := (unitTree.any (fun u => u.parent == uid))

/-- The unit whose descriptor an index is. -/
def unitOfBase (ix : Nat) : Option UnitDef := unitTree.find? (fun u => u.base == ix)

/-- A unit and its descendants, the unit first; the first argument bounds the depth. -/
def unitSubtree : Nat → Nat → List Nat
  | 0, uid => [uid]
  | f + 1, uid => uid :: (unitChildren uid).flatMap (unitSubtree f)

/-- A unit with all its descendants. -/
def unitAll (uid : Nat) : List Nat := unitSubtree 4 uid

/-- Whether a unit is the given group or one of its descendants. -/
def unitWithin (grp uid : Nat) : Bool := (unitAll grp).contains uid

/-- The unit of a Sheepdog fault source (R460). -/
def sourceUnit (src : Nat) : Nat :=
  if src = 0x01 then 0x20 else if src = 0x02 then 0x23
  else if src ≤ 0x06 then 0x2A + (src - 3)
  else if src ≤ 0x08 then 0x37
  else if src ≤ 0x0C then 0x25
  else if src ≤ 0x12 then 0x03
  else if src = 0x13 then 0x06 else if src = 0x14 then 0x08 else if src = 0x15 then 0x09
  else if src = 0x16 then 0x0A else if src = 0x17 then 0x0C else if src = 0x18 then 0x0B
  else if src = 0x19 then 0x0D else if src = 0x1A then 0x0E else if src = 0x1B then 0x33
  else if src = 0x1C then 0x2E else if src = 0x1D then 0x2F else 0x30

end Sys2Proof.Machine
end

