-- ==== Sys2Proof/Machine/Ops.lean ====
section
/-! DEFINITION. The named operations that the meanings share: time, objects, unit states, events, journal records, ReRAM operations and counters.
A block has no exception entry; raising an event, an interrupt line or an error flag is the effect of a command on State. -/

namespace Sys2Proof.Machine

open Sys2Proof

/-- The outcome of every meaning. -/
abbrev Out := Host.Outcome State Fault Refusal

/-- Nanoseconds in a millisecond. -/
def msNs : Nat := 1000000

/-- Nanoseconds in a second. -/
def secNs : Nat := 1000000000

/-- Time passes (R505): the time since reset and the always-on clock advance. While a reset is held, only the always-on clock runs. -/
def State.tick (s : State) (dt : Nat) : State :=
  { s with now := if s.sup.held then s.now else s.now + dt, aon := { s.aon with clock := s.aon.clock + dt } }

/-- The time since reset in whole ms. -/
def State.ms (s : State) : Nat := s.now / msNs

/-- The peripheral clock of 76.8 MHz (R29), counted since reset: 48 clocks in 625 ns. -/
def State.pclk (s : State) : Nat := s.now * 48 / 625

/-- The key of an object. -/
def key (ix sub : Nat) : Nat := ix * 256 + sub

/-- The present value of a stored object: its ReRAM or RAM value, else its default (R372). -/
def State.obj (s : State) (ix sub : Nat) : Nat :=
  match objFind ix sub with
  | none => 0
  | some d => if d.pers then kvGet d.dflt s.rr.objs (key ix sub) else kvGet d.dflt s.objs (key ix sub)

/-- A stored object's value as a signed number of w bits. -/
def State.objI (s : State) (w ix sub : Nat) : Int := untwos w (s.obj ix sub)

/-- A stored object's bytes. -/
def State.objBytes (s : State) (n ix sub : Nat) : Bytes := leBytes n (s.obj ix sub)

/-- A stored object as a truth value. -/
def State.objB (s : State) (ix sub : Nat) : Bool := s.obj ix sub != 0

/-- Stores an object's value, in ReRAM or RAM by its kind (R372). -/
def State.setObj (s : State) (ix sub v : Nat) : State :=
  match objFind ix sub with
  | none => s
  | some d =>
    if d.pers then { s with rr := { s.rr with objs := kvSet d.dflt s.rr.objs (key ix sub) v } }
    else { s with objs := kvSet d.dflt s.objs (key ix sub) v }

/-- A copy of the stored objects whose index lies in a range, with their present values away from the defaults (R22). -/
def State.snapRange (s : State) (lo hi : Nat) : Objs :=
  (s.rr.objs.filter (fun e => decide (lo * 256 ≤ e.1) && decide (e.1 < (hi + 1) * 256))) ++
  (s.objs.filter (fun e => decide (lo * 256 ≤ e.1) && decide (e.1 < (hi + 1) * 256)))

/-- The value of an object in a snapshot. -/
def snapVal (o : Objs) (ix sub : Nat) : Nat :=
  kvGet (((objFind ix sub).map (·.dflt)).getD 0) o (key ix sub)

/-- The value of an object in the snapshot in force of a set (R22); before the first snapshot, its present value. -/
def State.conf (s : State) (set ix sub : Nat) : Nat :=
  match kvGet? s.snaps set with
  | some o => snapVal o ix sub
  | none => s.obj ix sub

/-- The same, signed. -/
def State.confI (s : State) (w set ix sub : Nat) : Int := untwos w (s.conf set ix sub)

/-- States of R15. -/
def stOff : Nat := 0
/-- STOPPED. -/
def stStopped : Nat := 1
/-- STARTING. -/
def stStarting : Nat := 2
/-- RUNNING. -/
def stRunning : Nat := 3
/-- DEGRADED. -/
def stDegraded : Nat := 4
/-- FAILED. -/
def stFailed : Nat := 5

/-- Units whose work rests on the vehicle pair, and those that cannot serve without them (R465). -/
def vehicleUnits : List Nat :=
  [0x23, 0x24, 0x03, 0x0F, 0x2E, 0x2F, 0x30, 0x32, 0x33, 0x34, 0x07, 0x04, 0x29, 0x05, 0x25, 0x26, 0x27, 0x28, 0x2A, 0x2B, 0x2C, 0x2D]

/-- The state of a unit that has its own, unlisted units STARTING (R32). Once the vehicle pair is lost, the units that rest on it are FAILED
until a reset (R465). -/
def State.ownState (s : State) (uid : Nat) : Nat :=
  if s.sup.vehicleLost && vehicleUnits.contains uid then stFailed else kvGet stStarting s.us uid

/-- The state code of a group from those of its children, rules 2 to 6 of R16. -/
def groupState (l : List Nat) : Nat :=
  if l.all (· == stOff) then stOff
  else if l.all (fun x => x == stOff || x == stStopped) then stStopped
  else if l.any (fun x => x == stDegraded || x == stFailed) then stDegraded
  else if l.any (· == stStarting) then stStarting
  else stRunning

/-- The state code of a unit, a group's derived from its children (R16); the first argument bounds the depth. -/
def State.stateGo (s : State) : Nat → Nat → Nat
  | 0, uid => s.ownState uid
  | f + 1, uid =>
    if isGroup uid then
      if uid = 0 then (if s.sup.bootRom then stFailed else groupState ((unitChildren uid).map (s.stateGo f)))
      else if s.ownState uid = stFailed then stFailed
      else groupState ((unitChildren uid).map (s.stateGo f))
    else s.ownState uid

/-- The state code of a unit (R15, R16). -/
def State.unitState (s : State) (uid : Nat) : Nat := s.stateGo 4 uid

/-- A unit that serves: RUNNING or DEGRADED. -/
def State.serving (s : State) (uid : Nat) : Bool :=
  let x := s.unitState uid
  x == stRunning || x == stDegraded

/-- Sets a unit's own state. -/
def State.setUnit (s : State) (uid st : Nat) : State := { s with us := kvPut s.us uid st }

/-- Sets the states of several units. -/
def State.setUnits (s : State) (l : List Nat) (st : Nat) : State := l.foldl (fun t u => t.setUnit u st) s

/-- Sets sticky bits of a unit's fault summary (R17): 3 corrected, 4 uncorrected, 5 timeout, 6 CONFIG_REJECTED. -/
def State.stick (s : State) (uid bitNo : Nat) : State :=
  { s with sticky := kvPut s.sticky uid (kvGet 0 s.sticky uid ||| 2 ^ bitNo) }

/-- The lifecycle state codes of R470. -/
def lcFactory : Nat := 1
/-- INTEGRATION. -/
def lcIntegration : Nat := 2
/-- FIELD. -/
def lcField : Nat := 3
/-- RETURNED. -/
def lcReturned : Nat := 4

/-- The control domain runs: the mode is ACTIVE, no reset is held and the scan test does not run (R452, R456, R471). -/
def State.powered (s : State) : Bool := s.aon.mode == 0 && !s.sup.held && !s.sup.scan

/-- The write fence is up (R342). -/
def State.fenced (s : State) : Bool := s.nv.fence.isSome

/-- A source of Sheepdog is lasting (R459). -/
def State.lasting (s : State) (src : Nat) : Bool := (kvGet {} s.sup.srcs src).st == 2

/-- The trust pair has a lasting fault (R463). -/
def State.trustLost (s : State) : Bool := s.lasting 0x01

/-- Conservative mode (R467). -/
def State.conservative (s : State) : Bool := s.lasting 0x07

/-- A monotonic counter's stored value plus its pending count (R343). -/
def State.counter (s : State) (c : Nat) : Nat := (kvGet {} s.rr.ctrs c).value + kvGet 0 s.nv.pend c

/-- The network time in us at peripheral clock t (R434, R435). -/
def State.netAt (s : State) (t : Nat) : Nat :=
  if s.bell.st = 3 then s.bell.mBase.2 + (t - s.bell.mBase.1) * 5 / 384
  else
    match s.bell.pair, s.bell.rate with
    | some q, some r => max s.bell.floor (if r.2 = 0 then q.2 else q.2 + r.1 * (t - q.1) / r.2)
    | _, _ => 0

/-- The network time in us, 0 while not valid (R442). -/
def State.netTime (s : State) : Nat := if s.bell.valid then s.netAt s.pclk else 0

/-- The time source of R402. -/
def State.timeSource (s : State) : Nat :=
  let quiet : Bool := match s.gnss.implausibleAt with
    | none => true
    | some t => decide (t + 600 * secNs ≤ s.now)
  if s.gnss.valid && quiet then 1
  else if s.bell.valid && s.bell.utc then 2
  else if s.gnss.utc.isSome then 3
  else 0

/-- UTC in ms since 1970, 0 when unknown (R402). -/
def State.utcMs (s : State) : Nat :=
  if s.timeSource = 2 then s.netTime / 1000
  else match s.gnss.utc with
    | some (u, t) => u + (s.now - t) / msNs
    | none => 0

/-- Increments of a counter that wait for their program operation. -/
def State.counterQueued (s : State) (c : Nat) : Nat :=
  (s.nv.run.toList ++ s.nv.deferred ++ s.nv.wait).foldl (fun a o =>
    match o.fx with
    | .counter x n => if x = c then a + n else a
    | _ => a) 0

/-- The odometer in 100 m (R395), with the increments whose program operation is still to come, so that the distance never falls (R405). -/
def State.odo (s : State) : Nat := s.counter 0 + s.counterQueued 0

/-- The pulse coefficient in effect. -/
def State.coeff (s : State) : Nat := if s.dist.coeff = 0 then s.obj 0x4411 0x01 else s.dist.coeff

/-- The distance in m (R395). -/
def State.distance (s : State) : Nat := 100 * s.odo + (if s.coeff = 0 then 0 else 100 * s.aon.acc / s.coeff)

/-- The bound driver's ID as a number, 0 none (R240). -/
def State.driver (s : State) : Nat := s.pol.driver

/-- A record's header bytes 0 to 39 and its chain hash, then its content (R358). -/
def recBytes (r : JRec) : Bytes :=
  leBytes 2 r.raw.ty ++ leBytes 2 (72 + r.raw.body.length) ++ leBytes 8 r.num ++ leBytes 4 r.raw.utc ++
  [byte r.raw.src, byte r.raw.flags, 0, 0] ++ leBytes 4 r.raw.ms ++ leBytes 6 r.raw.odo ++ [0, 0] ++
  leBytes 8 r.raw.driver ++ r.chain ++ r.raw.body

/-- The length of a record. -/
def JRaw.size (r : JRaw) : Nat := 72 + r.body.length

/-- The chain hash over a record (R358); zeros before the first. -/
def chainOver : Option JRec → Bytes
  | none => List.replicate 32 0
  | some r => sha256 (recBytes r)

/-- Whether records are written without a checkpoint signature (R361): bit 0 trust pair lost, bit 1 public-key engine FAILED. -/
def State.unsignedWhy (s : State) : Nat := b2n s.trustLost + 2 * b2n (s.ownState 0x0A == stFailed)

/-- The fields of a record written now (R358, R361). -/
def State.mkRaw (s : State) (ty : Nat) (body : Bytes) : JRaw :=
  { ty := ty, utc := s.utcMs / 1000 % 2 ^ 32, src := s.timeSource,
    flags := (if s.unsignedWhy = 0 then 0 else 1) + 2 * b2n s.pol.ambiguous + 4 * b2n s.trustLost,
    ms := s.ms % 2 ^ 32, odo := s.odo, driver := s.driver, body := body }

/-- The capacity of the journal tail (R364). -/
def tailCap : Nat := 131072

/-- Numbers, chains and seals a record into the tail, whatever its room (R358, R363). -/
def Journal.seal1 (j : Journal) (now : Nat) (r : JRaw) : Journal :=
  let x : JRec := { raw := r, num := j.next, chain := chainOver j.last }
  { j with
    tail := j.tail ++ [x], tailBytes := j.tailBytes + r.size, last := some x, next := j.next + 1,
    pageAt := if j.tail.isEmpty then now else j.pageAt,
    uncovered := if r.ty = 0x0001 then none else if j.uncovered.isSome then j.uncovered else some j.next,
    uncoveredAt := if j.uncovered.isSome then j.uncoveredAt else now,
    uncoveredN := if r.ty = 0x0001 then 0 else j.uncoveredN + 1,
    lastChk := if r.ty = 0x0001 then j.next else j.lastChk }

/-- A record enters the tail (R364, R365): it waits unnumbered before the store has found its head, is dropped where the tail is full, and
after a run of drops a GAP with the count comes first. -/
def Journal.append (j : Journal) (now : Nat) (r : JRaw) : Journal :=
  if tailCap < j.tailBytes + r.size + (if j.dropRun = 0 then 0 else 96) then
    { j with dropped := satAdd 32 j.dropped 1, dropRun := j.dropRun + 1 }
  else if !j.ready then { j with early := j.early ++ [r], tailBytes := j.tailBytes + r.size }
  else if j.dropRun = 0 then j.seal1 now r
  else
    let body := leBytes 8 (j.next - 1) ++ leBytes 4 (min j.dropRun 0xFFFFFFFF) ++ [2, 0, 0, 0] ++ leBytes 8 0
    let gap : JRaw := { r with ty := 0x0002, body := body }
    { (j.seal1 now gap) with dropRun := 0, dropSaid := j.dropRun }.seal1 now r

/-- The cell that follows, skipping retired cells (R350). -/
def nextCell (retired : List Nat) : Nat → Nat → Nat
  | 0, c => c
  | f + 1, c => let n := (c + 1) % 128; if retired.contains n then nextCell retired f n else n

/-- A record whose number starts a new reserved block takes an increment of counter 4 with it (R363). -/
def bumpCounter (l : List (Nat × Counter)) (c n : Nat) : List (Nat × Counter) :=
  let k := kvGet {} l c
  kvPut l c { k with value := min (k.value + n) (2 ^ 48 - 1), cell := nextCell k.retired 128 k.cell, writes := satAdd 32 k.writes 1 }

/-- Writes a journal record (R358). -/
def State.record (s : State) (ty : Nat) (body : Bytes) : State :=
  let j := s.jr.append s.now (s.mkRaw ty body)
  let ctrs := if j.ready && j.next / 65536 != s.jr.next / 65536 then bumpCounter s.rr.ctrs 4 1 else s.rr.ctrs
  { s with jr := j, rr := { s.rr with ctrs := ctrs } }

/-- An entry of the event queue in its 12 bytes (R74). -/
def Event.bytes (e : Event) : Bytes := leBytes 2 e.code ++ leBytes 2 e.unit ++ leBytes 4 e.param ++ leBytes 4 e.ms

/-- A new event enters the queue (R74): a full queue loses its oldest entry. -/
def State.pushEvent (s : State) (e : Event) : State :=
  if s.evq.length < 64 then { s with evq := s.evq ++ [e] }
  else { s with evq := s.evq.drop 1 ++ [e], evLost := satAdd 16 s.evLost 1 }

/-- The unit that an event's entry names: the ranging group and the timer group raise the events of their descendants (R155, R412). -/
def raiser (u code : Nat) : Nat :=
  if code / 256 = 0x24 then 0x04 else if code / 256 = 0x44 || code / 256 = 0x48 then 0x10 else u

/-- A unit raises an event (R9): queue and journal, and EVENTS_LOST where the lost count leaves 0 (R74, R76). A unit whose domain is
unpowered raises none. -/
def State.emit (s : State) (u code param : Nat) : State :=
  if !s.powered then s else
  let e : Event := { code := code, unit := raiser u code, param := param % 2 ^ 32, ms := s.ms % 2 ^ 32 }
  let s1 := (s.pushEvent e).record 0x0020 (e.bytes ++ [0, 0, 0, 0])
  if s.evLost = 0 && s1.evLost != 0 then
    let x : Event := { code := 0x1105, unit := 0x24, param := s1.evLost, ms := s.ms % 2 ^ 32 }
    (s1.pushEvent x).record 0x0020 (x.bytes ++ [0, 0, 0, 0])
  else s1

/-- Raises an event where a condition holds. -/
def State.emitIf (s : State) (c : Bool) (u code param : Nat) : State := if c then s.emit u code param else s

/-- Takes a snapshot of a set (R22, R23): the values in the index range become the snapshot in force where they are consistent; else the
previous one stays, CONFIG_REJECTED is set and the event is raised once per inconsistent set. -/
def State.snapshot (s : State) (set lo hi : Nat) (consistent : Bool) (uid code param : Nat) : State :=
  if consistent then
    { s with snaps := kvPut s.snaps set (s.snapRange lo hi), refused := s.refused.filter (· != set) }
  else if s.refused.contains set then s
  else ({ s with refused := s.refused ++ [set] }.stick uid 6).emit uid code param

/-- A write to an object of a set makes its next refusal a new one (R23). -/
def State.touched (s : State) (set : Nat) : State := { s with refused := s.refused.filter (· != set) }

/-- Whether an operation of the deferred queue or of the fence belongs to a unit (R342). -/
def State.fenceWait (s : State) (uid : Nat) : Bool := s.fenced && s.nv.deferred.any (fun o => o.unit == uid)

/-- A ReRAM operation is asked for (R339, R342): deferred while the fence is up, up to 64; else it waits its turn. -/
def State.nvRequest (s : State) (o : NvOp) : State :=
  match s.nv.fence with
  | some f =>
    if s.nv.deferred.length < 64 then
      { s with nv := { s.nv with deferred := s.nv.deferred ++ [o], fence := some { f with deferred := f.deferred + 1 } } }
    else s
  | none => { s with nv := { s.nv with wait := s.nv.wait ++ [o] } }

/-- The next operation by the order of R339, with the rest. -/
def nvPick (l : List NvOp) : Option (NvOp × List NvOp) :=
  match l.find? (fun o => o.cls == 0) with
  | some o => some (o, l.erase o)
  | none =>
    match l.find? (fun o => o.cls == 1) with
    | some o => some (o, l.erase o)
    | none =>
      match l with
      | [] => none
      | o :: r => some (o, r)

/-- The controller starts the next operation where none runs and no fence is up (R339, R342): deferred operations first. A field
write of the tag goes before all others. -/
def State.nvPump (s : State) : State :=
  if s.fenced || s.nv.run.isSome || s.tagd.job.isSome then s
  else
    match s.nv.deferred with
    | o :: r => { s with nv := { s.nv with run := some o, deferred := r } }
    | [] =>
      match nvPick s.nv.wait with
      | some q => { s with nv := { s.nv with run := some q.1, wait := q.2 } }
      | none => s

end Sys2Proof.Machine
end

