-- ==== Sys2Proof/Machine/Sheepdog.lean ====
section
/-! DEFINITION. Sheepdog's counting of faults (R459, R460, R508). The action of a source that turns lasting is taken at the end of the
step, by settle. -/

namespace Sys2Proof.Machine

open Sys2Proof

/-- Threshold and window in s of a source (R460). Threshold 1 has no window. -/
def srcRule (src : Nat) : Nat × Nat :=
  if src ≤ 0x02 then (3, 10)
  else if src ≤ 0x06 then (3, 60)
  else if src = 0x07 then (5, 60)
  else if src = 0x08 then (3, 600)
  else if src ≤ 0x0C then (4, 60)
  else if src ≤ 0x12 then (3, 600)
  else if src = 0x13 then (3, 60)
  else if src = 0x14 then (20, 600)
  else if src = 0x15 then (3, 60)
  else if src = 0x16 then (3, 60)
  else if src = 0x17 then (1, 0)
  else if src = 0x18 then (4, 10)
  else if src = 0x19 then (8, 600)
  else if src = 0x1A then (16, 3600)
  else if src = 0x1B then (5, 3600)
  else if src ≤ 0x1D then (5, 60)
  else (3, 600)

/-- The record of a source. -/
def State.src (s : State) (n : Nat) : FaultSrc := kvGet {} s.sup.srcs n

/-- Replaces the record of a source. -/
def State.setSrc (s : State) (n : Nat) (x : FaultSrc) : State :=
  { s with sup := { s.sup with srcs := kvSet {} s.sup.srcs n x } }

/-- The counts of a source that its window still holds. A threshold of 1 has no window. -/
def srcWindow (now src : Nat) (l : List Nat) : List Nat :=
  if (srcRule src).1 = 1 then l else l.filter (fun t => decide (now < t + (srcRule src).2 * secNs))

/-- The window count of a source (R476). -/
def State.srcCount (s : State) (n : Nat) : Nat := (srcWindow s.now n (s.src n).times).length

/-- The state code of a source (R476): a transient source whose window has emptied is clear. -/
def State.srcState (s : State) (n : Nat) : Nat :=
  if (s.src n).st = 1 && s.srcCount n = 0 then 0 else (s.src n).st

/-- An entry enters the fault entry queue (R508). -/
def State.pushFault (s : State) (e : FaultEntry) : State :=
  let q := if s.sup.faults.length < 32 then s.sup.faults else s.sup.faults.drop 1
  { s with sup := { s.sup with faults := q ++ [e] } }

/-- A source turns lasting (R459): FAULT_LASTING, and its action at the end of the step. -/
def State.makeLasting (s : State) (n : Nat) : State :=
  let s1 := (s.setSrc n { s.src n with st := 2, quiet := s.now }).emit 0x35 0x1302 n
  { s1 with sup := { s1.sup with acts := s1.sup.acts ++ [n] } }

/-- One count against a source, charged to a unit for an event (R459, R508); lastNow makes the source lasting at this count. Source 0x15
counts for each core on its own (R460), so only lastNow makes it lasting. -/
def State.chargeWith (s : State) (n uid code : Nat) (lastNow : Bool) : State :=
  let x := s.src n
  let w := srcWindow s.now n x.times
  let w' := w ++ [s.now]
  let s1 := s.pushFault { src := n, unit := uid, code := code, ms := s.ms % 2 ^ 32 }
  let s2 := s1.setSrc n { x with times := w', total := satAdd 32 x.total 1, quiet := s.now, st := max x.st 1 }
  if x.st = 2 then s2
  else
    let thr := (srcRule n).1
    let s3 := if w.isEmpty && thr != 1 && !lastNow then s2.emit 0x35 0x1301 (n + 256) else s2
    if lastNow || (n != 0x15 && decide (thr ≤ w'.length)) then s3.makeLasting n else s3

/-- One count against a source. -/
def State.charge (s : State) (n uid code : Nat) : State := s.chargeWith n uid code false

/-- A lasting fault ends (R459): the counts of the source start again. -/
def State.endFault (s : State) (n : Nat) : State :=
  if (s.src n).st = 2 then
    (s.setSrc n { s.src n with st := 0, times := [] }).emit 0x35 0x1303 n
  else s

end Sys2Proof.Machine
end

