-- ==== Sys2Proof/Machine/Nv.lean ====
section
/-! DEFINITION. The ReRAM store: record areas, compaction, page replacement, the deferred queue and the monotonic counters (R338 to R353). -/

namespace Sys2Proof.Machine

open Sys2Proof

/-- Units of a dual-copy record of L data bytes: header, data and trailer (R344). -/
def recUnits (l : Nat) : Nat := 2 + (l + 15) / 16

/-- Units of a bank of an area (R340): parameter 1 MiB, boot and key 32 KiB, calibration 112 KiB. -/
def areaSize (a : Nat) : Nat := if a = 0 then 65536 else if a = 3 then 7168 else 2048

/-- First page of a bank of an area in the map of R28: 0 parameter, 1 boot, 2 key, 3 calibration. -/
def areaPage (a bank : Nat) : Nat :=
  if a = 0 then 69632 + 16384 * bank
  else if a = 1 then 65536 + 512 * bank
  else if a = 2 then 66560 + 512 * bank
  else 102912 + 1792 * bank

/-- The area that holds an index (R340). -/
def areaOf (ix : Nat) : Nat :=
  if 0x1400 ≤ ix ∧ ix ≤ 0x147F then 1
  else if 0x3700 ≤ ix ∧ ix ≤ 0x37FF then 2
  else if 0x2600 ≤ ix ∧ ix ≤ 0x26FF then 3
  else 0

/-- The area by number. -/
def ReRam.area (r : ReRam) (a : Nat) : Area :=
  if a = 0 then r.param else if a = 1 then r.boot else if a = 2 then r.key else r.cal

/-- Replaces an area. -/
def ReRam.setArea (r : ReRam) (a : Nat) (x : Area) : ReRam :=
  if a = 0 then { r with param := x } else if a = 1 then { r with boot := x }
  else if a = 2 then { r with key := x } else { r with cal := x }

/-- A record goes to the head of a bank (R345): it never wraps past the bank's end. -/
def Bank.put (b : Bank) (size n : Nat) : Bank :=
  if size < b.head + n then { head := n, used := b.used + (size - b.head) + n, stamp := b.stamp + 1 }
  else { head := (b.head + n) % size, used := b.used + n, stamp := b.stamp + 1 }

/-- Units of the records in force of an area. -/
def Area.live (x : Area) : Nat := x.recs.foldl (fun a e => a + recUnits e.2.1) 0

/-- Free units of a bank. -/
def Bank.free (b : Bank) (size : Nat) : Nat := size - b.used

/-- A compaction of a bank (R347): each record in force goes to the head under a new stamp, and the tail passes the old copies. -/
def Bank.compact (b : Bank) (size live recs : Nat) : Bank :=
  { head := (b.head + live) % size, used := live, stamp := b.stamp + recs }

/-- A bank whose free space is below one eighth is compacted (R347), where compaction may run. -/
def Bank.tidy (b : Bank) (size live recs : Nat) (may : Bool) : Bank × Nat :=
  if may && decide (b.free size < size / 8) then (b.compact size live recs, 1) else (b, 0)

/-- The next sequence number and the record of a key in both banks (R345). -/
def Area.write (x : Area) (size k len : Nat) : Area :=
  let n := recUnits len
  { seq := x.seq + 1, b0 := x.b0.put size n, b1 := x.b1.put size n, recs := kvPut x.recs k (len, x.seq + 1) }

/-- The program operations of a record in one bank, one for each page it touches (R345). -/
def recOps (unit a bank head n : Nat) (fx : NvFx) : List NvOp :=
  let first := head % 4
  let pages := (first + n + 3) / 4
  (List.range pages).map (fun i =>
    let lo := if i = 0 then first else 0
    let hi := min 4 (first + n - 4 * i)
    { cls := 2, unit := unit, page := areaPage a bank + head / 4 + i, mask := 2 ^ hi - 2 ^ lo,
      fx := if i + 1 = pages then fx else .page })

/-- The length of the data of the record that a value makes: 0 for a DEFAULT record (R344, R348). -/
def recLen (d : ObjDef) (v : Nat) : Nat := if v = d.dflt then 0 else d.ty.len

/-- A record's write in an area, with the compaction that R347 asks for; in conservative mode compaction waits (R467). -/
def State.recWrite (s : State) (a k len : Nat) : State :=
  let x := (s.rr.area a).write (areaSize a) k len
  let may := !s.conservative || (!s.fenced && decide (s.nv.lifted + 10 * secNs ≤ s.now))
  let r0 := x.b0.tidy (areaSize a) x.live x.recs.length may
  let r1 := x.b1.tidy (areaSize a) x.live x.recs.length may
  let due := !may && (decide (x.b0.free (areaSize a) < areaSize a / 8) || decide (x.b1.free (areaSize a) < areaSize a / 8))
  { s with
    rr := s.rr.setArea a { x with b0 := r0.1, b1 := r1.1 },
    nv := { s.nv with compactions := satAdd 32 s.nv.compactions (r0.2 + r1.2), compactDue := s.nv.compactDue || due } }

/-- A committed value of a persistent object: the record of R345 and the value in RAM and ReRAM (R55). -/
def State.commitObj (s : State) (ix sub v : Nat) : State :=
  match objFind ix sub with
  | none => s
  | some d => (s.recWrite (areaOf ix) (key ix sub) (recLen d v)).setObj ix sub v

/-- Spare pages left (R341). -/
def State.sparesLeft (s : State) : Nat := 20480 - s.rr.sparesUsed

/-- A program that has failed its verify three times (R341): its page moves to a spare, or without a spare the store is DEGRADED. -/
def State.remap (s : State) (o : NvOp) : State :=
  if s.sparesLeft = 0 then
    match o.fx with
    | .counter c _ =>
      let k := kvGet {} s.rr.ctrs c
      { s with rr := { s.rr with ctrs := kvPut s.rr.ctrs c { k with retired := k.retired ++ [nextCell k.retired 128 k.cell] } } }
    | _ => s
  else
    let s1 := { s with rr := { s.rr with sparesUsed := s.rr.sparesUsed + 1, remapped := s.rr.remapped ++ [o.page] } }
    let s2 := s1.emit 0x0D 0x3806 (o.page % 2 ^ 17)
    let s3 := s2.emitIf (s1.sparesLeft == 2047) 0x0D 0x3807 s1.sparesLeft
    if s1.sparesLeft = 0 then (s3.emit 0x0D 0x3808 0).setUnit 0x0D stDegraded else s3

/-- An increment of a counter is stored (R350, R353). -/
def State.counterStore (s : State) (c amount : Nat) : State :=
  let k := kvGet {} s.rr.ctrs c
  let w := satAdd 32 k.writes 1
  let k' : Counter := { k with value := min (k.value + amount) (2 ^ 48 - 1), cell := nextCell k.retired 128 k.cell, writes := w, worn := k.worn || decide (25600000 ≤ w) }
  let s1 := { s with rr := { s.rr with ctrs := kvPut s.rr.ctrs c k' } }
  s1.emitIf (!k.worn && k'.worn) 0x0D 0x3805 c

/-- Whether a counter takes an increment (R351, R353). -/
def State.counterTakes (s : State) (c amount : Nat) : Bool :=
  decide (s.counter c + s.counterQueued c + amount ≤ 2 ^ 48 - 1) && decide ((kvGet {} s.rr.ctrs c).retired.length ≤ 120)

/-- A refused increment: COUNTER_EXHAUSTED once (R351). -/
def State.counterRefuse (s : State) (c : Nat) : State :=
  let k := kvGet {} s.rr.ctrs c
  if k.exhausted then s
  else { s with rr := { s.rr with ctrs := kvPut s.rr.ctrs c { k with exhausted := true } } }.emit 0x0D 0x3804 c

/-- The pending count of a counter takes an amount (R343). -/
def State.pendAdd (s : State) (c amount : Nat) : State :=
  { s with nv := { s.nv with pend := kvPut s.nv.pend c (min (kvGet 0 s.nv.pend c + amount) 65535) } }

/-- An internal increment (R339, R343, R351): refused, pending while fenced, else a program operation of its class. -/
def State.increment (s : State) (c amount : Nat) : State :=
  if !s.counterTakes c amount then s.counterRefuse c
  else if s.fenced then s.pendAdd c amount
  else
    let cell := nextCell (kvGet {} s.rr.ctrs c).retired 128 (kvGet {} s.rr.ctrs c).cell
    s.nvRequest { cls := 1, unit := 0x0D, page := 67584 + 32 * c + cell / 4, mask := 2 ^ (cell % 4), fx := .counter c amount }

/-- What the end of an operation brings about. -/
def State.nvEffect (s : State) (o : NvOp) : State :=
  match o.fx with
  | .counter c n => s.counterStore c n
  | _ => s

/-- FENCE_RELEASED once the deferred queue is empty (R342, R376). -/
def State.fenceSay (s : State) : State :=
  match s.nv.released with
  | some q =>
    if s.nv.deferred.isEmpty then
      { s with nv := { s.nv with released := none } }.emit 0x0D 0x380A (min q.1 255 + 256 * min q.2 0xFFFFFF)
    else s
  | none => s

/-- Warning and reset thresholds and hysteresis of a rail in mV (R444): 0 VDD_CORE, 1 VDD_IO, 2 VDD_18, 3 VDD_SER, 4 VAON. -/
def railWarn (r : Nat) : Nat := if r = 0 then 740 else if r = 1 then 3000 else if r = 2 then 1680 else 0

/-- Reset threshold of a rail. -/
def railReset (r : Nat) : Nat :=
  if r = 0 then 700 else if r = 1 then 2800 else if r = 2 then 1620 else if r = 3 then 840 else 2500

/-- PROGRAM_COMPLETE (R339, R341): the operation under way ends, after any failed verifies, and the next one starts. -/
def State.programComplete (s : State) (failed : Nat) : State :=
  match s.nv.run with
  | none => s
  | some o =>
    let s1 := { s with nv := { s.nv with run := none, failures := satAdd 32 s.nv.failures failed } }
    let s2 := if 3 ≤ failed then s1.remap o else s1
    ((s2.nvEffect o).nvPump).fenceSay

/-- FENCE_UP (R445): a rail falls below its warning threshold and the fence rises, or the fence that is up notes the rail. -/
def State.fenceRise (s : State) (rail mv : Nat) : State :=
  if !(decide (rail ≤ 2) && decide (mv < railWarn rail)) then s
  else
    let old := nth 0 s.sup.dipMin rail
    let s1 := { s with sup := { s.sup with rails := setAt s.sup.rails rail mv } }
    match s.nv.fence with
    | some f =>
      let again := bit f.mask rail
      { s1 with
        sup := { s1.sup with dipMin := setAt s.sup.dipMin rail (if again then min old mv else mv) },
        nv := { s1.nv with fence := some { f with mask := f.mask ||| 2 ^ rail, low := if rail = f.first then min f.low mv else f.low } } }
    | none =>
      { s1 with
        sup := { s1.sup with dipMin := setAt s.sup.dipMin rail mv },
        nv := { s1.nv with fence := some { since := s.now, first := rail, mask := 2 ^ rail, low := mv }, fences := satAdd 32 s.nv.fences 1 } }

/-- The pending counts are stored, one increment for each counter in ascending order (R342). -/
def State.storePending (s : State) : State :=
  let t := (List.range 64).foldl (fun (t : State) n => if kvGet 0 s.nv.pend n = 0 then t else t.counterStore n (kvGet 0 s.nv.pend n)) s
  { t with nv := { t.nv with pend := [], incs := [] } }

/-- FENCE_RELEASED (R342, R445): the fence lifts, SUPPLY_DIP is raised and counted, pending increments are stored and the deferred
operations start. -/
def State.fenceLift (s : State) : State :=
  match s.nv.fence with
  | none => s
  | some f =>
    if s.now < f.since + 2 * msNs then s
    else
      let d := s.now - f.since
      let s1 := { s with nv := { s.nv with fence := none, lastFence := min (d / 1000) (2 ^ 32 - 1), lifted := s.now, released := some (f.deferred, d / msNs) } }
      let s2 := { s1 with sup := { s1.sup with dips := satAdd 32 s1.sup.dips 1 } }
      let s3 := s2.emit 0x37 0x1203 (f.first + 16 * f.mask + 256 * min (d / msNs) 255 + 65536 * f.low)
      ((s3.charge 0x07 0x37 0x1203).storePending.nvPump).fenceSay

/-- A compaction that conservative mode held back (R467): it runs once the fence has been down for 10 s. -/
def State.compactHeld (s : State) : State :=
  if s.nv.compactDue && !s.fenced && decide (s.nv.lifted + 10 * secNs ≤ s.now) then
    let one := fun (t : State) (a : Nat) =>
      let x := t.rr.area a
      let r0 := x.b0.tidy (areaSize a) x.live x.recs.length true
      let r1 := x.b1.tidy (areaSize a) x.live x.recs.length true
      { t with
        rr := t.rr.setArea a { x with b0 := r0.1, b1 := r1.1 },
        nv := { t.nv with compactions := satAdd 32 t.nv.compactions (r0.2 + r1.2) } }
    let t := [0, 1, 2, 3].foldl one s
    { t with nv := { t.nv with compactDue := false } }
  else s

end Sys2Proof.Machine
end

