-- ==== Sys2Proof/Machine/DictBase.lean ====
section
/-! DEFINITION. The dictionary server's checks (R38, R39), its per-client instances (R506) and its answers (R73). -/

namespace Sys2Proof.Machine

open Sys2Proof

/-- Abort codes of R73. -/
def abOk : Nat := 0
/-- NO_OBJECT. -/
def abNoObject : Nat := 0x0101
/-- NO_SUBINDEX. -/
def abNoSub : Nat := 0x0102
/-- READ_ONLY. -/
def abReadOnly : Nat := 0x0201
/-- WRITE_ONLY. -/
def abWriteOnly : Nat := 0x0202
/-- ROLE_DENIED. -/
def abRole : Nat := 0x0203
/-- UNIT_RUNNING. -/
def abRunning : Nat := 0x0204
/-- BUSY. -/
def abBusy : Nat := 0x0301
/-- TIMEOUT. -/
def abTimeout : Nat := 0x0302
/-- RANGE. -/
def abRange : Nat := 0x0401
/-- TYPE_LENGTH. -/
def abLength : Nat := 0x0402
/-- NV_FENCED. -/
def abFenced : Nat := 0x0501
/-- SEQUENCE. -/
def abSequence : Nat := 0x0601
/-- AUTH_REQUIRED. -/
def abAuthReq : Nat := 0x0701
/-- KEY_REVOKED. -/
def abRevoked : Nat := 0x0702
/-- AUTH_FAILED. -/
def abAuthFail : Nat := 0x0703
/-- UNIT_UNAVAILABLE. -/
def abUnavail : Nat := 0x0801

/-- Role codes of R41: 1 H, 2 W, 3 E, 4 F. -/
def roleH : Nat := 1
/-- Role W. -/
def roleW : Nat := 2
/-- Role E. -/
def roleE : Nat := 3
/-- Role F. -/
def roleF : Nat := 4

/-- The channel ID of R41. -/
def channelOf : Client → Nat
  | .host => 0x20
  | .can b ch => 16 * b + ch

/-- The instance record of a client (R506); a client not listed is at its defaults. -/
def State.ctx (s : State) (c : Client) : ClientCtx :=
  (s.dict.clients.find? (fun x => x.c == c)).getD { c := c }

/-- Replaces the instance record of a client. -/
def State.setCtx (s : State) (x : ClientCtx) : State :=
  let l := s.dict.clients
  let l' := if l.any (fun y => y.c == x.c) then l.map (fun y => if y.c == x.c then x else y) else l ++ [x]
  { s with dict := { s.dict with clients := l' } }

/-- The value of a per-client RW object (R506). -/
def State.cval (s : State) (c : Client) (ix sub : Nat) : Nat :=
  kvGet (((objFind ix sub).map (·.dflt)).getD 0) (s.ctx c).vals (key ix sub)

/-- Sets a per-client RW object (R506). -/
def State.setCval (s : State) (c : Client) (ix sub v : Nat) : State :=
  let x := s.ctx c
  s.setCtx { x with vals := kvSet (((objFind ix sub).map (·.dflt)).getD 0) x.vals (key ix sub) v }

/-- The role a client holds (R38): on the host port H where no session is open; on CAN none. -/
def State.role (s : State) (c : Client) : Nat :=
  let x := s.ctx c
  if x.st = 2 then x.role
  else match c with
    | .host => roleH
    | .can _ _ => 0

/-- Whether a role is in a role mask. -/
def roleIn (r mask : Nat) : Bool := r != 0 && mask.testBit (r - 1)

/-- The role mask of an object; a descriptor's Control is HF, subindex 00 and the rest of a descriptor HWEF (R14). -/
def rolesOf (ix sub : Nat) : Nat :=
  if (unitOfBase ix).isSome then (if sub = 8 then 9 else 15)
  else if sub = 0 then 15
  else ((objFind ix sub).map (·.roles)).getD 0

/-- The access kind of an object. -/
def accOf (ix sub : Nat) : Acc :=
  if (unitOfBase ix).isSome then (if sub = 8 then .wo else .ro)
  else if sub = 0 then .ro
  else ((objFind ix sub).map (·.acc)).getD .ro

/-- Whether an index exists (R34). -/
def indexExists (ix : Nat) : Bool := (unitOfBase ix).isSome || objIndex ix

/-- Whether a subindex exists; 00 holds the highest subindex (R5). -/
def subExists (ix sub : Nat) : Bool :=
  if (unitOfBase ix).isSome then decide (sub ≤ 8) else sub == 0 || (objFind ix sub).isSome

/-- The unit an object belongs to. -/
def unitOf (ix : Nat) : Nat :=
  match unitOfBase ix with
  | some u => u.id
  | none => ownerOf ix

/-- R13: owner-side roles write no object of the trust group but the three of the firmware update. -/
def ownerBarred (ix sub : Nat) : Bool :=
  unitWithin 0x01 (unitOf ix) && !((ix == 0x1420 && sub == 1) || (ix == 0x1421 && (sub == 1 || sub == 2)))

/-- Role limits on a write that the chapters add to the mask: F outside FACTORY (R38), R13, the device's own timers (R377), the counters
(R352), the zone map and the tag's UII for H (R203, R287), the anchors (R302) and loopback (R415). -/
def State.writeBarred (s : State) (r ix sub v : Nat) : Bool :=
  (r == roleF && s.rr.lifecycle != lcFactory) ||
  (r == roleH && ownerBarred ix sub) ||
  (decide (0x4515 ≤ ix) && decide (ix ≤ 0x4517)) ||
  (ix == 0x3811 && (decide (sub ≤ 32) || (decide (sub ≤ 48) && r == roleH))) ||
  (r == roleH && (ix == 0x2810 || (ix == 0x3012 && (sub == 1 || sub == 2))) && decide (2 < s.rr.lifecycle)) ||
  (ix == 0x3730 && (r != roleF || s.rr.lifecycle != lcFactory)) ||
  ((ix == 0x4101 || ix == 0x4201) && sub == 2 && v == 3 && (r != roleF || s.rr.lifecycle != lcFactory)) ||
  (ix == 0x3020 && sub == 4 && r != roleH && r != roleW)

/-- Whether the dictionary answers at all: step 4 of R32 complete; the abort where it does not (R39, R465, R473). -/
def State.dictDown (s : State) (c : Client) (ix : Nat) : Nat :=
  if s.sup.vehicleLost then abUnavail
  else if s.sup.bootRom then
    (match c with
     | .host => if ix = 0x1420 || ix = 0x1421 || ix = 0x1410 then abOk else abBusy
     | .can _ _ => abBusy)
  else if s.powered && s.serving 0x24 then abOk
  else abBusy

/-- Checks 1 to 5 of R39, for a read or a write. -/
def State.checkAccess (s : State) (c : Client) (wr : Bool) (ix sub v : Nat) : Nat :=
  let x := s.ctx c
  let free : Bool := match c with
    | .host => true
    | .can _ _ => x.st == 2 || ix == 0x1110 || (ix == 0x1002 && !wr)
  let noRole : Bool := match c with
    | .host => false
    | .can _ _ => x.st != 2
  let down := s.dictDown c ix
  if down ≠ 0 then down
  else if !indexExists ix then abNoObject
  else if !subExists ix sub then abNoSub
  else if !free then abAuthReq
  else if x.revoked && ix != 0x1110 then abRevoked
  else if !noRole && !roleIn (s.role c) (rolesOf ix sub) then abRole
  else if wr && !noRole && s.writeBarred (s.role c) ix sub v then abRole
  else
    match accOf ix sub, wr with
    | .ro, true => abReadOnly
    | .wo, false => abWriteOnly
    | _, _ => abOk

/-- The length a write must have (R36); none for a STRING, and for a chunk of firmware, which has up to 4 KiB (R474). -/
def lenOf (ix sub : Nat) : Option Nat :=
  if ix = 0x1421 ∧ sub = 2 then none
  else if (unitOfBase ix).isSome then some 1
  else match objFind ix sub with
    | some d => (match d.ty with
      | .str _ => none
      | t => some t.len)
    | none => none

/-- The value check of R6 (check 11 of R39). -/
def valueOk (ix sub v : Nat) : Bool :=
  if (unitOfBase ix).isSome then v == 1 || v == 2
  else match objFind ix sub with
    | some d => (match d.ty with
      | .bool => decide (v ≤ 1)
      | _ => d.chk.ok v)
    | none => false

/-- Checks 1 to 6, 8 and 9 of R39 for a write of a value v that declares a length (R36, R474). The request object 0x2A20 asks policy to act, not its
own unit (R219, R254, log entry 74). -/
def State.checkForm (s : State) (c : Client) (ix sub v len : Nat) : Nat :=
  let a := s.checkAccess c true ix sub v
  let u := unitOf ix
  if a ≠ 0 then a
  else if accOf ix sub = .rws && s.unitState u != stStopped then abRunning
  else if (lenOf ix sub).any (· != len) || (ix == 0x1421 && sub == 2 && decide (4096 < len)) then abLength
  else if accOf ix sub = .wo && sub != 8 && ix != 0x2A20 && (s.unitState u == stOff || s.unitState u == stFailed) && u != 0 then abUnavail
  else abOk

/-- Checks 1 to 9 and 11 of R39 for a write of a whole value; the tag and the commit are the transport's and the store's. -/
def State.checkWrite (s : State) (c : Client) (ix sub : Nat) (data : Bytes) : Nat :=
  let a := s.checkForm c ix sub (leNat data) data.length
  if a ≠ 0 then a
  else if !valueOk ix sub (leNat data) then abRange
  else abOk

/-- An answer to a client (R73), with the counters of R46. late says that the request got past the tag check, so that the transfer counter
of R43 counts it. The outcome of a key operation is kept (R318). -/
def State.answer (s : State) (c : Client) (k abort : Nat) (data : Bytes) (late : Bool) : State :=
  let x := s.ctx c
  let x' := { x with
    reply := some { key := k, abort := abort, data := data },
    keyOutcome := if k = 0x372006 && late then abort else x.keyOutcome,
    ctr := if x.st = 2 && late then (x.ctr + 1) % 2 ^ 32 else x.ctr,
    lastUse := s.now }
  let s1 := s.setCtx x'
  { s1 with dict := { s1.dict with
    completed := if abort = 0 then satAdd 32 s1.dict.completed 1 else s1.dict.completed,
    aborts := if abort = 0 then s1.dict.aborts else satAdd 32 s1.dict.aborts 1 } }

/-- An act that always succeeds. -/
def okAct (f : State → State) : State → State × Nat := fun s => (f s, abOk)

end Sys2Proof.Machine
end

