-- ==== Sys2Proof/Machine/Timers.lean ====
section
/-! DEFINITION. The timer set (R377 to R385): counts follow the peripheral clock, comparators are live, captures meet reads. -/

namespace Sys2Proof.Machine

open Sys2Proof

/-- Timer n. -/
def State.timer (s : State) (n : Nat) : Timer := kvGet {} s.timers n

/-- Replaces timer n. -/
def State.setTimer (s : State) (n : Nat) (t : Timer) : State := { s with timers := kvSet {} s.timers n t }

/-- Ticks since the count was `base` (R377). -/
def Timer.ticks (t : Timer) (clk : Nat) : Nat := (clk - t.from_) / 2 ^ t.p

/-- The count without its wrap at 2^32. -/
def Timer.raw (t : Timer) (clk : Nat) : Nat :=
  if !t.running then t.base else if clk < t.from_ then t.hold else t.base + t.ticks clk

/-- The count of a timer (R377, R379). -/
def Timer.count (t : Timer) (clk : Nat) : Nat := t.raw clk % 2 ^ 32

/-- The peripheral clock of the tick that the count shown at clk came with. -/
def Timer.tickAt (t : Timer) (clk : Nat) : Nat := t.from_ + t.ticks clk * 2 ^ t.p

/-- The pending holder moves into the capture register in the clock after the latch (R384). -/
def Timer.promote (t : Timer) (clk : Nat) : Timer :=
  match t.pend with
  | some (v, at_) => if at_ < clk then { t with capture := v, new := true, pend := none } else t
  | none => t

/-- The mode bits [1:0] of timer n. -/
def State.timerMode (s : State) (n : Nat) : Nat := s.obj (0x4510 + n) 0x01 % 4

/-- A timer that runs FREE at p = 0 from a peripheral clock on, its count starting at 0. -/
def Timer.free (clk : Nat) : Timer := { running := true, from_ := clk }

/-- The timer set starts (R407): T0 to T4 stopped with every object at its default, and T5 running (R377). -/
def State.timersStart (s : State) : State :=
  let s1 := { s with objs := s.objs.filter (fun e => !(decide (0x4510 ≤ e.1 / 256) && decide (e.1 / 256 ≤ 0x4514))) }
  ((List.range 5).foldl (fun (t : State) n => t.setTimer n {}) s1).setTimer 5 (Timer.free s.pclk)

/-- The status byte of a timer (R409). -/
def Timer.status (t : Timer) : Nat := b2n t.mtch + 2 * b2n t.ovf + 4 * b2n t.overrun + 8 * b2n t.new + 16 * b2n t.running

/-- An event of a timer (R385): at most 10 in any 1 s, then one TIMER_EVENTS_LIMITED per second. -/
def State.timerEvent (s : State) (n code param : Nat) (enabled : Bool) : State :=
  if !enabled then s
  else
    let t := s.timer n
    let recent := t.evTimes.filter (fun x => decide (s.now < x + secNs))
    if recent.length < 10 then (s.setTimer n { t with evTimes := recent ++ [s.now] }).emit 0x31 code param
    else
      let w := satAdd 16 t.withheld 1
      let due : Bool := match t.limitedAt with
        | none => true
        | some x => decide (x + secNs ≤ s.now)
      if due then (s.setTimer n { t with evTimes := recent, withheld := 0, limitedAt := some s.now }).emit 0x31 0x4404 (n + 65536 * w)
      else s.setTimer n { t with evTimes := recent, withheld := w }

/-- A capture into the register at a peripheral clock (R383, R384): over an unread value it sets OVERRUN and raises CAPTURE_OVERRUN. -/
def State.captureAt (s : State) (n clk : Nat) : State :=
  let t := (s.timer n).promote clk
  let past := t.new
  (s.setTimer n { t with capture := t.count clk, new := true, overrun := t.overrun || past }).emitIf past 0x31 0x4403 n

/-- A capture in the present peripheral clock. -/
def State.captureNow (s : State) (n : Nat) : State := s.captureAt n s.pclk

/-- A capture in the clock of a read's latch (R384): it goes to the pending holder, and over a pending value sets OVERRUN. -/
def State.captureLatch (s : State) (n : Nat) : State :=
  let t := s.timer n
  let past := t.pend.isSome
  (s.setTimer n { t with pend := some (t.count s.pclk, s.pclk), overrun := t.overrun || past }).emitIf past 0x31 0x4403 n

/-- START of R381. -/
def Timer.start (t : Timer) (clk p : Nat) : Timer :=
  { t with base := t.count clk, from_ := clk, p := p, running := true, matchedAt := some clk }

/-- STOP of R381. -/
def Timer.stop (t : Timer) (clk : Nat) : Timer := { t with base := t.count clk, from_ := clk, running := false }

/-- RESET of R381. -/
def Timer.reset (t : Timer) (clk p : Nat) : Timer :=
  { t with base := 0, from_ := clk, p := p, matchedAt := some clk }

/-- RESTART of R381. -/
def Timer.restartAt (t : Timer) (clk p cmp : Nat) : Timer :=
  { t with base := 0, from_ := clk, p := p, cmp := cmp, running := true, matchedAt := some clk }

/-- The linked actions of a match of timer n on timer j (R382), in the clock after the match; a capture by source 0x05 is in the clock of
the match itself (R383). -/
def State.linkAct (s : State) (n j : Nat) : State :=
  let t := s.timer j
  if t.master ≠ n then s
  else
    let p := s.obj (0x4510 + j) 0x02
    let clk := s.pclk + 1
    let s0 := if s.obj (0x4510 + j) 0x06 = 5 then s.captureNow j else s
    let s1 := if bit t.actions 3 then s0.captureAt j clk else s0
    let t1 := s1.timer j
    let t2 := if bit t.actions 2 then t1.reset clk p else t1
    let t3 := if bit t.actions 1 then t2.stop clk else t2
    let t4 := if bit t.actions 0 then t3.start clk p else t3
    s1.setTimer j t4

/-- One match of timer n (R378): MATCH, the match count, the linked actions and TIMER_MATCH. -/
def State.matchOnce (s : State) (n : Nat) : State :=
  let t := s.timer n
  let s1 := s.setTimer n { t with mtch := true, matches_ := satAdd 32 t.matches_ 1 }
  let s2 := (List.range 8).foldl (fun u j => u.linkAct n j) s1
  s2.timerEvent n 0x4401 (n + 65536 * ((s2.timer n).matches_ % 65536)) (bit (s.obj (0x4510 + n) 0x01) 2)

/-- What a match does to the count by the mode (R378). -/
def State.afterMatch (s : State) (n : Nat) : State :=
  let t := s.timer n
  let c := t.count s.pclk
  if !t.running then s
  else if s.timerMode n = 1 then
    s.setTimer n { t with hold := c, base := 0, from_ := t.tickAt s.pclk + 2 ^ t.p, matchedAt := none }
  else if s.timerMode n = 2 then s.setTimer n { t with running := false, base := c }
  else s.setTimer n { t with matchedAt := some (t.tickAt s.pclk) }

/-- TIMER_MATCH: a tick has brought the counter to the compare value (R378). -/
def State.tickMatch (s : State) (n : Nat) : State :=
  let t := s.timer n
  if t.running && decide (t.from_ ≤ s.pclk) && t.count s.pclk == t.cmp && t.matchedAt != some (t.tickAt s.pclk) then
    (s.matchOnce n).afterMatch n
  else s

/-- TIMER_OVERFLOW: the counter has passed 0xFFFF_FFFF (R379). -/
def State.timerOverflow (s : State) (n : Nat) : State :=
  let t := s.timer n
  if t.running && decide (2 ^ 32 ≤ t.raw s.pclk) then
    let t' := { t with base := t.count s.pclk, from_ := t.tickAt s.pclk, ovf := true, ovfs := satAdd 32 t.ovfs 1 }
    (s.setTimer n t').timerEvent n 0x4402 n (bit (s.obj (0x4510 + n) 0x01) 3)
  else s

/-- A write to the live compare register (R380); tickClock says that the tick that brings the counter to the value is in the same clock. -/
def State.compareWrite (s : State) (n v : Nat) (tickClock : Bool) : State :=
  let t := s.timer n
  let eq := t.count s.pclk == v
  let s1 := s.setTimer n { t with cmp := v }
  if !eq then s1
  else if tickClock && t.running then ((s1.matchOnce n).matchOnce n).afterMatch n
  else (s1.matchOnce n).afterMatch n

/-- A command on a timer (R381). -/
def State.timerCmd (s : State) (n code : Nat) : State :=
  let p := s.obj (0x4510 + n) 0x02
  let t := s.timer n
  if code = 1 then s.setTimer n (t.start s.pclk p)
  else if code = 2 then s.setTimer n (t.stop s.pclk)
  else if code = 3 then s.setTimer n (t.reset s.pclk p)
  else s.setTimer n (t.restartAt s.pclk p (s.obj (0x4510 + n) 0x0E))

/-- A group object (R382): T0 to T4 of the mask in one clock; any of bits 5 to 7 refuses the whole. -/
def State.groupCmd (s : State) (code mask : Nat) : State × Nat :=
  if 32 ≤ mask then (s, abRole)
  else ((List.range 5).foldl (fun u n => if bit mask n then u.timerCmd n code else u) s, abOk)

/-- The links written to the timers form a cycle (R382), seen by following each master eight times. -/
def State.linkCycle (s : State) : Bool :=
  (List.range 8).any (fun n =>
    (List.range 8).foldl (fun (x : Nat) _ => if x < 8 then s.obj (0x4510 + x) 0x09 else x) n < 8)

/-- A snapshot of the links (R22, R23). -/
def State.linkSnapshot (s : State) (n sub : Nat) : State :=
  if s.linkCycle then
    (s.touched 0x4510).snapshot 0x4510 0x4510 0x4517 false 0x31 0x440A (256 * (0x4510 + n) + sub)
  else
    (List.range 8).foldl (fun u j =>
      u.setTimer j { u.timer j with master := u.obj (0x4510 + j) 0x09, actions := u.obj (0x4510 + j) 0x0A }) s

/-- A write to the counter object (R381): refused while the timer runs. -/
def State.countWrite (s : State) (n v : Nat) : State × Nat :=
  if (s.timer n).running then (s, abSequence) else (s.setTimer n { s.timer n with base := v }, abOk)

/-- A write to the clear object (R384, R409). -/
def State.timerClear (s : State) (n mask : Nat) : State :=
  let t := s.timer n
  s.setTimer n { t with mtch := t.mtch && !bit mask 0, ovf := t.ovf && !bit mask 1, overrun := t.overrun && !bit mask 2 }

/-- A read latches the capture register and clears NEW (R384). -/
def State.captureRead (s : State) (n : Nat) : State :=
  s.setTimer n { (s.timer n).promote s.pclk with new := false }

/-- A capture source fires (R383) on every timer that has chosen it. -/
def State.captureAll (s : State) (srcCode : Nat) : State :=
  (List.range 8).foldl (fun u n => if u.obj (0x4510 + n) 0x06 = srcCode then u.captureNow n else u) s

end Sys2Proof.Machine
end

