-- ==== Sys2Proof/Machine/Can.lean ====
section
/-! DEFINITION. The CAN controllers (R413 to R431): transmit sources, choice and end of frames, filters and receive buffers, errors and
bus-off, and the reaction to the RC clock. -/

namespace Sys2Proof.Machine

open Sys2Proof

/-- A controller. -/
def State.ctl (s : State) (bus : Nat) : CanCtl := if bus = 0 then s.can0 else s.can1

/-- Replaces a controller. -/
def State.setCtl (s : State) (bus : Nat) (x : CanCtl) : State := if bus = 0 then { s with can0 := x } else { s with can1 := x }

/-- The unit of a controller. -/
def canUnit (bus : Nat) : Nat := if bus = 0 then 0x2E else 0x2F

/-- A configuration object of a controller. Timing and mode are those in force since its start (R22, R439); the priority mode, the recovery
and the propagation allowance are read at the work that uses them. -/
def State.canObj (s : State) (bus ix sub : Nat) : Nat :=
  let i := ix + 0x100 * bus
  if ix = 0x4101 ∧ 2 ≤ sub ∧ sub ≤ 0xE then s.conf i i sub else s.obj i sub

/-- Bytes of a DLC (R414). -/
def dlcBytes (fdf : Bool) (dlc : Nat) : Nat :=
  if dlc ≤ 8 then dlc
  else if !fdf then 8
  else if dlc = 9 then 12 else if dlc = 10 then 16 else if dlc = 11 then 20 else if dlc = 12 then 24
  else if dlc = 13 then 32 else if dlc = 14 then 48 else 64

/-- The smallest DLC of an FD frame that holds n bytes (R414). -/
def dlcFor (n : Nat) : Nat :=
  if n ≤ 8 then n else if n ≤ 12 then 9 else if n ≤ 16 then 10 else if n ≤ 20 then 11 else if n ≤ 24 then 12
  else if n ≤ 32 then 13 else if n ≤ 48 then 14 else 15

/-- Whether FD is enabled. -/
def State.canFd (s : State) (bus : Nat) : Bool := s.canObj bus 0x4101 0x03 != 0

/-- The nominal bit time in tq. -/
def State.canNbt (s : State) (bus : Nat) : Nat := 1 + s.canObj bus 0x4101 0x05 + s.canObj bus 0x4101 0x06

/-- The bit rate of a prescaler and two time segments (R416). -/
def bitRate (brp t1 t2 : Nat) : Nat := 80000000 / (brp * (1 + t1 + t2))

/-- The nominal bit rate (R416). -/
def State.canRate (s : State) (bus : Nat) : Nat :=
  bitRate (s.canObj bus 0x4101 0x04) (s.canObj bus 0x4101 0x05) (s.canObj bus 0x4101 0x06)

/-- The data bit rate (R416), 0 with FD disabled. -/
def State.canDataRate (s : State) (bus : Nat) : Nat :=
  if s.canFd bus then bitRate (s.canObj bus 0x4101 0x09) (s.canObj bus 0x4101 0x0A) (s.canObj bus 0x4101 0x0B) else 0

/-- Whether the nominal timing is RC tolerant (R419): df is at least 1.01 %. -/
def State.rcTolerant (s : State) (bus : Nat) : Bool :=
  let t2 := s.canObj bus 0x4101 0x06
  let nbt := s.canNbt bus
  let ps1 := s.canObj bus 0x4101 0x05 - s.canObj bus 0x4101 0x15
  decide (101 * (2 * (13 * nbt - t2)) ≤ 10000 * min ps1 t2) && decide (101 * (20 * nbt) ≤ 10000 * s.canObj bus 0x4101 0x07)

/-- Whether the timing written to a controller is consistent (R416, R417). -/
def State.canConsistent (s : State) (bus : Nat) : Bool :=
  let o := s.obj (0x4101 + 0x100 * bus)
  let fd := o 0x03 != 0
  let r := bitRate (o 0x04) (o 0x05) (o 0x06)
  let d := bitRate (o 0x09) (o 0x0A) (o 0x0B)
  decide (o 0x07 ≤ o 0x06) && decide (o 0x0C ≤ o 0x0B) && decide (10000 ≤ r) && decide (r ≤ 1000000) &&
  (!fd || (decide (r ≤ d) && decide (d ≤ 5000000))) && (fd || !bit (s.obj 0x2A10 0x02) bus) &&
  (o 0x08 == 0 || (!fd && decide (r ≤ 250000) && decide (4 ≤ o 0x05)))

/-- Whether a controller may send (R415, R419, R430): it takes part in the bus in a mode that sends. -/
def State.canSends (s : State) (bus : Nat) : Bool :=
  let m := s.canObj bus 0x4101 0x02
  let x := s.ctl bus
  (m == 0 || m == 3) && !x.rcRestricted && (x.st == 2 || x.st == 3) && !s.sup.vehicleLost

/-- Whether the mode lets a request be pending (R415): in a mode that does not send it fails at once. -/
def State.canModeSends (s : State) (bus : Nat) : Bool :=
  let m := s.canObj bus 0x4101 0x02
  (m == 0 || m == 3) && !(s.ctl bus).rcRestricted

/-- Rank of a frame in arbitration (R421): the lower goes first. It is the arbitration field: base identifier, RTR or SRR, IDE, and of an
extended frame the other 18 bits and RTR. -/
def canRank (f : CanFrame) : Nat :=
  if f.ide then (f.id / 2 ^ 18) * 2 ^ 21 + 2 ^ 20 + 2 ^ 19 + (f.id % 2 ^ 18) * 2 + b2n f.rtr
  else f.id * 2 ^ 21 + b2n f.rtr * 2 ^ 20

/-- Frames of a class in the device queue. -/
def CanCtl.classCount (x : CanCtl) (k : TxClass) : Nat := (x.queue.filter (fun f => f.cls == k)).length

/-- Places a frame in the device queue behind those of its class and of the classes before it (R420). The head stays where it is on the
bus. -/
def queueInsert (busy : Bool) (f : DevFrame) (l : List DevFrame) : List DevFrame :=
  let rank := fun (k : TxClass) => match k with
    | .bellwether => 0
    | .release => 1
    | .bdp => 2
  let held := if busy then l.take 1 else []
  let rest := if busy then l.drop 1 else l
  held ++ rest.filter (fun g => decide (rank g.cls ≤ rank f.cls)) ++ [f] ++ rest.filter (fun g => decide (rank f.cls < rank g.cls))

/-- The device slot's frame is on the bus. -/
def CanCtl.deviceBusy (x : CanCtl) : Bool := x.cur.any (fun t => t.buf.isNone)

/-- Removes the first frame that satisfies a test, sparing the one on the bus. -/
def dropFirst (busy : Bool) (p : DevFrame → Bool) : List DevFrame → List DevFrame
  | [] => []
  | f :: r => if busy then f :: dropFirst false p r else if p f then r else f :: dropFirst false p r

/-- A frame of the device asks for the device queue (R420): release messages replace the older entry not yet started, BDP responses wait. -/
def CanCtl.queueFrame (x : CanCtl) (f : DevFrame) : CanCtl :=
  match f.cls with
  | .bellwether =>
    if x.classCount .bellwether < 2 then { x with queue := queueInsert x.deviceBusy f x.queue } else x
  | .release =>
    let q := if x.classCount .release < 2 then x.queue
      else dropFirst x.deviceBusy (fun g => g.cls == .release) x.queue
    { x with queue := queueInsert x.deviceBusy f q }
  | .bdp =>
    if x.classCount .bdp < 12 then { x with queue := queueInsert x.deviceBusy f x.queue }
    else { x with waiting := x.waiting ++ [f] }

/-- Hands a frame to a controller's device queue, where the unit may send at all (R420, R465). -/
def State.canQueue (s : State) (bus : Nat) (f : DevFrame) : State :=
  if s.sup.vehicleLost || !s.canModeSends bus then s else s.setCtl bus ((s.ctl bus).queueFrame f)

/-- The frame that a host buffer's objects hold (R424, R427). -/
def State.bufFrame (s : State) (bus b : Nat) : CanFrame :=
  let ix := 0x4110 + b + 0x100 * bus
  let v := s.obj ix 0x01
  let fl := s.obj ix 0x02
  let ide := bit v 29
  let fdf := bit fl 7
  let dlc := s.obj ix 0x03
  { id := if ide then v % 2 ^ 29 else v % 2 ^ 11, ide := ide, rtr := bit fl 5, fdf := fdf, brs := bit fl 6, dlc := dlc,
    data := if bit fl 5 then [] else leBytes (dlcBytes fdf dlc) (s.obj ix 0x04) }

/-- Replaces host buffer b. -/
def CanCtl.setBuf (x : CanCtl) (b : Nat) (t : TxBuf) : CanCtl := { x with bufs := setAt x.bufs b t }

/-- Host buffer b. -/
def CanCtl.buf (x : CanCtl) (b : Nat) : TxBuf := nth {} x.bufs b

/-- TX_COMPLETE where the buffer asked for it (R443). -/
def State.txEvent (s : State) (bus b : Nat) : State :=
  let t := (s.ctl bus).buf b
  s.emitIf t.event (canUnit bus) 0x4006 (256 * bus + 16 * b + t.st + 65536 * b2n (bit t.result 2))

/-- A request command on a host buffer (R415, R424). -/
def State.txRequest (s : State) (bus b : Nat) : State × Nat :=
  let ix := 0x4110 + b + 0x100 * bus
  let fl := s.obj ix 0x02
  let x := s.ctl bus
  let t := x.buf b
  if t.st = 1 || t.st = 2 then (s, abBusy)
  else if (!bit fl 7 && bit fl 6) || (bit fl 5 && bit fl 7) || decide (2 ^ 30 ≤ s.obj ix 0x01) || (bit fl 7 && !s.canFd bus) then (s, abRange)
  else
    let t1 : TxBuf := { t with st := 1, result := 0, fr := s.bufFrame bus b, oneShot := bit fl 4, event := bit fl 3, abortLate := false }
    if s.canModeSends bus then (s.setCtl bus (x.setBuf b t1), abOk)
    else ((s.setCtl bus (x.setBuf b { t1 with st := 5 })).txEvent bus b, abOk)

/-- An abort command on a host buffer (R423). -/
def State.txAbort (s : State) (bus b : Nat) : State :=
  let x := s.ctl bus
  let t := x.buf b
  if t.st = 1 then (s.setCtl bus (x.setBuf b { t with st := 4 })).txEvent bus b
  else if t.st = 2 then s.setCtl bus (x.setBuf b { t with abortLate := true })
  else s

/-- The sources that hold a pending frame: none for the device slot (R420). -/
def CanCtl.sources (x : CanCtl) : List (Option Nat × CanFrame) :=
  (x.queue.take 1).map (fun f => (none, f.fr)) ++
  ((List.range 3).filter (fun b => (x.buf b).st == 1)).map (fun b => (some b, (x.buf b).fr))

/-- The best of the sources: the first of lowest rank (R421). -/
def bestSource : List (Option Nat × CanFrame) → Option (Option Nat × CanFrame)
  | [] => none
  | q :: r =>
    match bestSource r with
    | none => some q
    | some p => if canRank p.2 < canRank q.2 then some p else some q

/-- TX_CHOICE (R421): the next frame starts. On the RC clock it goes without bit-rate switching (R419). -/
def State.txChoice (s : State) (bus : Nat) : State :=
  let x := s.ctl bus
  if x.cur.isSome || !s.canSends bus then s
  else
    let l := x.sources
    match (if s.canObj bus 0x4101 0x0F = 0 then bestSource l else l.head?) with
    | none => s
    | some (b, f) =>
      let f' := { f with brs := f.brs && !x.clkRc, esi := x.st == 3 }
      let x1 := { x with cur := some { buf := b, fr := f', start := s.now } }
      match b with
      | some i => s.setCtl bus (x1.setBuf i { x1.buf i with st := 2 })
      | none => s.setCtl bus x1

/-- The protocol state by the error counters (R413): below bus-off, passive from 128. -/
def errState (tec rec : Nat) : Nat := if 128 ≤ tec || 128 ≤ rec then 3 else 2

/-- The error counters change: ERROR_STATE between error-active and error-passive, and bus-off from a transmit count of 256 (R430, R443). -/
def State.canCounts (s : State) (bus tec rec : Nat) : State :=
  let x := s.ctl bus
  let u := canUnit bus
  if 256 ≤ tec && (x.st == 2 || x.st == 3) then
    let x1 := { x with st := 4, tec := 256, rxErr := rec, busOffs := satAdd 32 x.busOffs 1, offAt := s.now, cur := none }
    let x2 := (List.range 3).foldl (fun (y : CanCtl) b =>
      let t := y.buf b
      if (t.st = 1 || t.st = 2) && t.oneShot then y.setBuf b { t with st := 5 }
      else if t.st = 2 then y.setBuf b { t with st := if t.abortLate then 4 else 1 } else y) x1
    let s0 := (s.setCtl bus x2).setUnit u stDegraded
    let s1 := (List.range 3).foldl (fun (v : State) b => if (x2.buf b).st = 5 && (x.buf b).st != 5 then v.txEvent bus b else v) s0
    (s1.emit u 0x4001 (256 * bus + 255)).charge (0x1C + bus) u 0x4001
  else
    let st := if x.st = 2 || x.st = 3 then errState tec rec else x.st
    (s.setCtl bus { x with tec := min tec 256, rxErr := min rec 255, st := st }).emitIf (st != x.st) u 0x4003 (256 * bus + st)

/-- BDP responses that waited take the free entries of the device queue (R420). -/
def CanCtl.refill (x : CanCtl) : CanCtl :=
  match x.waiting with
  | [] => x
  | f :: r =>
    if x.classCount .bdp < 12 then { x with queue := queueInsert x.deviceBusy f x.queue, waiting := r } else x

/-- The frame on the bus ends (R421 to R423). An error adds 8 to the transmit count, but for an acknowledgement missing while error-passive
(R413, the standard). -/
def State.frameEnd (s : State) (bus : Nat) (o : FrameOutcome) : State :=
  let x := s.ctl bus
  match x.cur with
  | none => s
  | some t =>
    match o with
    | .sent tdc =>
      let x1 := { x with cur := none, sent := satAdd 32 x.sent 1, tdc := if t.fr.fdf && s.canObj bus 0x4101 0x0D != 0 then min tdc 127 else x.tdc }
      let s1 := match t.buf with
        | some b =>
          let y := x1.buf b
          (s.setCtl bus (x1.setBuf b { y with st := 3, sendTime := t.start, result := if y.abortLate then 4 else 0 })).txEvent bus b
        | none => s.setCtl bus ({ x1 with queue := x1.queue.drop 1 }).refill
      s1.canCounts bus (x.tec - 1) x.rxErr
    | .lostArbitration =>
      let x1 := { x with cur := none, arbLost := satAdd 32 x.arbLost 1 }
      match t.buf with
      | some b =>
        let y := x1.buf b
        if y.abortLate then (s.setCtl bus (x1.setBuf b { y with st := 4 })).txEvent bus b
        else if y.oneShot then (s.setCtl bus (x1.setBuf b { y with st := 5, result := 2 })).txEvent bus b
        else s.setCtl bus (x1.setBuf b { y with st := 1 })
      | none => s.setCtl bus x1
    | .error code dataPhase =>
      let x1 := { x with cur := none, errors := satAdd 32 x.errors 1, lastErr := code % 8 + 128 * b2n dataPhase }
      let s1 := match t.buf with
        | some b =>
          let y := x1.buf b
          if y.abortLate then (s.setCtl bus (x1.setBuf b { y with st := 4 })).txEvent bus b
          else if y.oneShot then (s.setCtl bus (x1.setBuf b { y with st := 5, result := 1 })).txEvent bus b
          else s.setCtl bus (x1.setBuf b { y with st := 1 })
        | none => s.setCtl bus x1
      s1.canCounts bus (if x.st = 3 ∧ code % 8 = 3 then x.tec else x.tec + 8) x.rxErr

/-- The record of a received frame in its 80 bytes (R427). -/
def RxRec.bytes (r : RxRec) : Bytes :=
  leBytes 4 (r.fr.id + 2 ^ 29 * b2n r.fr.ide + 2 ^ 30 * b2n r.fr.rtr) ++
  [byte (1 + 16 * b2n r.hp + 32 * b2n r.fr.esi + 64 * b2n r.fr.brs + 128 * b2n r.fr.fdf), byte (r.fr.dlc % 16), byte r.filter, 0] ++
  leBytes 8 r.at_ ++ padTo 64 r.fr.data

/-- Whether host filter f accepts a frame (R426). -/
def State.filterTakes (s : State) (bus f : Nat) (fr : CanFrame) : Bool :=
  let cfg := s.canObj bus 0x4122 (f + 1)
  let m := s.canObj bus 0x4121 (f + 1)
  bit cfg 7 && bit cfg 6 == fr.ide && (fr.id &&& m) == (s.canObj bus 0x4120 (f + 1) &&& m)

/-- A frame for the FIFO (R428): a full FIFO drops it, RX_OVERFLOW once per run. -/
def State.fifoPut (s : State) (bus : Nat) (r : RxRec) : State :=
  let x := s.ctl bus
  if x.fifo.length < 32 then s.setCtl bus { x with fifo := x.fifo ++ [r], dropping := false }
  else
    (s.setCtl bus { x with drops := satAdd 32 x.drops 1, dropping := true }).emitIf (!x.dropping) (canUnit bus) 0x4004 (256 * bus)

/-- The pending holder becomes the record in the clock after the latch (R429). -/
def CanCtl.hpPromote (x : CanCtl) (now : Nat) : CanCtl :=
  match x.hpPend, x.hpLatch with
  | some r, some t => if t < now then { x with hp := some r, hpNew := true, hpPend := none, hpLatch := none } else x
  | _, _ => x

/-- A frame for the high-priority buffer (R429); latchClock says that it completes in the clock of a read's latch. -/
def State.hpPut (s : State) (bus : Nat) (r : RxRec) (latchClock : Bool) : State :=
  let x := (s.ctl bus).hpPromote s.now
  let n := (x.hpCount + 1) % 256
  if latchClock then
    s.setCtl bus { x with hpPend := some r, hpLatch := some s.now, hpCount := n, hpOver := x.hpOver || x.hpPend.isSome }
  else
    (s.setCtl bus { x with hp := some r, hpNew := true, hpCount := n, hpOver := x.hpOver || x.hpNew }).emitIf x.hpNew (canUnit bus) 0x4005 (256 * bus + n)

/-- A controller takes part in the bus and hears its frames. -/
def State.canHears (s : State) (bus : Nat) : Bool :=
  let x := s.ctl bus
  x.st == 2 || x.st == 3 || x.st == 6

/-- A frame arrives without error (R426 to R429): counters, host filters, buffers. -/
def State.canDeliver (s : State) (bus : Nat) (f : CanFrame) (latchClock : Bool) : State :=
  let x := s.ctl bus
  let rec' := if 127 < x.rxErr then 119 + Config.recAfter s.free % 9 else x.rxErr - 1
  let s0 := if 127 < x.rxErr then { s with free := s.free + 1 } else s
  let s1 := (s0.setCtl bus { x with rxd := satAdd 32 x.rxd 1 }).canCounts bus x.tec rec'
  match (List.range 32).find? (fun k => s.filterTakes bus k f) with
  | none => s1.setCtl bus { s1.ctl bus with unfiltered := satAdd 32 x.unfiltered 1 }
  | some k =>
    let d := s.canObj bus 0x4122 (k + 1) % 4
    let r : RxRec := { fr := f, hp := d == 1, filter := k, at_ := s.now }
    if d = 0 then s1.fifoPut bus r else if d = 1 then s1.hpPut bus r latchClock else s1

/-- An error in a frame received (R413, R430). -/
def State.canRxError (s : State) (bus code : Nat) (dataPhase : Bool) : State :=
  if s.canHears bus then
    let x := s.ctl bus
    (s.setCtl bus { x with errors := satAdd 32 x.errors 1, lastErr := code % 8 + 128 * b2n dataPhase }).canCounts bus x.tec (x.rxErr + 1)
  else s

/-- The recovery delay of automatic recovery has run (R430, R460). -/
def State.recoveryDelay (s : State) (bus : Nat) : State :=
  let x := s.ctl bus
  let d := s.canObj bus 0x4101 0x11 * msNs + (if s.lasting (0x1C + bus) then 10 * secNs else 0)
  if x.st = 4 && s.canObj bus 0x4101 0x10 == 0 && decide (x.offAt + d ≤ s.now) then s.setCtl bus { x with st := 5 } else s

/-- A write to the recover object (R430). -/
def State.recover (s : State) (bus : Nat) : State × Nat :=
  let x := s.ctl bus
  if x.st = 4 && s.canObj bus 0x4101 0x10 == 1 then (s.setCtl bus { x with st := 5 }, abOk) else (s, abSequence)

/-- The recovery sequence has completed (R430). -/
def State.busRecovered (s : State) (bus : Nat) : State :=
  let x := s.ctl bus
  if x.st = 5 then
    ((s.setCtl bus { x with st := 2, tec := 0, rxErr := 0 }).setUnit (canUnit bus) stRunning).emit (canUnit bus) 0x4002 (256 * bus)
  else s

/-- A controller has integrated onto the bus and reports RUNNING (R439); it is RESTRICTED by its mode. -/
def State.canIntegrated (s : State) (bus : Nat) : State :=
  let x := s.ctl bus
  if x.st = 1 then
    let st := if s.canObj bus 0x4101 0x02 = 2 || x.rcRestricted then 6 else 2
    (s.setCtl bus { x with st := st }).setUnit (canUnit bus) stRunning
  else s

/-- A controller goes over to the RC clock or back to the crystal (R419). -/
def State.canClock (s : State) (bus : Nat) : State :=
  let x := s.ctl bus
  let u := canUnit bus
  let st := s.ownState u
  if st = stStopped || st = stOff || x.clkRc = s.sup.rc then s
  else if s.sup.rc then
    let restricted := !s.rcTolerant bus
    (s.setCtl bus { x with clkRc := true, rcRestricted := restricted, st := if restricted && (x.st == 2 || x.st == 3) then 6 else x.st }).emit u 0x4007 (256 * bus + 1 + 2 * b2n restricted)
  else
    let st' := if x.rcRestricted && x.st == 6 && s.canObj bus 0x4101 0x02 != 2 then errState x.tec x.rxErr else x.st
    (s.setCtl bus { x with clkRc := false, rcRestricted := false, st := st' }).emit u 0x4007 (256 * bus)

/-- A controller starts (R439): it takes its configuration and integrates, its buffers empty and its error counters at 0; the RC clock acts
as it starts (R419). -/
def State.canStart (s : State) (bus : Nat) : State :=
  let u := canUnit bus
  let s1 := s.snapshot (0x4101 + 0x100 * bus) (0x4101 + 0x100 * bus) (0x4101 + 0x100 * bus) (s.canConsistent bus) u 0x4008 (256 * (0x4101 + 0x100 * bus) + 4)
  let x := s1.ctl bus
  let x1 : CanCtl := {
    st := 1, rxd := x.rxd, sent := x.sent, errors := x.errors, busOffs := x.busOffs, arbLost := x.arbLost, drops := x.drops
    unfiltered := x.unfiltered, lastErr := x.lastErr, tdc := x.tdc }
  ((s1.setCtl bus x1).setUnit u stStarting).canClock bus

/-- A controller stops. -/
def State.canStop (s : State) (bus : Nat) : State :=
  (s.setCtl bus { s.ctl bus with st := 0, cur := none, queue := [], waiting := [], clkRc := false, rcRestricted := false }).setUnit (canUnit bus) stStopped

/-- A controller that leaves its transceiver in standby (R431, R439, R480): STOPPED or OFF, or waiting for its turn to start. -/
def State.canQuiet (s : State) (bus : Nat) : Bool :=
  let st := s.ownState (canUnit bus)
  st == stStopped || st == stOff || (st == stStarting && (s.ctl bus).st == 0)

/-- CAN_STB (R431, R480): high while the control domain does not run, and while no controller has started. -/
def State.canStb (s : State) : Bool := !s.powered || (s.canQuiet 0 && s.canQuiet 1)

/-- The high-priority status word (R429). -/
def CanCtl.hpStatus (x : CanCtl) : Nat := 256 * x.hpCount + 2 * b2n x.hpOver + b2n x.hpNew

end Sys2Proof.Machine
end

