-- ==== Sys2Proof/Machine/Bellwether.lean ====
section
/-! DEFINITION. The Bellwether, the CAN time master (R432 to R438). Reference instants are peripheral clocks since reset, which differ from the
extended T7 count by a constant (log entry 9). -/

namespace Sys2Proof.Machine

open Sys2Proof

/-- A configuration object of the Bellwether, from the snapshot in force (R22). -/
def State.bellObj (s : State) (sub : Nat) : Nat := s.conf 0x4301 0x4301 sub

/-- The bus of the network time. -/
def State.bellBus (s : State) : Nat := s.bellObj 0x02

/-- The reference period in ns. -/
def State.bellPeriod (s : State) : Nat := s.bellObj 0x04 * msNs

/-- The peripheral clock at a time. -/
def clkAt (t : Nat) : Nat := t * 48 / 625

/-- NT_VALID where the validity has changed (R436, R443). -/
def State.bellValid (s : State) (v : Bool) : State :=
  { s with bell := { s.bell with valid := v } }.emitIf (v != s.bell.valid) 0x30 0x4301 (b2n v + 2 * b2n (v && s.bell.utc))

/-- NT_STEP with the step in us, reported in ms (R434, R435, R443). -/
def State.bellStep (s : State) (us : Int) : State :=
  { s with bell := { s.bell with steps := satAdd 32 s.bell.steps 1 } }.emit 0x30 0x4302 (twos 32 (clampI 32 (us.tdiv 1000)))

/-- Whether the Bellwether's identifiers are consistent (R442). -/
def State.bellConsistent (s : State) : Bool :=
  let r := s.obj 0x4301 0x03
  let inBdp := fun b => decide (b ≤ r) && decide (r < b + 16)
  r != s.obj 0x2A10 0x01 && r != s.obj 0x2A21 0x01 && r != s.obj 0x2A22 0x02 && !inBdp (s.obj 0x1101 0x02) && !inBdp (s.obj 0x1101 0x03)

/-- The Bellwether takes its snapshot (R22, R23, R442). -/
def State.bellTakeConf (s : State) : State := s.snapshot 0x4301 0x4301 0x4301 s.bellConsistent 0x30 0x4306 (256 * 0x4301 + 3)

/-- The Bellwether starts (R432, R437, R439): T7 runs and it listens, or is OFF by its role. -/
def State.bellStart (s : State) : State :=
  let s1 := s.bellTakeConf
  let off := s1.bellObj 0x01 == 0
  { (s1.setTimer 7 (Timer.free s.pclk)) with bell := { st := if off then 0 else if s.sup.rc then 4 else 1, refAt := s.now, slaveOnly := s.bell.slaveOnly } }.setUnit 0x30 stRunning

/-- The Bellwether listens as a slave without a network time (R436, R437). -/
def State.bellListen (s : State) : State :=
  let s1 := s.bellValid false
  { s1 with bell := { s1.bell with
    st := if s.sup.rc then 4 else 1, outstanding := false, first := true, inst := none, pair := none, lastPair := none, rate := none, refAt := s.now } }

/-- The snapshot after a write to the Bellwether's objects (R22, R442): its units of work are single references, so the next one uses the new
values. A change of the bus, or of the role, begins again. -/
def State.bellReconf (s : State) : State :=
  if !s.serving 0x30 then s
  else
    let s1 := s.bellTakeConf
    let was := s.bellObj 0x01
    let role := s1.bellObj 0x01
    if role = 0 then
      let s2 := s1.bellValid false
      { s2 with bell := { s2.bell with st := 0, outstanding := false, inst := none, pair := none, lastPair := none, rate := none } }
    else if was = 0 || s1.bellBus != s.bellBus || (s1.bell.st == 3 && role != 2) then s1.bellListen
    else s1

/-- The capture of a reference instant by every timer that takes source 0x03 (R383), T7 among them, which the Bellwether reads (R432). -/
def State.bellCapture (s : State) (clk : Nat) : State :=
  (List.range 8).foldl (fun (t : State) n => if t.obj (0x4510 + n) 0x06 = 3 then t.captureAt n clk else t) ((s.captureAt 7 clk).captureRead 7)

/-- The crystal fails (R438). -/
def State.bellClockLost (s : State) : State :=
  if s.ownState 0x30 = stRunning && s.bell.st != 0 then
    let s1 := s.bellValid false
    { s1 with bell := { s1.bell with st := 4, inst := none, pair := none, lastPair := none, rate := none } }
  else s

/-- The reference frame of the master (R433). -/
def State.refFrame (s : State) (seq : Nat) (first : Bool) (m : Nat) : CanFrame :=
  let fl := 128 * b2n (s.timeSource == 1) + 64 * b2n first + s.bellObj 0x05 % 16
  { id := s.bellObj 0x03, dlc := 8, data := [byte (64 + seq), byte fl] ++ leBytes 6 (if first then 0 else m % 2 ^ 48) }

/-- The EPOCH frame of the master (R433). -/
def State.epochFrame (s : State) (seq nt : Nat) : CanFrame :=
  { id := s.bellObj 0x03, dlc := 8,
    data := [byte (128 + seq), byte (128 * b2n (s.timeSource == 1) + s.bellObj 0x05 % 16)] ++ leBytes 2 (nt / 2 ^ 48) ++ [0, 0, 0, 0] }

/-- The master's network time follows GNSS UTC (R434): by at most 100 ppm, or by a step beyond 1 s. -/
def State.bellSlew (s : State) : State :=
  if s.timeSource != 1 then s
  else
    let clk := s.pclk
    let nt := s.netAt clk
    let diff : Int := (s.utcMs * 1000 : Nat) - (nt : Int)
    if 1000000 < diff.natAbs then
      ({ s with bell := { s.bell with mBase := (clk, s.utcMs * 1000) } }).bellStep diff
    else
      let most : Int := ((clk - s.bell.mBase.1) * 5 / 384 / 10000 : Nat)
      let adj := max (-most) (min diff most)
      { s with bell := { s.bell with mBase := (clk, ((nt : Int) + adj).toNat) } }

/-- REF (R434): the active master requests a reference frame every period; one not sent within a period is dropped and the next carries
FIRST. -/
def State.bellRef (s : State) : State :=
  if !(s.bell.st == 3 && decide (s.bell.sentAt + s.bellPeriod ≤ s.now) && s.serving 0x30) then s
  else
    let bus := s.bellBus
    let s0 := s.bellSlew
    let x := s0.ctl bus
    let x' := if s.bell.outstanding then { x with queue := dropFirst x.deviceBusy (fun g => g.cls == .bellwether && !g.epoch) x.queue } else x
    let s1 := s0.setCtl bus x'
    let first := s1.bell.first || s1.bell.outstanding || s1.bell.inst.isNone
    let seq := (s1.bell.seq + 1) % 64
    let m := match s1.bell.inst with
      | some l => s.netAt l
      | none => 0
    if s1.canSends bus then
      let s2 := s1.canQueue bus { cls := .bellwether, fr := s1.refFrame seq first m }
      { s2 with bell := { s2.bell with seq := seq, outstanding := true, first := first, sentAt := s.now, utc := s.timeSource == 1 } }
    else { s1 with bell := { s1.bell with first := true, outstanding := false, inst := none, sentAt := s.now } }

/-- A Bellwether frame of the device has been sent (R432, R434): a REF's instant, and an EPOCH after every tenth REF. -/
def State.bellSent (s : State) (epoch : Bool) (start : Nat) : State :=
  let s0 := s.bellCapture (clkAt start)
  if epoch then s0
  else
    let n := s.bell.sinceEpoch + 1
    let s1 := { s0 with bell := { s.bell with inst := some (clkAt start), instSeq := s.bell.seq, outstanding := false, first := false, sinceEpoch := if 10 ≤ n then 0 else n } }
    if 10 ≤ n then s1.canQueue s1.bellBus { cls := .bellwether, fr := s1.epochFrame s1.bell.seq (s1.netAt s1.pclk), epoch := true } else s1

/-- An active master gives up the role (R437): it listens, and has no network time until it tracks the other master (R436). -/
def State.bellYield (s : State) (other : Nat) : State := (s.bellListen).emit 0x30 0x4304 other

/-- A rate within 200 ppm of the crystal's (R435). -/
def rateOk (dm dl : Nat) : Bool :=
  decide (((dm * 384 : Nat) - (dl * 5 : Nat) : Int).natAbs * 1000000 ≤ 200 * (dl * 5))

/-- A new pair of a slave (R435, R436). -/
def State.bellPair (s : State) (l m : Nat) : State :=
  let b := s.bell
  match b.lastPair with
  | none => { s with bell := { b with pair := some (l, m), lastPair := some (l, m) } }
  | some (l0, m0) =>
    if !rateOk (m - m0) (l - l0) || decide (l ≤ l0) then
      { s with bell := { b with rejected := satAdd 32 b.rejected 1, lastPair := some (l, m) } }
    else
      let pred := s.netAt l
      let far := b.rate.isSome && decide (1000 < ((m : Int) - pred).natAbs)
      let floor := if far || !b.valid then 0 else s.netAt s.pclk
      let b1 := { b with pair := some (l, m), lastPair := some (l, m), rate := some (m - m0, l - l0), floor := floor }
      let s1 := { s with bell := { b1 with st := if b.high.isSome then 2 else b.st } }
      let s2 := if far then s1.bellStep ((m : Int) - pred) else s1
      if b.high.isSome then s2.bellValid true else s2

/-- A reference frame of another node (R435, R437). drawn is the random fraction, of 65,536, of the extra delay after a conflict. -/
def State.bellRefRx (s : State) (f : CanFrame) (drawn : Nat) : State :=
  let b0 := (f.data.getD 0 0).toNat
  let b1 := (f.data.getD 1 0).toNat
  let seq := b0 % 64
  let prio := b1 % 16
  let m48 := leNat (slice 2 6 f.data)
  let own := s.bellObj 0x05
  let s0 := s.bellCapture s.pclk
  let s1 := { s0 with bell := { s.bell with seen := prio, refs := satAdd 32 s.bell.refs 1, refAt := s.now } }
  if s1.bell.st = 3 then
    if prio < own then s1.bellYield prio
    else if prio = own then
      let s2 := (s1.bellYield prio).emit 0x30 0x4305 prio
      { s2 with bell := { s2.bell with extra := s.bellPeriod * drawn / 65536 } }.charge 0x1E 0x30 0x4305
    else s1
  else
    let b := s1.bell
    let high := match b.high, b.lastM with
      | some h, some p => if m48 + 2 ^ 47 < p then some ((h + 1) % 65536) else some h
      | h, _ => h
    let paired := b.inst.isSome && seq == (b.instSeq + 1) % 64 && !bit b1 6
    let s2 := { s1 with bell := { b with high := high, lastM := if bit b1 6 then none else some m48, utc := bit b1 7, inst := some s.pclk, instSeq := seq, seq := seq } }
    let s3 := match paired, b.inst with
      | true, some l => s2.bellPair l (m48 + 2 ^ 48 * high.getD 0)
      | _, _ => s2
    if s3.bell.valid && s3.bell.utc && s3.timeSource != 1 then { s3 with gnss := { s3.gnss with utc := some (s3.netTime / 1000, s.now) } } else s3

/-- Whether a received frame is a reference frame that the Bellwether takes (R425, R433). -/
def State.bellTakes (s : State) (f : CanFrame) (kind : Nat) : Bool :=
  (s.bell.st == 1 || s.bell.st == 2 || s.bell.st == 3) && s.serving 0x30 && s.canHears s.bellBus &&
  !f.ide && !f.fdf && !f.rtr && f.dlc == 8 && f.id == s.bellObj 0x03 && (f.data.getD 0 0).toNat / 64 == kind

/-- An EPOCH of the master (R433, R435, R436). -/
def State.bellEpochRx (s : State) (f : CanFrame) : State :=
  let h := leNat (slice 2 2 f.data)
  if s.bell.st = 3 then s
  else
    let lift := fun (q : Option (Nat × Nat)) => if s.bell.high.isSome then q else q.map (fun p => (p.1, p.2 % 2 ^ 48 + 2 ^ 48 * h))
    let b := { s.bell with high := some h, pair := lift s.bell.pair, lastPair := lift s.bell.lastPair }
    let s1 := { s.bellCapture s.pclk with bell := { b with st := if b.rate.isSome then 2 else b.st } }
    if b.rate.isSome then s1.bellValid true else s1

/-- MASTER_TAKEN (R434, R437): after (3 + priority) periods and any extra delay without a REF from another node. -/
def State.bellTake (s : State) : State :=
  let own := s.bellObj 0x05
  if s.bellObj 0x01 == 2 && !s.bell.slaveOnly && (s.bell.st == 1 || s.bell.st == 2) && s.serving 0x30 &&
      decide (s.bell.refAt + (3 + own) * s.bellPeriod + s.bell.extra ≤ s.now) then
    let start := if s.bell.valid then s.netTime else if s.timeSource = 1 || s.timeSource = 2 then s.utcMs * 1000 else 0
    let b := { s.bell with st := 3, mBase := (s.pclk, start), inst := none, first := true, outstanding := false, extra := 0, sinceEpoch := 0, utc := s.timeSource == 1, sentAt := 0 }
    ({ s with bell := b }.emit 0x30 0x4303 own).bellValid true
  else s

/-- REF_TIMEOUT (R436): a slave's network time is no longer valid. -/
def State.bellTimeout (s : State) : State :=
  if s.bell.st == 2 && decide (s.bell.refAt + s.bellObj 0x06 * s.bellPeriod < s.now) then
    let s1 := s.bellValid false
    { s1 with bell := { s1.bell with st := 1, inst := none, pair := none, lastPair := none, rate := none } }
  else s

/-- The master's rate against the local crystal in ppb (R442). -/
def State.bellRate (s : State) : Int :=
  match s.bell.rate with
  | some (dm, dl) => if dl = 0 then 0 else (((dm * 384 : Nat) - (dl * 5 : Nat) : Int) * 1000000000).tdiv (dl * 5 : Nat)
  | none => 0

end Sys2Proof.Machine
end

