-- ==== Sys2Proof/Machine/Rng.lean ====
section
/-! DEFINITION. The random number generator (R322 to R336): health tests, conditioning, channels and failure outcomes. -/

namespace Sys2Proof.Machine

open Sys2Proof

/-- Buffer size of a channel (R327). -/
def rngSize (ch : Nat) : Nat := if ch = 7 then 128 else if ch = 6 then 64 else 32

/-- A channel has stopped (R329, R331). -/
def State.rngStopped (s : State) (ch : Nat) : Bool := s.rng.fatal || (decide (ch < 6) && s.rng.standardStopped)

/-- The state code of a channel (R336). -/
def State.rngChState (s : State) (ch : Nat) : Nat :=
  if s.rngStopped ch then 2 else if s.rng.waits.any (fun w => w.ch == ch) then 1 else 0

/-- A test pattern is injected (R334). -/
def State.rngInjecting (s : State) : Bool := s.conf 0x3630 0x3630 0x01 != 0 && s.rr.lifecycle == lcFactory

/-- The generator runs (R15, R335): it serves, or starts up once the trust pair does (R32). -/
def State.rngRuns (s : State) : Bool := s.powered && (s.serving 0x0B || (s.ownState 0x0B == stStarting && s.serving 0x20))

/-- Bytes of a channel's buffer. -/
def State.rngBuf (s : State) (ch : Nat) : Bytes := nth [] s.rng.bufs ch

/-- A request for n bytes of a channel waits (R327): its buffer is short, or a pattern is injected (R334). -/
def State.rngWaits (s : State) (ch n : Nat) : Bool := s.rngInjecting || decide ((s.rngBuf ch).length < n)

/-- Takes n bytes from a channel (R324, R327); none where it has stopped or the request would wait. -/
def State.draw (s : State) (ch n : Nat) : Option (State × Bytes) :=
  let b := s.rngBuf ch
  if s.rngStopped ch || s.rngWaits ch n then none
  else
    let out := b.take n
    let m := if ch = 4 then (s.rng.mask ++ out).drop ((s.rng.mask ++ out).length - 32) else s.rng.mask
    some ({ s with rng := { s.rng with
      bufs := setAt s.rng.bufs ch (b.drop n),
      delivered := setAt s.rng.delivered ch (satAdd 32 (nth 0 s.rng.delivered ch) n),
      mask := m } }, out)

/-- Bits of a test pattern for one source, 128 bytes (R334, R336). -/
def patternBits (code : Nat) : Bytes :=
  List.replicate 128 (if code = 1 then 0x00 else if code = 2 then 0xFF else if code = 3 then 0xAA else 0xFE)

/-- The raw bits of the sources after any injection (R334). -/
def State.rngBits (s : State) (b : RawBlock) : List Bytes :=
  (List.range 4).map (fun n =>
    if s.rngInjecting && bit (s.conf 0x3630 0x3630 0x02) n then patternBits (s.conf 0x3630 0x3630 0x01) else padTo 128 (nth [] b.bits n))

/-- A bit string as bytes, first bit most significant. -/
def packBits (l : List Bool) : Bytes := (chunks (l.length + 1) 8 l).map (fun x => byte (natOfBits x))

/-- The raw bits of a block, interleaved S0 to S3 sample by sample (R323). -/
def interleave (l : List Bytes) : Bytes :=
  let bs := l.map bitsOf
  match bs with
  | [a, b, c, d] => packBits (((a.zip b).zip (c.zip d)).flatMap (fun q => [q.1.1, q.1.2, q.2.1, q.2.2]))
  | _ => []

/-- The repetition-count run over a bit string: the run, and whether it reached 41 (R325). -/
def repRun (start : Nat × Bool) (l : List Bool) : (Nat × Bool) × Bool :=
  l.foldl (fun a x =>
    let n := if a.1.1 ≠ 0 && a.1.2 == x then a.1.1 + 1 else 1
    ((n, x), a.2 || decide (41 ≤ n))) (start, false)

/-- Occurrences of the first bit in a source's block (R325). -/
def adaptiveCount (l : List Bool) : Nat := (l.filter (fun x => x == l.headD false)).length

/-- MHz of a source from its cycles over 213.3 us (R336). -/
def mhzOf (cycles : Nat) : Nat := cycles * 3 / 640

/-- The test that a source fails on a block, 0 none (R325). -/
def sourceTest (cycles same : Nat) (repFail : Bool) (adaptive : Nat) : Nat :=
  if decide (cycles * 3 < 200 * 640) || decide (600 * 640 < cycles * 3) then 1
  else if 16 ≤ same then 2
  else if repFail then 3
  else if 795 ≤ adaptive then 4
  else 0

/-- What the health tests find on a block: the first failing test with its source, the number of failing sources, and the runs carried on. -/
structure RngTest where
  /-- code of R325, 0 none -/
  code : Nat
  /-- source, 0xFF for the conditioner -/
  src : Nat
  /-- failing sources -/
  fails : Nat
  /-- repetition runs -/
  runs : List (Nat × Bool)
  /-- identical cycle counts -/
  same : List (Nat × Nat)

/-- Runs the health tests of R325 over a block. -/
def State.rngTest (s : State) (b : RawBlock) : RngTest :=
  let per := ((s.rngBits b).zipIdx).map (fun q =>
    let bits := bitsOf q.1
    let r := repRun (nth (0, false) s.rng.runs q.2) bits
    let cyc := nth 0 b.cycles q.2
    let old := nth (0, 0) s.rng.same q.2
    let same := if old.1 ≠ 0 && old.2 == cyc then (old.1 + 1, cyc) else (1, cyc)
    (q.2, sourceTest cyc same.1 r.2 (adaptiveCount bits), r.1, same))
  let bad := per.filter (fun q => q.2.1 != 0)
  let first := bad.head?
  { code := if !b.kat then 6 else match first with
      | some q => if s.rng.startBlock then 5 else q.2.1
      | none => 0,
    src := if !b.kat then 0xFF else (first.map (·.1)).getD 0xFF,
    fails := bad.length + b2n (!b.kat),
    runs := per.map (fun q => q.2.2.1),
    same := per.map (fun q => q.2.2.2) }

/-- The sources restart (R326). -/
def Rng.restartAll (r : Rng) (now : Nat) (after : Bool) : Rng :=
  { r with startBlock := true, restartAt := now, restarting := after, restarts := if after then satAdd 32 r.restarts 1 else r.restarts,
           runs := [(0, false), (0, false), (0, false), (0, false)], same := [(0, 0), (0, 0), (0, 0), (0, 0)] }

/-- The requests that wait on channels below n end with UNIT_UNAVAILABLE (R329, R331). -/
def State.rngFailWaits (s : State) (n : Nat) : State :=
  let gone := s.rng.waits.filter (fun w => decide (w.ch < n))
  let s1 := { s with rng := { s.rng with waits := s.rng.waits.filter (fun w => decide (n ≤ w.ch)) } }
  gone.foldl (fun t w => t.answer w.c w.key abUnavail [] true) s1

/-- A health failure (R329 to R331). -/
def State.rngFail (s : State) (code src : Nat) : State :=
  let times := s.rng.failTimes.filter (fun t => decide (s.now < t + 10 * secNs)) ++ [s.now]
  let r := { s.rng with failTimes := times, lastTest := code, lastSrc := src, failures := satAdd 32 s.rng.failures 1, discarded := satAdd 32 s.rng.discarded 1 }
  let s1 := { s with rng := r }.emit 0x0B 0x3601 (code + 256 * src + 65536 * times.length)
  let s2 :=
    if s.rng.standardStopped then s1
    else
      let n := (s1.rng.waits.filter (fun w => decide (w.ch < 6))).length
      let s1' := s1.rngFailWaits 6
      let bufs := List.replicate 6 [] ++ s1'.rng.bufs.drop 6
      ({ s1' with rng := { s1'.rng with standardStopped := true, bufs := bufs } }.emit 0x0B 0x3603 n).setUnit 0x0B stDegraded
  let s3 := s2.charge 0x18 0x0B 0x3601
  if 4 ≤ times.length then
    let n := s3.rng.waits.length
    let s4 := s3.rngFailWaits 8
    ({ s4 with rng := { s4.rng with fatal := true, st := 4, bufs := List.replicate 8 [] } }.emit 0x0B 0x3604 n).setUnit 0x0B stFailed
  else { s3 with rng := { (s3.rng.restartAll s.now true) with st := 2 } }

/-- Room of a channel: its buffer's and its waiting requests' (R327). -/
def State.rngRoom (s : State) (ch : Nat) : Nat :=
  if s.rngStopped ch then 0
  else
    let want := (s.rng.waits.filter (fun w => w.ch == ch)).foldl (fun a w => a + w.need) 0
    rngSize ch + want - (s.rngBuf ch).length

/-- The order in which channels are offered bytes (R327). -/
def offerOrder (turn : Nat) : List Nat := [7, 6] ++ (List.range 6).map (fun i => (turn + i) % 6)

/-- Offers bytes to the channels in order (R327). -/
def State.rngOffer (s : State) (bytes : Bytes) : State :=
  ((offerOrder s.rng.turn).foldl (fun (q : State × Bytes) ch =>
    let n := min (q.1.rngRoom ch) q.2.length
    ({ q.1 with rng := { q.1.rng with bufs := setAt q.1.rng.bufs ch (q.1.rngBuf ch ++ q.2.take n) } }, q.2.drop n)) (s, bytes)).1

/-- BLOCK_RELEASE but for the requests that it wakes: the block is tested, and released, discarded or counted under injection (R323 to R326,
R334). -/
def State.rngBlock (s : State) (b : RawBlock) : State :=
  if s.rng.fatal || !s.rngRuns then s
  else
    let t := s.rngTest b
    let raw := interleave (s.rngBits b)
    let r0 := { s.rng with runs := t.runs, same := t.same, raw := raw, freq := (List.range 4).map (fun n => mhzOf (nth 0 b.cycles n)) }
    if s.rngInjecting then
      { s with rng := { r0 with st := 5, testFails := satAdd 32 r0.testFails t.fails, testOut := sha256 raw } }
    else if t.code ≠ 0 then { s with rng := r0 }.rngFail t.code t.src
    else if s.rng.startBlock then { s with rng := { r0 with startBlock := false, discarded := satAdd 32 r0.discarded 1 } }
    else
      let st := if r0.standardStopped then 3 else 1
      let s1 := { s with rng := { r0 with released := satAdd 32 r0.released 1, st := st } }.rngOffer (sha256 raw)
      let s2 := { s1 with rng := { s1.rng with turn := (s1.rng.turn + 1) % 6 } }
      if s2.ownState 0x0B = stStarting then s2.setUnit 0x0B (if r0.standardStopped then stDegraded else stRunning) else s2

/-- RNG_RESTARTED (R326, R337): a restart after a failure has released its first block. -/
def State.rngRestarted (s : State) : State :=
  if s.rng.restarting && !s.rng.startBlock && (s.rng.st == 1 || s.rng.st == 3) then
    { s with rng := { s.rng with restarting := false } }.emit 0x0B 0x3602 (min ((s.now - s.rng.restartAt) / 1000) 65535)
  else s

/-- A read of the random bytes (R328, R334). -/
def State.randomRead (s : State) : State × Nat :=
  if s.rngStopped 0 then (s, abUnavail)
  else match s.draw 0 32 with
    | some (s1, b) => ({ s1 with rng := { s1.rng with read := b } }, abOk)
    | none => (s, abBusy)

/-- The sources start up (R326) at the start of the unit or at the end of an injection. -/
def State.rngStartUp (s : State) : State := { s with rng := { (s.rng.restartAll s.now false) with st := 0 } }

/-- A write of the test pattern or of its mask (R334, R336), with the snapshot for the next block (R22, R23). -/
def State.testPattern (s : State) (sub v : Nat) : State :=
  let s0 := if (kvGet? s.snaps 0x3630).isNone then s.snapshot 0x3630 0x3630 0x3630 true 0x0B 0x3605 0 else s
  let s1 := (s0.setObj 0x3630 sub v).touched 0x3630
  let s2 := s1.snapshot 0x3630 0x3630 0x3630 (s1.obj 0x3630 0x01 == 0 || s1.obj 0x3630 0x02 != 0) 0x0B 0x3605 (256 * 0x3630 + 1)
  if s.rngInjecting && !s2.rngInjecting then s2.rngStartUp else s2

end Sys2Proof.Machine
end

