-- ==== Sys2Proof/Machine/KeyBase.lean ====
section
/-! DEFINITION. The 64 key slots (R289 to R292, R300): their fixed uses, what a slot reads as, and the jobs that use a slot's key. -/

namespace Sys2Proof.Machine

open Sys2Proof

/-- The writers of a slot as a role mask (R289): bit 0 H, bit 1 W, bit 2 E, bit 3 F. -/
def slotWriters (n : Nat) : Nat :=
  if n ≤ 2 ∨ n = 12 ∨ (16 ≤ n ∧ n ≤ 31) then 10
  else if (32 ≤ n ∧ n ≤ 47) ∨ (56 ≤ n ∧ n ≤ 63) then 11
  else 0

/-- The type, usage and persistence of a slot with an assigned use (R289). Slot 2 carries KDF only (R391). -/
def slotFixed (n : Nat) : Option (Nat × Nat) :=
  if n = 0 then some (3, 0x60)
  else if n = 1 then some (1, 0x1C)
  else if n = 2 then some (1, 0x10)
  else if n = 3 then some (3, 0x13)
  else if n = 8 ∨ n = 10 then some (3, 0x10)
  else if n = 9 ∨ n = 11 then some (1, 0x1C)
  else if n = 12 then some (1, 0x04)
  else if n = 48 ∨ n = 49 then some (0x10, 0x80)
  else none

/-- Key bytes of a type (R290); none for a code that is no type of a key. -/
def keyBytes (ty : Nat) : Option Nat :=
  if ty = 1 then some 16 else if ty = 2 then some 24 else if ty = 3 then some 32
  else if ty = 0x10 ∨ ty = 0x12 then some 32 else if ty = 0x11 ∨ ty = 0x13 then some 48
  else if ty = 0x14 ∨ ty = 0x15 then some 32 else none

/-- Whether a type suits a slot (R290): symmetric below 48, EC from 48 on, the assigned type in a slot with an assigned use. -/
def typeSuits (n ty : Nat) : Bool :=
  match slotFixed n with
  | some f => ty == f.1
  | none => if n < 48 then ty == 1 || ty == 2 || ty == 3 else decide (0x10 ≤ ty) && decide (ty ≤ 0x15)

/-- Whether a type may carry a usage (R291). -/
def usageOk (ty u : Nat) : Bool :=
  if ty ≤ 3 then u &&& 0x7F == u
  else if ty = 0x14 then u &&& 0x80 == u
  else if ty = 0x15 then u &&& 0x100 == u
  else u &&& 0x180 == u

/-- The largest generation (R292). -/
def genMax : Nat := 2 ^ 32 - 1

/-- The backing record of a slot (R292). -/
def State.backing (s : State) (n : Nat) : Slot := kvGet {} s.rr.slots n

/-- Zeroizes of a slot whose backing erase has not committed (R300). -/
def State.marksOf (s : State) (n : Nat) : Nat := (s.aon.marks.filter (· == n)).length

/-- A slot as it reads (R289 to R300): EMPTY under a zeroize mark; a volatile key from its register, with the generation of its record. -/
def State.slot (s : State) (n : Nat) : Slot :=
  let b := s.backing n
  let g := min genMax (b.gen + s.marksOf n)
  if s.marksOf n ≠ 0 then { gen := g }
  else if b.pers then b
  else match kvGet? s.ks.vol n with
    | some v => { v with gen := b.gen }
    | none => { gen := b.gen }

/-- A slot that can never take a key again (R292). -/
def State.retired (s : State) (n : Nat) : Bool := decide (genMax ≤ (s.slot n).gen)

/-- A job has started on a slot (R318) and, run by the device for itself, has ended (R319). -/
def State.ran (s : State) (n : Nat) : State :=
  { s with
    ks := { s.ks with uses := kvPut s.ks.uses n (satAdd 32 (kvGet 0 s.ks.uses n) 1) },
    cipher := { s.cipher with completed := satAdd 32 s.cipher.completed 1 } }

/-- Whether MACs, KDFs and key streams can be computed for the device's own purposes (R317): the cipher engine serves. -/
def State.cipherOk (s : State) : Bool := s.serving 0x09

/-- Whether signatures and their checks can be computed (R317). -/
def State.pkOk (s : State) : Bool := s.serving 0x0A

/-- Number of the record key of a slot in the key store backing area (R340). -/
def slotRecKey (n : Nat) : Nat := key 0x3710 n

/-- A backing record commits (R292, R296). -/
def State.putBacking (s : State) (n : Nat) (b : Slot) : State :=
  let s1 := s.recWrite 2 (slotRecKey n) 64
  { s1 with rr := { s1.rr with slots := kvPut s1.rr.slots n b } }

/-- A key enters a slot (R292, R296): its new generation commits with it, or alone for a volatile slot. -/
def State.putKey (s : State) (n : Nat) (x : Slot) : State :=
  let g := (s.slot n).gen + 1
  let y : Slot := { x with gen := g }
  let s1 := s.putBacking n (if x.pers then y else { gen := g, ty := x.ty })
  let s2 := { s1 with ks := { s1.ks with vol := if x.pers then kvDel s1.ks.vol n else kvPut s1.ks.vol n y } }
  s2.emit 0x0C 0x3701 (n + 256 * x.origin + 65536 * (g % 65536))

/-- A normal erase (R292, R298). -/
def State.eraseKey (s : State) (n : Nat) : State :=
  let s1 := s.putBacking n { gen := (s.slot n).gen + 1 }
  ({ s1 with ks := { s1.ks with vol := kvDel s1.ks.vol n } }).emit 0x0C 0x3702 (n + 256)

/-- The zeroize marks whose backing erase can commit (R300): with the fence down, all of them. -/
def State.applyMarks (s : State) : State :=
  if s.fenced || s.aon.marks.isEmpty then s
  else
    let t := s.aon.marks.eraseDups.foldl (fun (u : State) n =>
      u.putBacking n { gen := min genMax ((s.backing n).gen + s.marksOf n) }) s
    { t with aon := { t.aon with marks := [] } }

/-- The increases of the reset that can commit (R292): with the fence down, all of them. -/
def State.applyStale (s : State) : State :=
  if s.fenced || s.ks.stale.isEmpty then s
  else
    let t := s.ks.stale.foldl (fun (u : State) n =>
      u.putBacking n { gen := min genMax ((s.backing n).gen + 1) }) s
    { t with ks := { t.ks with stale := [] } }

/-- The slots that held a volatile key at the reset (R292). -/
def State.volatileSlots (s : State) : List Nat :=
  (s.rr.slots.filter (fun e => !e.2.pers && e.2.ty != 0)).map (·.1)

/-- A slot whose record fails its tag (R316): EMPTY, at its stored generation, with KEY_CORRUPT. -/
def State.keyCorrupt (s : State) (n : Nat) : State :=
  let b := s.backing n
  let s1 := { s with rr := { s.rr with slots := kvPut s.rr.slots n { gen := b.gen } },
                     ks := { s.ks with integrity := satAdd 32 s.ks.integrity 1 } }
  ((s1.stick 0x0C 4).emit 0x0C 0x3704 n).charge 0x17 0x0C 0x3704

/-- The key store starts (R316): marks, the generations of volatile slots, and the records whose tag fails. -/
def State.keyStart (s : State) (fails : List Nat) : State :=
  let s0 := { s with ks := { s.ks with stale := s.volatileSlots } }
  let s1 := (s0.applyMarks).applyStale
  (fails.foldl (fun u n => if (u.backing n).pers then u.keyCorrupt n else u) s1).setUnit 0x0C stRunning

/-- The key check of an AES slot (R318). -/
def Slot.check (x : Slot) : Bytes := if 1 ≤ x.ty ∧ x.ty ≤ 3 then (cmac x.key (List.replicate 16 0)).take 3 else [0, 0, 0]

/-- The public key of an EC slot (R318), empty for another. -/
def Slot.public (x : Slot) : Bytes := if 0x10 ≤ x.ty then publicOf x.ty x.key else []

end Sys2Proof.Machine
end

