-- ==== Sys2Proof/Machine/Credentials.lean ====
section
/-! DEFINITION. Certificates, anchors and the checks of credentials (R301 to R304). -/

namespace Sys2Proof.Machine

open Sys2Proof

/-- A certificate of R301. -/
structure Cert where
  /-- subject role -/
  role : Nat
  /-- subject algorithm -/
  alg : Nat
  /-- issuer algorithm -/
  issAlg : Nat
  /-- serial -/
  serial : Bytes
  /-- issuer key ID -/
  issuer : Bytes
  /-- not before -/
  nb : Nat
  /-- not after -/
  na : Nat
  /-- scope -/
  scope : Bytes
  /-- public key -/
  pub : Bytes
  /-- bytes that the issuer signs -/
  body : Bytes
  /-- signature -/
  sig : Bytes
  deriving DecidableEq, Repr

/-- Public-key length of an algorithm of R301. -/
def algPub (a : Nat) : Nat := if a = 1 then 65 else if a = 2 then 97 else 32

/-- Signature length of an algorithm of R301. -/
def algSig (a : Nat) : Nat := if a = 2 then 96 else 64

/-- The key type of R290 of an algorithm of R301. -/
def algType (a : Nat) : Nat := if a = 1 then 0x10 else if a = 2 then 0x11 else 0x14

/-- Parses the certificate at the head of a string; the rest follows. -/
def parseCert (b : Bytes) : Option (Cert × Bytes) :=
  let at_ := fun i => (b.getD i 0).toNat
  let n := beNat (slice 40 2 b)
  let m := beNat (slice (42 + n) 2 b)
  let roleOk := [0x02, 0x03, 0x04, 0x10, 0x20].contains (at_ 5)
  let algs := 1 ≤ at_ 6 && at_ 6 ≤ 3 && 1 ≤ at_ 7 && at_ 7 ≤ 3
  if b.take 4 == ascii "KVCR" && at_ 4 == 1 && roleOk && algs && n == algPub (at_ 6) && m == algSig (at_ 7)
      && decide (44 + n + m ≤ b.length) then
    some ({ role := at_ 5, alg := at_ 6, issAlg := at_ 7, serial := slice 8 8 b, issuer := slice 16 8 b,
            nb := beNat (slice 24 4 b), na := beNat (slice 28 4 b), scope := slice 32 8 b, pub := slice 42 n b,
            body := b.take (42 + n), sig := slice (44 + n) m b }, b.drop (44 + n + m))
  else none

/-- Parses a credential: one or two certificates and zero padding (R301), with the length that the certificates take. -/
def parseCredential (b : Bytes) : Option (List Cert × Nat) :=
  match parseCert b with
  | none => none
  | some (c, r) =>
    if r.take 4 == (List.replicate 4 (0 : Byte)).take r.length then
      (if r.all (· == 0) then some ([c], b.length - r.length) else none)
    else match parseCert r with
      | some (c', r') => if r'.all (· == 0) then some ([c, c'], b.length - r'.length) else none
      | none => none

/-- The key ID of a public key (R301). -/
def keyId (pub : Bytes) : Bytes := (sha256 pub).take 8

/-- An anchor entry, 0 to 7 (R302). -/
def State.anchor (s : State) (i : Nat) : Bytes := s.objBytes 108 0x3730 (i + 1)

/-- The role mask of an anchor. -/
def anchorMask (a : Bytes) : Nat := (a.getD 0 0).toNat

/-- The algorithm of an anchor. -/
def anchorAlg (a : Bytes) : Nat := (a.getD 1 0).toNat

/-- The public key of an anchor. -/
def anchorPub (a : Bytes) : Bytes := slice 10 (algPub (anchorAlg a)) a

/-- The anchor with a key ID whose mask holds a bit. -/
def State.findAnchor (s : State) (id : Bytes) (bitNo : Nat) : Option Bytes :=
  ((List.range 8).map s.anchor).find? (fun a => bit (anchorMask a) bitNo && slice 2 8 a == id)

/-- The bit of an anchor's mask that a subject role needs (R302, R303, R304). -/
def anchorBit (role : Nat) : Nat := if role = 2 then 0 else if role = 3 then 1 else if role = 4 then 2 else 3

/-- Checks 0x02 and 0x03 of R303: the failing one, or 0. -/
def State.chainCause (s : State) (role : Nat) (cs : List Cert) : Nat :=
  match cs with
  | [] => 1
  | leaf :: rest =>
    let ok := fun (c : Cert) (alg : Nat) (pub : Bytes) => c.issAlg == alg && verifyWith (algType alg) pub c.body false c.sig == some true
    match s.findAnchor leaf.issuer (anchorBit role) with
    | some a => if ok leaf (anchorAlg a) (anchorPub a) && rest.all (fun c =>
        match s.findAnchor c.issuer (anchorBit role) with
        | some x => ok c (anchorAlg x) (anchorPub x)
        | none => false) then 0 else 3
    | none =>
      match rest with
      | [] => 2
      | mid :: _ =>
        if mid.role != 0x20 || keyId mid.pub != leaf.issuer then 2
        else match s.findAnchor mid.issuer (anchorBit role) with
          | none => 2
          | some a => if ok leaf mid.alg mid.pub && ok mid (anchorAlg a) (anchorPub a) then 0 else 3

/-- The vehicle identifier (R18) as its 8 bytes. -/
def State.vehicleBytes (s : State) : Bytes := leBytes 8 s.rr.vehicleId

/-- The device serial (R18) as its 16 bytes. -/
def serialBytes : Bytes := padTo 16 Config.deviceSerial

/-- Whether a scope admits this vehicle (R303). -/
def State.scopeOk (s : State) (scope : Bytes) : Bool := scope == s.vehicleBytes || scope.all (· == 0)

/-- Whether a serial is denied (R303). -/
def State.denied (s : State) (serial : Bytes) : Bool :=
  (List.range 32).any (fun i =>
    let d := s.objBytes 8 0x3732 (i + 1)
    d.any (· != 0) && d == serial)

/-- Checks 0x01 to 0x06 of R303 on a credential for a role: the first cause that fails, or 0, with the leaf. -/
def State.credentialCause (s : State) (role : Nat) (cred : Bytes) : Nat × Option Cert :=
  match parseCredential cred with
  | none => (1, none)
  | some (cs, _) =>
    match cs with
    | [] => (1, none)
    | leaf :: _ =>
      let c := s.chainCause role cs
      let timed := s.timeSource == 1 || s.timeSource == 2
      let now := s.utcMs / 1000
      if leaf.role != role then (1, none)
      else if c ≠ 0 then (c, none)
      else if !s.scopeOk leaf.scope then (4, none)
      else if timed && !cs.all (fun x => decide (x.nb ≤ now) && decide (now ≤ x.na)) then (5, none)
      else if cs.any (fun x => s.denied x.serial) then (6, none)
      else (0, some leaf)

/-- The conditions of R304 on the certificate of the summary signing key. -/
def State.summaryCertOk (s : State) (b : Bytes) : Bool :=
  match parseCredential b with
  | none => false
  | some (cs, _) =>
    match cs with
    | [] => false
    | leaf :: _ =>
      leaf.role == 0x10 && leaf.pub == (s.slot 48).public && leaf.scope == s.vehicleBytes && s.chainCause 0x10 cs == 0

/-- Length that a certificate object parses to (R318), 0 where it does not. -/
def certLength (b : Bytes) : Nat := ((parseCredential b).map (·.2)).getD 0

/-- ANCHOR_CHANGE (R302): the record's signature decides. -/
def State.anchorChange (s : State) (r : Bytes) : State × Nat :=
  if !s.pkOk then (s, abUnavail)
  else
    let e := (r.getD 0 0).toNat
    let entry := slice 1 108 r
    let a := s.anchor (r.getD 109 0).toNat
    let body := ascii "KV-ANCHR" ++ serialBytes ++ [r.getD 0 0] ++ entry
    let sig := slice 110 (algSig (anchorAlg a)) r
    let good := e < 8 && (r.getD 109 0).toNat < 8 && anchorMask entry < 32 && bit (anchorMask a) 4
      && 1 ≤ anchorAlg a && anchorAlg a ≤ 3 && verifyWith (algType (anchorAlg a)) (anchorPub a) body false sig == some true
    if good then ((s.commitObj 0x3730 (e + 1) (leNat entry)).emit 0x0C 0x3705 e, abOk)
    else (s, abAuthFail)

end Sys2Proof.Machine
end

