-- ==== Sys2Proof/Machine/Cipher.lean ====
section
/-! DEFINITION. The symmetric cipher engine (R305 to R309, R319): validation, start, end and revocation of host jobs. Jobs of the device's own
rings end inside the command that needs them (log entry 20). -/

namespace Sys2Proof.Machine

open Sys2Proof

/-- Result codes of R319. -/
def resOk : Nat := 0x00
/-- AUTH_FAIL. -/
def resAuthFail : Nat := 0x01
/-- KEY_REVOKED. -/
def resRevoked : Nat := 0x02
/-- KEY_EMPTY. -/
def resEmpty : Nat := 0x03
/-- KEY_USAGE. -/
def resUsage : Nat := 0x04
/-- LENGTH. -/
def resLength : Nat := 0x05
/-- PARAM. -/
def resParam : Nat := 0x06
/-- PAD_ERROR. -/
def resPad : Nat := 0x07
/-- COUNTER_WRAP. -/
def resWrap : Nat := 0x08
/-- INVALID_POINT. -/
def resPoint : Nat := 0x09
/-- SIGNATURE_INVALID. -/
def resSignature : Nat := 0x0A
/-- FAULT. -/
def resFault : Nat := 0x0C

/-- An access of a client to a host job interface with its holder (R309): none where another client holds it, which answers BUSY; else
the holder after the access. -/
def holdAccess (holder : Option Client) (last now : Nat) (c : Client) : Option (Option Client) :=
  match holder with
  | none => some (some c)
  | some h => if h = c || decide (last + 30 * secNs ≤ now) then some (some c) else none

/-- A write of a client to an object of the cipher engine's host interface (R309). -/
def State.cipherHold (s : State) (c : Client) : State × Nat :=
  match holdAccess s.cipher.holder s.cipher.last s.now c with
  | none => (s, abBusy)
  | some h => ({ s with cipher := { s.cipher with holder := h, last := s.now } }, abOk)

/-- The job that the host objects describe (R319). -/
def State.cipherJob (s : State) (c : Client) : CipherJob :=
  { c := c, role := s.role c, mode := s.obj 0x3410 1, dec := s.objB 0x3410 2, slot := s.obj 0x3410 3,
    iv := (s.objBytes 16 0x3410 4).take (s.obj 0x3410 5), tagLen := s.obj 0x3410 6, pad := s.objB 0x3410 7, ctrW := s.obj 0x3410 8,
    aad := (s.objBytes 256 0x3411 1).take (s.obj 0x3410 9), input := (s.objBytes 4096 0x3411 2).take (s.obj 0x3410 0x0A),
    tag := (s.objBytes 16 0x3411 3).take (s.obj 0x3410 6) }

/-- Validation at the submission (R306): the result of the first violation, or OK. -/
def CipherJob.check (j : CipherJob) : Nat :=
  let n := j.input.length
  let iv := j.iv.length
  let t := j.tagLen
  if j.mode = 1 then (if iv ≠ 0 || n % 16 ≠ 0 then resLength else resOk)
  else if j.mode = 2 then
    (if iv ≠ 16 then resParam
     else if !j.pad && n % 16 ≠ 0 then resLength
     else if j.pad && j.dec && (n % 16 ≠ 0 || n = 0) then resLength else resOk)
  else if j.mode = 3 then
    (if iv ≠ 16 || !(j.ctrW == 32 || j.ctrW == 64 || j.ctrW == 128) then resParam
     else if 2 ^ j.ctrW < beNat j.iv % 2 ^ j.ctrW + (n + 15) / 16 then resWrap else resOk)
  else if j.mode = 4 then
    (if iv ≠ 12 || !(t == 4 || t == 8 || (decide (12 ≤ t) && decide (t ≤ 16))) then resParam else resOk)
  else if j.mode = 5 then
    (if iv < 7 || 13 < iv || t < 4 || 16 < t || t % 2 ≠ 0 then resParam
     else if 2 ^ (8 * (15 - iv)) ≤ n then resLength else resOk)
  else if j.mode = 6 then (if t < 4 || 16 < t then resParam else resOk)
  else resParam

/-- The usage bit that a job needs (R291). -/
def CipherJob.usageBit (j : CipherJob) : Nat :=
  if j.mode = 6 then (if j.dec then 3 else 2) else if j.dec then 1 else 0

/-- PKCS#7 padding. -/
def pkcsPad (m : Bytes) : Bytes := let k := 16 - m.length % 16; m ++ List.replicate k (byte k)

/-- Strips PKCS#7 padding; none where it is malformed. -/
def pkcsStrip (m : Bytes) : Option Bytes :=
  let k := (m.getLastD 0).toNat
  if 1 ≤ k && k ≤ 16 && (m.drop (m.length - k)).all (· == byte k) && decide (k ≤ m.length) then some (m.take (m.length - k)) else none

/-- What a job that runs to its end gives: result, output, tag, flags (R306, R307). -/
def CipherJob.compute (j : CipherJob) (key : Bytes) : Nat × Bytes × Bytes × Nat :=
  let no : Bytes := []
  if j.mode = 1 then (resOk, if j.dec then ecbDec key j.input else ecbEnc key j.input, no, 0)
  else if j.mode = 2 then
    (if !j.dec then (resOk, cbcEnc key j.iv (if j.pad then pkcsPad j.input else j.input), no, 0)
     else
      let m := cbcDec key j.iv j.input
      if !j.pad then (resOk, m, no, 0)
      else match pkcsStrip m with
        | some x => (resOk, x, no, 0)
        | none => (resPad, m, no, 1))
  else if j.mode = 3 then (resOk, ctrMode j.ctrW key j.iv j.input, no, 0)
  else if j.mode = 4 then
    (if !j.dec then
      let r := gcmEnc key j.iv j.aad j.input
      (resOk, r.1, r.2.take j.tagLen, 0)
     else
      let m := gcmCrypt key j.iv j.input
      if (gcmTag key j.iv j.aad j.input).take j.tagLen = j.tag then (resOk, m, no, 0) else (resAuthFail, m, no, 1))
  else if j.mode = 5 then
    (if !j.dec then
      let r := ccmEnc key j.iv j.aad j.input j.tagLen
      (resOk, r.1, r.2.take j.tagLen, 0)
     else
      let m := ccmCrypt key j.iv j.input
      match ccmDec key j.iv j.aad j.input j.tag with
      | some _ => (resOk, m, no, 0)
      | none => (resAuthFail, m, no, 1))
  else
    let t := (cmac key j.input).take j.tagLen
    if !j.dec then (resOk, no, t, 0) else if t = j.tag then (resOk, no, no, 0) else (resAuthFail, no, no, 0)

/-- Time of a byte on a core in ns (R308): 1.6 Gbit/s is 5 ns a byte under AES-128, 6 under AES-192, 7 under AES-256; CCM twice that. -/
def byteNs (mode keyLen : Nat) : Nat :=
  (if keyLen = 16 then 5 else if keyLen = 24 then 6 else 7) * (if mode = 5 then 2 else 1)

/-- Time of a job on a core in ns, with the 500 ns of its start (R308). -/
def CoreJob.duration (j : CoreJob) : Nat := 500 + j.job.input.length * byteNs j.job.mode j.key.length

/-- Bytes of whole blocks processed when a job has run for a time (R299, R308). -/
def CoreJob.reached (j : CoreJob) (elapsed : Nat) : Nat :=
  min j.job.input.length ((elapsed - 500) / (16 * byteNs j.job.mode j.key.length) * 16)

/-- The host job ends without having run on a core (R306). -/
def State.cipherRefuse (s : State) (code : Nat) : State :=
  { s with cipher := { s.cipher with ring := none, st := 4, result := code, out := [], tagOut := List.replicate 16 0, flags := 0, gen := 0 } }.emit 0x09 0x3401 code

/-- A submission (R306, R309) from a row of mode m; the mode object decides what the write of 0x3412:01 submits. -/
def State.cipherSubmit (s : State) (c : Client) : State × Nat :=
  match holdAccess s.cipher.holder s.cipher.last s.now c with
  | none => (s, abBusy)
  | some h =>
    if s.ownState 0x09 == stStopped || s.cipher.st == 1 || s.cipher.st == 2 then (s, abBusy)
    else
      let s1 := { s with cipher := { s.cipher with holder := h, last := s.now } }
      let j := s1.cipherJob c
      if j.check ≠ resOk then (s1.cipherRefuse j.check, abOk)
      else ({ s1 with cipher := { s1.cipher with ring := some j, st := 1, result := 0, flags := 0 } }, abOk)

/-- A core that is free and not excluded. -/
def State.freeCore (s : State) : Option Nat :=
  (List.range 4).find? (fun n => (nth none s.cipher.cores n).isNone && !bit s.cipher.excluded n)

/-- JOB_START on the cipher engine (R297, R305): a free core takes the host job and captures its key and generation, or the job fails. -/
def State.cipherJobStart (s : State) : State :=
  match s.cipher.ring, s.freeCore with
  | some j, some n =>
    if !s.serving 0x09 then s
    else
      let k := s.slot j.slot
      if k.ty = 0 then s.cipherRefuse resEmpty
      else if 0x10 ≤ k.ty || !bit k.usage j.usageBit || !roleIn j.role (slotWriters j.slot) then s.cipherRefuse resUsage
      else
        let x : CoreJob := { job := j, key := k.key, gen := k.gen, start := s.now }
        { s with
          cipher := { s.cipher with ring := none, cores := setAt s.cipher.cores n (some x), st := 2, gen := k.gen },
          ks := { s.ks with uses := kvPut s.ks.uses j.slot (satAdd 32 (kvGet 0 s.ks.uses j.slot) 1) } }
  | _, _ => s

/-- The cipher engine's state by its cores (R316). -/
def State.cipherState (s : State) : State :=
  if s.ownState 0x09 == stOff || s.ownState 0x09 == stStopped then s
  else s.setUnit 0x09 (if s.cipher.excluded = 15 then stFailed else if s.cipher.excluded = 0 then stRunning else stDegraded)

/-- An engine fault on a core (R321, R460): three in 60 s exclude the core. -/
def State.coreFault (s : State) (n : Nat) : State :=
  let recent := (nth [] s.cipher.faults n).filter (fun t => decide (s.now < t + 60 * secNs)) ++ [s.now]
  let out := decide (3 ≤ recent.length)
  let s1 := { s with cipher := { s.cipher with
    faults := setAt s.cipher.faults n recent,
    excluded := if out then s.cipher.excluded ||| 2 ^ n else s.cipher.excluded } }
  ((s1.emit 0x09 0x3402 n).chargeWith 0x15 0x09 0x3402 out).cipherState

/-- JOB_DONE (R307, R321): the job of a core ends, once its time has passed, or by a fault of the core. -/
def State.cipherJobDone (s : State) (n : Nat) (fault : Bool) : State :=
  match nth none s.cipher.cores n with
  | none => s
  | some x =>
    if fault then
      (({ s with cipher := { s.cipher with
        cores := setAt s.cipher.cores n none, st := 4, result := resFault, out := [], tagOut := List.replicate 16 0, flags := 0, gen := x.gen } }).coreFault n).emit 0x09 0x3401 resFault
    else if s.now < x.start + x.duration then s
    else
      let r := x.job.compute x.key
      let bad := r.1 == resAuthFail || r.1 == resPad
      { s with cipher := { s.cipher with
        cores := setAt s.cipher.cores n none, st := if r.1 = resOk then 3 else 4, result := r.1, out := r.2.1,
        tagOut := padTo 16 r.2.2.1, flags := r.2.2.2, gen := x.gen,
        completed := satAdd 32 s.cipher.completed 1,
        authFails := if bad then satAdd 32 s.cipher.authFails 1 else s.cipher.authFails } }.emit 0x09 0x3401 (r.1 + 256 * r.2.2.2)

/-- The running job of a core is revoked (R299): what it has written stays, flagged UNTRUSTED. -/
def State.cipherRevoke (s : State) (n : Nat) : State :=
  match nth none s.cipher.cores n with
  | none => s
  | some x =>
    let m := x.reached (s.now - x.start)
    let out := if x.job.mode = 6 then [] else ((x.job.compute x.key).2.1).take m
    { s with cipher := { s.cipher with
      cores := setAt s.cipher.cores n none, st := 4, result := resRevoked, out := out, tagOut := List.replicate 16 0,
      flags := 1, gen := x.gen, revoked := satAdd 32 s.cipher.revoked 1 } }.emit 0x09 0x3401 (resRevoked + 256)

/-- The cores that hold a key of a slot (R299). -/
def State.coresOn (s : State) (slot : Nat) : List Nat :=
  (List.range 4).filter (fun n => (nth none s.cipher.cores n).any (fun x => x.job.slot == slot))

/-- A read of the output by the holder releases the interface after DONE or ERROR (R309); any access of the holder keeps it. -/
def State.cipherRead (s : State) (c : Client) (out : Bool) : State :=
  if s.cipher.holder != some c then s
  else if out && (s.cipher.st == 3 || s.cipher.st == 4) then { s with cipher := { s.cipher with holder := none } }
  else { s with cipher := { s.cipher with last := s.now } }

/-- HOST_JOB_TIMEOUT on the cipher engine (R309). -/
def State.cipherTimeout (s : State) : State :=
  if s.cipher.holder.isSome && decide (s.cipher.last + 30 * secNs ≤ s.now) then { s with cipher := { s.cipher with holder := none } }
  else s

/-- The cipher engine starts (R316) with its cores' known-answer tests. -/
def State.cipherStart (s : State) (fails : List Nat) : State :=
  let bad := (fails.filter (· < 4)).eraseDups
  let s1 := { s with cipher := { s.cipher with excluded := bad.foldl (fun m n => m ||| 2 ^ n) 0 } }
  let s2 := bad.foldl (fun u n => (u.emit 0x09 0x3402 (n + 256)).chargeWith 0x15 0x09 0x3402 false) s1
  s2.setUnit 0x09 (if s2.cipher.excluded = 15 then stFailed else if s2.cipher.excluded = 0 then stRunning else stDegraded)

end Sys2Proof.Machine
end

