-- ==== Sys2Proof/Machine/Pk.lean ====
section
/-! DEFINITION. The public-key engine (R310 to R315, R320). A running job ends within the times of R315, at the command PK_JOB_DONE. -/

namespace Sys2Proof.Machine

open Sys2Proof

/-- A write of a client to an object of the public-key engine's host interface (R309, R320). -/
def State.pkHold (s : State) (c : Client) : State × Nat :=
  match holdAccess s.pk.holder s.pk.last s.now c with
  | none => (s, abBusy)
  | some h => ({ s with pk := { s.pk with holder := h, last := s.now } }, abOk)

/-- The job that the host objects describe (R320). -/
def State.pkJob (s : State) (c : Client) : PkJob :=
  { c := c, role := s.role c, op := s.obj 0x3510 1, alg := s.obj 0x3510 2, hash := s.obj 0x3510 3, slot := s.obj 0x3510 4,
    digest := s.objB 0x3510 5, target := s.obj 0x3510 7, flags := s.obj 0x3510 8,
    msg := (s.objBytes 4096 0x3511 1).take (s.obj 0x3510 6), peer := s.objBytes 97 0x3511 2, sig := s.objBytes 96 0x3511 3 }

/-- Digest length that R310 pairs with a type; none for Ed25519, which takes messages only. -/
def digestLen (ty : Nat) : Option Nat :=
  if ty = 0x10 ∨ ty = 0x12 then some 32 else if ty = 0x11 ∨ ty = 0x13 then some 48 else none

/-- Whether a supplied digest suits a type (R310). -/
def digestOk (ty : Nat) (digest : Bool) (len : Nat) : Bool := !digest || digestLen ty == some len

/-- The host job ends with a result (R320, R321). -/
def State.pkEnd (s : State) (code gen : Nat) (sig dig : Bytes) : State :=
  { s with pk := { s.pk with
    ring := none, run := none, st := if code = resOk then 3 else 4, result := code, gen := gen,
    sigOut := padTo 96 sig, digest := padTo 64 dig } }.emit 0x0A 0x3501 code

/-- A submission (R310, R314, R309). -/
def State.pkSubmit (s : State) (c : Client) : State × Nat :=
  match holdAccess s.pk.holder s.pk.last s.now c with
  | none => (s, abBusy)
  | some h =>
    if s.ownState 0x0A == stStopped || s.pk.st == 1 || s.pk.st == 2 then (s, abBusy)
    else
      let j := s.pkJob c
      ({ s with pk := { s.pk with holder := h, last := s.now, ring := some j, st := 1, result := 0 } }, abOk)

/-- What stops a job at its start (R291, R298, R310, R314): the result, or OK. -/
def State.pkStartCheck (s : State) (j : PkJob) : Nat :=
  let k := s.slot j.slot
  if j.op = 4 then (if !bit j.flags 1 && s.pk.hash.isNone then resParam else resOk)
  else if j.op = 2 then
    (if !(decide (0x10 ≤ j.alg) && decide (j.alg ≤ 0x14)) || !digestOk j.alg j.digest j.msg.length then resParam else resOk)
  else if k.ty = 0 then resEmpty
  else if k.ty < 0x10 || !roleIn j.role (slotWriters j.slot) then resUsage
  else if j.op = 1 then
    (if !bit k.usage 7 then resUsage else if !digestOk k.ty j.digest j.msg.length then resParam else resOk)
  else if !bit k.usage 8 || !roleIn j.role (slotWriters j.target) then resUsage
  else if !typeSuits j.target 3 then resParam
  else resOk

/-- JOB_START on the public-key engine (R297, R314). -/
def State.pkJobStart (s : State) : State :=
  match s.pk.ring with
  | none => s
  | some j =>
    if !s.pkOk || s.pk.run.isSome then s
    else
      let code := s.pkStartCheck j
      if code ≠ resOk then s.pkEnd code 0 [] []
      else
        let keyed := j.op == 1 || j.op == 3
        let k := s.slot j.slot
        let r : PkRun := { job := j, ty := if keyed then k.ty else j.alg, key := if keyed then k.key else [], gen := if keyed then k.gen else 0 }
        { s with
          pk := { s.pk with ring := none, run := some r, st := 2, gen := r.gen },
          ks := if keyed then { s.ks with uses := kvPut s.ks.uses j.slot (satAdd 32 (kvGet 0 s.ks.uses j.slot) 1) } else s.ks }

/-- The bytes of a VERIFY's signature by its algorithm (R311). -/
def sigLen (ty : Nat) : Nat := if ty = 0x11 ∨ ty = 0x13 then 96 else 64

/-- The bytes of a public key by its type (R311). -/
def pubLen (ty : Nat) : Nat := if ty = 0x11 ∨ ty = 0x13 then 97 else if ty = 0x10 ∨ ty = 0x12 then 65 else 32

/-- The shared secret's leading 32 bytes (R310); none for a point that R312 refuses. -/
def sharedKey (ty : Nat) (key peer : Bytes) : Option Bytes :=
  match curveOf ty with
  | some c =>
    match ecPoint c (peer.take (pubLen ty)) with
    | some q => (match ecdh c (beNat key) q with
      | some z => if z.all (· == 0) then none else some (z.take 32)
      | none => none)
    | none => none
  | none =>
    let z := x25519 key (peer.take 32)
    if z.all (· == 0) then none else some z

/-- A hash part (R314): the message so far, and the digest where LAST is set. -/
def State.hashPart (s : State) (j : PkJob) : State :=
  let m := (if bit j.flags 1 then [] else s.pk.hash.getD []) ++ j.msg
  let d := if j.hash = 1 then sha256 m else if j.hash = 2 then sha384 m else sha512 m
  let s1 := { s with pk := { s.pk with hash := if bit j.flags 0 then none else some m, completed := satAdd 32 s.pk.completed 1 } }
  s1.pkEnd resOk 0 [] (if bit j.flags 0 then d else [])

/-- The extra entropy of an ECDSA nonce (R313): none where channel 6 has too few bytes and has not stopped, so that the job waits. -/
def State.nonceExtra (s : State) (ty : Nat) : Option (State × Bytes) :=
  if (curveOf ty).isNone || s.rngStopped 6 then some (s, []) else s.draw 6 32

/-- An ECDH job writes its key (R310, R312): usage and persistence are open in the manual and are free values (log entry 4). -/
def State.ecdhWrite (s : State) (r : PkRun) : State :=
  match sharedKey r.ty r.key r.job.peer with
  | none => s.pkEnd resPoint r.gen [] []
  | some z =>
    let fixed := slotFixed r.job.target
    let u := match fixed with
      | some f => f.2
      | none => Config.ecdhUsage s.free
    let p := match fixed with
      | some _ => true
      | none => Config.ecdhPersistent s.free
    if s.retired r.job.target then s.pkEnd resParam r.gen [] []
    else
      let s1 := { s with free := s.free + 1, pk := { s.pk with completed := satAdd 32 s.pk.completed 1 } }
      (s1.putKey r.job.target { ty := 3, usage := u, pers := p, origin := 4, key := z }).pkEnd resOk r.gen [] []

/-- PK_JOB_DONE (R310 to R314). A fault injected into a signature is found by its check, and no signature leaves. -/
def State.pkJobDone (s : State) (fault : Bool) : State :=
  match s.pk.run with
  | none => s
  | some r =>
    let j := r.job
    let done := fun (t : State) => { t with pk := { t.pk with completed := satAdd 32 t.pk.completed 1 } }
    if j.op = 4 then s.hashPart j
    else if j.op = 2 then
      match verifyWith r.ty (j.peer.take (pubLen r.ty)) j.msg j.digest (j.sig.take (sigLen r.ty)) with
      | none => (done s).pkEnd resPoint 0 [] []
      | some ok => (done s).pkEnd (if ok then resOk else resSignature) 0 [] []
    else if j.op = 3 then (if s.fenced then s else s.ecdhWrite r)
    else
      match s.nonceExtra r.ty with
      | none => s
      | some q =>
        if fault then
          let t := { q.1 with pk := { q.1.pk with faults := satAdd 32 q.1.pk.faults 1 } }
          ((t.emit 0x0A 0x3502 j.slot).charge 0x16 0x0A 0x3502).pkEnd resFault r.gen [] []
        else (done q.1).pkEnd resOk r.gen (signWith r.ty r.key j.msg j.digest q.2) []

/-- The running job is revoked (R299). -/
def State.pkRevoke (s : State) (slot : Nat) : State × Nat :=
  match s.pk.run with
  | none => (s, 0)
  | some r =>
    if (r.job.op == 1 || r.job.op == 3) && r.job.slot == slot then (s.pkEnd resRevoked r.gen [] [], 1) else (s, 0)

/-- A read by the holder (R309, R320): of an output after DONE or ERROR it releases the interface. -/
def State.pkRead (s : State) (c : Client) (out : Bool) : State :=
  if s.pk.holder != some c then s
  else if out && (s.pk.st == 3 || s.pk.st == 4) then { s with pk := { s.pk with holder := none } }
  else { s with pk := { s.pk with last := s.now } }

/-- HOST_JOB_TIMEOUT on the public-key engine (R309). -/
def State.pkTimeout (s : State) : State :=
  if s.pk.holder.isSome && decide (s.pk.last + 30 * secNs ≤ s.now) then { s with pk := { s.pk with holder := none } } else s

/-- A signature of the device's own with a slot of its own (R260, R360), through the trust ring: none where the engine does not serve,
the slot is EMPTY, or channel 6 has too few bytes. -/
def State.ownSign (s : State) (slot : Nat) (m : Bytes) : Option (State × Bytes) :=
  let k := s.slot slot
  if !s.pkOk || s.trustLost || k.ty = 0 then none
  else match s.nonceExtra k.ty with
    | none => none
    | some q => some ({ q.1.ran slot with pk := { q.1.pk with completed := satAdd 32 q.1.pk.completed 1 }, cipher := q.1.cipher }, signWith k.ty k.key m false q.2)

/-- The public-key engine starts (R316). -/
def State.pkStart (s : State) (kat : Bool) : State := s.setUnit 0x0A (if kat then stRunning else stFailed)

end Sys2Proof.Machine
end

