-- ==== Sys2Proof/Machine/Journal.lean ====
section
/-! DEFINITION. The signed journal on external NAND (R355 to R376): pages, blocks, checkpoints, the search of the head and exports. -/

namespace Sys2Proof.Machine

open Sys2Proof

/-- Page data bytes (R375). -/
def State.nandPage (s : State) : Nat := s.obj 0x3A01 1

/-- Blocks per die. -/
def State.nandBlocks (s : State) : Nat := s.obj 0x3A01 2

/-- Blocks that the device uses, at most 8 GiB (R355). -/
def State.nandTotal (s : State) : Nat := min (s.nandBlocks * s.obj 0x3A01 3) (2 ^ 33 / (64 * s.nandPage))

/-- Body bytes of a page (R362). -/
def State.nandBody (s : State) : Nat := s.nandPage - 48

/-- die * 2^24 + row of page p of block number l, counted die by die. -/
def State.nandLoc (s : State) (l p : Nat) : Nat := l / s.nandBlocks * 2 ^ 24 + l % s.nandBlocks * 64 + p

/-- Block number of a location. -/
def State.nandLin (s : State) (loc : Nat) : Nat := loc / 2 ^ 24 * s.nandBlocks + loc % 2 ^ 24 / 64

/-- Entry of the bad-block table for a block number: die * 2^16 + block. -/
def State.badEntry (s : State) (l : Nat) : Nat := l / s.nandBlocks * 65536 + l % s.nandBlocks

/-- A block in the bad-block table (R367). -/
def State.isBad (s : State) (l : Nat) : Bool := s.rr.badBlocks.contains (s.badEntry l)

/-- The first good block from block number l on, round the end (R366); the first argument bounds the search. -/
def State.goodFrom (s : State) : Nat → Nat → Nat
  | 0, l => l
  | f + 1, l =>
    let l' := if s.nandTotal ≤ l then 0 else l
    if s.isBad l' then s.goodFrom f (l' + 1) else l'

/-- The next good block after l. -/
def State.nextBlock (s : State) (l : Nat) : Nat := s.goodFrom (s.rr.badBlocks.length + 2) (l + 1)

/-- The seal of a page programmed now (R361, R373). -/
def State.pageSeal (s : State) : Nat := if s.trustLost || !s.cipherOk then 2 else 1

/-- The journal page key (R362). -/
def State.pageKey (s : State) : Bytes := kdf (s.slot 3).key (ascii "KV-JSEAL") serialBytes 256

/-- The bytes of a page on the medium (R362). -/
def State.pageImage (s : State) (loc : Nat) (p : JPage) : Bytes :=
  let body := p.recs.flatMap recBytes
  let head := ascii "KVJP" ++ [1, byte p.sealed] ++ leBytes 2 body.length ++ leBytes 8 p.seq ++
    leBytes 4 (loc / 2 ^ 24 * 2 ^ 24 + loc % 2 ^ 24) ++ leBytes 8 ((p.recs.head?.map (·.num)).getD 0) ++ List.replicate 4 0
  let full := padTo s.nandBody body
  if p.sealed = 1 then
    let r := gcmEnc s.pageKey (leBytes 8 p.seq ++ [0, 0, 0, 0]) head full
    head ++ r.1 ++ r.2
  else head ++ full ++ leBytes 4 (crc32 (head ++ full)) ++ List.replicate 12 0

/-- Whether the page program is not yet blocked: the store serves on its medium and no operation runs (R342, R364). -/
def State.nandFree (s : State) : Bool :=
  s.powered && s.serving 0x0E && s.jr.ready && s.jr.op.isNone && !s.fenced && s.jr.st == 3

/-- The longest run of records at the head of the tail that fits a page, with its bytes. -/
def fitPage (cap : Nat) : List JRec → Nat → List JRec
  | [], _ => []
  | r :: l, used => if cap < used + r.raw.size then [] else r :: fitPage cap l (used + r.raw.size)

/-- A page sequence is taken (R363): at the end of a reserved block counter 3 moves on. -/
def State.takeSeq (s : State) : State :=
  let n := s.jr.pageSeq + 1
  let ctrs := if n % 65536 = 0 then bumpCounter s.rr.ctrs 3 1 else s.rr.ctrs
  { s with jr := { s.jr with pageSeq := n }, rr := { s.rr with ctrs := ctrs } }

/-- Largest record number in a block. -/
def State.blockLast (s : State) (l : Nat) : Option Nat :=
  s.medium.pages.foldl (fun a e =>
    if s.nandLin e.1 = l then e.2.recs.foldl (fun b r => some (max (b.getD 0) r.num)) a else a) none

/-- The erase of the head's block begins (R366): the oldest retained record passes the block's records first. -/
def State.eraseStart (s : State) : State :=
  let l := s.nandLin s.jr.head
  let go := fun (t : State) => { t with jr := { t.jr with op := some { kind := .erase, row := t.jr.head, start := t.now } } }
  match s.blockLast l with
  | none => go s
  | some n =>
    let s1 := s.recWrite 0 (key 0x3A02 2) 8
    let s2 := { s1 with rr := { s1.rr with oldest := n + 1, wraps := satAdd 32 s1.rr.wraps 1 } }
    go (s2.emit 0x0E 0x3A05 ((n + 1) % 2 ^ 32))

/-- The program of the head's page begins with the records of pageRecs. -/
def State.programStart (s : State) : State :=
  let s1 := s.takeSeq
  { s1 with jr := { s1.jr with op := some { kind := .program, row := s1.jr.head, start := s1.now } } }

/-- The next block is opened (R366): a head hint is recorded. -/
def State.openBlock (s : State) (l : Nat) : State :=
  let s1 := s.recWrite 0 (key 0x3A02 1) 8
  { s1 with jr := { s1.jr with head := s1.nandLoc l 0, erased := false }, rr := { s1.rr with headHint := s1.nandLoc l 0 } }

/-- The format has passed its last block (R368): the journal runs, from a GAP with cause 5 whose chain hash is zeros. -/
def State.formatEnd (s : State) : State :=
  let s1 := s.openBlock (s.goodFrom (s.rr.badBlocks.length + 2) 0)
  let s2 := s1.recWrite 0 (key 0x3A02 6) 8
  let last := s2.jr.next - 1
  let s3 := { s2 with
    medium := { s2.medium with pages := [], formatted := true },
    rr := { s2.rr with oldest := s2.jr.next },
    jr := { s2.jr with st := 3, op := none, last := none, pageRecs := [], programmed := 0, retryAt := none } }
  s3.record 0x0002 (leBytes 8 last ++ leBytes 4 0xFFFFFFFF ++ [5, 0, 0, 0] ++ leBytes 8 0)

/-- The format goes on with the first good block from l on, or ends (R368). -/
def State.formatNext (s : State) (l : Nat) : State :=
  let l' := s.goodFrom (s.rr.badBlocks.length + 2) l
  if s.nandTotal ≤ l ∨ l' < l then s.formatEnd
  else { s with jr := { s.jr with op := some { kind := .erase, row := s.nandLoc l' 0, start := s.now } } }

/-- The store starts what the tail asks for (R364, R366): a full page, or any page under a flush; a block is erased before its first page.
A format that the fence has held up goes on. -/
def State.journalPump (s : State) : State :=
  if s.jr.st == 2 && s.jr.op.isNone && !s.fenced then s.formatNext (s.nandLin s.jr.head)
  else if !s.nandFree then s
  else
    let take := fitPage s.nandBody s.jr.tail 0
    let full := take.length < s.jr.tail.length
    if s.jr.pageRecs.isEmpty && (s.jr.tail.isEmpty || !(full || s.jr.flushing)) then s
    else if s.jr.head % 64 = 0 && !s.jr.erased then s.eraseStart
    else if !s.jr.pageRecs.isEmpty then s.programStart
    else
      let rest := s.jr.tail.drop take.length
      let bytes := take.foldl (fun a r => a + r.raw.size) 0
      let j := { s.jr with
        pageRecs := take, tail := rest, tailBytes := s.jr.tailBytes - bytes,
        pageAt := ((rest.head?.map (fun r => r.raw.ms * msNs)).getD s.now),
        flushing := s.jr.flushing && !rest.isEmpty }
      { s with jr := j }.programStart

/-- The medium goes out of service (R357, R367): causes 1 timeout, 2 ID mismatch, 3 bad-block table full. -/
def State.mediumFault (s : State) (cause : Nat) : State :=
  let s1 := { s with jr := { s.jr with st := 4, op := none, retryAt := if cause = 3 then none else some (s.now + 10 * secNs) } }
  (s1.emit 0x0E 0x3A08 cause).chargeWith 0x1A 0x0E 0x3A08 true

/-- A block is retired (R367). -/
def State.retireBlock (s : State) (l : Nat) : State :=
  if 1024 ≤ s.rr.badBlocks.length then s.mediumFault 3
  else
    let s1 := s.recWrite 0 (key 0x3A02 6) 8
    let s2 := { s1 with rr := { s1.rr with badBlocks := s1.rr.badBlocks ++ [s1.badEntry l] }, jr := { s1.jr with op := none } }
    let e := s2.badEntry l
    let s3 := (s2.emit 0x0E 0x3A04 (e / 65536 * 2 ^ 24 + e % 65536)).charge 0x1A 0x0E 0x3A04
    s3.openBlock (s3.nextBlock l)

/-- A page is programmed: its records are on the medium, and the head moves on. -/
def State.programDone (s : State) (loc : Nat) : State :=
  let p : JPage := { seq := s.jr.pageSeq - 1, sealed := s.pageSeal, recs := s.jr.pageRecs }
  let newest := (s.jr.pageRecs.getLast?.map (·.num)).getD s.jr.programmed
  let s1 := { s with
    medium := { s.medium with pages := kvPut s.medium.pages loc p, formatted := true },
    jr := { s.jr with pageRecs := [], op := none, programmed := newest } }
  if loc % 64 = 63 then s1.openBlock (s1.nextBlock (s1.nandLin loc))
  else { s1 with jr := { s1.jr with head := loc + 1 } }

/-- An erase is done: the block holds no page. -/
def State.eraseDone (s : State) (loc : Nat) : State :=
  let l := s.nandLin loc
  { s with
    medium := { s.medium with pages := s.medium.pages.filter (fun e => s.nandLin e.1 != l) },
    jr := { s.jr with op := none, erased := true } }

/-- NAND_OPERATION_DONE (R356, R367): the status register ends the operation under way, unless its busy bit is set. -/
def State.nandDone (s : State) (status : Nat) : State :=
  match s.jr.op with
  | none => s
  | some o =>
    if bit status 0 then s
    else
      let l := s.nandLin o.row
      if s.jr.st = 2 then
        let s1 := if bit status 2 && s.rr.badBlocks.length < 1024 then
            { s with rr := { s.rr with badBlocks := s.rr.badBlocks ++ [s.badEntry l] } } else s.eraseDone o.row
        if s1.fenced then { s1 with jr := { s1.jr with op := none, head := s1.nandLoc (l + 1) 0 } } else s1.formatNext (l + 1)
      else match o.kind with
        | .erase => if bit status 2 then s.retireBlock l else s.eraseDone o.row
        | .program => if bit status 3 then s.retireBlock l else s.programDone o.row

/-- Time the device allows an operation (R357). -/
def nandLimit (k : NandKind) : Nat := match k with
  | .program => msNs
  | .erase => 10 * msNs

/-- NAND_TIMEOUT (R357): the operation is retried once after a RESET; a second timeout puts the medium out of service. -/
def State.nandTimeout (s : State) : State :=
  match s.jr.op with
  | none => s
  | some o =>
    if s.now < o.start + nandLimit o.kind then s
    else if o.retry then s.mediumFault 1
    else { s with jr := { s.jr with op := some { o with retry := true, start := s.now } } }

/-- Whether READ ID answers what `0x3A01:04` expects. -/
def State.idOk (s : State) (id : Bytes) : Bool :=
  let e := s.objBytes 2 0x3A01 4
  e.all (· == 0) || e == id.take 2

/-- The pages that the search of the head reads as programmed and good. -/
def State.goodPages (s : State) : List (Nat × JPage) := s.medium.pages.filter (fun e => !e.2.bad)

/-- Page sequence of page 0 of a block, where it is readable. -/
def State.block0 (s : State) (l : Nat) : Option Nat :=
  match kvGet? s.medium.pages (s.nandLoc l 0) with
  | some p => if p.bad then none else some p.seq
  | none => none

/-- Step 1 of R368: from the hint, the last block whose page sequence exceeds that of its predecessor. -/
def State.lastBlock (s : State) : Nat → Nat → Nat
  | 0, l => l
  | f + 1, l =>
    let n := s.nextBlock l
    match s.block0 l, s.block0 n with
    | some a, some b => if a < b then s.lastBlock f n else l
    | _, _ => l

/-- Step 2 of R368: the first page of a block that is BLANK, or that ends the search; 64 where all are good. -/
def State.firstOpen (s : State) (l : Nat) : Nat :=
  ((List.range 64).find? (fun p =>
    match kvGet? s.medium.pages (s.nandLoc l p) with
    | some q => q.bad
    | none => true)).getD 64

/-- The last intact record (R368). -/
def State.lastIntact (s : State) : Option JRec :=
  (s.goodPages.foldl (fun (a : Option JPage) e =>
    match a with
    | none => some e.2
    | some b => if b.seq < e.2.seq then some e.2 else a) none).bind (fun p => p.recs.getLast?)

/-- Steps 1 to 3 of R368: where the head is, and how many pages are discarded. -/
def State.findHead (s : State) : State × Nat :=
  let l := s.lastBlock s.nandTotal (s.nandLin s.rr.headHint)
  let p := s.firstOpen l
  let later := (s.medium.pages.filter (fun e => s.nandLin e.1 == l && decide (p ≤ e.1 % 64)))
  let n := later.length
  let pages := s.medium.pages.map (fun e => if s.nandLin e.1 == l && decide (p ≤ e.1 % 64) then (e.1, { e.2 with bad := true, recs := [] }) else e)
  let s1 := { s with medium := { s.medium with pages := pages } }
  if n = 0 && p < 64 then ({ s1 with jr := { s1.jr with head := s1.nandLoc l p, erased := p != 0 } }, 0)
  else ({ s1 with jr := { s1.jr with head := s1.nandLoc (s1.nextBlock l) 0, erased := false } }, n)

/-- Records that waited for the head enter the tail in order (R368). -/
def State.sealEarly (s : State) : State :=
  s.jr.early.foldl (fun t r => { t with jr := t.jr.seal1 t.now r }) { s with jr := { s.jr with early := [], tailBytes := s.jr.tail.foldl (fun a r => a + r.raw.size) 0 } }

/-- The search of the head with the GAP of step 4, on a medium of this format. -/
def State.mountJournal (s : State) : State :=
  let last : Option JRec := s.lastIntact
  let h := s.findHead
  let clean := last.any (fun r => r.raw.ty == 0x0003)
  let body := leBytes 8 ((last.map (fun r => r.num)).getD 0) ++ leBytes 4 (if clean then 0 else 0xFFFFFFFF) ++
    [1, byte (b2n clean + 2 * b2n (h.2 != 0))] ++ leBytes 2 (min h.2 65535) ++ leBytes 8 0
  let s1 : State := h.1
  let recs := s1.goodPages.flatMap (fun e => e.2.recs)
  let chk := recs.foldl (fun (b : Nat) (r : JRec) => if r.raw.ty = 1 then max b r.num else b) 0
  let open_ := (recs.filter (fun r => decide (chk < r.num))).map (fun (r : JRec) => r.num)
  let s2 := { s1 with jr := { s1.jr with
    st := 3, last := last, programmed := (last.map (fun (r : JRec) => r.num)).getD 0, lastChk := chk, discarded := satAdd 32 s1.jr.discarded h.2,
    uncovered := open_.head?.map (fun n => open_.foldl min n), uncoveredN := open_.length, uncoveredAt := s1.now } }
  let s3 := { s2 with jr := s2.jr.seal1 s2.now (s2.mkRaw 0x0002 body) }
  (s3.sealEarly).emitIf (h.2 != 0) 0x0E 0x3A02 (min h.2 65535)

/-- JOURNAL_READY (R363, R368): numbers start from the counters, the medium is identified and the head found. -/
def State.journalReady (s : State) (o : JournalObs) : State :=
  if s.jr.ready || !s.powered || !s.serving 0x0E then s
  else
    let v3 := s.counter 3
    let v4 := s.counter 4
    let s1 := (s.increment 3 1).increment 4 1
    let pages := s1.medium.pages.map (fun e => if o.unreadable.contains e.1 then (e.1, { e.2 with bad := true }) else e)
    let s2 := { s1 with
      medium := { s1.medium with id := o.id.take 2, pages := pages },
      jr := { s1.jr with ready := true, pageSeq := v3 * 65536, next := v4 * 65536, nandId := if o.present then o.id.take 2 else [0, 0] } }
    let s3 :=
      if !o.present then (s2.sealEarly).mediumFault 1
      else if !s2.idOk o.id then (s2.sealEarly).mediumFault 2
      else if !s2.medium.formatted then { s2.sealEarly with jr := { s2.sealEarly.jr with st := 1 } }
      else s2.mountJournal
    s3.emit 0x0E 0x3A01 s3.jr.st

/-- MEDIUM_RETRY (R357): every 10 s the device tries the medium again. -/
def State.mediumRetry (s : State) (id : Bytes) : State :=
  match s.jr.retryAt with
  | none => s
  | some t =>
    if s.now < t || s.jr.st ≠ 4 || !s.powered then s
    else if !s.idOk id then s.mediumFault 2
    else
      let s1 := { s with medium := { s.medium with id := id.take 2 }, jr := { s.jr with nandId := id.take 2, retryAt := none } }
      if !s1.medium.formatted then { s1 with jr := { s1.jr with st := 1 } }
      else
        let h := s1.findHead
        { h.1 with jr := { h.1.jr with st := 3, discarded := satAdd 32 h.1.jr.discarded h.2 } }.emitIf (h.2 != 0) 0x0E 0x3A02 (min h.2 65535)

/-- FLUSH_INTERVAL (R364): the flush interval has run since the first record of the page being filled. -/
def State.flushDue (s : State) : State :=
  if s.jr.ready && !s.jr.tail.isEmpty && decide (s.jr.pageAt + s.conf 0x3A03 0x3A03 1 * secNs ≤ s.now) then
    { s with jr := { s.jr with flushing := true } }
  else s

/-- A checkpoint can be written: records are not unsigned (R361) and the store takes records. -/
def State.mayCheckpoint (s : State) : Bool :=
  s.jr.ready && s.unsignedWhy == 0 && s.pkOk && decide (s.jr.tailBytes + 160 + 96 ≤ tailCap)

/-- The drops of a run become a GAP before the next record (R365). -/
def State.gapFirst (s : State) : State :=
  if s.jr.dropRun = 0 then s
  else
    let body := leBytes 8 (s.jr.next - 1) ++ leBytes 4 (min s.jr.dropRun 0xFFFFFFFF) ++ [2, 0, 0, 0] ++ leBytes 8 0
    { s with jr := { (s.jr.seal1 s.now (s.mkRaw 0x0002 body)) with dropRun := 0, dropSaid := s.jr.dropRun } }

/-- Writes a checkpoint (R360); unchanged where none can be signed. -/
def State.writeCheckpoint (s : State) : State :=
  if !s.mayCheckpoint then s
  else
    let s0 := s.gapFirst
    let first := s0.jr.uncovered.getD s0.jr.next
    let fields := leBytes 8 first ++ leBytes 4 s0.jr.uncoveredN ++ leBytes 4 (s0.slot 49).gen ++ leBytes 8 0
    let raw := s0.mkRaw 0x0001 (fields ++ List.replicate 64 0)
    let unsig : JRec := { raw := raw, num := s0.jr.next, chain := chainOver s0.jr.last }
    let msg := ascii "KVJCHKPT" ++ s0.vehicleBytes ++ serialBytes ++ (recBytes unsig).take 96
    match s0.ownSign 49 msg with
    | none => s
    | some q =>
      let s1 := q.1
      let j := s1.jr.seal1 s1.now { raw with body := fields ++ padTo 64 q.2 }
      let ctrs := if j.next / 65536 != s1.jr.next / 65536 then bumpCounter s1.rr.ctrs 4 1 else s1.rr.ctrs
      { s1 with jr := j, rr := { s1.rr with ctrs := ctrs } }.emit 0x0E 0x3A06 (j.lastChk % 2 ^ 32)

/-- CHECKPOINT by its two intervals (R360). -/
def State.checkpointDue (s : State) : State :=
  let due := decide (s.conf 0x3A03 0x3A03 2 ≤ s.jr.uncoveredN) || decide (s.jr.uncoveredAt + s.conf 0x3A03 0x3A03 3 * secNs ≤ s.now)
  if s.powered && s.jr.uncovered.isSome && due then s.writeCheckpoint else s

/-- A flush of the whole tail behind a checkpoint and a FLUSH_MARK, at entry to a parked mode (R364). -/
def State.parkFlush (s : State) : State :=
  let s1 := (s.writeCheckpoint).record 0x0003 []
  { s1 with jr := { s1.jr with flushing := true } }

/-- FORMAT (R368): factory markers name bad blocks, and the erase of every good block begins. -/
def State.format (s : State) (bad : List Nat) : State × Nat :=
  if s.jr.st = 2 || s.jr.op.isSome then (s, abBusy)
  else if !s.jr.ready || s.jr.st = 0 || s.jr.st = 4 then (s, abUnavail)
  else
    let s1 := { s with rr := { s.rr with badBlocks := bad.take 1024 }, jr := { s.jr with st := 2, pageRecs := [] } }
    (s1.formatNext 0, abOk)

/-- The records that the store holds, in order of their numbers: on the medium, in the page under way and in the tail. An unreadable page
appears as one GAP record with cause 6 and number 0 (R370). -/
def State.allRecords (s : State) : List JRec :=
  let pages := (s.medium.pages.filter (fun e => !e.2.recs.isEmpty)).foldl (fun (l : List (Nat × JPage)) e => kvPut l e.2.seq e.2) []
  let gap : JRec := { raw := s.mkRaw 0x0002 (leBytes 8 0 ++ leBytes 4 0xFFFFFFFF ++ [6, 0, 0, 0] ++ leBytes 8 0), num := 0, chain := List.replicate 32 0 }
  pages.flatMap (fun e => if e.2.bad then [gap] else e.2.recs) ++ s.jr.pageRecs ++ s.jr.tail

/-- PAD records that fill n bytes, n a multiple of 8 (R369); the first argument bounds their number. -/
def padRecords : Nat → Nat → Bytes
  | 0, _ => []
  | f + 1, n => if n = 0 then [] else
    let k := min n 1024
    leBytes 2 0xFFFF ++ leBytes 2 k ++ List.replicate (k - 4) 0 ++ padRecords f (n - k)

/-- The records that fit whole into a stream, with their bytes (R369). -/
def fitStream (len : Nat) : List JRec → Nat → List JRec
  | [], _ => []
  | r :: l, used => if len < used + r.raw.size then [] else r :: fitStream len l (used + r.raw.size)

/-- The bytes of an export stream (R369). -/
def streamBytes (len : Nat) (l : List JRec) : Bytes :=
  let b := (fitStream len l 0).flatMap recBytes
  b ++ padRecords 1025 (len - b.length)

/-- A stream is open (R72). -/
def State.streamOpen (s : State) : Bool := s.dict.stream.isSome

/-- REQUEST_EXPORT (R369, R370). -/
def State.requestExport (s : State) (c : Client) (start len : Nat) : State × Nat :=
  if len % 8 ≠ 0 || len < 8 || 1048576 < len || s.jr.next ≤ start then (s, abRange)
  else if s.streamOpen then (s, abBusy)
  else
    let s1 := s.writeCheckpoint
    let all := s1.allRecords.filter (fun r => decide (s1.rr.oldest ≤ r.num) || r.num == 0)
    let oldest := ((all.find? (fun r => r.num != 0)).map (·.num)).getD s1.rr.oldest
    let adjusted := start ≠ 0 && start < oldest
    let from_ := if start = 0 || adjusted then oldest else start
    let last := if s1.jr.lastChk ≠ s.jr.lastChk then s1.jr.lastChk else s1.jr.next - 1
    let recs := all.filter (fun r => decide (from_ ≤ r.num) && decide (r.num ≤ last) || r.num == 0)
    let data := streamBytes len recs
    let s2 := s1.record 0x0040 ([byte (s1.role c), 0, 0, 0, 0, 0, 0, 0] ++ leBytes 8 from_ ++ leBytes 8 last)
    let x := s2.ctx c
    let s3 := s2.setCtx { x with expLen := len, expFirst := from_, expLast := last, expState := if adjusted then 2 else 1 }
    ({ s3 with dict := { s3.dict with stream := some { c := c, data := data, last := s3.now } } }, abOk)

/-- Whether an export waits for random bytes of its checkpoint's signature (R313, R327). -/
def State.exportWaits (s : State) : Bool :=
  s.mayCheckpoint && (s.slot 49).ty != 0 && !s.rngStopped 6 && s.rngWaits 6 32

/-- The journal store starts after a stop (R365): a GAP with cause 4. -/
def State.journalRestart (s : State) : State :=
  let n := s.jr.dropRun
  let body := leBytes 8 (s.jr.next - 1) ++ leBytes 4 (min n 0xFFFFFFFF) ++ [4, 0, 0, 0] ++ leBytes 8 0
  { s with jr := { s.jr with dropRun := 0, dropSaid := if n = 0 then s.jr.dropSaid else n } }.record 0x0002 body

/-- The page program that a reset cuts (R354): after a loss of power the page is discarded at the next start; after another reset whether
it took is open (log entry 4). -/
def State.cutProgram (s : State) (power : Bool) : State :=
  match s.jr.op with
  | some o =>
    match o.kind with
    | .program =>
      let ok := !power && Config.tornRead s.free == 1
      let p : JPage := { seq := s.jr.pageSeq - 1, sealed := s.pageSeal, recs := if ok then s.jr.pageRecs else [], bad := !ok }
      { s with free := s.free + 1, medium := { s.medium with pages := kvPut s.medium.pages o.row p, formatted := true } }
    | .erase => s.eraseDone o.row
  | none => s

/-- The journal store's snapshot (R22, R23, R375), taken for the next record where its intervals have changed. -/
def State.journalConf (s : State) : State :=
  if !s.jr.ready || (kvGet? s.snaps 0x3A03).getD [] == s.snapRange 0x3A03 0x3A03 then s
  else s.snapshot 0x3A03 0x3A03 0x3A03 (decide (s.obj 0x3A03 1 ≤ s.obj 0x3A03 3)) 0x0E 0x3A09 (256 * 0x3A03 + 1)

/-- The events that the journal raises of its own state (R361, R365, R376). -/
def State.journalSays (s0 : State) : State :=
  let s := s0.journalConf
  let s1 := if s.jr.dropSaid ≠ 0 then { s with jr := { s.jr with dropSaid := 0 } }.emit 0x0E 0x3A03 (min s.jr.dropSaid 65535) else s
  if s1.unsignedWhy ≠ s1.jr.unsignedWhy then
    { s1 with jr := { s1.jr with unsignedWhy := s1.unsignedWhy } }.emitIf (s1.unsignedWhy != 0) 0x0E 0x3A07 s1.unsignedWhy
  else s1

end Sys2Proof.Machine
end

