-- ==== Sys2Proof/Machine/Dist.lean ====
section
/-! DEFINITION. The distance timebase, the motion-sensor link and the GNSS input (R387 to R402, R407). Lengths on the ground are in mm. -/

namespace Sys2Proof.Machine

open Sys2Proof

/-- A 32 kHz sample of a wake input (R98): two consecutive active samples count once the input is armed; two inactive ones re-arm it. -/
def WakeIn.sample (w : WakeIn) (active : Bool) : WakeIn × Bool :=
  if active then
    (if w.armed && w.prev then ({ prev := true, low := false, armed := false }, true) else ({ w with prev := true, low := false }, false))
  else ({ prev := false, low := true, armed := w.armed || w.low }, false)

/-- Several samples in a row, with the number of edges counted. -/
def WakeIn.run (w : WakeIn) : List Bool → WakeIn × Nat
  | [] => (w, 0)
  | x :: l =>
    let r := w.sample x
    let q := r.1.run l
    (q.1, q.2 + b2n r.2)

/-- The tamper flags take a bit (R402), in a record of their own. -/
def State.setTamper (s : State) (b : Nat) : State :=
  if bit s.rr.tamper b then s
  else
    let s1 := s.recWrite 0 (key 0x4803 1) 8
    { s1 with rr := { s1.rr with tamper := s1.rr.tamper ||| 2 ^ b } }

/-- MS_IMPLAUSIBLE (R402, R412): causes 1 PULSE_LINK, 2 MOTION_CONFLICT, 3 DISTANCE_RATIO, 4 SENSOR_TAMPER, 5 OVERRATE. -/
def State.msImplausible (s : State) (cause : Nat) : State := (s.emit 0x33 0x4804 cause).setTamper 4

/-- GNSS_IMPLAUSIBLE (R402, R412): causes 1 JUMP, 2 STATIC, 3 TIME_STEP, 4 PPS. -/
def State.gnssImplausible (s : State) (cause : Nat) : State :=
  let s1 := (s.emit 0x34 0x4806 cause).setTamper 5
  { s1 with gnss := { s1.gnss with implausibleAt := some s1.now } }

/-- Pulses enter the accumulator (R395): each adds 10, and each k taken out is 100 m on counter 0. A refused increment stops the odometer,
and the distance is frozen from then on (R351, R403). -/
def State.addPulses (s : State) (n : Nat) : State :=
  let k := s.coeff
  let a := s.aon.acc + 10 * n
  if k = 0 || n = 0 || (kvGet {} s.rr.ctrs 0).exhausted then s
  else if a / k = 0 then { s with aon := { s.aon with acc := a } }
  else if !s.counterTakes 0 (a / k) then s.counterRefuse 0
  else { s with aon := { s.aon with acc := a % k } }.increment 0 (a / k)

/-- A new coefficient takes effect at the next pulse (R396). -/
def State.newCoeff (s : State) : State :=
  let k := s.obj 0x4411 1
  if s.dist.coeff = k || s.dist.coeff = 0 then { s with dist := { s.dist with coeff := k } }
  else
    { s with
      aon := { s.aon with acc := s.aon.acc * k / s.dist.coeff },
      dist := { s.dist with coeff := k } }.emit 0x10 0x4408 k

/-- Edges of MS_PULSE in the ms before an instant (R387). -/
def edgesIn (l : List Nat) (at_ ms : Nat) : Nat := (l.filter (fun t => decide (at_ < t + ms * msNs) && decide (t ≤ at_))).length

/-- MS_PULSE (R387, R395): an edge counts. -/
def State.msPulse (s : State) : State :=
  if !(s.powered && s.serving 0x33) then s
  else
    let es := s.dist.edges.filter (fun t => decide (s.now < t + 1100 * msNs)) ++ [s.now]
    let past := decide (10000 < edgesIn es s.now 1000)
    let d := { s.dist with pulses := (s.dist.pulses + 1) % 2 ^ 32, edges := es, lastPulse := some s.now, overrate := past }
    let s1 : State := { s with dist := d }.newCoeff
    let s2 := if s1.dist.source = 0 then s1.addPulses 1 else s1
    (if past && !s.dist.overrate then s2.msImplausible 5 else s2).captureAll 1

/-- A condition of R401 begins or ends: its event is raised once, when it begins. -/
def State.condition (s : State) (b : Nat) (holds : Bool) (raise : State → State) : State :=
  if holds && !bit s.gnss.raised b then raise { s with gnss := { s.gnss with raised := s.gnss.raised ||| 2 ^ b } }
  else if !holds && bit s.gnss.raised b then { s with gnss := { s.gnss with raised := s.gnss.raised ^^^ 2 ^ b } }
  else s

/-- Since when a condition that needs an unbroken time holds. -/
def sinceWhen (old : Option Nat) (now : Nat) (holds : Bool) : Option Nat := if holds then some (old.getD now) else none

/-- Whether a condition has held for n seconds. -/
def heldFor (since : Option Nat) (now n : Nat) : Bool := since.any (fun t => decide (t + n * secNs ≤ now))

/-- MOTION_CONFLICT and STATIC (R401), with the speed threshold of `0x4883:01` and the 1 km/h of the table. -/
def State.motionChecks (s : State) : State :=
  let fast := s.obj 0x4883 1
  let conflict := s.gnss.valid && decide (fast ≤ s.gnss.speed) && decide (s.dist.speed ≤ 100)
  let static := s.gnss.valid && decide (fast ≤ s.dist.speed) && decide (s.gnss.speed ≤ 100)
  let c := sinceWhen s.gnss.conflictAt s.now conflict
  let t := sinceWhen s.gnss.staticAt s.now static
  let s1 := { s with gnss := { s.gnss with conflictAt := c, staticAt := t } }
  ((s1.condition 2 (heldFor c s.now 20) (fun u => u.msImplausible 2)).condition 9 (heldFor t s.now 60) (fun u => u.gnssImplausible 2))

/-- SPEED_UPDATE (R387), at a multiple of 100 ms of LOCAL. -/
def State.speedUpdate (s : State) : State :=
  if !(s.powered && s.serving 0x33) then s
  else
    let t := s.now / (100 * msNs) * (100 * msNs)
    let k := s.coeff
    let n := edgesIn s.dist.edges t 1000
    { s with dist := { s.dist with speed := min 65535 (divRound (n * 360000) k) } }.motionChecks

/-- An MS_DATA frame (R389): payload with its MAC where it has one. -/
def msFrame (ty : Nat) (payload : Bytes) : Bytes :=
  let body := byte (1 + payload.length) :: byte ty :: payload
  0x7E :: (body ++ beBytes 2 (crc16 body))

/-- The payload of a received MS_DATA frame of a type, with its MAC, where its form and CRC are right (R389). -/
def msPayload (ty n : Nat) (fr : Bytes) : Option Bytes :=
  let body := slice 1 (n + 2) fr
  if fr.length = n + 5 && fr.headD 0 == 0x7E && (fr.getD 1 0).toNat == n + 1 && (fr.getD 2 0).toNat == ty
      && beNat (fr.drop (n + 3)) == crc16 body then some (slice 3 n fr) else none

/-- A MAC of the link (R391). -/
def msMac (ks devNonce : Bytes) (ty : Nat) (payload : Bytes) : Bytes :=
  (cmac ks (ascii "KVMS" ++ [byte ty] ++ devNonce ++ payload)).take 8

/-- The paired serial (R394). -/
def State.pairedSerial (s : State) : Bytes := s.objBytes 8 0x4802 1

/-- The link changes state: MS_SESSION (R412). -/
def State.linkTo (s : State) (st : Nat) : State :=
  let s1 := { s with dist := { s.dist with link := st, authSince := if st = 2 then s.now else s.dist.authSince } }
  s1.emitIf (st != s.dist.link) 0x33 0x4801 st

/-- The source falls back to MS_PULSE from the last counted DATA_RESP onwards (R395). -/
def State.toPulses (s : State) : State :=
  if s.dist.source = 0 then s
  else
    let n := (s.dist.pulses + 2 ^ 32 - s.dist.prevLatched.getD s.dist.pulses) % 2 ^ 32
    { s with dist := { s.dist with source := 0, prevCount := none, prevLatched := none } }.addPulses n

/-- MS_PAIRING_FAULT (R392, R402). -/
def State.pairingFault (s : State) (cause : Nat) : State :=
  let s1 := { s.toPulses with dist := { s.toPulses.dist with pairingFault := true, key := none, opening := false, await := false } }
  let s2 := (s1.emit 0x33 0x4803 cause).setTamper 3
  if s2.dist.link = 2 then s2.linkTo 1 else s2

/-- Whether SESSION_REQ is due (R392): at the start of the unit, every 5 s while no session stands, and before the request number would pass
65,535. -/
def State.sessionDue (s : State) : Bool :=
  match s.dist.reqAt with
  | none => true
  | some t => if s.dist.link = 2 then decide (65535 ≤ s.dist.reqNo) else decide (t + 5 * secNs ≤ s.now)

/-- SESSION_REQ (R390, R392, R394). -/
def State.sessionReq (s : State) : State :=
  if !(s.powered && s.serving 0x33) || s.pairedSerial.all (· == 0) || !s.sessionDue then s
  else
    let s1 := s.toPulses
    let n := s1.dist.session + 1
    let nonce := beBytes 4 (s1.counter 1 % 2 ^ 32) ++ beBytes 4 (n % 2 ^ 32)
    let d := { s1.dist with
      session := n, devNonce := nonce, key := none, reqAt := some s1.now, opening := true, pairingFault := false, await := false,
      sessMacFails := 0, sent := msFrame 0x01 nonce }
    let s2 : State := { s1 with dist := d }
    if s2.dist.link = 3 then s2 else s2.linkTo 1

/-- A MAC failure on the link (R392): the third in a session is a pairing fault. -/
def State.msMacFail (s : State) : State :=
  let s1 := { s with dist := { s.dist with macFails := satAdd 32 s.dist.macFails 1, sessMacFails := s.dist.sessMacFails + 1 } }
  if s1.dist.sessMacFails = 3 then s1.pairingFault 2 else s1

/-- SESSION_RESP (R390 to R392). -/
def State.sessionResp (s : State) (fr : Bytes) : State :=
  if !(s.powered && s.serving 0x33) || !s.dist.opening || s.dist.pairingFault || s.trustLost || !s.cipherOk then s
  else match msPayload 0x81 24 fr with
    | none => s
    | some p =>
      let serial := p.take 8
      let nonce := slice 8 8 p
      if serial ≠ s.pairedSerial then s.pairingFault 1
      else
        let ks := kdf (s.slot 2).key (ascii "KV-MSLINK") (serial ++ s.dist.devNonce ++ nonce) 128
        let s1 := s.ran 2
        if msMac ks s.dist.devNonce 0x81 (p.take 16) ≠ p.drop 16 || (s.slot 2).ty = 0 then s1.msMacFail
        else
          let d := { s1.dist with key := some ks, opening := false, reqNo := 0, unanswered := 0, await := false, prevCount := none, prevLatched := none, dataAt := s1.now - s1.obj 0x4802 3 * msNs }
          { s1 with dist := d }.linkTo 2

/-- The link is LOST (R392, R460). -/
def State.msLost (s : State) : State :=
  let s1 := s.toPulses
  let s2 := { s1 with dist := { s1.dist with key := none, await := false } }.linkTo 3
  (s2.emit 0x33 0x4802 s2.dist.unanswered).charge 0x1B 0x33 0x4802

/-- DATA_REQ (R392): the command marks the end of the frame's stop bit, where the own count is latched. -/
def State.dataReq (s : State) : State :=
  if !(s.powered && s.serving 0x33) || s.dist.link ≠ 2 || s.now < s.dist.dataAt + s.obj 0x4802 3 * msNs then s
  else
    let s1 := if s.dist.await then { s with dist := { s.dist with unanswered := s.dist.unanswered + 1, await := false } } else s
    if 3 ≤ s1.dist.unanswered then s1.msLost
    else if 65535 ≤ s1.dist.reqNo then s1
    else
      let n := s1.dist.reqNo + 1
      { s1 with dist := { s1.dist with reqNo := n, dataAt := s1.now, await := true, latched := s1.dist.pulses, sent := msFrame 0x02 (beBytes 2 n) } }

/-- The running mismatch of R398, over the last 60 s. -/
def State.msMismatch (s : State) : Nat :=
  (s.dist.window.filter (fun e => decide (s.now < e.1 + 60 * secNs))).foldl (fun a e => a + e.2.2) 0

/-- The mismatch takes a DATA_RESP (R398). -/
def State.mismatch (s : State) (dLink : Nat) : State :=
  match s.dist.prevLatched with
  | none => s
  | some p =>
    let dOwn := (s.dist.latched + 2 ^ 32 - p) % 2 ^ 32
    let w := s.dist.window.filter (fun e => decide (s.now < e.1 + 60 * secNs)) ++ [(s.now, (dLink, (dLink - dOwn) + (dOwn - dLink)))]
    let mis : Nat := w.foldl (fun a e => a + e.2.2) 0
    let link : Nat := w.foldl (fun a e => a + e.2.1) 0
    let bad := decide (8 < mis) && decide (link < 500 * mis)
    let s1 := { s with dist := { s.dist with window := w, pulseLink := bad } }
    if bad && !s.dist.pulseLink then s1.msImplausible 1 else s1

/-- DATA_RESP (R392, R395, R398). -/
def State.dataResp (s : State) (fr : Bytes) : State :=
  if !(s.powered && s.serving 0x33) || !s.dist.await || s.trustLost || !s.cipherOk then s
  else match msPayload 0x82 15 fr, s.dist.key with
    | some p, some ks =>
      if beNat (p.take 2) ≠ s.dist.reqNo then s
      else if msMac ks s.dist.devNonce 0x82 (p.take 7) ≠ p.drop 7 then s.msMacFail
      else
        let count := beNat (slice 2 4 p)
        let st := (p.getD 6 0).toNat
        let s1 := match s.dist.prevCount with
          | some c =>
            let n := (count + 2 ^ 32 - c) % 2 ^ 32
            ((if n = 0 then s else s.newCoeff).addPulses n).mismatch n
          | none => s
        let fresh := (st &&& 0xC0) &&& (s.dist.status ^^^ 0xFF) != 0
        let s2 := { s1 with dist := { s1.dist with
          source := 1, prevCount := some count, prevLatched := some s1.dist.latched, await := false, unanswered := 0, status := st } }
        if fresh then s2.msImplausible 4 else s2
    | _, _ => s

/-- PARKED_PULSE (R397): 32 kHz samples while the control domain is gated or off. -/
def State.parkedPulse (s : State) (levels : List Bool) : State :=
  if s.powered then s
  else
    let r := s.aon.msIn.run levels
    { s with aon := { s.aon with msIn := r.1, parked := min (s.aon.parked + r.2) (2 ^ 24 - 1) } }

/-- The link of a motion-sensor input that stops: the next start opens a session (R392, R407). -/
def State.linkStop (s : State) : State :=
  { s with dist := { s.dist with key := none, opening := false, await := false, pairingFault := false, reqAt := none } }.linkTo 0

/-- The GNSS input stops: no position is valid until the first valid input after its next start (R407). -/
def State.gnssStop (s : State) : State :=
  { s with gnss := { s.gnss with valid := false, rmcFix := false, ggaFix := false, rmcTod := none, ggaTod := none, lastPos := none, pps := none } }.emitIf s.gnss.valid 0x34 0x4805 0

/-- The distance timebase starts (R397, R407): the accumulator's loss is said, and the parked count is added. Pulses after the last DATA_RESP
before a stop come in from MS_PULSE (R395). -/
def State.distStart (s : State) : State :=
  let t := s.toPulses
  let s0 := { t with dist := { t.dist with coeff := t.obj 0x4411 1 } }
  let s1 := if s0.aon.accLost then { s0 with aon := { s0.aon with accLost := false }, sched := { s0.sched with parked := true } }.emit 0x10 0x4409 0 else s0
  let n := s1.aon.parked
  if n = 0 then { s1 with dist := { s1.dist with parked := 0 } }
  else
    let s2 := { s1 with aon := { s1.aon with parked := 0 }, dist := { s1.dist with parked := n }, sched := { s1.sched with parked := true } }
    (s2.addPulses n).emit 0x10 0x4409 (min n 0xFFFFFF)

/-- The fields of a sentence, cut at the commas. -/
def nmeaFields (b : Bytes) : List Bytes :=
  b.foldr (fun c acc => if c = 0x2C then [] :: acc else match acc with
    | [] => [[c]]
    | f :: r => (c :: f) :: r) [[]]

/-- A decimal digit. -/
def digit (c : Byte) : Nat := c.toNat - 0x30

/-- Decimal digits as a number. -/
def decNat (b : Bytes) : Nat := b.foldl (fun a c => a * 10 + digit c) 0

/-- A decimal fraction times 10^k, further digits cut. -/
def decFixed (k : Nat) (b : Bytes) : Nat :=
  let whole := b.takeWhile (· != 0x2E)
  let frac := (b.drop (whole.length + 1)).take k
  decNat whole * 10 ^ k + decNat frac * 10 ^ (k - frac.length)

/-- A hexadecimal digit. -/
def hexDigit (c : Byte) : Nat :=
  let n := c.toNat
  if 0x30 ≤ n ∧ n ≤ 0x39 then n - 0x30 else if 0x41 ≤ n ∧ n ≤ 0x46 then n - 0x37 else if 0x61 ≤ n ∧ n ≤ 0x66 then n - 0x57 else 16

/-- The text of a sentence between "$" and "*" where the sentence counts (R399). -/
def nmeaBody (b : Bytes) : Option Bytes :=
  let n := b.length
  let body := (b.drop 1).take (n - 6)
  let sum := body.foldl (fun (a : Nat) c => a ^^^ c.toNat) 0
  if 9 ≤ n && n ≤ 82 && b.headD 0 == 0x24 && b.drop (n - 2) == [0x0D, 0x0A] && b.getD (n - 5) 0 == 0x2A
      && 16 * hexDigit (b.getD (n - 4) 0) + hexDigit (b.getD (n - 3) 0) == sum then some body else none

/-- Time of day in ms of a time field hhmmss.sss. -/
def todMs (b : Bytes) : Nat :=
  (decNat (b.take 2) * 3600 + decNat (slice 2 2 b) * 60) * 1000 + decFixed 3 (b.drop 4)

/-- Days from 1970-01-01 to a date of 20yy. -/
def daysOf (d m yy : Nat) : Nat :=
  let y := 2000 + yy - (if m ≤ 2 then 1 else 0)
  let mp := (m + 9) % 12
  let doy := (153 * mp + 2) / 5 + d - 1
  y * 365 + y / 4 - y / 100 + y / 400 + doy - 719468

/-- A latitude or longitude field (d)ddmm.mmmm in 10^-7 degree. -/
def degOf (b : Bytes) (neg : Bool) : Int :=
  let v := decFixed 7 b
  let deg := v / 10 ^ 9
  let min7 := v - deg * 10 ^ 9
  let r : Int := ((deg * 10 ^ 7 + divRound min7 60 : Nat) : Int)
  if neg then -r else r

/-- The distance of two positions in mm: the equirectangular rule with a rational cosine of the latitude (log entry 21). -/
def groundMm (la lo la' lo' : Int) : Nat :=
  let dy := (la' - la).natAbs * 11132 / 1000
  let dxe := (lo' - lo).natAbs * 11132 / 1000
  let d := ((la + la') / 2).natAbs / 100000
  let q := (81000000 - d * d) / 10000
  let dx := dxe * (4 * q) / (40500 - q)
  isqrt (dx * dx + dy * dy)

/-- The sensor's distance in mm (R395). -/
def State.sensorMm (s : State) : Nat := 100000 * s.odo + (if s.coeff = 0 then 0 else 100000 * s.aon.acc / s.coeff)

/-- JUMP and DISTANCE_RATIO (R401) at a valid position. -/
def State.positionChecks (s : State) : State :=
  let g := s.gnss
  let mm := s.sensorMm
  match g.lastPos with
  | none => { s with gnss := { g with lastPos := some (g.lat, g.lon, s.now), msAt := mm } }
  | some (la, lo, t) =>
    let dist := groundMm la lo g.lat g.lon
    let dt := (s.now - t) / msNs
    let jump := decide (s.obj 0x4883 3 * 10 * dt < dist * 36)
    let track := g.track + dist
    let ms := g.msTrack + (mm - g.msAt)
    let full := decide (5000000 ≤ track)
    let off := decide (s.obj 0x4883 2 * track < ((ms - track) + (track - ms)) * 1000)
    let s1 := { s with gnss := { g with
      lastPos := some (g.lat, g.lon, s.now), msAt := mm, track := if full then 0 else track, msTrack := if full then 0 else ms } }
    let s2 := s1.condition 8 jump (fun u => u.gnssImplausible 1)
    if full then s2.condition 3 off (fun u => u.msImplausible 3) else s2

/-- Whether the position is valid after a sentence (R399). -/
def State.posValid (s : State) : Bool :=
  let g := s.gnss
  match g.rmcTod, g.ggaTod with
  | some a, some b =>
    if a / 1000 = b / 1000 then g.rmcFix && g.ggaFix && decide (g.hdop ≤ s.obj 0x4881 3) && decide (4 ≤ g.sats)
    else g.valid && g.rmcFix && g.ggaFix
  | _, _ => false

/-- What follows a sentence: validity, GNSS_FIX and the checks (R399, R401, R412). -/
def State.afterSentence (s : State) : State :=
  let v := s.posValid
  let both := s.gnss.rmcTod.map (· / 1000) == s.gnss.ggaTod.map (· / 1000)
  let s1 := { s with gnss := { s.gnss with valid := v, lastPos := if v then s.gnss.lastPos else none } }.emitIf (v != s.gnss.valid) 0x34 0x4805 (b2n v)
  (if v && both then s1.positionChecks else s1).motionChecks

/-- An RMC sentence (R399 to R401). -/
def State.rmc (s : State) (f : List Bytes) : State :=
  let at_ := fun i => nth [] f i
  let fix := at_ 2 == [0x41] && at_ 12 != [0x4E]
  let tod := todMs (at_ 1)
  let utc := daysOf (decNat ((at_ 9).take 2)) (decNat (slice 2 2 (at_ 9))) (decNat (slice 4 2 (at_ 9))) * 86400000 + tod
  let g := s.gnss
  if !fix then { s with gnss := { g with rmcFix := false, rmcTod := some tod } }.afterSentence
  else
    let inst := match g.pps with
      | some p => if s.now ≤ p + 900 * msNs then (utc / 1000 * 1000, p) else (utc, s.now)
      | none => (utc, s.now)
    let step := match g.lastRmc with
      | some (u, t) =>
        let a := utc - u
        let l := (s.now - t) / msNs
        decide (2000 < (a - l) + (l - a)) || decide (utc < u)
      | none => false
    let s1 := { s with gnss := { g with
      rmcFix := true, rmcTod := some tod, lat := degOf (at_ 3) (at_ 4 == [0x53]), lon := degOf (at_ 5) (at_ 6 == [0x57]),
      speed := min 65535 (divRound (decFixed 3 (at_ 7) * 1852) 10000), course := decFixed 2 (at_ 8),
      lastRmc := some (utc, s.now), utc := some inst } }
    (s1.condition 10 step (fun u => u.gnssImplausible 3)).afterSentence

/-- A GGA sentence (R399). -/
def State.gga (s : State) (f : List Bytes) : State :=
  let at_ := fun i => nth [] f i
  { s with gnss := { s.gnss with
    ggaFix := at_ 6 != [0x30] && at_ 6 != [], ggaTod := some (todMs (at_ 1)), sats := min 255 (decNat (at_ 7)), hdop := min 255 (decFixed 1 (at_ 8)) } }.afterSentence

/-- NMEA_SENTENCE (R399). -/
def State.nmea (s : State) (chars : Bytes) : State :=
  if !(s.powered && s.serving 0x34) then s
  else match nmeaBody chars with
    | none => { s with gnss := { s.gnss with rejected := satAdd 32 s.gnss.rejected 1 } }
    | some b =>
      let f := nmeaFields b
      let kind := (nth [] f 0).drop 2
      if kind = ascii "RMC" then s.rmc f else if kind = ascii "GGA" then s.gga f else s

/-- GN_PPS (R400): T6 captures the edge, the GNSS input reads the capture, and the interval is checked. -/
def State.gnPps (s : State) : State :=
  if !(s.powered && s.serving 0x34) then s
  else
    let n := s.pclk
    let bad := match s.gnss.pps with
      | some _ => decide (n - s.gnss.ppsCount < 76723200) || decide (76876800 < n - s.gnss.ppsCount)
      | none => false
    let s1 := { s with gnss := { s.gnss with pps := some s.now, ppsCount := n } }
    (((s1.captureNow 6).captureRead 6).captureAll 2).condition 11 bad (fun u => u.gnssImplausible 4)

/-- PPS_TIMEOUT (R400): 3 s without an edge while a fix is valid. -/
def State.ppsTimeout (s : State) : State :=
  let late : Bool := match s.gnss.pps with
    | some t => decide (t + 3 * secNs ≤ s.now)
    | none => decide (3 * secNs ≤ s.now)
  if s.powered && s.serving 0x34 && s.gnss.valid && late then s.condition 11 true (fun u => u.gnssImplausible 4) else s

/-- CLEAR_TAMPER_FLAGS (R402, R411). -/
def State.clearTamper (s : State) (mask : Nat) : State :=
  let s1 := s.recWrite 0 (key 0x4803 1) 8
  { s1 with rr := { s1.rr with tamper := (List.range 8).foldl (fun a b => if bit mask b then a &&& (2 ^ b ^^^ 0xFF) else a) s1.rr.tamper } }

end Sys2Proof.Machine
end

