-- ==== Sys2Proof/Machine/Schedule.lean ====
section
/-! DEFINITION. The event scheduler's bases and due values (R403 to R405, R407), and the configuration of its entries (R410). -/

namespace Sys2Proof.Machine

open Sys2Proof

/-- The index of an entry's objects. -/
def schedIx (e : Nat) : Nat := 0x4610 + e

/-- The value of a basis, none while it is not valid (R403). -/
def State.basis (s : State) (b : Nat) : Option Nat :=
  if b = 1 then some s.ms
  else if b = 2 then some s.distance
  else if b = 3 then (if s.bell.valid then some (s.netTime / 1000) else none)
  else if b = 4 then (if s.timeSource = 1 then some s.utcMs else none)
  else none

/-- The smallest F + m P above a basis value (R404); with P = 0 only F itself. -/
def nextDue (f p v : Nat) : Option Nat :=
  if v < f then some f else if p = 0 then none else some (f + ((v - f) / p + 1) * p)

/-- An entry's value in the snapshot in force. -/
def State.schedConf (s : State) (e sub : Nat) : Nat := s.conf (schedIx e) (schedIx e) sub

/-- The objects that a map of eight U32 names (R406, R410). -/
def mappedKeys (v : Nat) : List Nat := ((List.range 8).map (fun i => v / 2 ^ (32 * i) % 2 ^ 32 / 256)).filter (· != 0)

/-- An object that a sample may hold (R406): readable by role H and no wider than 8 bytes. -/
def sampleable (k : Nat) : Bool :=
  let ix := k / 256
  let sub := k % 256
  match unitOfBase ix with
  | some _ => decide (sub < 8)
  | none =>
    if sub = 0 then objIndex ix
    else match objFind ix sub with
      | some d => d.acc != .wo && d.roles % 2 == 1 && decide (d.ty.len ≤ 8)
      | none => false

/-- An entry takes its configuration (R22, R23, R406). -/
def State.schedSnap (s : State) (e : Nat) : State :=
  let ix := schedIx e
  s.snapshot ix ix ix ((mappedKeys (s.obj ix 6)).all sampleable) 0x32 0x440A (256 * ix + 6)

/-- An entry's record as its configuration takes effect (R404, R407): the next due value from the present basis. -/
def State.schedTake (s : State) (e : Nat) : State :=
  let s1 := s.schedSnap e
  let r : SchedEntry := kvGet {} s1.sched.es e
  let v := s1.basis (s1.schedConf e 1)
  let r1 : SchedEntry := { r with
    next := if s1.schedConf e 5 = 1 then nextDue (s1.schedConf e 2) (s1.schedConf e 3) (v.getD 0) else none,
    cfg := s1.snapRange (schedIx e) (schedIx e), valid := v.isSome, seen := v.getD 0, spent := false }
  { s1 with sched := { s1.sched with es := kvPut s1.sched.es e r1 } }

/-- The scheduler starts (R407): every due value from the present bases. -/
def State.schedStart (s : State) : State :=
  (List.range 24).foldl (fun (t : State) e => t.schedTake e) { s with sched := { s.sched with es := [], last := s.now } }

end Sys2Proof.Machine
end

