-- ==== Sys2Proof/Machine/Lf.lean ====
section
/-! DEFINITION. The LF field controller and Rooster (R77 to R109): antennas and driver chips, group polls, wakes, demands and full telegrams. -/

namespace Sys2Proof.Machine

open Sys2Proof

/-- Sheepdog source of an antenna (R460). -/
def antSource (k : Nat) : Nat := 0x0D + k

/-- An antenna that a set may use (R83, R105, R106). -/
def State.antAvail (s : State) (k : Nat) : Bool :=
  let c := nth {} s.lf.chips (k / 2)
  let a := nth {} s.lf.ants k
  !c.absent && !c.hot && !a.open_ && !a.short && !s.lasting (antSource k)

/-- The antennas of a mask that may be used. -/
def State.antSet (s : State) (mask : Nat) : Nat :=
  (List.range 6).foldl (fun m k => if bit mask k && s.antAvail k then m + 2 ^ k else m) 0

/-- Antenna status object (R108). -/
def State.antStatus (s : State) (k : Nat) : Nat :=
  let c := nth {} s.lf.chips (k / 2)
  let a := nth {} s.lf.ants k
  b2n a.open_ + 2 * b2n a.short + 4 * b2n c.hot + 8 * b2n c.absent

/-- The state of the unit by its antennas (R83). -/
def State.lfState (s : State) : State :=
  if s.ownState 0x03 == stOff || s.ownState 0x03 == stStopped || s.ownState 0x03 == stStarting then s
  else
    let n := s.antSet 0x3F
    s.setUnit 0x03 (if n = 0 then stFailed else if n = 0x3F then stRunning else stDegraded)

/-- One LF transaction (R79): words in the order sent, chip 2 first. -/
def lfTxn (w0 w1 w2 : Nat) : List Word := [BitVec.ofNat 16 w2, BitVec.ofNat 16 w1, BitVec.ofNat 16 w0]

/-- A transaction with a word for each chip of a mask and NOP for the others. -/
def lfTxnFor (mask : Nat) (w : Nat → Nat) : List Word :=
  lfTxn (if bit mask 0 then w 0 else 0) (if bit mask 1 then w 1 else 0) (if bit mask 2 then w 2 else 0)

/-- SET_CURRENT (R80). -/
def wSetCurrent (ch code : Nat) : Nat := 0x1000 + 2048 * ch + code % 64

/-- TUNE (R80). -/
def wTune (ch code : Nat) : Nat := 0x3000 + 2048 * ch + code % 256

/-- Steps 1 to 3 of R83 for the chips of a mask. -/
def State.lfInit (s : State) (mask : Nat) : List Word :=
  lfTxnFor mask (fun _ => 0xF5A5) ++
  lfTxnFor mask (fun n => wTune 0 (s.obj 0x2013 (2 * n + 1))) ++ lfTxnFor mask (fun n => wTune 1 (s.obj 0x2013 (2 * n + 2))) ++
  lfTxnFor mask (fun _ => 0x2000) ++
  lfTxnFor mask (fun n => wSetCurrent 0 (s.obj 0x2011 (2 * n + 1))) ++ lfTxnFor mask (fun n => wSetCurrent 1 (s.obj 0x2011 (2 * n + 2)))

/-- Step 4 of R83: DIAG, then a NOP that reads the status. -/
def lfDiag : List Word := lfTxn 0x4000 0x4000 0x4000 ++ lfTxn 0 0 0

/-- The status word of chip n in three words, chip 2 first (R79). -/
def chipWord (l : List Word) (n : Nat) : Nat := (nth (0 : Word) l (2 - n)).toNat

/-- A position that did not answer, or whose chip did not take the last command (R81). -/
def chipAbsent (w echo : Nat) : Bool := w == 0 || w == 0xFFFF || w % 256 != echo

/-- OVERTEMP or UNDERVOLTAGE (R81). -/
def chipHot (w : Nat) : Bool := bit w 14 || bit w 13

/-- An antenna's open and short as its chip reports them (R81). -/
def antBits (w k : Nat) : Bool × Bool := if k % 2 = 0 then (bit w 11, bit w 9) else (bit w 12, bit w 10)

/-- An antenna's fault found (R83, R106): ANTENNA_FAULT and a count. -/
def State.antFault (s : State) (k : Nat) : State := (s.emit 0x03 0x2006 (256 * k + s.antStatus k)).charge (antSource k) 0x03 0x2006

/-- OVERTEMP or UNDERVOLTAGE found on a chip (R106). -/
def State.chipFault (s : State) (n w : Nat) : State :=
  let c := nth {} s.lf.chips n
  let s1 := { s with lf := { s.lf with
    chips := setAt s.lf.chips n { c with hot := true, clear := 0 },
    spi := s.lf.spi ++ lfTxnFor (2 ^ n) (fun _ => 0x5000) } }
  (((s1.emit 0x03 0x2007 (65536 * n + w)).charge (antSource (2 * n)) 0x03 0x2007).charge (antSource (2 * n + 1)) 0x03 0x2007)

/-- Bits [7:0] of the last command sent to chip n (R81): the last of the transactions issued. -/
def State.chipEcho (s : State) (n : Nat) : Nat := chipWord (s.lf.spi.drop (s.lf.spi.length - 3)) n % 256

/-- A status word of a chip is taken (R81, R83, R106), with the echo that it must carry. diag says that it follows a DIAG, whose findings replace the
earlier ones and are compared with those of the previous diagnosis. -/
def State.takeStatus (s : State) (n w echo : Nat) (diag : Bool) : State :=
  let c := nth {} s.lf.chips n
  if chipAbsent w echo then
    let none_ := fun (l : List Antenna) k => setAt l k { nth ({} : Antenna) l k with diagOpen := false, diagShort := false }
    { s with lf := { s.lf with
      chips := setAt s.lf.chips n { c with absent := true, status := w }
      ants := if diag then none_ (none_ s.lf.ants (2 * n)) (2 * n + 1) else s.lf.ants } }.emitIf (!c.absent) 0x03 0x2008 n
  else
    let s1 := { s with lf := { s.lf with chips := setAt s.lf.chips n { c with absent := false, status := w } } }
    let s2 := if chipHot w && !c.hot then s1.chipFault n w else s1
    [2 * n, 2 * n + 1].foldl (fun t k =>
      let b := antBits w k
      let a := nth {} t.lf.ants k
      let o := if diag then b.1 else a.open_ || b.1
      let h := if diag then b.2 else a.short || b.2
      let fresh := if diag then (b.1 && !a.diagOpen) || (b.2 && !a.diagShort) else (b.1 && !a.open_) || (b.2 && !a.short)
      let x : Antenna := { open_ := o, short := h, diagOpen := if diag then b.1 else a.diagOpen, diagShort := if diag then b.2 else a.diagShort }
      let t1 := { t with lf := { t.lf with ants := setAt t.lf.ants k x } }
      if fresh then t1.antFault k else t1) s2

/-- Step 5 of R83: SLEEP to every chip that reports no fault. -/
def State.lfSleep (s : State) : State :=
  let mask := (List.range 3).foldl (fun m n =>
    let c := nth {} s.lf.chips n
    let a := nth {} s.lf.ants (2 * n)
    let b := nth {} s.lf.ants (2 * n + 1)
    if c.absent || c.hot || a.open_ || a.short || b.open_ || b.short then m else m + 2 ^ n) 0
  { s with lf := { s.lf with spi := s.lf.spi ++ lfTxnFor mask (fun _ => 0x5000) } }

/-- A diagnosis with the three status words it reads (R83). -/
def State.diagnose (s : State) (words : List Word) : State :=
  let s1 := { s with lf := { s.lf with spi := s.lf.spi ++ lfDiag, diagAsked := false, lastCheck := s.now } }
  let s2 := (List.range 3).foldl (fun t n => t.takeStatus n (chipWord words n) 0 true) s1
  s2.lfSleep.lfState

/-- The LF field controller starts (R83, R458): its sequence, deferred while a wake telegram runs. -/
def State.lfStart (s : State) (words : List Word) : State :=
  let s1 := s.setUnit 0x03 stRunning
  if s1.lf.tele.isSome then { s1 with lf := { s1.lf with deferDrv := true } }
  else { s1 with lf := { s1.lf with spi := s1.lfInit 7 } }.diagnose words

/-- RUN_DIAGNOSTICS (R108): at the next idle moment. -/
def State.runDiagnostics (s : State) : State := { s with lf := { s.lf with diagAsked := true } }

/-- DIAGNOSIS_REPEAT (R83, R108, R458). -/
def State.diagnosisRepeat (s : State) (diag : List Word) : State :=
  let due := decide (s.lf.lastCheck + 60 * secNs ≤ s.now)
  if !(s.powered && s.serving 0x03) && !(s.powered && s.ownState 0x03 == stFailed) then s
  else if s.lf.tele.isSome || s.aon.rooster.poll.any (fun p => decide (s.aon.clock < p.start + 14336000)) then s
  else if s.lf.deferDrv then { s with lf := { s.lf with deferDrv := false, spi := s.lfInit 7 } }.diagnose diag
  else if due then
    let absent := (List.range 3).foldl (fun m n => if (nth {} s.lf.chips n).absent then m + 2 ^ n else m) 0
    { s with lf := { s.lf with spi := if absent = 0 then [] else s.lfInit absent } }.diagnose diag
  else if s.lf.diagAsked then { s with lf := { s.lf with spi := [] } }.diagnose diag
  else s

/-- DRIVER_STATUS_RECHECK (R106): every 1 s, while a chip is excluded for temperature or supply. -/
def State.statusRecheck (s : State) (words : List Word) : State :=
  if !s.powered || !s.lf.chips.any (·.hot) || s.now < s.lf.lastRecheck + secNs then s
  else
    let s1 := { s with lf := { s.lf with lastRecheck := s.now, spi := lfTxn 0 0 0 } }
    let s2 := (List.range 3).foldl (fun (t : State) n =>
      let c := nth {} t.lf.chips n
      let w := chipWord words n
      if !c.hot then t.takeStatus n w (s.chipEcho n) false
      else if chipAbsent w (s.chipEcho n) || chipHot w then { t with lf := { t.lf with chips := setAt t.lf.chips n { c with clear := 0, status := w } } }
      else if c.clear = 0 then { t with lf := { t.lf with chips := setAt t.lf.chips n { c with clear := 1, status := w } } }
      else { t with lf := { t.lf with chips := setAt t.lf.chips n { c with clear := 0, hot := false, status := w } } }) s1
    s2.lfState

/-- Length of a group poll in ns, and from its start to the end of its answer window (R85, R108). -/
def pollNs : Nat := 14336000

/-- The answer window of a poll is open (R91, R102). -/
def State.inAnswerWindow (s : State) : Bool :=
  s.aon.rooster.poll.any (fun p =>
    decide (p.start + pollNs ≤ s.aon.clock) && decide (s.aon.clock ≤ p.start + pollNs + s.obj 0x2030 3 * 1000))

/-- The bits of a group poll's body with its check (R85 to R87). -/
def State.pollBits (s : State) : List Bool :=
  let body := byte (16 + 8 * b2n s.sup.rc) :: beBytes 2 (s.obj 0x2010 1)
  bitsOf (body ++ [byte (crc8 body)])

/-- Hours in ns. -/
def hourNs : Nat := 3600 * secNs

/-- Time since the lock in ns (R92, R97). -/
def State.sinceLock (s : State) : Nat :=
  if s.aon.rooster.st = 0 then 0 else s.aon.rooster.base + (s.aon.clock - s.aon.rooster.lockAt)

/-- The phase that holds a time since lock (R92). -/
def phaseOf (t : Nat) : Nat := if t < 600 * secNs then 1 else if t < 12 * hourNs then 2 else if t < 96 * hourNs then 3 else 4

/-- Poll interval of a phase in ns (R92). -/
def pollInterval (p : Nat) : Nat := (if p = 1 then 150 else if p = 2 then 500 else if p = 3 then 1000 else 2000) * msNs

/-- The polling stop in ns. -/
def State.pollStop (s : State) : Nat := s.obj 0x2020 1 * hourNs

/-- The configuration of R108 is taken at a telegram or poll (R22, R109). -/
def State.lfSnapshot (s : State) : State :=
  let dead := fun sub => s.antSet (s.obj 0x2010 sub) == 0 && s.antSet 0x3F != 0
  s.snapshot 0x2010 0x2010 0x2012 (!dead 2 && !dead 3) 0x03 0x200B (256 * 0x2010 + (if dead 2 then 2 else 3))

/-- Whether the LF sequencer can send (R102, R107): it serves, or the rails come up for a poll alone. -/
def State.lfSends (s : State) : Bool :=
  if s.aon.mode = 2 then true else !s.sup.held && s.aon.mode ≤ 1 && s.ownState 0x03 != stStopped && s.ownState 0x03 != stOff && !s.sup.vehicleLost

/-- The transactions that set the drivers for a telegram or poll on a set of antennas (R80, R105): output stages on, telegram currents, and
SELECT with the inverted phases of 0x2010:04. -/
def State.lfDrive (s : State) (ants : Nat) : List Word :=
  let inv := s.conf 0x2010 0x2010 4
  let two := fun (m n : Nat) => m / 4 ^ n % 4
  let mask := (List.range 3).foldl (fun m n => if two ants n = 0 then m else m + 2 ^ n) 0
  lfTxnFor mask (fun _ => 0x6000) ++
  lfTxnFor mask (fun n => wSetCurrent 0 (s.conf 0x2010 0x2011 (2 * n + 1))) ++ lfTxnFor mask (fun n => wSetCurrent 1 (s.conf 0x2010 0x2011 (2 * n + 2))) ++
  lfTxnFor 7 (fun n => 0x2000 + 4 * two (inv &&& ants) n + two ants n)

/-- A group poll starts on a set of antennas. -/
def State.sendPoll (s : State) (ants : Nat) (presence : Bool) : State :=
  { s with lf := { s.lf with spi := s.lfDrive ants }, aon := { s.aon with rooster := { s.aon.rooster with
    poll := some { start := s.aon.clock, ants := ants, presence := presence, bits := s.pollBits } } } }

/-- POLL_DUE (R93, R94): the interval ends on the grid of the schedule; a poll is sent, or skipped during a full telegram's round. -/
def State.pollDue (s : State) : State :=
  let r := s.aon.rooster
  let iv := pollInterval r.st
  if r.st = 0 || 4 < r.st || s.aon.clock < r.lastPoll + iv then s
  else
    let s1 := { s with aon := { s.aon with rooster := { r with lastPoll := r.lastPoll + (s.aon.clock - r.lastPoll) / iv * iv } } }
    if !s1.lfSends then s1
    else if s1.lf.tele.isSome then { s1 with aon := { s1.aon with rooster := { s1.aon.rooster with skipped := satAdd 32 r.skipped 1 } } }
    else
      let s2 := s1.lfSnapshot
      let s3 := s2.sendPoll (s2.antSet (s2.conf 0x2010 0x2010 3)) false
      { s3 with aon := { s3.aon with rooster := { s3.aon.rooster with polls := satAdd 32 r.polls 1 } } }

/-- POLL_ANSWER_WINDOW_END (R91). -/
def State.answerEnd (s : State) : State :=
  match s.aon.rooster.poll with
  | some p =>
    if s.aon.clock < p.start + pollNs + s.obj 0x2030 3 * 1000 then s
    else { s with aon := { s.aon with rooster := { s.aon.rooster with poll := none } } }
  | none => s

/-- Muting of poll hits begins (R96, R109). -/
def State.muteBegin (s : State) : State :=
  let r := s.aon.rooster
  if r.muted || r.hits < s.obj 0x2020 4 then s
  else { s with aon := { s.aon with rooster := { r with muted := true, muteAt := s.aon.clock } } }.emit 0x03 0x2005 (256 + r.hits % 256)

/-- The mute ends, and the count of hits starts again (R96). -/
def State.muteOff (s : State) : State :=
  let r := s.aon.rooster
  { s with aon := { s.aon with rooster := { r with muted := false, hits := 0 } } }.emitIf r.muted 0x03 0x2005 (r.hits % 256)

/-- MUTE_END (R96): 60 min after the mute began. -/
def State.muteTimeout (s : State) : State :=
  if s.aon.rooster.muted && decide (s.aon.rooster.muteAt + 60 * 60 * secNs ≤ s.aon.clock) then s.muteOff else s

/-- The tone step changes (R104). -/
def State.setToneStep (s : State) (n : Nat) : State :=
  { s with lf := { s.lf with toneStep := n, cleanRun := 0 } }.emitIf (n != s.lf.toneStep) 0x03 0x2009 n

/-- Adaptation of the tone step by a round (R104). -/
def State.adaptTones (s : State) (saturated valid : Bool) : State :=
  if saturated then s.setToneStep (min 3 (s.lf.toneStep + 1))
  else if !valid then { s with lf := { s.lf with cleanRun := 0 } }
  else if s.lf.cleanRun = 3 then s.setToneStep (s.lf.toneStep - 1)
  else { s with lf := { s.lf with cleanRun := s.lf.cleanRun + 1 } }

/-- The lock starts the schedule in phase 1 (R92, R104). -/
def State.roosterLock (s : State) : State :=
  let r := s.aon.rooster
  ({ s with aon := { s.aon with rooster := { r with st := 1, base := 0, lockAt := s.aon.clock, lastPoll := s.aon.clock } } }.muteOff).setToneStep 0

/-- An unlock returns Rooster to IDLE (R93, R96, R104). -/
def State.roosterUnlock (s : State) : State :=
  ({ s with aon := { s.aon with rooster := { s.aon.rooster with st := 0, base := 0 } } }.muteOff).setToneStep 0

/-- Rooster after a loss of VAON (R97). -/
def State.roosterRestore (s : State) : State :=
  if !s.rr.locked then { s with aon := { s.aon with rooster := {} } }
  else
    let t := min (96 * hourNs) (s.pollStop - 12 * hourNs)
    { s with aon := { s.aon with rooster := { st := phaseOf t, base := t, lockAt := s.aon.clock, lastPoll := s.aon.clock } } }

/-- STOP_POLLING (R108). -/
def State.stopPolling (s : State) : State :=
  let r := s.aon.rooster
  if r.st = 0 || 4 < r.st then s
  else { s with aon := { s.aon with rooster := { r with st := 6 } } }.emit 0x03 0x2004 (s.sinceLock / hourNs % 65536 + 65536)

/-- RESTART_POLLING (R108). -/
def State.restartPolling (s : State) : State × Nat :=
  if s.aon.rooster.st = 0 then (s, abSequence) else (s.roosterLock, abOk)

/-- Time in ms until the rate limit allows a full telegram (R101, R109). -/
def State.deferMs (s : State) : Nat :=
  let recent := s.lf.starts.filter (fun t => decide (s.now < t + secNs))
  let lim := s.conf 0x2010 0x2010 5
  let a := if recent.length < lim then 0 else (recent.getD (recent.length - lim) 0 + secNs) - s.now
  let b := match s.lf.lastClose with
    | some t => t + 2 * msNs - s.now
    | none => 0
  (max a b + msNs - 1) / msNs

/-- A demand for a full telegram (R100, R101). -/
def State.demand (s : State) : State :=
  if s.lf.tele.isSome then s
  else
    let s1 := { s with lf := { s.lf with waiting := min 255 (s.lf.waiting + 1) } }
    s1.emitIf (s1.deferMs != 0) 0x03 0x200A (min s1.deferMs 65535)

/-- A fresh vehicle nonce (R103): from channel 7 while the cores run, else from the stock, whose consume mark is written first. -/
def State.freshNonce (s : State) : Option (State × Bytes) :=
  if s.powered && s.serving 0x20 then s.draw 7 8
  else if s.fenced then none
  else match s.rr.stock with
    | [] => none
    | n :: r => some ({ s with rr := { s.rr with stock := r } }, n)

/-- The bits of a full telegram (R85 to R87). -/
def State.teleBits (s : State) (nonce : Bytes) (chan params : Nat) : List Bool :=
  let flags := 8 * b2n s.sup.rc + 4 + 2 * b2n (chan == 9)
  let body := byte (32 + flags) :: beBytes 2 (s.obj 0x2010 1) ++ nonce ++ beBytes 2 params
  bitsOf (body ++ beBytes 2 (crc16 body))

/-- Whether the LF side may start a full telegram: a wake telegram may run before the controller has started (R102, R458). -/
def State.teleMay (s : State) : Bool :=
  s.powered && s.lf.waiting != 0 && s.lf.tele.isNone && s.deferMs == 0 && !s.sup.vehicleLost &&
    (s.serving 0x03 || (s.ownState 0x03 == stStarting && s.aon.wake != 0))

/-- TELEGRAM_START (R86, R89, R100, R101) with the slot count code of the round. A poll in progress ends. -/
def State.telegramStart (s : State) (slotCode : Nat) : State :=
  if !s.teleMay then s
  else match s.lfSnapshot.freshNonce with
    | none => s
    | some (t, nonce) =>
      let counter := (t.lf.counter + 1) % 256
      let params := 8192 * slotCode + 2048 * t.lf.toneStep + counter
      let ch := t.phy.chan
      let ants := t.antSet (t.conf 0x2010 0x2010 2)
      let tele : Telegram :=
        { start := t.now, nonce := nonce, counter := counter, params := params, slots := 8 * 2 ^ slotCode,
          ants := ants, clkRc := t.sup.rc, chan := ch, bits := t.teleBits nonce ch params }
      let l := { t.lf with
        tele := some tele, spi := t.lfDrive ants, waiting := 0, counter := counter, telegrams := satAdd 32 t.lf.telegrams 1,
        starts := t.lf.starts.filter (fun x => decide (t.now < x + secNs)) ++ [t.now] }
      let a := { t.aon with wake := 0, rooster := { t.aon.rooster with poll := none } }
      { t with lf := l, aon := a }.captureAll 4

/-- TONE (R88, R89): the boundary of the next tone; its SELECT and SET_CURRENT. -/
def State.toneNext (s : State) : State :=
  match s.lf.tele with
  | none => s
  | some q =>
    let k := q.tones
    if 6 ≤ k || s.now < q.start + 40 * msNs + k * msNs then s
    else
      let on := s.antAvail k
      let code := s.conf 0x2010 0x2012 (k + 1) / 2 ^ (q.params / 2048 % 4)
      let set := lfTxnFor (2 ^ (k / 2)) (fun _ => wSetCurrent (k % 2) code)
      let sel := lfTxn (0x2000 + if on && k / 2 = 0 then 2 ^ (k % 2) else 0) (0x2000 + if on && k / 2 = 1 then 2 ^ (k % 2) else 0)
        (0x2000 + if on && k / 2 = 2 then 2 ^ (k % 2) else 0)
      { s with lf := { s.lf with spi := set ++ sel, tele := some { q with tones := k + 1 } } }

/-- REPLY_WINDOW_OPEN (R89): the tones have ended. -/
def State.replyOpen (s : State) : State :=
  match s.lf.tele with
  | none => s
  | some q =>
    if q.window || q.tones < 6 || s.now < q.start + 46 * msNs then s
    else { s with lf := { s.lf with tele := some { q with window := true } } }

/-- The reply window closes: the telegram's round of the LF side is over, and a poll hit's run counts (R89, R96, R101). -/
def State.teleClose (s : State) : State :=
  { s with lf := { s.lf with tele := none, lastClose := some s.now } }.muteBegin

/-- A wake's event and counters (R99, R108). -/
def State.wakeSaid (s : State) (cause : Nat) : State :=
  { s with lf := { s.lf with lastWake := cause, wakes := satAdd 32 s.lf.wakes 1 } }.emit 0x03 0x2001 cause

/-- A poll hit (R96, R99). -/
def State.pollHit (s : State) : State :=
  let r := s.aon.rooster
  let s1 := { s with aon := { s.aon with rooster := { r with pollHits := satAdd 32 r.pollHits 1, hits := if r.muted then r.hits else min 64 (r.hits + 1) } } }
  s1.emit 0x03 0x2002 r.st

end Sys2Proof.Machine
end

