-- ==== Sys2Proof/Machine/Fixed.lean ====
section
/-! DEFINITION. Fixed-point forms of the real functions that chapters on the ranging link and the locator use: logarithms in 0.25 dB, powers
of ten, angles in 2^-16 turn, sine and cosine. Their last place is the model's (log entry 22). -/

namespace Sys2Proof.Machine

/-- The whole part of the base-2 logarithm. -/
def ilog2 (n : Nat) : Nat := n.log2

/-- Fraction bits of a base-2 logarithm by repeated squaring of m / 2^32 in [1, 2). -/
def log2Frac : Nat → Nat → Nat → Nat
  | 0, _, acc => acc
  | f + 1, m, acc =>
    let q := m * m / 2 ^ 32
    if 2 ^ 33 ≤ q then log2Frac f (q / 2) (2 * acc + 1) else log2Frac f q (2 * acc)

/-- The base-2 logarithm of a ratio of positive numbers in units of 2^-24. -/
def log2Q (num den : Nat) : Int :=
  let k := ilog2 num + 40
  let j := ilog2 den
  let m := num * 2 ^ (80 + j) / (den * 2 ^ (ilog2 num))
  let e := ilog2 m
  let x := m * 2 ^ 32 / 2 ^ e
  let whole : Int := (k : Int) - 40 - j + e - 80
  whole * 2 ^ 24 + (log2Frac 24 x 0 : Nat)

/-- 10 log10 of a ratio, in 0.25 dB, rounded to the nearest; a ratio of 0 reads as the lowest I16. -/
def dbQ (num den : Nat) : Int :=
  if num = 0 ∨ den = 0 then -32768 else divRoundI (log2Q num den * 12041199827) (2 ^ 24 * 1000000000)

/-- 10^(n/40) times 10^15. -/
def pow10q : Nat → Nat
  | 0 => 1000000000000000
  | n + 1 => pow10q n * 1059253725177289 / 1000000000000000

/-- The square root of a power in units of 2^-16. -/
def magQ (power : Nat) : Nat := isqrt (power * 2 ^ 32)

/-- Angles arctan(2^-i) in 2^-32 turn. -/
def atanTable : List Nat :=
  [536870912, 316933406, 167458907, 85004756, 42667331, 21354465, 10679838, 5340245, 2670163, 1335087, 667544, 333772, 166886, 83443,
   41722, 20861, 10430, 5215, 2608, 1304, 652, 326]

/-- The rotation of a vector of the right half plane onto the axis, with the angle turned. -/
def cordicTo : List Nat → Nat → Int → Int → Int → Int
  | [], _, _, _, a => a
  | t :: l, i, x, y, a =>
    if y < 0 then cordicTo l (i + 1) (x - y / 2 ^ i) (y + x / 2 ^ i) (a - t)
    else cordicTo l (i + 1) (x + y / 2 ^ i) (y - x / 2 ^ i) (a + t)

/-- arg(x + jy) in 2^-32 turn. -/
def argQ (x y : Int) : Int :=
  let k : Int := 2 ^ 30
  if x = 0 ∧ y = 0 then 0
  else if x < 0 then (if y < 0 then cordicTo atanTable 0 (-x * k) (-y * k) 0 - 2 ^ 31 else cordicTo atanTable 0 (-x * k) (-y * k) 0 + 2 ^ 31)
  else cordicTo atanTable 0 (x * k) (y * k) 0

/-- arg(x + jy) in 2^-16 turn, as an I16. -/
def arg16 (x y : Int) : Int := untwos 16 (twos 16 (divRoundI (argQ x y) (2 ^ 16)))

/-- The rotation of a vector by an angle in 2^-32 turn, at most a quarter turn. -/
def cordicBy : List Nat → Nat → Int → Int → Int → Int × Int
  | [], _, x, y, _ => (x, y)
  | t :: l, i, x, y, a =>
    if a < 0 then cordicBy l (i + 1) (x + y / 2 ^ i) (y - x / 2 ^ i) (a + t)
    else cordicBy l (i + 1) (x - y / 2 ^ i) (y + x / 2 ^ i) (a - t)

/-- Cosine and sine of an angle in 2^-32 turn, in 2^-30. -/
def cosSin (a : Int) : Int × Int :=
  let r := untwos 32 (twos 32 a)
  let k : Int := 652032874
  if 2 ^ 30 ≤ r then let q := cordicBy atanTable 0 k 0 (r - 2 ^ 31); (-q.1, -q.2)
  else if r < -(2 ^ 30) then let q := cordicBy atanTable 0 k 0 (r + 2 ^ 31); (-q.1, -q.2)
  else cordicBy atanTable 0 k 0 r

end Sys2Proof.Machine
end

