-- ==== Sys2Proof/Machine/Modem.lean ====
section
/-! DEFINITION. The Chondoec waveform (R125 to R136) and its decoding (R137): codes, coding, the chips of a frame, and the Viterbi decoder. -/

namespace Sys2Proof.Machine

open Sys2Proof

/-- The preamble code b of R129. -/
def preambleGo : Nat → List Bool → List Bool
  | 0, l => l
  | f + 1, l => preambleGo f (l ++ [l.getD (l.length - 6) false != l.getD (l.length - 7) false])

/-- The 127 chips c of R129, as signs. -/
def preambleCode : List Int := (preambleGo 120 (List.replicate 7 true)).map (fun b => if b then 1 else -1)

/-- Multipliers of the SFD symbols (R130). -/
def sfdCode (b : Bool) : List Int := if b then [-1, 0, 1, 1, 0, -1, 0, 1] else [0, 1, 0, -1, 1, 0, 0, -1]

/-- A preamble or SFD symbol of 508 chips with its multiplier (R129). -/
def symbolChips (w : Int) : List Int := preambleCode.flatMap (fun c => [w * c, 0, 0, 0])

/-- The 4,096 keystream bits of the ranging sequence (R131). -/
def rangingBits (key iv : Bytes) : List Bool := bitsOf (ctrMode 32 key (iv ++ [0, 0, 0, 0]) (List.replicate 512 0))

/-- The ranging-sequence field (R128, R131). -/
def rangingChips (key iv : Bytes) : List Int :=
  let gap := List.replicate 512 (0 : Int)
  let half := fun (l : List Bool) => l.flatMap (fun b => [if b then (-1 : Int) else 1, 0, 0, 0])
  let ks := rangingBits key iv
  gap ++ half (ks.take 2048) ++ gap ++ half (ks.drop 2048) ++ gap

/-- One step of the convolutional encoder (R135); the state is the last six bits, newest first. -/
def convBits (u : Bool) (s : List Bool) : Bool × Bool :=
  let at_ := fun i => s.getD (i - 1) false
  (u != (at_ 2 != (at_ 3 != (at_ 5 != at_ 6))), u != (at_ 1 != (at_ 2 != (at_ 3 != at_ 6))))

/-- The encoder over a field with its six tail bits (R133, R135). -/
def convEncode (l : List Bool) : List Bool :=
  ((l ++ List.replicate 6 false).foldl (fun (q : List Bool × List Bool) u =>
    let c := convBits u q.1
    ((u :: q.1).take 6, q.2 ++ [c.1, c.2])) (List.replicate 6 false, [])).2

/-- The header's information bits (R132). -/
def headerBits (len version : Nat) : List Bool :=
  let b := [byte len, byte (16 * version)]
  bitsOf (b ++ [byte (crc8 b)])

/-- The payload's bits with their CRC-16 (R133). -/
def payloadBits (p : Bytes) : List Bool := bitsOf (p ++ beBytes 2 (crc16 p))

/-- Coded bits with pilots (R134): a pilot after every 15 and after a final shorter group. A pilot is a coded 0. -/
def withPilots (l : List Bool) : List Bool := (chunks (l.length + 1) 15 l).flatMap (fun g => g ++ [false])

/-- The chips of data symbol k (R134). -/
def dataChips (k : Nat) (coded : Bool) : List Int :=
  (List.range 16).map (fun j => (if coded then -1 else 1) * preambleCode.getD ((16 * k + j) % 127) 0) ++ List.replicate 48 0

/-- Every chip of a frame (R128 to R135). -/
def frameChips (f : TxFrame) : List Int :=
  let data := withPilots (convEncode (headerBits f.payload.length 1)) ++
    (if f.payload.isEmpty then [] else withPilots (convEncode (payloadBits f.payload)))
  (List.range 64).flatMap (fun _ => symbolChips 1) ++ (sfdCode f.sfdB).flatMap symbolChips ++
  (if f.sfdB then rangingChips f.key f.iv else []) ++ (data.zipIdx).flatMap (fun q => dataChips q.2 q.1)

/-- Coded bits of a payload of L bytes (R133). -/
def codedLen (l : Nat) : Nat := 16 * l + 44

/-- The length of a frame in chips (R136). -/
def frameLen (sfdB : Bool) (l : Nat) : Nat :=
  let d := codedLen l
  32512 + 4064 + (if sfdB then 17920 else 0) + 4096 + (if l = 0 then 0 else 64 * (d + (d + 14) / 15))

/-- Chip position of the reference chip of a frame (R112). -/
def refChip (sfdB : Bool) : Nat := if sfdB then 37088 else 36576

/-- Largest payload of a frame in a slot (R136). -/
def slotPayload (sfdB : Bool) : Nat := if sfdB then 108 else 124

/-- A survivor of the decoder: its metric and its bits, newest first. -/
abbrev Survivor := Int × List Bool

/-- The state of the decoder as a number: the last six bits, newest in bit 5. -/
def stateBits (n : Nat) : List Bool := (List.range 6).map (fun i => n.testBit (5 - i))

/-- One step of the Viterbi decoder over 64 states, with the soft decisions of one coded pair. -/
def viterbiStep (m : List (Option Survivor)) (s0 s1 : Int) : List (Option Survivor) :=
  (List.range 64).map (fun n =>
    let u := n.testBit 5
    let from_ := fun (old : Nat) =>
      match m.getD old none with
      | none => none
      | some (w, bits) =>
        let c := convBits u (stateBits old)
        some (w + (if c.1 then -s0 else s0) + (if c.2 then -s1 else s1), u :: bits)
    let a := from_ (2 * (n % 32))
    let b := from_ (2 * (n % 32) + 1)
    match a, b with
    | some x, some y => if y.1 > x.1 then some y else some x
    | some x, none => some x
    | none, y => y)

/-- The survivor with the largest metric. -/
def bestSurvivor (m : List (Option Survivor)) : Option Survivor :=
  m.foldl (fun a x => match a, x with
    | none, y => y
    | some q, some y => if y.1 > q.1 then some y else some q
    | q, none => q) none

/-- Decodes a field (R137): state 0 at both ends, decisions 64 bits back, tail removed. -/
def viterbi (soft : List Int) : List Bool :=
  let start : List (Option Survivor) := some (0, []) :: List.replicate 63 none
  let r := (chunks (soft.length + 1) 2 soft).foldl (fun (q : List (Option Survivor) × List Bool × Nat) p =>
    let m := viterbiStep q.1 (p.getD 0 0) (p.getD 1 0)
    let n := q.2.2 + 1
    let out := if 64 < n then q.2.1 ++ [((bestSurvivor m).map (fun s => s.2.getD 64 false)).getD false] else q.2.1
    (m, out, n)) (start, [], 0)
  let last := (((r.1.getD 0 none).map (fun s => s.2)).getD []).take (min 64 r.2.2)
  let bits := r.2.1 ++ last.reverse
  bits.take (bits.length - 6)

/-- Hard decisions that differ from the re-encoded bits (R145). -/
def reencodeErrors (soft : List Int) (bits : List Bool) : Nat :=
  ((soft.zip (convEncode bits)).filter (fun q => decide (q.1 < 0) != q.2)).length

/-- EVM of the pilots in 0.1 % (R145). -/
def pilotEvm (l : List (Int × Int)) : Nat :=
  let sx := l.foldl (fun a q => a + q.1) (0 : Int)
  let sy := l.foldl (fun a q => a + q.2) (0 : Int)
  let p := l.foldl (fun a q => a + (q.1 * q.1 + q.2 * q.2).toNat) 0
  let m := (sx * sx + sy * sy).toNat
  if m = 0 then 65535 else min 65535 (isqrt (1000000 * (l.length * p - m) / m))

end Sys2Proof.Machine
end

