-- ==== Sys2Proof/Machine/Phy.lean ====
section
/-! DEFINITION. The ranging group's radio half (R110 to R155): lanes, front ends, first paths, quality figures, frame delivery, channel choice,
calibration. -/

namespace Sys2Proof.Machine

open Sys2Proof

/-- The 48-bit sample counter at a time (R111): 499.2 samples per us since the group started. -/
def State.sampleAt (s : State) (t : Nat) : Nat := match s.phy.origin with
  | some o => (t - o) * 312 / 625 % 2 ^ 48
  | none => 0

/-- The power of a tap. -/
def tapPower (h : Int × Int) : Nat := (h.1 * h.1 + h.2 * h.2).toNat

/-- Position of the largest power. -/
def peakTap (ps : List Nat) : Nat :=
  (ps.zipIdx.foldl (fun (a : Nat × Nat) q => if a.1 < q.1 then (q.1, q.2) else a) (0, 0)).2

/-- A first path (R139): tap, position in RTU from the window's start, and the strongest tap. -/
structure FirstPath where
  /-- first tap at or above the threshold -/
  i : Nat
  /-- first path in RTU -/
  fp : Int
  /-- strongest tap -/
  p : Nat

/-- The first path of R139 over tap powers, with the noise power sum / cnt, the threshold in 0.25 dB and the search-back window. -/
def firstPath (ps : List Nat) (sum cnt thr w : Nat) : Option FirstPath :=
  let p := peakTap ps
  let past := fun x => decide (sum * pow10q thr ≤ x * cnt * 1000000000000000)
  if !past (ps.getD p 0) then none
  else
    match ((List.range (min w p + 1)).map (fun k => p - min w p + k)).find? (fun i => past (ps.getD i 0)) with
    | none => none
    | some i =>
      let mi := magQ (ps.getD i 0)
      let mb := if i = 0 then 0 else magQ (ps.getD (i - 1) 0)
      let at_ := isqrt (sum * pow10q thr * 2 ^ 32 / (cnt * 1000000000000000))
      let f := if mi ≤ mb then 0 else min 128 (divRound (128 * (at_ - mb)) (mi - mb))
      some { i := i, fp := 128 * ((i : Int) - 1) + (f : Nat), p := p }

/-- Noise of the preamble CIR (R139): the 128 taps that end 64 taps before tap p - W, cyclically. -/
def preNoise (ps : List Nat) (w : Nat) : Nat :=
  let p := peakTap ps
  (List.range 128).foldl (fun a k => a + ps.getD ((p + 4 * 508 - w - 64 - k) % 508) 0) 0

/-- Noise of a half's window (R139): taps 0 to 31. -/
def halfNoise (ps : List Nat) : Nat := (ps.take 32).foldl (· + ·) 0

/-- The power of FS in the units of a tap (R145). -/
def fsPower : Nat := 2 ^ 40

/-- What a lane gives for a frame (R139 to R141, R145): its report without corrections, with the raw arrival of the reference chip in half RTU. -/
structure LaneResult where
  /-- report, timestamp 0 -/
  rep : LaneReport
  /-- raw arrival in half RTU, where there is a timestamp -/
  raw2 : Option Int
  /-- a sequence result failed -/
  failed : Bool

/-- The flags of a lane report (R154). -/
def laneFlags (valid halfT halfP pre nofp sat lost noseq : Bool) : Nat :=
  b2n valid + 2 * b2n halfT + 4 * b2n halfP + 8 * b2n pre + 16 * b2n nofp + 32 * b2n sat + 64 * b2n lost + 128 * b2n noseq

/-- LQF of R145 from the SNR and peak-to-first ratio in 0.25 dB. -/
def lqfOf (snr pfr : Int) : Nat :=
  (max 0 (min 255 (2 * (snr - 24) - max 0 (pfr - 12)))).toNat

/-- The figures of R145 from a CIR, its noise and its first path. -/
def figures (taps : List (Int × Int)) (ps : List Nat) (sum cnt : Nat) (f : Option FirstPath) : LaneReport :=
  let n := dbQ sum (cnt * fsPower)
  let rxp := dbQ (ps.foldl (· + ·) 0) fsPower
  match f with
  | none => { noise := clampI 16 n, rxp := clampI 16 rxp }
  | some q =>
    let fpp := dbQ (ps.getD q.i 0) fsPower
    let pfr := dbQ (ps.getD q.p 0) (ps.getD q.i 0)
    let h := taps.getD q.i (0, 0)
    { noise := clampI 16 n, rxp := clampI 16 rxp, fpp := clampI 16 fpp, snr := clampI 16 (fpp - n), pfr := clampI 16 pfr,
      lqf := lqfOf (fpp - n) pfr, phase := arg16 h.1 h.2 }

/-- A lane's result for a frame without a ranging sequence (R141). -/
def State.laneA (s : State) (o : LaneObs) (lost : Bool) : LaneResult :=
  let w := s.conf 0x2441 0x2441 2
  let ps := o.pre.map tapPower
  let sum := preNoise ps w
  let f := firstPath ps sum 128 (s.conf 0x2441 0x2441 1) w
  let r := figures o.pre ps sum 128 f
  { rep := { r with flags := laneFlags false false false false f.isNone (decide (20 < o.sat)) lost true },
    raw2 := if lost then none else f.map (fun q => 2 * (128 * (o.preAt : Int) + q.fp + 36576 * 128)), failed := false }

/-- The mean of two CIRs. -/
def meanCir (a b : List (Int × Int)) : List (Int × Int) := (a.zip b).map (fun q => ((q.1.1 + q.2.1) / 2, (q.1.2 + q.2.2) / 2))

/-- A lane's result for a frame with a ranging sequence (R139 to R142); hasKey says that its context holds a sequence key. -/
def State.laneB (s : State) (o : LaneObs) (lost hasKey : Bool) : LaneResult :=
  let w := s.conf 0x2441 0x2441 2
  let thr := s.conf 0x2441 0x2441 1
  let pp := o.pre.map tapPower
  let pf := firstPath pp (preNoise pp w) 128 thr w
  let sat := decide (20 < o.sat)
  match pf with
  | none => { rep := { flags := laneFlags false false false false true sat lost false }, raw2 := none, failed := true }
  | some q =>
    let nom := 128 * (o.preAt : Int) + q.fp + 37088 * 128
    let start := fun (h : Int) => (nom + h) / 128 - 64
    let pe := o.early.map tapPower
    let pl := o.late.map tapPower
    let fe := firstPath pe (halfNoise pe) 32 thr w
    let fl := firstPath pl (halfNoise pl) 32 thr w
    let m := meanCir o.early o.late
    let pm := m.map tapPower
    let fm := firstPath pm (halfNoise pm) 32 thr w
    let r := figures m pm (halfNoise pm) 32 fm
    match hasKey, fe, fl with
    | true, some a, some b =>
      let x := a.fp + 128 * start 0 - nom
      let y := b.fp + 128 * start (8704 * 128) - nom - 8704 * 128
      let half := clampI 16 (x - y)
      let okT := decide ((x - y).natAbs ≤ s.conf 0x2441 0x2441 3)
      let okP := decide ((dbQ (pe.getD a.i 0) fsPower - dbQ (pl.getD b.i 0) fsPower).natAbs ≤ s.conf 0x2441 0x2441 4)
      let pre := decide ((2 * s.conf 0x2441 0x2441 5 : Nat) < x + y)
      let ok := okT && okP && !lost
      { rep := { r with half := half, flags := laneFlags ok (!okT) (!okP) pre false sat lost false },
        raw2 := if ok then some (2 * nom + x + y) else none, failed := !(okT && okP) }
    | _, _, _ =>
      { rep := { noise := r.noise, rxp := r.rxp, flags := laneFlags false false false false true sat lost false }, raw2 := none, failed := hasKey }

/-- Subindex of a per-channel calibration object: odd channel 5, even channel 9 (R154). -/
def chSub (base chan : Nat) : Nat := base + (if chan = 9 then 1 else 0)

/-- The RX timestamp of R148 from a raw arrival in half RTU. -/
def State.rxStamp (s : State) (lane chan : Nat) (raw2 : Int) : Nat :=
  let d := s.confI 32 0x2601 0x2601 (chSub (2 * lane + 1) chan)
  let k := s.confI 16 0x2601 0x2604 1
  let t := (nth {} s.phy.fes lane).temp
  twos 40 (divRoundI (200 * raw2 - 400 * d - k * (t - 100)) 400)

/-- The TX timestamp of R148 of a frame whose reference chip has a TX index. -/
def State.txStamp (s : State) (chan idx : Nat) : Nat :=
  let d := s.confI 32 0x2601 0x2602 (chSub 1 chan)
  let k := s.confI 16 0x2601 0x2604 2
  let t := (nth {} s.phy.fes 0).temp
  twos 40 (divRoundI (400 * (128 * (idx : Int) + d) + k * (t - 100)) 400)

/-- The first-path phase of R148. -/
def State.phaseOff (s : State) (lane chan : Nat) (ph : Int) : Int :=
  if lane = 0 then ph else untwos 16 (twos 16 (ph - s.confI 16 0x2601 0x2603 (chSub (2 * lane - 1) chan)))

/-- The centre frequency of a channel in Hz (R125). -/
def chanHz (chan : Nat) : Nat := if chan = 9 then 7987200000 else 6489600000

/-- The clock offset of R144 in ppb. -/
def clockOffset (carrier : Int) (chan : Nat) : Int := divRoundI (carrier * 1000000000) (chanHz chan)

/-- The carrier estimate lies within 30 ppm of the channel centre (R143). -/
def carrierOk (carrier : Int) (chan : Nat) : Bool := decide (carrier.natAbs * 1000000 ≤ 30 * chanHz chan)

/-- A consistent channel configuration (R126, R155). -/
def State.chanConsistent (s : State) : Bool :=
  let m := s.obj 0x2401 1
  let p := s.obj 0x2401 2
  if m = 0 then bit p 0 else if m = 1 then bit p 1 else true

/-- A consistent calibration snapshot (R155). -/
def State.calConsistent (s : State) : Bool :=
  [0, 1, 2].all (fun n => [5, 9].all (fun ch =>
    decide (0 ≤ s.objI 32 0x2601 (chSub (2 * n + 1) ch) + s.objI 32 0x2602 (chSub 1 ch))))

/-- A front-end write (R122). -/
def feWrite (cs reg v : Nat) : FeTxn := { cs := cs, w0 := 256 * reg, w1 := v }

/-- The write of a new TX power that a snapshot finds (R122, R154). -/
def State.newPower (s t : State) : List FeTxn :=
  if (kvGet? s.snaps 0x24C3).isNone || s.conf 0x24C3 0x24C3 4 == t.conf 0x24C3 0x24C3 4 then [] else [feWrite 1 0x03 (t.conf 0x24C3 0x24C3 4)]

/-- The ranging group's snapshots at a round or frame (R22, R155); a new TX power goes to front end 0 (R122, R154). -/
def State.phySnapshots (s : State) : State :=
  let s1 := s.snapshot 0x2401 0x2401 0x2401 s.chanConsistent 0x04 0x240C (256 * 0x2401 + 1)
  let s2 := s1.snapshot 0x2601 0x2601 0x2604 s1.calConsistent 0x04 0x240C (256 * 0x2601 + 1)
  let s3 := (s2.snapshot 0x2441 0x2441 0x2442 true 0x04 0x240C 0).snapshot 0x24C3 0x24C3 0x24C3 true 0x04 0x240C 0
  match s.newPower s3 with
  | [] => s3
  | l => { s3 with phy := { s3.phy with feOut := l } }

/-- The Mode writes of a channel and lane mode (R122): TX enable on front end 0 only. -/
def modeWrites (lane chan : Nat) : List FeTxn :=
  let v := 1024 * lane + 256 + b2n (chan == 9)
  [feWrite 1 0x01 (v + 512), feWrite 6 0x01 v]

/-- The Mode write that gives receive lane n, or with n = 3 the TX lane's front end, a lane mode (R115, R118). -/
def laneWrite (n mode chan : Nat) : FeTxn :=
  let fe := if n = 3 then 0 else n
  feWrite (2 ^ fe) 0x01 (1024 * mode + 512 * b2n (fe == 0) + 256 + b2n (chan == 9))

/-- Front-end writes that wait for a moment without round and receive window (R123). -/
def State.feIssue (s : State) (l : List FeTxn) : State :=
  if s.phy.round || s.phy.window then { s with phy := { s.phy with deferredFe := s.phy.deferredFe ++ l } }
  else { s with phy := { s.phy with feOut := l } }

/-- RX gain on all three front ends (R123). -/
def State.setGain (s : State) (g : Nat) : State :=
  if s.phy.gain = g then s else { s with phy := { s.phy with gain := g, feOut := [feWrite 7 0x02 g] } }

/-- The gain code of R124 for a partner's hint, or for an open slot. -/
def State.gainFor (s : State) (hint : Option Nat) : Nat :=
  if s.conf 0x24C3 0x24C3 1 = 1 then s.conf 0x24C3 0x24C3 2 else hint.getD (s.conf 0x24C3 0x24C3 3)

/-- The hint of a partner after a frame (R124): saturated lanes lower it by 6 dB, a weak strongest lane raises it by 2 dB. -/
def nextHint (old : Nat) (saturated : Bool) (peak : Int) : Nat :=
  if saturated then old - 3 else if peak < -120 then min 31 (old + 1) else old

/-- The strongest lane's peak in 0.25 dBFS, from the first-path power and the peak-to-first ratio. -/
def strongest (l : List LaneReport) : Int := l.foldl (fun a r => max a (r.fpp + r.pfr)) (-32768)

/-- The other channel. -/
def otherChan (c : Nat) : Nat := if c = 9 then 5 else 9

/-- Whether a channel is permitted. -/
def State.chanPermitted (s : State) (c : Nat) : Bool := bit (s.conf 0x2401 0x2401 2) (b2n (c == 9))

/-- The channel of the next round and the cause of a change (R126, R127). -/
def State.chanChoice (s : State) : Nat × Nat :=
  let m := s.conf 0x2401 0x2401 1
  let c := s.phy.chan
  let only := if s.chanPermitted 9 then 9 else 5
  if m = 0 then (5, 4) else if m = 1 then (9, 4)
  else if m = 2 then (if s.chanPermitted (otherChan c) && s.chanPermitted c then (otherChan c, 1) else (only, 4))
  else
    let held : Bool := match s.phy.lastSwitch with
      | some t => decide (t + s.conf 0x2401 0x2401 4 * msNs ≤ s.now)
      | none => true
    if !s.chanPermitted c then (only, 4)
    else if held && s.chanPermitted (otherChan c) && decide (3 ≤ s.phy.lowRun) then (otherChan c, 2)
    else if held && s.chanPermitted (otherChan c) && s.phy.noiseRun.any (fun n => decide (3 ≤ n)) then (otherChan c, 3)
    else (c, 0)

/-- The channel is chosen when a full telegram is composed (R126). -/
def State.chooseChannel (s : State) : State :=
  let s0 := s.phySnapshots
  let q := s0.chanChoice
  if q.1 = s0.phy.chan then s0
  else
    let adaptive := q.2 == 2 || q.2 == 3
    let p := { s0.phy with
      chan := q.1, changes := satAdd 32 s0.phy.changes 1, lowRun := 0, noiseRun := [0, 0, 0],
      lastSwitch := if adaptive then some s0.now else s0.phy.lastSwitch }
    ({ s0 with phy := p }.feIssue (s.newPower s0 ++ modeWrites 3 q.1)).emit 0x04 0x2405 (q.1 + 256 * q.2)

/-- A lane serves. -/
def State.laneUp (s : State) (n : Nat) : Bool := (nth ({} : Lane) s.phy.lanes n).state == 3

/-- Replaces a lane's state. -/
def State.setLane (s : State) (n st : Nat) : State :=
  { s with phy := { s.phy with lanes := setAt s.phy.lanes n { nth {} s.phy.lanes n with state := st } } }

/-- The states that the lanes give the sample ports and the group (R151, R153, R466); no round can be keyed once channel 7 has stopped
(R332). -/
def State.lanesState (s : State) : State :=
  if s.ownState 0x25 == stOff || s.ownState 0x25 == stStopped || s.ownState 0x25 == stStarting then s
  else
    let rx := (s.laneUp 0 || s.laneUp 1 || s.laneUp 2)
    let all := s.laneUp 0 && s.laneUp 1 && s.laneUp 2
    let can := s.laneUp 3 && rx && !s.sup.rc && !s.sup.pllS && !s.sup.serLow
    let two := decide (2 ≤ ([3, 4, 5, 6].filter (fun n => s.lasting n)).length)
    let s1 := s.setUnit 0x25 (if !can || s.lasting 0x0C then stFailed else if all then stRunning else stDegraded)
    s1.setUnit 0x04 (if !can || s.lasting 0x0C || two || s.rngStopped 7 then stFailed else stRunning)

/-- Whether ranging can run. -/
def State.rangingOk (s : State) : Bool :=
  s.powered && (s.unitState 0x04 == stRunning || s.unitState 0x04 == stDegraded) && s.serving 0x25 && !s.sup.hot

/-- Angle of arrival needs all three receive lanes (R151). -/
def State.angleOk (s : State) : Bool := s.rangingOk && s.laneUp 0 && s.laneUp 1 && s.laneUp 2

/-- A front end is absent or excluded: its lanes are EXCLUDED (R151, R153). -/
def State.excludeFe (s : State) (n : Nat) : State :=
  let s1 := s.setLane n 5
  if n = 0 then s1.setLane 3 5 else s1

/-- RANGING_START_UP (R153). -/
def State.rangingStart (s : State) (o : FrontEndObs) : State :=
  if !s.powered || s.ownState 0x25 != stStarting || s.sup.hot then s
  else if s.sup.rc || s.sup.pllS || s.sup.serLow then
    (([0x26, 0x27, 0x28, 0x2A, 0x2B, 0x2C, 0x2D].foldl (fun t u => t.setUnit u stRunning) s).setUnit 0x25 stFailed).setUnit 0x04 stFailed
  else
    let s0 := s.phySnapshots
    let q := s0.chanChoice
    let word := fun (l : List Word) n => (nth (0 : Word) l n).toNat
    let fe := fun n =>
      let id := word o.ids n
      let st := word o.status n
      ({ id := id, status := st, temp := nth 0 o.temps n, absent := id / 256 != 0xC5, fault := !bit st 15 || st &&& 0x1C00 != 0 } : FrontEnd)
    let fes := [fe 0, fe 1, fe 2]
    let good := fun n => let f := nth ({} : FrontEnd) fes n; !f.absent && !f.fault
    let lane := fun n => ({ state := if !good n then 5 else if nth false o.aligned n && nth false o.inPosition n && bit (word o.status n) 14 then 3 else 4 } : Lane)
    let lanes := [lane 0, lane 1, lane 2, { state := if good 0 then 3 else 5 }]
    let seq := [feWrite 7 0x06 0xA5C3] ++ modeWrites 1 q.1 ++ [feWrite 7 0x02 (s0.conf 0x24C3 0x24C3 3), feWrite 1 0x03 (s0.conf 0x24C3 0x24C3 4)] ++ modeWrites 3 q.1
    let p := { s0.phy with
      chan := q.1, origin := some s0.now, fes := fes, lanes := lanes, floors := o.floors.take 3, gain := s0.conf 0x24C3 0x24C3 3, feOut := seq, deferredFe := [] }
    let s1 := { s0 with phy := p }
    let s2 := [0, 1, 2].foldl (fun (t : State) n =>
      let f := nth ({} : FrontEnd) fes n
      if f.absent then t.emit 0x28 0x2404 n
      else if f.fault && bit f.status 15 then (t.emit 0x28 0x2403 (65536 * n + f.status)).charge (9 + n) 0x25 0x2403 else t) s1
    let s3 := [0x25, 0x26, 0x27, 0x28, 0x2A, 0x2B, 0x2C, 0x2D].foldl (fun (t : State) u => t.setUnit u stRunning) s2
    let s4 := [0x03, 0x04, 0x05, 0x06].foldl (fun (t : State) n => if t.lasting n then (t.setUnit (0x2A + (n - 3)) stFailed).setLane (if n = 6 then 0 else n - 3) 5 else t) s3
    let s5 := [0, 1, 2].foldl (fun (t : State) n => if t.lasting (9 + n) then t.setLane n 5 else t) s4
    s5.lanesState

/-- RESYNCHRONISE (R154). -/
def State.resynchronise (s : State) : State := { s with phy := { s.phy with resync := true } }

/-- FE_SYNC (R116), with no round running: lanes whose markers come into position stream. -/
def State.feSync (s : State) (inPos : List Bool) : State :=
  if !s.phy.resync || s.phy.round || !s.powered || s.sup.rc then s
  else
    let lane := fun (x : Lane) n => if x.state = 5 || x.state = 0 then x else { x with back := false, state := if nth false inPos n then 3 else 4 }
    let ls := s.phy.lanes
    let lanes := [lane (nth {} ls 0) 0, lane (nth {} ls 1) 1, lane (nth {} ls 2) 2, nth {} ls 3]
    { s with phy := { s.phy with resync := false, lanes := lanes, feOut := modeWrites 3 s.phy.chan } }.lanesState

/-- LANE_DOWN (R118, R151). Fewer than 16 code errors between two markers only count. A loss of lock, or of the markers of a lane that has
returned, asks for FE_SYNC. -/
def State.laneDown (s : State) (n : Nat) (why : LaneLoss) : State :=
  if !s.laneUp n then s
  else
    let x := nth {} s.phy.lanes n
    let errs := match why with
      | .codeErrors k => k
      | _ => 0
    let x1 := { x with codeErrs := satAdd 32 x.codeErrs errs }
    let down : Bool := match why with
      | .codeErrors k => decide (16 ≤ k)
      | _ => true
    let cause := match why with
      | .codeErrors _ => 1
      | .marker => 2
      | .frontEnd => 3
    if !down then { s with phy := { s.phy with lanes := setAt s.phy.lanes n x1 } }
    else
      let x2 := { x1 with state := 4, lost := s.phy.rx.isSome }
      let s1 := ({ s with phy := { s.phy with lanes := setAt s.phy.lanes n x2, resync := s.phy.resync || cause == 3 || (cause == 2 && x.back) } }).feIssue [laneWrite n 1 s.phy.chan]
      ((s1.emit 0x25 0x2401 (n + 256 * cause)).charge (9 + n) 0x25 0x2401).lanesState

/-- LANE_UP (R118): a lane that is DOWN has realigned. -/
def State.laneUpAgain (s : State) (n : Nat) : State :=
  let x := nth {} s.phy.lanes n
  if x.state ≠ 4 || !s.powered || s.sup.rc then s
  else
    let s1 := ({ s with phy := { s.phy with lanes := setAt s.phy.lanes n { x with state := 3, back := true, realigns := satAdd 32 x.realigns 1 } } }).feIssue [laneWrite n 3 s.phy.chan]
    (s1.emit 0x25 0x2402 n).lanesState

/-- PREAMBLE_DETECTION (R138): power above the idle noise floor by 12 dB on a lane that serves, in an open window, with no frame in reception. -/
def State.preamble (s : State) (lane phase : Nat) (power : Int) : State :=
  if s.rangingOk && s.phy.window && s.phy.rx.isNone && decide (lane < 3) && s.laneUp lane && decide (nth 0 s.phy.floors lane + 48 < power) then
    { s with phy := { s.phy with
      rx := some { lane := lane, phase := phase % 508, at_ := s.now }, detected := satAdd 32 s.phy.detected 1,
      lanes := s.phy.lanes.map (fun x => { x with lost := false }) } }
  else s

/-- SFD_TIMEOUT (R138): 64 symbols after the detection. -/
def State.sfdTimeout (s : State) : State :=
  match s.phy.rx with
  | some r => if s.now < r.at_ + 65128 then s else { s with phy := { s.phy with rx := none, sfdTimeouts := satAdd 32 s.phy.sfdTimeouts 1 } }
  | none => s

/-- The header of a frame: its payload length, or the step of R137 that fails (1 CRC, 2 version). -/
def headerOf (soft : List Int) : Nat × Option Nat :=
  let b := viterbi (soft.take 60)
  let body := packBits (b.take 16)
  if crc8 body ≠ natOfBits (b.drop 16) then (0, some 1)
  else if natOfBits ((b.drop 8).take 4) ≠ 1 then (0, some 2)
  else (natOfBits (b.take 8), none)

/-- The payload of a frame where its CRC-16 verifies. -/
def payloadOf (soft : List Int) (len : Nat) : Option Bytes :=
  if len = 0 then some []
  else
    let b := viterbi (soft.take (codedLen len))
    let p := packBits (b.take (8 * len))
    if crc16 p = natOfBits (b.drop (8 * len)) then some p else none

/-- FRAME_DELIVERY (R137 to R145): header, version and payload are checked; a delivered frame waits for the session layer. hasKey says that
the partner's context holds a sequence key, ctx is the context parameter of R155. -/
def State.frameDelivery (s : State) (f : FrameObs) (hasKey : Bool) (ctx : Nat) : State :=
  match s.phy.rx with
  | none => s
  | some _ =>
    if !s.rangingOk then { s with phy := { s.phy with rx := none } }
    else
      let p0 := { s.phy with rx := none, correlated := satAdd 32 s.phy.correlated 1, sfdB := satAdd 32 s.phy.sfdB (b2n f.sfdB) }
      let s0 := { s with phy := p0 }
      let h := headerOf f.header
      if !carrierOk f.carrier s.phy.chan || f.residual then
        { s0 with phy := { p0 with trackLost := satAdd 32 p0.trackLost 1 } }.emit 0x27 0x2409 ctx
      else if h.2 = some 1 then { s0 with phy := { p0 with hdrFails := satAdd 32 p0.hdrFails 1 } }
      else if h.2 = some 2 then { s0 with phy := { p0 with verRejects := satAdd 32 p0.verRejects 1 } }
      else match payloadOf f.payload h.1 with
        | none => { s0 with phy := { p0 with payFails := satAdd 32 p0.payFails 1 } }
        | some pay =>
          let res := (List.range 3).map (fun n =>
            let o := nth { pre := [], preAt := 0 } f.lanes n
            let lost := !s.laneUp n || (nth ({} : Lane) s.phy.lanes n).lost
            let r := if f.sfdB then s.laneB o lost hasKey else s.laneA o lost
            let ts := match r.raw2 with
              | some x => s.rxStamp n s.phy.chan x
              | none => 0
            ({ r.rep with ts := ts, phase := s.phaseOff n s.phy.chan r.rep.phase }, r))
          let reps := res.map (·.1)
          let mask := fun (c : LaneReport × LaneResult → Bool) => (res.zipIdx).foldl (fun a q => if c q.1 then a + 2 ^ q.2 else a) 0
          let bad := mask (fun q => q.2.failed)
          let sat := mask (fun q => bit q.1.flags 5)
          let pre := (res.filter (fun q => bit q.1.flags 3)).length
          let fails := (res.filter (fun q => bit q.1.flags 1 || bit q.1.flags 2)).length
          let hb := viterbi (f.header.take 60)
          let errs := reencodeErrors f.header hb + (if h.1 = 0 then 0 else reencodeErrors f.payload (payloadBits pay))
          let first := (f.lanes.head?.map (·.preAt)).getD 0
          let p1 := { p0 with
            halfFails := satAdd 32 p0.halfFails fails, preMis := satAdd 32 p0.preMis pre,
            co := clockOffset f.carrier s.phy.chan, carrier := f.carrier, evm := pilotEvm f.pilots, reenc := min 65535 errs,
            payLen := h.1, frameChan := s.phy.chan, reports := reps, sat := (List.range 3).map (fun n => (nth { pre := [], preAt := 0 } f.lanes n).sat),
            delivered := some { sfdB := f.sfdB, payload := pay, lanes := reps, co := clockOffset f.carrier s.phy.chan, at_ := s.now,
                                idx := first + refChip f.sfdB } }
          let s1 := { s0 with phy := p1 }
          (s1.emitIf (f.sfdB && bad != 0) 0x26 0x2406 (ctx + 65536 * bad)).emitIf (sat != 0) 0x26 0x2407 (ctx + 65536 * sat)

/-- NOISE_MEASUREMENT (R146): NOISE_HIGH at the third consecutive measurement above the alarm level on a lane. -/
def State.noise (s : State) (floors : List Int) : State :=
  if !s.rangingOk || s.phy.window then s
  else
    let alarm := untwos 16 (s.conf 0x2441 0x2442 4)
    let run := (List.range 3).map (fun n => if alarm < nth 0 floors n then min 255 (nth 0 s.phy.noiseRun n + 1) else 0)
    let s1 := { s with phy := { s.phy with floors := (List.range 3).map (fun n => clampI 16 (nth 0 floors n)), noiseRun := run } }
    [0, 1, 2].foldl (fun (t : State) n => t.emitIf (nth 0 run n == 3) 0x26 0x2408 (n + 256 * t.phy.chan + 65536 * twos 16 (nth 0 floors n))) s1

/-- FRONT_END_TEMPERATURE_READ (R148). -/
def State.feTemps (s : State) (temps : List Int) : State :=
  if !s.powered then s
  else { s with phy := { s.phy with fes := (s.phy.fes.zipIdx).map (fun q => { q.1 with temp := clampI 16 (nth q.1.temp temps q.2) }) } }

/-- DEFERRED_FRONT_END_WRITE (R123). -/
def State.deferredWrite (s : State) : State :=
  if s.phy.round || s.phy.window || s.phy.deferredFe.isEmpty then s
  else { s with phy := { s.phy with feOut := s.phy.deferredFe, deferredFe := [] } }

/-- FRONT_END_STATUS_READ (R118, R151): a loss of PLL lock or lane training takes the lanes DOWN. -/
def State.feStatus (s : State) (n st : Nat) : State :=
  if !(s.powered && n < 3) || s.ownState 0x28 == stStarting then s
  else
    let f := nth ({} : FrontEnd) s.phy.fes n
    let bad := st &&& 0x1C00 != 0
    let put := fun (x : FrontEnd) (t : State) => { t with phy := { t.phy with fes := setAt t.phy.fes n { x with status := st } } }
    if bad then
      if f.fault then put { f with clearAt := none } s
      else
        let s1 := (put { f with fault := true, clearAt := none } s).excludeFe n
        let s2 := (s1.emit 0x28 0x2403 (65536 * n + st)).charge (9 + n) 0x25 0x2403
        (if n = 0 && bit st 10 then s2.charge 0x0C 0x25 0x2403 else s2).lanesState
    else if !f.fault then
      let s1 := put f s
      if bit st 15 && bit st 14 then s1
      else (s1.laneDown n .frontEnd).laneDown (if n = 0 && !bit st 15 then 3 else n) .frontEnd
    else match f.clearAt with
      | none => put { f with clearAt := some s.now } s
      | some t =>
        if s.now < t + 100 * msNs then put f s
        else
          let s1 := put { f with fault := false, clearAt := none } s
          let back := fun (u : State) k => if u.lasting (9 + k) || f.absent then u else u.setLane k (if k = 3 then 3 else 2)
          let s2 := back s1 n
          { (if n = 0 then back s2 3 else s2) with phy := { (if n = 0 then back s2 3 else s2).phy with resync := true } }.lanesState

/-- CALIBRATION_START (R149, R150), with whether the reference row holds a ranging-sequence key. -/
def State.calStart (s : State) (hasKey : Bool) : State × Nat :=
  if s.phy.cal.isSome || !hasKey then (s, abSequence)
  else ({ s with phy := { s.phy with cal := some { row := s.obj 0x2605 5, chan := s.phy.chan }, calStatus := 1 } }, abOk)

/-- A two-way ranging round of the calibration run ends: ToF by lane in 1/16 RTU where valid, and uncorrected phase differences to lane 0. -/
def State.calRound (s : State) (tofs : List (Option Int)) (phases : List (Option Int)) : State :=
  match s.phy.cal with
  | none => s
  | some c =>
    let add := fun (l : List (List Int)) (v : List (Option Int)) => (l.zip v).map (fun q => match q.2 with
      | some x => q.1 ++ [x]
      | none => q.1)
    { s with phy := { s.phy with cal := some { c with made := c.made + 1, tofs := add c.tofs tofs, phases := add c.phases phases } } }

/-- Sum of integers. -/
def sumI (l : List Int) : Int := l.foldl (· + ·) 0

/-- n^2 times the variance of a list of n integers. -/
def spread2 (l : List Int) : Nat := ((l.length : Int) * sumI (l.map (fun x => x * x)) - sumI l * sumI l).toNat

/-- The standard deviation of ToF values in 1/16 RTU, in RTU. -/
def spreadOf (l : List Int) : Nat := if l.isEmpty then 0 else isqrt (spread2 l) / (16 * l.length)

/-- The new RX delay of a lane (R149). -/
def State.calDelay (s : State) (c : CalRun) (n : Nat) : Int :=
  let l := nth [] c.tofs n
  let k : Int := l.length
  let d : Int := (s.obj 0x2605 1 + s.obj 0x2605 (n + 1) : Nat)
  s.objI 32 0x2601 (chSub (2 * n + 1) c.chan) + divRoundI (sumI l * 46917 - 8 * k * d * 10000) (8 * l.length * 46917)

/-- The new phase offset of a lane (R149). -/
def State.calPhase (s : State) (c : CalRun) (n : Nat) : Int :=
  let l := nth [] c.phases (n - 1)
  let lam := if c.chan = 9 then 37534 else 46196
  let d : Int := (s.obj 0x2605 (n + 1) : Int) - (s.obj 0x2605 1 : Int)
  let mean := divRoundI (sumI l) l.length
  untwos 16 (twos 16 (mean - divRoundI (65536 * d * 1000) lam))

/-- CALIBRATION_DONE (R149): all values at once, or none. -/
def State.calDone (s : State) : State :=
  match s.phy.cal with
  | none => s
  | some c =>
    let rounds := s.obj 0x2605 4
    if c.made < rounds || s.fenced then s
    else
      let bad := c.tofs.any (fun l => decide (2 * l.length < rounds) || decide ((64 * 16 * l.length) ^ 2 < spread2 l))
      let spread := c.tofs.foldl (fun a l => max a (spreadOf l)) 0
      let fin := fun (t : State) (st : Nat) => { t with phy := { t.phy with cal := none, calStatus := st, calSpread := min 65535 spread } }
      if bad then (fin s 3).emit 0x04 0x240A (1 + 256 * c.chan)
      else
        let s1 := [0, 1, 2].foldl (fun (t : State) n => t.commitObj 0x2601 (chSub (2 * n + 1) c.chan) (twos 32 (s.calDelay c n))) s
        let s2 := [1, 2].foldl (fun (t : State) n => t.commitObj 0x2603 (chSub (2 * n - 1) c.chan) (twos 16 (s.calPhase c n))) s1
        (fin s2 2).emit 0x04 0x240A (256 * c.chan)

/-- A round's lane results for the adaptive choice (R127): the median LQF against the threshold. -/
def State.roundLqf (s : State) (l : List Nat) : State :=
  if l.isEmpty then { s with phy := { s.phy with lowRun := 0 } }
  else
    let sorted := l.foldl (fun (acc : List Nat) x => acc.takeWhile (· ≤ x) ++ [x] ++ acc.dropWhile (· ≤ x)) []
    let med := sorted.getD (sorted.length / 2) 0
    { s with phy := { s.phy with lowRun := if med < s.conf 0x2401 0x2401 3 then min 3 (s.phy.lowRun + 1) else 0 } }

end Sys2Proof.Machine
end

