-- ==== Sys2Proof/Machine/Locator.lean ====
section
/-! DEFINITION. The locator (R201 to R218, R250): zone maps, positions from radio and LF field, zones and relay tests. Lengths are in 1/1024 mm, levels in
1/256 dB, directions in 2^-30 (log entry 22). -/

namespace Sys2Proof.Machine

open Sys2Proof

/-- Byte at an offset of a map. -/
def mapU8 (m : Bytes) (o : Nat) : Nat := (m.getD o 0).toNat

/-- U16 at an offset of a map. -/
def mapU16 (m : Bytes) (o : Nat) : Nat := mapU8 m o + 256 * mapU8 m (o + 1)

/-- I16 at an offset of a map. -/
def mapI16 (m : Bytes) (o : Nat) : Int := untwos 16 (mapU16 m o)

/-- U32 at an offset of a map. -/
def mapU32 (m : Bytes) (o : Nat) : Nat := mapU16 m o + 65536 * mapU16 m (o + 2)

/-- A point or vector. -/
structure Vec where
  /-- x -/
  x : Int
  /-- y -/
  y : Int
  /-- z -/
  z : Int
  deriving DecidableEq, Repr

/-- Sum. -/
def Vec.add (a b : Vec) : Vec := ⟨a.x + b.x, a.y + b.y, a.z + b.z⟩
/-- Difference. -/
def Vec.sub (a b : Vec) : Vec := ⟨a.x - b.x, a.y - b.y, a.z - b.z⟩
/-- Multiple. -/
def Vec.scale (k : Int) (a : Vec) : Vec := ⟨k * a.x, k * a.y, k * a.z⟩
/-- Scalar product. -/
def Vec.dot (a b : Vec) : Int := a.x * b.x + a.y * b.y + a.z * b.z
/-- Vector product. -/
def Vec.cross (a b : Vec) : Vec := ⟨a.y * b.z - a.z * b.y, a.z * b.x - a.x * b.z, a.x * b.y - a.y * b.x⟩
/-- Quotient by a natural number, rounded. -/
def Vec.over (a : Vec) (n : Nat) : Vec := ⟨divRoundI a.x n, divRoundI a.y n, divRoundI a.z n⟩
/-- Squared length. -/
def Vec.norm2 (a : Vec) : Nat := (a.dot a).toNat
/-- Length. -/
def Vec.norm (a : Vec) : Nat := isqrt a.norm2

/-- Three I16 of a map as a vector in mm. -/
def mapVec (m : Bytes) (o : Nat) : Vec := ⟨mapI16 m o, mapI16 m (o + 2), mapI16 m (o + 4)⟩

/-- The used length U (R203). -/
def mapUsed (m : Bytes) : Nat := mapU16 m 6

/-- Cells of the correction grid. -/
def mapCells (m : Bytes) : Nat := mapU8 m 40 * mapU8 m 41 * mapU8 m 42

/-- Number of a zone entry's first byte. -/
def zoneAt (k : Nat) : Nat := 208 + 24 * k

/-- The entries of a map that are used zones. -/
def mapZones (m : Bytes) : List Nat := (List.range 32).filter (fun k => mapU8 m (zoneAt k) != 0)

/-- Bytes lo to hi - 1 of a map are 0x00. -/
def mapZero (m : Bytes) (lo hi : Nat) : Bool := (slice lo (hi - lo) m).all (· == 0)

/-- A value of an encoding table or stated range (R6, R204, R205). -/
def mapRanges (m : Bytes) : Bool :=
  let within := fun v lo hi => decide (lo ≤ v) && decide (v ≤ hi)
  within (mapU16 m 30) 50 500 && within (mapU16 m 32) 20 1000 && within (mapU16 m 34) 50 5000 &&
  within (mapU8 m 36) 1 32 && within (mapU8 m 37) 0 4 &&
  (if mapU16 m 38 = 0 then mapZero m 40 43 else within (mapU16 m 38) 100 2000) && within (mapU8 m 44) 0 1 &&
  (List.range 6).all (fun k => mapU8 m (88 + 12 * k + 8) == 0xFF || decide (mapU8 m (88 + 12 * k + 8) ≤ 3)) &&
  (mapZones m).all (fun k => decide (mapU8 m (zoneAt k + 1) ≤ 7) && decide (mapU16 m (zoneAt k + 18) ≤ 500) && mapU8 m (zoneAt k + 3) &&& 0x3F == mapU8 m (zoneAt k + 3))

/-- The checks of R206 on a written map. -/
def mapOk (m : Bytes) : Bool :=
  let u := mapUsed m
  m.take 4 == ascii "KZMP" && mapU16 m 4 == 1 && u == 980 + 6 * mapCells m && decide (mapCells m ≤ 2560) &&
  crc32 (m.take (u - 4)) == mapU32 m (u - 4) && mapZero m u 16384 &&
  mapZero m 43 44 && mapZero m 45 64 && mapZero m 82 88 &&
  (List.range 6).all (fun k => decide (mapU8 m (88 + 12 * k + 9) ≤ 1) && mapZero m (88 + 12 * k + 10) (88 + 12 * k + 12)) &&
  (List.range 4).all (fun k => mapZero m (160 + 12 * k + 9) (160 + 12 * k + 12)) &&
  (List.range 32).all (fun k => if mapU8 m (zoneAt k) = 0 then mapZero m (zoneAt k) (zoneAt k + 24) else mapZero m (zoneAt k + 20) (zoneAt k + 24)) &&
  mapU8 m 36 == (mapZones m).length && mapRanges m

/-- Baseline n of a map (R207). -/
def baseline (m : Bytes) (n : Nat) : Vec := (mapVec m (64 + 6 * n)).sub (mapVec m 64)

/-- min < max and within the bounds on an axis: a box's field at o, the bounds' at b. -/
def boxWithin (m : Bytes) (o b : Nat) : Bool :=
  [0, 4, 8].all (fun i =>
    decide (mapI16 m (b + i) ≤ mapI16 m (o + i)) && decide (mapI16 m (o + i) < mapI16 m (o + i + 2)) && decide (mapI16 m (o + i + 2) ≤ mapI16 m (b + i + 2)))

/-- The tests of R207, in order; 0 for a map that passes. -/
def State.mapCause (s : State) (m : Bytes) : Nat :=
  let p := mapVec m 12
  let b1 := baseline m 1
  let b2 := baseline m 2
  let lenOk := fun (b : Vec) => decide (256 ≤ 4 * b.norm2) && decide (4 * b.norm2 ≤ 1369)
  let within := fun (v : Int) o => decide (mapI16 m o ≤ v) && decide (v ≤ mapI16 m (o + 2))
  let screen := fun k => let n := (mapVec m (160 + 12 * k)).norm2; decide (9801 * 2 ^ 28 ≤ 10000 * n) && decide (10000 * n ≤ 10201 * 2 ^ 28)
  let gridOk := fun i => decide (mapI16 m (18 + 4 * i + 2) - mapI16 m (18 + 4 * i) ≤ ((mapU8 m (40 + i) * mapU16 m 38 : Nat) : Int))
  if !(within p.x 18 && within p.y 22 && within p.z 26) then 1
  else if !(mapZones m).all (fun k => boxWithin m (zoneAt k + 4) 18) then 2
  else if !((mapZones m).map (fun k => mapU8 m (zoneAt k))).Nodup then 3
  else if !(lenOk b1 && lenOk b2 && decide (4 * (b1.dot b2) * (b1.dot b2) ≤ (b1.norm2 * b2.norm2 : Nat))) then 4
  else if !(List.range (mapU8 m 37)).all screen then 5
  else if mapU16 m 38 != 0 && !(gridOk 0 && gridOk 1 && gridOk 2) then 6
  else if s.rr.lifecycle == lcField && !s.rr.map.isEmpty && decide (mapU32 m 8 ≤ mapU32 s.rr.map 8) then 7
  else 0

/-- The locator's snapshot at a round (R202, R207, R251): its configuration, and a committed map that awaits. -/
def State.locSnapshot (s : State) : State :=
  let s1 := s.snapshot 0x2802 0x2802 0x2802 (decide (s.obj 0x2802 4 < s.obj 0x2802 5)) 0x05 0x2805 (256 * 0x2802 + 4)
  if !s1.rr.mapWaits || s1.fenced then s1
  else
    let m := s1.objBytes 16384 0x2810 1
    let c := s1.mapCause m
    if c = 0 then
      { s1 with rr := { s1.rr with map := m, mapWaits := false }, loc := { s1.loc with cause := 0 } }.emit 0x05 0x2804 (mapU32 m 8)
    else
      ({ s1 with rr := { s1.rr with mapWaits := false }, loc := { s1.loc with cause := c } }.stick 0x05 6).emit 0x05 0x2805 (256 * 0x2810 + 1 + 16777216 * c)

/-- ZONE_MAP (R206): a written map commits and awaits the next snapshot. -/
def State.zoneMap (s : State) (data : Bytes) : State × Nat :=
  if mapOk data then
    let s1 := s.commitObj 0x2810 1 (leNat data)
    ({ s1 with rr := { s1.rr with mapWaits := true } }, abOk)
  else (s, abRange)

/-- A point of the map in the cab frame, 1/1024 mm (R204). -/
def mapPoint (m : Bytes) (o : Nat) : Vec := ((mapVec m o).sub (mapVec m 12)).scale 1024

/-- 10 log10 of a ratio in 1/256 dB. -/
def db256 (num den : Nat) : Int := divRoundI (log2Q num den * 7706368) (10000 * 2 ^ 24)

/-- What a tone says (R211): field, saturated, absent or not used. -/
inductive Tone where
  | field (m : Int) | saturated (m : Int) | absent | unused
  deriving DecidableEq, Repr

/-- Axis codes of tone k in an RSSI report. -/
def toneCodes (rssi : Bytes) (k : Nat) : List Nat := (slice (3 * k) 3 rssi).map (·.toNat)

/-- The tones of an RSSI report (R211), for a telegram on the antennas of a mask. -/
def tonesOf (rssi : Bytes) (step ants : Nat) : List Tone :=
  (List.range 6).map (fun k =>
    let c := toneCodes rssi k
    let sum := c.foldl (fun a x => if 1 ≤ x && x ≤ 254 then a + pow10q (2 * x) else a) 0
    let m := if sum = 0 then Config.logOfZero else db256 sum 1000000000000000 + 2560 + 6 * 256 * (step : Int)
    if !bit ants k then .unused
    else if c.any (· == 255) then .saturated m
    else if c.all (· == 0) then .absent
    else .field m)

/-- A tone has a field. -/
def Tone.field? : Tone → Option Int
  | .field m => some m
  | _ => none

/-- The predicted field of antenna k at a point (R212). -/
def State.predicted (s : State) (m : Bytes) (k : Nat) (p : Vec) : Int :=
  let o := 88 + 12 * k
  let a := mapPoint m o
  let r2 := max ((p.sub a).norm2) (102400 * 102400)
  let code := s.conf 0x2010 0x2012 (k + 1)
  let cur := if code = 0 then Config.logOfZero else 2 * db256 code 32
  let scr := mapU8 m (o + 8)
  let side := fun (q : Vec) =>
    (mapVec m (160 + 12 * scr)).dot (q.add ((mapVec m 12).scale 1024)) - mapI16 m (160 + 12 * scr + 6) * 1024 * 16384
  let att : Int := if decide (scr < mapU8 m 37) && (decide (0 < side p) != decide (0 < side a)) then 128 * (mapU8 m (160 + 12 * scr + 8) : Nat) else 0
  let step := mapU16 m 38
  let cell := fun (v : Int) i => (v + mapI16 m (12 + 2 * i) * 1024 - mapI16 m (18 + 4 * i) * 1024) / ((step : Int) * 1024)
  let ix := cell p.x 0
  let iy := cell p.y 1
  let iz := cell p.z 2
  let inGrid := step != 0 && decide (0 ≤ ix) && decide (0 ≤ iy) && decide (0 ≤ iz) && decide (ix < mapU8 m 40) && decide (iy < mapU8 m 41) && decide (iz < mapU8 m 42)
  let c := (ix.toNat + mapU8 m 40 * (iy.toNat + mapU8 m 41 * iz.toNat))
  let corr : Int := if inGrid then 128 * untwos 8 (mapU8 m (976 + 6 * c + k)) else 0
  64 * mapI16 m (o + 6) + cur - 3 * db256 r2 (1000000 * 2 ^ 20) - att + corr

/-- The error of a tone at a point (R213). -/
def State.toneError (s : State) (m : Bytes) (k : Nat) (t : Tone) (p : Vec) : Int :=
  match t with
  | .field x => x - s.predicted m k p
  | .saturated x => min 0 (x - s.predicted m k p)
  | .absent => max 0 (s.predicted m k p - 2688)
  | .unused => 0

/-- E of R213 at a point. -/
def State.lfCost (s : State) (m : Bytes) (ts : List Tone) (p : Vec) : Nat :=
  (ts.zipIdx).foldl (fun a q => a + ((s.toneError m q.2 q.1 p) ^ 2).toNat) 0

/-- The first of a list of points with the least cost. -/
def State.lfBest (s : State) (m : Bytes) (ts : List Tone) (l : List Vec) : Option (Vec × Nat) :=
  l.foldl (fun (b : Option (Vec × Nat)) p =>
    let e := s.lfCost m ts p
    match b with
    | some q => if e < q.2 then some (p, e) else b
    | none => some (p, e)) none

/-- A box of points, x fastest. -/
def boxPoints (xs ys zs : List Int) : List Vec := zs.flatMap (fun z => ys.flatMap (fun y => xs.map (fun x => ⟨x, y, z⟩)))

/-- The coordinates of the search grid on an axis (R213). -/
def gridAxis (m : Bytes) (i : Nat) : List Int :=
  let lo := mapI16 m (18 + 4 * i)
  let hi := mapI16 m (18 + 4 * i + 2)
  let st := mapU16 m 30
  (List.range ((hi - lo).toNat / st + 1)).map (fun n => (lo + (n * st : Nat) - mapI16 m (12 + 2 * i)) * 1024)

/-- Tones with a field. -/
def fieldCount (ts : List Tone) : Nat := (ts.filter (fun t => t.field?.isSome)).length

/-- P_lf (R213). -/
def State.lfPosition (s : State) (m : Bytes) (ts : List Tone) : Option Vec :=
  if fieldCount ts < 3 then none
  else
    match s.lfBest m ts (boxPoints (gridAxis m 0) (gridAxis m 1) (gridAxis m 2)) with
    | none => none
    | some q =>
      let near := fun (c : Int) => (List.range 9).map (fun (n : Nat) => c + ((n : Int) - 4) * 256 * ((mapU16 m 30 : Nat) : Int))
      (s.lfBest m ts (boxPoints (near q.1.x) (near q.1.y) (near q.1.z))).map (·.1)

/-- The direction of arrival in 2^-30 from the phase differences of lanes 1 and 2 (R209). -/
def direction (m : Bytes) (chan : Nat) (d1 d2 : Int) : Vec :=
  let lam : Int := if chan = 9 then 37534 else 46196
  let b1 := baseline m 1
  let b2 := baseline m 2
  let g1 := -(lam * d1)
  let g2 := -(lam * d2)
  let q := b1.norm2 * b2.norm2 - ((b1.dot b2) ^ 2).toNat
  let num := (b1.scale (g1 * b2.norm2 - g2 * b1.dot b2)).add (b2.scale (g2 * b1.norm2 - g1 * b1.dot b2))
  let w0 := (num.scale (2 ^ 14)).over (1000 * q)
  let w := if 2 ^ 60 < w0.norm2 then (w0.scale (2 ^ 30)).over w0.norm else w0
  let n := ((b1.cross b2).scale (2 ^ 50)).over (isqrt (q * 2 ^ 40))
  let rest : Int := isqrt (2 ^ 60 - w.norm2)
  let sgn : Int := if mapU8 m 44 = 0 then 1 else -1
  w.add (((n.scale (sgn * rest)).over (2 ^ 30)))

/-- Azimuth in 2^-32 turn (R209). -/
def azimuthOf (u : Vec) : Nat := twos 32 (argQ u.x u.y)

/-- Elevation in 0.1 degree (R209). -/
def elevationOf (u : Vec) : Int :=
  divRoundI (argQ (isqrt (2 ^ 60 - (u.z * u.z).toNat)) u.z * 3600) (2 ^ 32)

/-- Lane n's first-path phase less lane 0's, wrapped into the I16 range. -/
def phaseDiff (l : List LaneReport) (n : Nat) : Int := untwos 16 (twos 16 ((nth ({} : LaneReport) l n).phase - (nth ({} : LaneReport) l 0).phase))

/-- The azimuth bin of a frame (R169): bin 16 without an angle. A frame has an angle where all three lanes gave a first path. -/
def State.frameBin (s : State) (lanes : List LaneReport) : Nat :=
  if s.rr.map.isEmpty || !s.angleOk || lanes.length != 3 || lanes.any (fun r => bit r.flags 4 || bit r.flags 6) then 16
  else azimuthOf (direction s.rr.map s.phy.chan (phaseDiff lanes 1) (phaseDiff lanes 2)) / 2 ^ 28

/-- What the locator is given for a session (R189). -/
structure RangeResult where
  /-- ToF by lane, 1/16 RTU -/
  tof : List Int
  /-- flags of R188 -/
  flags : Nat
  /-- lane reports of the RESP -/
  lanes : List LaneReport
  /-- RSSI report of the epoch's REPLY -/
  rssi : Bytes
  /-- tone step -/
  tone : Nat
  /-- antennas of the telegram -/
  ants : Nat
  /-- LF evidence is fresh -/
  fresh : Bool
  /-- result round -/
  round : Nat

/-- The unit vector from one point to another in 2^-30, where they differ. -/
def unitTo (a b : Vec) : Vec :=
  let d := b.sub a
  if d.norm = 0 then ⟨Config.sphereDirection.1, Config.sphereDirection.2.1, Config.sphereDirection.2.2⟩ else (d.scale (2 ^ 30)).over d.norm

/-- A point at a distance along a direction. -/
def along (a : Vec) (d : Int) (u : Vec) : Vec := a.add ((u.scale d).over (2 ^ 30))

/-- A position rounded to mm as three I16. -/
def Vec.mm (p : Vec) : Int × Int × Int :=
  (clampI 16 (divRoundI p.x 1024), clampI 16 (divRoundI p.y 1024), clampI 16 (divRoundI p.z 1024))

/-- The relay class of R217 and its mask: e and disagreement in 1/1024 mm, the residuals of the tones with a field at P_r in 1/256 dB. -/
def State.relayTests (s : State) (flags : Nat) (lfOk obstructed : Bool) (e dis : Int) (res : List Int) (rms : Nat) : Nat × Nat :=
  let lim := fun n => (s.conf 0x2802 0x2802 n : Int)
  let suspectOr := fun (b : Nat) => if obstructed then (3, b) else (5, b)
  if flags % 8 = 0 then (6, 1)
  else if bit flags 6 || bit flags 4 || bit flags 5 then (5, 2)
  else if !lfOk then (2, 0)
  else if res.any (fun x => decide (64 * lim 2 < x)) then (5, 4)
  else if 1024 * lim 5 < e then (5, 8)
  else if 1024 * lim 4 < e then suspectOr 8
  else if e < -(1024 * lim 4) then (4, 0)
  else if 1024 * lim 3 < dis then suspectOr 16
  else if 64 * lim 1 < rms then (4, 0)
  else (1, 0)

/-- A point lies in a zone's box, widened on every side (R215, R216). -/
def inBox (m : Bytes) (k : Nat) (wide : Int) (p : Vec) : Bool :=
  let axis := fun (v : Int) i =>
    let c := v + mapI16 m (12 + 2 * i) * 1024
    decide ((mapI16 m (zoneAt k + 4 + 4 * i) - wide) * 1024 ≤ c) && decide (c ≤ (mapI16 m (zoneAt k + 6 + 4 * i) + wide) * 1024)
  axis p.x 0 && axis p.y 1 && axis p.z 2

/-- A zone's LF rule passes (R215). -/
def lfRule (m : Bytes) (k : Nat) (ts : List Tone) : Bool :=
  let mask := mapU8 m (zoneAt k + 3)
  mask == 0 || (ts.zipIdx).any (fun q => bit mask q.2 && (match q.1 with
    | .field x => decide (64 * mapI16 m (zoneAt k + 16) ≤ x)
    | .saturated _ => true
    | _ => false))

/-- The zones in the order in which they are tested (R215). -/
def zoneOrder (m : Bytes) : List Nat :=
  (List.range 256).flatMap (fun pr => (mapZones m).filter (fun k => mapU8 m (zoneAt k + 2) == pr))

/-- The zone entry of a position (R215, R216), with the zone ID that the row holds. -/
def zoneOf (m : Bytes) (held : Nat) (fresh : Bool) (ts : List Tone) (p : Vec) : Option Nat :=
  let keep := (mapZones m).find? (fun k => mapU8 m (zoneAt k) == held && held != 0 &&
    inBox m k (mapU16 m (zoneAt k + 18)) p && (!fresh || lfRule m k ts))
  match keep with
  | some k => some k
  | none => (zoneOrder m).find? (fun k => inBox m k 0 p && (if mapU8 m (zoneAt k + 3) = 0 then true else fresh && lfRule m k ts))

/-- A located result (R201, R208 to R217) for a row that holds a zone ID. -/
def State.locate (s : State) (held : Nat) (q : RangeResult) : Located :=
  let m := s.rr.map
  let valid := (List.range 3).filter (fun n => bit q.flags n)
  let sum := valid.foldl (fun (a : Int) n => a + nth 0 q.tof n) 0
  let d : Int := if valid.isEmpty then 0 else divRoundI (sum * 46917 * 1024) (160000 * valid.length)
  let lane0 := nth ({} : LaneReport) q.lanes 0
  let obstructed := decide (s.confI 16 0x2802 0x2802 6 ≤ lane0.pfr) || decide (lane0.snr < s.confI 16 0x2802 0x2802 7)
  let base : Located := { range := min 65535 (divRoundI d 1024).toNat, round := q.round, level := s.loc.level }
  if m.isEmpty then
    let t := s.relayTests q.flags false obstructed 0 0 [] 0
    { base with relay := t.1, mask := t.2 }
  else
    let a0 := mapPoint m 64
    let u := if valid.length = 3 && s.loc.level == 1 then some (direction m s.phy.chan (phaseDiff q.lanes 1) (phaseDiff q.lanes 2)) else none
    let ts := tonesOf q.rssi q.tone q.ants
    let lf := if q.fresh then s.lfPosition m ts else none
    let pr : Option Vec := if valid.isEmpty then none else match u, lf with
      | some v, _ => some (along a0 d v)
      | none, some x => some (along a0 d (unitTo a0 x))
      | none, none => none
    let e : Int := match lf with
      | some x => d - ((x.sub a0).norm : Int)
      | none => 0
    let dis : Nat := match pr, lf with
      | some v, some x => (v.sub x).norm
      | _, _ => 0
    let res : List Int := match pr with
      | some v => (ts.zipIdx).filterMap (fun t => t.1.field?.map (fun x => x - s.predicted m t.2 v))
      | none => []
    let rms := if res.isEmpty then 0 else isqrt ((sumI (res.map (fun x => x * x))).toNat / res.length)
    let t := s.relayTests q.flags lf.isSome obstructed e dis res rms
    let lfUsed := if t.1 = 4 then none else lf
    let sr := mapU16 m 32
    let sl := mapU16 m 34
    let fused : Option (Vec × Nat) := match valid.isEmpty, u, lfUsed with
      | false, some v, some x =>
        let p := along a0 d v
        some ((((p.scale (sl * sl : Nat)).add (x.scale (sr * sr : Nat))).over (sr * sr + sl * sl)), divRound (sr * sl * 1024) (isqrt ((sr * sr + sl * sl) * 1048576)))
      | false, some v, none => some (along a0 d v, sr)
      | false, none, some x => some (along a0 d (unitTo a0 x), sr)
      | false, none, none => none
      | true, _, some x => some (x, sl)
      | true, _, none => none
    let z := match fused with
      | some p => zoneOf m held q.fresh ts p.1
      | none => none
    { base with
      pos := fused.map (fun p => p.1.mm), sigma := (fused.map (·.2)).getD 0xFFFF,
      zone := (z.map (fun k => mapU8 m (zoneAt k))).getD 0, cls := (z.map (fun k => mapU8 m (zoneAt k + 1))).getD 0,
      relay := t.1, mask := t.2, az := u.map azimuthOf, el := (u.map elevationOf).getD 0,
      rms := min 255 ((rms + 32) / 64), disagree := min 65535 ((dis + 512) / 1024), excess := clampI 16 (divRoundI e 1024) }

/-- The locator takes a result for a row (R201, R251, R254): counters, ZONE_CHANGED and RELAY_SUSPECT. -/
def State.located (s : State) (n : Nat) (old : Option Located) (l : Located) : State :=
  let c := fun (v : Nat) (k : Bool) => satAdd 32 v (b2n k)
  let x : Loc := { s.loc with
    located := satAdd 32 s.loc.located 1, suspect := c s.loc.suspect (l.relay == 5), nlos := c s.loc.nlos (l.relay == 3),
    weak := c s.loc.weak (l.relay == 4), insufficient := c s.loc.insufficient (l.relay == 6), fusion := Config.fusionTime s.free % 65536 }
  let s1 := { s with loc := x, free := s.free + 1 }
  let s2 := s1.emitIf (((old.map (·.zone)).getD 0) != l.zone) 0x05 0x2801 (n + 256 * l.zone + 65536 * l.cls)
  s2.emitIf (l.relay == 5) 0x05 0x2802 (n + 256 * l.mask)

/-- The service level of R218. -/
def State.levelNow (s : State) : Nat :=
  let lf := s.ownState 0x03
  if lf == stFailed || lf == stStopped || s.antSet 0x3F == 0 then 0
  else if s.unitState 0x04 == stFailed || s.unitState 0x04 == stStopped || s.sup.rc then 3
  else if !s.angleOk then 2
  else 1

/-- LF antennas that a map flags INTERIOR (R205). -/
def interiorMask (m : Bytes) : Nat :=
  if m.isEmpty then 0 else (List.range 6).foldl (fun a k => if bit (mapU8 m (88 + 12 * k + 9)) 0 then a + 2 ^ k else a) 0

end Sys2Proof.Machine
end

