-- ==== Sys2Proof/Machine/Ctx.lean ====
section
/-! DEFINITION. The context table (R156 to R174, R185, R191 to R193, R198 to R200): rows, replies and their MAC checks, epochs and reply windows. -/

namespace Sys2Proof.Machine

open Sys2Proof

/-- Row n; a row that is not listed is FREE. -/
def State.row (s : State) (n : Nat) : Row := kvGet {} s.cx.rows n

/-- Replaces row n; a row in state FREE is not listed. -/
def State.setRow (s : State) (n : Nat) (r : Row) : State :=
  { s with cx := { s.cx with rows := if r.st = 0 then kvDel s.cx.rows n else kvPut s.cx.rows n r } }

/-- The rows that are not FREE, by number. -/
def State.rows (s : State) : List (Nat × Row) := s.cx.rows.filter (fun e => kvGet? s.cx.rows e.1 == some e.2)

/-- The lowest FREE row. -/
def State.freeRow (s : State) : Option Nat := (List.range 256).find? (fun n => (kvGet? s.cx.rows n).isNone)

/-- The first row with a property. -/
def State.findRow (s : State) (p : Row → Bool) : Option Nat := (s.rows.find? (fun e => p e.2)).map (·.1)

/-- Rows with a property. -/
def State.countRows (s : State) (p : Row → Bool) : Nat := (s.rows.filter (fun e => p e.2)).length

/-- A value of the context table's configuration snapshot (R22, R198). -/
def State.cxConf (s : State) (ix sub : Nat) : Nat := s.conf 0x2C03 ix sub

/-- The snapshot at a round or telegram (R22, R198). -/
def State.cxSnapshot (s : State) : State :=
  s.snapshot 0x2C03 0x2C03 0x2C30 (decide (s.obj 0x2C03 1 ≤ s.obj 0x2C03 3)) 0x07 0x2C0A (256 * 0x2C03 + 1)

/-- A SERVICE row for a dictionary or tag session (R170): none beyond the quota or where no row is FREE. -/
def State.takeService (s : State) (kind quota : Nat) (id : Bytes) : Option (State × Nat) :=
  if quota ≤ s.countRows (fun r => r.kind == kind) then none
  else (s.freeRow).map (fun n => (s.setRow n { st := 5, kind := kind, id := padTo 8 id, seen := s.ms % 2 ^ 32 }, n))

/-- A row becomes FREE. -/
def State.dropRow (s : State) (n : Nat) : State := s.setRow n {}

/-- The row objects of 0x2C10 as they read (R198). -/
def Row.objects (r : Row) : Objs :=
  [(1, r.st), (2, r.kind), (3, leNat r.id), (4, r.handle), (5, r.rounds), (6, r.seen), (7, r.invalid), (8, r.cause), (9, r.tone),
   (0xA, leNat r.rssi), (0xB, twos 32 (nth 0 r.tof 0)), (0xC, twos 32 (nth 0 r.tof 1)), (0xD, twos 32 (nth 0 r.tof 2)), (0xE, r.flags),
   (0xF, r.round), (0x10, twos 32 r.co), (0x11, twos 32 r.tco), (0x12, leNat (r.lqf.map byte)), (0x13, r.missed), (0x14, r.gain),
   (0x15, r.marks), (0x16, r.keyGen), (0x17, r.status)].map (fun e => (key 0x2C10 e.1, e.2))

/-- The located objects of 0x2821 as they read (R251). -/
def Located.objects (l : Located) : Objs :=
  let p := l.pos.getD (0, 0, 0)
  [(1, twos 16 p.1), (2, twos 16 p.2.1), (3, twos 16 p.2.2), (4, l.sigma), (5, l.zone), (6, l.cls), (7, l.relay), (8, l.mask),
   (9, match l.az with
    | some a => a * 3600 / 2 ^ 32
    | none => 0xFFFF), (0xA, twos 16 l.el), (0xB, l.range), (0xC, l.rms), (0xD, l.disagree), (0xE, twos 16 l.excess), (0xF, l.round),
   (0x10, l.level)].map (fun e => (key 0x2821 e.1, e.2))

/-- The snapshot that a write of the row select takes (R173, R251). -/
def State.rowSnapshot (s : State) (n : Nat) : RowSnap :=
  let r := s.row n
  { row := n, ms := s.ms % 2 ^ 32,
    vals := if r.st = 0 then [] else r.objects ++ (match r.loc with
      | some l => l.objects
      | none => []) }

/-- ROW_SELECT (R173). -/
def State.rowSelect (s : State) (c : Client) (n : Nat) : State := s.setCtx { s.ctx c with rowSnap := s.rowSnapshot n }

/-- The paired-list entry of an ID (R161). -/
def State.pairEntry (s : State) (id : Bytes) : Option (Nat × Nat) :=
  (s.rr.paired.find? (fun e => e.2.1 == id && e.2.2 != 0)).map (fun e => (e.1, e.2.2))

/-- An ID whose entry is paired. -/
def State.isPaired (s : State) (id : Bytes) : Bool := (s.pairEntry id).any (fun e => e.2 == 1)

/-- The kind byte of an ID (R157). -/
def idKind (id : Bytes) : Nat := (id.getD 0 0).toNat

/-- Master key slot and group key slot of a kind of partner (R158, R198). -/
def masterSlot (kind : Nat) : Nat := if kind = 2 then 10 else 8
/-- Group key slot. -/
def groupSlot (peer : Bool) : Nat := if peer then 11 else 9

/-- K_tok of a partner (R159). -/
def State.tokKey (s : State) (id : Bytes) : Bytes := kdf (s.slot (masterSlot (idKind id))).key (ascii "CHN-TOKEN") (s.vehicleBytes ++ id) 128

/-- K_mac and K_rng (R159). -/
def sessionKeys (ktok vid id vnonce tnonce : Bytes) (counter : Nat) : Bytes × Bytes :=
  let k := kdf ktok (ascii "CHN-SESSION") (vid ++ id ++ vnonce ++ tnonce ++ [byte counter]) 256
  (k.take 16, k.drop 16)

/-- K_rd (R159). -/
def roundKey (kgrp vid nonce : Bytes) : Bytes := kdf kgrp (ascii "CHN-ROUND") (vid ++ nonce) 128

/-- The message of the reply MAC (R163). -/
def replyMessage (vid : Bytes) (wake : Nat) (vnonce : Bytes) (params : Nat) (reply : Bytes) : Bytes :=
  ascii "CHN-RPLY" ++ vid ++ beBytes 2 wake ++ vnonce ++ slice 18 1 reply ++ beBytes 2 params ++ slice 2 8 reply ++ slice 10 8 reply ++
  slice 19 1 reply ++ slice 20 18 reply ++ slice 38 1 reply

/-- The reply slot of an ID (R164). -/
def replySlot (id vnonce : Bytes) (slots : Nat) : Nat := crc16 (id ++ vnonce) % slots

/-- MAC checks and KDFs can be made: trust pair and cipher engine serve (R192, R317). -/
def State.trustKeys (s : State) : Bool := !s.trustLost && s.cipherOk

/-- Sequence IV of R183. -/
def seqIv (kind number handle : Nat) : Bytes := byte kind :: beBytes 4 number ++ beBytes 2 handle ++ [0, 0, 0, 0, 0]

/-- A count in a position bin (R169, R225): POSITION_SUSPECT clears the bin and starts policy's hold-off. -/
def State.binCount (s : State) (b : Nat) : State :=
  let w := s.cxConf 0x2C04 5 * secNs
  let l := ((kvGet [] s.cx.bins b).filter (fun t => decide (s.now < t + w))) ++ [s.now]
  if s.cxConf 0x2C04 4 ≤ l.length then
    let s1 := { s with cx := { s.cx with bins := kvDel s.cx.bins b } }.emit 0x07 0x2C04 (b + 256 * l.length)
    if s1.serving 0x21 then { s1 with pol := { s1.pol with bins := kvPut s1.pol.bins b (s1.now + s1.conf 0x2901 0x2901 5 * secNs) } } else s1
  else { s with cx := { s.cx with bins := kvPut s.cx.bins b l } }

/-- The count of a bin as it reads (R198). -/
def State.binRead (s : State) (b : Nat) : Nat :=
  ((kvGet [] s.cx.bins b).filter (fun t => decide (s.now < t + s.cxConf 0x2C04 5 * secNs))).length

/-- The SHADOW row for a claimed ID (R168): its own, a FREE one inside the quota, or the one seen longest ago. -/
def State.shadowRow (s : State) (id : Bytes) : Option Nat :=
  let shadows := s.rows.filter (fun e => e.2.st == 4)
  match shadows.find? (fun e => e.2.id == id) with
  | some e => some e.1
  | none =>
    let oldest := (shadows.foldl (fun (b : Option (Nat × Nat)) e => match b with
      | some q => if e.2.seen < q.2 then some (e.1, e.2.seen) else b
      | none => some (e.1, e.2.seen)) none).map (·.1)
    if shadows.length < 64 then (match s.freeRow with
      | some n => some n
      | none => oldest) else oldest

/-- An invalid reply (R168, R169). -/
def State.replyInvalid (s : State) (id : Bytes) (cause bin : Nat) : State :=
  let s1 := { s with cx := { s.cx with invalid := satAdd 32 s.cx.invalid 1 } }
  let s2 := match s1.shadowRow id with
    | some n =>
      let r := s1.row n
      let r0 : Row := if r.st = 4 && r.id == id then r else {}
      (s1.setRow n { r0 with st := 4, kind := 6, id := id, seen := s1.ms % 2 ^ 32, invalid := satAdd 16 r0.invalid 1, cause := cause }).emit 0x07 0x2C03 (n + 256 * cause)
    | none => s1.emit 0x07 0x2C03 (0xFF + 256 * cause)
  s2.binCount bin

/-- A session ends and its row returns to KNOWN (R185). -/
def State.sessionEnd (s : State) (n cause : Nat) : State :=
  let r := s.row n
  if r.st ≠ 3 then s
  else
    let s1 := s.setRow n { r with st := 1, handle := 0, kmac := [], krng := [], last := none }
    let cut := fun (l : Listed) => if l.row = n && decide (3 ≤ cause) then { l with void := true } else l
    let rd := s1.cx.round.map (fun (q : Round) => { q with ss := q.ss.map cut })
    let s2 : State := { s1 with cx := { s1.cx with round := rd, peer := if r.kind = 3 then none else s1.cx.peer } }
    s2.emit 0x07 0x2C02 (n + 256 * cause)

/-- Ends every session with a property. -/
def State.endSessions (s : State) (p : Row → Bool) (cause : Nat) : State :=
  s.rows.foldl (fun (t : State) e => if e.2.st == 3 && p e.2 then t.sessionEnd e.1 cause else t) s

/-- An epoch ends at once with its sessions (R161, R174). -/
def State.epochEndNow (s : State) (peer : Bool) (cause : Nat) : State :=
  let x : Ctx := if peer then { s.cx with pep := none } else { s.cx with ep := none }
  let s1 : State := { s with cx := x }
  s1.endSessions (fun r => r.kind == if peer then 2 else 1) cause

/-- A zeroize of a master or group key slot (R191): the sessions and the round key that rest on it end at once. -/
def State.ctxRevoke (s : State) (slot : Nat) : State :=
  if slot < 8 || 11 < slot then s
  else
    let peer := decide (10 ≤ slot)
    let s1 := s.endSessions (fun r => r.kind == if peer then 2 else 1) 4
    if slot = 8 || slot = 10 then s1
    else
      let cut := fun (e : Option Epoch) => e.map (fun x => { x with krd := [] })
      let x : Ctx := if peer then { s1.cx with pep := cut s1.cx.pep } else { s1.cx with ep := cut s1.cx.ep }
      { s1 with cx := x }

/-- The gain hint of a partner after a frame (R124). -/
def gainAfter (old : Nat) (lanes : List LaneReport) : Nat := nextHint old (lanes.any (fun r => bit r.flags 5)) (strongest lanes)

/-- A row's gain hint, or the open-slot code (R124). -/
def State.hintOf (s : State) (id : Bytes) : Nat :=
  match s.findRow (fun r => r.id == id && (r.st == 1 || r.st == 2 || r.st == 3)) with
  | some n => (s.row n).gain
  | none => s.conf 0x24C3 0x24C3 3

/-- The token or peer epoch. -/
def State.epochOf (s : State) (peer : Bool) : Option Epoch := if peer then s.cx.pep else s.cx.ep

/-- Replaces the token or peer epoch. -/
def State.setEpoch (s : State) (peer : Bool) (e : Option Epoch) : State :=
  let x : Ctx := if peer then { s.cx with pep := e } else { s.cx with ep := e }
  { s with cx := x }

/-- The slot count code of the next full telegram (R165). -/
def State.slotCode (s : State) : Nat :=
  let n := match s.cx.memory with
    | some q => if s.now < q.1 + s.cxConf 0x2C04 2 * secNs then q.2.1 + 2 * q.2.2 else 0
    | none => 0
  ((List.range 4).find? (fun c => decide (s.cxConf 0x2C04 1 ≤ c) && decide (2 * n ≤ 8 * 2 ^ c))).getD 3

/-- A new token epoch begins with the carrier of a full telegram (R174). -/
def State.epochBegin (s : State) (q : Telegram) (code : Nat) : State :=
  let krd := if s.trustKeys && (s.slot 9).ty != 0 then roundKey (s.slot 9).key s.vehicleBytes q.nonce else []
  let e : Epoch := { serial := s.cx.serial + 1, start := q.start, nonce := q.nonce, counter := q.counter, params := q.params, ants := s.antSet 0x3F, krd := krd }
  { s with cx := { s.cx with
    ep := some e, serial := s.cx.serial + 1, win := if s.cx.win.any (·.peer) then s.cx.win else none,
    memory := some (s.now, 0, 0), slotCode := code, lastRound := 0 } }

/-- TELEGRAM_START (R101, R126, R165, R174): the channel, the slot count, the telegram and the epoch that begins with it. -/
def State.telegram (s : State) : State :=
  if !s.teleMay then s
  else
    let s1 := (s.chooseChannel).cxSnapshot
    let code := s1.slotCode
    let s2 := s1.telegramStart code
    match s2.lf.tele with
    | some q => if s1.lf.tele.isNone then s2.epochBegin q code else s2
    | none => s2

/-- The gain for a reply slot (R124, R164): a partner that the device expects there, or an open slot. -/
def State.slotGain (s : State) (peer : Bool) (slots k : Nat) (nonce : Bytes) : Nat :=
  s.gainFor ((s.rows.find? (fun e => (e.2.st == 1 || e.2.st == 3) && e.2.kind == (if peer then 2 else 1) && replySlot e.2.id nonce slots == k)).map (fun e => e.2.gain))

/-- REPLY_WINDOW_OPEN (R89, R164). -/
def State.windowOpen (s : State) : State :=
  let s1 := s.replyOpen
  match s1.lf.tele, s.lf.tele with
  | some q, some q0 =>
    if q.window && !q0.window && s1.rangingOk then
      let s2 := { s1 with
        cx := { s1.cx with win := some { peer := false, start := q.start + 46 * msNs, slots := q.slots } },
        phy := { s1.phy with window := true } }
      s2.setGain (s2.slotGain false q.slots 0 q.nonce)
    else s1
  | _, _ => s1

/-- The slot of a window at a time in ns. -/
def ReplyWin.slotAt (w : ReplyWin) (t : Nat) : Nat := (t - w.start) / 400000

/-- A window that is open at a time. -/
def ReplyWin.open_ (w : ReplyWin) (t : Nat) : Bool := decide (w.start ≤ t) && decide (t < w.start + w.slots * 400000)

/-- A detection on a lane (R138, R166): the window notes the first of each slot, and a second one more than 64 taps away. -/
def State.detect (s : State) (lane phase : Nat) (power : Int) : State :=
  let strong := s.rangingOk && s.phy.window && decide (lane < 3) && s.laneUp lane && decide (nth 0 s.phy.floors lane + 48 < power)
  let s1 := s.preamble lane phase power
  match s.cx.win with
  | some w =>
    if !strong || !w.open_ s.now then s1
    else
      let k := w.slotAt s.now
      match kvGet? w.det k with
      | none => { s1 with cx := { s1.cx with win := some { w with det := kvPut w.det k (phase % 508) } } }
      | some p =>
        let d := (phase + 508 - p) % 508
        if 64 < min d (508 - d) && !w.twice.contains k then { s1 with cx := { s1.cx with win := some { w with twice := w.twice ++ [k] } } } else s1
  | none => s1

/-- The slot of a delivered frame in a window: the slot that holds its first chip. -/
def State.frameSlot (s : State) (w : ReplyWin) (d : DFrame) : Nat :=
  (d.idx + 2 ^ 48 - refChip d.sfdB - s.sampleAt w.start) % 2 ^ 48 / 199680

/-- A MAC check enters the trust pair's request queue where there is room (R25). -/
def State.pushMac (s : State) (w : MacWait) : State :=
  { s with cx := { s.cx with macs := s.cx.macs ++ [{ w with queued := decide ((s.cx.macs.filter (·.queued)).length < 64) }] } }

/-- REPLY (R162, R166, R167): checks 1 to 5, and the MAC check that follows. -/
def State.reply (s : State) : State :=
  match s.phy.delivered, s.cx.win with
  | some d, some w =>
    let s0 := { s with phy := { s.phy with delivered := none } }
    if !(s0.powered && s0.serving 0x07) then s0
    else
      let k := s0.frameSlot w d
      let s1 := { s0 with cx := { s0.cx with win := some { w with good := w.good ++ [k] } } }
      let p := d.payload
      if w.twice.contains k then s1
      else if !((p.getD 0 0) == 0x11 && (p.getD 1 0) == 0x01 && p.length == 56) then
        { s1 with cx := { s1.cx with discarded := satAdd 32 s1.cx.discarded 1 } }
      else
        let s2 := { s1 with cx := { s1.cx with delivered := satAdd 32 s1.cx.delivered 1 } }
        let id := slice 2 8 p
        let bin := s2.frameBin d.lanes
        match s2.epochOf w.peer with
        | none => s2
        | some e =>
          if (p.getD 18 0).toNat ≠ e.counter then s2.replyInvalid id 1 bin
          else if replySlot id e.nonce w.slots ≠ k then s2.replyInvalid id 2 bin
          else
            match s2.pairEntry id with
            | none => s2.replyInvalid id 3 bin
            | some q =>
              if idKind id ≠ (if w.peer then 2 else 1) then s2.replyInvalid id 3 bin
              else if q.2 ≠ 1 then s2.replyInvalid id 4 bin
              else if w.valid.contains id then s2.replyInvalid id 5 bin
              else if !s2.trustKeys then s2
              else
                let was := fun (n : Nat) => ((s2.cx.macs.find? (fun x => x.row == some n)).map (·.was)).getD 1
                let gain := gainAfter (s2.hintOf id) d.lanes
                match s2.findRow (fun r => r.id == id && (r.st == 1 || r.st == 2 || r.st == 3)) with
                | some n =>
                  let r := s2.row n
                  if r.st = 3 then s2.pushMac { row := none, was := 3, reply := p, bin := bin, gain := gain, queued := true }
                  else (s2.setRow n { r with st := 2 }).pushMac { row := some n, was := if r.st = 2 then was n else 1, reply := p, bin := bin, gain := gain, queued := true }
                | none =>
                  match s2.freeRow with
                  | some n => (s2.setRow n { st := 2, kind := idKind id, id := id, seen := s2.ms % 2 ^ 32 }).pushMac { row := some n, was := 0, reply := p, bin := bin, gain := gain, queued := true }
                  | none => s2.pushMac { row := none, was := 0, reply := p, bin := bin, gain := gain, queued := true }
  | _, _ => s

/-- The row for a valid reply (R171, R172): the ID's own, a FREE one, or the evicted KNOWN row seen longest ago. -/
def State.sessionRow (s : State) (id : Bytes) : Option (State × Nat) :=
  match s.findRow (fun r => r.id == id && (r.st == 1 || r.st == 2 || r.st == 3)) with
  | some n => some (s, n)
  | none =>
    match s.freeRow with
    | some n => some (s, n)
    | none =>
      let old := s.rows.foldl (fun (b : Option (Nat × Nat)) e =>
        if e.2.st != 1 || bit e.2.marks 1 then b
        else match b with
          | some q => if e.2.seen < q.2 then some (e.1, e.2.seen) else b
          | none => some (e.1, e.2.seen)) none
      old.map (fun q => ({ s.dropRow q.1 with cx := { (s.dropRow q.1).cx with evictions := satAdd 32 s.cx.evictions 1 } }, q.1))

/-- A valid reply starts a session (R171, R172, R174). -/
def State.replyValid (s : State) (w : ReplyWin) (e : Epoch) (m : MacWait) (ktok : Bytes) : State :=
  let p := m.reply
  let id := slice 2 8 p
  let sat := (slice 20 18 p).any (· == 0xFF)
  let x : Ctx := { s.cx with
    valid := satAdd 32 s.cx.valid 1,
    win := some { w with valid := w.valid ++ [id], count := w.count + 1, saturated := w.saturated || sat },
    memory := if w.peer then s.cx.memory else s.cx.memory.map (fun (q : Nat × (Nat × Nat)) => (q.1, (q.2.1 + 1, q.2.2))) }
  let s1 : State := { s with cx := x }
  match s1.sessionRow id with
  | none => { s1 with cx := { s1.cx with dropped := satAdd 32 s1.cx.dropped 1 } }.emit 0x07 0x2C05 (replySlot id e.nonce w.slots)
  | some q =>
    let s2 := q.1
    let r := s2.row q.2
    let ks := sessionKeys ktok s2.vehicleBytes id e.nonce (slice 10 8 p) e.counter
    let h := beNat (slice 40 2 p)
    let r1 : Row := { r with
      st := 3, kind := idKind id, id := id, handle := if h = 0 then 1 else h, rounds := 0, seen := s2.ms % 2 ^ 32, invalid := 0, cause := 0,
      tone := (p.getD 19 0).toNat % 4, rssi := slice 20 18 p, missed := 0, gain := m.gain, keyGen := (s2.slot (masterSlot (idKind id))).gen,
      status := (p.getD 38 0).toNat, kmac := ks.1, krng := ks.2, doneAt := s2.now, epoch := e.serial, listed := 0, last := none }
    (s2.setRow q.2 r1).emit 0x07 0x2C01 (q.2 + 256 * idKind id)

/-- The tone step is adapted once the window has closed and its checks have ended (R104). -/
def State.adaptWindow (s : State) : State :=
  match s.cx.win with
  | some w =>
    if w.peer || !s.cx.macs.isEmpty || s.lf.tele.isSome then s
    else s.adaptTones w.saturated (w.count != 0)
  | none => s

/-- MAC_CHECK_DONE (R167, R171): the check in service, or the first that waits, ends. -/
def State.macDone (s : State) : State :=
  match (match s.cx.macs.find? (·.service) with
    | some m => some m
    | none => s.cx.macs.head?) with
  | none => s
  | some m =>
    if !(s.powered && s.trustKeys) then s
    else
      let rest := s.cx.macs.erase m
      let room := (rest.filter (·.queued)).length
      let macs := rest.map (fun x => if !x.queued && decide (room < 64) then { x with queued := true } else x)
      let s1 := { s with cx := { s.cx with macs := macs } }
      let id := slice 2 8 m.reply
      let back := fun (t : State) => match m.row with
        | some n => if (t.row n).st = 2 && !rest.any (fun x => x.row == some n) then t.setRow n { t.row n with st := m.was } else t
        | none => t
      match s1.cx.win with
      | none => back s1
      | some w =>
        match s1.epochOf w.peer with
        | none => back s1
        | some e =>
          let s2 := s1.ran (masterSlot (idKind id))
          let ktok := s2.tokKey id
          let wake := if w.peer then 0 else s2.obj 0x2010 1
          let ok := (s2.slot (masterSlot (idKind id))).ty != 0 &&
            cmac ktok (replyMessage s2.vehicleBytes wake e.nonce e.params m.reply) == slice 40 16 m.reply
          let s3 := if !ok then (back s2).replyInvalid id 6 m.bin
            else if !s2.isPaired id then (back s2).replyInvalid id 4 m.bin
            else if w.valid.contains id then (back s2).replyInvalid id 5 m.bin
            else s2.replyValid w e m ktok
          if s3.lf.tele.isNone && s3.cx.macs.isEmpty then s3.adaptWindow else s3

/-- TRUST_REQUEST_SERVED (R25): the request at the head of the queue goes into service. -/
def State.trustServed (s : State) : State :=
  if !(s.powered && s.trustKeys) || s.cx.macs.any (·.service) then s
  else match s.cx.macs.find? (·.queued) with
    | none => s
    | some m => { s with cx := { s.cx with macs := s.cx.macs.map (fun x => if x == m then { x with service := true } else x) } }

/-- Collided slots of a window (R166). -/
def ReplyWin.collisions (w : ReplyWin) : Nat :=
  ((w.det.map (·.1)).filter (fun k => !w.good.contains k || w.twice.contains k)).length

/-- REPLY_WINDOW_CLOSE (R89, R104, R166, R174, R176). -/
def State.windowClose (s : State) : State :=
  match s.cx.win with
  | none =>
    (match s.lf.tele with
     | some q => if q.window && decide (q.start + 46 * msNs + q.slots * 400000 ≤ s.now) then s.teleClose else s
     | none => s)
  | some w =>
    let close := w.start + w.slots * 400000
    let open_ := (s.epochOf w.peer).any (fun e => e.due.isNone && e.next == 0)
    if s.now < close || !open_ then s
    else
      let n := w.collisions
      let x : Ctx := { s.cx with
          collided := satAdd 32 s.cx.collided n,
          memory := if w.peer then s.cx.memory else s.cx.memory.map (fun (q : Nat × (Nat × Nat)) => (q.1, (q.2.1, n))) }
      let s1 : State := { s with phy := { s.phy with window := false, rx := none }, cx := x }
      let s2 := s1.emitIf (n != 0) 0x07 0x2C06 (n + 256 * w.slots)
      let serial := ((s2.epochOf w.peer).map (·.serial)).getD 0
      let s3 := s2.endSessions (fun r => r.kind == (if w.peer then 2 else 1) && r.epoch != serial) 1
      let s4 := s3.setEpoch w.peer ((s3.epochOf w.peer).map (fun e => { e with due := some (close + 100000), prevAt := close }))
      if w.peer then s4 else (s4.teleClose).adaptWindow

/-- EPOCH_END (R174): an epoch reaches its lifetime. -/
def State.epochEnd (s : State) : State :=
  let past := fun (e : Option Epoch) => e.any (fun x => decide (x.start + s.cxConf 0x2C03 5 * secNs ≤ s.now))
  let s1 := if past s.cx.ep then s.epochEndNow false 1 else s
  if past s1.cx.pep then s1.epochEndNow true 1 else s1

/-- The age of the token epoch in ms (R198). -/
def State.epochAge (s : State) : Nat := match s.cx.ep with
  | some e => (s.now - e.start) / msNs % 2 ^ 32
  | none => 0

end Sys2Proof.Machine
end

