-- ==== Sys2Proof/Machine/Rounds.lean ====
section
/-! DEFINITION. Ranging rounds (R175 to R190, R193 to R195): which sessions a round lists, what each slot sends or receives, and the results. -/

namespace Sys2Proof.Machine

open Sys2Proof

/-- One slot in ns, and in samples. -/
def slotNs : Nat := 400000
/-- One slot in samples (R176). -/
def slotSamples : Nat := 199680
/-- 20 us in samples: the first chip after a slot's start. -/
def leadSamples : Nat := 9984

/-- The governor's minimum round period in ns (R245). -/
def govPeriod (level : Nat) : Nat :=
  (if level = 0 then 0 else if level = 1 then 40 else if level = 2 then 100 else if level = 3 then 500 else 1000) * msNs

/-- The governor's limit on sessions per round (R245). -/
def govSessions (level : Nat) : Nat := if level ≤ 1 then 32 else if level = 2 then 16 else if level = 3 then 8 else 4

/-- A decision is pending (R175). -/
def State.decisionPending (s : State) : Bool := !s.pol.pend.isEmpty

/-- The period after round number n of an epoch (R177, R194, R246): after round 0 the governor does not lengthen it for a request (log entry 65). -/
def State.period (s : State) (peer : Bool) (n : Nat) : Nat :=
  let p := if peer then s.cxConf 0x2C30 3 * msNs
    else if n < s.cxConf 0x2C03 2 then s.cxConf 0x2C03 1 * msNs else s.cxConf 0x2C03 3 * msNs
  if s.pol.prompt_ && n = 0 && s.pol.gov ≤ 3 then p else max p (govPeriod s.pol.gov)

/-- Rows that a round may list (R177): ACTIVE, of the epoch, with a MAC check that ended 50 us before the POLL's first chip. -/
def State.readyRows (s : State) (peer : Bool) (e : Epoch) (start : Nat) : List (Nat × Row) :=
  s.rows.filter (fun q => q.2.st == 3 && q.2.kind == (if peer then 2 else 1) && q.2.epoch == e.serial && decide (q.2.doneAt + 30000 ≤ start))

/-- Puts a row into a list by rising time of its last listing. -/
def insertListed (q : Nat × Row) : List (Nat × Row) → List (Nat × Row)
  | [] => [q]
  | x :: l => if q.2.listed < x.2.listed then q :: x :: l else x :: insertListed q l

/-- Takes rows in order while no two handles are equal, up to n. -/
def takeDistinct : Nat → List (Nat × Row) → List Nat → List (Nat × Row)
  | 0, _, _ => []
  | _, [], _ => []
  | n + 1, q :: l, seen => if seen.contains q.2.handle then takeDistinct (n + 1) l seen else q :: takeDistinct n l (seen ++ [q.2.handle])

/-- The sessions of a round (R177): priority marks first, then the longest time since each was last listed. -/
def State.roundRows (s : State) (peer : Bool) (e : Epoch) (start : Nat) : List (Nat × Row) :=
  let l := s.readyRows peer e start
  let order := fun (x : List (Nat × Row)) => x.foldl (fun acc q => insertListed q acc) []
  let all := order (l.filter (fun q => bit q.2.marks 0)) ++ order (l.filter (fun q => !bit q.2.marks 0))
  takeDistinct (min (s.cxConf 0x2C03 4) (govSessions s.pol.gov)) all []

/-- The slots of a round (R175). -/
def roundSlots (n : Nat) (full : Bool) : Nat := if full then 2 * n + 2 else n + 2

/-- Slots between two rounds' starts (R177): the period rounded up, and never before the round's last slot has passed. -/
def roundGap (period slots : Nat) : Nat := max ((period + slotNs - 1) / slotNs) slots

/-- A slot owed to the tractor has not ended (R197): the peer role's RESP or REPORT. -/
def State.owesTractor (s : State) : Bool :=
  s.cx.peer.any (fun q =>
    let ahead := fun (k : Nat) =>
      let d := (q.slotAt + k * slotSamples + 2 ^ 48 - s.sampleAt s.now) % 2 ^ 48
      decide (0 < d) && decide (d < 2 ^ 47)
    (q.place != 0 && ahead (q.place + 1)) || (q.owed && ahead (q.n + q.place + 2)))

/-- ROUND_START for one epoch (R174 to R177, R197). -/
def State.roundFor (s : State) (peer : Bool) : State :=
  match s.epochOf peer with
  | none => s
  | some e =>
    match e.due with
    | none => s
    | some due =>
      if s.now < due || s.cx.round.isSome || s.owesTractor || e.krd.isEmpty || !(s.rangingOk && s.serving 0x07 && s.trustKeys) then s
      else
        let s1 := ((s.phySnapshots).cxSnapshot).locSnapshot
        let start := due + (s.now - due) / slotNs * slotNs
        let l := s1.roundRows peer e start
        let n := l.length
        let full := e.next == 0 || s1.decisionPending
        let gap := roundGap (s1.period peer e.next) (if n = 0 then 1 else roundSlots n full)
        let nextAt := start + gap * slotNs
        let last := decide (e.start + s1.cxConf 0x2C03 5 * secNs ≤ nextAt)
        if n = 0 then s1.setEpoch peer (some { e with due := some nextAt, prevAt := start })
        else
          let ss := l.map (fun (q : Nat × Row) =>
            ({ row := q.1, id := q.2.id, handle := q.2.handle, cur := { number := e.next, t1 := 0 }, prev := q.2.last } : Listed))
          let r : Round :=
            { peer := peer, number := e.next, full := full, last := last, start := start, krd := e.krd, gap := if last then 0 else gap - (n + 1),
              epochAt := e.start, serial := e.serial, ants := e.ants, ss := ss }
          let s2 := s1.setEpoch peer (some { e with next := e.next + 1, prevAt := start, due := if last then none else some nextAt })
          let s3 := l.foldl (fun (t : State) q => t.setRow q.1 { t.row q.1 with listed := start }) s2
          { s3 with
            cx := { s3.cx with round := some r, lastRound := if peer then s3.cx.lastRound else e.next },
            phy := { s3.phy with round := true }, pol := { s3.pol with prompt_ := s3.pol.prompt_ && e.next == 0 && !peer } }

/-- ROUND_START (R177): a token round that is due goes before a peer round. -/
def State.roundStart (s : State) : State :=
  let s1 := s.roundFor false
  if s1.cx.round.isSome then s1 else s1.roundFor true

/-- Flags of POLL and FINAL (R179). -/
def Round.flags (r : Round) : Nat := 128 * b2n r.full + 64 * b2n r.last + 32 * b2n r.peer

/-- A device tag (R182). -/
def deviceTag (krd vid label payload : Bytes) : Bytes := (cmac krd (label ++ vid ++ payload)).take 8

/-- The POLL payload (R179). -/
def Round.poll (r : Round) (vid : Bytes) : Bytes :=
  let b := [0x21, byte r.flags] ++ beBytes 4 r.number ++ [byte r.ss.length, 0] ++ r.ss.flatMap (fun l => beBytes 2 l.handle)
  b ++ deviceTag r.krd vid (ascii "CHN-POLL") b

/-- The FINAL payload (R180). -/
def Round.final (r : Round) (vid : Bytes) : Bytes :=
  let b := [0x23, byte r.flags] ++ beBytes 4 r.number ++ beBytes 2 (min r.gap 65535)
  b ++ deviceTag r.krd vid (ascii "CHN-FINL") b

/-- TX index of the first chip of slot k's frame (R176). -/
def State.slotIdx (s : State) (r : Round) (k : Nat) : Nat := (s.sampleAt r.start + k * slotSamples + leadSamples) % 2 ^ 48

/-- Whether slot k of a round is the device's own: 0 POLL, N + 1 FINAL. -/
def Round.own (r : Round) (k : Nat) : Bool := k == 0 || k == r.ss.length + 1

/-- The place in the list of the session that slot k belongs to. -/
def Round.place (r : Round) (k : Nat) : Nat := if k ≤ r.ss.length then k - 1 else k - r.ss.length - 2

/-- The device sends a frame of a round with a sequence (R175, R183). -/
def State.sendRound (s : State) (r : Round) (k : Nat) (kind : Nat) (payload : Bytes) : State :=
  { s with phy := { s.phy with
    window := false, rx := none,
    tx := some { sfdB := true, key := r.krd, iv := seqIv kind r.number 0, payload := payload, chan := s.phy.chan, idx := s.slotIdx r k } } }

/-- SLOT_START in a round (R175, R176). -/
def State.roundSlot (s : State) (r : Round) : State :=
  let k := r.begun
  let n := r.ss.length
  if roundSlots n r.full ≤ k || s.now < r.start + k * slotNs then s
  else
    let s0 := { s with phy := { s.phy with delivered := none } }
    let stamp := s0.txStamp s0.phy.chan ((s0.slotIdx r k + 37088) % 2 ^ 48)
    if !s0.rangingOk then { s0 with cx := { s0.cx with round := some { r with begun := k + 1 } } }
    else if k = 0 then
      let ss := r.ss.map (fun (l : Listed) => { l with cur := { l.cur with t1 := stamp } })
      let r1 := { r with ss := ss, begun := 1 }
      let t := s0.sendRound r1 0 0x21 (r1.poll s0.vehicleBytes)
      { t with cx := { t.cx with round := some r1 } }
    else if k = n + 1 then
      let ss := r.ss.map (fun (l : Listed) => { l with cur := { l.cur with t5 := stamp } })
      let r1 := { r with ss := ss, begun := k + 1 }
      let t := s0.sendRound r1 k 0x23 (r1.final s0.vehicleBytes)
      { t with cx := { t.cx with round := some r1 } }
    else
      let g := ((r.ss[r.place k]?).map (fun l => (s0.row l.row).gain)).getD 0
      let t := s0.setGain (s0.gainFor (some g))
      { t with cx := { t.cx with round := some { r with begun := k + 1 } }, phy := { t.phy with window := true } }

/-- The session whose frame the present slot of the round takes: its place, and whether the slot is a REPORT slot. -/
def Round.listening (r : Round) : Option (Nat × Bool) :=
  if r.begun = 0 || r.own (r.begun - 1) then none
  else some (r.place (r.begun - 1), decide (r.ss.length + 1 < r.begun - 1))

/-- Replaces a listed session of the round in progress. -/
def State.setListed (s : State) (r : Round) (i : Nat) (l : Listed) : State :=
  { s with cx := { s.cx with round := some { r with ss := setAt r.ss i l } } }

/-- A frame has been delivered in the present slot (R185). -/
def State.slotHeard (s : State) : State :=
  match s.cx.round with
  | none => s
  | some r => match r.listening with
    | some (i, false) => (match r.ss[i]? with
      | some l => s.setListed r i { l with cur := { l.cur with heard := true } }
      | none => s)
    | _ => s

/-- Whether the frame of the present slot or window has a sequence key, and its context parameter (R137, R142, R155). -/
def State.expected (s : State) : Bool × Nat :=
  match s.cx.round with
  | some r => (match r.listening with
    | some (i, _) => (match r.ss[i]? with
      | some l => ((s.row l.row).st == 3 && !(s.row l.row).krng.isEmpty && !l.void, l.row)
      | none => (false, 256))
    | none => (false, 256))
  | none => match s.cx.peer with
    | some p => (true, p.row)
    | none => (false, 256)

/-- Length of the payload that goes with a kind (R178); none for a kind that is not listed. -/
def kindLength (kind : Nat) (n : Nat) : Option Nat :=
  if kind = 0x11 then some 56 else if kind = 0x12 then some 22 else if kind = 0x21 then some (16 + 2 * n)
  else if kind = 0x22 || kind = 0x24 then some 30 else if kind = 0x23 then some 16 else none

/-- A payload whose kind is listed with its length (R178). -/
def listedKind (p : Bytes) : Bool := kindLength (p.getD 0 0).toNat (p.getD 6 0).toNat == some p.length

/-- A frame of another kind or length is counted as discarded (R178). -/
def State.unlisted (s : State) (p : Bytes) : State :=
  if listedKind p then s else { s with cx := { s.cx with discarded := satAdd 32 s.cx.discarded 1 } }

/-- A token MAC (R182). -/
def tokenMac (kmac vid id label p : Bytes) : Bytes := (cmac kmac (label ++ vid ++ id ++ p.take 22)).take 8

/-- A sequence check of a RESP or REPORT failed on a lane (R188 bit 3). -/
def laneFails (r : LaneReport) : Bool := bit r.flags 1 || bit r.flags 2 || bit r.flags 3

/-- A failure in a session's slot (R193): the invalid count and the direction. -/
def State.slotFailure (s : State) (n : Nat) (d : DFrame) (mac : Bool) : State :=
  let r := s.row n
  let s1 := s.setRow n { r with invalid := satAdd 16 r.invalid 1 }
  let s2 := if mac then { s1 with cx := { s1.cx with macFails := satAdd 32 s1.cx.macFails 1 } } else s1
  s2.binCount (s2.frameBin d.lanes)

/-- The report fields of a RESP or REPORT (R181). -/
def withReport (x : RespData) (p : Bytes) (track : Bool) : RespData :=
  { x with
    report := true, track := track, tokOk := bit (p.getD 1 0).toNat 6 && bit (p.getD 1 0).toNat 5, db := beNat (slice 8 4 p),
    rb := beNat (slice 12 4 p), tco := untwos 32 (beNat (slice 16 4 p)) }

/-- RESP and REPORT (R178, R181, R182, R186, R193): the frame delivered in the present slot. -/
def State.takeSlot (s : State) (wantReport : Bool) : State :=
  match s.phy.delivered, s.cx.round with
  | some d, some r =>
    match r.listening with
    | none => { s with phy := { s.phy with delivered := none } }
    | some (i, rep) =>
      if rep != wantReport then s
      else
        let s0 := { s with phy := { s.phy with delivered := none } }
        match r.ss[i]? with
        | none => s0
        | some l =>
          let p := d.payload
          let row := s0.row l.row
          let kind := if rep then 0x24 else 0x22
          let cur := { l.cur with heard := l.cur.heard || !rep }
          if !listedKind p then
            { s0.setListed r i { l with cur := cur } with cx := { (s0.setListed r i { l with cur := cur }).cx with discarded := satAdd 32 s0.cx.discarded 1 } }
          else if l.void || row.st != 3 || row.kmac.isEmpty then s0.setListed r i { l with cur := cur }
          else
            let label := ascii (if rep then "CHN-REPT" else "CHN-RESP")
            let ok := (p.getD 0 0).toNat == kind && beNat (slice 2 4 p) == r.number && beNat (slice 6 2 p) == l.handle &&
              tokenMac row.kmac s0.vehicleBytes l.id label p == slice 22 8 p
            if !ok then (s0.setListed r i { l with cur := { cur with macFail := true } }).slotFailure l.row d true
            else if rep then s0.setListed r i { l with cur := withReport cur p false }
            else
              let c1 := { cur with resp := true, lanes := d.lanes, co := d.co }
              let prev := match l.prev with
                | some x => if bit (p.getD 1 0).toNat 7 && x.number + 1 == r.number then some (withReport x p true) else some x
                | none => none
              let s1 := s0.setListed r i { l with cur := c1, prev := prev }
              let s2 := s1.setRow l.row { s1.row l.row with missed := 0, seen := s1.ms % 2 ^ 32, gain := gainAfter row.gain d.lanes }
              if d.lanes.any laneFails then s2.slotFailure l.row d false else s2
  | _, _ => s

/-- One lane of R186 to R188: the ToF in 1/16 RTU where the lane has a timestamp, and whether the legs or the sign fail. -/
def State.laneToF (s : State) (x : RespData) (n : Nat) : Option (Int × (Bool × Bool)) :=
  let r := nth ({} : LaneReport) x.lanes n
  if !bit r.flags 0 then none
  else
    let m := fun (a b : Nat) => ((a + 2 ^ 40 - b) % 2 ^ 40 : Nat)
    let ra : Int := m r.ts x.t1
    let da : Int := m x.t5 r.ts
    let db : Int := x.db
    let rb : Int := x.rb
    let tof := divRoundI (16 * (ra * rb - da * db)) (ra + rb + da + db).toNat
    let legs := 1000000000 * (ra + da) - (db + rb) * (1000000000 - x.co)
    let leg := decide ((2000000000 * s.cxConf 0x2C03 7 : Nat) < legs.natAbs)
    let neg := decide (tof < -((16 * s.cxConf 0x2C03 9 : Nat) : Int))
    some (if neg then tof else max 0 tof, (leg, neg))

/-- The result of a session (R187, R188): ToF by lane and flags. -/
def State.result (s : State) (x : RespData) (macFail : Bool) : List Int × Nat :=
  let seqFail := x.resp && x.lanes.any laneFails
  let base := 512 * b2n macFail + 8 * b2n seqFail
  if !x.report then ([0, 0, 0], base + 256)
  else
    let l := if x.resp then (List.range 3).map (fun n => s.laneToF x n) else [none, none, none]
    let leg := l.any (fun q => q.any (fun y => y.2.1))
    let neg := l.any (fun q => q.any (fun y => y.2.2))
    let co := x.resp && decide ((s.cxConf 0x2C03 8 : Int) < (x.co + x.tco).natAbs)
    let ok := fun (n : Nat) => (nth none l n).any (fun y => !y.2.1 && !y.2.2) && x.tokOk && !laneFails (nth ({} : LaneReport) x.lanes n)
    (l.map (fun q => (q.map (·.1)).getD 0),
     base + 1024 * b2n x.track + 128 * b2n (!x.tokOk) + 64 * b2n co + 32 * b2n neg + 16 * b2n leg + b2n (ok 0) + 2 * b2n (ok 1) + 4 * b2n (ok 2))

/-- The result of one session goes to its row and to the locator (R189, R201, R213). -/
def State.handOver (s : State) (r : Round) (l : Listed) : State :=
  let row := s.row l.row
  if row.id != l.id || row.st == 0 then s
  else
    let none0 : RespData := { number := r.number - 1, t1 := 0 }
    let old := l.prev.getD none0
    let x := if l.void then { none0 with number := r.number } else if r.full then l.cur else { old with report := old.report && old.track }
    let q := s.result x (!l.void && (l.cur.macFail || x.macFail))
    let s1 := s.setRow l.row { row with
      tof := q.1, flags := q.2, round := x.number, co := x.co, tco := x.tco,
      lqf := (List.range 3).map (fun n => (nth ({} : LaneReport) x.lanes n).lqf),
      rounds := if l.cur.resp then satAdd 32 row.rounds 1 else row.rounds, last := if row.st = 3 then some l.cur else none }
    let s2 := s1.emitIf (q.2 / 8 % 16 != 0) 0x07 0x2C07 (l.row + 65536 * (q.2 / 8 % 128))
    let fresh := !r.peer && decide (r.start ≤ r.epochAt + s2.conf 0x2802 0x2802 8 * msNs)
    let loc := s2.locate ((row.loc.map (·.zone)).getD 0)
      { tof := q.1, flags := q.2, lanes := x.lanes, rssi := row.rssi, tone := row.tone, ants := r.ants, fresh := fresh, round := x.number }
    (s2.setRow l.row { s2.row l.row with loc := some loc }).located l.row row.loc loc

/-- Missed rounds (R185). -/
def State.missCount (s : State) (l : Listed) : State :=
  let row := s.row l.row
  if row.id != l.id || row.st != 3 || l.cur.heard || l.cur.resp then s
  else
    let s1 := s.setRow l.row { row with missed := satAdd 8 row.missed 1 }
    if s1.cxConf 0x2C03 6 ≤ (s1.row l.row).missed then s1.sessionEnd l.row 2 else s1

/-- The coupling range in 1/16 RTU terms: ToF0 of a row is valid and within 0x2C30:04 (R195). -/
def State.couples (s : State) (n : Nat) : Bool :=
  let r := s.row n
  bit r.flags 0 && decide (nth 0 r.tof 0 * 46917 ≤ (s.cxConf 0x2C30 4 * 160000 : Nat))

/-- Coupling after a peer round (R195). -/
def State.couplingRound (s : State) (rows : List Nat) : State :=
  match rows.find? (fun n => s.couples n) with
  | none => { s with cx := { s.cx with coupleRun := 0 } }
  | some n =>
    let run := if s.cx.coupleRun != 0 && s.cx.coupleRow != n then 1 else min 3 (s.cx.coupleRun + 1)
    let s1 := { s with cx := { s.cx with coupleRun := run, coupleRow := n, coupleAt := s.now } }
    if run = 3 && !s.cx.coupled then
      { s1 with cx := { s1.cx with coupled := true, peerId := (s1.row n).id } }.emit 0x07 0x2C08 (1 + 256 * n)
    else s1

/-- COUPLING_TIMEOUT (R195). -/
def State.couplingTimeout (s : State) : State :=
  if s.cx.coupled && decide (s.cx.coupleAt + 10 * secNs ≤ s.now) then
    { s with cx := { s.cx with coupled := false, coupleRun := 0, peerId := List.replicate 8 0 } }.emit 0x07 0x2C08 (256 * s.cx.coupleRow)
  else s

/-- The calibration run takes its row's result (R149). -/
def State.calTake (s : State) (r : Round) : State :=
  match s.phy.cal with
  | none => s
  | some c =>
    match (if s.phy.chan = c.chan then r.ss.find? (fun l => l.row == c.row) else none) with
    | none => s
    | some l =>
      let x := if r.full then l.cur else l.prev.getD { number := 0, t1 := 0 }
      let row := s.row c.row
      let tofs := (List.range 3).map (fun n => if bit row.flags n then some (nth 0 row.tof n) else none)
      let phases := [1, 2].map (fun n => if bit row.flags n && bit row.flags 0 then
        some (untwos 16 (twos 16 (phaseDiff x.lanes n + s.confI 16 0x2601 0x2603 (chSub (2 * n - 1) s.phy.chan)))) else none)
      s.calRound tofs phases

/-- The rows of a round's sessions. -/
def Round.rowsOf (r : Round) : List Nat := r.ss.map (·.row)

/-- ROUND_END up to the results (R185, R189, R195): whether a round ended, and its rows, for policy. -/
def State.roundEnd (s : State) : State × Option Round :=
  match s.cx.round with
  | none => (s, none)
  | some r =>
    let total := roundSlots r.ss.length r.full
    if r.begun < total || s.now < r.start + total * slotNs then (s, none)
    else
      let s1 := { s with
        cx := { s.cx with round := none, rounds := satAdd 32 s.cx.rounds 1 },
        phy := { s.phy with round := false, window := false, rx := none, delivered := none } }
      let s2 := r.ss.foldl (fun (t : State) l => t.handOver r l) s1
      let s3 := r.ss.foldl (fun (t : State) l => t.missCount l) s2
      let lq := r.ss.flatMap (fun l => (l.cur.lanes.filter (fun x => bit x.flags 0)).map (·.lqf))
      let s4 := (s3.roundLqf lq).calTake r
      (if r.peer then s4.couplingRound r.rowsOf else s4, some r)

/-- PEER_CHALLENGE (R194): the tractor's challenge with its epoch and reply window. -/
def State.peerChallenge (s : State) : State :=
  let period := s.cxConf 0x2C30 2 * secNs
  let due : Bool := match s.cx.challengedAt with
    | none => true
    | some t => decide (t + period ≤ s.now)
  if !(s.obj 0x2C30 1 == 1 && due && s.rangingOk && s.serving 0x07 && s.trustKeys && s.cx.round.isNone && s.cx.macs.isEmpty && !s.phy.window) then s
  else
    match s.cxSnapshot.draw 7 8 with
    | none => s
    | some (t, nonce) =>
      let counter := (t.cx.peerCounter + 1) % 256
      let code := t.cxConf 0x2C04 1
      let params := 8192 * code + counter
      let body := [0x12, 0x01] ++ t.vehicleBytes ++ nonce ++ [byte counter] ++ beBytes 2 params ++ [0]
      let kg := t.slot 11
      let krd := if kg.ty = 0 then [] else roundKey kg.key t.vehicleBytes nonce
      let e : Epoch := { serial := t.cx.serial + 1, start := t.now, nonce := nonce, counter := counter, params := params, krd := krd }
      let w : ReplyWin := { peer := true, start := t.now + 135705 + 1000000, slots := 8 * 2 ^ code }
      let f : TxFrame := { sfdB := false, key := [], iv := [], payload := body, chan := t.phy.chan, idx := t.sampleAt t.now }
      { t with
        cx := { t.cx with pep := some e, serial := t.cx.serial + 1, win := some w, challengedAt := some t.now, peerCounter := counter },
        phy := { t.phy with tx := some f, window := true } }

end Sys2Proof.Machine
end

