-- ==== Sys2Proof/Machine/Pairing.lean ====
section
/-! DEFINITION. Pairing (R157 to R161, R198): the paired list, group keys, pairing records, tractor pairings; and the peer role (R184, R196, R197). -/

namespace Sys2Proof.Machine

open Sys2Proof

/-- Replaces an entry of the paired list (R161): its two records commit, and PAIRING_CHANGED is raised. -/
def State.setEntry (s : State) (e : Nat) (id : Bytes) (st : Nat) : State :=
  let s1 := (s.recWrite 0 (key 0x2C21 (e + 1)) 8).recWrite 0 (key 0x2C22 (e + 1)) 1
  { s1 with rr := { s1.rr with paired := if st = 0 then kvDel s1.rr.paired e else kvPut s1.rr.paired e (id, st) } }.emit 0x07 0x2C09 (e + 256 * st)

/-- Ends the session of an ID (R161, R185). -/
def State.endId (s : State) (id : Bytes) (cause : Nat) : State := s.endSessions (fun r => r.id == id && (r.kind == 1 || r.kind == 2)) cause

/-- The entry for a new pairing (R160, R198): the ID's own, else the first empty one. -/
def State.entryFor (s : State) (id : Bytes) : Option Nat :=
  match s.rr.paired.find? (fun e => e.2.1 == id) with
  | some e => some e.1
  | none => (List.range 128).find? (fun e => (kvGet? s.rr.paired e).isNone)

/-- A transport slot that can carry a pairing record: an AES-256 key (R160). -/
def State.transport (s : State) : Option Bytes :=
  let x := s.slot (s.obj 0x2C23 2)
  if x.ty = 3 then some x.key else none

/-- Random bytes that a pairing draws (R158, R160): the IV, and the master and group key at the first pairing of the kind. -/
def State.pairNeed (s : State) (id : Bytes) : Nat :=
  12 + (if (s.slot (masterSlot (idKind id))).ty = 0 then 32 else 0) + (if (s.slot (groupSlot (idKind id == 2))).ty = 0 then 16 else 0)

/-- A new key from channel 6 for a slot that is EMPTY (R158). -/
def State.ensureKey (s : State) (n ty usage len : Nat) : State :=
  if (s.slot n).ty ≠ 0 then s
  else match s.draw 6 len with
    | some (t, k) => t.putKey n { ty := ty, usage := usage, pers := true, origin := 1, key := k }
    | none => s

/-- PAIR_PARTNER (R157, R158, R160, R161). -/
def State.pairPartner (s : State) (id : Bytes) : State × Nat :=
  let kind := idKind id
  if kind ≠ 1 ∧ kind ≠ 2 then (s, abRange)
  else if !s.trustKeys then (s, abUnavail)
  else
    match s.entryFor id, s.transport with
    | none, _ => (s, abBusy)
    | _, none => (s, abSequence)
    | some e, some tk =>
      let first := (s.slot 8).ty == 0 && (s.slot 10).ty == 0
      let s0 := if first && s.rr.vehicleId == 0 then { s with rr := { s.rr with vehicleId := Config.vehicleIdentifier % 2 ^ 64 } } else s
      let s1 := (s0.ensureKey (masterSlot kind) 3 0x10 32).ensureKey (groupSlot (kind == 2)) 1 0x1C 16
      match s1.draw 6 12 with
      | none => (s, abUnavail)
      | some (s2, iv) =>
        let s3 := s2.ran (masterSlot kind)
        let wake := if kind = 2 then 0 else s3.obj 0x2010 1
        let plain := id ++ s3.vehicleBytes ++ beBytes 2 wake ++ [0, 0, 0, 0, 0, 0] ++ s3.tokKey id ++ (s3.slot (groupSlot (kind == 2))).key
        let ct := gcmEnc tk iv (ascii "CHN-PAIR") plain
        let s4 := (s3.setEntry e id 1).recWrite 0 (key 0x2C23 3) 84
        ({ s4 with rr := { s4.rr with pairRec := iv ++ ct.1 ++ ct.2 } }, abOk)

/-- ENTRY_STATUS (R161, R198) by a client with a role. -/
def State.entryStatus (s : State) (role e st : Nat) : State × Nat :=
  let x := kvGet (List.replicate 8 0, 0) s.rr.paired e
  if role = roleH ∧ st ≠ 2 then (s, abRole)
  else if st = 1 ∧ x.2 = 0 then (s, abSequence)
  else
    let s1 := s.setEntry e x.1 st
    (if st = 1 then s1 else s1.endId x.1 3, abOk)

/-- ROTATE_GROUP_KEY (R161): a new key from channel 6, and the present epoch ends. -/
def State.rotateKey (s : State) (which : Nat) : State × Nat :=
  let peer := which == 2
  let n := groupSlot peer
  if s.retired n then (s, abRange)
  else match s.draw 6 16 with
    | none => (s, abUnavail)
    | some (t, k) => ((t.putKey n { ty := 1, usage := 0x1C, pers := true, origin := 1, key := k }).epochEndNow peer 1, abOk)

/-- IMPORT_TRACTOR_RECORD (R160, R198) into pairing n. -/
def State.importTractor (s : State) (n : Nat) (data : Bytes) : State × Nat :=
  match s.transport with
  | none => (s, abAuthFail)
  | some tk =>
    match gcmDec tk (data.take 12) (ascii "CHN-PAIR") (slice 12 56 data) (slice 68 16 data) with
    | none => (s, abAuthFail)
    | some p =>
      if idKind p ≠ 2 || (slice 16 8 p).any (· != 0) then (s, abRange)
      else
        let x : Tractor := { id := p.take 8, vid := slice 8 8 p, ktok := slice 24 16 p, kpgrp := slice 40 16 p }
        let s1 := s.recWrite 0 (key 0x2C32 (n + 1)) 84
        let s2 := { s1 with rr := { s1.rr with tractors := kvPut s1.rr.tractors n x } }
        (match s2.cx.peer with
         | some q => if q.tractor = n then s2.sessionEnd q.row 4 else s2
         | none => s2, abOk)

/-- The peer role listens (R196, R245): outside the device's own rounds and reply windows. -/
def State.peerListens (s : State) : Bool :=
  s.obj 0x2C30 7 == 1 && s.rangingOk && s.serving 0x07 && s.cx.round.isNone && !s.phy.window && s.lf.tele.all (fun q => !q.window) &&
  (s.pol.gov ≤ 2 || (s.pol.gov == 3 && s.now / (100 * msNs) % 2 == 0))

/-- Runs a reception step with the receive window that the peer role keeps open (R196). -/
def State.withPeerWindow (s : State) (f : State → State) : State :=
  if s.peerListens then
    let t := f { s with phy := { s.phy with window := true } }
    { t with phy := { t.phy with window := false } }
  else f s

/-- The tractor pairing of a vehicle identifier. -/
def State.tractorOf (s : State) (vid : Bytes) : Option (Nat × Tractor) := s.rr.tractors.find? (fun e => e.2.vid == vid)

/-- The row of a tractor (R170, R196): its own, or a FREE one inside the quota. -/
def State.tractorRow (s : State) (vid : Bytes) : Option Nat :=
  match s.findRow (fun r => r.kind == 3 && r.id == vid) with
  | some n => some n
  | none => if 4 ≤ s.countRows (fun r => r.kind == 3) then none else s.freeRow

/-- PEER_CHALLENGE_RECEIVED (R162 to R164, R194, R196): the REPLY, and the session that it starts. -/
def State.challengeReceived (s : State) : State :=
  match s.phy.delivered with
  | none => s
  | some d =>
    let p := d.payload
    if !((p.getD 0 0) == 0x12 && s.obj 0x2C30 7 == 1 && s.cx.round.isNone) then s
    else
      let s0 := { s with phy := { s.phy with delivered := none } }
      if !(p.length == 22 && (p.getD 1 0) == 0x01) then { s0 with cx := { s0.cx with discarded := satAdd 32 s0.cx.discarded 1 } }
      else
        match s0.tractorOf (slice 2 8 p), s0.tractorRow (slice 2 8 p), s0.draw 7 8 with
        | some t, some n, some (s1, nonce) =>
          if !(s1.trustKeys && s1.rangingOk && s1.serving 0x07) then s0
          else
            let x := t.2
            let params := beNat (slice 19 2 p)
            let counter := (p.getD 18 0).toNat
            let vn := slice 10 8 p
            let head := [0x11, 0x01] ++ x.id ++ nonce ++ [byte counter, 0] ++ List.replicate 18 0 ++ [0x20, 0]
            let mac := cmac x.ktok (replyMessage x.vid 0 vn params head)
            let k := replySlot x.id vn (8 * 2 ^ (params / 8192 % 4))
            let idx := (d.idx + 2 ^ 48 - refChip d.sfdB + 67744 + (1000000 + 20000) * 312 / 625 + k * slotSamples) % 2 ^ 48
            let ks := sessionKeys x.ktok x.vid x.id vn nonce counter
            let h := beNat (mac.take 2)
            let handle := if h = 0 then 1 else h
            let s2 := match s1.cx.peer with
              | some q => if q.row = n then s1 else s1.sessionEnd q.row 1
              | none => s1
            let ps : PeerSession := { tractor := t.1, row := n, handle := handle, kmac := ks.1, krng := ks.2, krd := roundKey x.kpgrp x.vid vn, pollAt := s2.now }
            let r : Row := { s2.row n with st := 3, kind := 3, id := x.vid, handle := handle, rounds := 0, seen := s2.ms % 2 ^ 32, kmac := ks.1, krng := ks.2, doneAt := s2.now }
            let f : TxFrame := { sfdB := false, key := [], iv := [], payload := head ++ mac, chan := s2.phy.chan, idx := idx }
            let s3 := s2.setRow n r
            ({ s3 with cx := { s3.cx with peer := some ps }, phy := { s3.phy with tx := some f } }).emit 0x07 0x2C01 (n + 768)
        | _, _, _ => s0

/-- The checks of a POLL or FINAL in the peer role (R184): its tag and its ranging sequence. -/
def PeerSession.passes (q : PeerSession) (vid label : Bytes) (d : DFrame) : Bool :=
  let p := d.payload
  let r := nth ({} : LaneReport) d.lanes 0
  deviceTag q.krd vid label (p.take (p.length - 8)) == p.drop (p.length - 8) && bit r.flags 0 && decide (r.half.natAbs ≤ 64)

/-- A frame in the peer role's RESP or REPORT format (R181, R182). -/
def PeerSession.frame (q : PeerSession) (x : Tractor) (kind : Nat) (valid pollOk finalOk : Bool) (v : Nat × (Nat × (Int × Nat))) : Bytes :=
  let z := if kind = 0x22 && !valid then (0, (0, ((0 : Int), 0))) else v
  let b := [byte kind, byte (128 * b2n (kind == 0x24 || valid) + 64 * b2n pollOk + 32 * b2n finalOk)] ++ beBytes 4 q.number ++ beBytes 2 q.handle ++
    beBytes 4 z.1 ++ beBytes 4 z.2.1 ++ beBytes 4 (twos 32 z.2.2.1) ++ [byte z.2.2.2, 0]
  b ++ tokenMac q.kmac x.vid x.id (ascii (if kind = 0x22 then "CHN-RESP" else "CHN-REPT")) b

/-- The peer role's session ends (R184). -/
def State.peerEnd (s : State) (q : PeerSession) (cause : Nat) : State :=
  let t := s.sessionEnd q.row cause
  { t with cx := { t.cx with peer := none } }

/-- POLL_RECEIVED (R184, R196, R197): a POLL that passes is answered with the RESP. -/
def State.pollReceived (s : State) : State :=
  match s.phy.delivered, s.cx.peer with
  | some d, some q =>
    let p := d.payload
    if !((p.getD 0 0) == 0x21 && s.cx.round.isNone) then s
    else
      let s0 := ({ s with phy := { s.phy with delivered := none } }).unlisted p
      let x := kvGet ({} : Tractor) s0.rr.tractors q.tractor
      let n := (p.getD 6 0).toNat
      let number := beNat (slice 2 4 p)
      let fl := (p.getD 1 0).toNat
      if !(listedKind p && q.passes x.vid (ascii "CHN-POLL") d) then
        if q.failed = 2 then s0.peerEnd q 2 else { s0 with cx := { s0.cx with peer := some { q with failed := q.failed + 1 } } }
      else
        let hs := (List.range n).map (fun i => beNat (slice (8 + 2 * i) 2 p))
        let place := match hs.findIdx? (· == q.handle) with
          | some i => if q.any && number ≤ q.number then 0 else i + 1
          | none => 0
        let slotIdx := (d.idx + 2 ^ 48 - 37088 - leadSamples) % 2 ^ 48
        let t2 := (nth ({} : LaneReport) d.lanes 0).ts
        let idx := (slotIdx + place * slotSamples + leadSamples) % 2 ^ 48
        let t3 := s0.txStamp s0.phy.chan ((idx + 37088) % 2 ^ 48)
        let full := bit fl 7
        let q1 := { q with
          failed := 0, pollAt := s0.now, number := number, any := true, place := place, n := n, full := full, slotAt := slotIdx, ends := bit fl 6, t2 := t2, t3 := t3,
          answered := if place = 0 then q.answered else q.answered + 1, owed := full && place != 0 }
        let prev := match q.done with
          | some v => if v.1 + 1 = number && !full then some v.2 else none
          | none => none
        let resp := q1.frame x 0x22 prev.isSome prev.isSome prev.isSome (prev.getD (0, (0, (0, 0))))
        let f : TxFrame := { sfdB := true, key := q.krng, iv := seqIv 0x22 number q.handle, payload := resp, chan := s0.phy.chan, idx := idx }
        { s0 with cx := { s0.cx with peer := some q1 }, phy := { s0.phy with tx := if place = 0 then s0.phy.tx else some f } }
  | _, _ => s

/-- FINAL_RECEIVED (R184): the next round, and the round's times. -/
def State.finalReceived (s : State) : State :=
  match s.phy.delivered, s.cx.peer with
  | some d, some q =>
    let p := d.payload
    if !((p.getD 0 0) == 0x23 && s.cx.round.isNone) then s
    else
      let s0 := ({ s with phy := { s.phy with delivered := none } }).unlisted p
      let x := kvGet ({} : Tractor) s0.rr.tractors q.tractor
      if !(listedKind p && q.passes x.vid (ascii "CHN-FINL") d && beNat (slice 2 4 p) == q.number) then s0
      else
        let m := fun (a b : Nat) => (a + 2 ^ 40 - b) % 2 ^ 40
        let t6 := (nth ({} : LaneReport) d.lanes 0).ts
        let v := (m q.t3 q.t2 % 2 ^ 32, (m t6 q.t3 % 2 ^ 32, (d.co, (nth ({} : LaneReport) d.lanes 0).lqf)))
        let gap := (beNat (slice 6 2 p) + q.n + 1) * slotNs
        let q1 := { q with gap := gap, done := if q.place = 0 then q.done else some (q.number, v) }
        if (q.ends || bit (p.getD 1 0).toNat 6) && !q.owed then s0.peerEnd q1 1
        else { s0 with cx := { s0.cx with peer := some { q1 with ends := q.ends || bit (p.getD 1 0).toNat 6 } } }
  | _, _ => s

/-- The REPORT that the peer role owes, in its slot of a FULL round (R184, R197). -/
def State.peerReport (s : State) : State :=
  match s.cx.peer with
  | none => s
  | some q =>
    let at_ := q.slotAt + (q.n + 1 + q.place) * slotSamples
    if !q.owed || s.cx.round.isSome || !s.rangingOk || (s.sampleAt s.now + 2 ^ 48 - at_) % 2 ^ 48 ≥ 2 ^ 47 then s
    else
      let x := kvGet ({} : Tractor) s.rr.tractors q.tractor
      let got := q.done.any (fun v => v.1 == q.number)
      let v := if got then (q.done.getD (0, (0, (0, (0, 0))))).2 else ((q.t3 + 2 ^ 40 - q.t2) % 2 ^ 40 % 2 ^ 32, (0, (0, 0)))
      let f : TxFrame := { sfdB := true, key := q.krng, iv := seqIv 0x24 q.number q.handle, payload := q.frame x 0x24 true true got v, chan := s.phy.chan, idx := (at_ + leadSamples) % 2 ^ 48 }
      let s1 := { s with phy := { s.phy with tx := some f } }
      if q.ends then s1.peerEnd q 1 else { s1 with cx := { s1.cx with peer := some { q with owed := false } } }

/-- PEER_SESSION_TIMEOUT (R184): the longer of 6 s and three gaps without a POLL that passes. -/
def State.peerTimeout (s : State) : State :=
  match s.cx.peer with
  | none => s
  | some q => if q.pollAt + max (6 * secNs) (3 * q.gap) ≤ s.now then s.peerEnd q 2 else s

/-- SLOT_START (R175, R184, R197): a slot of the device's own round, a REPORT that the peer role owes, or a reply slot's gain. -/
def State.slotStart (s : State) : State :=
  match s.cx.round with
  | some r => s.roundSlot r
  | none =>
    let s1 := s.peerReport
    match s1.cx.win with
    | some w =>
      if w.open_ s1.now && s1.phy.window then s1.setGain (s1.slotGain w.peer w.slots (w.slotAt s1.now) (((s1.epochOf w.peer).map (·.nonce)).getD [])) else s1
    | none => s1

/-- The tractor that 0x2C30:08 shows (R196). -/
def State.coupledTractor (s : State) : Bytes :=
  match s.cx.peer with
  | some q => if 3 ≤ q.answered then (kvGet ({} : Tractor) s.rr.tractors q.tractor).vid else List.replicate 8 0
  | none => List.replicate 8 0

end Sys2Proof.Machine
end

