-- ==== Sys2Proof/Machine/Policy.lean ====
section
/-! DEFINITION. Policy and the start-lock outputs (R219 to R249): requests and decisions, suspicion, lock, releases and latches, the release message,
the driver binding, degraded entry and the thermal governor. -/

namespace Sys2Proof.Machine

open Sys2Proof

/-- UNLOCK. -/
def rqUnlock : Nat := 1
/-- START. -/
def rqStart : Nat := 2
/-- Outcome codes of R235: UNLOCK. -/
def ocUnlock : Nat := 1
/-- START_ALLOWED. -/
def ocStart : Nat := 2
/-- REFUSED. -/
def ocRefused : Nat := 3
/-- LOCKED. -/
def ocLocked : Nat := 4
/-- LATCHED. -/
def ocLatched : Nat := 5
/-- RELEASE_ENDED. -/
def ocEnded : Nat := 6
/-- TRUST_LOST. -/
def ocTrustLost : Nat := 7

/-- Policy serves: it has started and the trust pair is in service (R247). -/
def State.policyServes (s : State) : Bool := s.powered && s.serving 0x21 && !s.trustLost

/-- A value of policy's configuration snapshot (R22, R252). -/
def State.polConf (s : State) (ix sub : Nat) : Nat := s.conf 0x2901 ix sub

/-- An identifier lies in a BDP identifier range (R47). -/
def State.inBdpRange (s : State) (id : Nat) : Bool :=
  [2, 3].any (fun k => decide (s.obj 0x1101 k ≤ id) && decide (id ≤ s.obj 0x1101 k + 15))

/-- The outputs' snapshot (R22, R253): for a message, a request and each frame that they take (log entry 74). -/
def State.outSnapshot (s : State) : State :=
  let id := s.obj 0x2A10 1
  let ok := id != s.obj 0x2A21 1 && id != s.obj 0x2A22 2 && !s.inBdpRange id
  s.snapshot 0x2A10 0x2A10 0x2A22 ok 0x06 0x2A05 (256 * 0x2A10 + 1)

/-- Snapshots of policy and the outputs (R22, R252, R253). -/
def State.polSnapshot (s : State) : State :=
  (s.snapshot 0x2901 0x2901 0x2902 (s.obj 0x2901 2 != 0) 0x21 0x2909 (256 * 0x2901 + 2)).outSnapshot

/-- A value of the outputs' configuration snapshot. -/
def State.outConf (s : State) (ix sub : Nat) : Nat := s.conf 0x2A10 ix sub

/-- The value that the outputs' work would find, were it to begin now (R22). -/
def State.outNow (s : State) (ix sub : Nat) : Nat := s.outSnapshot.outConf ix sub

/-- The outputs take requests and engine-state frames (R238, R239): also while a lasting output fault has them FAILED (R254, log entry 74). -/
def State.outputsHear (s : State) : Bool := s.powered && (s.serving 0x06 || s.ownState 0x06 == stFailed)

/-- The release message's 32 bytes (R235). -/
def State.releaseBytes (s : State) (out cause cls zone flags : Nat) (id : Bytes) (validity n : Nat) (signed : Bool) : Bytes :=
  let z := if out = ocLocked || out = ocRefused || out = ocTrustLost then 0 else cls
  let b := [byte out, byte flags, byte z, byte zone] ++ leBytes 4 (s.counter 1 % 2 ^ 32) ++ leBytes 4 n ++ padTo 8 id ++ leBytes 2 validity ++ [byte cause, 0]
  b ++ (if signed then (cmac (s.slot 12).key (ascii "KVRELEAS" ++ s.vehicleBytes ++ b)).take 8 else List.replicate 8 0)

/-- A release message goes to the buses of 0x2A10:02 (R235). -/
def State.releaseQueue (s : State) (data : Bytes) : State :=
  let f : CanFrame := { id := s.outConf 0x2A10 1, fdf := true, brs := s.outConf 0x2A10 4 == 1 && !s.sup.rc, dlc := 13, data := data }
  [0, 1].foldl (fun (t : State) b => if bit (t.outConf 0x2A10 2) b then t.canQueue b { cls := .release, fr := f } else t) s

/-- Validity left in ms, as objects and messages show it (R235, R253). -/
def State.validity (s : State) : Nat := if s.pol.out = 2 then 0xFFFF else if s.pol.out = 1 then (s.pol.validTill - s.now + msNs - 1) / msNs else 0

/-- A release message of an outcome (R235, R236): none while trust pair or cipher engine are out of service, or the release key's slot is EMPTY. -/
def State.sendRelease (s : State) (out cause cls zone flags : Nat) (id : Bytes) : State :=
  if !s.trustKeys || (s.slot 12).ty = 0 || !s.powered then s
  else
    let n := (s.pol.messages + 1) % 2 ^ 32
    let s1 := ({ s.outSnapshot with pol := { s.pol with messages := n } }).ran 12
    s1.releaseQueue (s1.releaseBytes out cause cls zone flags id s1.validity n true)

/-- Flags that every outcome carries by the state of the device (R235, R244): LF_ONLY at that level, LATCHED while the outputs are latched. -/
def State.stateFlags (s : State) : Nat := 16 * b2n (s.loc.level == 3) + b2n (s.pol.out == 2)

/-- The outcome record of 0x2A30 (R253) with its message (R236). -/
def State.outcome (s : State) (out cause cls zone row row2 flags src : Nat) (id : Bytes) : State :=
  let f := flags ||| s.stateFlags
  let p := { s.pol with outcome := out, cause := cause, cls := cls, zone := zone, row := row, row2 := row2, flags := f, decMs := s.ms % 2 ^ 32, src := src }
  ({ s with pol := p }).sendRelease out cause cls zone f id

/-- A decision on a request (R222, R254). -/
def State.decision (s : State) (out cause cls zone row row2 flags src : Nat) (id : Bytes) : State :=
  let s1 := { s with pol := { s.pol with decisions := satAdd 32 s.pol.decisions 1, refusals := if out = ocRefused then satAdd 32 s.pol.refusals 1 else s.pol.refusals } }
  let s2 := s1.emit 0x21 0x2901 (out + 256 * cause + 65536 * row)
  let s3 := s2.outcome out cause cls zone row row2 flags src id
  s3.emitIf (s3.loc.level == 3) 0x21 0x2908 (out + 256 * s3.pol.presence.run)

/-- No ID. -/
def noId : Bytes := List.replicate 8 0

/-- A request resolves as REFUSED (R222), or as another outcome without a token. -/
def State.refuse (s : State) (cause src : Nat) : State := s.decision ocRefused cause 0 0 0xFF 0xFF 0 src noId

/-- Priority marks go where no request is pending any more (R220). -/
def State.unmark (s : State) : State :=
  if s.pol.pend.isEmpty then
    { s with cx := { s.cx with rows := s.cx.rows.map (fun e => (e.1, { e.2 with marks := e.2.marks &&& 2 })) } }
  else s

/-- The held marks follow the deciding tokens of the present release or latch (R172, R198). -/
def State.holdMarks (s : State) : State :=
  { s with cx := { s.cx with rows := s.cx.rows.map (fun e =>
    (e.1, { e.2 with marks := e.2.marks % 2 + 2 * b2n (s.pol.out != 0 && (e.2.kind == 1) && s.pol.partners.contains e.2.id) })) } }

/-- A change of the lock state (R226, R254). -/
def State.setLock (s : State) (v : Bool) (src : Nat) : State :=
  if s.pol.locked = v then s
  else { s with pol := { s.pol with locked := v } }.emit 0x21 0x2905 (b2n v + 256 * src)

/-- Resolves every pending request (R226, R247). -/
def State.resolveAll (s : State) (out cause : Nat) : State :=
  let l := s.pol.pend
  let s1 := { s with pol := { s.pol with pend := [] } }
  (l.foldl (fun (t : State) q => t.decision out cause 0 0 0xFF 0xFF 0 q.src noId) s1).unmark

/-- The vehicle is unlocked (R93, R226). -/
def State.unlocked (s : State) (src : Nat) : State := (s.roosterUnlock).setLock false src

/-- LOCK (R226, R227). -/
def State.lockRequest (s : State) (src : Nat) : State :=
  let s1 := s.resolveAll ocRefused 6
  let s2 := s1.decision ocLocked 0 0 0 0xFF 0xFF 0 src noId
  let s3 := s2.setLock true src
  if s3.pol.engine then { s3 with pol := { s3.pol with lockDue := true } } else { s3.roosterLock with pol := { s3.roosterLock.pol with lockDue := false } }

/-- The first falling edge of SE_A at or after a time (R229). -/
def Pol.fallAt (p : Pol) (t : Nat) : Nat :=
  let first := p.waveAt + 500000
  if t ≤ first then first else first + (t - first + 999999) / 1000000 * 1000000

/-- When an unrenewed release ends: the falling edge of SE_A at or after the end of its validity (R229, R230). -/
def Pol.endAt (p : Pol) : Nat := p.fallAt p.validTill

/-- A latch or release ends: the waveform stops after its next falling edge (R229, R231, R236). -/
def State.endRelease (s : State) : State :=
  if s.pol.out = 0 then s
  else
    let p := { s.pol with out := 0, latch := none, partners := [], validTill := s.now, waveEnd := if s.pol.out = 1 && decide (s.pol.endAt ≤ s.now) then s.pol.endAt else s.pol.fallAt s.now }
    let s1 := ({ s with pol := p }).emit 0x06 0x2A01 0
    (s1.outcome ocEnded 0 s.pol.relCls s.pol.relZone s.pol.relRow 0xFF (s.pol.relFlags &&& 0x3E) s.pol.src (s.pol.partners.headD noId)).holdMarks

/-- START_ALLOWED (R222, R229, R230, R247): the outputs are released, or the present release's validity starts again. -/
def State.release (s : State) (cls zone row row2 flags src : Nat) (ids : List Bytes) : State :=
  let fresh := s.pol.out == 0
  let p := { s.pol with
    out := 1, waveAt := if fresh then s.now else s.pol.waveAt, validTill := s.now + 2000 * msNs, renewAt := s.now, msgAt := s.now, partners := ids,
    relFlags := flags, relCls := cls, relZone := zone, relRow := row, ambiguous := bit flags 1, releases := if fresh then satAdd 32 s.pol.releases 1 else s.pol.releases }
  let s1 := ({ s with pol := p }).emitIf fresh 0x06 0x2A01 1
  let s2 := s1.decision ocStart 0 cls zone row row2 flags src (ids.headD noId)
  (s2.emitIf (bit flags 1) 0x21 0x2904 (row + 256 * row2)).holdMarks

/-- DRIVER_BIND (R240): the record, the binding and its event. -/
def State.bind (s : State) (d1 d2 cls zone flags row out : Nat) : State :=
  let body := leBytes 8 d1 ++ leBytes 8 d2 ++ [byte zone, byte cls, byte flags, byte s.loc.level, byte out] ++ List.replicate 11 0
  let s1 := s.record 0x0010 body
  let s2 := { s1 with pol := { s1.pol with driver := d1, driver2 := d2, bindFlags := flags, bound := true, boundRow := row, ambiguous := bit flags 1, rebind := none } }
  s2.emit 0x21 0x2906 (row % 256 + 256 * flags)

/-- DRIVER_UNBIND (R240): cause 1 engine stop, 2 rebind, 3 reset. -/
def State.unbind (s : State) (cause : Nat) : State :=
  if !s.pol.bound then s
  else
    let s1 := s.record 0x0011 (leBytes 8 s.pol.driver ++ [byte cause] ++ List.replicate 7 0)
    let row := s.pol.boundRow
    let fl := s.pol.bindFlags
    { s1 with pol := { s1.pol with driver := 0, driver2 := 0, bindFlags := 0, bound := false, boundRow := 0xFF, ambiguous := false, rebind := none } }.emit
      0x21 0x2906 (row % 256 + 256 * fl + 65536)

/-- A release becomes LATCHED (R231, R240). -/
def State.latchNow (s : State) : State :=
  let p := s.pol
  let flags := p.relFlags ||| 1
  let d1 := leNat (p.partners.headD noId)
  let d2 := if bit flags 1 then leNat (p.partners.getD 1 noId) else 0
  let s1 := { s with pol := { p with
    out := 2, relFlags := flags, msgAt := s.now, latch := some { driver := d1, driver2 := d2, zone := p.relZone, cls := p.relCls, flags := flags } } }.emit 0x06 0x2A01 2
  let s2 := s1.bind d1 d2 p.relCls p.relZone flags p.relRow ocLatched
  s2.outcome ocLatched 0 p.relCls p.relZone p.relRow p.row2 flags p.src (p.partners.headD noId)

/-- Rooster is IDLE while the engine runs (R92); a vehicle that stays locked has its next lock instant when the engine stops (R227). -/
def State.roosterRest (s : State) : State :=
  if s.aon.rooster.st = 0 then s else { s.roosterUnlock with pol := { s.pol with lockDue := s.pol.locked } }

/-- The engine state changes or is reported again (R92, R227, R231, R240, R247). -/
def State.engineState (s : State) (v : Bool) : State :=
  let s0 := { s with pol := { s.pol with engineKnown := true } }
  if v then
    if s.pol.engine then s0
    else
      let s1 := ({ s0 with pol := { s0.pol with engine := true } }).roosterRest
      if s1.pol.out = 1 && decide (s1.now < s1.pol.endAt) && !s1.trustLost then s1.latchNow else s1
  else
    let s1 := { s0 with pol := { s0.pol with engine := false } }
    let s2 := if s.pol.engine then s1.unbind 1 else s1
    let s3 := if s2.pol.lockDue && s2.pol.locked then { s2.roosterLock with pol := { s2.roosterLock.pol with lockDue := false } } else s2
    if s3.pol.out = 2 && s3.trustLost then s3.endRelease else s3

/-- An output fault is present, or the outputs are FAILED (R234, R254). -/
def State.outputBad (s : State) : Bool := s.pol.faultMask != 0 || s.ownState 0x06 == stFailed

/-- The outputs cannot be released (R234, R254): an output fault, or the unit is not serving (R15, log entry 74). -/
def State.outputsOut (s : State) : Bool := s.outputBad || !s.serving 0x06

/-- The degraded-entry mode gives an outcome to a request (R244). -/
def State.degradedServes (s : State) (code : Nat) : Bool :=
  let m := s.polConf 0x2902 1
  interiorMask s.rr.map != 0 && (m == 2 || (m == 1 && code == rqStart))

/-- UNLOCK and START (R219, R220, R244, R246, R247). -/
def State.ask (s : State) (code src : Nat) : State :=
  if !s.policyServes then s.refuse 7 src
  else
    let s0 := s.polSnapshot
    if s0.rr.lifecycle = lcReturned then s0.refuse 5 src
    else if code = rqStart && s0.pol.out == 2 then s0.decision ocLatched 0 s0.pol.relCls s0.pol.relZone s0.pol.relRow 0xFF s0.pol.relFlags src (s0.pol.partners.headD noId)
    else if code = rqStart && s0.outputsOut then s0.refuse 8 src
    else if s0.loc.level = 0 || (s0.loc.level = 3 && !s0.degradedServes code) then s0.refuse 5 src
    else if s0.pol.pend.any (fun q => q.code == code) then s0
    else
      let first := s0.pol.pend.isEmpty
      let serial := if s0.lf.tele.isSome then s0.cx.serial else s0.cx.serial + 1
      let q : Request := { code := code, src := src, at_ := s0.now, epoch := serial }
      let s1 := { s0 with
        pol := { s0.pol with pend := s0.pol.pend ++ [q], prompt_ := true, presence := if first && s0.pol.out != 1 then { last := s0.pol.presence.last } else s0.pol.presence },
        cx := { s0.cx with rows := s0.cx.rows.map (fun e => if s0.pol.recent.contains e.1 then (e.1, { e.2 with marks := e.2.marks ||| 1 }) else e) } }
      if s1.loc.level = 3 then s1 else s1.demand

/-- A request by its code (R219, R226). -/
def State.policyRequest (s : State) (code src : Nat) : State :=
  if code = 1 || code = 2 then s.ask code src
  else if !s.policyServes then s.refuse 7 src
  else if code = 3 then s.polSnapshot.lockRequest src
  else if code = 4 then s.resolveAll ocRefused 6
  else s.unlocked src

/-- A CAN request frame (R238). -/
def State.requestFrame (s : State) (bus : Nat) (f : CanFrame) : State :=
  if !s.outputsHear || s.outNow 0x2A21 3 != 1 || !bit (s.outNow 0x2A21 2) bus || f.ide || f.rtr || f.id != s.outNow 0x2A21 1 || f.data.length < 2 then s
  else
    let s0 := s.outSnapshot
    let code := (f.data.getD 0 0).toNat
    let cnt := (f.data.getD 1 0).toNat
    let rep := match s.pol.lastReq with
      | some q => q.1 == code && q.2.1 == cnt && decide (s.now ≤ q.2.2 + secNs)
      | none => false
    let s1 := { s0 with pol := { s0.pol with lastReq := some (code, (cnt, s.now)) } }
    if rep then s1
    else if 1 ≤ code && code ≤ 5 then s1.policyRequest code 2
    else s1.emit 0x06 0x2A03 code

/-- ENGINE_STATE_FRAME (R239). -/
def State.engineFrame (s : State) (f : CanFrame) : State :=
  let k := s.outNow 0x2A22 3
  if !s.outputsHear || s.outNow 0x2A22 1 != 1 || f.ide || f.rtr || f.id != s.outNow 0x2A22 2 || f.data.length ≤ k / 8 % 8 then s
  else
    let s0 := s.outSnapshot
    let s1 := { s0 with pol := { s0.pol with engAt := s.now, stale := false, door := bit (f.data.getD 1 0).toNat 0 } }
    s1.engineState (bit (f.data.getD (k / 8 % 8) 0).toNat (k % 8))

/-- ENGINE_STATE_STALE (R239). -/
def State.engineStale (s : State) : State :=
  if s.outputsHear && s.outNow 0x2A22 1 == 1 && !s.pol.stale && decide (s.pol.engAt + s.outNow 0x2A22 4 * msNs < s.now) then
    { s with pol := { s.pol with stale := true } }.emit 0x06 0x2A04 (min ((s.now - s.pol.engAt) / msNs) 65535)
  else s

/-- What policy remembers of a token. -/
def State.suspectOf (s : State) (id : Bytes) : Suspect := (s.pol.tokens.find? (fun t => t.id == id)).getD { id := id }

/-- Replaces what policy remembers of a token. -/
def State.setSuspect (s : State) (x : Suspect) : State :=
  let l := s.pol.tokens
  { s with pol := { s.pol with tokens := if l.any (fun t => t.id == x.id) then l.map (fun t => if t.id == x.id then x else t) else l ++ [x] } }

/-- A located result enters a token's history (R224). -/
def State.suspicion (s : State) (n : Nat) (id : Bytes) (l : Located) : State :=
  let x := s.suspectOf id
  let hist := (decide (l.relay = 5) :: x.hist).take 4
  let hold := s.now + s.polConf 0x2901 5 * secNs
  let bad := decide (s.polConf 0x2901 6 ≤ (hist.filter (fun b => b)).length)
  if l.relay = 5 && (x.till.isSome || bad) then
    (s.setSuspect { x with hist := hist, till := some hold }).emitIf x.till.isNone 0x21 0x2902 n
  else s.setSuspect { x with hist := hist }

/-- The bin of a located result under R225. -/
def Located.bin (l : Located) : Nat := match l.az with
  | some a => a / 2 ^ 28
  | none => 16

/-- A located result qualifies for a decision (R221); nlos is the acceptance flag of the decision's kind. -/
def State.qualifies (s : State) (id : Bytes) (kind : Nat) (l : Located) (nlos : Bool) : Bool :=
  kind == 1 && s.isPaired id && (s.suspectOf id).till.isNone &&
  (l.relay == 1 || l.relay == 2 || l.relay == 4 || (l.relay == 3 && nlos)) &&
  (l.level == 1 || (l.level == 2 && s.polConf 0x2901 9 == 1)) &&
  (l.relay == 1 || (kvGet? s.pol.bins l.bin).isNone)

/-- Flags of a decision on a located result (R235). -/
def Located.flags (l : Located) : Nat := 8 * b2n (l.level == 2) + 4 * b2n (l.relay == 3)

/-- A row of the round with its located result. -/
abbrev RowResult := Nat × (Bytes × (Nat × Located))

/-- Rows of a round whose results have come. -/
def State.roundResults (s : State) (r : Round) : List RowResult :=
  r.ss.filterMap (fun l =>
    let row := s.row l.row
    if row.id == l.id then row.loc.map (fun x => (l.row, (l.id, (row.kind, x)))) else none)

/-- Whether a located result qualifies for a request code. -/
def State.rowQualifies (s : State) (code : Nat) (q : RowResult) : Bool :=
  s.qualifies q.2.1 q.2.2.1 q.2.2.2 (s.polConf 0x2901 (if code = rqUnlock then 7 else 8) == 1)

/-- A zone class lies in the mask of a request code (R222). -/
def State.inMask (s : State) (code : Nat) (l : Located) : Bool := bit (s.polConf 0x2901 code) l.cls

/-- Takes a request off the pending list. -/
def State.unpend (s : State) (code : Nat) : State := ({ s with pol := { s.pol with pend := s.pol.pend.filter (fun q => q.code != code) } }).unmark

/-- A round's results meet a pending request (R222). -/
def State.serveRequest (s : State) (rows : List RowResult) (q : Request) : State :=
  let good := rows.filter (fun x => s.rowQualifies q.code x)
  let hit := good.filter (fun x => s.inMask q.code x.2.2.2)
  let note := fun (two : Bool) =>
    let q1 := { q with
      wrongZone := q.wrongZone || good.any (fun x => !s.inMask q.code x.2.2.2), twoDrivers := q.twoDrivers || two,
      suspect := q.suspect || rows.any (fun x => (s.suspectOf x.2.1).till.isSome) }
    { s with pol := { s.pol with pend := s.pol.pend.map (fun y => if y.code == q.code then q1 else y) } }
  match hit with
  | [] => note false
  | x :: more =>
    let l := x.2.2.2
    if q.code = rqUnlock then
      ((s.unpend q.code).unlocked q.src).decision ocUnlock 0 l.cls l.zone x.1 0xFF l.flags q.src x.2.1
    else match more with
      | [] => (s.unpend q.code).release l.cls l.zone x.1 0xFF l.flags q.src [x.2.1]
      | y :: _ =>
        if s.polConf 0x2901 3 = 1 then note true
        else (s.unpend q.code).release l.cls l.zone x.1 y.1 (hit.foldl (fun a z => a ||| z.2.2.2.flags) 2) q.src (hit.map (fun z => z.2.1))

/-- The rebind candidate after a round (R241). -/
def State.rebindCheck (s : State) (rows : List RowResult) : State :=
  if !(s.pol.engine && s.pol.bound) then { s with pol := { s.pol with rebind := none } }
  else
    let mine := fun (q : RowResult) => leNat q.2.1 == s.pol.driver
    let good := rows.filter (fun q => s.rowQualifies rqStart q)
    let cand := good.filter (fun q => !mine q && q.2.2.2.cls == 1)
    let present := good.any (fun q => mine q && q.2.2.2.cls != 0)
    match cand, present with
    | [q], false =>
      (match s.pol.rebind with
       | some b => if b.1 == q.2.1 then s else { s with pol := { s.pol with rebind := some (q.2.1, (q.1, s.now)) } }
       | none => { s with pol := { s.pol with rebind := some (q.2.1, (q.1, s.now)) } })
    | _, _ => { s with pol := { s.pol with rebind := none } }

/-- Policy takes the results of a token round (R220 to R225, R228, R230, R241). -/
def State.policyRound (s : State) (r : Round) : State :=
  if r.peer || !s.policyServes then s
  else
    let s0 := s.polSnapshot
    let rows := s0.roundResults r
    let s1 := rows.foldl (fun (t : State) q => if q.2.2.1 = 1 then t.suspicion q.1 q.2.1 q.2.2.2 else t) s0
    let put := fun (l : List (Bytes × (Bool × Nat))) (q : RowResult) =>
      if s1.inMask rqStart q.2.2.2 then l.filter (fun e => e.1 != q.2.1) ++ [(q.2.1, (s1.rowQualifies rqStart q, s1.now))] else l
    let valid := (rows.filter (fun q => q.2.2.2.relay != 6)).map (·.1)
    let walk := rows.any (fun q => (s1.rowQualifies rqUnlock q || s1.rowQualifies rqStart q) && q.2.2.2.cls != 0)
    let s2 := { s1 with pol := { s1.pol with
      startAt := rows.foldl put s1.pol.startAt, recent := if valid.isEmpty then s1.pol.recent else valid, walkAt := if walk then s1.now else s1.pol.walkAt } }
    let s3 := (s2.pol.pend.filter (fun q => decide (q.epoch ≤ r.serial))).foldl (fun (t : State) q => t.serveRequest rows q) s2
    s3.rebindCheck rows

/-- ROUND_END (R189, R201, R220): the round's results, and what policy makes of them. -/
def State.roundDone (s : State) : State :=
  match s.roundEnd with
  | (t, some r) => t.policyRound r
  | (t, none) => t

/-- DECISION_TIMEOUT (R222). -/
def State.decisionTimeout (s : State) : State :=
  let lim := s.polConf 0x2901 4 * msNs
  let due := s.pol.pend.filter (fun q => decide (q.at_ + lim ≤ s.now))
  due.foldl (fun (t : State) q =>
    (t.unpend q.code).refuse (if q.twoDrivers then 4 else if q.wrongZone then 2 else if q.suspect then 3 else 1) q.src) s

/-- SUSPECT_CLEARED (R224, R225). -/
def State.suspectCleared (s : State) : State :=
  let past := fun (t : Option Nat) => t.any (fun x => decide (x ≤ s.now))
  let gone := s.pol.tokens.filter (fun t => past t.till)
  let bins := s.pol.bins.filter (fun b => decide (b.2 ≤ s.now))
  let s1 := { s with pol := { s.pol with
    tokens := s.pol.tokens.map (fun t => if past t.till then { t with till := none } else t), bins := s.pol.bins.filter (fun b => decide (s.now < b.2)) } }
  let s2 := gone.foldl (fun (u : State) t => u.emit 0x21 0x2903 ((u.findRow (fun r => r.id == t.id && r.kind == 1)).getD 0xFF)) s1
  bins.foldl (fun (u : State) b => u.emit 0x21 0x2903 (b.1 + 256)) s2

/-- WALK_AWAY_LOCK (R228). -/
def State.walkAway (s : State) : State :=
  let s0 := s.polSnapshot
  let t := s0.polConf 0x2901 0xA
  if s.policyServes && t != 0 && !s.pol.locked && !s.pol.engine && !s.pol.door && decide (s.pol.walkAt + t * secNs ≤ s.now) then s0.lockRequest 4 else s

/-- RELEASE_RENEWAL (R230): every 500 ms while a release stands. -/
def State.renewal (s : State) : State :=
  let p := s.pol
  if p.out ≠ 1 || s.now < p.renewAt + 500 * msNs || !s.policyServes then s
  else
    let ok := s.loc.level != 3 && !s.outputBad && p.partners.any (fun id => p.startAt.any (fun e => e.1 == id && e.2.1 && decide (s.now ≤ e.2.2 + 1500 * msNs)))
    { s with pol := { p with renewAt := p.renewAt + (s.now - p.renewAt) / (500 * msNs) * (500 * msNs), validTill := if ok then s.now + 2000 * msNs else p.validTill } }

/-- RELEASE_ENDED (R229, R230). -/
def State.releaseOver (s : State) : State := if s.pol.out = 1 && decide (s.pol.endAt ≤ s.now) then s.endRelease else s

/-- LATCH_END (R231). -/
def State.latchEnd (s : State) : State :=
  if s.pol.out = 2 && !s.pol.engine && decide ((s.dist.lastPulse.getD 0) + 2 * secNs ≤ s.now) then (s.unbind 1).endRelease else s

/-- The levels that SE_A and SE_B should show (R229, R234). -/
def State.outputLevels (s : State) : Bool × Bool :=
  if s.pol.out = 0 && s.pol.waveEnd ≤ s.now then (false, false)
  else
    let a := decide ((s.now - s.pol.waveAt) % 1000000 < 500000)
    (a, !a)

/-- OUTPUT_READBACK (R234). -/
def State.readback (s : State) (a b : Bool) : State :=
  if !(s.powered && s.ownState 0x06 != stStarting) || s.now < s.pol.readAt + 500000 then s
  else
    let want := s.outputLevels
    let ma := if a == want.1 then 0 else min 2 (s.pol.mis.1 + 1)
    let mb := if b == want.2 then 0 else min 2 (s.pol.mis.2 + 1)
    let run := if ma = 0 && mb = 0 then min 100 (s.pol.matches_ + 1) else 0
    let bad := b2n (ma == 2) + 2 * b2n (mb == 2)
    let s1 := { s with pol := { s.pol with readAt := s.now, mis := (ma, mb), matches_ := run, faultMask := if run = 100 then 0 else s.pol.faultMask } }
    if bad = 0 || s.pol.faultMask != 0 then s1
    else
      let s2 := { s1 with pol := { s1.pol with faultMask := bad, outFaults := satAdd 32 s1.pol.outFaults 1 } }
      let s3 := (s2.emit 0x06 0x2A02 bad).charge 0x13 0x06 0x2A02
      if s3.pol.out = 1 then s3.endRelease else s3

/-- RELEASE_MESSAGE (R236): every 500 ms while RELEASED or LATCHED. -/
def State.releaseMessage (s : State) : State :=
  let p := s.pol
  if p.out = 0 || s.now < p.msgAt + 500 * msNs then s
  else
    let s1 := { s with pol := { p with msgAt := p.msgAt + (s.now - p.msgAt) / (500 * msNs) * (500 * msNs) } }
    s1.sendRelease (if p.out = 2 then ocLatched else ocStart) 0 p.relCls p.relZone p.relFlags (p.partners.headD noId)

/-- TRUST_LOST_MESSAGE (R236, R317): once per second, unsigned. -/
def State.trustLostMessage (s : State) : State :=
  let due : Bool := match s.pol.lostAt with
    | none => true
    | some t => decide (t + secNs ≤ s.now)
  if !s.powered || s.sup.vehicleLost || !due || !(s.trustLost || s.ownState 0x09 == stFailed) then s
  else
    let n := (s.pol.messages + 1) % 2 ^ 32
    let s1 := { s.outSnapshot with pol := { s.pol with messages := n, lostAt := some s.now } }
    s1.releaseQueue (s1.releaseBytes ocTrustLost 0 0 0 s.stateFlags noId s1.validity n false)

/-- REBIND (R241). -/
def State.rebindNow (s : State) : State :=
  match s.pol.rebind with
  | none => s
  | some b =>
    if !(s.policyServes && s.pol.engine && s.pol.bound) || s.now < b.2.2 + s.polConf 0x2901 0xB * secNs then s
    else
      let l := ((s.row b.2.1).loc).getD {}
      let s1 := s.unbind 2
      let flags := l.flags ||| 1
      let s2 := s1.bind (leNat b.1) 0 l.cls l.zone flags b.2.1 ocLatched
      { s2 with pol := { s2.pol with latch := s2.pol.latch.map (fun x => { x with driver := leNat b.1, driver2 := 0, zone := l.zone, cls := l.cls, flags := flags }) } }

/-- A release that only a presence poll renews (R244). -/
def State.presenceRenews (s : State) : Bool := s.pol.out == 1 && bit s.pol.relFlags 4

/-- PRESENCE_POLL (R243, R244). -/
def State.presencePoll (s : State) : State :=
  let p := s.pol.presence
  let gap := if s.pol.pend.isEmpty then 500 * msNs else s.polConf 0x2902 3 * msNs
  let due : Bool := match p.last with
    | none => true
    | some t => decide (t + gap ≤ s.now)
  if !(s.policyServes && s.loc.level == 3 && (!s.pol.pend.isEmpty || s.presenceRenews) && due && s.deferMs == 0 && s.lfSends && s.lf.tele.isNone && s.aon.rooster.poll.isNone) then s
  else
    let high := s.aon.rfIn.prev
    let s1 := { s with pol := { s.pol with presence := { p with last := some s.now, low := !high, hit := false, open_ := true } } }
    if high && !s.pol.pend.isEmpty then
      let l := s1.pol.pend
      (l.foldl (fun (t : State) q => t.refuse 5 q.src) { s1 with pol := { s1.pol with pend := [] } }).unmark
    else
      let s2 := s1.lfSnapshot
      let s3 := s2.sendPoll (s2.antSet (interiorMask s2.rr.map)) true
      { s3 with lf := { s3.lf with starts := s3.lf.starts.filter (fun x => decide (s3.now < x + secNs)) ++ [s3.now] } }

/-- A WAKE_RF assertion inside the answer window of a presence poll (R243). -/
def State.presenceHit (s : State) : State := { s with pol := { s.pol with presence := { s.pol.presence with hit := true } } }

/-- The answer window of a presence poll ends (R243, R244): presence holds after enough consecutive polls. -/
def State.presenceEnd (s : State) : State :=
  let p := s.pol.presence
  if !p.open_ then s
  else
    let yes := p.hit && p.low
    let run := if yes then min 7 (p.run + 1) else 0
    let s1 := { s with pol := { s.pol with
      presence := { p with open_ := false, run := run }, validTill := if yes && s.presenceRenews && s.policyServes then s.now + 2000 * msNs else s.pol.validTill } }
    if run < s1.polConf 0x2902 2 || !s1.policyServes then s1
    else
      let l := s1.pol.pend
      l.foldl (fun (t : State) q =>
        if q.code = rqStart then (t.unpend q.code).release 1 0 0xFF 0xFF 16 q.src []
        else ((t.unpend q.code).unlocked q.src).decision ocUnlock 0 3 0 0xFF 0xFF 16 q.src noId) s1

/-- Entry temperature of a governor level in 0.25 degree (R245). -/
def govEntry (n : Nat) : Int := if n = 1 then 460 else if n = 2 then 472 else if n = 3 then 484 else 496

/-- The governor level for a temperature, from the present one (R245). -/
def govLevel (cur : Nat) (tj : Int) : Nat :=
  let up := if 496 ≤ tj then 4 else if 484 ≤ tj then 3 else if 472 ≤ tj then 2 else if 460 ≤ tj then 1 else 0
  let keep := ((List.range 5).filter (fun n => decide (n ≤ cur) && n != 0 && decide (govEntry n - 12 < tj))).foldl max 0
  max up keep

/-- Tj, the highest of the four sensors (R450). -/
def State.tjNow (s : State) : Int := s.sup.tj.foldl max (-32768)

/-- THERMAL_LEVEL (R245). -/
def State.thermalLevel (s : State) : State :=
  if !(s.powered && s.serving 0x21) then s
  else
    let tj := s.tjNow
    let n := govLevel s.pol.gov tj
    let s1 := { s with pol := { s.pol with tj := tj, gov := n, govChanges := if n = s.pol.gov then s.pol.govChanges else satAdd 32 s.pol.govChanges 1 } }
    s1.emitIf (n != s.pol.gov) 0x21 0x2907 (n + 65536 * twos 16 tj)

/-- Policy starts (R249, R250): it reads the lock state and the latch record. -/
def State.policyStart (s : State) : State :=
  let s1 := { s with pol := { s.pol with locked := s.rr.locked, latch := s.rr.latch, resume := s.rr.latch.isSome, started := true } }
  s1.setUnit 0x21 stRunning

/-- LATCH_RESUME (R242, R249). -/
def State.latchResume (s : State) : State :=
  match s.sup.step6, s.pol.resume, s.pol.latch with
  | some t, true, some x =>
    let late := decide (t + 1000 * msNs < s.now)
    if !s.policyServes then s
    else if s.pol.engineKnown && s.pol.engine && !late then
      let flags := (x.flags ||| 1) ||| 32
      let p := { s.pol with
        resume := false, out := 2, waveAt := s.now, msgAt := s.now, relFlags := flags, relCls := x.cls, relZone := x.zone, relRow := 0xFF, partners := [leBytes 8 x.driver],
        latch := some { x with flags := flags } }
      let s1 := ({ s with pol := p }).emit 0x06 0x2A01 2
      let s2 := s1.bind x.driver x.driver2 x.cls x.zone flags 0xFF ocLatched
      s2.outcome ocLatched 0 x.cls x.zone 0xFF 0xFF flags 0 (leBytes 8 x.driver)
    else if (s.pol.engineKnown && !s.pol.engine) || late then
      let s1 := s.record 0x0011 (leBytes 8 x.driver ++ [3] ++ List.replicate 7 0)
      { s1 with pol := { s1.pol with resume := false, latch := none } }
    else s
  | _, _, _ => s

/-- The lock state and the latch record are brought to ReRAM once the fence allows (R55, R226, R231, R247). -/
def State.policyStore (s : State) : State :=
  if !s.pol.started || s.fenced || s.trustLost then s
  else
    let s1 := if s.rr.locked = s.pol.locked then s
      else let t := s.recWrite 0 (key 0x2905 1) 1; { t with rr := { t.rr with locked := s.pol.locked } }
    if s1.rr.latch = s1.pol.latch then s1
    else let t := s1.recWrite 0 (key 0x2A31 1) 19; { t with rr := { t.rr with latch := s1.pol.latch } }

/-- The state and loss of the trust pair that end what policy has pending (R247). -/
def State.policyTrustLost (s : State) : State := s.resolveAll ocTrustLost 7

/-- The engine state follows 0x2A22:05 under source 0 (R239). -/
def State.engineSync (s : State) : State :=
  if s.outNow 0x2A22 1 == 0 && s.pol.engine != s.objB 0x2A22 5 then s.engineState (s.objB 0x2A22 5) else s

/-- Flags of 0x2906:03 for a binding (R252): the release-message layout. -/
def State.bindFlags (s : State) : Nat := s.pol.bindFlags

end Sys2Proof.Machine
end

