-- ==== Sys2Proof/Machine/Keys.lean ====
section
/-! DEFINITION. Key operations (R294 to R300): import, generate, the two erases, and the revocation of jobs and working keys. -/

namespace Sys2Proof.Machine

open Sys2Proof

/-- What the operation record of a client asks for (R294, R289): slot, type, usage and persistence; a fixed slot has its own. -/
structure KeyAsk where
  /-- target slot -/
  slot : Nat
  /-- type -/
  ty : Nat
  /-- usage -/
  usage : Nat
  /-- persistent -/
  pers : Bool

/-- The operation record of a client (R294, R318). -/
def State.keyAsk (s : State) (c : Client) : KeyAsk :=
  let n := s.cval c 0x3720 1
  { slot := n, ty := s.cval c 0x3720 2,
    usage := match slotFixed n with
      | some f => f.2
      | none => s.cval c 0x3720 3,
    pers := (slotFixed n).isSome || s.cval c 0x3720 4 != 0 }

/-- The wrapped key of a client (R295). -/
def State.wrapped (s : State) (c : Client) : Bytes := padTo 76 (s.ctx c).wrapped

/-- Whether bytes are a key of a type: the right scalar range for EC types with a curve (R295). -/
def scalarOk (ty : Nat) (k : Bytes) : Bool :=
  match curveOf ty with
  | some c => beNat k != 0 && decide (beNat k < c.n)
  | none => true

/-- The additional data of a wrapped key (R295). -/
def importAad (a : KeyAsk) : Bytes := ascii "KV-KEYIM" ++ [byte a.slot, byte a.ty] ++ beBytes 2 a.usage ++ serialBytes

/-- A key from 48 plaintext bytes (R295): the key bytes, or RANGE where the tail or the scalar is bad. -/
def plainKey (ty : Nat) (p : Bytes) : Option Bytes :=
  match keyBytes ty with
  | some k => if (p.drop k).all (· == 0) && scalarOk ty (p.take k) then some (p.take k) else none
  | none => none

/-- The refusal of a write of a key into a slot, before its key is looked at (R289 to R292, R317); 0 for none. -/
def State.keyWriteCause (s : State) (c : Client) (a : KeyAsk) : Nat :=
  if !roleIn (s.role c) (slotWriters a.slot) then abRole
  else if !typeSuits a.slot a.ty || !usageOk a.ty a.usage then abRange
  else if s.retired a.slot then abRange
  else if s.ks.stale.contains a.slot then abBusy
  else 0

/-- IMPORT (R295). -/
def State.keyImport (s : State) (c : Client) : State × Nat :=
  let a := s.keyAsk c
  let cause := s.keyWriteCause c a
  let w := s.wrapped c
  let k0 := s.slot 0
  if cause ≠ 0 then (s, cause)
  else if s.trustLost || !s.cipherOk then (s, abUnavail)
  else if k0.ty = 0 then (s, abAuthFail)
  else
    let t := s.ran 0
    match gcmDec k0.key (w.take 12) (importAad a) (slice 12 48 w) (slice 60 16 w) with
    | none => ({ t with cipher := { t.cipher with authFails := satAdd 32 t.cipher.authFails 1 } }, abAuthFail)
    | some p =>
      match plainKey a.ty p with
      | none => (t, abRange)
      | some k => (t.putKey a.slot { ty := a.ty, usage := a.usage, pers := a.pers, origin := 2, key := k }, abOk)

/-- IMPORT_PLAIN (R294): FACTORY and role F only. -/
def State.importPlain (s : State) (c : Client) : State × Nat :=
  let a := s.keyAsk c
  if s.rr.lifecycle ≠ lcFactory || s.role c != roleF then (s, abRole)
  else
    let cause := s.keyWriteCause c a
    if cause ≠ 0 then (s, cause)
    else match plainKey a.ty (slice 12 48 (s.wrapped c)) with
      | none => (s, abRange)
      | some k => (s.putKey a.slot { ty := a.ty, usage := a.usage, pers := a.pers, origin := 3, key := k }, abOk)

/-- Key bytes that a random string makes for a type: for a curve, a scalar from 1 to n - 1. -/
def randomKey (ty : Nat) (b : Bytes) : Bytes :=
  match curveOf ty with
  | some c => beBytes c.len (beNat b % (c.n - 1) + 1)
  | none => b

/-- The refusal of a GENERATE (R294, R317); 0 for none. Slot 0 takes a workshop's key by wrapped import only (R289). -/
def State.generateCause (s : State) (c : Client) (a : KeyAsk) : Nat :=
  let cause := s.keyWriteCause c a
  if a.slot = 0 && s.role c != roleF then abRole
  else if cause ≠ 0 then cause
  else if s.rngStopped 6 || (decide (0x10 ≤ a.ty) && !s.pkOk) then abUnavail
  else 0

/-- Bytes that the GENERATE of a client draws (R294). -/
def State.generateNeed (s : State) (c : Client) : Nat :=
  if s.generateCause c (s.keyAsk c) ≠ 0 then 0 else (keyBytes (s.keyAsk c).ty).getD 0

/-- GENERATE (R294). -/
def State.generate (s : State) (c : Client) : State × Nat :=
  let a := s.keyAsk c
  let cause := s.generateCause c a
  if cause ≠ 0 then (s, cause)
  else match s.draw 6 ((keyBytes a.ty).getD 0) with
    | none => (s, abUnavail)
    | some (t, b) => (t.putKey a.slot { ty := a.ty, usage := a.usage, pers := a.pers, origin := 1, key := randomKey a.ty b }, abOk)

/-- Whether a client may erase or zeroize a slot (R289). -/
def State.mayErase (s : State) (c : Client) (n : Nat) : Bool :=
  roleIn (s.role c) (slotWriters n) && (n != 0 || s.role c == roleF)

/-- ERASE (R292, R298). -/
def State.erase (s : State) (c : Client) : State × Nat :=
  let n := (s.keyAsk c).slot
  if !s.mayErase c n then (s, abRole)
  else if s.retired n then (s, abRange)
  else (s.eraseKey n, abOk)

/-- An open session on a channel under a key derived from the host pairing key of slot 1 (R42). -/
def hostSession (x : ClientCtx) : Bool := x.st == 2 && x.role == roleH && x.c != .host && !x.revoked

/-- Working keys that a zeroize of a slot revokes (R293, R299): three of each ACTIVE row, one of each epoch and session. -/
def State.workingOn (s : State) (n : Nat) : Nat :=
  let rows := fun (k : Nat) => 3 * s.countRows (fun r => r.kind == k && r.st == 3)
  let ep := fun (e : Option Epoch) => b2n (e.any (fun x => !x.krd.isEmpty))
  if n = 1 then (s.dict.clients.filter hostSession).length
  else if n = 2 then b2n s.dist.key.isSome
  else if n = 8 then rows 1
  else if n = 9 then ep s.cx.ep
  else if n = 10 then rows 2
  else if n = 11 then ep s.cx.pep
  else 0

/-- Working keys in use (R293, 0x3701:02). -/
def State.workingKeys (s : State) : Nat :=
  let rows := 3 * s.countRows (fun r => r.st == 3)
  let ep := fun (e : Option Epoch) => b2n (e.any (fun x => !x.krd.isEmpty))
  let ss := (s.dict.clients.filter (fun x => x.st != 0 && (x.c != .host || x.st == 1) && !x.revoked)).length
  min 512 (rows + ep s.cx.ep + ep s.cx.pep + ss + b2n s.dist.key.isSome)

/-- The working keys of a slot are revoked (R299). -/
def State.revokeWorking (s : State) (n : Nat) : State :=
  if n = 1 then { s with dict := { s.dict with clients := s.dict.clients.map (fun x => if hostSession x then { x with revoked := true } else x) } }
  else if n = 2 then
    (if s.dist.key.isNone then s
     else { s.toPulses with dist := { s.toPulses.dist with key := none, opening := false, await := false } }.linkTo 1)
  else s.ctxRevoke n

/-- A slot is zeroized (R299, R300): emptied whatever the fence, its jobs and working keys revoked. -/
def State.zeroizeSlot (s : State) (n kind : Nat) : State :=
  let cores := s.coresOn n
  let pk := s.pkRevoke n
  let working := s.workingOn n
  let jobs := cores.length + pk.2
  let s1 := cores.foldl (fun (t : State) k => t.cipherRevoke k) pk.1
  let s2 : State := { s1 with
    aon := { s1.aon with marks := s1.aon.marks ++ [n] },
    ks := { s1.ks with vol := kvDel s1.ks.vol n, zeroizes := satAdd 32 s1.ks.zeroizes 1 } }
  ((s2.revokeWorking n).emit 0x0C 0x3702 (n + 256 * kind)).emitIf (jobs != 0 || working != 0) 0x0C 0x3703 (n + 256 * jobs + 65536 * working)

/-- ZEROIZE_NOW (R299). -/
def State.zeroizeNow (s : State) (c : Client) : State × Nat :=
  let n := (s.keyAsk c).slot
  if !s.mayErase c n then (s, abRole) else (s.zeroizeSlot n 2, abOk)

/-- Every slot is zeroized (R294, R469). -/
def State.zeroizeEvery (s : State) : State := (List.range 64).foldl (fun (t : State) n => t.zeroizeSlot n 3) s

/-- ZEROIZE_ALL (R294): role F only. -/
def State.zeroizeAll (s : State) (c : Client) : State × Nat :=
  if s.role c != roleF then (s, abRole) else (s.zeroizeEvery, abOk)

/-- A write of 0x3720:06 that a slot whose increase has not committed refuses at once (R292): IMPORT, GENERATE and IMPORT_PLAIN. -/
def State.keyStale (s : State) (c : Client) (code : Nat) : Bool :=
  (code == 1 || code == 2 || code == 5) && s.ks.stale.contains (s.keyAsk c).slot

/-- The key operation of a code written to 0x3720:06 (R294). -/
def State.keyOp (s : State) (c : Client) (code : Nat) : State × Nat :=
  if code = 1 then s.keyImport c
  else if code = 2 then s.generate c
  else if code = 3 then s.erase c
  else if code = 4 then s.zeroizeNow c
  else if code = 5 then s.importPlain c
  else s.zeroizeAll c

/-- Jobs that hold a slot's key (0x3710:06). -/
def State.jobsOn (s : State) (n : Nat) : Nat :=
  (s.coresOn n).length + b2n (s.pk.run.any (fun r => (r.job.op == 1 || r.job.op == 3) && r.job.slot == n))

/-- The objects of the slot window of a slot (R318). -/
def State.slotObjects (s : State) (n : Nat) : Objs :=
  let x := s.slot n
  [(key 0x3710 1, x.ty), (key 0x3710 2, x.usage), (key 0x3710 3, b2n x.pers), (key 0x3710 4, x.gen), (key 0x3710 5, x.origin),
   (key 0x3710 6, s.jobsOn n), (key 0x3710 7, kvGet 0 s.ks.uses n), (key 0x3710 8, leNat x.check), (key 0x3710 9, leNat (padTo 97 x.public))]

/-- SLOT_SELECT (R318). -/
def State.slotSelect (s : State) (c : Client) (n : Nat) : State :=
  let x := (s.setCval c 0x3702 1 n).ctx c
  (s.setCval c 0x3702 1 n).setCtx { x with slotMs := s.ms % 2 ^ 32, slotVals := s.slotObjects n }

/-- Slots that are not EMPTY (0x3701:01). -/
def State.slotsInUse (s : State) : Nat := ((List.range 64).filter (fun n => (s.slot n).ty != 0)).length

end Sys2Proof.Machine
end

