-- ==== Sys2Proof/Machine/Tag.lean ====
section
/-! DEFINITION. The vehicle tag: tag memory, reader sessions, summaries and the UHF path (R255 to R267, R270 to R274, R279 to R282). -/

namespace Sys2Proof.Machine

open Sys2Proof

/-- V_TAG_ON in mV, the typical value of R256. -/
def vTagOn : Nat := 1700
/-- V_TAG_OFF. -/
def vTagOff : Nat := 1550
/-- V_TAG_WR. -/
def vTagWr : Nat := 2700
/-- V_TAG_HON. -/
def vTagHon : Nat := 2800
/-- V_TAG_HOFF. -/
def vTagHoff : Nat := 2750
/-- The voltage that the VDD_IO feed holds on VTAG (R255). -/
def vTagFeed : Nat := 2900

/-- Replaces the record of the tag domain. -/
def State.setTag (s : State) (t : TagDom) : State := { s with tagd := t }

/-- The tag engine answers the field (R257, R282). -/
def State.tagServes (s : State) : Bool := s.tagd.on && !s.rr.tag.killed

/-- The tag application records (R279, R285): the control domain is up and the tag application RUNNING. -/
def State.tagApp (s : State) : Bool := s.powered && s.serving 0x08

/-- VDD_IO feeds VTAG (R255): the control rails are up. -/
def State.tagFed (s : State) : Bool := decide (s.aon.mode ≤ 1) && !(decide (nth 0 s.sup.rails 1 < railReset 1) && s.sup.held)

/-- A tag configuration object in the snapshot in force (R287). -/
def State.tagConf (s : State) (ix sub : Nat) : Nat := s.conf 0x3010 ix sub

/-- Words of the UII: the first zero-padded part of 0x3012:01 that is not zero (R287). -/
def uiiUsed (b : Bytes) : Nat := ((List.range 16).filter (fun i => (slice (2 * i) 2 b).any (· != 0))).foldl (fun a i => max a (i + 1)) 0

/-- Bytes as 16-bit words, high byte first (R258). -/
def wordsOf (b : Bytes) : List Word := (chunks (b.length + 1) 2 b).map (fun x => BitVec.ofNat 16 (beNat (padTo 2 x)))

/-- Words as bytes in memory order (R258). -/
def bytesOf (l : List Word) : Bytes := l.flatMap (fun w => beBytes 2 w.toNat)

/-- The commit record in force of a bank. -/
def TagMem.commit (m : TagMem) (bank : Nat) : TagCommit := kvGet {} m.commits bank

/-- A commit record is programmed for a bank (R270). -/
def TagMem.seal1 (m : TagMem) (bank : Nat) (last : Option LastWrite) : TagMem :=
  let c := m.commit bank
  { m with commits := kvPut m.commits bank { seq := (c.seq + 1) % 2 ^ 32, last := if last.isSome then last else c.last } }

/-- The snapshot of the tag's configuration at a field command (R22, R287); a new UII goes to its bank through the shadow (R270). -/
def State.tagSnapshot (s : State) : State :=
  let b := s.objBytes 32 0x3012 1
  let s1 := s.snapshot 0x3010 0x3010 0x3050 (decide (uiiUsed b ≤ s.obj 0x3012 2)) 0x08 0x300A (256 * 0x3012 + 2)
  let v := (s1.tagConf 0x3012 1, s1.tagConf 0x3012 2)
  if v = s1.rr.tag.uiiFrom then s1
  else
    let m := s1.rr.tag.seal1 1 none
    { s1 with rr := { s1.rr with tag := { m with uii := wordsOf (leBytes 32 v.1), len := v.2, uiiFrom := v } } }

/-- The bytes of a summary slot (R261, R338). -/
def TagMem.slotBytes (m : TagMem) (k : Nat) : Bytes := kvGet (List.replicate 256 0xFF) m.slots k

/-- A slot is valid (R261). -/
def slotValid (b : Bytes) : Bool := b.take 4 == ascii "KVES" && b.getD 4 0 == 1

/-- The refresh counter of a slot. -/
def slotCounter (b : Bytes) : Nat := beNat (slice 8 4 b)

/-- The newest slot (R261): the valid one with the highest refresh counter. -/
def TagMem.newest (m : TagMem) : Option Nat :=
  (List.range 8).foldl (fun (a : Option Nat) k =>
    if !slotValid (m.slotBytes k) then a
    else match a with
      | none => some k
      | some j => if slotCounter (m.slotBytes j) < slotCounter (m.slotBytes k) then some k else a) none

/-- The refresh counter of the newest slot, 0 without one. -/
def TagMem.counter (m : TagMem) : Nat := match m.newest with
  | some k => slotCounter (m.slotBytes k)
  | none => 0

/-- The status word of the Enforcement bank (R260). -/
def TagMem.status (m : TagMem) : Nat := 32768 * b2n m.lost + 16384 * b2n m.newest.isNone

/-- The StoredPC (R259). -/
def TagMem.pcWord (m : TagMem) : Nat := 2048 * (m.len % 32) + m.pc % 2048

/-- CRC-16 of ISO/IEC 18000-63 over a bit string: preset 0xFFFF, complemented. -/
def crcGen2 (l : List Bool) : Nat := 0xFFFF ^^^ crcBits 16 0x1021 0xFFFF l

/-- The UII words that the StoredPC's length names. -/
def TagMem.uiiWords (m : TagMem) : List Word := m.uii.take m.len

/-- The StoredCRC over the StoredPC and the UII (R259). -/
def TagMem.storedCrc (m : TagMem) : Nat := crcGen2 (bitsOf (beBytes 2 m.pcWord ++ bytesOf m.uiiWords))

/-- The TID header (R259): class identifier, mask designer, model number 0x826. -/
def tidHeader : Bytes :=
  let d := Config.maskDesigner % 4096
  [0xE2, byte (d / 16), byte (d % 16 * 16 + 8), 0x26]

/-- The HF UID (R268). -/
def hfUid : Bytes := padTo 7 Config.hfUid

/-- Words of a bank by its code (R259). -/
def bankWords (bank : Nat) : Nat :=
  if bank = 1 then 18 else if bank = 2 then 10 else if bank = 3 then 4096 else if bank = 4 then 2048 else 0

/-- A word of the Enforcement bank (R260). -/
def TagMem.enfWord (m : TagMem) (a : Nat) : Word :=
  if a = 0 then BitVec.ofNat 16 m.status
  else if a < 8 then 0
  else if a = 8 then BitVec.ofNat 16 m.cert.length
  else if a < 0x400 then BitVec.ofNat 16 (beNat (padTo 2 (slice (2 * (a - 9)) 2 m.cert)))
  else BitVec.ofNat 16 (beNat (slice (2 * ((a - 0x400) % 0x80)) 2 (m.slotBytes ((a - 0x400) / 0x80))))

/-- A word of a bank (R258 to R260). -/
def TagMem.word (m : TagMem) (bank a : Nat) : Word :=
  if bank = 1 then
    (if a = 0 then BitVec.ofNat 16 m.storedCrc else if a = 1 then BitVec.ofNat 16 m.pcWord else nth 0 m.uii (a - 2))
  else if bank = 2 then nth 0 (wordsOf (tidHeader ++ serialBytes)) a
  else if bank = 3 then kvGet 0xFFFF m.user a
  else m.enfWord a

/-- Words of a bank from a pointer. -/
def TagMem.words (m : TagMem) (bank ptr n : Nat) : List Word := (List.range n).map (fun i => m.word bank (ptr + i))

/-- Writes a word of the UII or User bank: the device keeps the StoredCRC and the PC's length field (R259). -/
def TagMem.setWord (m : TagMem) (bank a : Nat) (w : Word) : TagMem :=
  if bank = 1 then
    (if a = 0 then m else if a = 1 then { m with pc := w.toNat % 2048 } else { m with uii := setAt m.uii (a - 2) w })
  else if bank = 3 then { m with user := kvSet 0xFFFF m.user a w }
  else m

/-- Writes words of a bank; every unit that they touch is good again. -/
def TagMem.setWords (m : TagMem) (bank ptr : Nat) (l : List Word) : TagMem :=
  let m1 := (l.zipIdx).foldl (fun (x : TagMem) q => x.setWord bank (ptr + q.2) q.1) m
  { m1 with bad := m1.bad.filter (fun u => !(u / 4096 == bank && decide (ptr / 8 ≤ u % 4096) && decide (u % 4096 ≤ (ptr + l.length - 1) / 8))) }

/-- The uncorrectable units that a range of words meets (R272). -/
def TagMem.hurtUnits (m : TagMem) (bank ptr n : Nat) : List Nat :=
  m.bad.filter (fun u => u / 4096 == bank && decide (ptr / 8 ≤ u % 4096) && decide (u % 4096 ≤ (ptr + n - 1) / 8) && n != 0)

/-- Whether a range of words meets an uncorrectable unit (R272). -/
def TagMem.hurt (m : TagMem) (bank ptr n : Nat) : Bool := !(m.hurtUnits bank ptr n).isEmpty

/-- A read has met uncorrectable units of tag memory (R272, R338, R374, R376, R460): ECC_UNCORRECTED for the host, and for each unit
ECC_UNCORRECTABLE and a count against ReRAM and against the tag. -/
def State.tagBadRead (s : State) (bank ptr n : Nat) : State :=
  if !s.powered then s
  else
    (s.rr.tag.hurtUnits bank ptr n).foldl (fun (t : State) u =>
      let t1 : State := { t with nv := { t.nv with uncorrectable := satAdd 32 t.nv.uncorrectable 1 } }
      ((t1.emit 0x0D 0x3809 (Config.tagCell u % 2 ^ 19)).charge 0x19 0x0D 0x3809).charge 0x14 0x08 0x3809) (s.stick 0x08 4)

/-- Units that a range of words touches. -/
def unitsIn (ptr n : Nat) : Nat := if n = 0 then 0 else (ptr + n - 1) / 8 + 1 - ptr / 8

/-- A field-write lock of R280: the OR of the host's bit and the field's. -/
def State.fieldLocked (s : State) (bank : Nat) : Bool :=
  if bank = 3 then s.tagConf 0x3021 1 != 0 || bit s.rr.tag.locks 0 else s.tagConf 0x3021 2 != 0 || bit s.rr.tag.locks 1

/-- The bank code and word address of a UHF access (R259); none beyond the banks. -/
def uhfBank (memBank ptr n : Nat) : Option (Nat × Nat) :=
  if memBank = 1 then (if ptr + n ≤ 18 then some (1, ptr) else none)
  else if memBank = 2 then (if ptr + n ≤ 10 then some (2, ptr) else none)
  else if memBank = 3 then
    (if ptr < 0x8000 then (if ptr + n ≤ 4096 then some (3, ptr) else none)
     else if ptr - 0x8000 + n ≤ 2048 then some (4, ptr - 0x8000) else none)
  else none

/-- Bits that the tag draws (log entry 4). -/
def State.tagBits (s : State) (w : Nat) : State × Nat := ({ s with free := s.free + 1 }, Config.tagDraw s.free % 2 ^ w)

/-- A field command is counted (R287). -/
def State.fieldCmd (s : State) : State := if s.powered then { s with tag := { s.tag with cmds := satAdd 32 s.tag.cmds 1 } } else s

/-- A reader session opens (R279): in a row of kind 0x05 where one is free. -/
def State.sessOpen (s : State) (path : Nat) : State × Option (Option Nat) :=
  if !s.tagApp then (s, none)
  else match s.takeService 5 16 [] with
    | some (t, n) => (t.emit 0x08 0x3001 (path + 256 * n), some (some n))
    | none => ({ s with tag := { s.tag with unrecorded := satAdd 32 s.tag.unrecorded 1 } }.emit 0x08 0x3001 (path + 256 * 0xFF), some none)

/-- A reader session's row is freed. -/
def State.sessDrop (s : State) (x : Option (Option Nat)) : State :=
  match x with
  | some (some n) => s.dropRow n
  | _ => s

/-- The UHF session ends (R279): the tag leaves the access state. -/
def State.uhfSessEnd (s : State) : State :=
  let t := s.sessDrop s.tagd.uhfSess
  { t with tagd := { t.tagd with uhfSess := none, uhfEnf := false } }

/-- The HF session ends (R279). -/
def State.hfSessEnd (s : State) : State :=
  let t := s.sessDrop s.tagd.hfSess
  { t with tagd := { t.tagd with hfSess := none, hfEnf := false, chain := [] } }

/-- ENFORCEMENT_READ, once for each session (R279). -/
def State.enfRead (s : State) (path : Nat) : State :=
  let done := if path = 1 then s.tagd.uhfEnf else s.tagd.hfEnf
  if done || !s.tagApp then s
  else
    let t := if path = 1 then { s.tagd with uhfEnf := true } else { s.tagd with hfEnf := true }
    { s with tagd := t, tag := { s.tag with enf := satAdd 32 s.tag.enf 1 } }.emit 0x08 0x3002 (path + 65536 * (s.rr.tag.counter % 65536))

/-- The UHF state changes; leaving the access state ends the session. -/
def State.uhfTo (s : State) (x : UhfState) : State :=
  let t := if s.tagd.st = .secured && x != .secured then s.uhfSessEnd else s
  { t with tagd := { t.tagd with st := x, half := none } }

/-- A backscatter reply (R264). -/
def State.uhfSay (s : State) (l : List Bool) : State := { s with tagd := { s.tagd with uhfOut := l } }

/-- The bits of a word, most significant first. -/
def wbits (w : Word) : List Bool := bitsOf (beBytes 2 w.toNat)

/-- A reply with its CRC-16. -/
def withCrc (l : List Bool) : List Bool := l ++ bitsOf (beBytes 2 (crcGen2 l))

/-- An error reply (R265). -/
def State.uhfError (s : State) (code : Nat) : State := s.uhfSay (withCrc (true :: bitsOf [byte code] ++ wbits s.tagd.handle))

/-- A success reply of an access command: header, words, handle, CRC-16. -/
def State.uhfOk (s : State) (l : List Word) : State := s.uhfSay (withCrc (false :: l.flatMap wbits ++ wbits s.tagd.handle))

/-- A refused write (R265, R288): the error reply, WRITE_REFUSED and its fault count; power refusals are counted. -/
def State.tagRefuse (s : State) (code bank : Nat) : State :=
  let s1 := s.uhfError code
  let s2 := if code = 0x0B && s.powered then { s1 with tag := { s1.tag with power := satAdd 32 s1.tag.power 1 } } else s1
  if s2.powered then (s2.emit 0x08 0x3004 (code + 256 * bank)).charge 0x14 0x08 0x3004 else s2

/-- The S1 flag falls back after its persistence time (R264): kept for 500 ms, gone after 5 s, open between. -/
def State.s1Decay (s : State) : State :=
  let age := s.aon.clock - s.tagd.s1At
  if nth false s.tagd.flags 1 && decide (500 * msNs ≤ age) then
    { s with free := s.free + 1,
             tagd := { s.tagd with flags := setAt s.tagd.flags 1 (decide (age ≤ 5 * secNs) && Config.flagKept s.free) } }
  else s

/-- A UHF command reaches a tag that serves the UHF path (R264, R287): the configuration, the count, and the command's own effect. -/
def State.onUhf (s : State) (f : State → State) : State :=
  if !s.tagServes then s
  else
    let s1 := s.tagSnapshot
    let s2 : State := { s1 with tagd := { s1.tagd with uhf := true, uhfOut := [] } }
    if s2.tagConf 0x3010 1 = 0 || s2.tagd.job.isSome then s2
    else f (s2.fieldCmd.s1Decay)

/-- Sets an inventoried flag or SL. -/
def State.setFlag (s : State) (i : Nat) (v : Bool) : State :=
  { s with tagd := { s.tagd with flags := setAt s.tagd.flags i v, s1At := if i = 1 then s.aon.clock else s.tagd.s1At } }

/-- Inverts an inventoried flag or SL. -/
def State.flip (s : State) (i : Nat) : State := s.setFlag i (!nth false s.tagd.flags i)

/-- Whether the mask of a Select matches (R264). -/
def State.selMatches (s : State) (q : SelectCmd) : Bool :=
  let n := q.mask.length
  let first := q.ptr / 16
  let words := if n = 0 then 0 else (q.ptr + n - 1) / 16 + 1 - first
  match uhfBank q.bank first words with
  | none => false
  | some (b, a) => (((s.rr.tag.words b a words).flatMap wbits).drop (q.ptr % 16)).take n == q.mask

/-- SELECT (R264): the actions of the standard on the inventoried flag of a session or on SL. Asserting SL goes with A, so a flag is the
opposite of SL's sense. -/
def State.uhfSelect (s : State) (q : SelectCmd) : State :=
  if 4 < q.target || q.bank = 0 then s.uhfTo .ready
  else
    let s1 := s.uhfTo .ready
    let m := s1.selMatches q
    let assert := fun (t : State) => t.setFlag q.target (q.target == 4)
    let deassert := fun (t : State) => t.setFlag q.target (q.target != 4)
    let a := q.action % 8
    if m then
      (if a ≤ 1 then assert s1 else if a = 3 then s1.flip q.target else if a = 4 || a = 5 then deassert s1 else s1)
    else
      (if a = 0 || a = 2 then deassert s1 else if a = 4 || a = 6 then assert s1 else if a = 7 then s1.flip q.target else s1)

/-- The tag replies with a fresh RN16 in slot 0, or arbitrates. -/
def State.uhfSlot (s : State) : State :=
  if s.tagd.slot = 0 then
    let r := s.tagBits 16
    let rn : Word := BitVec.ofNat 16 r.2
    ({ r.1 with tagd := { r.1.tagd with rn := rn } }.uhfTo .reply).uhfSay (wbits rn)
  else s.uhfTo .arbitrate

/-- A new slot counter from 2^Q. -/
def State.uhfDraw (s : State) : State :=
  let r := s.tagBits s.tagd.q
  ({ r.1 with tagd := { r.1.tagd with slot := r.2 } }).uhfSlot

/-- In the states after an ACK, a command of the round inverts the session's inventoried flag (R264). -/
def State.uhfLeave (s : State) : State :=
  if s.tagd.st = .acknowledged || s.tagd.st = .secured then s.flip s.tagd.session else s

/-- QUERY (R264). -/
def State.uhfQuery (s : State) (q : QueryCmd) : State :=
  let s1 := if q.session % 4 = s.tagd.session then s.uhfLeave else s
  let sl := nth false s1.tagd.flags 4
  let sel := decide (q.sel < 2) || (q.sel == 3) == sl
  if sel && nth false s1.tagd.flags (q.session % 4) == q.target then
    (({ s1.uhfTo .ready with tagd := { (s1.uhfTo .ready).tagd with session := q.session % 4, q := q.q % 16 } })).uhfDraw
  else { s1.uhfTo .ready with tagd := { (s1.uhfTo .ready).tagd with session := q.session % 4 } }

/-- QUERY_ADJUST (R264). -/
def State.uhfAdjust (s : State) (session upDn : Nat) : State :=
  if session ≠ s.tagd.session || !(upDn == 0 || upDn == 3 || upDn == 6) then s
  else match s.tagd.st with
    | .ready => s
    | .acknowledged => s.uhfLeave.uhfTo .ready
    | .secured => s.uhfLeave.uhfTo .ready
    | _ =>
      let q := if upDn = 6 then min 15 (s.tagd.q + 1) else if upDn = 3 then s.tagd.q - 1 else s.tagd.q
      { s with tagd := { s.tagd with q := q } }.uhfDraw

/-- QUERY_REP (R264). -/
def State.uhfRep (s : State) (session : Nat) : State :=
  if session ≠ s.tagd.session then s
  else match s.tagd.st with
    | .ready => s
    | .acknowledged => s.uhfLeave.uhfTo .ready
    | .secured => s.uhfLeave.uhfTo .ready
    | .reply => { s with tagd := { s.tagd with slot := 0x7FFF } }.uhfTo .arbitrate
    | .arbitrate =>
      { s with tagd := { s.tagd with slot := if s.tagd.slot = 0 then 0x7FFF else s.tagd.slot - 1 } }.uhfSlot

/-- ACK (R264): the UII after its PC, with a CRC-16. -/
def State.uhfAck (s : State) (rn : Word) : State :=
  let say := fun (t : State) => t.uhfSay (withCrc (bitsOf (beBytes 2 t.rr.tag.pcWord ++ bytesOf t.rr.tag.uiiWords)))
  match s.tagd.st with
  | .reply => if rn = s.tagd.rn then say (s.uhfTo .acknowledged) else s.uhfTo .arbitrate
  | .acknowledged => if rn = s.tagd.rn then say s else s.uhfTo .arbitrate
  | .secured => if rn = s.tagd.handle then say s else s.uhfTo .arbitrate
  | _ => s

/-- NAK (R264). -/
def State.uhfNak (s : State) : State := if s.tagd.st = .ready then s else s.uhfTo .arbitrate

/-- REQ_RN (R264, R259): a handle and the secured state, since the access password is 0; in the secured state a new RN16. -/
def State.uhfReqRn (s : State) (rn : Word) : State :=
  match s.tagd.st with
  | .acknowledged =>
    if rn = s.tagd.rn then
      let r := s.tagBits 16
      let h : Word := BitVec.ofNat 16 r.2
      let q := r.1.sessOpen 1
      ({ q.1 with tagd := { q.1.tagd with st := .secured, half := none, handle := h, uhfSess := q.2, uhfEnf := false } }).uhfSay (withCrc (wbits h))
    else s
  | .secured =>
    if rn = s.tagd.handle then
      let r := s.tagBits 16
      r.1.uhfSay (withCrc (wbits (BitVec.ofNat 16 r.2)))
    else s
  | .reply => s.uhfTo .arbitrate
  | _ => s

/-- An access command (R264): with the handle in the secured state it acts; elsewhere the standard's state change. -/
def State.uhfAccess (s : State) (handle : Word) (f : State → State) : State :=
  match s.tagd.st with
  | .secured => if handle = s.tagd.handle then f s else s
  | .reply => s.uhfTo .arbitrate
  | .acknowledged => s.uhfTo .arbitrate
  | _ => s

/-- READ (R264, R265). -/
def State.uhfRead (s : State) (bank ptr count : Nat) : State :=
  if bank = 0 then s.uhfError 0x04
  else if bank = 3 && count = 0 then s.uhfError 0x03
  else
    let n := if count = 0 then (if bank = 1 then 18 else 10) - ptr else count
    match uhfBank bank ptr (max n 1) with
    | none => s.uhfError 0x03
    | some (b, a) =>
      if s.rr.tag.hurt b a n then (s.tagBadRead b a n).uhfError 0x0F
      else
        let t := s.uhfOk (s.rr.tag.words b a n)
        if b = 4 then t.enfRead 1 else t

/-- The refusal of a field write before its reserve check (R265); 0 for none. -/
def State.writeCause (s : State) (bank ptr n : Nat) : Nat :=
  if bank = 0 then 0x04
  else match uhfBank bank ptr n with
    | none => 0x03
    | some (b, _) => if b = 2 || b = 4 || s.fieldLocked b then 0x04 else 0

/-- The bank code of an event (R288). -/
def evBank (memBank ptr : Nat) : Nat := if memBank = 3 && decide (0x8000 ≤ ptr) then 4 else memBank

/-- The reserve check of R271 with a VTAG reading: passed where VTAG is at V_TAG_WR and no fence is up. -/
def State.reserveOk (s : State) : Bool := decide (vTagWr ≤ s.tagd.vtag) && !s.fenced

/-- A VTAG reading is taken. -/
def State.readVtag (s : State) (mv : Nat) : State := { s with tagd := { s.tagd with vtag := mv } }

/-- Time of the programs of a write in ns (R339), behind an operation that has started. -/
def State.programNs (s : State) (programs : Nat) : Nat := 24000 * (programs + b2n s.nv.run.isSome)

/-- WRITE and BLOCK_WRITE (R265, R270 to R273): refused, absorbed as a retry, or begun; TAG_COMMIT ends it. -/
def State.uhfWrite (s : State) (kind : TagJobKind) (bank ptr : Nat) (words : List Word) (mv : Nat) : State :=
  let s1 := s.readVtag mv
  let cause := s1.writeCause bank ptr words.length
  let lw : LastWrite := { handle := s.tagd.handle, ptr := ptr, count := words.length, crc := crc16 (bytesOf words) }
  match uhfBank bank ptr words.length with
  | none => s1.tagRefuse (if bank = 0 then 0x04 else 0x03) (evBank bank ptr)
  | some (b, a) =>
    if cause ≠ 0 then s1.tagRefuse cause (evBank bank ptr)
    else if (s1.rr.tag.commit b).last = some lw then
      ({ s1 with tag := { s1.tag with absorbed := if s1.powered then satAdd 32 s1.tag.absorbed 1 else s1.tag.absorbed } }).uhfOk []
    else if !s1.reserveOk then s1.tagRefuse 0x0B (evBank bank ptr)
    else
      let job : TagJob := { kind := kind, bank := b, ptr := a, words := words, handle := s.tagd.handle,
                            due := s.aon.clock + s1.programNs (unitsIn a words.length + 1), at_ := s.now }
      { s1 with tagd := { s1.tagd with job := some job } }

/-- A tag write lands (R270, R273): its words and the commit record. -/
def TagMem.land (m : TagMem) (j : TagJob) (field : Bool) : TagMem :=
  let lw : LastWrite := { handle := j.handle, ptr := j.ptr, count := j.words.length, crc := crc16 (bytesOf j.words) }
  let m1 := (m.setWords j.bank j.ptr j.words).seal1 j.bank (if field then some lw else none)
  if field then { m1 with writes := m1.writes + 1 } else m1

/-- The field write under way lands (R270 to R272); the reply follows while the tag has power. -/
def State.fieldLand (s : State) (j : TagJob) (reply : Bool) : State :=
  let m := s.rr.tag.land j true
  let s1 : State := { s with rr := { s.rr with tag := m }, tagd := { s.tagd with job := none } }
  let s2 := if reply then s1.uhfOk [] else s1
  if s2.tagApp then
    ({ s2 with rr := { s2.rr with tag := { m with journaled := m.writes } }, tag := { s2.tag with writes := satAdd 32 s2.tag.writes 1 } }).emit
      0x08 0x3003 (j.ptr + 65536 * j.words.length + 2 ^ 28 * j.bank)
  else s2

/-- TRUE where the kill password is not 0 (R281). -/
def TagMem.canKill (m : TagMem) : Bool := m.killPw.any (· != 0)

/-- The tag is killed (R282): the kill record, HARV off, sessions ended. The tag engine then reports STOPPED. -/
def State.killTag (s : State) (path : Nat) : State :=
  let s1 := (s.uhfSessEnd).hfSessEnd
  let s2 : State := { s1 with
    rr := { s1.rr with tag := { s1.rr.tag with killed := true } },
    tagd := { s1.tagd with st := .ready, hst := .idle, half := none, harv := false, killAt := some (s.aon.clock + s.programNs 1) } }
  (if s2.serving 0x08 then s2.setUnit 0x08 stStopped else s2).emit 0x08 0x3005 path

/-- KILL (R265, R281, R282): Recom, the two halves of the password, the reserve check. -/
def State.uhfKill (s : State) (recom : Nat) (half : Word) (mv : Nat) : State :=
  let s1 := s.readVtag mv
  if recom ≠ 0 then s1.uhfError 0x01
  else if !s1.rr.tag.canKill then s1.uhfError 0x00
  else match s1.tagd.half with
    | none => { s1 with tagd := { s1.tagd with half := some half } }.uhfSay (withCrc (wbits s1.tagd.handle))
    | some h =>
      let s2 : State := { s1 with tagd := { s1.tagd with half := none } }
      if bytesOf [h, half] ≠ s2.rr.tag.killPw then s2.uhfTo .arbitrate
      else if !s2.reserveOk then s2.tagRefuse 0x0B 0
      else (s2.uhfOk []).killTag 1

/-- UHF_LOCK (R267): mask and action of 10 bits, two for each of kill password, access password, UII, TID and User in this order. -/
def State.uhfLock (s : State) (mask action : Nat) : State :=
  if s.tagConf 0x3021 3 = 0 then s.tagRefuse 0x04 0
  else
    let pair := fun (v i : Nat) => v / 4 ^ (4 - i) % 4
    let m := fun i => pair mask i
    let a := fun i => pair action i
    let perma := (List.range 5).any (fun i => bit (m i) 0 && bit (a i) 0)
    let fixedOpen := [0, 1, 3].any (fun i => bit (m i) 1 && !bit (a i) 1)
    if perma || fixedOpen then s.tagRefuse 0x04 0
    else
      let put := fun (l i b : Nat) => if bit (m i) 1 then (if bit (a i) 1 then l ||| 2 ^ b else l &&& (3 ^^^ 2 ^ b)) else l
      let l := put (put s.rr.tag.locks 2 1) 4 0
      let same := l == s.rr.tag.locks
      let t := s.uhfOk []
      if same then t else { t with rr := { t.rr with tag := { (t.rr.tag.seal1 3 none) with locks := l } } }

/-- TV_SUMMARY (R266). -/
def State.tvSummary (s : State) (ptr count : Nat) : State :=
  if 128 < ptr + count then s.uhfError 0x03
  else
    let m := s.rr.tag
    let data : List Word := match m.newest with
      | some k => m.words 4 (0x400 + 0x80 * k + ptr) count
      | none => List.replicate count 0
    (s.uhfOk ([BitVec.ofNat 16 m.status, BitVec.ofNat 16 (m.counter % 65536)] ++ data)).enfRead 1

/-- TAG_POWER_ON (R257): VTAG rises through V_TAG_ON. The inventoried flags and SL have their persistence without power (R264). -/
def State.tagOn (s : State) (mv : Nat) : State :=
  if s.tagd.on || mv < vTagOn then s
  else
    let off := s.aon.clock - s.tagd.offAt
    let kept := fun (i limit : Nat) => nth false s.tagd.flags i && (decide (off ≤ limit) || Config.flagKept (s.free + i))
    let s1fl := nth false s.tagd.flags 1
    let f := [false, s1fl, kept 2 (2 * secNs), kept 3 (2 * secNs), kept 4 (2 * secNs)]
    ({ s with free := s.free + 5, tagd := { s.tagd with
        on := true, vtag := mv, st := .ready, hst := .idle, halted := false, flags := f, half := none, uhfOut := [], hfOut := [], chain := [] } }).s1Decay

/-- What a field write leaves when VTAG falls below V_TAG_OFF inside it (R272): a BlockWrite reads old; a Write old, new or uncorrectable. -/
def State.tagTorn (s : State) (j : TagJob) : State :=
  let t : State := { s with free := s.free + 1, tagd := { s.tagd with job := none } }
  match j.kind with
  | .fieldWord =>
    let v := Config.tornRead s.free
    if v = 0 then t
    else if v = 1 then { t with rr := { t.rr with tag := t.rr.tag.setWords j.bank j.ptr j.words } }
    else { t with rr := { t.rr with tag := { t.rr.tag with bad := t.rr.tag.bad ++ [4096 * j.bank + j.ptr / 8] } } }
  | _ => { t with rr := { t.rr with tag := { t.rr.tag with torn := true } } }

/-- TAG_POWER_OFF (R257, R272, R282): VTAG falls below V_TAG_OFF and all tag activity stops. -/
def State.tagOff (s : State) (mv : Nat) : State :=
  if !s.tagd.on || vTagOff ≤ mv then s
  else
    let s1 := match s.tagd.job with
      | none => s
      | some j => if j.due ≤ s.aon.clock then s.fieldLand j false else s.tagTorn j
    let undone := s1.tagd.killAt.any (fun t => decide (s.aon.clock < t))
    let s2 : State := { s1 with rr := { s1.rr with tag := { s1.rr.tag with killed := s1.rr.tag.killed && !undone } } }
    let s3 := (s2.uhfSessEnd).hfSessEnd
    { s3 with tagd := { s3.tagd with
        on := false, vtag := mv, uhf := false, hf := false, st := .ready, hst := .idle, halted := false, flags := setAt s3.tagd.flags 0 false,
        half := none, killAt := none, harv := false, offAt := s.aon.clock } }

end Sys2Proof.Machine
end

