-- ==== Sys2Proof/Machine/TagHf.lean ====
section
/-! DEFINITION. The HF path of the vehicle tag (R268, R269): ISO/IEC 14443 Type A with the enforcement application. -/

namespace Sys2Proof.Machine

open Sys2Proof

/-- An HF command reaches a tag that serves the HF path (R268, R287). -/
def State.onHf (s : State) (f : State → State) : State :=
  if !s.tagServes then s
  else
    let s1 := s.tagSnapshot
    let s2 : State := { s1 with tagd := { s1.tagd with hf := true } }
    if s2.tagConf 0x3010 2 = 0 || s2.tagd.job.isSome then s2 else f s2.fieldCmd

/-- An HF frame is sent. -/
def State.hfSay (s : State) (b : Bytes) : State := { s with tagd := { s.tagd with hfOut := b } }

/-- The HF state changes. -/
def State.hfTo (s : State) (x : HfState) : State := { s with tagd := { s.tagd with hst := x } }

/-- Back to IDLE, or to HALT where the tag was woken from it. -/
def State.hfBack (s : State) : State := (s.hfTo (if s.tagd.halted then .halt else .idle)).hfSay []

/-- The four bytes of a cascade level of the double-size UID (R268). -/
def hfLevel (level : Nat) : Bytes := if level = 1 then 0x88 :: hfUid.take 3 else hfUid.drop 3

/-- The block check character of a cascade level. -/
def hfBcc (b : Bytes) : Byte := b.foldl (fun a x => a ^^^ x) 0

/-- REQA (R268). -/
def State.hfReqa (s : State) : State :=
  match s.tagd.hst with
  | .idle => ({ s with tagd := { s.tagd with halted := false } }.hfTo .ready1).hfSay [0x44, 0x00]
  | .halt => s.hfSay []
  | .proto => s
  | _ => s.hfBack

/-- WUPA (R268). -/
def State.hfWupa (s : State) : State :=
  match s.tagd.hst with
  | .idle => ({ s with tagd := { s.tagd with halted := false } }.hfTo .ready1).hfSay [0x44, 0x00]
  | .halt => ({ s with tagd := { s.tagd with halted := true } }.hfTo .ready1).hfSay [0x44, 0x00]
  | .proto => s
  | _ => s.hfBack

/-- HLTA (R268). -/
def State.hfHlta (s : State) : State :=
  match s.tagd.hst with
  | .active => ({ s with tagd := { s.tagd with halted := true } }.hfTo .halt).hfSay []
  | .ready1 => s.hfBack
  | .ready2 => s.hfBack
  | _ => s

/-- The state in which a cascade level is open. -/
def hfReady (level : Nat) : HfState := if level = 1 then .ready1 else .ready2

/-- Bits in the order of the air, least significant first in each byte. -/
def airBits (b : Bytes) : List Bool := b.flatMap (fun x => (List.range 8).map (fun k => x.toNat.testBit k))

/-- ANTICOLLISION (R268): the rest of the level's UID bytes where the known bits agree. The first byte sent also holds the known bits of
its byte. -/
def State.hfAnticollision (s : State) (level : Nat) (known : List Bool) : State :=
  if s.tagd.hst = .proto then s
  else if s.tagd.hst = hfReady level && (level == 1 || level == 2) then
    let b := hfLevel level ++ [hfBcc (hfLevel level)]
    if (airBits b).take known.length = known then s.hfSay (b.drop (known.length / 8)) else s.hfBack
  else s.hfBack

/-- HF_SELECT (R268). -/
def State.hfSelect (s : State) (level : Nat) (uid : Bytes) : State :=
  if s.tagd.hst = .proto then s
  else if s.tagd.hst = hfReady level && (level == 1 || level == 2) && uid.take 4 == hfLevel level then
    (if level = 1 then (s.hfTo .ready2).hfSay [0x04] else (s.hfTo .active).hfSay [0x20])
  else s.hfBack

/-- Frame sizes by FSDI. -/
def fsdOf (i : Nat) : Nat := nth 256 [16, 24, 32, 40, 48, 64, 96, 128, 256] i

/-- RATS (R268, R279). -/
def State.hfRats (s : State) (param : Byte) : State :=
  if s.tagd.hst = .proto then s
  else if s.tagd.hst = .active then
    let q := s.sessOpen 2
    ({ q.1 with tagd := { q.1.tagd with hst := .proto, fsd := fsdOf (param.toNat / 16), blk := 1, chain := [], hfSess := q.2, hfEnf := false } }).hfSay
      [0x05, 0x75, 0x00, 0x70, 0x00]
  else s.hfBack

/-- The next block of a response (R268): chained while more than a frame's bytes are left. -/
def State.hfNext (s : State) (l : Bytes) : State :=
  let n := s.tagd.fsd - 3
  let blk := 1 - s.tagd.blk
  let more := decide (n < l.length)
  { s with tagd := { s.tagd with blk := blk, chain := l.drop n, hfOut := byte (2 + blk + 16 * b2n more) :: l.take n } }

/-- A request of the enforcement application is answered (R269). -/
def State.hfAnswer (s : State) (b : Bytes) : State := if s.tagd.hst = .proto then s.hfNext b else s

/-- R(ACK) (R268). -/
def State.hfAck (s : State) (n : Nat) : State :=
  if s.tagd.hst ≠ .proto || n = s.tagd.blk || s.tagd.chain.isEmpty then s else s.hfNext s.tagd.chain

/-- R(NAK) (R268): the last block again, or an acknowledgement. -/
def State.hfNak (s : State) (n : Nat) : State :=
  if s.tagd.hst ≠ .proto || n = s.tagd.blk then s else s.hfSay [byte (0xA2 + s.tagd.blk)]

/-- S(DESELECT) (R268, R279). -/
def State.hfDeselect (s : State) : State :=
  if s.tagd.hst = .proto then
    let t := s.hfSessEnd
    ({ t with tagd := { t.tagd with halted := true } }.hfTo .halt).hfSay [0xC2]
  else s

/-- HF_FIELD_LOSS (R279): the HF path is at rest. -/
def State.hfLoss (s : State) : State :=
  let t := s.hfSessEnd
  { t with tagd := { t.tagd with hf := false, hst := .idle, halted := false, hfOut := [], chain := [] } }

/-- The response to GET_SUMMARY (R269): status byte and data. -/
def TagMem.summaryResponse (m : TagMem) (inf : Bytes) : Bytes :=
  if inf.length ≠ 1 then [0x02]
  else match m.newest with
    | some k => 0x00 :: (beBytes 2 m.status ++ m.slotBytes k)
    | none => [0x04]

/-- The response to READ (R269). -/
def TagMem.readResponse (m : TagMem) (inf : Bytes) : Bytes :=
  let bank := (inf.getD 1 0).toNat
  let ptr := beNat (slice 2 2 inf)
  let n := (inf.getD 4 0).toNat
  if inf.length ≠ 5 || n = 0 || 128 < n then [0x02]
  else if bank = 0 || 4 < bank || bankWords bank < ptr + n then [0x03]
  else if m.hurt bank ptr n then [0x06]
  else 0x00 :: bytesOf (m.words bank ptr n)

/-- The response to GET_CERTIFICATE (R269). -/
def TagMem.certResponse (m : TagMem) (inf : Bytes) : Bytes :=
  if inf.length ≠ 1 then [0x02] else 0x00 :: (beBytes 2 m.cert.length ++ m.cert)

/-- A command that reads Enforcement words and succeeds counts for its session (R279). -/
def State.hfEnfRead (s : State) (r : Bytes) : State := if s.tagd.hst = .proto && r.head? == some 0x00 then s.enfRead 2 else s

/-- GET_SUMMARY (R269). -/
def State.hfSummary (s : State) (inf : Bytes) : State :=
  let r := s.rr.tag.summaryResponse inf
  (s.hfAnswer r).hfEnfRead r

/-- HF_READ (R269). -/
def State.hfRead (s : State) (inf : Bytes) : State :=
  let r := s.rr.tag.readResponse inf
  let t := if r = [0x06] then s.tagBadRead (inf.getD 1 0).toNat (beNat (slice 2 2 inf)) (inf.getD 4 0).toNat else s
  if inf.getD 1 0 = 4 then (t.hfAnswer r).hfEnfRead r else t.hfAnswer r

/-- GET_CERTIFICATE (R269). -/
def State.hfCert (s : State) (inf : Bytes) : State :=
  let r := s.rr.tag.certResponse inf
  (s.hfAnswer r).hfEnfRead r

end Sys2Proof.Machine
end

