-- ==== Sys2Proof/Machine/Waits.lean ====
section
/-! DEFINITION. How a write whose checks have passed comes to act (R55, R327, R329): it waits for the fence, for its commit or for random bytes of a
channel, and acts once it can. -/

namespace Sys2Proof.Machine

open Sys2Proof

/-- How a write acts: whether it commits to ReRAM (R55), whether its commit is a command of its own, the random bytes it needs, and what it does. -/
structure Way where
  /-- the act writes ReRAM, so it waits while the fence is up -/
  nv : Bool := false
  /-- the value commits with PERSISTENT_COMMIT, whatever the fence -/
  late : Bool := false
  /-- the generator channel it draws from -/
  ch : State → Nat := fun _ => 6
  /-- the bytes it needs of that channel -/
  need : State → Nat := fun _ => 0
  /-- the act and its outcome -/
  act : State → State × Nat

/-- A write waits for its commit (R55). -/
def State.waitCommit (s : State) (c : Client) (k : Nat) (data : Bytes) : State :=
  { s with dict := { s.dict with commits := s.dict.commits ++ [{ c := c, key := k, data := data, at_ := s.now, work := 0 }] } }

/-- The act of a write once no fence is in its way: it waits for random bytes, is refused where its channel has stopped, or acts and is
answered (R327, R329). -/
def State.runWay (s : State) (c : Client) (k : Nat) (data : Bytes) (w : Way) : State :=
  if w.need s = 0 then (w.act s).1.answer c k (w.act s).2 [] true
  else if s.rngStopped (w.ch s) then s.answer c k abUnavail [] true
  else if s.rngWaits (w.ch s) (w.need s) then
    { s with rng := { s.rng with waits := s.rng.waits ++ [{ ch := w.ch s, need := w.need s, c := c, key := k, data := data }] } }
  else (w.act s).1.answer c k (w.act s).2 [] true

/-- A write past its checks begins to act (R55). -/
def State.startWay (s : State) (c : Client) (k : Nat) (data : Bytes) (w : Way) : State :=
  if w.late || (w.nv && s.fenced) then s.waitCommit c k data else s.runWay c k data w

end Sys2Proof.Machine
end

