-- ==== Sys2Proof/Machine/TagHost.lean ====
section
/-! DEFINITION. The tag application (R262, R263, R270, R275 to R278, R281 to R285, R304): the host window, summaries, the certificate,
commits and HARV. -/

namespace Sys2Proof.Machine

open Sys2Proof

/-- A VTAG that a host write can use (R271). -/
def State.hostReserve (s : State) : Bool := decide (vTagWr ≤ s.tagd.vtag)

/-- A host access to tag memory returns BUSY (R275). -/
def State.tagBusy (s : State) : State := { s with tag := { s.tag with busy := satAdd 32 s.tag.busy 1 } }

/-- A read of the window data (R276, R285): the words and zeros up to 256 bytes. -/
def State.windowRead (s : State) (c : Client) : State × (Nat × Bytes) :=
  let b := s.cval c 0x3020 1
  let p := s.cval c 0x3020 2
  let n := s.cval c 0x3020 3
  if !s.serving 0x08 && !s.rr.tag.killed then (s, abBusy, [])
  else if bankWords b < p + n then (s, abRange, [])
  else if s.rr.tag.hurt b p n then (s.tagBadRead b p n, abRange, [])
  else (s, abOk, padTo 256 (bytesOf (s.rr.tag.words b p n)))

/-- What refuses a write of the window (R276, R271, R282, R285); 0 for none. -/
def State.windowCause (s : State) (c : Client) : Nat :=
  let b := s.cval c 0x3020 1
  if b = 2 || b = 4 then abReadOnly
  else if b = 1 && s.role c == roleH && decide (2 < s.rr.lifecycle) then abRole
  else if bankWords b < s.cval c 0x3020 2 + s.cval c 0x3020 3 then abRange
  else if !s.serving 0x08 || !s.hostReserve then abBusy
  else 0

/-- WINDOW_DATA past the checks of R39 (R276, R278): it waits for the fence under R55, is refused, or begins; TAG_COMMIT ends it. -/
def State.windowBegin (s : State) (c : Client) (data : Bytes) : State :=
  let k := key 0x3020 4
  let cause := s.windowCause c
  if cause ≠ 0 then (if cause = abBusy then s.tagBusy else s).answer c k cause [] true
  else if s.fenced then
    { s with dict := { s.dict with commits := s.dict.commits ++ [{ c := c, key := k, data := data, at_ := s.now, work := 0 }] } }
  else
    let p := s.cval c 0x3020 2
    let n := s.cval c 0x3020 3
    let j : TagJob := { kind := .host c, bank := s.cval c 0x3020 1, ptr := p, words := (wordsOf data).take n,
                        due := s.aon.clock + s.programNs (unitsIn p n + 1), at_ := s.now }
    { s with tag := { s.tag with jobs := s.tag.jobs ++ [j] } }

/-- WINDOW_DATA (R276). -/
def State.windowWrite (s : State) (c : Client) (data : Bytes) : State :=
  let a := s.checkWrite c 0x3020 4 data
  if a ≠ 0 then s.answer c (key 0x3020 4) a [] false else s.windowBegin c data

/-- A host write lands (R270): its words, a commit record, and the client's answer. -/
def State.hostLand (s : State) (j : TagJob) : State :=
  let s1 : State := { s with rr := { s.rr with tag := s.rr.tag.land j false } }
  match j.kind with
  | .host c => s1.answer c (key 0x3020 4) abOk [] true
  | _ => s1

/-- TAG_COMMIT (R270, R272, R275): the field write under way lands, or else the oldest host write. -/
def State.tagCommit (s : State) : State :=
  match s.tagd.job with
  | some j => if j.due ≤ s.aon.clock then s.fieldLand j s.tagServes else s
  | none =>
    match s.tag.jobs with
    | j :: r => if j.due ≤ s.aon.clock && !s.fenced then { s with tag := { s.tag with jobs := r } }.hostLand j else s
    | [] => s

/-- HOST_TAG_TIMEOUT (R275): a host write that has waited 2 ms returns BUSY and its shadow is discarded. -/
def State.hostTagTimeout (s : State) (c : Client) : State :=
  let mine := fun (j : TagJob) => j.kind == TagJobKind.host c && decide (j.at_ + 2 * msNs ≤ s.now)
  match s.tag.jobs.find? mine with
  | none => s
  | some j =>
    ({ s with tag := { s.tag with jobs := s.tag.jobs.filter (fun (x : TagJob) => !(x.kind == TagJobKind.host c && x.at_ == j.at_)) } }.tagBusy).answer c (key 0x3020 4) abBusy [] true

/-- Vehicle state of the summary (R261). -/
def State.vehicleState (s : State) : Nat := 4 * b2n (s.pol.out == 2) + 2 * b2n s.pol.engine + b2n s.pol.locked

/-- Bytes 41 to 83 of a summary (R261). -/
def State.summaryFields (s : State) : Bytes :=
  [byte s.rr.lifecycle, byte s.loc.level, byte s.vehicleState] ++ beBytes 4 s.odo ++ leBytes 8 s.pol.driver ++ leBytes 8 s.pol.driver2 ++
  [byte s.pol.bindFlags, byte (s.rr.tamper ||| s.aon.latches), 0, 0] ++ (if s.cx.coupled then s.cx.peerId else List.replicate 8 0) ++
  beBytes 4 s.rr.tamperAt ++ beBytes 4 (s.counter 1)

/-- The fields whose change asks for a refresh (R262): bytes 41 to 83 but for the odometer. -/
def summaryWatch (f : Bytes) : Bytes := f.take 3 ++ f.drop 7

/-- The 128 bytes that a summary's signature covers (R261). -/
def State.summaryBody (s : State) (n : Nat) : Bytes :=
  padTo 128 (ascii "KVES" ++ [0x01, 0x01] ++ beBytes 2 (s.slot 48).gen ++ beBytes 4 n ++ s.vehicleBytes ++ serialBytes ++
    beBytes 4 (s.utcMs / 1000) ++ [byte s.timeSource] ++ s.summaryFields)

/-- The slot that a refresh overwrites (R262): an invalid one, else the one with the lowest counter. -/
def TagMem.victim (m : TagMem) : Nat :=
  match (List.range 8).find? (fun k => !slotValid (m.slotBytes k)) with
  | some k => k
  | none => (List.range 8).foldl (fun a k => if slotCounter (m.slotBytes k) < slotCounter (m.slotBytes a) then k else a) 0

/-- Whether a refresh has a trigger (R262): asked for, a watched field away from the newest slot's, or the period over. -/
def State.refreshWanted (s : State) : Bool :=
  let m := s.rr.tag
  let changed := match m.newest with
    | some k => summaryWatch (slice 41 43 (m.slotBytes k)) != summaryWatch s.summaryFields
    | none => true
  let period := match s.tagd.refreshAt with
    | some t => decide (t + s.obj 0x3030 1 * secNs ≤ s.aon.clock)
    | none => true
  s.tag.ask || changed || period

/-- The 60 s interval has passed (R262). -/
def State.refreshMay (s : State) : Bool := match s.tagd.refreshAt with
  | some t => decide (t + 60 * secNs ≤ s.aon.clock)
  | none => true

/-- A refresh (R262, R263): the trust pair signs a summary and writes a slot, which also clears TRUST_LOST. Without the trust pair, the
public-key engine, a signing key or the write path it does not come about (R317, R278). -/
def State.refresh (s : State) : State :=
  if s.trustLost || s.fenced || s.rr.lifecycle == lcReturned || !s.hostReserve then s
  else
    let m := s.rr.tag
    let n := m.counter + 1
    let body := s.summaryBody n
    match s.ownSign 48 body with
    | none => s
    | some (t, sig) =>
      let b := body ++ padTo 96 sig ++ List.replicate 32 0
      let m1 := t.rr.tag.seal1 4 none
      let x : State := { t with
        rr := { t.rr with tag := { m1 with slots := kvPut m1.slots m.victim b, lost := false } },
        tag := { t.tag with ask := false },
        tagd := { t.tagd with refreshAt := some t.aon.clock } }
      x.emit 0x08 0x3006 n

/-- SUMMARY_REFRESH (R262): on a trigger, at least 60 s after the last refresh. -/
def State.summaryRefresh (s : State) : State :=
  if s.tagApp && s.refreshWanted && s.refreshMay then s.refresh else s

/-- REFRESH_NOW (R262). -/
def State.refreshNow (s : State) : State := { s with tag := { s.tag with ask := true } }

/-- The tag engine sets TRUST_LOST on Sheepdog's signal (R263). -/
def State.tagTrustLost (s : State) : State :=
  if s.rr.tag.lost then s
  else { s with rr := { s.rr with tag := { s.rr.tag with lost := true } } }.emit 0x08 0x3007 s.rr.tag.counter

/-- The certificate of the summary signing key goes to the Enforcement bank (R304, R23). -/
def State.certCopy (s : State) : State :=
  let b := s.objBytes 2030 0x3740 1
  let n := s.obj 0x3740 2
  if n ≤ certLength b then
    let t := s.snapshot 0x3740 0x3740 0x3740 true 0x0C 0x3707 0
    if t.rr.tag.cert = b.take n then t else { t with rr := { t.rr with tag := { (t.rr.tag.seal1 4 none) with cert := b.take n } } }
  else s.snapshot 0x3740 0x3740 0x3740 false 0x0C 0x3707 (256 * 0x3740 + 2)

/-- SUMMARY_CERTIFICATE past the checks of R39 (R304). -/
def State.summaryCertificate (s : State) (b : Bytes) : State × Nat :=
  if s.trustLost || !s.pkOk then (s, abUnavail)
  else if s.summaryCertOk b then ((s.commitObj 0x3740 1 (leNat b)).certCopy, abOk)
  else (s, abRange)

/-- KILL_OBJECT (R281, R282): the present kill password, then the reserve check. -/
def State.killObject (s : State) (pw : Bytes) : State × Nat :=
  if s.rr.tag.killed || !s.rr.tag.canKill || pw ≠ s.rr.tag.killPw then (s, abAuthFail)
  else if !s.hostReserve then (s.tagBusy, abBusy)
  else (s.killTag 3, abOk)

/-- The kill password is set (R281). -/
def State.setKillPw (s : State) (pw : Bytes) : State := { s with rr := { s.rr with tag := { s.rr.tag with killPw := padTo 4 pw } } }

/-- HARV may run (R284): enabled, its source feeds VTAG, the tag alive, no overload pause and no lasting fault of source 0x14. -/
def State.harvMay (s : State) : Bool :=
  s.tagServes && s.obj 0x3050 1 != 0 && (s.obj 0x3050 2 == 1 || !s.tagFed) && s.tagd.harvOff.isNone && !s.lasting 0x14

/-- HARV drives its ball (R284): off from each reserve check until the end of the write's last program. -/
def State.harvOut (s : State) : Bool := s.tagd.harv && s.tagd.job.isNone && s.tag.jobs.isEmpty

/-- HARV_ON (R284). -/
def State.harvOn (s : State) (mv : Nat) : State :=
  if vTagHon < mv && s.harvMay then { (s.readVtag mv) with tagd := { (s.readVtag mv).tagd with harv := true } } else s

/-- HARV_OFF (R284). -/
def State.harvLow (s : State) (mv : Nat) : State :=
  if mv < vTagHoff then { (s.readVtag mv) with tagd := { (s.readVtag mv).tagd with harv := false } } else s

/-- HARV_OVERLOAD (R284). -/
def State.harvOverload (s : State) : State :=
  if !s.tagd.harv then s
  else
    let n := satAdd 32 s.tag.overloads 1
    let t : State := { s with tagd := { s.tagd with harv := false, harvOff := some (s.aon.clock + 100 * msNs) },
                              tag := { s.tag with overloads := if s.powered then n else s.tag.overloads } }
    if s.powered then (t.emit 0x08 0x3008 n).charge 0x14 0x08 0x3008 else t

/-- HARV_RETRY (R284): the 100 ms have passed. -/
def State.harvRetry (s : State) : State :=
  if s.tagd.harvOff.any (fun t => decide (t ≤ s.aon.clock)) then
    let t : State := { s with tagd := { s.tagd with harvOff := none } }
    { t with tagd := { t.tagd with harv := decide (vTagHon < t.tagd.vtag) && t.harvMay } }
  else s

/-- The tag application starts (R285). A killed tag reports STOPPED (R282). -/
def State.tagStart (s : State) : State :=
  let m := s.rr.tag
  let d := m.writes - m.journaled
  let s1 := s.setUnit 0x08 (if m.killed then stStopped else stRunning)
  let s2 := s1.emitIf (d != 0) 0x08 0x3009 d
  let s3 := if m.torn then s2.stick 0x08 3 else s2
  { s3 with rr := { s3.rr with tag := { m with journaled := m.writes, torn := false } }, tag := { s3.tag with ask := true } }

end Sys2Proof.Machine
end

