-- ==== Sys2Proof/Machine/Boot.lean ====
section
/-! DEFINITION. Lifecycle and boot (R470 to R474, R507): firmware banks and their admission, the choice of the bank, updates, the lifecycle
state, and requested resets. -/

namespace Sys2Proof.Machine

open Sys2Proof

/-- Bytes of a firmware bank (R28). -/
def bankSize : Nat := 2 ^ 21

/-- A byte of a bank; a byte that was never programmed reads 0xFF (R338). -/
def FwBank.byte (b : FwBank) (a : Nat) : Byte := kvGet 0xFF b.mem a

/-- Bytes of a bank. -/
def FwBank.bytes (b : FwBank) (a n : Nat) : Bytes := (List.range n).map (fun i => b.byte (a + i))

/-- Programs bytes of a bank. -/
def FwBank.program (b : FwBank) (a : Nat) (d : Bytes) : FwBank :=
  { b with mem := (d.zipIdx).foldl (fun (m : List Host.Cell) q => kvSet 0xFF m (a + q.2) q.1) b.mem }

/-- The header of a bank that the boot ROM's checks of R472 pass, but for the security floor. -/
def FwBank.header (b : FwBank) : Option FwHeader :=
  match b.shipped with
  | some h => some h
  | none =>
    let h := b.bytes 0 256
    let len := leNat (slice 16 4 h)
    let magic := h.take 4 == ascii "KVFW" && h.getD 4 0 == 1 && leNat (slice 6 2 h) == 0x00B0 && decide (len ≤ 2096896)
    if !magic then none
    else if sha384 (b.bytes 256 len) != slice 20 48 h then none
    else if verifyWith 0x11 Config.romKey (h.take 68) false (slice 68 96 h) != some true then none
    else some { release := leNat (slice 8 4 h), version := leNat (slice 12 2 h) }

/-- A firmware bank by number. -/
def ReRam.bank (r : ReRam) (n : Nat) : FwBank := if n = 0 then r.fwA else r.fwB

/-- Replaces a firmware bank. -/
def ReRam.setBank (r : ReRam) (n : Nat) (b : FwBank) : ReRam := if n = 0 then { r with fwA := b } else { r with fwB := b }

/-- The header of a bank that is admitted (R472): its security version is at least the floor. -/
def ReRam.admitted (r : ReRam) (n : Nat) : Option FwHeader :=
  match (r.bank n).header with
  | some h => if r.floor ≤ h.version then some h else none
  | none => none

/-- The release number of a bank, 0 when unadmitted (0x1410:05, 06). -/
def State.bankRelease (s : State) (n : Nat) : Nat := ((s.rr.admitted n).map (·.release)).getD 0

/-- A bank boots (R473). -/
def State.bootFrom (s : State) (n : Nat) (trial fallback : Bool) : State :=
  ({ s with sup := { s.sup with running := n, trial := trial } }.setUnit 0x22 stRunning).emit 0x22 0x1402
    (n + 256 * b2n trial + 512 * b2n fallback + 65536 * (s.bankRelease n % 65536))

/-- The boot ROM chooses the bank (R473). A trial that a reset has ended is rolled back. -/
def State.chooseBank (s : State) : State :=
  let other := 1 - s.rr.active
  let s1 : State :=
    if s.rr.trialBank.isSome && (s.rr.trialRan || (s.rr.trialBank.bind s.rr.admitted).isNone) then
      ({ s with rr := { s.rr with trialBank := none, trialRan := false } }).emitIf s.rr.trialRan 0x22 0x1404 s.rr.active
    else s
  match s1.rr.trialBank with
  | some t => { s1 with rr := { s1.rr with trialRan := true } }.bootFrom t true false
  | none =>
    if (s1.rr.admitted s1.rr.active).isSome then s1.bootFrom s1.rr.active false false
    else if (s1.rr.admitted other).isSome then s1.bootFrom other false true
    else { s1 with sup := { s1.sup with bootRom := true } }.setUnit 0x22 stFailed

/-- TRIAL_CONFIRMED (R473). -/
def State.trialConfirmed (s : State) : State :=
  if s.sup.trial && !s.lasting 1 && !s.lasting 2 && s.sup.step6.any (fun t => decide (t + 60 * secNs ≤ s.now)) && !s.fenced then
    let v := ((s.rr.admitted s.sup.running).map (·.version)).getD 0
    let s1 := s.recWrite 1 (key 0x1410 1) 4
    { s1 with
      rr := { s1.rr with active := s.sup.running, floor := max s.rr.floor v, trialBank := none, trialRan := false },
      sup := { s1.sup with trial := false } }
  else s

/-- The bank that an update writes (R474): neither active nor the subject of a trial. -/
def State.updateBank (s : State) : Option Nat :=
  let n := 1 - s.rr.active
  if s.rr.trialBank = some n then none else some n

/-- The update state changes (R477, R478). -/
def State.updateTo (s : State) (n : Nat) : State := { s with sup := { s.sup with update := n } }.emit 0x22 0x1403 n

/-- UPDATE_BEGIN (R474): the bank's header is invalid at once. -/
def State.updateBegin (s : State) : State × Nat :=
  match s.updateBank with
  | none => (s, abSequence)
  | some n =>
    let b := ({ (s.rr.bank n) with shipped := none }).program 0 [0, 0, 0, 0]
    ({ s with rr := s.rr.setBank n b }.updateTo 1, abOk)

/-- CHUNK (R474): it programs the bank directly at the set offset. -/
def State.chunk (s : State) (d : Bytes) : State × Nat :=
  match s.updateBank with
  | none => (s, abSequence)
  | some n =>
    let off := s.obj 0x1421 1
    if s.sup.update ≠ 1 then (s, abSequence)
    else if d.length = 0 || 4096 < d.length then (s, abLength)
    else if bankSize < off + d.length then (s, abRange)
    else ({ s with rr := s.rr.setBank n ((s.rr.bank n).program off d) }, abOk)

/-- UPDATE_VERIFY (R474): the checks of R472. -/
def State.updateVerify (s : State) : State × Nat :=
  match s.updateBank with
  | none => (s, abSequence)
  | some n =>
    if s.sup.update ≠ 1 then (s, abSequence)
    else (s.updateTo (if (s.rr.admitted n).isSome then 2 else 3), abOk)

/-- A reset is asked for (R507). -/
def State.askReset (s : State) (kind : Nat) (c : Client) : State := { s with sup := { s.sup with pendingReset := some (kind, c, s.now) } }

/-- ACTIVATE (R474). -/
def State.activate (s : State) (c : Client) : State × Nat :=
  match s.updateBank with
  | none => (s, abSequence)
  | some n =>
    if s.sup.update ≠ 2 || s.pol.engine || s.pol.out != 0 then (s, abSequence)
    else
      let s1 := s.recWrite 1 (key 0x1410 2) 4
      ({ s1 with rr := { s1.rr with trialBank := some n, trialRan := false } }.askReset 7 c, abOk)

/-- The lifecycle state changes (R470); an injection of test patterns ends with FACTORY (R334). -/
def State.lifecycleTo (s : State) (n : Nat) : State :=
  let s1 := (if s.rngInjecting then s.rngStartUp else s).recWrite 1 (key 0x1401 1) 1
  { s1 with rr := { s1.rr with lifecycle := n } }.emit 0x22 0x1401 n

/-- Who may advance to a state, and from where (R470): 0, or the abort. -/
def State.advanceCause (s : State) (role target : Nat) : Nat :=
  if target < 2 || s.rr.lifecycle + 1 ≠ target then abSequence
  else if role ≠ (if target = 2 then roleF else roleW) then abRole
  else if target = 3 && (s.rr.map.isEmpty || (s.slot 12).ty == 0) then abSequence
  else if target = 2 && (s.rngStopped 6 || !s.pkOk || s.trustLost) then abUnavail
  else 0

/-- Bytes that an advance draws (R470): the keys of slots 3, 48 and 49. -/
def State.advanceNeed (s : State) (role target : Nat) : Nat := if target = 2 && s.advanceCause role target == 0 then 96 else 0

/-- A FACTORY key is generated (R289, R470). -/
def State.factoryKey (s : State) (n ty : Nat) (b : Bytes) : State :=
  s.putKey n { ty := ty, usage := ((slotFixed n).map (·.2)).getD 0, pers := true, origin := 1, key := randomKey ty b }

/-- ADVANCE_INTEGRATION, ADVANCE_FIELD and ADVANCE_RETURNED (R470). -/
def State.advance (s : State) (role target : Nat) : State × Nat :=
  let cause := s.advanceCause role target
  if cause ≠ 0 then (s, cause)
  else if target = 2 then
    match s.draw 6 96 with
    | none => (s, abUnavail)
    | some (t, b) => ((((t.factoryKey 3 3 (b.take 32)).factoryKey 48 0x10 (slice 32 32 b)).factoryKey 49 0x10 (b.drop 64)).lifecycleTo 2, abOk)
  else if target = 3 then (s.lifecycleTo 3, abOk)
  else (s.zeroizeEvery.lifecycleTo 4, abOk)

/-- The response to a reset request has left the device (R507). -/
def State.responseGone (s : State) (c : Client) : Bool :=
  match c with
  | .host => !s.host.avail && !s.host.busy
  | .can b _ => !((s.ctl b).queue ++ (s.ctl b).waiting).any (fun f => f.c == some c)

end Sys2Proof.Machine
end

