-- ==== Sys2Proof/Machine/Super.lean ====
section
/-! DEFINITION. Supervision (R444 to R458, R507): resets and cold start, supplies, clocks, temperature, glitches and the power modes. -/

namespace Sys2Proof.Machine

open Sys2Proof

/-- The units of the ranging group that have a state of their own. -/
def rangingUnits : List Nat := [0x25, 0x26, 0x27, 0x28, 0x2A, 0x2B, 0x2C, 0x2D]

/-- What a reset does to a ReRAM operation under way (R456, R354): it ends, or an abrupt loss of a rail tears it. -/
def State.cutNv (s : State) (power : Bool) : State :=
  match s.nv.run with
  | none => s
  | some o =>
    if power then
      let t : State := { s with free := s.free + 1 }
      if Config.tornRead s.free = 1 then t.nvEffect o else t
    else s.nvEffect o

/-- The reader sessions of the tag lose their context rows with the control domain (R279). -/
def TagDom.noRows (t : TagDom) : TagDom := { t with uhfSess := t.uhfSess.map (fun _ => none), hfSess := t.hfSess.map (fun _ => none) }

/-- A reset of a kind begins and is held (R456): everything but the always-on domain, the ReRAM, the tag domain and the external medium is
at its reset value; a loss of VAON takes the always-on domain too (R97). -/
def State.resetTo (s : State) (kind wake : Nat) : State :=
  let power := kind == 1 || kind == 2
  let s1 := (s.cutNv power).cutProgram power
  let keep : Aon := { s1.aon with mode := 0, resetKind := kind, wake := wake }
  let x : State := { aon := if kind = 1 then {} else keep, rr := s1.rr, tagd := s1.tagd.noRows, medium := s1.medium, pending := s1.pending, free := s1.free }
  if kind = 1 then x.roosterRestore else x

/-- A rail is below its reset threshold (R444). -/
def railLow (rail mv : Nat) : Bool := decide (mv < railReset rail)

/-- RAIL_RESET (R444): VDD_CORE, VDD_IO or VDD_18, and VAON, whose loss is a POWER_ON. -/
def State.railReset (s : State) (rail mv : Nat) : State :=
  if rail ≤ 2 && railLow rail mv then s.resetTo 2 0
  else if rail = 4 && railLow 4 mv then s.resetTo 1 0
  else s

/-- EXTERNAL_RESET (R456): RESET_N low for 1 µs or longer. -/
def State.externalReset (s : State) (lowNs : Nat) : State := if 1000 ≤ lowNs then s.resetTo 3 0 else s

/-- DEFERRED_RESET (R507): the response has left the device, or 100 ms have passed. -/
def State.deferredReset (s : State) : State :=
  match s.sup.pendingReset with
  | some (kind, c, t) => if s.responseGone c || decide (t + 100 * msNs ≤ s.now) then s.resetTo kind 0 else s
  | none => s

/-- The crystal is lost (R447, R30): the RC oscillator takes over and ranging stops. -/
def State.loseCrystal (s : State) : State :=
  if s.sup.rc then s
  else
    let s1 : State := { s with sup := { s.sup with rc := true, rcSince := s.now, xtalLosses := satAdd 32 s.sup.xtalLosses 1 } }
    let s2 := (s1.emit 0x37 0x1204 0).charge 0x08 0x37 0x1204
    let s3 : State := { s2 with phy := { s2.phy with rx := none } }
    (((s3.lanesState).canClock 0).canClock 1).bellClockLost

/-- CLOCK_LOST (R447). -/
def State.clockLost (s : State) : State := if s.powered then s.loseCrystal else s

/-- The ranging group starts again (R153, R447, R450). -/
def State.rangingAgain (s : State) : State :=
  let s1 := s.setUnits (rangingUnits.filter (fun u => s.ownState u != stStopped || s.sup.hot)) stStarting
  s1.setUnit 0x04 stStarting

/-- CLOCK_RESTORED (R447): not where the crystal's fault is lasting, which keeps the device on the RC oscillator (R460). -/
def State.clockRestored (s : State) : State :=
  if !s.powered || !s.sup.rc || s.lasting 0x08 || decide (s.now < s.sup.rcSince + 100 * msNs) then s
  else
    let s1 : State := { s with sup := { s.sup with rc := false } }
    let s2 := s1.emit 0x37 0x1205 (min ((s.now - s.sup.rcSince) / msNs) (2 ^ 32 - 1))
    let s3 := if s2.sup.hot then s2 else s2.rangingAgain
    if s3.ownState 0x30 = stRunning && s3.bell.st != 0 then s3.bellStart else s3

/-- The sample ports report FAILED while a supply or a PLL of theirs is lost (R444, R448). -/
def State.portsLost (s : State) : State :=
  if s.ownState 0x25 == stOff || s.ownState 0x25 == stStopped then s
  else
    let s1 : State := { s with phy := { s.phy with rx := none } }
    (s1.setUnit 0x25 stFailed).setUnit 0x04 stFailed

/-- VDD_SER_LOW (R444). -/
def State.serLow (s : State) (mv : Nat) : State :=
  if !s.powered || !railLow 3 mv then s
  else { s with sup := { s.sup with serLow := true, rails := setAt s.sup.rails 3 mv } }.portsLost

/-- VDD_SER_RECOVERED (R444): 10 ms above 0.86 V. -/
def State.serBack (s : State) (mv : Nat) : State :=
  if !s.powered || !s.sup.serLow || mv ≤ 860 then s
  else
    let s1 : State := { s with sup := { s.sup with serLow := false, rails := setAt s.sup.rails 3 mv } }
    if s1.sup.rc || s1.sup.hot || s1.sup.pllS then s1 else s1.rangingAgain

/-- PLL_LOCK_LOST (R448). -/
def State.pllLost (s : State) (p : Pll) : State :=
  if !s.powered then s
  else match p with
    | .core => s.resetTo 8 0
    | .sample => { s with sup := { s.sup with pllS := true } }.portsLost
    | .can =>
      let stop := fun (t : State) (b : Nat) =>
        if t.ownState (canUnit b) == stStopped || t.ownState (canUnit b) == stOff then t else (t.canStop b).setUnit (canUnit b) stFailed
      stop (stop { s with sup := { s.sup with pllCan := true } } 0) 1

/-- PLL_RELOCK (R448). -/
def State.pllBack (s : State) (p : Pll) : State :=
  if !s.powered then s
  else match p with
    | .core => s
    | .sample =>
      if !s.sup.pllS then s
      else
        let s1 : State := { s with sup := { s.sup with pllS := false } }
        if s1.sup.rc || s1.sup.hot || s1.sup.serLow then s1 else s1.rangingAgain
    | .can =>
      if !s.sup.pllCan then s
      else
        let go := fun (t : State) (b : Nat) => if t.ownState (canUnit b) == stFailed then t.canStart b else t
        go (go { s with sup := { s.sup with pllCan := false } } 0) 1

/-- RC_TRIM (R449): while the crystal runs. -/
def State.rcTrim (s : State) (code : Nat) : State := if s.sup.rc || s.sup.held then s else { s with aon := { s.aon with trim := code % 65536 } }

/-- The highest of the sensors (R450). -/
def tjOf (l : List Int) : Int := l.foldl max (-32768)

/-- TEMPERATURE (R450): 125 °C stops and gates the ranging group and the signal engines, below 120 °C they start. -/
def State.temperature (s : State) (l : List Int) : State :=
  if !s.powered then s
  else
    let tj := tjOf (l.take 4)
    let s1 : State := { s with sup := { s.sup with tj := l.take 4 } }
    if !s1.sup.hot && decide (500 ≤ tj) then
      let s2 : State := { s1 with sup := { s1.sup with hot := true }, phy := { s1.phy with rx := none } }
      ((s2.setUnits rangingUnits stStopped).setUnit 0x04 stStarting).emit 0x11 0x1206 (1 + 65536 * twos 16 tj)
    else if s1.sup.hot && decide (tj < 480) then
      let s2 := s1.rangingAgain
      { s2 with sup := { s2.sup with hot := false } }.emit 0x11 0x1206 (65536 * twos 16 tj)
    else s1

/-- THERMAL_RESET (R450). -/
def State.thermalReset (s : State) (l : List Int) : State := if s.powered && decide (540 ≤ tjOf (l.take 4)) then s.resetTo 5 0 else s

/-- A pair restarts (R461): its event, and one count against its source. The start-lock outputs and the pair's region are kept. -/
def State.pairRestart (s : State) (vehicle : Bool) (cause code : Nat) : State :=
  let p := if vehicle then 2 else 1
  (s.emit 0x35 0x1305 (p + 256 * cause)).charge p (if vehicle then 0x23 else 0x20) code

/-- GLITCH (R451). -/
def State.glitch (s : State) (supply clock : Bool) : State :=
  if !s.powered || (!supply && !clock) then s
  else
    let s1 : State := { s with sup := { s.sup with glitches := satAdd 32 s.sup.glitches 1 } }
    ((s1.emit 0x37 0x1207 (b2n supply + 2 * b2n clock)).pairRestart false 3 0x1207).pairRestart true 3 0x1207

/-- WATCHDOG_EXPIRY (R460). -/
def State.watchdog (s : State) (g : CoreGroup) : State :=
  if !s.powered then s
  else match g with
    | .trust => s.pairRestart false 2 0x1305
    | .vehicle => s.pairRestart true 2 0x1305
    | .se n => s.charge (3 + n % 4) (0x2A + n % 4) 0

/-- LOCKSTEP_MISMATCH (R460). -/
def State.lockstep (s : State) (vehicle : Bool) : State := if s.powered then s.pairRestart vehicle 1 0x1305 else s

/-- Whether an initiator may write a region (R27). -/
def mayWrite : Initiator → Region → Bool
  | .trustPair, .trust => true
  | .cipherTrust, .trust => true
  | .vehiclePair, .vehicle => true
  | .capture, .roundBuffers => true
  | .se _, .roundBuffers => true
  | .trustPair, .messages => true
  | .vehiclePair, .messages => true
  | .se _, .messages => true
  | .trustPair, .jobRings => true
  | .vehiclePair, .jobRings => true
  | .cipherTrust, .jobRings => true
  | .cipherVehicle, .jobRings => true
  | .trustPair, .journalTail => true
  | .nand, .journalTail => true
  | .tagEngine, .tagSnapshot => true
  | .vehiclePair, .tagSnapshot => true
  | _, _ => false

/-- The source of the owner of a region (R460), for an initiator that has none. -/
def ownerSource : Region → Nat
  | .vehicle => 2
  | .roundBuffers => 3
  | .tagSnapshot => 0x14
  | _ => 1

/-- The source that a firewall fault counts against (R27, R460). -/
def firewallSource (i : Initiator) (r : Region) : Nat :=
  match i with
  | .trustPair => 1
  | .vehiclePair => 2
  | .se n => 3 + n % 4
  | .cipherTrust => 0x15
  | .cipherVehicle => 0x15
  | .tagEngine => 0x14
  | .capture => ownerSource r
  | .nand => ownerSource r

/-- FIREWALL_FAULT (R27): the write is dropped and counted. -/
def State.firewall (s : State) (i : Initiator) (r : Region) : State :=
  if !s.powered || mayWrite i r then s
  else s.charge (firewallSource i r) (sourceUnit (firewallSource i r)) 0

/-- The conditions of parking (R453). -/
def State.mayPark (s : State) : Bool :=
  !s.pol.engine && s.pol.out == 0 &&
  !s.dict.clients.any (fun x => x.st == 2 && x.role != roleH) && !s.streamOpen &&
  s.cipher.holder.isNone && s.pk.holder.isNone && s.phy.cal.isNone && s.jr.st != 2 && s.sup.update != 1 && !s.sup.trial

/-- Parking begins (R454). -/
def State.parkBegin (s : State) (cause : Nat) : State := { s with sup := { s.sup with parkStep := 1, parkCause := cause } }

/-- PARK_REQUEST (R453). -/
def State.parkRequest (s : State) : State × Nat :=
  if !s.mayPark then (s, abSequence) else if s.sup.parkStep ≠ 0 then (s, abOk) else (s.parkBegin 1, abOk)

/-- PARK_ON_IDLE (R452): the host port has been idle for 0x1201:03. -/
def State.parkIdle (s : State) : State :=
  let t := s.obj 0x1201 3
  if s.powered && t != 0 && decide (s.host.idleFrom + t * secNs ≤ s.now) && s.mayPark && s.sup.parkStep == 0 then s.parkBegin 2 else s

/-- Parking is abandoned (R454). -/
def State.parkAbandon (s : State) : State :=
  if s.sup.parkStep = 0 then s
  else { s with sup := { s.sup with parkStep := 0 } }.emit 0x11 0x1201 (256 * 5)

/-- The mode that parking enters (R452). -/
def State.parkMode (s : State) : Nat :=
  let st := s.aon.rooster.st
  if 1 ≤ st ∧ st ≤ 4 then (if bit (s.obj 0x2020 2) (st - 1) then 2 else 1) else 3

/-- Step 1 of R454: the nonce stock of R103, 4 nonces from channel 7. -/
def State.parkStock (s : State) : State :=
  if s.fenced then s
  else if s.rngStopped 7 then { s with sup := { s.sup with parkStep := 2 } }
  else match s.draw 7 32 with
    | none => s
    | some (t, b) => { t with rr := { t.rr with stock := [b.take 8, slice 8 8 b, slice 16 8 b, slice 24 8 b] }, sup := { t.sup with parkStep := 2 } }

/-- Step 2 of R454: the buffers of channels 6 and 7 are full, or their channel has stopped. -/
def State.parkFull (s : State) : Bool :=
  (s.rngStopped 6 || decide (rngSize 6 ≤ (s.rngBuf 6).length)) && (s.rngStopped 7 || decide (rngSize 7 ≤ (s.rngBuf 7).length))

/-- The next steps of a parking under way (R454), as far as they can be taken now. -/
def State.parkAdvance (s : State) : State :=
  if s.sup.parkStep = 0 then s
  else if !s.mayPark then s.parkAbandon
  else
    let s1 := if s.sup.parkStep = 1 then s.parkStock else s
    if s1.sup.parkStep = 2 && s1.parkFull then
      let s2 := (s1.refresh).parkFlush
      { s2 with sup := { s2.sup with parkStep := 4, parkAt := s.now } }
    else s1

/-- The mode changes to a mode without the control rails: its volatile state is gone (R452). -/
def State.railsOff (s : State) (mode : Nat) : State :=
  let x : State := { aon := { s.aon with mode := mode }, rr := s.rr, tagd := s.tagd.noRows, medium := s.medium, pending := s.pending, free := s.free }
  x

/-- The power mode changes (R452, R454, R478). -/
def State.toMode (s : State) (mode cause : Nat) : State :=
  let s1 := s.emit 0x11 0x1201 (mode + 256 * cause)
  if mode = 1 then { s1 with aon := { s1.aon with mode := 1 }, sup := { s1.sup with parkStep := 0 } } else s1.railsOff mode

/-- PARKING_COMPLETE (R454): the journal is flushed, or the medium out of service and 1 s past. -/
def State.parkingComplete (s : State) : State :=
  let flushed := s.jr.tail.isEmpty && s.jr.op.isNone && s.jr.pageRecs.isEmpty
  let late := s.jr.st != 3 && decide (s.sup.parkAt + secNs ≤ s.now)
  if s.sup.parkStep = 4 && s.nv.run.isNone && (flushed || late) then s.toMode s.parkMode s.sup.parkCause else s

/-- The control domain comes back from the gated mode (R99, R452, R455). -/
def State.ungate (s : State) : State :=
  if s.aon.mode = 1 then
    ({ s with aon := { s.aon with mode := 0 } } : State).emit 0x11 0x1201 (256 * 4)
  else s

/-- HOST_UNGATE (R455): the transaction restarts the idle time (R452). -/
def State.hostUngate (s : State) : State :=
  if s.aon.mode = 1 then { s.ungate with host := { s.ungate.host with idleFrom := s.now } } else s

/-- Whether a tamper source's response zeroizes (R468): in FIELD the mesh always, the loop and the lid as set. -/
def State.tamperZeroizes (s : State) (src : Nat) : Bool :=
  s.rr.lifecycle == lcField && (src == 3 || (src == 2 && s.obj 0x1482 2 == 1) || (src == 1 && bit (s.obj 0x1482 4) 0))

/-- A tamper detection is recorded with the control rails up (R468): counter 5, the time, and TAMPER. -/
def State.tamperRecord (s : State) (src : Nat) : State :=
  let s1 := s.increment 5 1
  let s2 : State := { s1 with rr := { s1.rr with tamperAt := s1.utcMs / 1000 % 2 ^ 32 } }
  s2.emit 0x36 0x1481 (src + 256 * b2n (s2.tamperZeroizes src))

/-- A tamper detection (R468, R469). With the rails down it is logged, and a zeroize response sets every slot's mark and wakes the device. -/
def State.tamperDetect (s : State) (src : Nat) : State :=
  let s0 : State := { s with aon := { s.aon with latches := s.aon.latches ||| 2 ^ (src - 1) } }
  let s1 := s0.ungate
  if s1.powered then
    let s2 := s1.tamperRecord src
    if s1.tamperZeroizes src then s2.zeroizeEvery else s2
  else
    let l := s1.aon.offline
    let l' := if l.length < 8 then l ++ [{ src := src, count := s1.aon.clock * 32 / 1000000 % 2 ^ 32 }] else l
    let s2 : State := { s1 with aon := { s1.aon with offline := l' } }
    if s1.tamperZeroizes src then
      let s3 : State := { s2 with aon := { s2.aon with marks := s2.aon.marks ++ List.range 64 } }
      if 2 ≤ s.aon.mode then s3.resetTo 9 0 else s3
    else s2

/-- MESH_CHECK (R468): two consecutive wrong checks. -/
def State.meshCheck (s : State) (good : Bool) : State :=
  let n := if good then 0 else min 3 (s.aon.meshBad + 1)
  let t : State := { s with aon := { s.aon with meshBad := n } }
  if n = 2 then t.tamperDetect 3 else t

/-- LOOP_SAMPLE (R468): two consecutive wrong samples of the armed loop. -/
def State.loopSample (s : State) (good : Bool) : State :=
  if s.obj 0x1482 1 = 0 then s
  else
    let n := if good then 0 else min 3 (s.aon.loopBad + 1)
    let t : State := { s with aon := { s.aon with loopBad := n } }
    if n = 2 then t.tamperDetect 2 else t

/-- LID_DETECTION (R468): the armed lid at its active level for 10 ms. -/
def State.lidDetection (s : State) (level : Bool) (heldNs : Nat) : State :=
  if s.obj 0x1482 3 != 0 && level == bit (s.obj 0x1482 4) 1 && decide (10 * msNs ≤ heldNs) then s.tamperDetect 1 else s

/-- CLEAR_LATCHES (R469). -/
def State.clearLatches (s : State) (mask : Nat) : State := { s with aon := { s.aon with latches := s.aon.latches &&& (7 ^^^ (mask % 8)) } }

/-- The detections logged with the rails down are journaled at the start (R469). -/
def State.tamperOffline (s : State) : State :=
  let l := s.aon.offline
  if l.isEmpty then s
  else
    let s1 := l.foldl (fun (t : State) x => t.tamperRecord x.src) s
    { s1 with aon := { s1.aon with offline := [] } }.emit 0x36 0x1482 l.length

/-- The record scan of the non-volatile store (R346). -/
def State.recordScan (s : State) (o : BootObs) : State :=
  let s1 := o.conflicts.foldl (fun (t : State) k => ({ t with nv := { t.nv with conflicts := satAdd 32 t.nv.conflicts 1 } }).emit 0x0D 0x3801 k) s
  let s2 := o.repaired.foldl (fun (t : State) q => ({ t with nv := { t.nv with repaired := satAdd 32 t.nv.repaired 1 } }).emit 0x0D 0x3802 (q.1 + 2 ^ 24 * (q.2 % 2))) s1
  let gone := o.lost.filter (fun k => (kvGet? s.rr.objs k).isSome)
  gone.foldl (fun (t : State) k =>
    (({ t with nv := { t.nv with lost := satAdd 32 t.nv.lost 1 }, rr := { t.rr with objs := kvDel t.rr.objs k } }).emit 0x0D 0x3803 k).charge 0x19 0x0D 0x3803) s2

/-- Whether a cold start may begin (R450, R456): the reset is held, the mode ACTIVE, every rail above its threshold, and after a THERMAL
reset Tj below 115 °C. -/
def State.mayColdStart (s : State) (o : BootObs) : Bool :=
  s.sup.held && s.aon.mode == 0 && !(([0, 1, 2, 4] : List Nat).any (fun r => railLow r (nth 0 o.rails r))) &&
  (s.aon.resetKind != 5 || decide (tjOf o.sensors < 460))

/-- COLD_START (R457, R471 to R473): the reset ends; supervision, the non-volatile store and the boot ROM do steps 1 and 2 of R32. -/
def State.coldStart (s : State) (o : BootObs) : State :=
  if !s.mayColdStart o then s
  else
    let s1 : State := { s with now := 0, sup := { s.sup with held := false, rails := o.rails.take 5, tj := o.sensors.take 4 },
                               tagd := { s.tagd with on := true, vtag := if s.tagd.on then s.tagd.vtag else vTagFeed } }
    let s2 : State := { s1 with tagd := { s1.tagd with vtag := max s1.tagd.vtag vTagFeed } }
    if o.testMode && s2.rr.lifecycle == lcFactory then { s2 with sup := { s2.sup with scan := true } }
    else
      let s3 := (s2.setUnits [0x35, 0x36, 0x37] stRunning).counterStore 1 1
      let s4 := s3.emit 0x11 0x1202 (s3.aon.resetKind + 65536 * (s3.counter 1 % 65536))
      let s5 := (s4.setUnit 0x0D (if s4.sparesLeft = 0 then stDegraded else stRunning)).recordScan o
      let s6 := if o.crystal then s5 else s5.loseCrystal
      let s7 := s6.tamperOffline
      let s8 := s7.emitIf o.testMode 0x22 0x1405 0
      let s9 := s8.chooseBank
      let cause := s9.aon.wake
      if cause = 0 || s9.sup.bootRom then s9
      else
        let s10 := (s9.wakeSaid cause).emitIf (cause == 2) 0x03 0x2002 s9.aon.rooster.st
        if cause ≤ 3 then s10.demand else s10

end Sys2Proof.Machine
end

