-- ==== Sys2Proof/Machine/Wake.lean ====
section
/-! DEFINITION. Wakes and Rooster's phases (R92, R95 to R99, R452): what the 32 kHz inputs do in each power mode. -/

namespace Sys2Proof.Machine

open Sys2Proof

/-- A wake (R99): from the gated mode the control domain comes back, from a mode without rails a cold start follows; parking under way is
abandoned (R454); causes 1 to 3 demand a full telegram. -/
def State.wake (s : State) (cause : Nat) : State :=
  if 2 ≤ s.aon.mode then s.resetTo 9 cause
  else
    let s1 := (s.ungate).parkAbandon
    if !s1.powered then { s1 with aon := { s1.aon with wake := cause } }
    else
      let s2 := s1.wakeSaid cause
      if cause ≤ 3 then s2.demand else s2

/-- An input may wake (R98). -/
def State.wakeEnabled (s : State) (n : Nat) : Bool := bit (s.obj 0x2030 1) n

/-- One assertion of WAKE_DOOR (R96, R99, R219): the mute ends, the wake, and an UNLOCK request. -/
def State.doorOnce (s : State) : State :=
  let t := (s.muteOff).wake 1
  if t.powered then t.policyRequest 1 1 else t

/-- One assertion of WAKE_RF (R96, R99, R243). -/
def State.rfOnce (s : State) : State :=
  match s.aon.rooster.poll, s.inAnswerWindow with
  | some p, true =>
    if p.presence then s.presenceHit
    else if s.aon.rooster.muted then s.pollHit
    else if 2 ≤ s.aon.mode then (s.pollHit).wake 2
    else ((s.ungate).pollHit).wake 2
  | _, _ => (s.muteOff).wake 3

/-- Repeats an effect. -/
def times (f : State → State) : Nat → State → State
  | 0, s => s
  | n + 1, s => times f n (f s)

/-- WAKE_DOOR (R98, R99). -/
def State.wakeDoor (s : State) (levels : List Bool) : State :=
  let r := s.aon.doorIn.run (levels.map (fun v => v == s.objB 0x2030 2))
  let t : State := { s with aon := { s.aon with doorIn := r.1 } }
  if s.wakeEnabled 0 then times State.doorOnce r.2 t else t

/-- WAKE_RF (R98, R99). -/
def State.wakeRf (s : State) (levels : List Bool) : State :=
  let r := s.aon.rfIn.run (levels.map (fun v => v == s.objB 0x2030 4))
  let t : State := { s with aon := { s.aon with rfIn := r.1 } }
  if s.wakeEnabled 1 then times State.rfOnce r.2 t else t

/-- CAN_WAKE (R98): a low level while CAN_STB is high. -/
def State.canWake (s : State) (bus : Nat) (levels : List Bool) : State :=
  let stb := s.canStb
  let input := if bus = 0 then s.aon.can0In else s.aon.can1In
  let r := input.run (levels.map (fun v => !v && stb))
  let t : State := if bus = 0 then { s with aon := { s.aon with can0In := r.1 } } else { s with aon := { s.aon with can1In := r.1 } }
  let once := fun (u : State) => (u.muteOff).wake (4 + bus % 2)
  if s.wakeEnabled (2 + bus % 2) then times once r.2 t else t

/-- The parked mode follows Rooster's state (R452). -/
def State.followPhase (s : State) : State :=
  let m := s.parkMode
  if s.aon.mode = 0 || s.aon.mode = m then s
  else if m = 1 then { s with aon := { s.aon with mode := 1 } }
  else s.railsOff m

/-- POLL_PHASE (R92, R452): the next phase begins. -/
def State.pollPhase (s : State) : State :=
  let r := s.aon.rooster
  let p := phaseOf s.sinceLock
  if r.st = 0 || 4 < r.st || p ≤ r.st || s.pollStop ≤ s.sinceLock then s
  else (({ s with aon := { s.aon with rooster := { r with st := p } } }).emit 0x03 0x2003 p).followPhase

/-- POLLING_STOPPED (R95, R452): deep standby. -/
def State.pollingStopped (s : State) : State :=
  let r := s.aon.rooster
  if r.st = 0 || 4 < r.st || s.sinceLock < s.pollStop then s
  else (({ s with aon := { s.aon with rooster := { r with st := 5 } } }).emit 0x03 0x2004 (s.sinceLock / hourNs % 65536)).followPhase

/-- GROUP_POLL_END (R89, R102): the poll's check byte has ended; its answer window runs from here. -/
def State.groupPollEnd (s : State) : State :=
  match s.aon.rooster.poll with
  | some p => if s.aon.clock < p.start + pollNs then s else { s with aon := { s.aon with rooster := { s.aon.rooster with poll := some { p with start := s.aon.clock - pollNs } } } }
  | none => s

/-- POLL_ANSWER_WINDOW_END (R91, R243). -/
def State.windowOver (s : State) : State :=
  let t := s.answerEnd
  if s.aon.rooster.poll.any (fun p => p.presence) && t.aon.rooster.poll.isNone then t.presenceEnd else t

end Sys2Proof.Machine
end

