-- ==== Sys2Proof/Machine/Degrade.lean ====
section
/-! DEFINITION. Sheepdog's actions and the services (R459 to R467), and stopping and starting units (R19, R20, R32). -/

namespace Sys2Proof.Machine

open Sys2Proof

/-- The lane of a receive lane's or signal engine's source (R460, R466). -/
def laneOf (n : Nat) : Nat := if n = 6 then 0 else if n ≤ 5 then n - 3 else n - 9

/-- A lane is EXCLUDED (R151, R466). -/
def State.excludeLane (s : State) (n : Nat) : State := (s.setLane n 5).lanesState

/-- The lasting fault of the trust pair (R463, R192, R247, R263). -/
def State.loseTrust (s : State) : State :=
  let s1 := (s.setUnit 0x20 stFailed).policyTrustLost
  (s1.endSessions (fun _ => true) 5).tagTrustLost

/-- The lasting fault of the vehicle pair (R465): a SHEEPDOG reset, or within 1 h of one the device keeps running without the pair. -/
def State.loseVehicle (s : State) : State :=
  if s.aon.history.any (fun t => decide (s.aon.clock < t + 3600 * secNs)) then
    let s1 := s.setUnits vehicleUnits stFailed
    { s1 with sup := { s1.sup with vehicleLost := true }, phy := { s1.phy with rx := none }, lf := { s1.lf with tele := none, waiting := 0 } }
  else
    ({ s with aon := { s.aon with history := (s.aon.history ++ [s.aon.clock]) } }).resetTo 4 0

/-- The action of a source that has turned lasting (R460). -/
def State.act (s : State) (n : Nat) : State :=
  if n = 0x01 then s.loseTrust
  else if n = 0x02 then s.loseVehicle
  else if n ≤ 0x06 then (s.setUnit (0x2A + (n - 3)) stFailed).excludeLane (laneOf n)
  else if n ≤ 0x08 then s
  else if n ≤ 0x0B then s.excludeLane (laneOf n)
  else if n = 0x0C then s.lanesState
  else if n ≤ 0x12 then s.lfState
  else if n = 0x13 then s.setUnit 0x06 stFailed
  else if n = 0x14 then { s with tagd := { s.tagd with harv := false } }
  else if n = 0x15 then s
  else if n = 0x16 then s.setUnit 0x0A stFailed
  else if n = 0x19 then s.setUnit 0x0D stDegraded
  else if n = 0x1E then
    let s1 : State := { s with bell := { s.bell with slaveOnly := true } }
    if s.bell.st = 3 then s1.bellListen else s1
  else s

/-- The actions that this step owes (R459). -/
def State.takeActs (s : State) : State :=
  match s.sup.acts with
  | [] => s
  | l => l.foldl (fun (t : State) n => t.act n) { s with sup := { s.sup with acts := [] } }

/-- Whether a request of a code resolves only as REFUSED (R464, R218, R244, R470). -/
def State.onlyRefused (s : State) (code : Nat) : Bool :=
  s.trustLost || s.rr.lifecycle == lcReturned || s.loc.level == 0 || (s.loc.level == 3 && !s.degradedServes code) ||
  (code == rqStart && s.outputsOut)

/-- The mask of services lost (R464). -/
def State.servicesLost (s : State) : Nat :=
  let sign := s.trustLost || !s.pkOk
  let bits : List Bool := [
    s.onlyRefused rqUnlock,
    s.onlyRefused rqStart,
    s.unitState 0x04 == stFailed || s.unitState 0x04 == stStopped || s.trustLost,
    !s.angleOk,
    sign || ((s.slot 48).ty == 0 && (s.slot 49).ty == 0),
    sign || !s.cipherOk,
    s.jr.st == 0 || s.jr.st == 1 || s.jr.st == 4,
    sign || (s.slot 48).ty == 0 || s.rr.lifecycle == lcReturned,
    s.ownState 0x2E == stFailed || s.can0.st == 4 || s.can0.st == 5,
    s.ownState 0x2F == stFailed || s.can1.st == 4 || s.can1.st == 5,
    !s.bell.valid,
    s.dist.link != 2,
    s.rng.standardStopped || s.rng.fatal,
    s.ownState 0x23 == stFailed,
    s.conservative]
  bits.foldr (fun b a => b2n b + 2 * a) 0

/-- The root service level of a mask (R464). -/
def levelOfMask (m : Nat) : Nat := if m = 0 then 0 else if bit m 1 then 2 else 1

/-- The services are published (R464) once step 6 is complete. -/
def State.publish (s : State) : State :=
  if s.sup.step6.isNone then s
  else
    let m := s.servicesLost
    let l := levelOfMask m
    if m = s.sup.lost && l = s.sup.level then s
    else { s with sup := { s.sup with lost := m, level := l } }.emit 0x35 0x1304 (m + 65536 * l)

/-- What waits meets a new service level (R220, R244): refused where the level answers its code with REFUSED only; a telegram is demanded for what was
asked at LF_ONLY. -/
def State.levelMeets (s : State) (old : Nat) : State :=
  let no := s.pol.pend.filter (fun q => s.loc.level == 0 || (s.loc.level == 3 && !s.degradedServes q.code))
  let t := no.foldl (fun (u : State) q => (u.unpend q.code).refuse 5 q.src) s
  if old = 3 && t.loc.level != 0 && !t.pol.pend.isEmpty then t.demand else t

/-- The locator's service level follows its inputs (R218). -/
def State.followLevel (s : State) : State :=
  if !s.serving 0x05 || s.levelNow = s.loc.level then s
  else ({ s with loc := { s.loc with level := s.levelNow } }.emit 0x05 0x2803 s.levelNow).levelMeets s.loc.level

/-- The ranging group fails with channel 7 of the generator (R332), and sessions end while it cannot range (R192). -/
def State.followRanging (s0 : State) : State :=
  let s := if s0.rngStopped 7 && s0.ownState 0x04 != stFailed then s0.lanesState else s0
  if s.rangingOk || !s.cx.rows.any (fun e => e.2.st == 3) then s else s.endSessions (fun _ => true) 6

/-- Step 6 of R32 completes; a door wake that began the cold start then asks for UNLOCK (R219). -/
def State.stepSix (s : State) : State :=
  if s.sup.step6.isSome || !s.serving 0x21 || ([0x03, 0x05, 0x06, 0x08, 0x25] : List Nat).any (fun u => s.ownState u == stStarting) then s
  else
    let s1 : State := { s with sup := { s.sup with step6 := some s.now }, aon := { s.aon with wake := 0 } }
    if s.aon.wake = 1 then s1.policyRequest 1 1 else s1

/-- FAULT_ENDED (R459, R460): the timed end condition of a lasting fault is met. -/
def State.faultEnded (s : State) (n : Nat) : State :=
  let quiet := fun (sec : Nat) => decide ((s.src n).quiet + sec * secNs ≤ s.now)
  let met :=
    if n = 0x07 then quiet 600
    else if n = 0x1A then s.jr.st == 3
    else if n = 0x1B then s.dist.link == 2 && decide (s.dist.authSince + 600 * secNs ≤ s.now)
    else if n = 0x1C || n = 0x1D then quiet 600
    else false
  if s.powered && met then s.endFault n else s

/-- CLEAR_SUMMARY (R462, R17). -/
def State.clearSummary (s : State) (uid : Nat) : State × Nat :=
  if (unitFind uid).isNone then (s, abRange)
  else ({ s with sticky := s.sticky.filter (fun e => !(unitAll uid).contains e.1) }, abOk)

/-- CLEAR_SOURCE (R462). -/
def State.clearSource (s : State) (role n : Nat) : State × Nat :=
  if role = roleH && n = 1 then (s, abRole)
  else
    let st := s.srcState n
    if st = 2 then (if 0x0D ≤ n ∧ n ≤ 0x12 then ((s.endFault n).lfState, abOk) else (s, abSequence))
    else if st = 1 then (s.setSrc n { s.src n with st := 0, times := [] }, abOk)
    else (s, abOk)

/-- The oldest entry of the fault entry queue in its 12 bytes (R508). -/
def FaultEntry.bytes (e : FaultEntry) : Bytes := leBytes 2 e.src ++ leBytes 2 e.unit ++ leBytes 4 e.code ++ leBytes 4 e.ms

/-- Units that no role can stop (R20). -/
def unstoppable (uid : Nat) : Bool :=
  uid == 0 || unitWithin 0x01 uid || uid == 0x0C || uid == 0x0D || unitWithin 0x11 uid || uid == 0x24 || uid == 0x12

/-- One unit stops (R19). -/
def State.stopOne (s : State) (u : Nat) : State :=
  let st := s.ownState u
  if isGroup u || st == stOff || st == stFailed || st == stStopped then s
  else if u = 0x2E then s.canStop 0
  else if u = 0x2F then s.canStop 1
  else if u = 0x03 then { s with lf := { s.lf with tele := none, waiting := 0 } }.setUnit u stStopped
  else if u = 0x25 then { s with phy := { s.phy with rx := none } }.setUnit u stStopped
  else if u = 0x0B then s.rngStartUp.setUnit u stStopped
  else if u = 0x33 then s.linkStop.setUnit u stStopped
  else if u = 0x34 then s.gnssStop.setUnit u stStopped
  else if u = 0x30 then ({ s.bellValid false with bell := { (s.bellValid false).bell with st := 0 } }).setUnit u stStopped
  else s.setUnit u stStopped

/-- UNIT_STOP (R19, R20, R283): the deepest first. A group that holds a unit which cannot be stopped cannot be stopped either. -/
def State.unitStop (s : State) (uid : Nat) : State × Nat :=
  if (unitAll uid).any unstoppable then (s, abRole)
  else if uid = 0x08 && s.rr.lifecycle != lcFactory then (s, abRole)
  else ((unitAll uid).reverse.foldl (fun (t : State) u => t.stopOne u) s, abOk)

/-- UNIT_START (R19, R282): the shallowest first; each unit then completes its start-up. -/
def State.unitStart (s : State) (uid : Nat) : State × Nat :=
  let p := unitParent uid
  if uid = 0x08 && s.rr.tag.killed then (s, abRole)
  else if (unitFind p).isSome && s.unitState p == stStopped then (s, abSequence)
  else ((unitAll uid).foldl (fun (t : State) u => if !isGroup u && t.ownState u == stStopped then t.setUnit u stStarting else t) s, abOk)

/-- The units that a unit's start-up waits for (R32): the spine of the earlier steps. -/
def startAfter (uid : Nat) : List Nat :=
  if uid = 0x20 then [0x0D, 0x22]
  else if uid = 0x0C || uid = 0x0B then [0x20]
  else if uid = 0x09 || uid = 0x0A then [0x0C]
  else if uid = 0x23 then [0x20, 0x0C]
  else if uid = 0x24 then [0x23]
  else if uid = 0x12 then [0x24]
  else if uid = 0x21 || uid = 0x07 || uid = 0x0E || (0x2E ≤ uid && uid ≤ 0x34) then [0x24, 0x12]
  else [0x21, 0x07]

/-- A unit may begin its start-up (R32). -/
def State.mayStart (s : State) (uid : Nat) : Bool :=
  s.powered && !s.sup.bootRom && s.ownState uid == stStarting && (startAfter uid).all (fun u => s.serving u)

/-- A controller's turn in step 5 of R32, or after UNIT_START (R439): at a boot it starts where its start-at-boot object is set. -/
def State.canStartUp (s : State) (bus : Nat) : State :=
  if (s.ctl bus).st ≠ 0 then s
  else if (kvGet? s.us (canUnit bus)).isNone && s.obj (0x4101 + 0x100 * bus) 0x01 == 0 then s.setUnit (canUnit bus) stStopped
  else s.canStart bus

/-- UNIT_START_UP (R32): a unit completes its start-up. The ranging group, the journal store, the generator and the CAN controllers leave
STARTING at commands of their own. -/
def State.startUp (s : State) (uid : Nat) (o : StartObs) : State :=
  if !s.mayStart uid then s
  else if uid = 0x20 then s.setUnit uid (if s.trustLost then stFailed else stRunning)
  else if uid = 0x0C then s.keyStart o.fails
  else if uid = 0x09 then s.cipherStart o.fails
  else if uid = 0x0A then s.pkStart o.kat
  else if uid = 0x12 then { s with host := { s.host with idleFrom := s.now } }.setUnit uid stRunning
  else if uid = 0x21 then s.policyStart
  else if uid = 0x2E then s.canStartUp 0
  else if uid = 0x2F then s.canStartUp 1
  else if uid = 0x30 then (if s.serving (canUnit (s.obj 0x4301 0x02)) then s.bellStart else s)
  else if uid = 0x31 then s.timersStart.setUnit uid stRunning
  else if uid = 0x34 then (s.setTimer 6 (Timer.free s.pclk)).setUnit uid stRunning
  else if uid = 0x32 then s.schedStart.setUnit uid stRunning
  else if uid = 0x33 then s.distStart.setUnit uid stRunning
  else if uid = 0x03 then s.lfStart o.words
  else if uid = 0x08 then s.tagStart
  else if uid = 0x06 then s.setUnit uid (if s.lasting 0x13 then stFailed else stRunning)
  else if uid = 0x0B || uid = 0x0E || rangingUnits.contains uid || isGroup uid then s
  else s.setUnit uid stRunning

end Sys2Proof.Machine
end

