-- ==== Sys2Proof/Machine/Flags.lean ====
section
/-! DEFINITION. The flags the manual derives from state: the fault summary of a unit (R17), the descriptor's state (R15, R16), the status word of the
host port (R49), and the levels of the interrupt and fault balls (R53, R456). -/

namespace Sys2Proof.Machine

open Sys2Proof

/-- Bits 0 to 6, 8 and 9 of a unit's own condition (R17, R152, R218, R245, R278, R342). -/
def State.ownFlags (s : State) (uid : Nat) : Nat :=
  let src := (List.range 31).filter (fun n => n != 0 && sourceUnit n == uid)
  let transient := src.any (fun n => s.srcState n == 1)
  let lasting := src.any (fun n => s.srcState n == 2)
  let degraded := if uid = 0x05 then s.serving 0x05 && s.loc.level != 1 else !isGroup uid && s.ownState uid == stDegraded
  let wait := s.fenced && (s.nv.deferred.any (fun o => o.unit == uid) || s.dict.commits.any (fun x => unitOf (x.key / 256) == uid) ||
    (uid == 0x08 && !s.tag.jobs.isEmpty))
  let hot := decide (0 < s.pol.gov) && (uid == 0x04 || uid == 0x07)
  b2n transient + 2 * b2n lasting + 4 * b2n degraded + (kvGet 0 s.sticky uid &&& 0x78) + 256 * b2n wait + 512 * b2n hot

/-- The fault summary of a unit; in a group the descendants' bits are joined, and bit 7 says that a child's summary is not zero. The first
argument bounds the depth. -/
def State.flagsGo (s : State) : Nat → Nat → Nat
  | 0, uid => s.ownFlags uid
  | f + 1, uid =>
    let cs := (unitChildren uid).map (s.flagsGo f)
    cs.foldl (fun a x => a ||| (x &&& 0x37F)) (s.ownFlags uid) ||| (if cs.any (· != 0) then 0x80 else 0)

/-- The fault summary of a unit (R17). -/
def State.faultSummary (s : State) (uid : Nat) : Nat := s.flagsGo 4 uid

/-- EVENT_PENDING (R49, R75). -/
def State.eventPending (s : State) : Bool := s.evq.any (fun e => bit (s.obj 0x1180 3) (e.code / 4096))

/-- READY (R53): the host port serves and holds no request. -/
def State.hostReady (s : State) : Bool := s.powered && (s.serving 0x12 || s.sup.bootRom) && !s.host.busy && !s.host.avail

/-- The status word that every transaction shifts out first (R49). -/
def State.hostStatus (s : State) : Nat :=
  32768 * b2n s.hostReady + 16384 * b2n s.host.avail + 8192 * b2n s.eventPending + 4096 * b2n s.host.crcErr + 2048 * b2n (s.host.newData != 0) +
  16 * s.unitState 0

/-- HS_IRQ_N is low (R53). -/
def State.hostIrq (s : State) : Bool := (s.host.avail && s.objB 0x5010 3) || s.eventPending

/-- FAULT_N is low (R456, R459): a reset is held or a lasting fault is. -/
def State.faultN (s : State) : Bool := s.sup.held || s.sup.srcs.any (fun e => e.2.st == 2)

end Sys2Proof.Machine
end

