-- ==== Sys2Proof/Machine/Readers.lean ====
section
/-! DEFINITION. What every object of the dictionary reads as (the object tables of all chapters), and the reads that change state (R74, R384, R428,
R429, R508, R309, R328). An object that no list here names reads its stored value. -/

namespace Sys2Proof.Machine

open Sys2Proof

/-- Values of consecutive subindices from the first. -/
def subsFrom (lo : Nat) (l : List Nat) : List (Nat × Nat) := (List.range l.length).zip l |>.map (fun e => (lo + e.1, e.2))

/-- A truth value of a list of flags per entry. -/
def perSub (n : Nat) (f : Nat → Nat) : List (Nat × Nat) := (List.range n).map (fun k => (k + 1, f k))

/-- A unit's descriptor (R14). -/
def State.readDescriptor (s : State) (u : UnitDef) : List (Nat × Nat) :=
  let cs := unitChildren u.id
  subsFrom 1 [u.id, u.parent, u.kind, s.unitState u.id, s.faultSummary u.id, cs.length, cs.headD 0xFFFF]

/-- Indices 0x1001 to 0x14FF: root, dictionary, supervision, faults, lifecycle and tamper (R18, R46, R75, R475 to R477). -/
def State.readRoot (s : State) (c : Client) (ix : Nat) : List (Nat × Nat) :=
  let x := s.ctx c
  if ix = 0x1001 then perSub 0x38 (fun k => ((unitFind k).map (·.base)).getD 0)
  else if ix = 0x1002 then [(4, s.bankRelease s.sup.running), (5, leNat serialBytes), (6, s.rr.vehicleId)]
  else if ix = 0x1102 then subsFrom 1 [s.dict.completed, s.dict.aborts, s.dict.tagFails, s.dict.segTimeouts, s.dict.opened]
  else if ix = 0x1110 then [(1, s.role c), (3, leNat x.devNonce), (5, leNat x.devEph), (9, x.st), (0xA, x.ctr)]
  else if ix = 0x1180 then [(1, s.evq.length), (2, s.evLost)]
  else if ix = 0x1181 then [(1, leNat ((s.evq.head?.map (·.bytes)).getD []))]
  else if ix = 0x1201 then [(1, s.aon.mode)]
  else if ix = 0x1210 then [(1, s.aon.resetKind), (2, s.counter 1)]
  else if ix = 0x1281 then subsFrom 1 (s.sup.rails ++ s.sup.dipMin ++ [s.sup.dips])
  else if ix = 0x1282 then subsFrom 1 [b2n s.sup.rc, s.sup.xtalLosses, s.aon.trim]
  else if ix = 0x1283 then subsFrom 1 (twos 16 (tjOf s.sup.tj) :: s.sup.tj.map (twos 16) ++ [s.sup.glitches])
  else if ix = 0x1301 then subsFrom 1 [s.sup.level, s.sup.lost]
  else if ix = 0x1311 then perSub 0x1E (fun k => min (s.srcCount (k + 1)) 255)
  else if ix = 0x1312 then perSub 0x1E (fun k => s.srcState (k + 1))
  else if ix = 0x1313 then perSub 0x1E (fun k => (s.src (k + 1)).total)
  else if ix = 0x1320 then [(1, leNat ((s.sup.faults.head?.map (·.bytes)).getD []))]
  else if ix = 0x1401 then [(1, s.rr.lifecycle)]
  else if ix = 0x1410 then subsFrom 1 [s.rr.active, s.sup.running, b2n s.sup.trial, s.rr.floor, s.bankRelease 0, s.bankRelease 1]
  else if ix = 0x1420 then [(2, s.sup.update)]
  else if ix = 0x1481 then [(1, s.aon.latches)]
  else []

/-- Indices 0x2010 to 0x2030: the LF field controller (R108). -/
def State.readLf (s : State) (ix : Nat) : List (Nat × Nat) :=
  let r := s.aon.rooster
  if ix = 0x2014 then perSub 6 s.antStatus
  else if ix = 0x2015 then perSub 3 (fun k => (nth ({} : Chip) s.lf.chips k).status)
  else if ix = 0x2020 then [(3, 150 + 500 * 2 ^ 16 + 1000 * 2 ^ 32 + 2000 * 2 ^ 48)]
  else if ix = 0x2021 then
    subsFrom 1 [r.st, s.sinceLock / secNs, s.lf.toneStep, b2n r.muted, r.polls, r.skipped, r.pollHits, s.lf.telegrams, s.lf.counter]
  else if ix = 0x2030 then [(5, s.lf.lastWake), (6, s.lf.wakes)]
  else []

/-- A lane report as it reads (R154). -/
def LaneReport.values (r : LaneReport) : List Nat :=
  [r.ts, twos 16 r.half, twos 16 r.fpp, twos 16 r.rxp, twos 16 r.noise, twos 16 r.snr, twos 16 r.pfr, r.lqf, twos 16 r.phase, r.flags]

/-- Indices 0x2401 to 0x2605: the ranging group (R154). -/
def State.readPhy (s : State) (ix : Nat) : List (Nat × Nat) :=
  let p := s.phy
  let lane := fun (k : Nat) => nth ({} : Lane) p.lanes k
  let fe := fun (k : Nat) => nth ({} : FrontEnd) p.fes k
  if ix = 0x2401 then [(5, p.chan), (6, p.changes)]
  else if ix = 0x2411 then perSub 4 (fun k => (lane k).state)
  else if ix = 0x2412 then perSub 4 (fun k => (lane k).codeErrs)
  else if ix = 0x2413 then perSub 4 (fun k => (lane k).realigns)
  else if ix = 0x2414 then perSub 3 (nth 0 p.sat)
  else if ix = 0x2415 then [(1, s.sampleAt s.now % 2 ^ 48)]
  else if ix = 0x2442 then perSub 3 (fun k => twos 16 (nth 0 p.floors k))
  else if ix = 0x2443 then subsFrom 1 [p.correlated, p.halfFails, p.preMis, p.sfdTimeouts]
  else if 0x2444 ≤ ix ∧ ix ≤ 0x2446 then subsFrom 1 (nth ({} : LaneReport) p.reports (ix - 0x2444)).values
  else if ix = 0x2481 then subsFrom 1 [p.detected, p.sfdB, p.hdrFails, p.payFails, p.trackLost, p.verRejects]
  else if ix = 0x2482 then subsFrom 1 [twos 32 p.co, twos 32 p.carrier, p.evm, p.reenc, p.payLen, p.frameChan]
  else if ix = 0x24C1 then perSub 3 (fun k => (fe k).id)
  else if ix = 0x24C2 then subsFrom 1 ((List.range 3).map (fun k => (fe k).status) ++ (List.range 3).map (fun k => twos 16 (fe k).temp))
  else if ix = 0x2511 ∨ ix = 0x2521 ∨ ix = 0x2531 ∨ ix = 0x2541 then
    let n := (ix - 0x2511) / 16
    subsFrom 1 [s.bankRelease s.sup.running, nth 0 p.seLoad n, nth 0 p.seEcc n]
  else if ix = 0x2605 then [(7, p.calStatus), (8, p.calSpread)]
  else []

/-- A value of a client's row snapshot (R173); a row that was FREE reads the defaults. -/
def State.snapRow (s : State) (c : Client) (ix : Nat) : List (Nat × Nat) :=
  ((s.ctx c).rowSnap.vals.filter (fun e => e.1 / 256 == ix)).map (fun e => (e.1 % 256, e.2))

/-- Indices 0x2C01 to 0x2C31: the context table (R198). -/
def State.readCtx (s : State) (c : Client) (ix : Nat) : List (Nat × Nat) :=
  let x := s.cx
  if ix = 0x2C01 then
    subsFrom 1 [x.rows.length, s.countRows (fun r => r.st == 3), s.countRows (fun r => r.st == 4), s.countRows (fun r => r.st == 5),
      leNat ((x.ep.map (·.nonce)).getD []), s.epochAge, x.lastRound]
  else if ix = 0x2C02 then
    subsFrom 1 [x.delivered, x.valid, x.discarded, x.collided, x.invalid, x.rounds, x.macFails, x.evictions, x.dropped]
  else if ix = 0x2C04 then [(3, x.slotCode)]
  else if ix = 0x2C05 then subsFrom 1 [8, 9, 10, 11]
  else if ix = 0x2C06 then perSub 17 s.binRead
  else if ix = 0x2C08 then [(1, s.cval c 0x2C08 1), (2, (s.ctx c).rowSnap.ms)]
  else if ix = 0x2C10 then s.snapRow c 0x2C10
  else if ix = 0x2C21 then perSub 128 (fun e => leNat (kvGet ([], 0) s.rr.paired e).1)
  else if ix = 0x2C22 then perSub 128 (fun e => (kvGet ([], 0) s.rr.paired e).2)
  else if ix = 0x2C23 then [(3, leNat s.rr.pairRec)]
  else if ix = 0x2C30 then [(5, b2n x.coupled), (6, leNat x.peerId), (8, leNat s.coupledTractor)]
  else if ix = 0x2C31 then perSub 4 (fun n => leNat (kvGet ({} : Tractor) s.rr.tractors n).vid)
  else []

/-- Indices 0x2801 to 0x2A31: locator, policy and start-lock outputs (R251 to R253). -/
def State.readEntry (s : State) (c : Client) (ix : Nat) : List (Nat × Nat) :=
  let l := s.loc
  let m := s.rr.map
  let p := s.pol
  if ix = 0x2801 then subsFrom 1 [l.level, l.located, l.suspect, l.nlos, l.weak, l.insufficient, l.fusion]
  else if ix = 0x2811 then
    subsFrom 1 [mapU32 m 8, mapUsed m, if m.isEmpty then 0 else mapU32 m (mapUsed m - 4),
      if s.rr.mapWaits then 2 else if m.isEmpty then 0 else 1, l.cause, mapU8 m 36]
  else if ix = 0x2821 then s.snapRow c 0x2821
  else if ix = 0x2904 then subsFrom 1 [p.gov, twos 16 p.tj, p.govChanges]
  else if ix = 0x2905 then
    subsFrom 1 [b2n p.locked, p.decisions, p.refusals, (p.tokens.filter (fun t => t.till.isSome)).length,
      p.bins.foldl (fun a b => a ||| 2 ^ b.1) 0]
  else if ix = 0x2906 then subsFrom 1 [p.driver, p.driver2, s.bindFlags]
  else if ix = 0x2A11 then subsFrom 1 [s.counter 1 % 2 ^ 32, p.messages]
  else if ix = 0x2A22 then [(6, b2n p.engine)]
  else if ix = 0x2A30 then subsFrom 1 [p.outcome, p.cause, p.cls, p.zone, p.row, p.row2, p.flags, p.decMs, p.src]
  else if ix = 0x2A31 then subsFrom 1 [p.out, s.validity, p.outFaults, p.releases]
  else []

/-- Indices 0x3001 to 0x3050: the tag engine (R287). -/
def State.readTag (s : State) (ix : Nat) : List (Nat × Nat) :=
  let d := s.tagd
  let a := s.tag
  let m := s.rr.tag
  if ix = 0x3001 then subsFrom 1 [b2n m.killed, b2n d.uhf + 2 * b2n d.hf, d.vtag]
  else if ix = 0x3002 then subsFrom 1 [a.cmds, a.writes, a.power, a.busy, a.unrecorded, a.enf, a.absorbed]
  else if ix = 0x3011 then subsFrom 1 [leNat (tidHeader.take 4), leNat hfUid]
  else if ix = 0x3021 then [(4, m.locks)]
  else if ix = 0x3030 then [(4, m.counter), (5, m.newest.getD 0xFF), (6, m.status)]
  else if ix = 0x3050 then [(3, a.overloads)]
  else []

/-- Indices 0x3401 to 0x3733: key store, cipher engine, public-key engine and generator (R318 to R320, R336). -/
def State.readCrypto (s : State) (c : Client) (ix : Nat) : List (Nat × Nat) :=
  let e := s.cipher
  let k := s.pk
  let r := s.rng
  if ix = 0x3701 then subsFrom 1 [s.slotsInUse, s.workingKeys, s.ks.zeroizes, s.ks.integrity]
  else if ix = 0x3702 then [(1, s.cval c 0x3702 1), (2, (s.ctx c).slotMs)]
  else if ix = 0x3710 then ((s.ctx c).slotVals.filter (fun q => q.1 / 256 == 0x3710)).map (fun q => (q.1 % 256, q.2))
  else if ix = 0x3720 then [(1, s.cval c ix 1), (2, s.cval c ix 2), (3, s.cval c ix 3), (4, s.cval c ix 4), (7, (s.ctx c).keyOutcome)]
  else if ix = 0x3733 then subsFrom 1 [s.ks.cause, s.ks.accepted, s.ks.rejected]
  else if ix = 0x3401 then
    subsFrom 1 [4 - ((List.range 4).filter (bit e.excluded)).length, e.completed, e.authFails, e.revoked]
  else if ix = 0x3412 then
    [(2, e.st), (3, e.result), (4, e.out.length), (5, leNat e.out), (6, leNat e.tagOut), (7, e.gen), (8, e.flags)]
  else if ix = 0x3501 then subsFrom 1 [k.completed, k.faults]
  else if ix = 0x3512 then [(2, k.st), (3, k.result), (4, leNat k.sigOut), (5, leNat k.digest), (6, k.gen)]
  else if ix = 0x3601 then
    subsFrom 1 [r.st, (r.failTimes.filter (fun t => decide (s.now < t + 10 * secNs))).length, r.lastTest, r.lastSrc]
  else if ix = 0x3602 then subsFrom 1 [r.released, r.discarded, r.failures, r.restarts]
  else if ix = 0x3603 then perSub 4 (nth 0 r.freq)
  else if ix = 0x3610 then perSub 8 s.rngChState
  else if ix = 0x3611 then perSub 8 (nth 0 r.delivered)
  else if ix = 0x3620 then [(1, leNat r.read)]
  else if ix = 0x3630 then [(3, r.testFails), (4, if s.rr.lifecycle = lcFactory then leNat r.raw else 0), (5, leNat r.testOut)]
  else []

/-- The state code of a counter (R374). -/
def Counter.code (k : Counter) : Nat := if k.exhausted || 120 < k.retired.length then 2 else if 25600000 ≤ k.writes then 1 else 0

/-- Usable capacity of the medium in MiB (R355, R375). -/
def State.nandCapacity (s : State) : Nat := (s.nandTotal - s.rr.badBlocks.length) * 64 * s.nandPage / 2 ^ 20

/-- Indices 0x3801 to 0x3A20: non-volatile store and journal (R374, R375). -/
def State.readStore (s : State) (c : Client) (ix : Nat) : List (Nat × Nat) :=
  let n := s.nv
  let j := s.jr
  let x := s.ctx c
  if ix = 0x3801 then
    subsFrom 1 [s.sparesLeft, s.rr.remapped.length, n.corrected, n.uncorrectable, n.failures, b2n s.fenced, n.fences, n.deferred.length, n.lastFence]
  else if ix = 0x3802 then
    subsFrom 1 [s.rr.param.b0.free (areaSize 0) / 64, s.rr.param.b1.free (areaSize 0) / 64, n.compactions, n.conflicts, n.repaired, n.lost, s.rr.param.seq]
  else if ix = 0x3810 then perSub 64 s.counter
  else if ix = 0x3812 then perSub 64 (fun k => (kvGet ({} : Counter) s.rr.ctrs k).writes)
  else if ix = 0x3813 then perSub 64 (fun k => (kvGet ({} : Counter) s.rr.ctrs k).code)
  else if ix = 0x3A02 then
    subsFrom 1 [j.st, s.rr.oldest, j.programmed, j.next - 1, j.tailBytes, s.rr.badBlocks.length, j.dropped, j.discarded, s.rr.wraps, j.lastChk,
      leNat j.nandId, if j.st = 0 then 0 else min s.nandCapacity 8192]
  else if ix = 0x3A20 then [(1, s.cval c ix 1), (2, s.cval c ix 2), (4, x.expLen), (5, x.expFirst), (6, x.expLast), (7, x.expState)]
  else []

/-- The basis valid mask (R403). -/
def State.basisMask (s : State) : Nat := 3 + 4 * b2n s.bell.valid + 8 * b2n (s.timeSource == 1)

/-- Indices 0x4401 to 0x4882: timers, distance, scheduler, motion sensor and GNSS (R409 to R411). -/
def State.readTime (s : State) (ix : Nat) : List (Nat × Nat) :=
  let d := s.dist
  let g := s.gnss
  if ix = 0x4401 then subsFrom 1 [s.ms, b2n s.sup.rc]
  else if ix = 0x4410 then subsFrom 1 [s.distance, d.pulses, d.speed]
  else if ix = 0x4412 then subsFrom 1 [s.aon.acc, d.parked, d.source]
  else if 0x4510 ≤ ix ∧ ix ≤ 0x4517 then
    let t := (s.timer (ix - 0x4510)).promote s.pclk
    [(3, t.count s.pclk), (4, t.cmp), (5, t.capture), (7, t.status), (0xC, t.matches_), (0xD, t.ovfs)]
  else if ix = 0x4601 then subsFrom 1 [s.netTime / 1000, s.utcMs, s.timeSource, s.basisMask]
  else if 0x4610 ≤ ix ∧ ix ≤ 0x4627 then
    let e := kvGet ({} : SchedEntry) s.sched.es (ix - 0x4610)
    [(7, e.next.getD 0), (8, e.fired), (9, e.skipped)]
  else if ix = 0x4802 then [(2, d.link), (4, d.status), (5, d.macFails), (6, s.msMismatch)]
  else if ix = 0x4803 then [(1, s.rr.tamper)]
  else if ix = 0x4882 then
    subsFrom 1 [b2n g.valid, twos 32 g.lat, twos 32 g.lon, g.speed, g.sats, g.rejected]
  else []

/-- Identifiers that a controller keeps for the device (R425). -/
def State.reservedIds (s : State) (bus : Nat) : List Nat :=
  [if bit (s.obj 0x1101 1) bus then 2 ^ 29 + s.obj 0x1101 2 else 0,
   if s.objB 0x2A21 3 && bit (s.obj 0x2A21 2) bus then s.obj 0x2A21 1 else 0,
   if s.obj 0x2A22 1 = 1 then s.obj 0x2A22 2 else 0,
   if s.bellObj 1 ≠ 0 && s.bellBus == bus then s.bellObj 3 else 0, 0, 0, 0, 0]

/-- Indices 0x4001 to 0x4302: the CAN unit (R441, R442). -/
def State.readCan (s : State) (ix : Nat) : List (Nat × Nat) :=
  let bus := if 0x4200 ≤ ix then 1 else 0
  let x := s.ctl bus
  let i := ix - 0x100 * bus
  let b := s.bell
  if ix = 0x4001 then subsFrom 1 [b2n s.canStb, s.can0.queue.length + 256 * s.can1.queue.length]
  else if ix = 0x4302 then
    subsFrom 1 [b.st, s.netTime, b2n (b.valid && b.utc), twos 32 s.bellRate, b.seq, b.refs, b.rejected, b.steps, b.seen]
  else if 0x4300 ≤ ix then []
  else if i = 0x4101 then [(0x12, s.canRate bus), (0x13, if s.canFd bus then s.canDataRate bus else 0), (0x14, b2n (s.rcTolerant bus))]
  else if i = 0x4102 then subsFrom 1 [x.st, x.tec, x.rxErr, x.lastErr, x.tdc]
  else if i = 0x4103 then subsFrom 1 [x.rxd, x.sent, x.errors, x.busOffs, x.arbLost, x.drops, x.unfiltered]
  else if 0x4110 ≤ i ∧ i ≤ 0x4112 then
    let t := x.buf (i - 0x4110)
    [(6, t.st), (7, t.result), (8, t.sendTime)]
  else if i = 0x4123 then subsFrom 1 (s.reservedIds bus)
  else if i = 0x4130 then [(1, x.fifo.length), (2, x.drops), (3, leNat ((x.fifo.head?.map (·.bytes)).getD []))]
  else if i = 0x4131 then
    let y := x.hpPromote s.now
    [(1, y.hpStatus), (2, leNat ((y.hp.map (·.bytes)).getD []))]
  else []

/-- Indices 0x5011 to 0x5021: the host port (R59). -/
def State.readHost (s : State) (ix : Nat) : List (Nat × Nat) :=
  if ix = 0x5011 then subsFrom 1 [s.host.accepted, s.host.crcErrs, s.host.repeated]
  else if ix = 0x5021 then [(2, 2 + (s.host.map.map (fun e => ((((objFind (e.2 / 256) (e.2 % 256)).map (·.ty.len)).getD 1) + 1) / 2)).foldl (· + ·) 0)]
  else []

/-- Values of an index that do not stand in the store of objects, by subindex. -/
def State.readIx (s : State) (c : Client) (ix : Nat) : List (Nat × Nat) :=
  match unitOfBase ix with
  | some u => s.readDescriptor u
  | none =>
    if ix < 0x2000 then s.readRoot c ix
    else if ix < 0x2400 then s.readLf ix
    else if ix < 0x2800 then s.readPhy ix
    else if ix < 0x2C00 then s.readEntry c ix
    else if ix < 0x3000 then s.readCtx c ix
    else if ix < 0x3400 then s.readTag ix
    else if ix < 0x3800 then s.readCrypto c ix
    else if ix < 0x4000 then s.readStore c ix
    else if ix < 0x4400 then s.readCan ix
    else if ix < 0x5000 then s.readTime ix
    else s.readHost ix

/-- The highest subindex of an index (R36). -/
def topSub (ix : Nat) : Nat :=
  if (unitOfBase ix).isSome then 8 else objTop ix

/-- Length of an object on the wire; a descriptor's are those of R14. -/
def wireLen (ix sub : Nat) : Nat :=
  if sub = 0 then 1
  else if (unitOfBase ix).isSome then (if sub = 1 ∨ sub = 2 ∨ sub = 5 ∨ sub = 7 then 2 else 1)
  else ((objFind ix sub).map (·.ty.len)).getD 0

/-- The two STRING objects (R18). -/
def stringOf (ix sub : Nat) : Option Bytes :=
  if ix = 0x1002 ∧ sub = 1 then some (ascii "Tvedwin") else if ix = 0x1002 ∧ sub = 2 then some (ascii "KV8264") else none

/-- The present value of an object for a client as a number (R35). -/
def State.present (s : State) (c : Client) (ix sub : Nat) : Nat :=
  if sub = 0 then topSub ix
  else match kvGet? (s.readIx c ix) sub with
    | some v => v
    | none =>
      if ix = 0x3020 then s.cval c ix sub else s.obj ix sub

/-- The present value on the wire (R35, R36). -/
def State.presentBytes (s : State) (c : Client) (ix sub : Nat) : Bytes :=
  match stringOf ix sub with
  | some b => b
  | none => leBytes (wireLen ix sub) (s.present c ix sub)

/-- NEXT_EVENT (R74): the oldest entry leaves the queue. -/
def State.nextEvent (s : State) : State := { s with evq := s.evq.drop 1 }

/-- NEXT_FAULT_ENTRY (R508). -/
def State.nextFault (s : State) : State := { s with sup := { s.sup with faults := s.sup.faults.drop 1 } }

/-- NEXT_RECORD (R428): the oldest record leaves the FIFO. -/
def State.nextRecord (s : State) (bus : Nat) : State := s.setCtl bus { s.ctl bus with fifo := (s.ctl bus).fifo.drop 1 }

/-- HIGH_PRIORITY_RECORD (R429): the record is latched and NEW clears. -/
def State.hpRead (s : State) (bus : Nat) : State := s.setCtl bus { (s.ctl bus).hpPromote s.now with hpNew := false }

/-- CLEAR_OVERRUN (R429). -/
def State.clearOverrun (s : State) (bus : Nat) : State := s.setCtl bus { s.ctl bus with hpOver := false }

/-- What a read does beside answering (R74, R309, R320, R384, R428, R429, R508). -/
def State.readEffect (s : State) (c : Client) (ix sub : Nat) : State :=
  if ix = 0x1181 then s.nextEvent
  else if ix = 0x1320 then s.nextFault
  else if ix = 0x4130 ∨ ix = 0x4230 then (if sub = 3 then s.nextRecord (if ix = 0x4130 then 0 else 1) else s)
  else if ix = 0x4131 ∨ ix = 0x4231 then (if sub = 2 then s.hpRead (if ix = 0x4131 then 0 else 1) else s)
  else if 0x4510 ≤ ix ∧ ix ≤ 0x4517 then (if sub = 5 then s.captureRead (ix - 0x4510) else s)
  else if 0x3410 ≤ ix ∧ ix ≤ 0x3412 then s.cipherRead c (ix == 0x3412 && sub == 5)
  else if 0x3510 ≤ ix ∧ ix ≤ 0x3512 then s.pkRead c (ix == 0x3512 && (sub == 4 || sub == 5))
  else s

/-- A read of a whole object whose checks have passed: the state after it, the outcome and the value (R39). -/
def State.readObject (s : State) (c : Client) (ix sub : Nat) : State × (Nat × Bytes) :=
  if sub = 0 then (s, (abOk, [byte (topSub ix)]))
  else if ix = 0x3620 then
    let r := s.randomRead
    (r.1, (r.2, if r.2 = abOk then r.1.rng.read else []))
  else if ix = 0x3020 ∧ sub = 4 then s.windowRead c
  else (s.readEffect c ix sub, (abOk, s.presentBytes c ix sub))

/-- A read by a client with no transport of its own: the checks, the value, the answer (R39, R73). -/
def State.readRequest (s : State) (c : Client) (ix sub : Nat) : State :=
  let a := s.checkAccess c false ix sub 0
  if a ≠ 0 then s.answer c (key ix sub) a [] false
  else
    let r := s.readObject c ix sub
    r.1.answer c (key ix sub) r.2.1 r.2.2 true

end Sys2Proof.Machine
end

