-- ==== Sys2Proof/Machine/Session.lean ====
section
/-! DEFINITION. Role sessions (R40 to R45, R506): opening, proof, tags, closing. -/

namespace Sys2Proof.Machine

open Sys2Proof

/-- Event codes of R76 are the dictionary server's. -/
def State.dictEvent (s : State) (code param : Nat) : State := s.emit 0x24 code param

/-- A client's instance record with every per-client object but the session record at its default (R506). -/
def ClientCtx.fresh (x : ClientCtx) : ClientCtx :=
  { x with
    vals := [], wrapped := List.replicate 76 0, keyOutcome := 0, rowSnap := {}, slotMs := 0, slotVals := [], readSnap := none, stage := none,
    expLen := 0, expFirst := 0, expLast := 0, expState := 0 }

/-- What a session's opening or closing does beside the session record (R506): per-client objects, the export stream and the host job
interfaces. -/
def State.clientReset (s : State) (c : Client) : State :=
  let s1 := s.setCtx (s.ctx c).fresh
  let st := if s1.dict.stream.any (fun x => x.c == c) then none else s1.dict.stream
  { s1 with
    dict := { s1.dict with stream := st },
    cipher := { s1.cipher with holder := if s1.cipher.holder == some c then none else s1.cipher.holder },
    pk := { s1.pk with holder := if s1.pk.holder == some c then none else s1.pk.holder } }

/-- The session record of a client returns to NONE (R40, R44). -/
def ClientCtx.none_ (x : ClientCtx) : ClientCtx :=
  let z : ClientCtx := { c := x.c }
  { x with
    st := 0, role := 0, devNonce := z.devNonce, cliNonce := z.cliNonce, cliEph := z.cliEph, devEph := z.devEph, devPriv := 0, cred := [], ctr := 0,
    key := [], revoked := false, tagFails := 0, row := none, lapsed := false }

/-- The record returns to NONE with no session having been open. -/
def State.sessionNone (s : State) (c : Client) : State := s.setCtx (s.ctx c).none_

/-- An opening has run out of its 10 s (R40): the record is NONE, and a proof still written for it returns TIMEOUT. -/
def State.openLapsed (s : State) (c : Client) : State := s.setCtx { (s.ctx c).none_ with lapsed := true }

/-- A session closes (R44, R45, R76, R506): cause 1 close, 2 idle, 3 tag failures, 4 reset. -/
def State.sessionClose (s : State) (c : Client) (cause : Nat) : State :=
  let x := s.ctx c
  if x.st ≠ 2 then s
  else
    let s1 := match x.row with
      | some n => s.dropRow n
      | none => s
    (((s1.setCtx x.none_).clientReset c).dictEvent 0x1102 (cause + 256 * channelOf c))

/-- Open sessions, each of which holds a row (R45). -/
def State.sessionsOpen (s : State) : Nat := s.countRows (fun r => r.kind == 4)

/-- Why a role write is refused (R38, R44, R45, R463). -/
def State.roleCause (s : State) (c : Client) (code : Nat) : Nat :=
  let x := s.ctx c
  if code = roleF ∧ s.rr.lifecycle ≠ lcFactory then abRole
  else if x.st = 2 then abSequence
  else if s.now < x.holdUntil then abBusy
  else if 32 ≤ s.sessionsOpen then abBusy
  else if s.trustLost then abUnavail
  else abOk

/-- The generator channel that a role write waits for next: 2 for the nonce, then 6 for the ephemeral key. -/
def State.roleChannel (s : State) (code : Nat) : Nat := if code = roleH || s.rngStopped 2 || (s.rngBuf 2).length < 16 then 2 else 6

/-- The bytes that a role write needs of that channel; none where it is refused. -/
def State.roleNeed (s : State) (c : Client) (code : Nat) : Nat :=
  if s.roleCause c code ≠ 0 then 0 else if s.roleChannel code = 2 then 16 else 32

/-- ROLE (R40 steps 1 and 2): the device nonce, and for W, E and F the ephemeral key pair. -/
def State.roleWrite (s : State) (c : Client) (code : Nat) : State × Nat :=
  let a := s.roleCause c code
  if a ≠ 0 then (s, a)
  else match s.draw 2 16 with
    | none => (s, abUnavail)
    | some (s1, nonce) =>
      let x := (s1.ctx c).none_
      let y : ClientCtx := { x with st := 1, role := code, devNonce := nonce, openedAt := s1.now }
      if code = roleH then (s1.setCtx y, abOk)
      else match s1.draw 6 32 with
        | none => (s, abUnavail)
        | some (s2, b) =>
          let k := beNat b % (p256.n - 1) + 1
          (s2.setCtx { y with devPriv := k, devEph := ecPublic p256 k }, abOk)

/-- The message of the proof (R41). -/
def ClientCtx.proofMessage (x : ClientCtx) : Bytes :=
  ascii "BDP-OPEN" ++ [byte (channelOf x.c), byte x.role] ++ x.devNonce ++ x.cliNonce ++ serialBytes ++
  (if x.role = roleH then [] else x.cliEph ++ x.devEph)

/-- The session key over a KDF key (R42). -/
def ClientCtx.sessionKey (x : ClientCtx) (k : Bytes) : Bytes :=
  kdf k (ascii "BDP-SESSION") ([byte (channelOf x.c), byte x.role] ++ x.devNonce ++ x.cliNonce) 128

/-- The KDF key of a session (R42): the host pairing key in slot 1, or the ECDH secret of the two ephemeral keys. -/
def State.sessionRoot (s : State) (x : ClientCtx) : Option Bytes :=
  if x.role = roleH then (if (s.slot 1).ty = 0 then none else some (s.slot 1).key)
  else (ecPoint p256 x.cliEph).bind (fun q => ecdh p256 x.devPriv q)

/-- The check of a proof (R41, R303): the cause of the refusal by R303, 0 where it verifies. -/
def State.proofCause (s : State) (x : ClientCtx) (proof : Bytes) : Nat :=
  if x.role = roleH then
    (if (s.slot 1).ty ≠ 0 && padTo 96 (cmac (s.slot 1).key x.proofMessage) == proof then 0 else 7)
  else
    let q := s.credentialCause x.role x.cred
    match q.2 with
    | none => q.1
    | some leaf =>
      let n := algSig leaf.alg
      if verifyWith (algType leaf.alg) leaf.pub x.proofMessage false (proof.take n) == some true && (proof.drop n).all (· == 0) then 0 else 7

/-- A proof that did not verify (R40, R44, R76, R303). -/
def State.proofFailed (s : State) (c : Client) (cause : Nat) : State :=
  let x := s.ctx c
  let s1 := s.setCtx { x.none_ with holdUntil := s.now + 2 * secNs }
  let s2 := s1.dictEvent 0x1103 (1 + 256 * channelOf c)
  if x.role = roleH then s2
  else { s2 with ks := { s2.ks with cause := cause, rejected := satAdd 32 s2.ks.rejected 1 } }.emit 0x0C 0x3706 (cause + 256 * x.role)

/-- PROOF (R40 to R42, R45, R506): the session opens or its record returns to NONE. -/
def State.proofWrite (s : State) (c : Client) (proof : Bytes) : State × Nat :=
  let x := s.ctx c
  if x.st ≠ 1 then (s, if x.lapsed then abTimeout else abSequence)
  else if x.openedAt + 10 * secNs < s.now then (s.openLapsed c, abTimeout)
  else if (if x.role = roleH then !s.cipherOk else !(s.pkOk && s.cipherOk)) || s.trustLost then (s, abUnavail)
  else
    let cause := s.proofCause x proof
    match cause, s.sessionRoot x, (if s.sessionsOpen < 32 then s.takeService 4 32 [byte (channelOf c)] else none) with
    | 0, some k, some (s1, n) =>
      let s2 := (if x.role = roleH then s1.ran 1 else s1).clientReset c
      let y := s2.ctx c
      let s3 := s2.setCtx { y with st := 2, ctr := 0, key := x.sessionKey k, revoked := false, tagFails := 0, row := some n, lastUse := s.now, devPriv := 0 }
      let ks := if x.role = roleH then s3.ks else { s3.ks with accepted := satAdd 32 s3.ks.accepted 1 }
      ({ s3 with ks := ks, dict := { s3.dict with opened := satAdd 32 s3.dict.opened 1 } }.dictEvent 0x1101 (x.role + 256 * channelOf c), abOk)
    | 0, some _, none => (s.sessionNone c, abBusy)
    | n, _, _ => (s.proofFailed c (if n = 0 then 7 else n), abAuthFail)

/-- CLOSE (R44). -/
def State.closeWrite (s : State) (c : Client) : State × Nat :=
  if (s.ctx c).st = 2 then (s.sessionClose c 1, abOk)
  else if (s.ctx c).st = 1 then (s.sessionNone c, abOk)
  else (s, abSequence)

/-- SESSION_OPEN_TIMEOUT (R40): an opening without a proof 10 s after the role write ends. -/
def State.openTimeout (s : State) (c : Client) : State :=
  if s.powered && (s.ctx c).st == 1 && decide ((s.ctx c).openedAt + 10 * secNs ≤ s.now) then s.openLapsed c else s

/-- PROOF_HOLD_OFF_END (R44): the hold-off of 2 s is over. -/
def State.holdOffEnd (s : State) (c : Client) : State :=
  if (s.ctx c).holdUntil ≤ s.now then s.setCtx { s.ctx c with holdUntil := 0 } else s

/-- A write of the client's nonce, ephemeral key or credential (R40 step 3). -/
def State.openingWrite (s : State) (c : Client) (sub : Nat) (data : Bytes) : State × Nat :=
  let x := s.ctx c
  if x.st ≠ 1 || (sub ≠ 2 && x.role == roleH) then (s, abSequence)
  else if sub = 2 then (s.setCtx { x with cliNonce := data }, abOk)
  else if sub = 4 then (s.setCtx { x with cliEph := data }, abOk)
  else (s.setCtx { x with cred := data }, abOk)

/-- The CMAC of a tag (R43). -/
def ClientCtx.tagOver (x : ClientCtx) (dir ix sub : Nat) (data : Bytes) : Bytes :=
  cmac x.key ([byte dir] ++ leBytes 4 x.ctr ++ leBytes 2 ix ++ [byte sub] ++ leBytes 4 data.length ++ data)

/-- A session whose transfers carry tags: on the host port one of role W, E or F, on CAN every one (R50, R64). -/
def ClientCtx.tagged (x : ClientCtx) : Bool :=
  x.st == 2 && (match x.c with
    | .host => x.role != roleH
    | .can _ _ => true)

/-- A tag over received data is checked (R39 check 10, R43, R44): the third failure in a session closes it. -/
def State.tagCheck (s : State) (c : Client) (ix sub : Nat) (data tag : Bytes) : State × Bool :=
  let x := s.ctx c
  if (x.tagOver 1 ix sub data).take tag.length == tag then (s, true)
  else
    let s1 := s.setCtx { x with tagFails := x.tagFails + 1 }
    let s2 := { s1 with dict := { s1.dict with tagFails := satAdd 32 s1.dict.tagFails 1 } }.dictEvent 0x1103 (2 + 256 * channelOf c)
    (if 2 ≤ x.tagFails then s2.sessionClose c 3 else s2, false)

/-- Sessions of the clients of a bus close with it (R44). -/
def State.busSessionsClose (s : State) (bus : Nat) : State :=
  (List.range 16).foldl (fun (t : State) ch => t.sessionClose (.can bus ch) 4) s

end Sys2Proof.Machine
end

