-- ==== Sys2Proof/Machine/Write.lean ====
section
/-! DEFINITION. What a write of each object does (R39, R55, R506): one list of the objects that ask their unit to act, and the plain store of all
others. -/

namespace Sys2Proof.Machine

open Sys2Proof

/-- Ranges of the configuration sets of R22 by number. -/
def setRange (k : Nat) : Nat × Nat :=
  if k = 0x2C03 then (0x2C03, 0x2C30) else if k = 0x2010 then (0x2010, 0x2012) else if k = 0x2601 then (0x2601, 0x2604)
  else if k = 0x2441 then (0x2441, 0x2442) else if k = 0x2901 then (0x2901, 0x2902) else if k = 0x2A10 then (0x2A10, 0x2A22)
  else if k = 0x3010 then (0x3010, 0x3050) else if k = 0x11101 then (0x1101, 0x1101) else (k, k)

/-- A write to an object of a set makes the next refusal of the set a new one (R23). -/
def State.touchIx (s : State) (ix : Nat) : State :=
  { s with refused := s.refused.filter (fun k => !(decide ((setRange k).1 ≤ ix) && decide (ix ≤ (setRange k).2))) }

/-- Objects of which every client has its own value (R506). -/
def perClient (ix sub : Nat) : Bool :=
  ix == 0x2C08 || (ix == 0x3020 && decide (sub ≤ 3)) || ix == 0x3702 || (ix == 0x3720 && decide (sub ≤ 4)) || (ix == 0x3A20 && decide (sub ≤ 2))

/-- The plain write of a volatile object (R39, R506), with the host interfaces of R309 and R320. -/
def State.volatileWrite (s : State) (c : Client) (ix sub : Nat) (data : Bytes) : State × Nat :=
  let v := leNat data
  if ix = 0x1110 then s.openingWrite c sub data
  else if perClient ix sub then (s.setCval c ix sub v, abOk)
  else if ix = 0x3720 then (s.setCtx { s.ctx c with wrapped := data }, abOk)
  else if ix = 0x3410 ∨ ix = 0x3411 then
    let r := s.cipherHold c
    if r.2 ≠ 0 then (s, r.2) else (r.1.setObj ix sub v, abOk)
  else if ix = 0x3510 ∨ ix = 0x3511 then
    let r := s.pkHold c
    if r.2 ≠ 0 then (s, r.2) else (r.1.setObj ix sub v, abOk)
  else if 0x4510 ≤ ix ∧ ix ≤ 0x4517 ∧ sub = 3 then s.countWrite (ix - 0x4510) v
  else if 0x4510 ≤ ix ∧ ix ≤ 0x4517 ∧ (sub = 9 ∨ sub = 0xA) then ((s.setObj ix sub v).linkSnapshot (ix - 0x4510) sub, abOk)
  else ((s.touchIx ix).setObj ix sub v, abOk)

/-- The commit of a persistent object's value (R55), with what its chapter adds: CAL_CHANGED (R150), the certificate's copy (R304),
the Bellwether's snapshot (R442). -/
def State.persistentWrite (s : State) (ix sub : Nat) (data : Bytes) : State × Nat :=
  let s1 := (s.touchIx ix).commitObj ix sub (leNat data)
  let s2 := s1.emitIf (decide (0x2601 ≤ ix) && decide (ix ≤ 0x2604) && s.obj ix sub != leNat data) 0x04 0x240B (256 * ix + sub)
  (if ix = 0x3740 ∧ sub = 2 then s2.certCopy else if ix = 0x4301 then s2.bellReconf else s2, abOk)

/-- A counter increment from the dictionary (R343, R351). -/
def State.incrementWrite (s : State) (c : Client) (n amount : Nat) : State :=
  let k := key 0x3811 (n + 1)
  if !s.counterTakes n amount then (s.counterRefuse n).answer c k abRange [] true
  else if !s.fenced then (s.counterStore n amount).answer c k abOk [] true
  else if 65535 < kvGet 0 s.nv.pend n + amount then s.answer c k abFenced [] true
  else
    let s1 := s.pendAdd n amount
    let w : IncWait := { c := c, counter := n, amount := amount, at_ := s.now }
    { s1 with nv := { s1.nv with incs := s1.nv.incs ++ [w] } }.waitCommit c k (leBytes 2 amount)

/-- A write of a unit's Control object (R19): a CAN controller that stops closes the sessions of its bus (R44). -/
def State.controlWrite (s : State) (uid code : Nat) : State × Nat :=
  if code = 2 then s.unitStart uid
  else
    let r := s.unitStop uid
    let shut := fun (t : State) (b : Nat) => if (t.ctl b).st = 0 && (s.ctl b).st != 0 then t.busSessionsClose b else t
    ([0, 1].foldl shut r.1, r.2)

/-- A write of the update command (R474). -/
def State.updateCommand (s : State) (c : Client) (code : Nat) : State × Nat :=
  if code = 1 then s.updateBegin else if code = 2 then s.updateVerify else s.activate c

/-- The fast map that a write applies (R57, R58, R59, R504): slots in order while they are consistent, else the first bad slot. -/
def State.fastBad (s : State) (k : Nat) : Bool :=
  let v := s.obj 0x5020 (k + 1)
  let ix := v / 65536
  let sub := v / 256 % 256
  v != 0 && (!indexExists ix || !subExists ix sub || decide (8 < wireLen ix sub) || (stringOf ix sub).isSome || !bit (rolesOf ix sub) 0 || accOf ix sub == .wo)

/-- Words that a mapped object takes (R57). -/
def slotWords (k : Nat) : Nat := (wireLen (k / 256) (k % 256) + 1) / 2

/-- APPLY_FAST_MAP (R23, R58, R59, R504). -/
def State.applyFastMap (s : State) : State × Nat :=
  let ks := List.range 32
  let map := ks.filterMap (fun k => let v := s.obj 0x5020 (k + 1); if v = 0 then none else some (k, v / 256 % 2 ^ 24))
  let words : Nat := 2 + (map.map (fun e => slotWords e.2)).foldl (· + ·) 0
  let bad := ks.find? s.fastBad
  if bad.isNone && decide (words ≤ 254) then
    let s1 := { s with refused := s.refused.filter (· != 0x5020) }
    let seen := map.map (fun e => (e.1, s1.present .host (e.2 / 256) (e.2 % 256)))
    ({ s1 with host := { s1.host with
      map := map, latched := [], seen := seen, newData := (map.map (fun e => 2 ^ e.1)).foldl (· + ·) 0 } }, abOk)
  else
    let p := match bad with
      | some k => let v := s.obj 0x5020 (k + 1); v / 256 % 2 ^ 24
      | none => 0
    (s.snapshot 0x5020 0x5020 0x5020 false 0x12 0x5001 p, abOk)

/-- A timer object that commands (R380, R381, R383, R384). -/
def State.timerWrite (s : State) (n sub v : Nat) (tickClock : Bool) : State :=
  if sub = 4 then s.compareWrite n v tickClock
  else if sub = 8 then s.timerClear n v
  else if sub = 0xB then s.timerCmd n v
  else if s.obj (0x4510 + n) 6 = 6 then s.captureNow n else s

/-- A write of a host buffer's command (R423, R424). -/
def State.bufCommand (s : State) (bus b code : Nat) : State × Nat :=
  if code = 1 then s.txRequest bus b else (s.txAbort bus b, abOk)

/-- The way of a plain write. -/
def plainWay (c : Client) (ix sub : Nat) (data : Bytes) : Way :=
  if ((objFind ix sub).map (·.pers)).getD false then { nv := true, late := true, act := fun s => s.persistentWrite ix sub data }
  else { act := fun s => s.volatileWrite c ix sub data }

/-- The ways of root, dictionary, supervision and lifecycle (0x1000 to 0x1FFF). -/
def wayRoot (c : Client) (ix sub : Nat) (data : Bytes) : Option Way :=
  let v := leNat data
  if ix = 0x1110 ∧ sub = 1 then some { ch := fun s => s.roleChannel v, need := fun s => s.roleNeed c v, act := fun s => s.roleWrite c v }
  else if ix = 0x1110 ∧ sub = 7 then some { act := fun s => s.proofWrite c data }
  else if ix = 0x1110 ∧ sub = 8 then some { act := fun s => s.closeWrite c }
  else if ix = 0x1180 ∧ sub = 4 then some { act := okAct (fun s => { s with evLost := 0 }) }
  else if ix = 0x1201 ∧ sub = 2 then some { act := fun s => s.parkRequest }
  else if ix = 0x1210 then some { act := okAct (fun s => s.askReset 6 c) }
  else if ix = 0x1302 ∧ sub = 1 then some { act := fun s => s.clearSummary v }
  else if ix = 0x1302 then some { act := fun s => s.clearSource (s.role c) v }
  else if ix = 0x1401 then some { nv := true, need := fun s => s.advanceNeed (s.role c) v, act := fun s => s.advance (s.role c) v }
  else if ix = 0x1420 then some { nv := decide (v ≠ 2), act := fun s => s.updateCommand c v }
  else if ix = 0x1421 ∧ sub = 2 then some { nv := true, act := fun s => s.chunk data }
  else if ix = 0x1481 then some { act := okAct (fun s => s.clearLatches v) }
  else none

/-- The ways of the LF controller, the ranging group, sessions, the zone map and policy (0x2000 to 0x2FFF). -/
def wayField (c : Client) (ix sub : Nat) (data : Bytes) : Option Way :=
  let v := leNat data
  if ix = 0x2015 ∧ sub = 4 then some { act := okAct State.runDiagnostics }
  else if ix = 0x2022 ∧ sub = 1 then some { act := okAct State.demand }
  else if ix = 0x2022 then some { act := fun s => if v = 1 then (s.stopPolling, abOk) else s.restartPolling }
  else if ix = 0x2415 then some { act := okAct State.resynchronise }
  else if ix = 0x2605 ∧ sub = 6 then some { act := fun s => s.calStart (decide ((s.row (s.obj 0x2605 5)).st = 3)) }
  else if ix = 0x2C08 then some { act := okAct (fun s => (s.setCval c 0x2C08 1 v).rowSelect c v) }
  else if ix = 0x2C22 then some { nv := true, act := fun s => s.entryStatus (s.role c) (sub - 1) v }
  else if ix = 0x2C23 ∧ sub = 1 then
    some { nv := true, need := fun s => if idKind data = 1 ∨ idKind data = 2 then s.pairNeed data else 0, act := fun s => s.pairPartner data }
  else if ix = 0x2C23 ∧ sub = 4 then
    some { nv := true, need := fun s => if s.retired (groupSlot (v == 2)) then 0 else 16, act := fun s => s.rotateKey v }
  else if ix = 0x2C32 then some { nv := true, act := fun s => s.importTractor (sub - 1) data }
  else if ix = 0x2810 then some { nv := true, act := fun s => s.zoneMap data }
  else if ix = 0x2A20 then some { act := okAct (fun s => s.policyRequest v 3) }
  else if ix = 0x2A22 ∧ sub = 5 then
    some { act := okAct (fun s => let t := s.setObj 0x2A22 5 v; if t.outNow 0x2A22 1 = 0 then t.engineState (v == 1) else t) }
  else none

/-- The ways of the tag engine, keys, engines and generator (0x3000 to 0x37FF). -/
def wayKeys (c : Client) (ix sub : Nat) (data : Bytes) : Option Way :=
  let v := leNat data
  if ix = 0x3013 then some { nv := true, act := okAct (fun s => s.setKillPw data) }
  else if ix = 0x3030 ∧ sub = 7 then some { act := okAct State.refreshNow }
  else if ix = 0x3040 then some { nv := true, act := fun s => s.killObject data }
  else if ix = 0x3702 then some { act := okAct (fun s => (s.setCval c 0x3702 1 v).slotSelect c v) }
  else if ix = 0x3720 ∧ sub = 6 then
    some { nv := decide (v ≠ 4 ∧ v ≠ 6), need := fun s => if v = 2 then s.generateNeed c else 0, act := fun s => s.keyOp c v }
  else if ix = 0x3731 then some { nv := true, act := fun s => s.anchorChange data }
  else if ix = 0x3740 ∧ sub = 1 then some { nv := true, act := fun s => s.summaryCertificate data }
  else if ix = 0x3412 then some { act := fun s => s.cipherSubmit c }
  else if ix = 0x3512 then some { act := fun s => s.pkSubmit c }
  else if ix = 0x3630 then some { act := okAct (fun s => s.testPattern sub v) }
  else none

/-- The ways of the journal, the timers, the motion sensor and the CAN unit (0x3800 to 0x4FFF), and of the host port. -/
def wayBus (c : Client) (ix sub : Nat) (data : Bytes) (bad : List Nat) (tickClock : Bool) : Option Way :=
  let v := leNat data
  if ix = 0x3A01 ∧ sub = 5 then some { nv := true, act := fun s => s.format bad }
  else if ix = 0x3A20 ∧ sub = 3 then
    some { need := fun s => if s.exportWaits then 32 else 0, act := fun s => s.requestExport c (s.cval c 0x3A20 1) (s.cval c 0x3A20 2) }
  else if ix = 0x4501 then some { act := fun s => s.groupCmd sub v }
  else if 0x4510 ≤ ix ∧ ix ≤ 0x4517 ∧ (sub = 4 ∨ sub = 8 ∨ sub = 0xB ∨ sub = 0xF) then
    some { act := okAct (fun s => s.timerWrite (ix - 0x4510) sub v tickClock) }
  else if ix = 0x4803 then some { nv := true, act := okAct (fun s => s.clearTamper v) }
  else if (ix = 0x4102 ∨ ix = 0x4202) ∧ sub = 6 then some { act := fun s => s.recover (if ix = 0x4102 then 0 else 1) }
  else if 0x4110 ≤ ix ∧ ix ≤ 0x4112 ∧ sub = 5 then some { act := fun s => s.bufCommand 0 (ix - 0x4110) v }
  else if 0x4210 ≤ ix ∧ ix ≤ 0x4212 ∧ sub = 5 then some { act := fun s => s.bufCommand 1 (ix - 0x4210) v }
  else if (ix = 0x4131 ∨ ix = 0x4231) ∧ sub = 3 then some { act := okAct (fun s => s.clearOverrun (if ix = 0x4131 then 0 else 1)) }
  else if ix = 0x5021 then some { act := State.applyFastMap }
  else none

/-- The way of a write. bad is the list of bad blocks that a format finds on its medium; tickClock says that a compare write falls in the
clock of a tick. -/
def wayWith (c : Client) (ix sub : Nat) (data : Bytes) (bad : List Nat) (tickClock : Bool) : Way :=
  match unitOfBase ix with
  | some u => { act := fun s => s.controlWrite u.id (leNat data) }
  | none =>
    let own := if ix < 0x2000 then wayRoot c ix sub data else if ix < 0x3000 then wayField c ix sub data
      else if ix < 0x3800 then wayKeys c ix sub data else wayBus c ix sub data bad tickClock
    own.getD (plainWay c ix sub data)

/-- The way of a write with nothing more to say. -/
def wayOf (c : Client) (ix sub : Nat) (data : Bytes) : Way := wayWith c ix sub data [] false

/-- A write of a whole value past its checks (R39, R55): tag memory and the counters have their own waits, and a key for a slot whose
increase has not committed does not wait for the fence (R292). -/
def State.beginWrite (s : State) (c : Client) (ix sub : Nat) (data : Bytes) (w : Way) : State :=
  if ix = 0x3020 ∧ sub = 4 then s.windowBegin c data
  else if ix = 0x3811 then s.incrementWrite c (sub - 1) (leNat data)
  else if ix = 0x3720 ∧ sub = 6 ∧ s.keyStale c (leNat data) = true then s.runWay c (key ix sub) data w
  else s.startWay c (key ix sub) data w

/-- A write by a client with no transport of its own: checks 1 to 11, then the act (R39). -/
def State.writeWith (s : State) (c : Client) (ix sub : Nat) (data : Bytes) (w : Way) : State :=
  let a := s.checkWrite c ix sub data
  if a ≠ 0 then s.answer c (key ix sub) a [] false else s.beginWrite c ix sub data w

/-- The same with the write's own way. -/
def State.writeRequest (s : State) (c : Client) (ix sub : Nat) (data : Bytes) : State := s.writeWith c ix sub data (wayOf c ix sub data)

/-- The increments of a client that still stand in a pending count (R343). -/
def State.incPending (s : State) (c : Client) : Bool := s.nv.incs.any (fun e => e.c == c)

/-- PERSISTENT_COMMIT (R55): the write of the client that waits commits, once no fence is up. An increment has been stored as the fence
lifted. -/
def State.persistentCommit (s : State) (c : Client) : State :=
  match s.dict.commits.find? (fun x => x.c == c) with
  | none => s
  | some x =>
    let ix := x.key / 256
    let s1 := { s with dict := { s.dict with commits := s.dict.commits.erase x } }
    if !s.powered then s
    else if ix = 0x3811 then (if s.incPending c then s else s1.answer c x.key abOk [] true)
    else if s.fenced then s
    else if ix = 0x3020 then s1.windowBegin c x.data
    else s1.runWay c x.key x.data (wayOf c ix (x.key % 256) x.data)

/-- The amount of a client's increment leaves the pending count (R343). -/
def State.incDrop (s : State) (c : Client) : State :=
  match s.nv.incs.find? (fun e => e.c == c) with
  | none => s
  | some e => { s with nv := { s.nv with
      incs := s.nv.incs.erase e,
      pend := if kvGet 0 s.nv.pend e.counter ≤ e.amount then kvDel s.nv.pend e.counter else kvPut s.nv.pend e.counter (kvGet 0 s.nv.pend e.counter - e.amount) } }

/-- NV_FENCED (R55, R343): a write that has waited 100 ms for the fence is dropped. -/
def State.nvFenced (s : State) (c : Client) : State :=
  match s.dict.commits.find? (fun x => x.c == c) with
  | none => s
  | some x =>
    if !s.powered || !s.fenced || decide (s.now < x.at_ + 100 * msNs) || (x.key / 256 == 0x3811 && !s.incPending c) then s
    else
      let s1 := { s with dict := { s.dict with commits := s.dict.commits.erase x } }
      (if x.key / 256 = 0x3811 then s1.incDrop c else s1).answer c x.key abFenced [] true

/-- Requests that waited for random bytes act once their channel holds enough (R327), the oldest of each channel first. -/
def State.serveWaits (s : State) : State :=
  s.rng.waits.foldl (fun (t : State) (w : RngWait) =>
    if t.rngWaits w.ch w.need then t
    else
      let t1 := { t with rng := { t.rng with waits := t.rng.waits.erase w } }
      t1.startWay w.c w.key w.data (wayOf w.c (w.key / 256) (w.key % 256) w.data)) s

end Sys2Proof.Machine
end

