-- ==== Sys2Proof/Machine/HostPort.lean ====
section
/-! DEFINITION. The host port (R48 to R59, R69, R71, R72): transactions, request frames, responses, streams, snapshots and the fast window. -/

namespace Sys2Proof.Machine

open Sys2Proof

/-- Bytes as data words: byte 2k in [7:0], byte 2k + 1 in [15:8] (R35). -/
def hostWords (b : Bytes) : List Word := (chunks (b.length + 1) 2 b).map (fun x => BitVec.ofNat 16 (leNat x))

/-- The n bytes that data words hold (R35). -/
def hostBytes (n : Nat) (l : List Word) : Bytes := (l.flatMap (fun w => leBytes 2 w.toNat)).take n

/-- The CRC of a frame's words, most significant bit first (R50). -/
def hostCrc (l : List Word) : Word := BitVec.ofNat 16 (crc16 (l.flatMap (fun w => beBytes 2 w.toNat)))

/-- Word k of a frame. -/
def wordAt (l : List Word) (k : Nat) : Nat := (nth 0 l k).toNat

/-- The 32-bit value in words k (low half) and k + 1. -/
def wideAt (l : List Word) (k : Nat) : Nat := wordAt l k + 65536 * wordAt l (k + 1)

/-- The opcode of a transaction (R48); none without a command word. -/
def hostOp (l : List Word) : Nat := match l with
  | [] => 16
  | w :: _ => w.toNat / 4096

/-- The window size in bytes (R59). -/
def State.window (s : State) : Nat := 256 * 2 ^ (s.obj 0x5010 1)

/-- A piece is the last of its write (R56). -/
def lastPiece (fr : List Word) : Bool := decide (wideAt fr 3 ≤ wideAt fr 5 + wordAt fr 7)

/-- Words of a request frame up to its CRC word (R50, R51). -/
def State.frameWords (s : State) (fr : List Word) : Nat :=
  if hostOp fr = 1 then 6
  else 9 + (wordAt fr 7 + 1) / 2 + (if (s.ctx .host).tagged && lastPiece fr then 4 else 0)

/-- A response becomes available (R52). flags are bits [15:13] of word 4; keep says that it answers an executed request (R51). -/
def State.hostPut (s : State) (fr : List Word) (abort : Nat) (data : Bytes) (flags off : Nat) (tag : Bytes) (keep : Bool) : State :=
  let h := wordAt fr 0
  let body : List Word := [BitVec.ofNat 16 (h / 4096 * 4096 + h % 256), BitVec.ofNat 16 abort, BitVec.ofNat 16 data.length, BitVec.ofNat 16 flags,
    BitVec.ofNat 16 off, BitVec.ofNat 16 (off / 65536)] ++ hostWords data ++ hostWords tag
  let r := body ++ [hostCrc body]
  { s with host := { s.host with resp := r, avail := true, busy := true, lastResp := if keep then r else s.host.lastResp } }

/-- Flag LAST of a response (R52). -/
def respLast : Nat := 0x8000
/-- Flag STREAM. -/
def respStream : Nat := 0x4000
/-- Flag TAGGED. -/
def respTagged : Nat := 0x2000

/-- The tag of a read's last window, in a session that tags (R43, R50, R52). -/
def ClientCtx.readTag (x : ClientCtx) (n ix sub : Nat) (data : Bytes) : Bytes :=
  if x.tagged && ix != 0x1110 then (x.tagOver 2 ix sub data).take n else []

/-- A session's tag cannot be computed while the cipher engine is down (R440). -/
def State.tagDown (s : State) (c : Client) (ix : Nat) : Bool := (s.ctx c).tagged && ix != 0x1110 && !s.cipherOk

/-- A window of a read is answered; the last one ends the transfer (R43, R46, R56). -/
def State.hostWindow (s : State) (fr : List Word) (ix sub off : Nat) (whole piece : Bytes) (last : Bool) (flags : Nat) : State :=
  if last then
    let tag := (s.ctx .host).readTag 8 ix sub whole
    (s.answer .host (key ix sub) abOk piece true).hostPut fr abOk piece (flags + respLast + (if tag.isEmpty then 0 else respTagged)) off tag true
  else s.hostPut fr abOk piece flags off [] true

/-- A read that a check refuses. -/
def State.hostAbort (s : State) (fr : List Word) (k abort off : Nat) : State :=
  (s.answer .host k abort [] false).hostPut fr abort [] 0 off [] true

/-- The length of an object (R36): a STRING has its stored length. -/
def objLength (ix sub : Nat) : Nat :=
  match stringOf ix sub with
  | some b => b.length
  | none => wireLen ix sub

/-- A request for window off of the stream (R72). -/
def State.hostStream (s : State) (fr : List Word) (ix sub off : Nat) : State :=
  match s.dict.stream with
  | none => s.hostAbort fr (key ix sub) abTimeout off
  | some st =>
    let fits := match st.window with
      | none => off == 0
      | some k => off == k || off == k + 1
    if st.c ≠ .host then s.hostAbort fr (key ix sub) abBusy off
    else
      let s1 : State := { s with dict := { s.dict with stream := some { st with last := s.now } } }
      if !fits then s1.hostAbort fr (key ix sub) abSequence off
      else
        let w := s.window
        let last := decide (st.data.length ≤ (off + 1) * w)
        let s2 := if last then ({ s with dict := { s.dict with stream := none } } : State).setCtx { s.ctx .host with expState := 0 }
          else { s with dict := { s.dict with stream := some { st with window := some off, last := s.now } } }
        s2.hostWindow fr ix sub off st.data (slice (off * w) w st.data) last respStream

/-- The value that a read of a window takes (R69): the snapshot the client holds, or the object's value now. -/
def State.hostValue (s : State) (ix sub off : Nat) : State × (Nat × Bytes) :=
  match (s.ctx .host).readSnap with
  | some sn => if sn.key = key ix sub ∧ off ≠ 0 then (s, (abOk, sn.data)) else s.readObject .host ix sub
  | none => s.readObject .host ix sub

/-- REQ_READ as executed (R39, R56, R69). -/
def State.hostRead (s : State) (fr : List Word) : State :=
  let ix := wordAt fr 1
  let sub := wordAt fr 2 / 256
  let off := wideAt fr 3
  let k := key ix sub
  let a := s.checkAccess .host false ix sub 0
  if a ≠ 0 then s.hostAbort fr k a off
  else if s.tagDown .host ix then s.hostAbort fr k abUnavail off
  else if ix = 0x3A21 ∧ sub = 1 then s.hostStream fr ix sub off
  else if objLength ix sub < off then (s.answer .host k abRange [] true).hostPut fr abRange [] 0 off [] true
  else
    let w := s.window
    let r := s.hostValue ix sub off
    let data := r.2.2
    if r.2.1 ≠ abOk then (r.1.answer .host k r.2.1 [] true).hostPut fr r.2.1 [] 0 off [] true
    else
      let large := decide (w < data.length)
      let last := decide (data.length ≤ off + w)
      let x := r.1.ctx .host
      let own := x.readSnap.any (fun sn => sn.key == k)
      let snap := if large && off == 0 then (if last then none else some { key := k, data := data, last := s.now })
        else if own && last then none else x.readSnap
      (r.1.setCtx { x with readSnap := snap }).hostWindow fr ix sub off data (slice off w data) last 0

/-- Staging space that transfers of all clients but one use (R71). -/
def State.staged (s : State) (c : Client) : Nat :=
  (s.dict.clients.map (fun x =>
    (if x.c == c then 0 else (x.stage.map (·.total)).getD 0) +
    (match x.xfer with
      | some t => if x.c != c && (t.kind == .segWrite || t.kind == .blkWrite) then t.total else 0
      | none => 0))).foldl (· + ·) 0

/-- Staging is full for a write of a length (R71). -/
def State.stagingFull (s : State) (c : Client) (len : Nat) : Bool := decide (65536 < s.staged c + len)

/-- The checks of a piece (R39 checks 1 to 9, R56, R71): the abort code, 0 where the piece is staged. -/
def State.pieceCause (s : State) (fr : List Word) (piece : Bytes) : Nat :=
  let ix := wordAt fr 1
  let sub := wordAt fr 2 / 256
  let total := wideAt fr 3
  let off := wideAt fr 5
  let a := s.checkForm .host ix sub (if off = 0 then leNat piece else 0) total
  if a ≠ 0 then a
  else if s.window < wordAt fr 7 || decide (total < off + wordAt fr 7) then abLength
  else if off = 0 then (if s.stagingFull .host total then abBusy else abOk)
  else if (s.ctx .host).stage.any (fun g => g.key == key ix sub && g.total == total && g.data.length == off) then abOk
  else abSequence

/-- The check of a write's value and of what a chapter adds for it (R39 checks 4 and 11). -/
def State.valueCause (s : State) (c : Client) (ix sub v : Nat) : Nat :=
  if (s.ctx c).st == 2 && s.writeBarred (s.role c) ix sub v then abRole else if valueOk ix sub v then abOk else abRange

/-- A whole value past its pieces (R39 checks 10 and 11, R43). Its answer comes from the write itself. -/
def State.hostWhole (s : State) (ix sub : Nat) (data tag : Bytes) : State :=
  let x := s.ctx .host
  let r := if x.tagged && ix != 0x1110 then s.tagCheck .host ix sub data tag else (s, true)
  let cause := r.1.valueCause .host ix sub (leNat data)
  if s.tagDown .host ix then s.answer .host (key ix sub) abUnavail [] false
  else if !r.2 then r.1.answer .host (key ix sub) abAuthFail [] false
  else if cause ≠ 0 then r.1.answer .host (key ix sub) cause [] true
  else r.1.beginWrite .host ix sub data (wayOf .host ix sub data)

/-- REQ_WRITE as executed (R56): a piece is refused, staged, or ends the object. -/
def State.hostWrite (s : State) (fr : List Word) : State :=
  let ix := wordAt fr 1
  let sub := wordAt fr 2 / 256
  let total := wideAt fr 3
  let off := wideAt fr 5
  let piece := hostBytes (wordAt fr 7) (fr.drop 8)
  let words : Nat := (wordAt fr 7 + 1) / 2
  let cause := s.pieceCause fr piece
  let x := s.ctx .host
  let before := if off = 0 then [] else (x.stage.map (·.data)).getD []
  let s1 := s.setCtx { x with stage := none }
  if cause ≠ 0 then s1.answer .host (key ix sub) cause [] false
  else if lastPiece fr then s1.hostWhole ix sub (before ++ piece) (hostBytes 8 (fr.drop (8 + words)))
  else
    (s.setCtx { x with stage := some { key := key ix sub, total := total, data := before ++ piece } }).hostPut fr abOk [] 0 off [] true

/-- A request frame that has been accepted (R51). -/
def State.hostRequest (s : State) (fr : List Word) : State :=
  let h := s.host
  if h.lastReq = fr then
    { s with host := { h with resp := h.lastResp, avail := true, busy := true, repeated := satAdd 32 h.repeated 1 } }
  else if h.lastReq ≠ [] ∧ wordAt h.lastReq 0 % 256 = wordAt fr 0 % 256 then
    let s1 := s.hostPut fr abSequence [] 0 (if hostOp fr = 1 then wideAt fr 3 else wideAt fr 5) [] false
    { s1 with dict := { s1.dict with aborts := satAdd 32 s1.dict.aborts 1 } }
  else
    let x := s.ctx .host
    let x' : ClientCtx := { x with reply := none, lastUse := s.now, readSnap := x.readSnap.map (fun sn => { sn with last := s.now }) }
    let s1 := ({ s with host := { h with lastReq := fr, cur := fr, busy := true } } : State).setCtx x'
    if hostOp fr = 1 then s1.hostRead fr else s1.hostWrite fr

/-- A request frame arrives (R50, R51). -/
def State.hostFrame (s : State) (ws : List Word) : State :=
  let n := s.frameWords ws
  if !s.hostReady || decide (ws.length < n) then s
  else if hostCrc (ws.take (n - 1)) ≠ nth 0 ws (n - 1) then
    { s with host := { s.host with crcErr := true, crcErrs := satAdd 32 s.host.crcErrs 1 } }
  else
    ({ s with host := { s.host with crcErr := false, accepted := satAdd 32 s.host.accepted 1 } } : State).hostRequest (ws.take n)

/-- A write that was executed has been answered: its response becomes available (R52, R56). -/
def State.hostRespond (s : State) : State :=
  if s.host.busy && !s.host.avail then
    match (s.ctx .host).reply with
    | none => s
    | some r => s.hostPut s.host.cur r.abort [] (if lastPiece s.host.cur then respLast else 0) (wideAt s.host.cur 5) [] true
  else s

/-- RESPONSE (R52): the words after the status, and the response is consumed with its CRC word. -/
def State.hostTake (s : State) (n : Nat) : State :=
  let h := s.host
  let out := if h.avail then h.resp else []
  let done := h.avail && decide (h.resp.length ≤ n)
  { s with host := { h with
    miso := (BitVec.ofNat 16 s.hostStatus :: (out.take n ++ List.replicate (n - out.length) 0)),
    avail := h.avail && !done, busy := h.busy && !done } }

/-- The places of the mapped slots: slot, object, first word (R57). -/
def fastPlaces : Nat → Objs → List (Nat × (Nat × Nat))
  | _, [] => []
  | a, (k, o) :: r => (k, (o, a)) :: fastPlaces (a + slotWords o) r

/-- One word of the fast window (R57, R58): the word, and what clocking it does. -/
def State.fastWord (s : State) (addr : Nat) : State × Word :=
  let h := s.host
  if addr = 0 then (s, BitVec.ofNat 16 h.newData)
  else if addr = 1 then (s, BitVec.ofNat 16 (h.newData / 65536))
  else
    match (fastPlaces 2 h.map).find? (fun e => decide (e.2.2 ≤ addr) && decide (addr < e.2.2 + slotWords e.2.1)) with
    | none => (s, 0)
    | some (k, o, a) =>
      if addr = a then
        let v := s.present .host (o / 256) (o % 256)
        let s1 := s.readEffect .host (o / 256) (o % 256)
        ({ s1 with host := { s1.host with
          latched := kvPut s1.host.latched k v,
          seen := kvPut s1.host.seen k v,
          newData := if bit s1.host.newData k then s1.host.newData - 2 ^ k else s1.host.newData } }, BitVec.ofNat 16 v)
      else (s, BitVec.ofNat 16 (kvGet 0 h.latched k / 65536 ^ (addr - a)))

/-- Consecutive words of the fast window; the address wraps (R57). -/
def State.fastRun (s : State) : Nat → Nat → State × List Word
  | 0, _ => (s, [])
  | n + 1, a =>
    let r := s.fastWord (a % 256)
    let q := r.1.fastRun n (a + 1)
    (q.1, r.2 :: q.2)

/-- FAST_READ (R57, R58). -/
def State.hostFast (s : State) (ws : List Word) : State :=
  let st : Word := BitVec.ofNat 16 s.hostStatus
  let r := s.fastRun (ws.length - 1) (wordAt ws 0 % 256)
  { r.1 with host := { r.1.host with miso := st :: r.2 } }

/-- The port is out of reset and selected: a transaction begins (R48, R452): its idle time ends, and the status word and zeros go out. -/
def State.hostBegin (s : State) (ws : List Word) : State :=
  { s with host := { s.host with
    idleFrom := s.now,
    miso := (BitVec.ofNat 16 s.hostStatus :: List.replicate (ws.length - 1) 0).take ws.length } }

/-- New-data flags follow the mapped objects (R58). -/
def State.fastFlags (s : State) : State :=
  s.host.map.foldl (fun (t : State) e =>
    let v := t.present .host (e.2 / 256) (e.2 % 256)
    if v = kvGet 0 t.host.seen e.1 then t
    else { t with host := { t.host with seen := kvPut t.host.seen e.1 v, newData := t.host.newData ||| 2 ^ e.1 } }) s

/-- A transaction of one kind: opcodes other than the row's are another row's. In the gated mode every word reads 0, nothing is taken, and the
edge of HS_CS_N ungates the control domain (R455). -/
def State.transaction (s : State) (ws : List Word) (mine : Bool) (act : State → State) : State :=
  if ws.isEmpty || !mine then s
  else if s.powered then act (s.fastFlags.hostBegin ws)
  else if s.aon.mode = 1 then ({ s with host := { s.host with miso := ws.map (fun _ => 0) } } : State).hostUngate
  else s

/-- STREAM_IDLE_TIMEOUT (R72). -/
def State.streamIdle (s : State) : State :=
  match s.dict.stream with
  | none => s
  | some st =>
    if s.powered && decide (st.last + s.obj 0x5010 2 * secNs ≤ s.now) then
      ({ s with dict := { s.dict with stream := none } } : State).setCtx { s.ctx st.c with expState := 0 }
    else s

/-- READ_SNAPSHOT_TIMEOUT (R69). -/
def State.snapTimeout (s : State) (c : Client) : State :=
  let x := s.ctx c
  if s.powered && x.readSnap.any (fun sn => decide (sn.last + s.obj 0x5010 2 * secNs ≤ s.now)) then s.setCtx { x with readSnap := none } else s

end Sys2Proof.Machine
end

