-- ==== Sys2Proof/Machine/Bdp.lean ====
section
/-! DEFINITION. The Bredric Dictionary Protocol on CAN (R46, R47, R60 to R73), and what a frame received on a bus does (R425). -/

namespace Sys2Proof.Machine

open Sys2Proof

/-- The configuration set of BDP on a bus (R46). -/
def bdpSet (bus : Nat) : Nat := if bus = 0 then 0x1101 else 0x11101

/-- A value of BDP's configuration in force on a bus (R46). -/
def State.bdpConf (s : State) (bus sub : Nat) : Nat := s.conf (bdpSet bus) 0x1101 sub

/-- No transfer runs on a bus (R46). -/
def State.bdpIdle (s : State) (bus : Nat) : Bool :=
  !s.dict.clients.any (fun x => x.xfer.isSome && (match x.c with
    | .can b _ => b == bus
    | .host => false))

/-- The other identifiers that the device consumes on a bus (R425). -/
def State.otherFilters (s : State) (bus : Nat) : List Nat :=
  (if s.objB 0x2A21 3 && bit (s.obj 0x2A21 2) bus then [s.obj 0x2A21 1] else []) ++
  (if s.obj 0x2A22 1 = 1 then [s.obj 0x2A22 2] else []) ++
  (if s.bellObj 1 ≠ 0 && s.bellBus == bus then [s.bellObj 3] else [])

/-- The identifier ranges of BDP overlap neither each other nor another filter (R47). -/
def State.bdpConsistent (s : State) (bus : Nat) : Bool :=
  let q := s.obj 0x1101 2
  let r := s.obj 0x1101 3
  let out := fun (b id : Nat) => decide (id < b) || decide (b + 16 ≤ id)
  (decide (q + 16 ≤ r) || decide (r + 16 ≤ q)) && (s.otherFilters bus).all (fun id => out q id && out r id)

/-- A configuration change takes effect on a bus where no transfer runs (R46, R47). -/
def State.bdpConfig (s : State) (bus : Nat) : State :=
  let set := bdpSet bus
  if !s.bdpIdle bus then s
  else if s.bdpConsistent bus then { s with snaps := kvPut s.snaps set (s.snapRange 0x1101 0x1101), refused := s.refused.filter (· != set) }
  else if s.refused.contains set then s
  else { s with refused := s.refused ++ [set] }.stick 0x24 6

/-- The session idle time of a client in s, as its bus has it in force (R44, R46). -/
def State.idleLimit (s : State) (c : Client) : Nat :=
  match c with
  | .host => s.obj 0x1101 7
  | .can b _ => (s.bdpConfig b).bdpConf b 7

/-- SESSION_IDLE_TIMEOUT (R44). -/
def State.idleTimeout (s : State) (c : Client) : State :=
  if s.powered && (s.ctx c).st == 2 && decide ((s.ctx c).lastUse + s.idleLimit c * secNs ≤ s.now) then s.sessionClose c 2 else s

/-- Data bytes of a segment (R61). -/
def segBytes (fd : Bool) : Nat := if fd then 63 else 7

/-- A frame of the device: padded to 8 or 64 bytes, or, for a short last FD segment, to the smallest DLC that holds it (R60, R61). -/
def bdpWire (id : Nat) (fd short : Bool) (b : Bytes) : CanFrame :=
  if !fd then { id := id, dlc := 8, data := padTo 8 b }
  else
    let dlc := if short then dlcFor b.length else 15
    { id := id, fdf := true, brs := true, dlc := dlc, data := padTo (dlcBytes true dlc) b }

/-- The device sends a frame on a channel (R60, R67). -/
def State.bdpSend (s : State) (bus ch : Nat) (fd short : Bool) (b : Bytes) : State :=
  let c : Client := .can bus ch
  let f : DevFrame := { cls := .bdp, fr := bdpWire (s.bdpConf bus 3 + ch) fd short b, c := some c }
  let s1 := s.canQueue bus f
  let x := s1.ctx c
  match x.xfer with
  | none => s1
  | some t => s1.setCtx { x with xfer := some { t with last := s.now } }

/-- The first four bytes of a frame that names an object (R62, R63). -/
def bdpHead (op k : Nat) : Bytes := [byte op, byte (k / 256), byte (k / 65536), byte k]

/-- The channel has no transfer. -/
def State.xferDrop (s : State) (c : Client) : State := s.setCtx { s.ctx c with xfer := none }

/-- An abort frame (R63). -/
def State.bdpAbortFrame (s : State) (bus ch : Nat) (fd : Bool) (k code : Nat) : State :=
  s.bdpSend bus ch fd false (bdpHead 0x80 k ++ leBytes 2 code)

/-- The device ends a transfer, or refuses to begin one, with an abort (R61, R65, R67, R73). late says that it got past the tag check. -/
def State.bdpAbort (s : State) (bus ch : Nat) (fd : Bool) (k code : Nat) (late : Bool) : State :=
  (((s.xferDrop (.can bus ch)).answer (.can bus ch) k code [] late).bdpAbortFrame bus ch fd k code)

/-- Work of a client's write that has not committed is dropped (R68). -/
def State.dropPending (s : State) (c : Client) : State :=
  let s1 := s.incDrop c
  { s1 with
    dict := { s1.dict with commits := s1.dict.commits.filter (fun x => x.c != c) },
    rng := { s1.rng with waits := s1.rng.waits.filter (fun w => w.c != c) },
    tag := { s1.tag with jobs := s1.tag.jobs.filter (fun j => j.kind != .host c) } }

/-- A transfer begins. -/
def State.xferStart (s : State) (c : Client) (t : Xfer) : State := s.setCtx { s.ctx c with xfer := some t, reply := none }

/-- A transfer goes on. -/
def State.xferSet (s : State) (c : Client) (t : Xfer) : State := s.setCtx { s.ctx c with xfer := some t }

/-- A write whose value is whole is handed to the store; settle answers it (R39, R63). -/
def State.bdpCommit (s : State) (c : Client) (t : Xfer) (ix sub : Nat) : State :=
  (s.xferStart c { t with commit := true }).beginWrite c ix sub t.data (wayOf c ix sub t.data)

/-- EXPEDITED_WRITE (R62, R64): up to 4 bytes, in an H session only. -/
def State.bdpExpedited (s : State) (bus ch : Nat) (fr : Bytes) (fd : Bool) (ix sub : Nat) : State :=
  let c : Client := .can bus ch
  let data := slice 4 (4 - ((fr.getD 0 0).toNat) % 4) fr
  let v := leNat data
  let first := s.checkAccess c true ix sub v
  let form := s.checkForm c ix sub v data.length
  let cause := if first ≠ 0 then first else if form = abRunning then form
    else if (s.ctx c).st ≠ 2 ∨ (s.ctx c).role ≠ roleH then abAuthReq else form
  if cause ≠ 0 then s.bdpAbort bus ch fd (key ix sub) cause false
  else if !valueOk ix sub v then s.bdpAbort bus ch fd (key ix sub) abRange true
  else s.bdpCommit c { kind := .segWrite, key := key ix sub, total := data.length, data := data, fd := fd, last := s.now } ix sub

/-- SEGMENTED_WRITE_INITIATE and BLOCK_WRITE_INITIATE (R62, R63, R71). -/
def State.bdpWriteInit (s : State) (bus ch : Nat) (fr : Bytes) (fd block : Bool) (ix sub : Nat) : State :=
  let c : Client := .can bus ch
  let len := leNat (slice 4 4 fr)
  let form := s.checkForm c ix sub 0 len
  let cause := if form ≠ 0 then form else if s.stagingFull c len then abBusy else abOk
  if cause ≠ 0 then s.bdpAbort bus ch fd (key ix sub) cause false
  else
    let blk := if block then s.bdpConf bus 5 else 0
    let t : Xfer := { kind := if block then .blkWrite else .segWrite, key := key ix sub, total := len, data := [], blk := blk, fd := fd, last := s.now }
    (s.xferStart c t).bdpSend bus ch fd false (bdpHead 0x60 (key ix sub) ++ [byte blk])

/-- The value that a BDP read takes (R39, R69, R72). -/
def State.bdpValue (s : State) (c : Client) (ix sub : Nat) : State × (Nat × Bytes) :=
  if ix = 0x3A21 ∧ sub = 1 then
    match s.dict.stream with
    | none => (s, (abTimeout, []))
    | some st => if st.c = c then ({ s with dict := { s.dict with stream := some { st with last := s.now } } }, (abOk, st.data)) else (s, (abBusy, []))
  else s.readObject c ix sub

/-- Segments of one block of a block read (R61, R66): sequence number, last flag, data. -/
def blockSegs (fd : Bool) (data : Bytes) : Nat → Nat → Nat → List (Bool × Bytes)
  | 0, _, _ => []
  | f + 1, n, off =>
    let m := segBytes fd
    let last := decide (data.length ≤ off + m)
    (last, byte (n + 128 * b2n last) :: slice off m data) :: (if last then [] else blockSegs fd data f (n + 1) (off + m))

/-- The device sends a block of a block read (R66). -/
def State.bdpBlock (s : State) (bus ch : Nat) (t : Xfer) : State :=
  let segs := blockSegs t.fd t.data t.blk 1 t.done
  let s1 := s.xferSet (.can bus ch) { t with seq := segs.length }
  segs.foldl (fun (u : State) e => u.bdpSend bus ch t.fd e.1 e.2) s1

/-- READ_INITIATE and BLOCK_READ_INITIATE (R62 to R64). -/
def State.bdpReadInit (s : State) (bus ch : Nat) (fr : Bytes) (fd block : Bool) (ix sub : Nat) : State :=
  let c : Client := .can bus ch
  let k := key ix sub
  let a := s.checkAccess c false ix sub 0
  let blk := (fr.getD 4 0).toNat
  if a ≠ 0 then s.bdpAbort bus ch fd k a false
  else
    let r := s.bdpValue c ix sub
    let data := r.2.2
    let n := data.length
    if r.2.1 ≠ abOk then r.1.bdpAbort bus ch fd k r.2.1 true
    else if 1 ≤ n ∧ n ≤ 4 then (r.1.answer c k abOk data true).bdpSend bus ch fd false (bdpHead (0x40 + (4 - n)) k ++ data)
    else if s.tagDown c ix then s.bdpAbort bus ch fd k abUnavail false
    else if block ∧ (blk = 0 ∨ 127 < blk) then s.bdpAbort bus ch fd k abRange false
    else
      let t : Xfer := { kind := if block then .blkRead else .segRead, key := k, total := n, data := data, blk := if block then blk else 0, fd := fd, last := s.now }
      let s1 := (r.1.xferStart c t).bdpSend bus ch fd false (bdpHead (if block then 0x48 else 0x44) k ++ leBytes 4 n)
      if block then s1.bdpBlock bus ch ((s1.ctx c).xfer.getD t) else s1

/-- Bytes of a last segment that an object length leaves unused (R61 to R63); none in FD. -/
def unusedOf (fd : Bool) (total : Nat) : Nat :=
  if fd then 0 else if total = 0 then 7 else 6 - (total - 1) % 7

/-- The device's end frame with its tag (R64); a block read waits for its acknowledgement. -/
def State.bdpReadEnd (s : State) (bus ch : Nat) (t : Xfer) : State :=
  let c : Client := .can bus ch
  let tag := (s.ctx c).readTag 7 (t.key / 256) (t.key % 256) t.data
  (s.xferSet c { t with ended := true }).bdpSend bus ch t.fd false (byte (0xA0 + unusedOf t.fd t.total) :: padTo 7 tag)

/-- A read over BDP has completed (R46, R72): a stream read in whole closes. -/
def State.bdpReadDone (s : State) (c : Client) (t : Xfer) : State :=
  let s1 := (s.xferDrop c).answer c t.key abOk t.data true
  if t.key = key 0x3A21 1 then
    ({ s1 with dict := { s1.dict with stream := if s1.dict.stream.any (fun q => q.c == c) then none else s1.dict.stream } } : State).setCtx
      { s1.ctx c with expState := 0 }
  else s1

/-- SEGMENTED_READ_REQUEST (R62, R63, R65). -/
def State.bdpReadSeg (s : State) (bus ch : Nat) (fr : Bytes) (t : Xfer) : State :=
  let c : Client := .can bus ch
  let tog := bit (fr.getD 0 0).toNat 4
  if t.kind ≠ .segRead ∨ tog ≠ t.toggle then s.bdpAbort bus ch t.fd t.key abSequence false
  else
    let m := segBytes t.fd
    let last := decide (t.total ≤ t.done + m)
    let data := slice t.done m t.data
    let unused := if t.fd then 0 else 7 - data.length
    let t1 : Xfer := { t with done := t.done + data.length, toggle := !t.toggle }
    let s1 := (s.xferSet c t1).bdpSend bus ch t.fd last (byte (16 * b2n tog + 2 * unused + b2n last) :: data)
    if last then (s1.bdpReadEnd bus ch t1).bdpReadDone c t1 else s1

/-- BLOCK_READ_ACKNOWLEDGEMENT (R66). -/
def State.bdpReadAck (s : State) (bus ch : Nat) (fr : Bytes) (t : Xfer) : State :=
  let good := (fr.getD 1 0).toNat
  let blk := (fr.getD 2 0).toNat
  if t.kind ≠ .blkRead ∨ t.ended ∨ t.seq < good then s.bdpAbort bus ch t.fd t.key abSequence false
  else
    let done := min t.total (t.done + good * segBytes t.fd)
    if done = t.total ∧ good ≠ 0 then s.bdpReadEnd bus ch { t with done := done }
    else if blk = 0 ∨ 127 < blk then s.bdpAbort bus ch t.fd t.key abRange false
    else s.bdpBlock bus ch { t with done := done, blk := blk }

/-- BLOCK_READ_END_ACKNOWLEDGEMENT (R64). -/
def State.bdpReadEndAck (s : State) (bus ch : Nat) (t : Xfer) : State :=
  if t.kind = .blkRead ∧ t.ended then s.bdpReadDone (.can bus ch) t else s.bdpAbort bus ch t.fd t.key abSequence false

/-- The data bytes of a write's segment agree with the object length (R61). -/
def segFits (t : Xfer) (last : Bool) (frLen : Nat) : Bool :=
  let left := t.total - t.data.length
  let m := segBytes t.fd
  if last then decide (left ≤ m) && (decide (0 < left) || t.total == 0) && (!t.fd || frLen == dlcBytes true (dlcFor (1 + left)))
  else decide (m ≤ left) && (!t.fd || frLen == 64)

/-- SEGMENTED_WRITE_SEGMENT (R61, R62, R65). -/
def State.bdpWriteSeg (s : State) (bus ch : Nat) (fr : Bytes) (t : Xfer) : State :=
  let b0 := (fr.getD 0 0).toNat
  let tog := bit b0 4
  let last := bit b0 0
  let left := t.total - t.data.length
  let m := segBytes t.fd
  let unused := if t.fd || !last then 0 else 7 - left
  if t.kind ≠ .segWrite ∨ tog ≠ t.toggle then s.bdpAbort bus ch t.fd t.key abSequence false
  else if t.ended ∨ !segFits t last fr.length ∨ b0 / 2 % 8 ≠ unused then s.bdpAbort bus ch t.fd t.key abLength false
  else
    let t1 : Xfer := { t with data := t.data ++ slice 1 (min m left) fr, toggle := !t.toggle, ended := last }
    (s.xferSet (.can bus ch) t1).bdpSend bus ch t.fd false [byte (0x20 + 16 * b2n tog)]

/-- BLOCK_WRITE_SEGMENT (R61, R66). -/
def State.bdpBlockSeg (s : State) (bus ch : Nat) (fr : Bytes) (t : Xfer) : State :=
  let b0 := (fr.getD 0 0).toNat
  let sq := b0 % 128
  let last := bit b0 7
  let next := decide (sq = t.seq + 1)
  let left := t.total - t.data.length
  if next && !segFits t last fr.length then s.bdpAbort bus ch t.fd t.key abLength false
  else
    let t1 : Xfer := if next then { t with data := t.data ++ slice 1 (min (segBytes t.fd) left) fr, seq := sq, ended := last } else t
    if last ∨ sq = t.blk then
      let blk := s.bdpConf bus 5
      (s.xferSet (.can bus ch) { t1 with seq := 0, blk := blk }).bdpSend bus ch t.fd false [0x68, byte t1.seq, byte blk]
    else s.xferSet (.can bus ch) t1

/-- WRITE_END (R39 checks 10 and 11, R61, R64). -/
def State.bdpWriteEnd (s : State) (bus ch : Nat) (fr : Bytes) (t : Xfer) : State :=
  let c : Client := .can bus ch
  let ix := t.key / 256
  let sub := t.key % 256
  if t.kind ≠ .segWrite ∧ t.kind ≠ .blkWrite then s.bdpAbort bus ch t.fd t.key abSequence false
  else if !t.ended ∨ (fr.getD 0 0).toNat % 8 ≠ unusedOf t.fd t.total then s.bdpAbort bus ch t.fd t.key abLength false
  else if s.tagDown c ix then s.bdpAbort bus ch t.fd t.key abUnavail false
  else
    let r := if (s.ctx c).tagged && ix != 0x1110 then s.tagCheck c ix sub t.data (slice 1 7 fr) else (s, true)
    if !r.2 then r.1.bdpAbort bus ch t.fd t.key abAuthFail false
    else
      let cause := r.1.valueCause c ix sub (leNat t.data)
      if cause ≠ 0 then r.1.bdpAbort bus ch t.fd t.key cause true else r.1.bdpCommit c t ix sub

/-- Kinds of client frame (R62). -/
inductive BdpKind where
  | expedited | segWrite | blkWrite | read | blkRead | segment | blockSegment | readRequest | readAck | readEndAck | writeEnd | abort | none
  deriving DecidableEq, Repr

/-- The data phase of a block write (R62): the device reads byte 0 as last flag and sequence number. -/
def State.blockPhase (s : State) (bus ch : Nat) : Bool :=
  (s.ctx (.can bus ch)).xfer.any (fun t => t.kind == .blkWrite && !t.ended)

/-- What a client frame is (R62). -/
def State.bdpKind (s : State) (bus ch : Nat) (fr : Bytes) : BdpKind :=
  let b := (fr.getD 0 0).toNat
  if b = 0x80 then .abort
  else if s.blockPhase bus ch then .blockSegment
  else if b < 0x20 then .segment
  else if b < 0x24 then .expedited
  else if b = 0x24 then .segWrite
  else if b = 0x28 then .blkWrite
  else if b = 0x40 then .read
  else if b = 0x48 then .blkRead
  else if b = 0x60 ∨ b = 0x70 then .readRequest
  else if b = 0x68 then .readAck
  else if b = 0x6C then .readEndAck
  else if 0xA0 ≤ b ∧ b ≤ 0xA6 then .writeEnd
  else .none

/-- A frame of the client's format is one of BDP (R60, R61): classical with DLC 8; FD, where it is allowed, with DLC 15 but for a short last segment. -/
def State.bdpForm (s : State) (bus : Nat) (fr : Bytes) (fd segment : Bool) : Bool :=
  if fd then s.bdpConf bus 6 != 0 && (fr.length == 64 || (segment && !fr.isEmpty)) else fr.length == 8

/-- A client frame in a transfer (R65 to R68). -/
def State.bdpInXfer (s : State) (bus ch : Nat) (fr : Bytes) (t : Xfer) : BdpKind → State
  | .abort => (s.dropPending (.can bus ch)).xferDrop (.can bus ch)
  | .segment => if t.commit then s else s.bdpWriteSeg bus ch fr t
  | .blockSegment => s.bdpBlockSeg bus ch fr t
  | .readRequest => if t.commit then s else s.bdpReadSeg bus ch fr t
  | .readAck => if t.commit then s else s.bdpReadAck bus ch fr t
  | .readEndAck => if t.commit then s else s.bdpReadEndAck bus ch t
  | .writeEnd => if t.commit then s else s.bdpWriteEnd bus ch fr t
  | _ => s

/-- A new initiate (R62, R68): a transfer in progress ends with SEQUENCE first. -/
def State.bdpInitiate (s : State) (bus ch : Nat) (fr : Bytes) (fd : Bool) (k : BdpKind) : State :=
  let c : Client := .can bus ch
  let ix := leNat (slice 1 2 fr)
  let sub := (fr.getD 3 0).toNat
  let s1 := match (s.ctx c).xfer with
    | some t => (s.dropPending c).bdpAbort bus ch t.fd t.key abSequence false
    | none => s
  match k with
  | .expedited => s1.bdpExpedited bus ch fr fd ix sub
  | .segWrite => s1.bdpWriteInit bus ch fr fd false ix sub
  | .blkWrite => s1.bdpWriteInit bus ch fr fd true ix sub
  | .read => s1.bdpReadInit bus ch fr fd false ix sub
  | .blkRead => s1.bdpReadInit bus ch fr fd true ix sub
  | _ => s1

/-- The client of a channel has sent a frame: its session is not idle, and its stream is in use (R44, R72). -/
def State.bdpTouch (s : State) (c : Client) : State :=
  let s1 := if (s.ctx c).st = 2 then s.setCtx { s.ctx c with lastUse := s.now } else s
  match s1.dict.stream with
  | some st => if st.c = c && (s1.ctx c).xfer.any (fun t => t.key == key 0x3A21 1) then
      { s1 with dict := { s1.dict with stream := some { st with last := s1.now } } } else s1
  | none => s1

/-- A frame on a channel's request identifier (R60 to R68). -/
def State.bdpFrame (s : State) (bus ch : Nat) (fr : Bytes) (fd : Bool) : State :=
  let c : Client := .can bus ch
  let k := s.bdpKind bus ch fr
  if !s.bdpForm bus fr fd (k == .segment || k == .blockSegment) then s
  else
    let s1 := s.bdpTouch c
    match k with
    | .none => s1
    | .expedited | .segWrite | .blkWrite | .read | .blkRead => s1.bdpInitiate bus ch fr fd k
    | _ =>
      match (s1.ctx c).xfer with
      | none => s1
      | some t => if t.fd = fd then s1.bdpInXfer bus ch fr t k else s1

/-- A received frame with an identifier of BDP requests (R46, R60, R425). -/
def State.bdpRx (s : State) (bus : Nat) (f : CanFrame) : State :=
  if !s.powered then s
  else
    let s1 := s.bdpConfig bus
    let q := s1.bdpConf bus 2
    if !f.ide && !f.rtr && bit (s1.bdpConf bus 1) bus && decide (q ≤ f.id) && decide (f.id < q + 16) then s1.bdpFrame bus (f.id - q) f.data f.fdf
    else s1

/-- TRANSFER_TIMEOUT (R67, R76). -/
def State.bdpTimeout (s : State) (bus ch : Nat) : State :=
  let c : Client := .can bus ch
  match (s.ctx c).xfer with
  | none => s
  | some t =>
    if s.powered && !t.commit && decide (t.last + s.bdpConf bus 4 * msNs ≤ s.now) then
      let s1 := s.bdpAbort bus ch t.fd t.key abTimeout false
      ({ s1 with dict := { s1.dict with segTimeouts := satAdd 32 s1.dict.segTimeouts 1 } } : State).dictEvent 0x1104 (256 * t.key + channelOf c)
    else s

/-- Writes over BDP that have been answered send write complete or an abort (R63, R67). -/
def State.bdpRespond (s : State) : State :=
  s.dict.clients.foldl (fun (u : State) x =>
    match x.c, x.xfer, x.reply with
    | .can bus ch, some t, some r =>
      if !t.commit then u
      else
        let u1 := u.xferDrop x.c
        if r.abort = abOk then u1.bdpSend bus ch t.fd false (bdpHead 0x61 t.key) else u1.bdpAbortFrame bus ch t.fd t.key r.abort
    | _, _, _ => u) s

/-- The extra delay after a master conflict, of 65,536 (R437, R327): drawn from channel 1, or the midpoint. -/
def State.conflictDelay (s : State) : State × Nat :=
  match s.draw 1 2 with
  | some (t, b) => (t, beNat b)
  | none => (s, 32768)

/-- A reference frame that the Bellwether takes (R433 to R437). -/
def State.bellRx (s : State) (bus : Nat) (f : CanFrame) : State :=
  if bus ≠ s.bellBus then s
  else if s.bellTakes f 1 then
    let prio := (f.data.getD 1 0).toNat % 16
    let r := if s.bell.st = 3 && prio == s.bellObj 5 then s.conflictDelay else (s, 0)
    r.1.bellRefRx f r.2
  else if s.bellTakes f 2 then s.bellEpochRx f
  else s

/-- A frame received without error on a bus (R425, R426): the device's own filters and the host's. -/
def State.frameIn (s : State) (bus : Nat) (f : CanFrame) (latchClock : Bool) : State :=
  if !s.powered || !s.canHears bus then s
  else ((((s.canDeliver bus f latchClock).requestFrame bus f).engineFrame f).bellRx bus f).bdpRx bus f

/-- A frame heard on a channel's request identifier, of one kind of client frame. -/
def State.bdpHeard (s : State) (bus ch : Nat) (fr : Bytes) (fd : Bool) (mine : BdpKind → Bool) : State :=
  let dlc := dlcFor fr.length
  if bus < 2 && ch < 16 && dlcBytes fd dlc == fr.length && mine (s.bdpKind bus ch fr) then
    s.frameIn bus { id := (s.bdpConfig bus).bdpConf bus 2 + ch, fdf := fd, brs := fd, dlc := dlc, data := fr } false
  else s

end Sys2Proof.Machine
end

