-- ==== Sys2Proof/Machine/Sched.lean ====
section
/-! DEFINITION. The event scheduler's tests and what an entry does as it fires (R404 to R406, R412). -/

namespace Sys2Proof.Machine

open Sys2Proof

/-- The flags of a SAMPLE record (R406). -/
def State.sampleFlags (s : State) (skipped : Bool) : Nat :=
  128 * b2n (s.dist.link == 2) + 64 * b2n (bit s.rr.tamper 4) + 32 * b2n (bit s.rr.tamper 5) + 16 * b2n s.gnss.valid + 8 * b2n s.bell.valid +
  4 * b2n s.sup.rc + 2 * b2n s.sched.parked + b2n skipped

/-- One mapped object of a SAMPLE record (R406). -/
def State.sampleObj (s : State) (k : Nat) : Bytes :=
  let ix := k / 256
  let sub := k % 256
  leBytes 2 ix ++ [byte sub, byte (wireLen ix sub)] ++ [0, 0, 0, 0] ++ leBytes 8 (s.present .host ix sub)

/-- The content of a SAMPLE record (R406). -/
def State.sampleBody (s : State) (e skipped : Nat) : Bytes :=
  let g := s.gnss
  let pos := leBytes 4 (twos 32 g.lat) ++ leBytes 4 (twos 32 g.lon) ++ leBytes 2 g.speed ++ leBytes 2 g.course ++ [byte g.sats, byte g.hdop]
  [byte e, byte (s.schedConf e 1)] ++ leBytes 2 s.dist.speed ++ [byte (s.distance % 100), byte (s.sampleFlags (skipped != 0))] ++
  leBytes 2 (min skipped 65535) ++ (if g.valid then pos else List.replicate 14 0) ++ [0, 0] ++
  ((mappedKeys (s.schedConf e 6)).filter sampleable).flatMap s.sampleObj

/-- An entry fires (R404, R405, R412). -/
def State.schedFire (s : State) (e skipped : Nat) : State :=
  let a := s.schedConf e 4
  let s1 := if bit a 0 then
      let t := s.record 0x0030 (s.sampleBody e skipped)
      { t with sched := { t.sched with parked := false } }
    else s
  let s2 := s1.emitIf (bit a 1) 0x32 0x4405 (e + 256 * s.schedConf e 1)
  s2.emitIf (skipped != 0) 0x32 0x4406 (e + 65536 * min skipped 65535)

/-- An entry with P = 0 that has fired disables itself, once no fence is up (R404). -/
def State.schedDisable (s : State) (e : Nat) : State :=
  let r : SchedEntry := kvGet {} s.sched.es e
  if r.spent && !s.fenced && s.objB (schedIx e) 5 then
    let s1 := s.commitObj (schedIx e) 5 0
    { s1 with sched := { s1.sched with es := kvPut s1.sched.es e { r with cfg := s1.snapRange (schedIx e) (schedIx e) } } }
  else s

/-- The test of one entry (R404, R405). -/
def State.schedTest1 (s : State) (e : Nat) : State :=
  let r : SchedEntry := kvGet {} s.sched.es e
  if r.cfg ≠ s.snapRange (schedIx e) (schedIx e) then s.schedTake e
  else
    let p := s.schedConf e 3
    let put := fun (t : State) (q : SchedEntry) => { t with sched := { t.sched with es := kvPut t.sched.es e q } }
    match s.basis (s.schedConf e 1), r.next with
    | none, _ => put s { r with valid := false }
    | some v, none => put s { r with valid := true, seen := v }
    | some v, some n =>
      if v < r.seen then put s { r with valid := true, seen := v, next := nextDue (s.schedConf e 2) p v }
      else if v < n then put s { r with valid := true, seen := v }
      else
        let k := if p = 0 then 0 else (v - n) / p
        let q : SchedEntry := { r with
          valid := true, seen := v, next := nextDue (s.schedConf e 2) p v, fired := satAdd 32 r.fired 1, skipped := satAdd 32 r.skipped k, spent := p == 0 }
        ((put s q).schedFire e k).schedDisable e

/-- A step of NETWORK or GNSS by more than 1 s against LOCAL (R405, R412). -/
def State.basisStep (s : State) (b : Nat) (before : Option Int) : State × Option Int :=
  match s.basis b with
  | none => (s, before)
  | some v =>
    let off : Int := (v : Int) - (s.ms : Int)
    let d := off - before.getD off
    (s.emitIf (decide (1000 < d.natAbs)) 0x32 0x4407 (b + 65536 * twos 16 (clampI 16 (d.tdiv 1000))), some off)

/-- The steps of both bases (R405). -/
def State.basisSteps (s : State) : State :=
  let r := s.basisStep 3 s.sched.netOff
  let q := r.1.basisStep 4 r.1.sched.gnssOff
  { q.1 with sched := { q.1.sched with netOff := r.2, gnssOff := q.2 } }

/-- A test is due (R404): 1 ms has passed, or the distance has moved by a metre. -/
def State.schedDue (s : State) : Bool :=
  decide (s.sched.last + msNs ≤ s.now) || s.sched.es.any (fun x => s.schedConf x.1 1 == 2 && x.2.seen != s.distance)

/-- SCHEDULER_TEST (R404, R405). -/
def State.schedTest (s : State) : State :=
  if s.powered && s.serving 0x32 && s.schedDue then
    let s1 : State := if s.sched.last + msNs ≤ s.now then { s with sched := { s.sched with last := s.now } }.basisSteps else s
    (List.range 24).foldl (fun (t : State) e => (t.schedTest1 e).schedDisable e) s1
  else s

end Sys2Proof.Machine
end

