-- ==== Sys2Proof/Machine/Settle.lean ====
section
/-! DEFINITION. What follows a command before the next one: the consequences that the manual has the device draw at once, in a fixed order. -/

namespace Sys2Proof.Machine

open Sys2Proof

/-- Units, sessions and policy follow what has changed (R32, R192, R218, R239, R454). -/
def State.follow (s : State) : State := s.followRanging.followLevel.stepSix.parkAdvance.engineSync

/-- Storage follows (R55, R226, R300, R339, R364). -/
def State.store (s : State) : State := s.applyMarks.applyStale.policyStore.journalPump.nvPump.journalSays

/-- The transports answer, and the new-data flags follow (R52, R58, R63). -/
def State.respond (s : State) : State := s.hostRespond.bdpRespond.fastFlags

/-- The consequences that are outstanding (R459 first; nothing else while the control domain does not run). -/
def State.settle (s : State) : State :=
  let s1 := s.takeActs.takeActs
  if s1.powered then s1.follow.store.publish.respond else s1

/-- The state as a command finds it: what the commands before it left to do is done, and dt nanoseconds have passed (log entry 5). -/
def State.turn (s : State) (dt : Nat) : State := s.settle.tick dt

/-- A command's outcome. No command touches the queue of those that wait. -/
def finish (before after : State) : Out := .next { after with pending := before.pending }

end Sys2Proof.Machine
end

