-- ==== Sys2Proof/Machine/Operands.lean ====
section
/-! DEFINITION. The operand forms of the commands: clients and the objects they ask for, units, timers, buses and buffers by number, and the
sources of policy's requests. -/

namespace Sys2Proof.Machine

open Sys2Proof

/-- A client that exists (R41): the host port, or one of 16 channels on one of two buses. -/
def realClient : Client → Bool
  | .host => true
  | .can b ch => decide (b < 2) && decide (ch < 16)

/-- A client has one request at a time (R53, R55, R60): none of its own waits for its outcome. -/
def State.clientFree (s : State) (c : Client) : Bool :=
  !s.dict.commits.any (fun x => x.c == c) && !s.rng.waits.any (fun w => w.c == c) && !s.tag.jobs.any (fun j => j.kind == .host c) &&
  (match c with
    | .host => !s.host.busy || s.host.avail
    | .can _ _ => !(s.ctx c).xfer.any (fun t => t.commit))

/-- A client's request reaches the dictionary: not while the control domain does not run, and not while an earlier one of its own waits. -/
def State.asked (s : State) (c : Client) (f : State → State) : State :=
  if s.powered && realClient c && s.clientFree c then f s else s

/-- A client writes a value to an object (R39). -/
def State.asksWrite (s : State) (c : Client) (ix sub : Nat) (data : Bytes) : State := s.asked c (fun t => t.writeRequest c ix sub data)

/-- A client reads an object (R39). -/
def State.asksRead (s : State) (c : Client) (ix sub : Nat) : State := s.asked c (fun t => t.readRequest c ix sub)

/-- What happens only while the control domain runs (R452, R456). -/
def State.whenOn (s : State) (f : State → State) : State := if s.powered then f s else s

/-- The index of a unit's descriptor (R14), 0 for no unit. -/
def baseOf (uid : Nat) : Nat := ((unitFind uid).map (·.base)).getD 0

/-- The index of timer n's objects (R409), 0 for no timer. -/
def timerIx (n : Nat) : Nat := if n < 8 then 0x4510 + n else 0

/-- The index of an object of controller bus (R441), 0 for no controller. -/
def busIx (ix bus : Nat) : Nat := if bus < 2 then ix + 0x100 * bus else 0

/-- The index of transmit buffer b of controller bus (R441), 0 for no buffer. -/
def bufIx (bus b : Nat) : Nat := if b < 3 then busIx (0x4110 + b) bus else 0

/-- What happens at a controller: while the control domain runs, on a bus that exists. -/
def State.onBus (s : State) (bus : Nat) (f : State → State) : State := if bus < 2 then s.whenOn f else s

/-- A policy request of a code from a source (R219). -/
def State.policyAsk (s : State) (src : Source) (code : Nat) : State :=
  match src with
  | .host c => s.asksWrite c 0x2A20 1 [byte code]
  | .can => s.whenOn (fun t => if t.outputsHear && t.outNow 0x2A21 3 == 1 then t.policyRequest code 2 else t)
  | .door => s.whenOn (fun t => if code = 1 then t.policyRequest code 1 else t)
  | .walkAway => s.whenOn (fun t => if code = 3 then t.policyRequest code 4 else t)

/-- A capture source of timer n other than the capture-trigger object fires (R383, R384). -/
def State.captureSource (s : State) (n : Nat) (latchClock : Bool) : State :=
  let k := s.obj (timerIx n) 6
  if n < 8 ∧ 1 ≤ k ∧ k ≤ 5 then (if latchClock then s.captureLatch n else s.captureNow n) else s

/-- A transmitted frame ends (R421 to R423); a Bellwether frame that has been sent gives its instant (R432, R434). -/
def State.frameEnds (s : State) (bus : Nat) (o : FrameOutcome) : State :=
  let x := s.ctl bus
  let s1 := s.frameEnd bus o
  match x.cur, x.queue.head?, o with
  | some t, some f, .sent _ => if t.buf.isNone && f.cls == .bellwether then s1.bellSent f.epoch t.start else s1
  | _, _, _ => s1

end Sys2Proof.Machine
end

