-- ==== Sys2Proof/Machine/CmdBdp.lean ====
section
/-! DEFINITION. The meanings of commands: The Bredric Dictionary Protocol, one meaning for each frame of R62 (R60 to R68). -/

namespace Sys2Proof.Machine

open Sys2Proof

/-- EXPEDITED_WRITE (R62, R64). -/
def execExpeditedWrite (dt : Nat) (bus chan : Nat) (fr : Bytes) (fd : Bool) (s : State) : Out :=
  let t := s.turn dt
  finish s (t.bdpHeard bus chan fr fd (fun k => k == .expedited))

/-- SEGMENTED_WRITE_INITIATE (R62). -/
def execSegmentedWriteInitiate (dt : Nat) (bus chan : Nat) (fr : Bytes) (fd : Bool) (s : State) : Out :=
  let t := s.turn dt
  finish s (t.bdpHeard bus chan fr fd (fun k => k == .segWrite))

/-- BLOCK_WRITE_INITIATE (R62, R66). -/
def execBlockWriteInitiate (dt : Nat) (bus chan : Nat) (fr : Bytes) (fd : Bool) (s : State) : Out :=
  let t := s.turn dt
  finish s (t.bdpHeard bus chan fr fd (fun k => k == .blkWrite))

/-- READ_INITIATE (R62, R64). -/
def execReadInitiate (dt : Nat) (bus chan : Nat) (fr : Bytes) (fd : Bool) (s : State) : Out :=
  let t := s.turn dt
  finish s (t.bdpHeard bus chan fr fd (fun k => k == .read))

/-- BLOCK_READ_INITIATE (R62, R66). -/
def execBlockReadInitiate (dt : Nat) (bus chan : Nat) (fr : Bytes) (fd : Bool) (s : State) : Out :=
  let t := s.turn dt
  finish s (t.bdpHeard bus chan fr fd (fun k => k == .blkRead))

/-- SEGMENTED_WRITE_SEGMENT (R62, R65). -/
def execSegmentedWriteSegment (dt : Nat) (bus chan : Nat) (fr : Bytes) (fd : Bool) (s : State) : Out :=
  let t := s.turn dt
  finish s (t.bdpHeard bus chan fr fd (fun k => k == .segment))

/-- BLOCK_WRITE_SEGMENT (R62, R66). -/
def execBlockWriteSegment (dt : Nat) (bus chan : Nat) (fr : Bytes) (fd : Bool) (s : State) : Out :=
  let t := s.turn dt
  finish s (t.bdpHeard bus chan fr fd (fun k => k == .blockSegment))

/-- SEGMENTED_READ_REQUEST (R62, R65). -/
def execSegmentedReadRequest (dt : Nat) (bus chan : Nat) (fr : Bytes) (fd : Bool) (s : State) : Out :=
  let t := s.turn dt
  finish s (t.bdpHeard bus chan fr fd (fun k => k == .readRequest))

/-- BLOCK_READ_ACKNOWLEDGEMENT (R62, R66). -/
def execBlockReadAcknowledgement (dt : Nat) (bus chan : Nat) (fr : Bytes) (fd : Bool) (s : State) : Out :=
  let t := s.turn dt
  finish s (t.bdpHeard bus chan fr fd (fun k => k == .readAck))

/-- BLOCK_READ_END_ACKNOWLEDGEMENT (R62, R64). -/
def execBlockReadEndAcknowledgement (dt : Nat) (bus chan : Nat) (fr : Bytes) (fd : Bool) (s : State) : Out :=
  let t := s.turn dt
  finish s (t.bdpHeard bus chan fr fd (fun k => k == .readEndAck))

/-- WRITE_END (R62, R64). -/
def execWriteEnd (dt : Nat) (bus chan : Nat) (fr : Bytes) (fd : Bool) (s : State) : Out :=
  let t := s.turn dt
  finish s (t.bdpHeard bus chan fr fd (fun k => k == .writeEnd))

/-- ABORT (R62, R68). -/
def execAbort (dt : Nat) (bus chan : Nat) (fr : Bytes) (fd : Bool) (s : State) : Out :=
  let t := s.turn dt
  finish s (t.bdpHeard bus chan fr fd (fun k => k == .abort))

/-- TRANSFER_TIMEOUT (R67). -/
def execTransferTimeout (dt : Nat) (bus chan : Nat) (s : State) : Out :=
  let t := s.turn dt
  finish s (t.bdpTimeout bus chan)

end Sys2Proof.Machine
end

