-- ==== Sys2Proof/Machine/CmdCan.lean ====
section
/-! DEFINITION. The meanings of commands: The CAN controllers and the Bellwether (R413 to R443). -/

namespace Sys2Proof.Machine

open Sys2Proof

/-- FRAME_RECEIVED (R425 to R429). -/
def execFrameReceived (dt : Nat) (bus : Nat) (f : CanFrame) (latchClock : Bool) (s : State) : Out :=
  let t := s.turn dt
  finish s (t.frameIn bus f latchClock)

/-- NEXT_RECORD (R428). -/
def execNextRecord (dt : Nat) (c : Client) (bus : Nat) (s : State) : Out :=
  let t := s.turn dt
  finish s (t.asksRead c (busIx 0x4130 bus) 3)

/-- HIGH_PRIORITY_RECORD (R429). -/
def execHighPriorityRecord (dt : Nat) (c : Client) (bus : Nat) (s : State) : Out :=
  let t := s.turn dt
  finish s (t.asksRead c (busIx 0x4131 bus) 2)

/-- CLEAR_OVERRUN (R429). -/
def execClearOverrun (dt : Nat) (c : Client) (bus : Nat) (s : State) : Out :=
  let t := s.turn dt
  finish s (t.asksWrite c (busIx 0x4131 bus) 3 [1])

/-- TX_REQUEST (R415, R424). -/
def execTxRequest (dt : Nat) (c : Client) (bus b : Nat) (s : State) : Out :=
  let t := s.turn dt
  finish s (t.asksWrite c (bufIx bus b) 5 [1])

/-- TX_ABORT (R423). -/
def execTxAbort (dt : Nat) (c : Client) (bus b : Nat) (s : State) : Out :=
  let t := s.turn dt
  finish s (t.asksWrite c (bufIx bus b) 5 [2])

/-- TX_CHOICE (R419, R421). -/
def execTxChoice (dt : Nat) (bus : Nat) (s : State) : Out :=
  let t := s.turn dt
  finish s (t.onBus bus (fun u => u.txChoice bus))

/-- FRAME_END (R421 to R423, R432, R434). -/
def execFrameEnd (dt : Nat) (bus : Nat) (o : FrameOutcome) (s : State) : Out :=
  let t := s.turn dt
  finish s (t.onBus bus (fun u => u.frameEnds bus o))

/-- RECOVERY_DELAY (R430). -/
def execRecoveryDelay (dt : Nat) (bus : Nat) (s : State) : Out :=
  let t := s.turn dt
  finish s (t.onBus bus (fun u => u.recoveryDelay bus))

/-- RECOVER (R430). -/
def execRecover (dt : Nat) (c : Client) (bus : Nat) (s : State) : Out :=
  let t := s.turn dt
  finish s (t.asksWrite c (busIx 0x4102 bus) 6 [1])

/-- BUS_RECOVERED (R430). -/
def execBusRecovered (dt : Nat) (bus : Nat) (s : State) : Out :=
  let t := s.turn dt
  finish s (t.onBus bus (fun u => u.busRecovered bus))

/-- INTEGRATED (R439). -/
def execIntegrated (dt : Nat) (bus : Nat) (s : State) : Out :=
  let t := s.turn dt
  finish s (t.onBus bus (fun u => u.canIntegrated bus))

/-- CAN_CLOCK_RC (R419). -/
def execCanClockRc (dt : Nat) (bus : Nat) (s : State) : Out :=
  let t := s.turn dt
  finish s (t.onBus bus (fun u => u.canClock bus))

/-- REF (R434). -/
def execRef (dt : Nat) (s : State) : Out :=
  let t := s.turn dt
  finish s (t.whenOn State.bellRef)

/-- REF_RECEIVED (R435, R437). -/
def execRefReceived (dt : Nat) (f : CanFrame) (s : State) : Out :=
  let t := s.turn dt
  finish s (if t.bellTakes f 1 then t.frameIn t.bellBus f false else t)

/-- EPOCH_RECEIVED (R435, R436). -/
def execEpochReceived (dt : Nat) (f : CanFrame) (s : State) : Out :=
  let t := s.turn dt
  finish s (if t.bellTakes f 2 then t.frameIn t.bellBus f false else t)

/-- MASTER_TAKEN (R434, R437). -/
def execMasterTaken (dt : Nat) (s : State) : Out :=
  let t := s.turn dt
  finish s (t.whenOn State.bellTake)

/-- REF_TIMEOUT (R436). -/
def execRefTimeout (dt : Nat) (s : State) : Out :=
  let t := s.turn dt
  finish s (t.whenOn State.bellTimeout)

/-- CAN_RECEIVE_ERROR (R413, R430). -/
def execCanReceiveError (dt : Nat) (bus : Nat) (code : Nat) (dataPhase : Bool) (s : State) : Out :=
  let t := s.turn dt
  finish s (t.onBus bus (fun u => u.canRxError bus code dataPhase))

end Sys2Proof.Machine
end

