-- ==== Sys2Proof/Machine/CmdHost.lean ====
section
/-! DEFINITION. The meanings of commands: The host port, objects, sessions, events and the fast map (R39 to R59, R69 to R75). -/

namespace Sys2Proof.Machine

open Sys2Proof

/-- NOP (R48). -/
def execNop (dt : Nat) (words : List Word) (s : State) : Out :=
  let t := s.turn dt
  finish s (t.transaction words (hostOp words == 0) (fun u => u))

/-- IGNORED_OPCODE (R48). -/
def execIgnoredOpcode (dt : Nat) (words : List Word) (s : State) : Out :=
  let t := s.turn dt
  finish s (t.transaction words (decide (5 ≤ hostOp words)) (fun u => u))

/-- REQ_READ (R50, R51, R56, R69, R72). -/
def execReqRead (dt : Nat) (words : List Word) (s : State) : Out :=
  let t := s.turn dt
  finish s (t.transaction words (hostOp words == 1) (fun u => u.hostFrame words))

/-- REQ_WRITE (R50, R51, R56). -/
def execReqWrite (dt : Nat) (words : List Word) (s : State) : Out :=
  let t := s.turn dt
  finish s (t.transaction words (hostOp words == 2) (fun u => u.hostFrame words))

/-- RESPONSE (R52). -/
def execResponse (dt : Nat) (words : List Word) (s : State) : Out :=
  let t := s.turn dt
  finish s (t.transaction words (hostOp words == 3) (fun u => u.hostTake (words.length - 1)))

/-- FAST_READ (R57, R58). -/
def execFastRead (dt : Nat) (words : List Word) (s : State) : Out :=
  let t := s.turn dt
  finish s (t.transaction words (hostOp words == 4) (fun u => u.hostFast words))

/-- OBJECT_WRITE (R39, R55). -/
def execObjectWrite (dt : Nat) (c : Client) (idx sub : Nat) (data : Bytes) (s : State) : Out :=
  let t := s.turn dt
  finish s (t.asksWrite c idx sub data)

/-- PERSISTENT_COMMIT (R55). -/
def execPersistentCommit (dt : Nat) (c : Client) (s : State) : Out :=
  let t := s.turn dt
  finish s (t.persistentCommit c)

/-- NV_FENCED (R55). -/
def execNvFenced (dt : Nat) (c : Client) (s : State) : Out :=
  let t := s.turn dt
  finish s (t.nvFenced c)

/-- ROLE (R40). -/
def execRole (dt : Nat) (c : Client) (code : Nat) (s : State) : Out :=
  let t := s.turn dt
  finish s (t.asksWrite c 0x1110 1 (leBytes 1 code))

/-- PROOF (R40 to R42). -/
def execProof (dt : Nat) (c : Client) (data : Bytes) (s : State) : Out :=
  let t := s.turn dt
  finish s (t.asksWrite c 0x1110 7 data)

/-- SESSION_OPEN_TIMEOUT (R40). -/
def execSessionOpenTimeout (dt : Nat) (c : Client) (s : State) : Out :=
  let t := s.turn dt
  finish s (t.openTimeout c)

/-- CLOSE (R44). -/
def execClose (dt : Nat) (c : Client) (s : State) : Out :=
  let t := s.turn dt
  finish s (t.asksWrite c 0x1110 8 [1])

/-- SESSION_IDLE_TIMEOUT (R44). -/
def execSessionIdleTimeout (dt : Nat) (c : Client) (s : State) : Out :=
  let t := s.turn dt
  finish s (t.idleTimeout c)

/-- PROOF_HOLD_OFF_END (R44). -/
def execProofHoldOffEnd (dt : Nat) (c : Client) (s : State) : Out :=
  let t := s.turn dt
  finish s (t.whenOn (fun u => u.holdOffEnd c))

/-- NEXT_EVENT (R74). -/
def execNextEvent (dt : Nat) (c : Client) (s : State) : Out :=
  let t := s.turn dt
  finish s (t.asksRead c 0x1181 1)

/-- CLEAR_LOST_COUNT (R75). -/
def execClearLostCount (dt : Nat) (c : Client) (s : State) : Out :=
  let t := s.turn dt
  finish s (t.asksWrite c 0x1180 4 [1])

/-- APPLY_FAST_MAP (R59). -/
def execApplyFastMap (dt : Nat) (c : Client) (s : State) : Out :=
  let t := s.turn dt
  finish s (t.asksWrite c 0x5021 1 [1])

/-- STREAM_IDLE_TIMEOUT (R72). -/
def execStreamIdleTimeout (dt : Nat) (s : State) : Out :=
  let t := s.turn dt
  finish s (t.streamIdle)

/-- READ_SNAPSHOT_TIMEOUT (R69). -/
def execReadSnapshotTimeout (dt : Nat) (c : Client) (s : State) : Out :=
  let t := s.turn dt
  finish s (t.snapTimeout c)

end Sys2Proof.Machine
end

