-- ==== Sys2Proof/Machine/CmdKeys.lean ====
section
/-! DEFINITION. The meanings of commands: Keys, anchors, the engines and the random number generator (R289 to R336). -/

namespace Sys2Proof.Machine

open Sys2Proof

/-- IMPORT (R294, R295). -/
def execKeyImport (dt : Nat) (c : Client) (s : State) : Out :=
  let t := s.turn dt
  finish s (t.asksWrite c 0x3720 6 [1])

/-- GENERATE (R294). -/
def execGenerate (dt : Nat) (c : Client) (s : State) : Out :=
  let t := s.turn dt
  finish s (t.asksWrite c 0x3720 6 [2])

/-- ERASE (R294, R298). -/
def execErase (dt : Nat) (c : Client) (s : State) : Out :=
  let t := s.turn dt
  finish s (t.asksWrite c 0x3720 6 [3])

/-- ZEROIZE_NOW (R294, R299). -/
def execZeroizeNow (dt : Nat) (c : Client) (s : State) : Out :=
  let t := s.turn dt
  finish s (t.asksWrite c 0x3720 6 [4])

/-- IMPORT_PLAIN (R294). -/
def execImportPlain (dt : Nat) (c : Client) (s : State) : Out :=
  let t := s.turn dt
  finish s (t.asksWrite c 0x3720 6 [5])

/-- ZEROIZE_ALL (R294, R299). -/
def execZeroizeAll (dt : Nat) (c : Client) (s : State) : Out :=
  let t := s.turn dt
  finish s (t.asksWrite c 0x3720 6 [6])

/-- SLOT_SELECT (R318). -/
def execSlotSelect (dt : Nat) (c : Client) (slot : Nat) (s : State) : Out :=
  let t := s.turn dt
  finish s (t.asksWrite c 0x3702 1 (leBytes 1 slot))

/-- ANCHOR_CHANGE (R302). -/
def execAnchorChange (dt : Nat) (c : Client) (data : Bytes) (s : State) : Out :=
  let t := s.turn dt
  finish s (t.asksWrite c 0x3731 1 data)

/-- SUMMARY_CERTIFICATE (R304). -/
def execSummaryCertificate (dt : Nat) (c : Client) (data : Bytes) (s : State) : Out :=
  let t := s.turn dt
  finish s (t.asksWrite c 0x3740 1 data)

/-- ECB (R306, R309): the mode object holds ECB. -/
def execEcb (dt : Nat) (c : Client) (s : State) : Out :=
  let t := s.turn dt
  finish s (if t.obj 0x3410 1 = 1 then t.asksWrite c 0x3412 1 [1] else t)

/-- CBC (R306, R309). -/
def execCbc (dt : Nat) (c : Client) (s : State) : Out :=
  let t := s.turn dt
  finish s (if t.obj 0x3410 1 = 2 then t.asksWrite c 0x3412 1 [1] else t)

/-- CTR (R306, R309). -/
def execCtr (dt : Nat) (c : Client) (s : State) : Out :=
  let t := s.turn dt
  finish s (if t.obj 0x3410 1 = 3 then t.asksWrite c 0x3412 1 [1] else t)

/-- GCM (R306, R309). -/
def execGcm (dt : Nat) (c : Client) (s : State) : Out :=
  let t := s.turn dt
  finish s (if t.obj 0x3410 1 = 4 then t.asksWrite c 0x3412 1 [1] else t)

/-- CCM (R306, R309). -/
def execCcm (dt : Nat) (c : Client) (s : State) : Out :=
  let t := s.turn dt
  finish s (if t.obj 0x3410 1 = 5 then t.asksWrite c 0x3412 1 [1] else t)

/-- CMAC (R306, R309). -/
def execCmac (dt : Nat) (c : Client) (s : State) : Out :=
  let t := s.turn dt
  finish s (if t.obj 0x3410 1 = 6 then t.asksWrite c 0x3412 1 [1] else t)

/-- JOB_START (R297, R308, R312). -/
def execJobStart (dt : Nat) (pk : Bool) (s : State) : Out :=
  let t := s.turn dt
  finish s (if pk then t.pkJobStart else t.cipherJobStart)

/-- JOB_DONE (R307, R321). -/
def execJobDone (dt : Nat) (core : Nat) (fault : Bool) (s : State) : Out :=
  let t := s.turn dt
  finish s (t.cipherJobDone core fault)

/-- SIGN (R310, R313, R320): the operation object holds SIGN. -/
def execSign (dt : Nat) (c : Client) (s : State) : Out :=
  let t := s.turn dt
  finish s (if t.obj 0x3510 1 = 1 then t.asksWrite c 0x3512 1 [1] else t)

/-- VERIFY (R310, R320). -/
def execVerify (dt : Nat) (c : Client) (s : State) : Out :=
  let t := s.turn dt
  finish s (if t.obj 0x3510 1 = 2 then t.asksWrite c 0x3512 1 [1] else t)

/-- ECDH (R310, R320). -/
def execEcdh (dt : Nat) (c : Client) (s : State) : Out :=
  let t := s.turn dt
  finish s (if t.obj 0x3510 1 = 3 then t.asksWrite c 0x3512 1 [1] else t)

/-- HASH (R314, R320). -/
def execHash (dt : Nat) (c : Client) (s : State) : Out :=
  let t := s.turn dt
  finish s (if t.obj 0x3510 1 = 4 then t.asksWrite c 0x3512 1 [1] else t)

/-- PK_JOB_DONE (R319, R321). -/
def execPkJobDone (dt : Nat) (fault : Bool) (s : State) : Out :=
  let t := s.turn dt
  finish s (t.pkJobDone fault)

/-- OUTPUT_READ (R309). -/
def execOutputRead (dt : Nat) (c : Client) (s : State) : Out :=
  let t := s.turn dt
  finish s (t.asksRead c 0x3412 5)

/-- HOST_JOB_TIMEOUT (R309, R320). -/
def execHostJobTimeout (dt : Nat) (pk : Bool) (s : State) : Out :=
  let t := s.turn dt
  finish s (if pk then t.pkTimeout else t.cipherTimeout)

/-- BLOCK_RELEASE (R323 to R331). -/
def execBlockRelease (dt : Nat) (b : RawBlock) (s : State) : Out :=
  let t := s.turn dt
  finish s ((t.rngBlock b).serveWaits)

/-- RNG_RESTARTED (R326). -/
def execRngRestarted (dt : Nat) (s : State) : Out :=
  let t := s.turn dt
  finish s (t.rngRestarted)

/-- RANDOM_BYTES (R328). -/
def execRandomBytes (dt : Nat) (c : Client) (s : State) : Out :=
  let t := s.turn dt
  finish s (t.asksRead c 0x3620 1)

/-- TEST_PATTERN (R334). -/
def execTestPattern (dt : Nat) (c : Client) (code : Nat) (s : State) : Out :=
  let t := s.turn dt
  finish s (t.asksWrite c 0x3630 1 (leBytes 1 code))

end Sys2Proof.Machine
end

