-- ==== Sys2Proof/Machine/CmdLf.lean ====
section
/-! DEFINITION. The meanings of commands: The LF field controller: wakes, polls, telegrams and the driver check (R83 to R108). -/

namespace Sys2Proof.Machine

open Sys2Proof

/-- WAKE_DOOR (R98, R99). -/
def execWakeDoor (dt : Nat) (levels : List Bool) (s : State) : Out :=
  let t := s.turn dt
  finish s (t.wakeDoor levels)

/-- WAKE_RF (R98, R99). -/
def execWakeRf (dt : Nat) (levels : List Bool) (s : State) : Out :=
  let t := s.turn dt
  finish s (t.wakeRf levels)

/-- CAN_WAKE (R98, R99). -/
def execCanWake (dt : Nat) (bus : Nat) (levels : List Bool) (s : State) : Out :=
  let t := s.turn dt
  finish s (t.canWake bus levels)

/-- POLL_DUE (R91, R93, R102). -/
def execPollDue (dt : Nat) (s : State) : Out :=
  let t := s.turn dt
  finish s (t.pollDue)

/-- POLL_ANSWER_WINDOW_END (R91, R243). -/
def execPollAnswerWindowEnd (dt : Nat) (s : State) : Out :=
  let t := s.turn dt
  finish s (t.windowOver)

/-- POLL_PHASE (R92, R452). -/
def execPollPhase (dt : Nat) (s : State) : Out :=
  let t := s.turn dt
  finish s (t.pollPhase)

/-- POLLING_STOPPED (R95). -/
def execPollingStopped (dt : Nat) (s : State) : Out :=
  let t := s.turn dt
  finish s (t.pollingStopped)

/-- MUTE_END (R96). -/
def execMuteEnd (dt : Nat) (s : State) : Out :=
  let t := s.turn dt
  finish s (t.muteTimeout)

/-- REQUEST_TELEGRAM (R100). -/
def execRequestTelegram (dt : Nat) (c : Client) (s : State) : Out :=
  let t := s.turn dt
  finish s (t.asksWrite c 0x2022 1 [1])

/-- TELEGRAM_START (R86, R101, R103, R174). -/
def execTelegramStart (dt : Nat) (s : State) : Out :=
  let t := s.turn dt
  finish s (t.telegram)

/-- TONE (R88). -/
def execTone (dt : Nat) (s : State) : Out :=
  let t := s.turn dt
  finish s (t.toneNext)

/-- REPLY_WINDOW_OPEN (R89, R164). -/
def execReplyWindowOpen (dt : Nat) (s : State) : Out :=
  let t := s.turn dt
  finish s (t.windowOpen)

/-- STOP_POLLING (R108). -/
def execStopPolling (dt : Nat) (c : Client) (s : State) : Out :=
  let t := s.turn dt
  finish s (t.asksWrite c 0x2022 2 [1])

/-- RESTART_POLLING (R108). -/
def execRestartPolling (dt : Nat) (c : Client) (s : State) : Out :=
  let t := s.turn dt
  finish s (t.asksWrite c 0x2022 2 [2])

/-- RUN_DIAGNOSTICS (R83, R108). -/
def execRunDiagnostics (dt : Nat) (c : Client) (s : State) : Out :=
  let t := s.turn dt
  finish s (t.asksWrite c 0x2015 4 [1])

/-- DIAGNOSIS_REPEAT (R83): the answers of the initialisation of R82 carry nothing that the device uses. -/
def execDiagnosisRepeat (dt : Nat) (diag : List Word) (s : State) : Out :=
  let t := s.turn dt
  finish s (t.diagnosisRepeat diag)

/-- DRIVER_STATUS_RECHECK (R106). -/
def execDriverStatusRecheck (dt : Nat) (status : List Word) (s : State) : Out :=
  let t := s.turn dt
  finish s (t.statusRecheck status)

/-- GROUP_POLL_END (R89, R102). -/
def execGroupPollEnd (dt : Nat) (s : State) : Out :=
  let t := s.turn dt
  finish s (t.groupPollEnd)

end Sys2Proof.Machine
end

