-- ==== Sys2Proof/Machine/CmdPhy.lean ====
section
/-! DEFINITION. The meanings of commands: The ranging group: front ends, lanes, frames and calibration (R114 to R153). -/

namespace Sys2Proof.Machine

open Sys2Proof

/-- RANGING_START_UP (R153). -/
def execRangingStartUp (dt : Nat) (o : FrontEndObs) (s : State) : Out :=
  let t := s.turn dt
  finish s (t.rangingStart o)

/-- RESYNCHRONISE (R116, R154). -/
def execResynchronise (dt : Nat) (c : Client) (s : State) : Out :=
  let t := s.turn dt
  finish s (t.asksWrite c 0x2415 2 [1])

/-- FE_SYNC (R116). -/
def execFeSync (dt : Nat) (inPosition : List Bool) (s : State) : Out :=
  let t := s.turn dt
  finish s (t.feSync inPosition)

/-- LANE_DOWN (R118). -/
def execLaneDown (dt : Nat) (lane : Nat) (why : LaneLoss) (s : State) : Out :=
  let t := s.turn dt
  finish s (t.laneDown lane why)

/-- LANE_UP (R118). -/
def execLaneUp (dt : Nat) (lane : Nat) (s : State) : Out :=
  let t := s.turn dt
  finish s (t.laneUpAgain lane)

/-- PREAMBLE_DETECTION (R138). -/
def execPreambleDetection (dt : Nat) (lane phase : Nat) (power : Int) (s : State) : Out :=
  let t := s.turn dt
  finish s (t.withPeerWindow (fun u => u.detect lane phase power))

/-- SFD_TIMEOUT (R138). -/
def execSfdTimeout (dt : Nat) (s : State) : Out :=
  let t := s.turn dt
  finish s (t.withPeerWindow State.sfdTimeout)

/-- FRAME_DELIVERY (R137 to R145). -/
def execFrameDelivery (dt : Nat) (f : FrameObs) (s : State) : Out :=
  let t := s.turn dt
  finish s (t.withPeerWindow (fun u => if u.phy.rx.isSome then (u.frameDelivery f u.expected.1 u.expected.2).slotHeard else u))

/-- NOISE_MEASUREMENT (R146). -/
def execNoiseMeasurement (dt : Nat) (floors : List Int) (s : State) : Out :=
  let t := s.turn dt
  finish s (t.noise floors)

/-- FRONT_END_TEMPERATURE_READ (R148). -/
def execFrontEndTemperatureRead (dt : Nat) (temps : List Int) (s : State) : Out :=
  let t := s.turn dt
  finish s (t.feTemps temps)

/-- DEFERRED_FRONT_END_WRITE (R123). -/
def execDeferredFrontEndWrite (dt : Nat) (s : State) : Out :=
  let t := s.turn dt
  finish s (t.deferredWrite)

/-- FRONT_END_STATUS_READ (R151). -/
def execFrontEndStatusRead (dt : Nat) (fe : Nat) (status : Word) (s : State) : Out :=
  let t := s.turn dt
  finish s (t.feStatus fe status.toNat)

/-- CALIBRATION_START (R149). -/
def execCalibrationStart (dt : Nat) (c : Client) (s : State) : Out :=
  let t := s.turn dt
  finish s (t.asksWrite c 0x2605 6 [1])

/-- CALIBRATION_DONE (R149, R150). -/
def execCalibrationDone (dt : Nat) (s : State) : Out :=
  let t := s.turn dt
  finish s (t.calDone)

end Sys2Proof.Machine
end

