-- ==== Sys2Proof/Machine/CmdPolicy.lean ====
section
/-! DEFINITION. The meanings of commands: The zone map, policy, the outputs and the thermal governor (R203 to R252). -/

namespace Sys2Proof.Machine

open Sys2Proof

/-- ZONE_MAP (R203, R206). -/
def execZoneMap (dt : Nat) (c : Client) (data : Bytes) (s : State) : Out :=
  let t := s.turn dt
  finish s (t.asksWrite c 0x2810 1 data)

/-- UNLOCK (R219, R220). -/
def execUnlock (dt : Nat) (src : Source) (s : State) : Out :=
  let t := s.turn dt
  finish s (t.policyAsk src 1)

/-- START (R219, R220, R231). -/
def execStart (dt : Nat) (src : Source) (s : State) : Out :=
  let t := s.turn dt
  finish s (t.policyAsk src 2)

/-- LOCK (R219, R226). -/
def execLock (dt : Nat) (src : Source) (s : State) : Out :=
  let t := s.turn dt
  finish s (t.policyAsk src 3)

/-- CANCEL (R219, R226). -/
def execCancel (dt : Nat) (src : Source) (s : State) : Out :=
  let t := s.turn dt
  finish s (t.policyAsk src 4)

/-- UNLOCKED_NOTICE (R219, R226). -/
def execUnlockedNotice (dt : Nat) (src : Source) (s : State) : Out :=
  let t := s.turn dt
  finish s (t.policyAsk src 5)

/-- DECISION_TIMEOUT (R222). -/
def execDecisionTimeout (dt : Nat) (s : State) : Out :=
  let t := s.turn dt
  finish s (t.whenOn State.decisionTimeout)

/-- SUSPECT_CLEARED (R224, R225). -/
def execSuspectCleared (dt : Nat) (s : State) : Out :=
  let t := s.turn dt
  finish s (t.whenOn State.suspectCleared)

/-- WALK_AWAY_LOCK (R228). -/
def execWalkAwayLock (dt : Nat) (s : State) : Out :=
  let t := s.turn dt
  finish s (t.whenOn State.walkAway)

/-- RELEASE_RENEWAL (R230). -/
def execReleaseRenewal (dt : Nat) (s : State) : Out :=
  let t := s.turn dt
  finish s (t.whenOn State.renewal)

/-- RELEASE_ENDED (R229). -/
def execReleaseEnded (dt : Nat) (s : State) : Out :=
  let t := s.turn dt
  finish s (t.whenOn State.releaseOver)

/-- ENGINE_STATE_FRAME (R239). -/
def execEngineStateFrame (dt : Nat) (bus : Nat) (f : CanFrame) (s : State) : Out :=
  let t := s.turn dt
  finish s (if f.id = t.outNow 0x2A22 2 then t.frameIn bus f false else t)

/-- ENGINE_RUNNING (R239). -/
def execEngineRunning (dt : Nat) (c : Client) (v : Nat) (s : State) : Out :=
  let t := s.turn dt
  finish s (t.asksWrite c 0x2A22 5 (leBytes 1 v))

/-- LATCH_END (R231, R240). -/
def execLatchEnd (dt : Nat) (s : State) : Out :=
  let t := s.turn dt
  finish s (t.whenOn State.latchEnd)

/-- ENGINE_STATE_STALE (R239). -/
def execEngineStateStale (dt : Nat) (s : State) : Out :=
  let t := s.turn dt
  finish s (t.engineStale)

/-- OUTPUT_READBACK (R234). -/
def execOutputReadback (dt : Nat) (seA seB : Bool) (s : State) : Out :=
  let t := s.turn dt
  finish s (t.readback seA seB)

/-- RELEASE_MESSAGE (R235, R236). -/
def execReleaseMessage (dt : Nat) (s : State) : Out :=
  let t := s.turn dt
  finish s (t.whenOn State.releaseMessage)

/-- TRUST_LOST_MESSAGE (R236). -/
def execTrustLostMessage (dt : Nat) (s : State) : Out :=
  let t := s.turn dt
  finish s (t.whenOn State.trustLostMessage)

/-- REBIND (R241). -/
def execRebind (dt : Nat) (s : State) : Out :=
  let t := s.turn dt
  finish s (t.whenOn State.rebindNow)

/-- PRESENCE_POLL (R243). -/
def execPresencePoll (dt : Nat) (s : State) : Out :=
  let t := s.turn dt
  finish s (t.whenOn State.presencePoll)

/-- THERMAL_LEVEL (R245). -/
def execThermalLevel (dt : Nat) (s : State) : Out :=
  let t := s.turn dt
  finish s (t.whenOn State.thermalLevel)

/-- LATCH_RESUME (R249). -/
def execLatchResume (dt : Nat) (s : State) : Out :=
  let t := s.turn dt
  finish s (t.whenOn State.latchResume)

end Sys2Proof.Machine
end

