-- ==== Sys2Proof/Machine/CmdSessions.lean ====
section
/-! DEFINITION. The meanings of commands: Token sessions, rounds, pairing and the peer link (R155 to R201). -/

namespace Sys2Proof.Machine

open Sys2Proof

/-- REPLY (R163, R166). -/
def execReply (dt : Nat) (s : State) : Out :=
  let t := s.turn dt
  finish s (t.reply)

/-- MAC_CHECK_DONE (R167 to R171). -/
def execMacCheckDone (dt : Nat) (s : State) : Out :=
  let t := s.turn dt
  finish s (t.macDone)

/-- REPLY_WINDOW_CLOSE (R166, R174). -/
def execReplyWindowClose (dt : Nat) (s : State) : Out :=
  let t := s.turn dt
  finish s (t.windowClose)

/-- ROW_SELECT (R173). -/
def execRowSelect (dt : Nat) (c : Client) (row : Nat) (s : State) : Out :=
  let t := s.turn dt
  finish s (t.asksWrite c 0x2C08 1 (leBytes 1 row))

/-- EPOCH_END (R174). -/
def execEpochEnd (dt : Nat) (s : State) : Out :=
  let t := s.turn dt
  finish s (t.epochEnd)

/-- ROUND_START (R175 to R177). -/
def execRoundStart (dt : Nat) (s : State) : Out :=
  let t := s.turn dt
  finish s (t.roundStart)

/-- SLOT_START (R175, R178, R179, R184). -/
def execSlotStart (dt : Nat) (s : State) : Out :=
  let t := s.turn dt
  finish s (t.slotStart)

/-- RESP (R180, R186). -/
def execResp (dt : Nat) (s : State) : Out :=
  let t := s.turn dt
  finish s (t.takeSlot false)

/-- REPORT (R181). -/
def execReport (dt : Nat) (s : State) : Out :=
  let t := s.turn dt
  finish s (t.takeSlot true)

/-- ROUND_END (R187 to R191, R201, R220). -/
def execRoundEnd (dt : Nat) (s : State) : Out :=
  let t := s.turn dt
  finish s (t.roundDone)

/-- COUPLING_TIMEOUT (R195). -/
def execCouplingTimeout (dt : Nat) (s : State) : Out :=
  let t := s.turn dt
  finish s (t.couplingTimeout)

/-- PAIR_PARTNER (R158 to R160). -/
def execPairPartner (dt : Nat) (c : Client) (id : Bytes) (s : State) : Out :=
  let t := s.turn dt
  finish s (t.asksWrite c 0x2C23 1 id)

/-- ENTRY_STATUS (R161). -/
def execEntryStatus (dt : Nat) (c : Client) (entry status : Nat) (s : State) : Out :=
  let t := s.turn dt
  finish s (t.asksWrite c 0x2C22 (entry + 1) (leBytes 1 status))

/-- ROTATE_GROUP_KEY (R161). -/
def execRotateGroupKey (dt : Nat) (c : Client) (which : Nat) (s : State) : Out :=
  let t := s.turn dt
  finish s (t.asksWrite c 0x2C23 4 (leBytes 1 which))

/-- IMPORT_TRACTOR_RECORD (R160, R198). -/
def execImportTractorRecord (dt : Nat) (c : Client) (n : Nat) (data : Bytes) (s : State) : Out :=
  let t := s.turn dt
  finish s (t.asksWrite c 0x2C32 (n + 1) data)

/-- PEER_CHALLENGE (R194). -/
def execPeerChallenge (dt : Nat) (s : State) : Out :=
  let t := s.turn dt
  finish s (t.peerChallenge)

/-- PEER_CHALLENGE_RECEIVED (R196). -/
def execPeerChallengeReceived (dt : Nat) (s : State) : Out :=
  let t := s.turn dt
  finish s (t.challengeReceived)

/-- POLL_RECEIVED (R179, R184). -/
def execPollReceived (dt : Nat) (s : State) : Out :=
  let t := s.turn dt
  finish s (t.pollReceived)

/-- FINAL_RECEIVED (R182, R184). -/
def execFinalReceived (dt : Nat) (s : State) : Out :=
  let t := s.turn dt
  finish s (t.finalReceived)

/-- PEER_SESSION_TIMEOUT (R184). -/
def execPeerSessionTimeout (dt : Nat) (s : State) : Out :=
  let t := s.turn dt
  finish s (t.peerTimeout)

end Sys2Proof.Machine
end

