-- ==== Sys2Proof/Machine/CmdStore.lean ====
section
/-! DEFINITION. The meanings of commands: The ReRAM store, the counters and the journal (R337 to R376). -/

namespace Sys2Proof.Machine

open Sys2Proof

/-- PROGRAM_COMPLETE (R339 to R341). -/
def execProgramComplete (dt : Nat) (failedVerifies : Nat) (s : State) : Out :=
  let t := s.turn dt
  finish s (t.whenOn (fun u => u.programComplete failedVerifies))

/-- FENCE_UP (R342, R445). -/
def execFenceUp (dt : Nat) (rail mv : Nat) (s : State) : Out :=
  let t := s.turn dt
  finish s (t.whenOn (fun u => u.fenceRise rail mv))

/-- FENCE_RELEASED (R342). -/
def execFenceReleased (dt : Nat) (s : State) : Out :=
  let t := s.turn dt
  finish s (t.whenOn State.fenceLift)

/-- INCREMENT (R343, R351, R352). -/
def execIncrement (dt : Nat) (c : Client) (counter amount : Nat) (s : State) : Out :=
  let t := s.turn dt
  finish s (t.asksWrite c 0x3811 (counter + 1) (leBytes 2 amount))

/-- NAND_OPERATION_DONE (R357, R366, R367). -/
def execNandOperationDone (dt : Nat) (status : Byte) (s : State) : Out :=
  let t := s.turn dt
  finish s (t.whenOn (fun u => u.nandDone status.toNat))

/-- NAND_TIMEOUT (R357). -/
def execNandTimeout (dt : Nat) (s : State) : Out :=
  let t := s.turn dt
  finish s (t.whenOn State.nandTimeout)

/-- MEDIUM_RETRY (R357). -/
def execMediumRetry (dt : Nat) (id : Bytes) (s : State) : Out :=
  let t := s.turn dt
  finish s (t.whenOn (fun u => u.mediumRetry id))

/-- FLUSH_INTERVAL (R364). -/
def execFlushInterval (dt : Nat) (s : State) : Out :=
  let t := s.turn dt
  finish s (t.whenOn State.flushDue)

/-- CHECKPOINT (R360). -/
def execCheckpoint (dt : Nat) (s : State) : Out :=
  let t := s.turn dt
  finish s (t.whenOn State.checkpointDue)

/-- FORMAT (R368). -/
def execFormat (dt : Nat) (c : Client) (bad : List Nat) (s : State) : Out :=
  let t := s.turn dt
  finish s (t.asked c (fun u => u.writeWith c 0x3A01 5 [1] (wayWith c 0x3A01 5 [1] bad false)))

/-- REQUEST_EXPORT (R369, R370). -/
def execRequestExport (dt : Nat) (c : Client) (s : State) : Out :=
  let t := s.turn dt
  finish s (t.asksWrite c 0x3A20 3 [1])

/-- JOURNAL_READY (R368). -/
def execJournalReady (dt : Nat) (o : JournalObs) (s : State) : Out :=
  let t := s.turn dt
  finish s (t.whenOn (fun u => u.journalReady o))

/-- CONSERVATIVE_COMPACTION_DUE (R467). -/
def execConservativeCompactionDue (dt : Nat) (s : State) : Out :=
  let t := s.turn dt
  finish s (t.whenOn State.compactHeld)

end Sys2Proof.Machine
end

