-- ==== Sys2Proof/Machine/CmdSuper.lean ====
section
/-! DEFINITION. The meanings of commands: Resets, supplies, clocks, power modes, Sheepdog, tamper, lifecycle and update (R444 to R474, R507, R508). -/

namespace Sys2Proof.Machine

open Sys2Proof

/-- POWER_ON_RESET (R456). -/
def execPowerOnReset (dt : Nat) (s : State) : Out :=
  let t := s.turn dt
  finish s (t.resetTo 1 0)

/-- RAIL_RESET (R444). -/
def execRailReset (dt : Nat) (rail mv : Nat) (s : State) : Out :=
  let t := s.turn dt
  finish s (t.railReset rail mv)

/-- EXTERNAL_RESET (R456). -/
def execExternalReset (dt : Nat) (lowNs : Nat) (s : State) : Out :=
  let t := s.turn dt
  finish s (t.externalReset lowNs)

/-- RESET_NOW (R456, R507). -/
def execResetNow (dt : Nat) (c : Client) (s : State) : Out :=
  let t := s.turn dt
  finish s (t.asksWrite c 0x1210 3 [1])

/-- DEFERRED_RESET (R507). -/
def execDeferredReset (dt : Nat) (s : State) : Out :=
  let t := s.turn dt
  finish s (t.whenOn State.deferredReset)

/-- COLD_START (R457, R471 to R473). -/
def execColdStart (dt : Nat) (o : BootObs) (s : State) : Out :=
  let t := s.turn dt
  finish s (t.coldStart o)

/-- VDD_SER_LOW (R444). -/
def execVddSerLow (dt : Nat) (mv : Nat) (s : State) : Out :=
  let t := s.turn dt
  finish s (t.serLow mv)

/-- VDD_SER_RECOVERED (R444). -/
def execVddSerRecovered (dt : Nat) (mv : Nat) (s : State) : Out :=
  let t := s.turn dt
  finish s (t.serBack mv)

/-- CLOCK_LOST (R447). -/
def execClockLost (dt : Nat) (s : State) : Out :=
  let t := s.turn dt
  finish s (t.clockLost)

/-- CLOCK_RESTORED (R447). -/
def execClockRestored (dt : Nat) (s : State) : Out :=
  let t := s.turn dt
  finish s (t.clockRestored)

/-- PLL_LOCK_LOST (R448). -/
def execPllLockLost (dt : Nat) (pll : Pll) (s : State) : Out :=
  let t := s.turn dt
  finish s (t.pllLost pll)

/-- PLL_RELOCK (R448). -/
def execPllRelock (dt : Nat) (pll : Pll) (s : State) : Out :=
  let t := s.turn dt
  finish s (t.pllBack pll)

/-- RC_TRIM (R449). -/
def execRcTrim (dt : Nat) (code : Nat) (s : State) : Out :=
  let t := s.turn dt
  finish s (t.rcTrim code)

/-- TEMPERATURE (R450). -/
def execTemperature (dt : Nat) (sensors : List Int) (s : State) : Out :=
  let t := s.turn dt
  finish s (t.temperature sensors)

/-- THERMAL_RESET (R450). -/
def execThermalReset (dt : Nat) (sensors : List Int) (s : State) : Out :=
  let t := s.turn dt
  finish s (t.thermalReset sensors)

/-- GLITCH (R451). -/
def execGlitch (dt : Nat) (supply clock : Bool) (s : State) : Out :=
  let t := s.turn dt
  finish s (t.glitch supply clock)

/-- PARK_REQUEST (R453). -/
def execParkRequest (dt : Nat) (c : Client) (s : State) : Out :=
  let t := s.turn dt
  finish s (t.asksWrite c 0x1201 2 [1])

/-- PARK_ON_IDLE (R452). -/
def execParkOnIdle (dt : Nat) (s : State) : Out :=
  let t := s.turn dt
  finish s (t.parkIdle)

/-- PARKING_COMPLETE (R454). -/
def execParkingComplete (dt : Nat) (s : State) : Out :=
  let t := s.turn dt
  finish s (t.whenOn State.parkingComplete)

/-- HOST_UNGATE (R455). -/
def execHostUngate (dt : Nat) (s : State) : Out :=
  let t := s.turn dt
  finish s (t.hostUngate)

/-- WATCHDOG_EXPIRY (R460). -/
def execWatchdogExpiry (dt : Nat) (g : CoreGroup) (s : State) : Out :=
  let t := s.turn dt
  finish s (t.watchdog g)

/-- LOCKSTEP_MISMATCH (R460). -/
def execLockstepMismatch (dt : Nat) (vehicle : Bool) (s : State) : Out :=
  let t := s.turn dt
  finish s (t.lockstep vehicle)

/-- FAULT_ENDED (R459, R460). -/
def execFaultEnded (dt : Nat) (src : Nat) (s : State) : Out :=
  let t := s.turn dt
  finish s (t.whenOn (fun u => u.faultEnded src))

/-- CLEAR_SUMMARY (R462). -/
def execClearSummary (dt : Nat) (c : Client) (uid : Nat) (s : State) : Out :=
  let t := s.turn dt
  finish s (t.asksWrite c 0x1302 1 (leBytes 2 uid))

/-- CLEAR_SOURCE (R462). -/
def execClearSource (dt : Nat) (c : Client) (code : Nat) (s : State) : Out :=
  let t := s.turn dt
  finish s (t.asksWrite c 0x1302 2 (leBytes 1 code))

/-- NEXT_FAULT_ENTRY (R508). -/
def execNextFaultEntry (dt : Nat) (c : Client) (s : State) : Out :=
  let t := s.turn dt
  finish s (t.asksRead c 0x1320 1)

/-- TRIAL_CONFIRMED (R473). -/
def execTrialConfirmed (dt : Nat) (s : State) : Out :=
  let t := s.turn dt
  finish s (t.whenOn State.trialConfirmed)

/-- MESH_CHECK (R468). -/
def execMeshCheck (dt : Nat) (good : Bool) (s : State) : Out :=
  let t := s.turn dt
  finish s (t.meshCheck good)

/-- LOOP_SAMPLE (R468). -/
def execLoopSample (dt : Nat) (good : Bool) (s : State) : Out :=
  let t := s.turn dt
  finish s (t.loopSample good)

/-- LID_DETECTION (R468). -/
def execLidDetection (dt : Nat) (level : Bool) (heldNs : Nat) (s : State) : Out :=
  let t := s.turn dt
  finish s (t.lidDetection level heldNs)

/-- CLEAR_LATCHES (R469). -/
def execClearLatches (dt : Nat) (c : Client) (mask : Nat) (s : State) : Out :=
  let t := s.turn dt
  finish s (t.asksWrite c 0x1481 2 (leBytes 1 mask))

/-- ADVANCE_INTEGRATION (R470). -/
def execAdvanceIntegration (dt : Nat) (c : Client) (s : State) : Out :=
  let t := s.turn dt
  finish s (t.asksWrite c 0x1401 2 [2])

/-- ADVANCE_FIELD (R470). -/
def execAdvanceField (dt : Nat) (c : Client) (s : State) : Out :=
  let t := s.turn dt
  finish s (t.asksWrite c 0x1401 2 [3])

/-- ADVANCE_RETURNED (R470). -/
def execAdvanceReturned (dt : Nat) (c : Client) (s : State) : Out :=
  let t := s.turn dt
  finish s (t.asksWrite c 0x1401 2 [4])

/-- UPDATE_BEGIN (R474). -/
def execUpdateBegin (dt : Nat) (c : Client) (s : State) : Out :=
  let t := s.turn dt
  finish s (t.asksWrite c 0x1420 1 [1])

/-- CHUNK (R474). -/
def execChunk (dt : Nat) (c : Client) (data : Bytes) (s : State) : Out :=
  let t := s.turn dt
  finish s (t.asksWrite c 0x1421 2 data)

/-- UPDATE_VERIFY (R474). -/
def execUpdateVerify (dt : Nat) (c : Client) (s : State) : Out :=
  let t := s.turn dt
  finish s (t.asksWrite c 0x1420 1 [2])

/-- ACTIVATE (R474, R507). -/
def execActivate (dt : Nat) (c : Client) (s : State) : Out :=
  let t := s.turn dt
  finish s (t.asksWrite c 0x1420 1 [3])

end Sys2Proof.Machine
end

