-- ==== Sys2Proof/Machine/CmdTag.lean ====
section
/-! DEFINITION. The meanings of commands: The vehicle tag: the UHF and HF fields, the host window, the summary and the harvester (R257 to R288). -/

namespace Sys2Proof.Machine

open Sys2Proof

/-- TAG_POWER_ON (R257). -/
def execTagPowerOn (dt : Nat) (mv : Nat) (s : State) : Out :=
  let t := s.turn dt
  finish s (t.tagOn mv)

/-- TAG_POWER_OFF (R257, R274). -/
def execTagPowerOff (dt : Nat) (mv : Nat) (s : State) : Out :=
  let t := s.turn dt
  finish s (t.tagOff mv)

/-- SELECT (R264). -/
def execSelect (dt : Nat) (q : SelectCmd) (s : State) : Out :=
  let t := s.turn dt
  finish s (t.onUhf (fun u => u.uhfSelect q))

/-- QUERY (R264). -/
def execQuery (dt : Nat) (q : QueryCmd) (s : State) : Out :=
  let t := s.turn dt
  finish s (t.onUhf (fun u => u.uhfQuery q))

/-- QUERY_ADJUST (R264). -/
def execQueryAdjust (dt : Nat) (session : Nat) (upDn : Nat) (s : State) : Out :=
  let t := s.turn dt
  finish s (t.onUhf (fun u => u.uhfAdjust session upDn))

/-- QUERY_REP (R264). -/
def execQueryRep (dt : Nat) (session : Nat) (s : State) : Out :=
  let t := s.turn dt
  finish s (t.onUhf (fun u => u.uhfRep session))

/-- ACK (R264). -/
def execAck (dt : Nat) (rn : Word) (s : State) : Out :=
  let t := s.turn dt
  finish s (t.onUhf (fun u => u.uhfAck rn))

/-- NAK (R264). -/
def execNak (dt : Nat) (s : State) : Out :=
  let t := s.turn dt
  finish s (t.onUhf (fun u => u.uhfNak))

/-- REQ_RN (R264). -/
def execReqRn (dt : Nat) (rn : Word) (s : State) : Out :=
  let t := s.turn dt
  finish s (t.onUhf (fun u => u.uhfReqRn rn))

/-- READ (R264, R265). -/
def execRead (dt : Nat) (bank ptr count : Nat) (handle : Word) (s : State) : Out :=
  let t := s.turn dt
  finish s (t.onUhf (fun u => u.uhfAccess handle (fun v => v.uhfRead bank ptr count)))

/-- WRITE (R265, R270 to R273). -/
def execWrite (dt : Nat) (bank ptr : Nat) (data : Word) (handle : Word) (mv : Nat) (s : State) : Out :=
  let t := s.turn dt
  finish s (t.onUhf (fun u => u.uhfAccess handle (fun v => v.uhfWrite .fieldWord bank ptr [data] mv)))

/-- BLOCK_WRITE (R264, R270 to R273): 1 to 16 words. -/
def execBlockWrite (dt : Nat) (bank ptr count : Nat) (data : List Word) (handle : Word) (mv : Nat) (s : State) : Out :=
  let t := s.turn dt
  finish s (t.onUhf (fun u => u.uhfAccess handle (fun v => if count = 0 ∨ 16 < count ∨ data.length ≠ count then v.tagRefuse 0x00 (evBank bank ptr) else v.uhfWrite .fieldBlock bank ptr data mv)))

/-- KILL (R265, R281, R282). -/
def execKill (dt : Nat) (recom : Nat) (half : Word) (handle : Word) (mv : Nat) (s : State) : Out :=
  let t := s.turn dt
  finish s (t.onUhf (fun u => u.uhfAccess handle (fun v => v.uhfKill recom half mv)))

/-- UHF_LOCK (R267). -/
def execUhfLock (dt : Nat) (mask action : Nat) (handle : Word) (s : State) : Out :=
  let t := s.turn dt
  finish s (t.onUhf (fun u => u.uhfAccess handle (fun v => v.uhfLock mask action)))

/-- TV_SUMMARY (R266). -/
def execTvSummary (dt : Nat) (ptr count : Nat) (handle : Word) (s : State) : Out :=
  let t := s.turn dt
  finish s (t.onUhf (fun u => u.uhfAccess handle (fun v => v.tvSummary ptr count)))

/-- UNSUPPORTED_UHF_COMMAND (R264): ignored without a reply, whatever its bits. -/
def execUnsupportedUhfCommand (dt : Nat) (_bits : List Bool) (s : State) : Out :=
  let t := s.turn dt
  finish s (t.onUhf (fun u => u))

/-- TAG_COMMIT (R270, R272, R275). -/
def execTagCommit (dt : Nat) (s : State) : Out :=
  let t := s.turn dt
  finish s (t.tagCommit)

/-- REQA (R268). -/
def execReqa (dt : Nat) (s : State) : Out :=
  let t := s.turn dt
  finish s (t.onHf (fun u => u.hfReqa))

/-- WUPA (R268). -/
def execWupa (dt : Nat) (s : State) : Out :=
  let t := s.turn dt
  finish s (t.onHf (fun u => u.hfWupa))

/-- HLTA (R268). -/
def execHlta (dt : Nat) (s : State) : Out :=
  let t := s.turn dt
  finish s (t.onHf (fun u => u.hfHlta))

/-- ANTICOLLISION (R268). -/
def execAnticollision (dt : Nat) (level : Nat) (known : List Bool) (s : State) : Out :=
  let t := s.turn dt
  finish s (t.onHf (fun u => u.hfAnticollision level known))

/-- HF_SELECT (R268). -/
def execHfSelect (dt : Nat) (level : Nat) (uid : Bytes) (s : State) : Out :=
  let t := s.turn dt
  finish s (t.onHf (fun u => u.hfSelect level uid))

/-- RATS (R268). -/
def execRats (dt : Nat) (param : Byte) (s : State) : Out :=
  let t := s.turn dt
  finish s (t.onHf (fun u => u.hfRats param))

/-- R_ACK (R268). -/
def execRAck (dt : Nat) (block : Nat) (s : State) : Out :=
  let t := s.turn dt
  finish s (t.onHf (fun u => u.hfAck block))

/-- R_NAK (R268). -/
def execRNak (dt : Nat) (block : Nat) (s : State) : Out :=
  let t := s.turn dt
  finish s (t.onHf (fun u => u.hfNak block))

/-- S_DESELECT (R268, R279). -/
def execSDeselect (dt : Nat) (s : State) : Out :=
  let t := s.turn dt
  finish s (t.onHf (fun u => u.hfDeselect))

/-- GET_SUMMARY (R269). -/
def execGetSummary (dt : Nat) (inf : Bytes) (s : State) : Out :=
  let t := s.turn dt
  finish s (t.onHf (fun u => if inf.head? = some 1 then u.hfSummary inf else u))

/-- HF_READ (R269). -/
def execHfRead (dt : Nat) (inf : Bytes) (s : State) : Out :=
  let t := s.turn dt
  finish s (t.onHf (fun u => if inf.head? = some 2 then u.hfRead inf else u))

/-- GET_CERTIFICATE (R269). -/
def execGetCertificate (dt : Nat) (inf : Bytes) (s : State) : Out :=
  let t := s.turn dt
  finish s (t.onHf (fun u => if inf.head? = some 3 then u.hfCert inf else u))

/-- HF_FIELD_LOSS (R279). -/
def execHfFieldLoss (dt : Nat) (s : State) : Out :=
  let t := s.turn dt
  finish s (t.hfLoss)

/-- HF_UNKNOWN_COMMAND (R269). -/
def execHfUnknownCommand (dt : Nat) (inf : Bytes) (s : State) : Out :=
  let t := s.turn dt
  finish s (t.onHf (fun u => if (1 : Byte) ≤ inf.headD 0 ∧ inf.headD 0 ≤ (3 : Byte) then u else u.hfAnswer [0x01]))

/-- WINDOW_DATA (R276, R278). -/
def execWindowData (dt : Nat) (c : Client) (data : Bytes) (s : State) : Out :=
  let t := s.turn dt
  finish s (t.asksWrite c 0x3020 4 data)

/-- HOST_TAG_TIMEOUT (R275). -/
def execHostTagTimeout (dt : Nat) (c : Client) (s : State) : Out :=
  let t := s.turn dt
  finish s (t.hostTagTimeout c)

/-- SUMMARY_REFRESH (R261, R262). -/
def execSummaryRefresh (dt : Nat) (s : State) : Out :=
  let t := s.turn dt
  finish s (t.whenOn State.summaryRefresh)

/-- REFRESH_NOW (R262). -/
def execRefreshNow (dt : Nat) (c : Client) (s : State) : Out :=
  let t := s.turn dt
  finish s (t.asksWrite c 0x3030 7 [1])

/-- KILL_OBJECT (R281). -/
def execKillObject (dt : Nat) (c : Client) (pw : Bytes) (s : State) : Out :=
  let t := s.turn dt
  finish s (t.asksWrite c 0x3040 1 pw)

/-- HARV_ON (R284). -/
def execHarvOn (dt : Nat) (mv : Nat) (s : State) : Out :=
  let t := s.turn dt
  finish s (t.harvOn mv)

/-- HARV_OFF (R284). -/
def execHarvOff (dt : Nat) (mv : Nat) (s : State) : Out :=
  let t := s.turn dt
  finish s (t.harvLow mv)

/-- HARV_OVERLOAD (R284). -/
def execHarvOverload (dt : Nat) (s : State) : Out :=
  let t := s.turn dt
  finish s (t.harvOverload)

/-- HARV_RETRY (R284). -/
def execHarvRetry (dt : Nat) (s : State) : Out :=
  let t := s.turn dt
  finish s (t.harvRetry)

end Sys2Proof.Machine
end

