-- ==== Sys2Proof/Machine/CmdTime.lean ====
section
/-! DEFINITION. The meanings of commands: Timers, the distance timebase, the motion sensor, GNSS and the scheduler (R377 to R412). -/

namespace Sys2Proof.Machine

open Sys2Proof

/-- TIMER_MATCH (R378, R382, R385). -/
def execTimerMatch (dt : Nat) (n : Nat) (s : State) : Out :=
  let t := s.turn dt
  finish s (t.whenOn (fun u => if n < 8 then u.tickMatch n else u))

/-- TIMER_OVERFLOW (R379). -/
def execTimerOverflow (dt : Nat) (n : Nat) (s : State) : Out :=
  let t := s.turn dt
  finish s (t.whenOn (fun u => if n < 8 then u.timerOverflow n else u))

/-- COMPARE (R380). -/
def execCompare (dt : Nat) (c : Client) (n : Nat) (v : Nat) (tickClock : Bool) (s : State) : Out :=
  let t := s.turn dt
  finish s (t.asked c (fun u => u.writeWith c (timerIx n) 4 (leBytes 4 v) (wayWith c (timerIx n) 4 (leBytes 4 v) [] tickClock)))

/-- TIMER_START (R381). -/
def execTimerStart (dt : Nat) (c : Client) (n : Nat) (s : State) : Out :=
  let t := s.turn dt
  finish s (t.asksWrite c (timerIx n) 0xB [1])

/-- TIMER_STOP (R381). -/
def execTimerStop (dt : Nat) (c : Client) (n : Nat) (s : State) : Out :=
  let t := s.turn dt
  finish s (t.asksWrite c (timerIx n) 0xB [2])

/-- TIMER_RESET (R381). -/
def execTimerReset (dt : Nat) (c : Client) (n : Nat) (s : State) : Out :=
  let t := s.turn dt
  finish s (t.asksWrite c (timerIx n) 0xB [3])

/-- TIMER_RESTART (R381). -/
def execTimerRestart (dt : Nat) (c : Client) (n : Nat) (s : State) : Out :=
  let t := s.turn dt
  finish s (t.asksWrite c (timerIx n) 0xB [4])

/-- GROUP_START (R382). -/
def execGroupStart (dt : Nat) (c : Client) (mask : Nat) (s : State) : Out :=
  let t := s.turn dt
  finish s (t.asksWrite c 0x4501 1 (leBytes 1 mask))

/-- GROUP_STOP (R382). -/
def execGroupStop (dt : Nat) (c : Client) (mask : Nat) (s : State) : Out :=
  let t := s.turn dt
  finish s (t.asksWrite c 0x4501 2 (leBytes 1 mask))

/-- GROUP_RESET (R382). -/
def execGroupReset (dt : Nat) (c : Client) (mask : Nat) (s : State) : Out :=
  let t := s.turn dt
  finish s (t.asksWrite c 0x4501 3 (leBytes 1 mask))

/-- CAPTURE (R383, R384): a source other than the capture-trigger object fires. -/
def execCapture (dt : Nat) (n : Nat) (latchClock : Bool) (s : State) : Out :=
  let t := s.turn dt
  finish s (t.whenOn (fun u => u.captureSource n latchClock))

/-- CAPTURE_TRIGGER (R383). -/
def execCaptureTrigger (dt : Nat) (c : Client) (n : Nat) (s : State) : Out :=
  let t := s.turn dt
  finish s (t.asksWrite c (timerIx n) 0xF [1])

/-- TIMER_CLEAR (R384). -/
def execTimerClear (dt : Nat) (c : Client) (n mask : Nat) (s : State) : Out :=
  let t := s.turn dt
  finish s (t.asksWrite c (timerIx n) 8 (leBytes 1 mask))

/-- MS_PULSE (R387, R395). -/
def execMsPulse (dt : Nat) (s : State) : Out :=
  let t := s.turn dt
  finish s (t.whenOn State.msPulse)

/-- SPEED_UPDATE (R387). -/
def execSpeedUpdate (dt : Nat) (s : State) : Out :=
  let t := s.turn dt
  finish s (t.whenOn State.speedUpdate)

/-- SESSION_REQ (R390, R392). -/
def execSessionReq (dt : Nat) (s : State) : Out :=
  let t := s.turn dt
  finish s (t.whenOn State.sessionReq)

/-- SESSION_RESP (R391, R392). -/
def execSessionResp (dt : Nat) (fr : Bytes) (s : State) : Out :=
  let t := s.turn dt
  finish s (t.whenOn (fun u => u.sessionResp fr))

/-- DATA_REQ (R390, R392). -/
def execDataReq (dt : Nat) (s : State) : Out :=
  let t := s.turn dt
  finish s (t.whenOn State.dataReq)

/-- DATA_RESP (R392, R395, R398). -/
def execDataResp (dt : Nat) (fr : Bytes) (s : State) : Out :=
  let t := s.turn dt
  finish s (t.whenOn (fun u => u.dataResp fr))

/-- PARKED_PULSE (R397). -/
def execParkedPulse (dt : Nat) (levels : List Bool) (s : State) : Out :=
  let t := s.turn dt
  finish s (t.parkedPulse levels)

/-- NMEA_SENTENCE (R399, R401). -/
def execNmeaSentence (dt : Nat) (chars : Bytes) (s : State) : Out :=
  let t := s.turn dt
  finish s (t.whenOn (fun u => u.nmea chars))

/-- GN_PPS (R400). -/
def execGnPps (dt : Nat) (s : State) : Out :=
  let t := s.turn dt
  finish s (t.whenOn State.gnPps)

/-- PPS_TIMEOUT (R400, R401). -/
def execPpsTimeout (dt : Nat) (s : State) : Out :=
  let t := s.turn dt
  finish s (t.whenOn State.ppsTimeout)

/-- SCHEDULER_TEST (R404 to R406). -/
def execSchedulerTest (dt : Nat) (s : State) : Out :=
  let t := s.turn dt
  finish s (t.schedTest)

/-- CLEAR_TAMPER_FLAGS (R402). -/
def execClearTamperFlags (dt : Nat) (c : Client) (mask : Nat) (s : State) : Out :=
  let t := s.turn dt
  finish s (t.asksWrite c 0x4803 2 (leBytes 1 mask))

end Sys2Proof.Machine
end

