-- ==== Sys2Proof/Machine/CmdUnits.lean ====
section
/-! DEFINITION. The meanings of commands: Units, start-up and the fabric (R19, R25, R27, R32). -/

namespace Sys2Proof.Machine

open Sys2Proof

/-- UNIT_STOP (R19, R20). -/
def execUnitStop (dt : Nat) (c : Client) (uid : Nat) (s : State) : Out :=
  let t := s.turn dt
  finish s (t.asksWrite c (baseOf uid) 8 [1])

/-- UNIT_START (R19). -/
def execUnitStart (dt : Nat) (c : Client) (uid : Nat) (s : State) : Out :=
  let t := s.turn dt
  finish s (t.asksWrite c (baseOf uid) 8 [2])

/-- UNIT_START_UP (R32). -/
def execUnitStartUp (dt : Nat) (uid : Nat) (o : StartObs) (s : State) : Out :=
  let t := s.turn dt
  finish s (t.startUp uid o)

/-- TRUST_REQUEST_SERVED (R25). -/
def execTrustRequestServed (dt : Nat) (s : State) : Out :=
  let t := s.turn dt
  finish s (t.trustServed)

/-- FIREWALL_FAULT (R27). -/
def execFirewallFault (dt : Nat) (ini : Initiator) (region : Region) (s : State) : Out :=
  let t := s.turn dt
  finish s (t.firewall ini region)

end Sys2Proof.Machine
end

