-- ==== Sys2Proof/Machine/Dispatch.lean ====
section
/-! DEFINITION. One arm for each command: its meaning. -/

namespace Sys2Proof.Machine

open Sys2Proof

/-- What a command does, on everything but the queue. -/
def exec (i : Instr) (s : State) : Host.Outcome State Fault Refusal :=
  match i with
  | .unitStop dt c uid => Sys2Proof.Machine.execUnitStop dt c uid s
  | .unitStart dt c uid => Sys2Proof.Machine.execUnitStart dt c uid s
  | .unitStartUp dt uid o => Sys2Proof.Machine.execUnitStartUp dt uid o s
  | .trustRequestServed dt => Sys2Proof.Machine.execTrustRequestServed dt s
  | .firewallFault dt ini region => Sys2Proof.Machine.execFirewallFault dt ini region s
  | .nop dt words => Sys2Proof.Machine.execNop dt words s
  | .ignoredOpcode dt words => Sys2Proof.Machine.execIgnoredOpcode dt words s
  | .reqRead dt words => Sys2Proof.Machine.execReqRead dt words s
  | .reqWrite dt words => Sys2Proof.Machine.execReqWrite dt words s
  | .response dt words => Sys2Proof.Machine.execResponse dt words s
  | .fastRead dt words => Sys2Proof.Machine.execFastRead dt words s
  | .objectWrite dt c idx sub data => Sys2Proof.Machine.execObjectWrite dt c idx sub data s
  | .persistentCommit dt c => Sys2Proof.Machine.execPersistentCommit dt c s
  | .nvFenced dt c => Sys2Proof.Machine.execNvFenced dt c s
  | .role dt c code => Sys2Proof.Machine.execRole dt c code s
  | .proof dt c data => Sys2Proof.Machine.execProof dt c data s
  | .sessionOpenTimeout dt c => Sys2Proof.Machine.execSessionOpenTimeout dt c s
  | .close dt c => Sys2Proof.Machine.execClose dt c s
  | .sessionIdleTimeout dt c => Sys2Proof.Machine.execSessionIdleTimeout dt c s
  | .proofHoldOffEnd dt c => Sys2Proof.Machine.execProofHoldOffEnd dt c s
  | .nextEvent dt c => Sys2Proof.Machine.execNextEvent dt c s
  | .clearLostCount dt c => Sys2Proof.Machine.execClearLostCount dt c s
  | .applyFastMap dt c => Sys2Proof.Machine.execApplyFastMap dt c s
  | .streamIdleTimeout dt => Sys2Proof.Machine.execStreamIdleTimeout dt s
  | .readSnapshotTimeout dt c => Sys2Proof.Machine.execReadSnapshotTimeout dt c s
  | .expeditedWrite dt bus chan fr fd => Sys2Proof.Machine.execExpeditedWrite dt bus chan fr fd s
  | .segmentedWriteInitiate dt bus chan fr fd => Sys2Proof.Machine.execSegmentedWriteInitiate dt bus chan fr fd s
  | .blockWriteInitiate dt bus chan fr fd => Sys2Proof.Machine.execBlockWriteInitiate dt bus chan fr fd s
  | .readInitiate dt bus chan fr fd => Sys2Proof.Machine.execReadInitiate dt bus chan fr fd s
  | .blockReadInitiate dt bus chan fr fd => Sys2Proof.Machine.execBlockReadInitiate dt bus chan fr fd s
  | .segmentedWriteSegment dt bus chan fr fd => Sys2Proof.Machine.execSegmentedWriteSegment dt bus chan fr fd s
  | .blockWriteSegment dt bus chan fr fd => Sys2Proof.Machine.execBlockWriteSegment dt bus chan fr fd s
  | .segmentedReadRequest dt bus chan fr fd => Sys2Proof.Machine.execSegmentedReadRequest dt bus chan fr fd s
  | .blockReadAcknowledgement dt bus chan fr fd => Sys2Proof.Machine.execBlockReadAcknowledgement dt bus chan fr fd s
  | .blockReadEndAcknowledgement dt bus chan fr fd => Sys2Proof.Machine.execBlockReadEndAcknowledgement dt bus chan fr fd s
  | .writeEnd dt bus chan fr fd => Sys2Proof.Machine.execWriteEnd dt bus chan fr fd s
  | .abort dt bus chan fr fd => Sys2Proof.Machine.execAbort dt bus chan fr fd s
  | .transferTimeout dt bus chan => Sys2Proof.Machine.execTransferTimeout dt bus chan s
  | .wakeDoor dt levels => Sys2Proof.Machine.execWakeDoor dt levels s
  | .wakeRf dt levels => Sys2Proof.Machine.execWakeRf dt levels s
  | .canWake dt bus levels => Sys2Proof.Machine.execCanWake dt bus levels s
  | .pollDue dt => Sys2Proof.Machine.execPollDue dt s
  | .pollAnswerWindowEnd dt => Sys2Proof.Machine.execPollAnswerWindowEnd dt s
  | .pollPhase dt => Sys2Proof.Machine.execPollPhase dt s
  | .pollingStopped dt => Sys2Proof.Machine.execPollingStopped dt s
  | .muteEnd dt => Sys2Proof.Machine.execMuteEnd dt s
  | .requestTelegram dt c => Sys2Proof.Machine.execRequestTelegram dt c s
  | .telegramStart dt => Sys2Proof.Machine.execTelegramStart dt s
  | .tone dt => Sys2Proof.Machine.execTone dt s
  | .replyWindowOpen dt => Sys2Proof.Machine.execReplyWindowOpen dt s
  | .stopPolling dt c => Sys2Proof.Machine.execStopPolling dt c s
  | .restartPolling dt c => Sys2Proof.Machine.execRestartPolling dt c s
  | .runDiagnostics dt c => Sys2Proof.Machine.execRunDiagnostics dt c s
  | .diagnosisRepeat dt diag => Sys2Proof.Machine.execDiagnosisRepeat dt diag s
  | .driverStatusRecheck dt status => Sys2Proof.Machine.execDriverStatusRecheck dt status s
  | .rangingStartUp dt o => Sys2Proof.Machine.execRangingStartUp dt o s
  | .resynchronise dt c => Sys2Proof.Machine.execResynchronise dt c s
  | .feSync dt inPosition => Sys2Proof.Machine.execFeSync dt inPosition s
  | .laneDown dt lane why => Sys2Proof.Machine.execLaneDown dt lane why s
  | .laneUp dt lane => Sys2Proof.Machine.execLaneUp dt lane s
  | .preambleDetection dt lane phase power => Sys2Proof.Machine.execPreambleDetection dt lane phase power s
  | .sfdTimeout dt => Sys2Proof.Machine.execSfdTimeout dt s
  | .frameDelivery dt f => Sys2Proof.Machine.execFrameDelivery dt f s
  | .noiseMeasurement dt floors => Sys2Proof.Machine.execNoiseMeasurement dt floors s
  | .frontEndTemperatureRead dt temps => Sys2Proof.Machine.execFrontEndTemperatureRead dt temps s
  | .deferredFrontEndWrite dt => Sys2Proof.Machine.execDeferredFrontEndWrite dt s
  | .frontEndStatusRead dt fe status => Sys2Proof.Machine.execFrontEndStatusRead dt fe status s
  | .calibrationStart dt c => Sys2Proof.Machine.execCalibrationStart dt c s
  | .calibrationDone dt => Sys2Proof.Machine.execCalibrationDone dt s
  | .reply dt => Sys2Proof.Machine.execReply dt s
  | .macCheckDone dt => Sys2Proof.Machine.execMacCheckDone dt s
  | .replyWindowClose dt => Sys2Proof.Machine.execReplyWindowClose dt s
  | .rowSelect dt c row => Sys2Proof.Machine.execRowSelect dt c row s
  | .epochEnd dt => Sys2Proof.Machine.execEpochEnd dt s
  | .roundStart dt => Sys2Proof.Machine.execRoundStart dt s
  | .slotStart dt => Sys2Proof.Machine.execSlotStart dt s
  | .resp dt => Sys2Proof.Machine.execResp dt s
  | .report dt => Sys2Proof.Machine.execReport dt s
  | .roundEnd dt => Sys2Proof.Machine.execRoundEnd dt s
  | .couplingTimeout dt => Sys2Proof.Machine.execCouplingTimeout dt s
  | .pairPartner dt c id => Sys2Proof.Machine.execPairPartner dt c id s
  | .entryStatus dt c entry status => Sys2Proof.Machine.execEntryStatus dt c entry status s
  | .rotateGroupKey dt c which => Sys2Proof.Machine.execRotateGroupKey dt c which s
  | .importTractorRecord dt c n data => Sys2Proof.Machine.execImportTractorRecord dt c n data s
  | .peerChallenge dt => Sys2Proof.Machine.execPeerChallenge dt s
  | .peerChallengeReceived dt => Sys2Proof.Machine.execPeerChallengeReceived dt s
  | .pollReceived dt => Sys2Proof.Machine.execPollReceived dt s
  | .finalReceived dt => Sys2Proof.Machine.execFinalReceived dt s
  | .peerSessionTimeout dt => Sys2Proof.Machine.execPeerSessionTimeout dt s
  | .zoneMap dt c data => Sys2Proof.Machine.execZoneMap dt c data s
  | .unlock dt src => Sys2Proof.Machine.execUnlock dt src s
  | .start dt src => Sys2Proof.Machine.execStart dt src s
  | .lock dt src => Sys2Proof.Machine.execLock dt src s
  | .cancel dt src => Sys2Proof.Machine.execCancel dt src s
  | .unlockedNotice dt src => Sys2Proof.Machine.execUnlockedNotice dt src s
  | .decisionTimeout dt => Sys2Proof.Machine.execDecisionTimeout dt s
  | .suspectCleared dt => Sys2Proof.Machine.execSuspectCleared dt s
  | .walkAwayLock dt => Sys2Proof.Machine.execWalkAwayLock dt s
  | .releaseRenewal dt => Sys2Proof.Machine.execReleaseRenewal dt s
  | .releaseEnded dt => Sys2Proof.Machine.execReleaseEnded dt s
  | .engineStateFrame dt bus f => Sys2Proof.Machine.execEngineStateFrame dt bus f s
  | .engineRunning dt c v => Sys2Proof.Machine.execEngineRunning dt c v s
  | .latchEnd dt => Sys2Proof.Machine.execLatchEnd dt s
  | .engineStateStale dt => Sys2Proof.Machine.execEngineStateStale dt s
  | .outputReadback dt seA seB => Sys2Proof.Machine.execOutputReadback dt seA seB s
  | .releaseMessage dt => Sys2Proof.Machine.execReleaseMessage dt s
  | .trustLostMessage dt => Sys2Proof.Machine.execTrustLostMessage dt s
  | .rebind dt => Sys2Proof.Machine.execRebind dt s
  | .presencePoll dt => Sys2Proof.Machine.execPresencePoll dt s
  | .thermalLevel dt => Sys2Proof.Machine.execThermalLevel dt s
  | .latchResume dt => Sys2Proof.Machine.execLatchResume dt s
  | .tagPowerOn dt mv => Sys2Proof.Machine.execTagPowerOn dt mv s
  | .tagPowerOff dt mv => Sys2Proof.Machine.execTagPowerOff dt mv s
  | .select dt q => Sys2Proof.Machine.execSelect dt q s
  | .query dt q => Sys2Proof.Machine.execQuery dt q s
  | .queryAdjust dt session upDn => Sys2Proof.Machine.execQueryAdjust dt session upDn s
  | .queryRep dt session => Sys2Proof.Machine.execQueryRep dt session s
  | .ack dt rn => Sys2Proof.Machine.execAck dt rn s
  | .nak dt => Sys2Proof.Machine.execNak dt s
  | .reqRn dt rn => Sys2Proof.Machine.execReqRn dt rn s
  | .read dt bank ptr count handle => Sys2Proof.Machine.execRead dt bank ptr count handle s
  | .write dt bank ptr data handle mv => Sys2Proof.Machine.execWrite dt bank ptr data handle mv s
  | .blockWrite dt bank ptr count data handle mv => Sys2Proof.Machine.execBlockWrite dt bank ptr count data handle mv s
  | .kill dt recom half handle mv => Sys2Proof.Machine.execKill dt recom half handle mv s
  | .uhfLock dt mask action handle => Sys2Proof.Machine.execUhfLock dt mask action handle s
  | .tvSummary dt ptr count handle => Sys2Proof.Machine.execTvSummary dt ptr count handle s
  | .unsupportedUhfCommand dt bits => Sys2Proof.Machine.execUnsupportedUhfCommand dt bits s
  | .tagCommit dt => Sys2Proof.Machine.execTagCommit dt s
  | .reqa dt => Sys2Proof.Machine.execReqa dt s
  | .wupa dt => Sys2Proof.Machine.execWupa dt s
  | .hlta dt => Sys2Proof.Machine.execHlta dt s
  | .anticollision dt level known => Sys2Proof.Machine.execAnticollision dt level known s
  | .hfSelect dt level uid => Sys2Proof.Machine.execHfSelect dt level uid s
  | .rats dt param => Sys2Proof.Machine.execRats dt param s
  | .rAck dt block => Sys2Proof.Machine.execRAck dt block s
  | .rNak dt block => Sys2Proof.Machine.execRNak dt block s
  | .sDeselect dt => Sys2Proof.Machine.execSDeselect dt s
  | .getSummary dt inf => Sys2Proof.Machine.execGetSummary dt inf s
  | .hfRead dt inf => Sys2Proof.Machine.execHfRead dt inf s
  | .getCertificate dt inf => Sys2Proof.Machine.execGetCertificate dt inf s
  | .windowData dt c data => Sys2Proof.Machine.execWindowData dt c data s
  | .hostTagTimeout dt c => Sys2Proof.Machine.execHostTagTimeout dt c s
  | .summaryRefresh dt => Sys2Proof.Machine.execSummaryRefresh dt s
  | .refreshNow dt c => Sys2Proof.Machine.execRefreshNow dt c s
  | .killObject dt c pw => Sys2Proof.Machine.execKillObject dt c pw s
  | .harvOn dt mv => Sys2Proof.Machine.execHarvOn dt mv s
  | .harvOff dt mv => Sys2Proof.Machine.execHarvOff dt mv s
  | .harvOverload dt => Sys2Proof.Machine.execHarvOverload dt s
  | .harvRetry dt => Sys2Proof.Machine.execHarvRetry dt s
  | .keyImport dt c => Sys2Proof.Machine.execKeyImport dt c s
  | .generate dt c => Sys2Proof.Machine.execGenerate dt c s
  | .erase dt c => Sys2Proof.Machine.execErase dt c s
  | .zeroizeNow dt c => Sys2Proof.Machine.execZeroizeNow dt c s
  | .importPlain dt c => Sys2Proof.Machine.execImportPlain dt c s
  | .zeroizeAll dt c => Sys2Proof.Machine.execZeroizeAll dt c s
  | .slotSelect dt c slot => Sys2Proof.Machine.execSlotSelect dt c slot s
  | .anchorChange dt c data => Sys2Proof.Machine.execAnchorChange dt c data s
  | .summaryCertificate dt c data => Sys2Proof.Machine.execSummaryCertificate dt c data s
  | .ecb dt c => Sys2Proof.Machine.execEcb dt c s
  | .cbc dt c => Sys2Proof.Machine.execCbc dt c s
  | .ctr dt c => Sys2Proof.Machine.execCtr dt c s
  | .gcm dt c => Sys2Proof.Machine.execGcm dt c s
  | .ccm dt c => Sys2Proof.Machine.execCcm dt c s
  | .cmac dt c => Sys2Proof.Machine.execCmac dt c s
  | .jobStart dt pk => Sys2Proof.Machine.execJobStart dt pk s
  | .jobDone dt core fault => Sys2Proof.Machine.execJobDone dt core fault s
  | .sign dt c => Sys2Proof.Machine.execSign dt c s
  | .verify dt c => Sys2Proof.Machine.execVerify dt c s
  | .ecdh dt c => Sys2Proof.Machine.execEcdh dt c s
  | .hash dt c => Sys2Proof.Machine.execHash dt c s
  | .pkJobDone dt fault => Sys2Proof.Machine.execPkJobDone dt fault s
  | .outputRead dt c => Sys2Proof.Machine.execOutputRead dt c s
  | .hostJobTimeout dt pk => Sys2Proof.Machine.execHostJobTimeout dt pk s
  | .blockRelease dt b => Sys2Proof.Machine.execBlockRelease dt b s
  | .rngRestarted dt => Sys2Proof.Machine.execRngRestarted dt s
  | .randomBytes dt c => Sys2Proof.Machine.execRandomBytes dt c s
  | .testPattern dt c code => Sys2Proof.Machine.execTestPattern dt c code s
  | .programComplete dt failedVerifies => Sys2Proof.Machine.execProgramComplete dt failedVerifies s
  | .fenceUp dt rail mv => Sys2Proof.Machine.execFenceUp dt rail mv s
  | .fenceReleased dt => Sys2Proof.Machine.execFenceReleased dt s
  | .increment dt c counter amount => Sys2Proof.Machine.execIncrement dt c counter amount s
  | .nandOperationDone dt status => Sys2Proof.Machine.execNandOperationDone dt status s
  | .nandTimeout dt => Sys2Proof.Machine.execNandTimeout dt s
  | .mediumRetry dt id => Sys2Proof.Machine.execMediumRetry dt id s
  | .flushInterval dt => Sys2Proof.Machine.execFlushInterval dt s
  | .checkpoint dt => Sys2Proof.Machine.execCheckpoint dt s
  | .format dt c bad => Sys2Proof.Machine.execFormat dt c bad s
  | .requestExport dt c => Sys2Proof.Machine.execRequestExport dt c s
  | .journalReady dt o => Sys2Proof.Machine.execJournalReady dt o s
  | .timerMatch dt n => Sys2Proof.Machine.execTimerMatch dt n s
  | .timerOverflow dt n => Sys2Proof.Machine.execTimerOverflow dt n s
  | .compare dt c n v tickClock => Sys2Proof.Machine.execCompare dt c n v tickClock s
  | .timerStart dt c n => Sys2Proof.Machine.execTimerStart dt c n s
  | .timerStop dt c n => Sys2Proof.Machine.execTimerStop dt c n s
  | .timerReset dt c n => Sys2Proof.Machine.execTimerReset dt c n s
  | .timerRestart dt c n => Sys2Proof.Machine.execTimerRestart dt c n s
  | .groupStart dt c mask => Sys2Proof.Machine.execGroupStart dt c mask s
  | .groupStop dt c mask => Sys2Proof.Machine.execGroupStop dt c mask s
  | .groupReset dt c mask => Sys2Proof.Machine.execGroupReset dt c mask s
  | .capture dt n latchClock => Sys2Proof.Machine.execCapture dt n latchClock s
  | .captureTrigger dt c n => Sys2Proof.Machine.execCaptureTrigger dt c n s
  | .timerClear dt c n mask => Sys2Proof.Machine.execTimerClear dt c n mask s
  | .msPulse dt => Sys2Proof.Machine.execMsPulse dt s
  | .speedUpdate dt => Sys2Proof.Machine.execSpeedUpdate dt s
  | .sessionReq dt => Sys2Proof.Machine.execSessionReq dt s
  | .sessionResp dt fr => Sys2Proof.Machine.execSessionResp dt fr s
  | .dataReq dt => Sys2Proof.Machine.execDataReq dt s
  | .dataResp dt fr => Sys2Proof.Machine.execDataResp dt fr s
  | .parkedPulse dt levels => Sys2Proof.Machine.execParkedPulse dt levels s
  | .nmeaSentence dt chars => Sys2Proof.Machine.execNmeaSentence dt chars s
  | .gnPps dt => Sys2Proof.Machine.execGnPps dt s
  | .ppsTimeout dt => Sys2Proof.Machine.execPpsTimeout dt s
  | .schedulerTest dt => Sys2Proof.Machine.execSchedulerTest dt s
  | .clearTamperFlags dt c mask => Sys2Proof.Machine.execClearTamperFlags dt c mask s
  | .frameReceived dt bus f latchClock => Sys2Proof.Machine.execFrameReceived dt bus f latchClock s
  | .nextRecord dt c bus => Sys2Proof.Machine.execNextRecord dt c bus s
  | .highPriorityRecord dt c bus => Sys2Proof.Machine.execHighPriorityRecord dt c bus s
  | .clearOverrun dt c bus => Sys2Proof.Machine.execClearOverrun dt c bus s
  | .txRequest dt c bus b => Sys2Proof.Machine.execTxRequest dt c bus b s
  | .txAbort dt c bus b => Sys2Proof.Machine.execTxAbort dt c bus b s
  | .txChoice dt bus => Sys2Proof.Machine.execTxChoice dt bus s
  | .frameEnd dt bus o => Sys2Proof.Machine.execFrameEnd dt bus o s
  | .recoveryDelay dt bus => Sys2Proof.Machine.execRecoveryDelay dt bus s
  | .recover dt c bus => Sys2Proof.Machine.execRecover dt c bus s
  | .busRecovered dt bus => Sys2Proof.Machine.execBusRecovered dt bus s
  | .integrated dt bus => Sys2Proof.Machine.execIntegrated dt bus s
  | .canClockRc dt bus => Sys2Proof.Machine.execCanClockRc dt bus s
  | .ref dt => Sys2Proof.Machine.execRef dt s
  | .refReceived dt f => Sys2Proof.Machine.execRefReceived dt f s
  | .epochReceived dt f => Sys2Proof.Machine.execEpochReceived dt f s
  | .masterTaken dt => Sys2Proof.Machine.execMasterTaken dt s
  | .refTimeout dt => Sys2Proof.Machine.execRefTimeout dt s
  | .powerOnReset dt => Sys2Proof.Machine.execPowerOnReset dt s
  | .railReset dt rail mv => Sys2Proof.Machine.execRailReset dt rail mv s
  | .externalReset dt lowNs => Sys2Proof.Machine.execExternalReset dt lowNs s
  | .resetNow dt c => Sys2Proof.Machine.execResetNow dt c s
  | .deferredReset dt => Sys2Proof.Machine.execDeferredReset dt s
  | .coldStart dt o => Sys2Proof.Machine.execColdStart dt o s
  | .vddSerLow dt mv => Sys2Proof.Machine.execVddSerLow dt mv s
  | .vddSerRecovered dt mv => Sys2Proof.Machine.execVddSerRecovered dt mv s
  | .clockLost dt => Sys2Proof.Machine.execClockLost dt s
  | .clockRestored dt => Sys2Proof.Machine.execClockRestored dt s
  | .pllLockLost dt pll => Sys2Proof.Machine.execPllLockLost dt pll s
  | .pllRelock dt pll => Sys2Proof.Machine.execPllRelock dt pll s
  | .rcTrim dt code => Sys2Proof.Machine.execRcTrim dt code s
  | .temperature dt sensors => Sys2Proof.Machine.execTemperature dt sensors s
  | .thermalReset dt sensors => Sys2Proof.Machine.execThermalReset dt sensors s
  | .glitch dt supply clock => Sys2Proof.Machine.execGlitch dt supply clock s
  | .parkRequest dt c => Sys2Proof.Machine.execParkRequest dt c s
  | .parkOnIdle dt => Sys2Proof.Machine.execParkOnIdle dt s
  | .parkingComplete dt => Sys2Proof.Machine.execParkingComplete dt s
  | .hostUngate dt => Sys2Proof.Machine.execHostUngate dt s
  | .watchdogExpiry dt g => Sys2Proof.Machine.execWatchdogExpiry dt g s
  | .lockstepMismatch dt vehicle => Sys2Proof.Machine.execLockstepMismatch dt vehicle s
  | .faultEnded dt src => Sys2Proof.Machine.execFaultEnded dt src s
  | .clearSummary dt c uid => Sys2Proof.Machine.execClearSummary dt c uid s
  | .clearSource dt c code => Sys2Proof.Machine.execClearSource dt c code s
  | .nextFaultEntry dt c => Sys2Proof.Machine.execNextFaultEntry dt c s
  | .trialConfirmed dt => Sys2Proof.Machine.execTrialConfirmed dt s
  | .meshCheck dt good => Sys2Proof.Machine.execMeshCheck dt good s
  | .loopSample dt good => Sys2Proof.Machine.execLoopSample dt good s
  | .lidDetection dt level heldNs => Sys2Proof.Machine.execLidDetection dt level heldNs s
  | .clearLatches dt c mask => Sys2Proof.Machine.execClearLatches dt c mask s
  | .advanceIntegration dt c => Sys2Proof.Machine.execAdvanceIntegration dt c s
  | .advanceField dt c => Sys2Proof.Machine.execAdvanceField dt c s
  | .advanceReturned dt c => Sys2Proof.Machine.execAdvanceReturned dt c s
  | .updateBegin dt c => Sys2Proof.Machine.execUpdateBegin dt c s
  | .chunk dt c data => Sys2Proof.Machine.execChunk dt c data s
  | .updateVerify dt c => Sys2Proof.Machine.execUpdateVerify dt c s
  | .activate dt c => Sys2Proof.Machine.execActivate dt c s
  | .groupPollEnd dt => Sys2Proof.Machine.execGroupPollEnd dt s
  | .hfFieldLoss dt => Sys2Proof.Machine.execHfFieldLoss dt s
  | .hfUnknownCommand dt inf => Sys2Proof.Machine.execHfUnknownCommand dt inf s
  | .canReceiveError dt bus code dataPhase => Sys2Proof.Machine.execCanReceiveError dt bus code dataPhase s
  | .conservativeCompactionDue dt => Sys2Proof.Machine.execConservativeCompactionDue dt s

end Sys2Proof.Machine
end

