-- ==== Sys2Proof/Machine/Balls.lean ====
section
/-! DEFINITION. The signal balls (R480): what each shows in a reset, with its supply domain off, and between two commands. Balls are outputs and
inputs of the commands' rules; no step reads a level from here. -/

namespace Sys2Proof.Machine

open Sys2Proof

/-- The signal balls of R480 by signal name; a number counts the balls of a group. -/
inductive Ball where
  | rx (n : Nat) | tx | feclk | feSync | feSck | xtal | feMosi | feMiso | feCsN (n : Nat) | lfCsN | lfmod (n : Nat)
  | wakeRf | wakeDoor | canTx (bus : Nat) | canRx (bus : Nat) | tmpLid | tmpLoopO | tmpLoopI | canStb
  | hsSck | hsMosi | hsMiso | hsCsN | hsIrqN | uhf | hf | seA | seB | msPulse | msData | gnRxd | gnPps
  | nfIo (n : Nat) | nfSck | nfCsN | resetN | faultN | harv | pmicEn | testMode | dbgClk | dbgIo
  deriving DecidableEq, Repr

/-- Supply domains of the balls (R480). -/
inductive BallDomain where
  | ser | v18 | io | aon | tag
  deriving DecidableEq, Repr

/-- What a ball shows (R480). -/
inductive BallLevel where
  /-- driven low (L) -/
  | low
  /-- driven high (H) -/
  | high
  /-- high impedance (Z) -/
  | z
  /-- high impedance with the internal pull-up -/
  | zUp
  /-- internal pull-up of an input (PU) -/
  | pullUp
  /-- internal pull-down of an input (PD) -/
  | pullDown
  /-- 100 kΩ to VSS -/
  | down100k
  /-- a lane's termination -/
  | terminated
  /-- a lane left open -/
  | open_
  /-- a lane driver without swing -/
  | idle
  /-- an oscillation, a clock, a carrier or the loop's drive runs -/
  | running
  /-- the ball serves a field -/
  | field
  /-- off -/
  | off
  /-- HARV delivers its voltage -/
  | supply
  deriving DecidableEq, Repr

/-- The supply domain of a ball (R480). -/
def Ball.domain : Ball → BallDomain
  | .rx _ | .tx => .ser
  | .feclk | .feSync | .feSck | .xtal | .feMosi | .feMiso | .feCsN _ | .lfCsN | .lfmod _ => .v18
  | .wakeRf | .wakeDoor | .canRx _ | .tmpLid | .tmpLoopO | .tmpLoopI | .canStb | .msPulse | .resetN | .faultN | .pmicEn | .testMode => .aon
  | .uhf | .hf | .harv => .tag
  | .canTx _ | .seA | .seB | .hsSck | .hsMosi | .hsMiso | .hsCsN | .hsIrqN | .msData | .gnRxd | .gnPps | .nfIo _ | .nfSck | .nfCsN | .dbgClk | .dbgIo => .io

/-- "In reset" (R480); PMIC_EN and FAULT_N have rules of their own besides. -/
def Ball.inReset : Ball → BallLevel
  | .rx _ => .terminated
  | .tx => .idle
  | .feclk | .feSync | .feSck | .feMosi | .lfmod _ | .seA | .seB | .faultN | .nfSck => .low
  | .feCsN _ | .lfCsN | .canTx _ | .canStb | .hsIrqN | .pmicEn | .nfCsN => .high
  | .xtal | .tmpLoopO => .running
  | .feMiso | .wakeRf | .wakeDoor | .tmpLid | .tmpLoopI | .hsSck | .hsMosi | .msPulse | .gnPps | .testMode | .dbgClk => .pullDown
  | .canRx _ | .hsCsN | .gnRxd | .resetN => .pullUp
  | .hsMiso => .z
  | .msData | .nfIo _ | .dbgIo => .zUp
  | .uhf | .hf => .field
  | .harv => .off

/-- "Domain off" (R480), for a ball whose domain can be off. -/
def Ball.domainOff : Ball → BallLevel
  | .rx _ | .tx => .open_
  | .seA | .seB => .down100k
  | .xtal | .harv => .off
  | .uhf | .hf => .field
  | _ => .z

/-- PMIC_EN is high (R102, R456, R480): in ACTIVE and PARKED_GATED, but not while THERMAL holds its reset. -/
def State.pmicOn (s : State) : Bool := decide (s.aon.mode ≤ 1) && !(s.sup.held && s.aon.resetKind == 5)

/-- A supply domain of the balls has power: those of the PMIC with PMIC_EN, the tag's with VTAG, the always-on one always. -/
def State.ballPower (s : State) : BallDomain → Bool
  | .aon => true
  | .tag => s.tagd.on
  | _ => s.pmicOn

/-- A truth value as a driven level. -/
def driven (b : Bool) : BallLevel := if b then .high else .low

/-- LFMOD of driver chip n carries the carrier of a telegram, of a tone or of a poll under way (R77, R78, R88, R89). -/
def State.lfCarrier (s : State) (n : Nat) : Bool :=
  let chip := fun (ants : Nat) => bit ants (2 * n) || bit ants (2 * n + 1)
  s.lf.tele.any (fun p => !p.window && (if p.tones = 0 then chip p.ants else (p.tones - 1) / 2 == n)) ||
  s.aon.rooster.poll.any (fun p => chip p.ants && decide (s.aon.clock < p.start + pollNs))

/-- A ball between two commands, out of reset and with its domain powered: where a rule moves it, what the rule says, else its idle level. -/
def State.ballLive (s : State) : Ball → BallLevel
  | .seA => driven s.outputLevels.1
  | .seB => driven s.outputLevels.2
  | .canStb => driven s.canStb
  | .hsIrqN => driven !s.hostIrq
  | .faultN => if s.faultN then .low else .z
  | .pmicEn => driven s.pmicOn
  | .harv => if s.harvOut then .supply else .off
  | .feclk => if s.sup.rc then .low else .running
  | .xtal => if s.sup.rc then .off else .running
  | .lfmod n => if s.lfCarrier n then .running else .low
  | b => b.inReset

/-- What a ball shows (R480). -/
def State.ball (s : State) (b : Ball) : BallLevel :=
  if !s.ballPower b.domain then b.domainOff
  else if b = .pmicEn then driven s.pmicOn
  else if b = .harv then s.ballLive .harv
  else if s.sup.held then b.inReset
  else s.ballLive b

end Sys2Proof.Machine
end

