-- ==== Sys2Proof/Safety.lean ====
section
/-! DEFINITION. What a safe step is, and the conditions on a state in which a client's request is taken: the words the statements use. -/

namespace Sys2Proof

/-- A step that neither faults nor refuses. -/
def safeStep (s : Machine.State) : Prop := ∃ t, Machine.step s = .next t

/-- A run of n steps, every one of them safe. -/
def safeRun : Nat → Machine.State → Prop
  | 0, _ => True
  | n + 1, s => ∃ t, Machine.step s = .next t ∧ safeRun n t

namespace Machine

/-- A request of client c reaches the dictionary: the control domain runs, the client exists, and no earlier request of its own waits. -/
abbrev Asks (u : State) (c : Client) : Prop := u.powered = true ∧ realClient c = true ∧ u.clientFree c = true

/-- A write of data to an object is accepted: it reaches the dictionary and passes the checks of R39 that come before the commit. -/
abbrev Accepts (u : State) (c : Client) (ix sub : Nat) (data : Bytes) : Prop := Asks u c ∧ u.checkWrite c ix sub data = abOk

/-- A read of an object is accepted: it reaches the dictionary and passes checks 1 to 5 of R39. -/
abbrev AcceptsRead (u : State) (c : Client) (ix sub : Nat) : Prop := Asks u c ∧ u.checkAccess c false ix sub 0 = abOk

/-- What an accepted request leaves when its act has succeeded in state t: the success response to the client. -/
def State.done (t : State) (c : Client) (ix sub : Nat) : State := t.answer c (key ix sub) abOk [] true

/-- What a request leaves whose act has been turned down with an abort code, with nothing else changed but what t holds. -/
def State.aborted (t : State) (c : Client) (ix sub abort : Nat) : State := t.answer c (key ix sub) abort [] true

/-- A request of a code reaches policy from a source (R219): from the host by an accepted write, on CAN while the outputs hear it and 0x2A21:03 is set, from the door only
UNLOCK, from the walk-away timer only LOCK. -/
abbrev MayRequest (u : State) (src : Source) (code : Nat) : Prop :=
  match src with
  | .host c => Accepts u c 0x2A20 1 [byte code]
  | .can => u.outputsHear = true ∧ u.outNow 0x2A21 3 = 1
  | .door => u.powered = true ∧ code = 1
  | .walkAway => u.powered = true ∧ code = 3

/-- What a request leaves for its source once policy has turned u into t: the host's success response. -/
def State.told (t : State) (src : Source) : State :=
  match src with
  | .host c => t.done c 0x2A20 1
  | _ => t

/-- The number of a source of requests, as outcomes name it (R253). -/
def sourceNum : Source → Nat
  | .door => 1
  | .can => 2
  | .host _ => 3
  | .walkAway => 4

end Machine

end Sys2Proof
end

