-- ==== Sys2Proof/Certificates/Slice0/Obligations.lean ====
section
/-! DEFINITION. The statements about the block, by the chapters of the manual. In each, u is the state as the command finds it: what earlier
commands left to do is done, and dt nanoseconds have passed. -/

open Sys2Proof Sys2Proof.Machine

/-- With command i at the front of the queue, a step is exec of i on the state with the queue's rest; with an empty queue the block only draws the
consequences that are outstanding, and the queue stays empty (the queue and what it does when empty are the model's, log entry 1). (R69,
95_what_each_step_holds.md) -/
def Obligations.StepRunsTheFrontCommand : Prop :=
  (∀ (i : Instr) (r : List Instr) (s : State), s.pending = i :: r → step s = exec i { s with pending := r }) ∧
  (∀ s : State, s.pending = [] → ∃ t, step s = .next t ∧ t = s.settle)

/-- Every command in every state answers a next state, and the queue of waiting commands is the one it found. (95_what_each_step_holds.md) -/
def Obligations.EveryCommandAnswersAndKeepsTheQueue : Prop :=
  ∀ (i : Instr) (s : State), ∃ t, exec i s = .next t ∧ t.pending = s.pending

/-- After reset no command waits; every unit that is no group reports STARTING, no release or start is in force and the start-lock outputs are locked,
the event queue and its lost count are empty, every counter of the dictionary server is 0, no session is open, no response waits on the host port,
and a new part is in lifecycle state FACTORY (that the record says FACTORY is the model's choice, log entry 3). While a reset is held, FAULT_N is
low, CAN_STB is high, and PMIC_EN is high except in THERMAL; with PMIC_EN high SE_A, SE_B and the LF carriers are low, HS_IRQ_N, the selects and the
CAN transmit balls are high and HS_MISO is at high impedance; in THERMAL SE_A and SE_B have 100 kΩ to VSS. With no reset held FAULT_N is low exactly
where a fault source is lasting. (R32, R33, R46, R53, R74, R456, R470, R480) -/
def Obligations.ResetLeavesTheSpecifiedState : Prop :=
  State.reset.pending = [] ∧
  (∀ v : Nat, isGroup v = false → State.reset.unitState v = stStarting) ∧
  State.reset.pol.out = 0 ∧ State.reset.pol.engine = false ∧
  State.reset.evq = [] ∧ State.reset.evLost = 0 ∧
  State.reset.dict = {} ∧ (∀ c : Client, (State.reset.ctx c).st = 0 ∧ (State.reset.ctx c).row = none) ∧
  State.reset.host.avail = false ∧ State.reset.host.busy = false ∧
  State.reset.rr.lifecycle = lcFactory ∧
  (∀ s : State, s.sup.held = true → s.aon.mode ≤ 1 →
    s.ball .faultN = .low ∧ s.ball .canStb = .high ∧ s.ball .pmicEn = (if s.aon.resetKind = 5 then .low else .high) ∧
    (s.aon.resetKind ≠ 5 → s.ball .seA = .low ∧ s.ball .seB = .low ∧ s.ball .hsIrqN = .high ∧ s.ball .hsMiso = .z ∧ s.ball .lfCsN = .high ∧ s.ball .nfCsN = .high ∧
      ∀ n, s.ball (.canTx n) = .high ∧ s.ball (.feCsN n) = .high ∧ s.ball (.lfmod n) = .low) ∧
    (s.aon.resetKind = 5 → s.ball .seA = .down100k ∧ s.ball .seB = .down100k ∧ s.ball .hsMiso = .z)) ∧
  (∀ s : State, s.sup.held = false → (s.ball .faultN = .low ↔ ∃ e ∈ s.sup.srcs, e.2.st = 2))

/-- The lifecycle state after reset is one of FACTORY, INTEGRATION, FIELD and RETURNED. (R470) -/
def Obligations.LifecycleIsLegalAtReset : Prop :=
  1 ≤ State.reset.rr.lifecycle ∧ State.reset.rr.lifecycle ≤ 4

/-- For every state whose lifecycle state is one of the four of R470, whatever command is at the front of the queue and whatever time passes before it:
if the step answers a next state, that state's lifecycle state is again one of the four, and it is the same one or a later one. In particular no
step leaves RETURNED, and no step comes back to FACTORY. (R470) -/
def Obligations.LifecycleOnlyMovesForward : Prop :=
  ∀ s t : State, 1 ≤ s.rr.lifecycle → s.rr.lifecycle ≤ 4 → step s = .next t →
    s.rr.lifecycle ≤ t.rr.lifecycle ∧ t.rr.lifecycle ≤ 4

/-- An answer with abort code ab to client c puts exactly that answer in c's record and counts one completed transfer where ab is OK, else one abort,
each saturating at 2^32 - 1. The transfer counter of c's session goes up by one exactly where a session is open and the transfer got past the tag
check. No other client's record changes, and nothing outside the dictionary server's records changes. (R43, R46, R73) -/
def Obligations.AnswerIsKeptAndCounted : Prop :=
  ∀ (s : State) (c : Client) (k ab : Nat) (d : Bytes) (late : Bool), let t := s.answer c k ab d late
    (t.ctx c).reply = some { key := k, abort := ab, data := d } ∧
    (t.ctx c).st = (s.ctx c).st ∧ (t.ctx c).role = (s.ctx c).role ∧ (t.ctx c).vals = (s.ctx c).vals ∧
    (t.ctx c).ctr = (if (s.ctx c).st = 2 ∧ late = true then ((s.ctx c).ctr + 1) % 2 ^ 32 else (s.ctx c).ctr) ∧
    t.dict.completed = (if ab = abOk then min (s.dict.completed + 1) (2 ^ 32 - 1) else s.dict.completed) ∧
    t.dict.aborts = (if ab = abOk then s.dict.aborts else min (s.dict.aborts + 1) (2 ^ 32 - 1)) ∧
    t.dict.commits = s.dict.commits ∧ t.dict.stream = s.dict.stream ∧
    (∀ d : Client, d ≠ c → t.ctx d = s.ctx d) ∧ { t with dict := s.dict } = s

/-- A write by a client whose request reaches the dictionary, on an object of whatever address, with whatever value, that a check of R39 turns down, is
answered with that check's abort code, and nothing else changes. The code is NO_OBJECT for an index that no unit has, NO_SUBINDEX for a subindex it
lacks; a write of role F outside FACTORY, and a write by role H to the trust group but for the three objects of the firmware update, is not
accepted; an RO object is never written; an RWS object is written only while its unit is STOPPED; a length other than the type's is not taken. (R39,
R13, R38, R34) -/
def Obligations.RefusedWriteOnlyAnswers : Prop :=
  ∀ (s : State) (dt : Nat) (c : Client) (ix sub : Nat) (data : Bytes), let u := s.turn dt
    Asks u c →
    (u.checkWrite c ix sub data ≠ abOk →
      exec (.objectWrite dt c ix sub data) s = finish s (u.answer c (key ix sub) (u.checkWrite c ix sub data) [] false)) ∧
    (u.dictDown c ix = abOk → indexExists ix = false → u.checkWrite c ix sub data = abNoObject) ∧
    (u.dictDown c ix = abOk → indexExists ix = true → subExists ix sub = false → u.checkWrite c ix sub data = abNoSub) ∧
    (u.checkWrite c ix sub data = abOk →
      (c = .host ∨ (u.ctx c).st = 2 → roleIn (u.role c) (rolesOf ix sub) = true ∧
        ¬(u.role c = roleF ∧ u.rr.lifecycle ≠ lcFactory) ∧ ¬(u.role c = roleH ∧ ownerBarred ix sub = true)) ∧
      accOf ix sub ≠ .ro ∧ (accOf ix sub = .rws → u.unitState (unitOf ix) = stStopped) ∧
      (∀ n, lenOf ix sub = some n → data.length = n) ∧ valueOk ix sub (leNat data) = true)

/-- While the control domain runs, raising an event appends its entry of code, unit, parameter and time since reset; where 64 entries wait, the oldest
goes and the lost count goes up by one, saturating. Where that takes the lost count away from 0, EVENTS_LOST enters in the same way, with no further
one. The queue never exceeds 64 entries, and a unit whose domain is off raises nothing. A read by an accepted client returns the oldest entry's 12
bytes and removes it, and 12 zero bytes from an empty queue. A write to the clear object sets the lost count to 0, and nothing else changes but the
answer. (R74, R75) -/
def Obligations.EventQueueLosesItsOldest : Prop :=
  (∀ (s : State) (uid code p : Nat), let t := s.emit uid code p
    let e : Event := { code := code, unit := raiser uid code, param := p % 2 ^ 32, ms := s.ms % 2 ^ 32 }
    (s.powered = false → t = s) ∧
    (s.powered = true → s.evq.length < 64 → t.evq = s.evq ++ [e] ∧ t.evLost = s.evLost) ∧
    (s.powered = true → s.evq.length = 64 → 0 < s.evLost → t.evq = s.evq.drop 1 ++ [e] ∧ t.evLost = min (s.evLost + 1) (2 ^ 16 - 1)) ∧
    (s.powered = true → s.evq.length = 64 → s.evLost = 0 → t.evLost = 2 ∧
      t.evq = s.evq.drop 2 ++ [e, { code := 0x1105, unit := 0x24, param := 1, ms := s.ms % 2 ^ 32 }]) ∧
    (s.evq.length ≤ 64 → t.evq.length ≤ 64)) ∧
  (∀ (s : State) (dt : Nat) (c : Client), let u := s.turn dt
    (AcceptsRead u c 0x1181 1 → exec (.nextEvent dt c) s =
      finish s ({ u with evq := u.evq.drop 1 }.answer c (key 0x1181 1) abOk (match u.evq with
        | [] => List.replicate 12 0
        | e :: _ => e.bytes) true)) ∧
    (Accepts u c 0x1180 4 [1] → exec (.clearLostCount dt c) s = finish s ({ u with evLost := 0 }.done c 0x1180 4)))

/-- Storing a value in an object of the dictionary keeps the canonical form (keys strictly rising) of the stores of volatile and of persistent objects;
that object then reads as the value; every other object of the dictionary, and everything outside the two stores, is as before. An object that
nothing has written reads as its default. (R35, R55, R372) -/
def Obligations.ObjectStoreReadsBackWhatWasWritten : Prop :=
  (∀ (s : State) (ix sub v : Nat), (objFind ix sub).isSome = true →
    let t := s.setObj ix sub v
    (kvSorted s.objs = true → kvSorted t.objs = true) ∧ (kvSorted s.rr.objs = true → kvSorted t.rr.objs = true) ∧ t.obj ix sub = v ∧
    (∀ jx b : Nat, sub < 256 → b < 256 → (jx, b) ≠ (ix, sub) → t.obj jx b = s.obj jx b) ∧
    { t with objs := s.objs, rr := { t.rr with objs := s.rr.objs } } = s) ∧
  (∀ (ix sub : Nat) (d : ObjDef), objFind ix sub = some d → State.reset.obj ix sub = d.dflt)

/-- An accepted stop request to a unit none of whose subtree is barred from stopping (and that is not the tag engine outside FACTORY) answers OK and
leaves every unit of the subtree that is no group and not OFF or FAILED in STOPPED, every other unit's own state as it was. An accepted start
request answers SEQUENCE, with nothing else changed, where the parent is STOPPED; else (the tag engine not being killed) OK, every STOPPED unit of
the subtree that is no group then being STARTING and every other unit's own state as it was. Neither request touches the start-lock outputs, policy,
ReRAM or the store of objects. (R19, R20, R283) -/
def Obligations.StopAndStartRequestsMoveUnits : Prop :=
  ∀ (s : State) (dt : Nat) (c : Client) (uid : Nat), let u := s.turn dt
    (Accepts u c (baseOf uid) 8 [1] → unitFind uid ≠ none → (∀ v ∈ unitAll uid, unstoppable v = false) → (uid = 8 → u.rr.lifecycle = lcFactory) →
      ∃ t, exec (.unitStop dt c uid) s = .next t ∧ ((t.ctx c).reply.map (·.abort)) = some abOk ∧
        (∀ v ∈ unitAll uid, isGroup v = false → u.ownState v ≠ stOff → u.ownState v ≠ stFailed → t.ownState v = stStopped) ∧
        (∀ v, v ∉ unitAll uid ∨ u.ownState v = stOff ∨ u.ownState v = stFailed → t.ownState v = u.ownState v) ∧
        t.pol = u.pol ∧ t.objs = u.objs ∧ t.rr.objs = u.rr.objs ∧ t.rr.lifecycle = u.rr.lifecycle ∧ t.pending = s.pending) ∧
    (Accepts u c (baseOf uid) 8 [2] → unitFind uid ≠ none → unitFind (unitParent uid) ≠ none → u.unitState (unitParent uid) = stStopped →
      (uid = 8 → u.rr.tag.killed = false) →
      exec (.unitStart dt c uid) s = finish s (u.aborted c (baseOf uid) 8 abSequence)) ∧
    (Accepts u c (baseOf uid) 8 [2] → unitFind uid ≠ none → (unitFind (unitParent uid) = none ∨ u.unitState (unitParent uid) ≠ stStopped) →
      (uid = 8 → u.rr.tag.killed = false) →
      ∃ t, exec (.unitStart dt c uid) s = .next t ∧ ((t.ctx c).reply.map (·.abort)) = some abOk ∧
        (∀ v, t.ownState v = if v ∈ unitAll uid ∧ isGroup v = false ∧ u.ownState v = stStopped then stStarting else u.ownState v) ∧
        t.pol = u.pol ∧ t.objs = u.objs ∧ t.rr = u.rr ∧ t.evq = u.evq ∧ t.pending = s.pending)

/-- A stop request to the root, the trust group and its descendants, the key store, the non-volatile store, supervision and its descendants, the
dictionary server or the host port, by a client whose request reaches a dictionary that serves and that holds a role, whichever it is, is answered
ROLE_DENIED, and nothing but the answer changes. (A client of a revoked session is told so before its role is looked at, and is not meant here.)
(R20) -/
def Obligations.UnstoppableUnitsDenyTheStop : Prop :=
  ∀ (s : State) (dt : Nat) (c : Client) (uid : Nat), let u := s.turn dt
    uid ∈ [0x00, 0x01, 0x20, 0x21, 0x22, 0x0C, 0x0D, 0x11, 0x35, 0x36, 0x37, 0x24, 0x12] →
    Asks u c → u.dictDown c (baseOf uid) = abOk → (c = .host ∨ (u.ctx c).st = 2) → (u.ctx c).revoked = false →
    ∃ late, exec (.unitStop dt c uid) s = finish s (u.answer c (key (baseOf uid) 8) abRole [] late)

/-- A start-up of a unit that is not STARTING, or before every unit it depends on is RUNNING or DEGRADED, changes nothing but the time. Else lifecycle
and boot, the vehicle pair, the dictionary server and the context table become RUNNING and nothing else changes; the timer set becomes RUNNING with
T0 to T4 stopped at 0 and T5 running from 0, the GNSS input with T6 running from 0; the trust pair becomes RUNNING unless its fault is lasting, in
which case it becomes FAILED, and so do the start-lock outputs with theirs; neither touches policy or the outputs, which hold the locked state.
(R15, R32, R33) -/
def Obligations.StartUpWaitsForWhatAUnitDependsOn : Prop :=
  ∀ (s : State) (dt uid : Nat) (o : StartObs), let u := s.turn dt
    (u.powered = false ∨ u.ownState uid ≠ stStarting ∨ (∃ v ∈ startAfter uid, u.unitState v ≠ stRunning ∧ u.unitState v ≠ stDegraded) →
      exec (.unitStartUp dt uid o) s = finish s u) ∧
    (u.mayStart uid = true →
      (uid ∈ [0x22, 0x23, 0x24, 0x07] → exec (.unitStartUp dt uid o) s = finish s { u with us := kvPut u.us uid stRunning }) ∧
      (uid = 0x31 → ∃ t, exec (.unitStartUp dt uid o) s = .next t ∧ kvGet? t.us uid = some stRunning ∧ (∀ n, n < 5 → t.timer n = {}) ∧
        t.timer 5 = { running := true, from_ := u.pclk }) ∧
      (uid = 0x34 → ∃ t, exec (.unitStartUp dt uid o) s = .next t ∧ kvGet? t.us uid = some stRunning ∧ t.timer 6 = { running := true, from_ := u.pclk }) ∧
      (uid = 0x20 → exec (.unitStartUp dt uid o) s = finish s { u with us := kvPut u.us uid (if u.trustLost then stFailed else stRunning) }) ∧
      (uid = 0x06 → exec (.unitStartUp dt uid o) s = finish s { u with us := kvPut u.us uid (if u.lasting 0x13 then stFailed else stRunning) }))

/-- While the control domain runs, the trust pair and the cipher engine serve and no check is in service, TRUST_REQUEST_SERVED marks the first queued
MAC check as in service and changes nothing else. A write to an SRAM region by one of its listed initiators changes nothing; one by any other
initiator is dropped, and the source of the initiator or owner is charged with it. The listed initiators are those of R27. (R25, R27) -/
def Obligations.RequestQueueAndFirewall : Prop :=
  (∀ (s : State) (dt : Nat) (m : MacWait), let u := s.turn dt
    u.powered = true → u.trustKeys = true → u.cx.macs.any (·.service) = false → u.cx.macs.find? (·.queued) = some m →
    exec (.trustRequestServed dt) s =
      finish s { u with cx := { u.cx with macs := u.cx.macs.map (fun x => if x == m then { x with service := true } else x) } }) ∧
  (∀ (s : State) (dt : Nat) (i : Initiator) (r : Region), let u := s.turn dt
    (mayWrite i r = true ↔ (r = .trust ∧ (i = .trustPair ∨ i = .cipherTrust)) ∨ (r = .vehicle ∧ i = .vehiclePair) ∨
      (r = .roundBuffers ∧ (i = .capture ∨ ∃ n, i = .se n)) ∨ (r = .messages ∧ (i = .trustPair ∨ i = .vehiclePair ∨ ∃ n, i = .se n)) ∨
      (r = .jobRings ∧ (i = .trustPair ∨ i = .vehiclePair ∨ i = .cipherTrust ∨ i = .cipherVehicle)) ∨
      (r = .journalTail ∧ (i = .trustPair ∨ i = .nand)) ∨ (r = .tagSnapshot ∧ (i = .tagEngine ∨ i = .vehiclePair))) ∧
    (mayWrite i r = true → exec (.firewallFault dt i r) s = finish s u) ∧
    (u.powered = true → mayWrite i r = false →
      exec (.firewallFault dt i r) s = finish s (u.charge (firewallSource i r) (sourceUnit (firewallSource i r)) 0)))

/-- While the control domain runs, a transaction of opcode NOP or of an opcode of 5 or more shifts out the status word and then zeros, and does nothing
else beyond the transaction itself. RESPONSE shifts out the status word and then the waiting response from its first word, with zeros after it, and
zeros alone where none waits; the response is consumed where all its words with the CRC were clocked, and else stays whole. FAST_READ shifts out the
status word and then consecutive words of the fast window from the start address, which wraps. (R48, R49, R50, R52, R57) -/
def Obligations.HostTransactionsShiftStatusAndWords : Prop :=
  ∀ (s : State) (dt : Nat) (ws : List Word), ws ≠ [] → let u := s.turn dt
    let v := u.fastFlags.hostBegin ws
    let word0 : Word := BitVec.ofNat 16 u.fastFlags.hostStatus
    u.powered = true →
    v.host.miso = word0 :: List.replicate (ws.length - 1) 0 ∧ { v with host := u.host } = u ∧
    v.host.resp = u.host.resp ∧ v.host.avail = u.host.avail ∧ v.host.busy = u.host.busy ∧ v.host.lastReq = u.host.lastReq ∧
    (hostOp ws = 0 → exec (.nop dt ws) s = finish s v) ∧
    (5 ≤ hostOp ws → exec (.ignoredOpcode dt ws) s = finish s v) ∧
    (hostOp ws = 3 → u.host.avail = false → exec (.response dt ws) s = finish s v) ∧
    (hostOp ws = 3 → u.host.avail = true → u.host.resp.length ≤ ws.length - 1 → exec (.response dt ws) s =
      finish s { v with host := { v.host with
        miso := word0 :: (u.host.resp ++ List.replicate (ws.length - 1 - u.host.resp.length) 0), avail := false, busy := false } }) ∧
    (hostOp ws = 3 → u.host.avail = true → ws.length - 1 < u.host.resp.length → exec (.response dt ws) s =
      finish s { v with host := { v.host with miso := word0 :: u.host.resp.take (ws.length - 1) } }) ∧
    (hostOp ws = 4 → ∃ t, exec (.fastRead dt ws) s = .next t ∧
      t.host.miso = word0 :: (v.fastRun (ws.length - 1) (wordAt ws 0 % 256)).2 ∧ t.host.avail = u.host.avail ∧ t.host.resp = u.host.resp ∧
      t.host.lastReq = u.host.lastReq ∧ t.pending = s.pending)

/-- A request frame that arrives while READY is 0 or that ends before its CRC word changes nothing but the transaction itself; one with a bad CRC sets
CRC_ERR, counts, and takes no other action. A good frame equal in tag and content to the last executed request makes that request's response
available again, executes nothing and counts a repeat. A good frame that reuses the last tag with other content gets SEQUENCE and is not executed:
the last executed request and its response stay. Every other good frame is executed, as a read or a write, and becomes the last executed request.
Words after the CRC word play no part. (R51) -/
def Obligations.RequestFramesAreAcceptedOrDiscarded : Prop :=
  ∀ (s : State) (dt : Nat) (ws : List Word), ws ≠ [] → let u := s.turn dt
    let v := u.fastFlags.hostBegin ws
    let n := v.frameWords ws
    let fr := ws.take n
    let acc : State := { v with host := { v.host with crcErr := false, accepted := min (v.host.accepted + 1) (2 ^ 32 - 1) } }
    let ran : State := ({ acc with host := { acc.host with lastReq := fr, cur := fr, busy := true } } : State).setCtx
      { acc.ctx .host with reply := none, lastUse := acc.now, readSnap := (acc.ctx .host).readSnap.map (fun sn => { sn with last := acc.now }) }
    u.powered = true → (hostOp ws = 1 ∨ hostOp ws = 2) →
    let i : Instr := if hostOp ws = 1 then .reqRead dt ws else .reqWrite dt ws
    ((v.hostReady = false ∨ ws.length < n) → exec i s = finish s v) ∧
    (v.hostReady = true → n ≤ ws.length → hostCrc (ws.take (n - 1)) ≠ nth 0 ws (n - 1) → exec i s =
      finish s { v with host := { v.host with crcErr := true, crcErrs := min (v.host.crcErrs + 1) (2 ^ 32 - 1) } }) ∧
    (v.hostReady = true → n ≤ ws.length → hostCrc (ws.take (n - 1)) = nth 0 ws (n - 1) →
      (v.host.lastReq = fr → exec i s = finish s { acc with host := { acc.host with
        resp := v.host.lastResp, avail := true, busy := true, repeated := min (v.host.repeated + 1) (2 ^ 32 - 1) } }) ∧
      (v.host.lastReq ≠ fr → v.host.lastReq ≠ [] → wordAt v.host.lastReq 0 % 256 = wordAt fr 0 % 256 →
        ∃ t, exec i s = .next t ∧ t.host.avail = true ∧ t.host.resp[1]? = some (BitVec.ofNat 16 abSequence) ∧ t.host.lastReq = v.host.lastReq ∧
          t.host.lastResp = v.host.lastResp ∧ t.objs = u.objs ∧ t.rr = u.rr ∧ t.dict.clients = u.dict.clients ∧ t.dict.commits = u.dict.commits) ∧
      (v.host.lastReq ≠ fr → (v.host.lastReq = [] ∨ wordAt v.host.lastReq 0 % 256 ≠ wordAt fr 0 % 256) →
        (hostOp fr = 1 → exec i s = finish s (ran.hostRead fr)) ∧ (hostOp fr ≠ 1 → exec i s = finish s (ran.hostWrite fr))))

/-- A read at offset 0 of an object no longer than the window (no stream, no random bytes, no tag window), by a host with no tagging session, whose
checks pass, makes the response available: the command's opcode and tag, OK, the length, LAST, offset 0, the value's data words, and the CRC over
them; it counts one completed transfer. A write in one piece whose checks pass to a volatile object with nothing of its own to do stores the value,
answers OK and leaves every other object, ReRAM and the event queue as they were; a persistent object's write waits for its commit. A read or write
that a check turns down answers that check's code and stores nothing. (R39, R43, R50, R52, R56, R62) -/
def Obligations.HostReadsAndWritesOfWholeObjects : Prop :=
  ∀ (v : State) (fr : List Word), let ix := wordAt fr 1
    let sub := wordAt fr 2 / 256
    (v.ctx .host).tagged = false → v.ctx .host = { v.ctx .host with stage := none, readSnap := none } →
    (∀ data : Bytes, hostOp fr = 1 → wideAt fr 3 = 0 → v.checkAccess .host false ix sub 0 = abOk → (ix ≠ 0x3A21 ∨ sub ≠ 1) →
      (v.readObject .host ix sub).2 = (abOk, data) → data.length ≤ v.window → data.length < 65536 →
      let body : List Word := [BitVec.ofNat 16 (4096 + wordAt fr 0 % 256), BitVec.ofNat 16 abOk, BitVec.ofNat 16 data.length, 0x8000, 0, 0] ++ hostWords data
      (v.hostRead fr).host.avail = true ∧ (v.hostRead fr).host.resp = body ++ [hostCrc body] ∧
      (v.hostRead fr).dict.completed = min ((v.readObject .host ix sub).1.dict.completed + 1) (2 ^ 32 - 1)) ∧
    (v.checkAccess .host false ix sub 0 ≠ abOk →
      (v.hostRead fr).host.resp[1]? = some (BitVec.ofNat 16 (v.checkAccess .host false ix sub 0)) ∧ (v.hostRead fr).objs = v.objs ∧ (v.hostRead fr).rr = v.rr) ∧
    (hostOp fr = 2 → wideAt fr 5 = 0 → wordAt fr 7 = wideAt fr 3 → 8 + (wordAt fr 7 + 1) / 2 < fr.length →
      let data := hostBytes (wordAt fr 7) (fr.drop 8)
      (v.pieceCause fr data ≠ abOk → v.hostWrite fr = v.answer .host (key ix sub) (v.pieceCause fr data) [] false) ∧
      (v.pieceCause fr data = abOk → valueOk ix sub (leNat data) = true → wayOf .host ix sub data = plainWay .host ix sub data →
        (∀ d, objFind ix sub = some d → d.pers = true → ix ≠ 0x3811 →
          v.hostWrite fr = { v.setCtx (v.ctx .host) with dict := { (v.setCtx (v.ctx .host)).dict with
            commits := v.dict.commits ++ [{ c := .host, key := key ix sub, data := data, at_ := v.now, work := 0 }] } }) ∧
        (∀ d, objFind ix sub = some d → d.pers = false → ix ∉ [0x1110, 0x2C08, 0x3020, 0x3702, 0x3720, 0x3A20, 0x3410, 0x3411, 0x3510, 0x3511, 0x3811] →
          ¬(0x4510 ≤ ix ∧ ix ≤ 0x4517) →
          v.hostWrite fr = ((v.touchIx ix).setObj ix sub (leNat data)).done .host ix sub)))

/-- An accepted write of a volatile object with nothing of its own to do stores the value at once. An accepted write of a persistent object with nothing
of its own to do stores nothing yet: it waits. When its commit is due, and no fence is up, the value is stored in ReRAM and the client gets OK.
While the fence is up nothing commits; if the fence is still up 100 ms after the write, the write is dropped with NV_FENCED and the object keeps its
previous value in RAM and ReRAM. (R55) -/
def Obligations.PersistentWritesCommitOrAreFenced : Prop :=
  ∀ (s : State) (dt : Nat) (c : Client), let u := s.turn dt
    (∀ (ix sub : Nat) (data : Bytes) (d : ObjDef), Accepts u c ix sub data → wayOf c ix sub data = plainWay c ix sub data → objFind ix sub = some d → ix ≠ 0x3811 →
      (d.pers = true → exec (.objectWrite dt c ix sub data) s =
        finish s { u with dict := { u.dict with commits := u.dict.commits ++ [{ c := c, key := key ix sub, data := data, at_ := u.now, work := 0 }] } }) ∧
      (d.pers = false → ix ∉ [0x1110, 0x2C08, 0x3020, 0x3702, 0x3720, 0x3A20, 0x3410, 0x3411, 0x3510, 0x3511] → ¬(0x4510 ≤ ix ∧ ix ≤ 0x4517) →
        exec (.objectWrite dt c ix sub data) s = finish s (((u.touchIx ix).setObj ix sub (leNat data)).done c ix sub))) ∧
    (∀ x : Commit, u.dict.commits.find? (fun y => y.c == c) = some x → u.powered = true → x.key / 256 ≠ 0x3811 → x.key / 256 ≠ 0x3020 →
      (u.fenced = true → exec (.persistentCommit dt c) s = finish s u) ∧
      (∀ d, u.fenced = false → objFind (x.key / 256) (x.key % 256) = some d → d.pers = true →
        wayOf c (x.key / 256) (x.key % 256) x.data = plainWay c (x.key / 256) (x.key % 256) x.data → (x.key / 256 ≠ 0x3740 ∨ x.key % 256 ≠ 2) →
        ∃ t, exec (.persistentCommit dt c) s = .next t ∧ (t.ctx c).reply = some { key := x.key, abort := abOk, data := [] } ∧
          t.rr.objs = kvSet d.dflt u.rr.objs x.key (leNat x.data) ∧ t.objs = u.objs ∧ t.dict.commits = u.dict.commits.erase x) ∧
      (u.fenced = true → x.at_ + 100000000 ≤ u.now → exec (.nvFenced dt c) s =
        finish s (({ u with dict := { u.dict with commits := u.dict.commits.erase x } } : State).answer c x.key abFenced [] true)) ∧
      ((u.fenced = false ∨ u.now < x.at_ + 100000000) → exec (.nvFenced dt c) s = finish s u))

/-- A role write of F outside FACTORY answers ROLE_DENIED and nothing else changes. An accepted role write of H with no session open, no hold-off
running, fewer than 32 sessions open and 16 bytes to be had from channel 2 issues those bytes as the device nonce, in state NONCE_ISSUED. A proof
with no opening under way answers SEQUENCE, or TIMEOUT where the last opening ran out of its time; more than 10 s after the role write it answers
TIMEOUT and the record returns to NONE. The proof of H that is the CMAC over the message of R41 under the host pairing key in slot 1, with the
engine and the trust pair serving and a row free, opens the session: state OPEN, transfer counter 0 to which the write itself then counts 1, the
session key of R42, one session more opened, and a row of the context table held. Any other value answers AUTH_FAILED, returns the record to NONE
and holds role writes off for 2 s. (R38, R40, R41, R42, R44, R45, R76) -/
def Obligations.RoleSessionsOpenWithAProof : Prop :=
  ∀ (s : State) (dt : Nat) (c : Client), let u := s.turn dt
    (∀ code : Nat, Accepts u c 0x1110 1 (leBytes 1 code) → code = roleF → u.rr.lifecycle ≠ lcFactory →
      exec (.role dt c code) s = finish s (u.aborted c 0x1110 1 abRole)) ∧
    (Accepts u c 0x1110 1 [1] → (u.ctx c).st ≠ 2 → (u.ctx c).holdUntil ≤ u.now → u.sessionsOpen < 32 → u.trustLost = false →
      u.rngStopped 2 = false → u.rngWaits 2 16 = false →
      ∃ t, exec (.role dt c roleH) s = .next t ∧ (t.ctx c).st = 1 ∧ (t.ctx c).role = roleH ∧ (t.ctx c).devNonce = (u.rngBuf 2).take 16 ∧
        (t.ctx c).openedAt = u.now ∧ (t.ctx c).reply = some { key := key 0x1110 1, abort := abOk, data := [] } ∧
        t.rr = u.rr ∧ t.cx = u.cx ∧ t.evq = u.evq) ∧
    (∀ proof : Bytes, Accepts u c 0x1110 7 proof →
      ((u.ctx c).st ≠ 1 → exec (.proof dt c proof) s = finish s (u.aborted c 0x1110 7 (if (u.ctx c).lapsed then abTimeout else abSequence))) ∧
      ((u.ctx c).st = 1 → (u.ctx c).openedAt + 10000000000 < u.now →
        exec (.proof dt c proof) s = finish s ((u.setCtx { (u.ctx c).none_ with lapsed := true }).aborted c 0x1110 7 abTimeout)) ∧
      ((u.ctx c).st = 1 → u.now ≤ (u.ctx c).openedAt + 10000000000 → (u.ctx c).role = roleH → u.cipherOk = true → u.trustLost = false → (u.slot 1).ty ≠ 0 →
        (proof = padTo 96 (cmac (u.slot 1).key (u.ctx c).proofMessage) → u.sessionsOpen < 32 → u.freeRow ≠ none →
          ∃ t, exec (.proof dt c proof) s = .next t ∧ (t.ctx c).st = 2 ∧ (t.ctx c).role = roleH ∧ (t.ctx c).ctr = 1 ∧
            (t.ctx c).key = kdf (u.slot 1).key (ascii "BDP-SESSION") ([byte (channelOf c), 1] ++ (u.ctx c).devNonce ++ (u.ctx c).cliNonce) 128 ∧
            (t.ctx c).row = u.freeRow ∧ t.dict.opened = min (u.dict.opened + 1) (2 ^ 32 - 1)) ∧
        (proof ≠ padTo 96 (cmac (u.slot 1).key (u.ctx c).proofMessage) →
          ∃ t, exec (.proof dt c proof) s = .next t ∧ (t.ctx c).st = 0 ∧ (t.ctx c).holdUntil = u.now + 2000000000 ∧
            (t.ctx c).reply = some { key := key 0x1110 7, abort := abAuthFail, data := [] } ∧ t.cx = u.cx)))

/-- While the control domain runs: an opening with no proof 10 s after its role write returns to NONE. An accepted close of an open session, and the
idle time of 0x1101:07 (as in force for the client) with no transfer, end the session: the record is NONE with counter 0 and no key, the row it held
is FREE, the client's other per-client objects are at their defaults, it holds no host job interface, and SESSION_CLOSED is raised with cause 1 or
2. A hold-off of a failed proof ends once its 2 s are over. None of these does anything before its time. (R40, R44, R45, R76, R506) -/
def Obligations.SessionsEndAndTimeOut : Prop :=
  ∀ (s : State) (dt : Nat) (c : Client), let u := s.turn dt
    u.powered = true →
    let ended := fun (cause : Nat) (t : State) => (t.ctx c).st = 0 ∧ (t.ctx c).role = 0 ∧ (t.ctx c).ctr = 0 ∧ (t.ctx c).key = [] ∧ (t.ctx c).row = none ∧
      (t.ctx c).vals = [] ∧ t.cipher.holder ≠ some c ∧ t.pk.holder ≠ some c ∧ (∀ n, (u.ctx c).row = some n → (t.row n).st = 0) ∧
      (u.evq.length < 64 → t.evq = u.evq ++ [{ code := 0x1102, unit := 0x24, param := (cause + 256 * channelOf c) % 2 ^ 32, ms := u.ms % 2 ^ 32 }]) ∧ t.rr.objs = u.rr.objs
    ((u.ctx c).st = 1 → (u.ctx c).openedAt + 10000000000 ≤ u.now → exec (.sessionOpenTimeout dt c) s = finish s (u.setCtx { (u.ctx c).none_ with lapsed := true })) ∧
    (((u.ctx c).st ≠ 1 ∨ u.now < (u.ctx c).openedAt + 10000000000) → exec (.sessionOpenTimeout dt c) s = finish s u) ∧
    (Accepts u c 0x1110 8 [1] → (u.ctx c).st = 2 → ∃ t, exec (.close dt c) s = .next t ∧ ended 1 t ∧ (t.ctx c).reply.map (·.abort) = some abOk) ∧
    ((u.ctx c).st = 2 → (u.ctx c).lastUse + u.idleLimit c * 1000000000 ≤ u.now → ∃ t, exec (.sessionIdleTimeout dt c) s = .next t ∧ ended 2 t) ∧
    (((u.ctx c).st ≠ 2 ∨ u.now < (u.ctx c).lastUse + u.idleLimit c * 1000000000) → exec (.sessionIdleTimeout dt c) s = finish s u) ∧
    ((u.ctx c).holdUntil ≤ u.now → exec (.proofHoldOffEnd dt c) s = finish s (u.setCtx { u.ctx c with holdUntil := 0 })) ∧
    (u.now < (u.ctx c).holdUntil → exec (.proofHoldOffEnd dt c) s = finish s u)

/-- An accepted apply takes the 32 slots: where every slot in use names an object of at most 8 bytes that H can read, and the map needs at most 254
words with the two flag words, exactly these slots become the map, no value is latched and the new-data flags of the mapped slots alone are set.
Else the map in force, its flags and its latched values stay, and the set is marked refused. Either way OK is answered. (R23, R58, R59, R504) -/
def Obligations.FastMapAppliesWholeOrNotAtAll : Prop :=
  ∀ (s : State) (dt : Nat) (c : Client), let u := s.turn dt
    let used := (List.range 32).filter (fun k => u.obj 0x5020 (k + 1) != 0)
    let words := 2 + (used.map (fun k => slotWords (u.obj 0x5020 (k + 1) / 256 % 2 ^ 24))).sum
    Accepts u c 0x5021 1 [1] →
    ((∀ k ∈ used, u.fastBad k = false) → words ≤ 254 → ∃ t, exec (.applyFastMap dt c) s = .next t ∧
      t.host.map = used.map (fun k => (k, u.obj 0x5020 (k + 1) / 256 % 2 ^ 24)) ∧ t.host.latched = [] ∧
      t.host.newData = (used.map (fun k => 2 ^ k)).sum ∧ t.evq = u.evq ∧ t.objs = u.objs ∧ t.rr = u.rr ∧ (t.ctx c).reply.map (·.abort) = some abOk) ∧
    (((∃ k ∈ used, u.fastBad k = true) ∨ 254 < words) → ∃ t, exec (.applyFastMap dt c) s = .next t ∧ t.host = u.host ∧ t.refused.contains 0x5020 = true ∧
      (u.refused.contains 0x5020 = true → t.evq = u.evq ∧ t.sticky = u.sticky) ∧
      (u.refused.contains 0x5020 = false → bit (kvGet 0 t.sticky 0x12) 6 = true) ∧ t.objs = u.objs ∧ (t.ctx c).reply.map (·.abort) = some abOk)

/-- While the control domain runs, a stream of which no window has been requested for the time of 0x5010:02 closes and its client's export state returns
to 0; a read snapshot whose client has sent no request for that time is released. Before that time nothing happens. (R69, R72) -/
def Obligations.StreamsAndSnapshotsTimeOut : Prop :=
  ∀ (s : State) (dt : Nat), let u := s.turn dt
    u.powered = true →
    (∀ st : Stream, u.dict.stream = some st →
      (st.last + u.obj 0x5010 2 * 1000000000 ≤ u.now → exec (.streamIdleTimeout dt) s =
        finish s (({ u with dict := { u.dict with stream := none } } : State).setCtx { u.ctx st.c with expState := 0 })) ∧
      (u.now < st.last + u.obj 0x5010 2 * 1000000000 → exec (.streamIdleTimeout dt) s = finish s u)) ∧
    (u.dict.stream = none → exec (.streamIdleTimeout dt) s = finish s u) ∧
    (∀ (c : Client) (sn : ReadSnap), (u.ctx c).readSnap = some sn →
      (sn.last + u.obj 0x5010 2 * 1000000000 ≤ u.now → exec (.readSnapshotTimeout dt c) s = finish s (u.setCtx { u.ctx c with readSnap := none })) ∧
      (u.now < sn.last + u.obj 0x5010 2 * 1000000000 → exec (.readSnapshotTimeout dt c) s = finish s u)) ∧
    (∀ c : Client, (u.ctx c).readSnap = none → exec (.readSnapshotTimeout dt c) s = finish s u)

/-- While the control domain runs, with BDP enabled on the bus and the controller hearing it, a frame of a legal length on a channel's request
identifier that R62 reads as the row's frame first meets the other users of received frames (host filters, policy's identifiers, the time master)
and is then served by BDP on that channel, for each of the twelve client frames; a frame that R62 reads as another one is another row's, and changes
nothing here. Where byte 0 reads 0x80 the frame is an abort; inside the data phase of a block write every other frame is a segment of it. (R46, R60,
R62, R425) -/
def Obligations.BdpFramesReachTheirChannel : Prop :=
  ∀ (s : State) (dt bus ch : Nat) (fr : Bytes) (fd : Bool), let u := s.turn dt
    let id := (u.bdpConfig bus).bdpConf bus 2 + ch
    let f : CanFrame := { id := id, fdf := fd, brs := fd, dlc := dlcFor fr.length, data := fr }
    let w := ((((u.canDeliver bus f false).requestFrame bus f).engineFrame f).bellRx bus f).bdpConfig bus
    let row : BdpKind → Option Instr := fun k => match k with
      | .expedited => some (.expeditedWrite dt bus ch fr fd) | .segWrite => some (.segmentedWriteInitiate dt bus ch fr fd)
      | .blkWrite => some (.blockWriteInitiate dt bus ch fr fd) | .read => some (.readInitiate dt bus ch fr fd)
      | .blkRead => some (.blockReadInitiate dt bus ch fr fd) | .segment => some (.segmentedWriteSegment dt bus ch fr fd)
      | .blockSegment => some (.blockWriteSegment dt bus ch fr fd) | .readRequest => some (.segmentedReadRequest dt bus ch fr fd)
      | .readAck => some (.blockReadAcknowledgement dt bus ch fr fd) | .readEndAck => some (.blockReadEndAcknowledgement dt bus ch fr fd)
      | .writeEnd => some (.writeEnd dt bus ch fr fd) | .abort => some (.abort dt bus ch fr fd) | .none => none
    ((fr.getD 0 0) = 0x80 → u.bdpKind bus ch fr = .abort) ∧
    ((fr.getD 0 0) ≠ 0x80 → u.blockPhase bus ch = true → u.bdpKind bus ch fr = .blockSegment) ∧
    (∀ (k : BdpKind) (i : Instr), row k = some i → k ≠ u.bdpKind bus ch fr → exec i s = finish s u) ∧
    (∀ i : Instr, row (u.bdpKind bus ch fr) = some i → u.powered = true → bus < 2 → ch < 16 → dlcBytes fd (dlcFor fr.length) = fr.length →
      u.canHears bus = true → w.powered = true → w.bdpConf bus 2 + ch = id → bit (w.bdpConf bus 1) bus = true →
      exec i s = finish s (w.bdpFrame bus ch fr fd))

/-- On a channel with no transfer a write initiate whose object and length pass the checks and fit the staging space begins a transfer of that length,
answered with 0x60 and, for a block write, the block size of 0x1101:05; one that does not is answered by an abort with the check's code. In a
segmented write a segment of the expected toggle and of the length that the object asks for appends its data, flips the toggle and is acknowledged
with the toggle it had; a wrong toggle ends the transfer with SEQUENCE, and a length or unused count that disagrees with the object length with
TYPE_LENGTH. In a block write a segment in unbroken order appends its data, one after a gap is discarded, and after the block's last segment or the
one marked last the device acknowledges the highest number in unbroken order. An expedited write outside an H session is aborted with AUTH_REQUIRED.
(R61, R62, R63, R64, R65, R66, R71) -/
def Obligations.BdpWritesStageSegmentsInOrder : Prop :=
  ∀ (v : State) (bus ch : Nat) (fr : Bytes) (fd : Bool), let c : Client := .can bus ch
    let b := v.bdpTouch c
    let ix := leNat (slice 1 2 fr)
    let sub := (fr.getD 3 0).toNat
    let len := leNat (slice 4 4 fr)
    let b0 := (fr.getD 0 0).toNat
    v.bdpForm bus fr fd (v.bdpKind bus ch fr == .segment || v.bdpKind bus ch fr == .blockSegment) = true →
    ((b.ctx c).xfer = none →
      (∀ block : Bool, v.bdpKind bus ch fr = (if block then .blkWrite else .segWrite) →
        (b.checkForm c ix sub 0 len = abOk → b.stagingFull c len = false →
          let blk := if block then b.bdpConf bus 5 else 0
          v.bdpFrame bus ch fr fd = (b.xferStart c { kind := if block then .blkWrite else .segWrite, key := key ix sub, total := len, data := [], blk := blk, fd := fd, last := b.now }).bdpSend
            bus ch fd false [0x60, byte (key ix sub / 256), byte (key ix sub / 65536), byte (key ix sub), byte blk]) ∧
        (b.checkForm c ix sub 0 len = abOk → b.stagingFull c len = true → v.bdpFrame bus ch fr fd = b.bdpAbort bus ch fd (key ix sub) abBusy false) ∧
        (b.checkForm c ix sub 0 len ≠ abOk → v.bdpFrame bus ch fr fd = b.bdpAbort bus ch fd (key ix sub) (b.checkForm c ix sub 0 len) false)) ∧
      (v.bdpKind bus ch fr = .expedited → let data := slice 4 (4 - b0 % 4) fr
        b.checkForm c ix sub (leNat data) data.length = abOk →
        ((b.ctx c).st ≠ 2 ∨ (b.ctx c).role ≠ roleH → v.bdpFrame bus ch fr fd = b.bdpAbort bus ch fd (key ix sub) abAuthReq false) ∧
        ((b.ctx c).st = 2 → (b.ctx c).role = roleH → valueOk ix sub (leNat data) = true → v.bdpFrame bus ch fr fd =
          b.bdpCommit c { kind := .segWrite, key := key ix sub, total := data.length, data := data, fd := fd, last := b.now } ix sub))) ∧
    (∀ t : Xfer, (b.ctx c).xfer = some t → t.fd = fd → t.commit = false →
      let left := t.total - t.data.length
      (v.bdpKind bus ch fr = .segment → t.kind = .segWrite →
        (bit b0 4 ≠ t.toggle → v.bdpFrame bus ch fr fd = b.bdpAbort bus ch fd t.key abSequence false) ∧
        (bit b0 4 = t.toggle → t.ended = true ∨ segFits t (bit b0 0) fr.length = false ∨ b0 / 2 % 8 ≠ (if fd || !bit b0 0 then 0 else 7 - left) →
          v.bdpFrame bus ch fr fd = b.bdpAbort bus ch fd t.key abLength false) ∧
        (bit b0 4 = t.toggle → t.ended = false → segFits t (bit b0 0) fr.length = true → b0 / 2 % 8 = (if fd || !bit b0 0 then 0 else 7 - left) →
          v.bdpFrame bus ch fr fd = (b.xferSet c { t with data := t.data ++ slice 1 (min (segBytes fd) left) fr, toggle := !t.toggle, ended := bit b0 0 }).bdpSend
            bus ch fd false [byte (if bit b0 4 then 0x30 else 0x20)])) ∧
      (v.bdpKind bus ch fr = .blockSegment →
        (b0 % 128 = t.seq + 1 → segFits t (bit b0 7) fr.length = false → v.bdpFrame bus ch fr fd = b.bdpAbort bus ch fd t.key abLength false) ∧
        (b0 % 128 ≠ t.seq + 1 → bit b0 7 = false → b0 % 128 ≠ t.blk → v.bdpFrame bus ch fr fd = b.xferSet c t) ∧
        (b0 % 128 = t.seq + 1 → segFits t (bit b0 7) fr.length = true →
          let t1 : Xfer := { t with data := t.data ++ slice 1 (min (segBytes fd) left) fr, seq := b0 % 128, ended := bit b0 7 }
          v.bdpFrame bus ch fr fd = (if bit b0 7 = true ∨ b0 % 128 = t.blk then
            (b.xferSet c { t1 with seq := 0, blk := b.bdpConf bus 5 }).bdpSend bus ch fd false [0x68, byte t1.seq, byte (b.bdpConf bus 5)]
            else b.xferSet c t1))))

/-- The end frame of a segmented or block write whose data are whole and whose unused count agrees: where the tag over the data does not verify under
the session, the transfer ends with AUTH_FAILED, the store of objects and ReRAM's objects are as they were and no commit waits that did not wait
before; where it verifies and the value is in range, the value received is handed to the store as the client's write. Any other end frame ends the
transfer with TYPE_LENGTH. An abort from the client ends the transfer and sends nothing: no frame enters a queue, and none of the client's writes
waits for its commit. (R39, R43, R61, R64, R68) -/
def Obligations.BdpWritesCommitAfterTheirTag : Prop :=
  ∀ (v : State) (bus ch : Nat) (fr : Bytes) (fd : Bool) (t : Xfer), let c : Client := .can bus ch
    let b := v.bdpTouch c
    let ix := t.key / 256
    let sub := t.key % 256
    v.bdpForm bus fr fd false = true → (b.ctx c).xfer = some t → t.fd = fd → t.commit = false →
    (v.bdpKind bus ch fr = .writeEnd → (t.kind = .segWrite ∨ t.kind = .blkWrite) →
      (t.ended = false ∨ (fr.getD 0 0).toNat % 8 ≠ unusedOf fd t.total → v.bdpFrame bus ch fr fd = b.bdpAbort bus ch fd t.key abLength false) ∧
      (t.ended = true → (fr.getD 0 0).toNat % 8 = unusedOf fd t.total → b.tagDown c ix = false → (b.ctx c).tagged = true → ix ≠ 0x1110 →
        (((b.ctx c).tagOver 1 ix sub t.data).take 7 ≠ slice 1 7 fr →
          (v.bdpFrame bus ch fr fd).objs = v.objs ∧ (v.bdpFrame bus ch fr fd).rr.objs = v.rr.objs ∧
          (v.bdpFrame bus ch fr fd).dict.commits = v.dict.commits ∧ ((v.bdpFrame bus ch fr fd).ctx c).xfer = none ∧
          ((v.bdpFrame bus ch fr fd).ctx c).reply = some { key := t.key, abort := abAuthFail, data := [] }) ∧
        (((b.ctx c).tagOver 1 ix sub t.data).take 7 = slice 1 7 fr → b.valueCause c ix sub (leNat t.data) = abOk →
          v.bdpFrame bus ch fr fd = (b.xferStart c { t with commit := true }).beginWrite c ix sub t.data (wayOf c ix sub t.data)))) ∧
    (v.bdpKind bus ch fr = .abort →
      ((v.bdpFrame bus ch fr fd).ctx c).xfer = none ∧ (v.bdpFrame bus ch fr fd).can0 = v.can0 ∧ (v.bdpFrame bus ch fr fd).can1 = v.can1 ∧
      (∀ x ∈ (v.bdpFrame bus ch fr fd).dict.commits, x.c ≠ c) ∧ (v.bdpFrame bus ch fr fd).objs = v.objs ∧ (v.bdpFrame bus ch fr fd).rr = v.rr)

/-- On a channel with no transfer a read initiate whose checks pass is answered, for an object of 1 to 4 bytes, with the expedited response 0x40 to 0x43
that holds the value, which completes it; for a longer one in a segmented or block read, of a block size of 1 to 127, with 0x44 or 0x48 and the
object length, and the value read then is what the transfer sends. A read that a check turns down is answered with an abort. A segment request of
the expected toggle gets the next 7 or 63 bytes of that value, with the toggle, the unused count and the last flag in byte 0, and after the last one
the end frame with the tag; a wrong toggle ends the transfer with SEQUENCE. In a block read an acknowledgement of segments sent goes on from the
first byte not acknowledged, or sends the end frame once all are; the end acknowledgement completes the read. (R61, R63, R64, R65, R66, R69) -/
def Obligations.BdpReadsSendTheValueRead : Prop :=
  ∀ (v : State) (bus ch : Nat) (fr : Bytes) (fd : Bool), let c : Client := .can bus ch
    let b := v.bdpTouch c
    let ix := leNat (slice 1 2 fr)
    let sub := (fr.getD 3 0).toNat
    let k := key ix sub
    let b0 := (fr.getD 0 0).toNat
    v.bdpForm bus fr fd false = true →
    ((b.ctx c).xfer = none → ∀ block : Bool, v.bdpKind bus ch fr = (if block then .blkRead else .read) →
      (b.checkAccess c false ix sub 0 ≠ abOk → v.bdpFrame bus ch fr fd = b.bdpAbort bus ch fd k (b.checkAccess c false ix sub 0) false) ∧
      (∀ data : Bytes, b.checkAccess c false ix sub 0 = abOk → (b.bdpValue c ix sub).2 = (abOk, data) → let r := (b.bdpValue c ix sub).1
        (1 ≤ data.length → data.length ≤ 4 → v.bdpFrame bus ch fr fd =
          (r.answer c k abOk data true).bdpSend bus ch fd false ([byte (0x40 + (4 - data.length)), byte (k / 256), byte (k / 65536), byte k] ++ data)) ∧
        (4 < data.length → b.tagDown c ix = false → block = false → v.bdpFrame bus ch fr fd =
          (r.xferStart c { kind := .segRead, key := k, total := data.length, data := data, blk := 0, fd := fd, last := b.now }).bdpSend
            bus ch fd false ([0x44, byte (k / 256), byte (k / 65536), byte k] ++ leBytes 4 data.length)) ∧
        (4 < data.length → b.tagDown c ix = false → block = true → 1 ≤ (fr.getD 4 0).toNat → (fr.getD 4 0).toNat ≤ 127 →
          let t : Xfer := { kind := .blkRead, key := k, total := data.length, data := data, blk := (fr.getD 4 0).toNat, fd := fd, last := b.now }
          let r1 := (r.xferStart c t).bdpSend bus ch fd false ([0x48, byte (k / 256), byte (k / 65536), byte k] ++ leBytes 4 data.length)
          v.bdpFrame bus ch fr fd = r1.bdpBlock bus ch ((r1.ctx c).xfer.getD t)))) ∧
    (∀ t : Xfer, (b.ctx c).xfer = some t → t.fd = fd → t.commit = false →
      (v.bdpKind bus ch fr = .readRequest → t.kind = .segRead →
        (bit b0 4 ≠ t.toggle → v.bdpFrame bus ch fr fd = b.bdpAbort bus ch fd t.key abSequence false) ∧
        (bit b0 4 = t.toggle → let data := slice t.done (segBytes fd) t.data
          let t1 : Xfer := { t with done := t.done + data.length, toggle := !t.toggle }
          let last := decide (t.total ≤ t.done + segBytes fd)
          let sent := (b.xferSet c t1).bdpSend bus ch fd last (byte (16 * b2n (bit b0 4) + 2 * (if fd then 0 else 7 - data.length) + b2n last) :: data)
          v.bdpFrame bus ch fr fd = (if last = true then (sent.bdpReadEnd bus ch t1).bdpReadDone c t1 else sent))) ∧
      (v.bdpKind bus ch fr = .readAck → t.kind = .blkRead → t.ended = false → (fr.getD 1 0).toNat ≤ t.seq → 1 ≤ (fr.getD 1 0).toNat →
        let done := min t.total (t.done + (fr.getD 1 0).toNat * segBytes fd)
        (done = t.total → v.bdpFrame bus ch fr fd = b.bdpReadEnd bus ch { t with done := done }) ∧
        (done < t.total → 1 ≤ (fr.getD 2 0).toNat → (fr.getD 2 0).toNat ≤ 127 →
          v.bdpFrame bus ch fr fd = b.bdpBlock bus ch { t with done := done, blk := (fr.getD 2 0).toNat })) ∧
      (v.bdpKind bus ch fr = .readEndAck →
        (t.kind = .blkRead → t.ended = true → v.bdpFrame bus ch fr fd = b.bdpReadDone c t) ∧
        (t.kind ≠ .blkRead ∨ t.ended = false → v.bdpFrame bus ch fr fd = b.bdpAbort bus ch fd t.key abSequence false)))

/-- On a channel with a transfer in progress a new initiate drops the client's work that has not committed and ends that transfer with SEQUENCE for its
object, and is then served as on a channel with none. While the control domain runs, a transfer whose next frame has not come within 0x1101:04 of
the device's own last frame is aborted with TIMEOUT, counted, and TRANSFER_TIMEOUT is raised with the object and the channel; before that, with no
transfer, or while the write waits for its commit, nothing happens. (R67, R68, R76) -/
def Obligations.BdpTransfersAreDisplacedAndTimeOut : Prop :=
  (∀ (v : State) (bus ch : Nat) (fr : Bytes) (fd : Bool) (t : Xfer), let c : Client := .can bus ch
    let b := v.bdpTouch c
    v.bdpKind bus ch fr ∈ [.expedited, .segWrite, .blkWrite, .read, .blkRead] → v.bdpForm bus fr fd false = true → (b.ctx c).xfer = some t →
    let d := (b.dropPending c).bdpAbort bus ch t.fd t.key abSequence false
    (d.ctx c).xfer = none ∧ v.bdpFrame bus ch fr fd = d.bdpInitiate bus ch fr fd (v.bdpKind bus ch fr)) ∧
  (∀ (s : State) (dt bus ch : Nat), let u := s.turn dt
    let c : Client := .can bus ch
    ((u.ctx c).xfer = none → exec (.transferTimeout dt bus ch) s = finish s u) ∧
    (∀ t : Xfer, (u.ctx c).xfer = some t →
      (t.commit = true ∨ u.now < t.last + u.bdpConf bus 4 * 1000000 → exec (.transferTimeout dt bus ch) s = finish s u) ∧
      (u.powered = true → t.commit = false → t.last + u.bdpConf bus 4 * 1000000 ≤ u.now →
        let a := u.bdpAbort bus ch t.fd t.key abTimeout false
        exec (.transferTimeout dt bus ch) s =
          finish s (({ a with dict := { a.dict with segTimeouts := min (a.dict.segTimeouts + 1) (2 ^ 32 - 1) } } : State).emit 0x24 0x1104 (256 * t.key + channelOf c)))))

/-- The samples of WAKE_DOOR, WAKE_RF and a CAN bus move that input's 32 kHz filter; an input not enabled in 0x2030:01 does nothing more, an enabled one
acts once for every assertion the filter counts. A door assertion ends the mute, wakes with cause 1 and, with the control domain running, asks
policy for UNLOCK; an RF assertion outside a poll's answer window ends the mute and wakes with cause 3, inside a group poll's window while muted it
only counts a hit; a CAN assertion ends the mute and wakes with cause 4 or 5. A wake from a mode without rails ends in a reset that remembers the
cause; in the ACTIVE mode with no parking under way it counts and raises WAKE with its cause, and causes 1 to 3 also demand a full telegram. (R96,
R98, R99, R100, R107, R454) -/
def Obligations.WakesActByCause : Prop :=
  ∀ (s : State) (dt : Nat) (levels : List Bool), let u := s.turn dt
    (let r := u.aon.doorIn.run (levels.map (fun v => v == u.objB 0x2030 2))
      let t : State := { u with aon := { u.aon with doorIn := r.1 } }
      exec (.wakeDoor dt levels) s = finish s (if bit (u.obj 0x2030 1) 0 then times State.doorOnce r.2 t else t)) ∧
    (let r := u.aon.rfIn.run (levels.map (fun v => v == u.objB 0x2030 4))
      let t : State := { u with aon := { u.aon with rfIn := r.1 } }
      exec (.wakeRf dt levels) s = finish s (if bit (u.obj 0x2030 1) 1 then times State.rfOnce r.2 t else t)) ∧
    (let r := u.aon.can0In.run (levels.map (fun v => !v && u.canStb))
      let t : State := { u with aon := { u.aon with can0In := r.1 } }
      exec (.canWake dt 0 levels) s = finish s (if bit (u.obj 0x2030 1) 2 then times (fun x => x.muteOff.wake 4) r.2 t else t)) ∧
    (let r := u.aon.can1In.run (levels.map (fun v => !v && u.canStb))
      let t : State := { u with aon := { u.aon with can1In := r.1 } }
      exec (.canWake dt 1 levels) s = finish s (if bit (u.obj 0x2030 1) 3 then times (fun x => x.muteOff.wake 5) r.2 t else t)) ∧
    (∀ v : State,
      (v.inAnswerWindow = false → v.rfOnce = v.muteOff.wake 3) ∧
      (v.inAnswerWindow = true → (∃ p, v.aon.rooster.poll = some p ∧ p.presence = false) → v.aon.rooster.muted = true → v.rfOnce = v.pollHit) ∧
      (v.doorOnce = if (v.muteOff.wake 1).powered then (v.muteOff.wake 1).policyRequest 1 1 else v.muteOff.wake 1) ∧
      (v.muteOff.aon.rooster.muted = false ∧ v.muteOff.aon.rooster.hits = 0)) ∧
    (∀ (v : State) (cause : Nat),
      (2 ≤ v.aon.mode → v.wake cause = v.resetTo 9 cause) ∧
      (v.aon.mode = 0 → v.sup.parkStep = 0 → v.powered = true →
        let w : State := ({ v with lf := { v.lf with lastWake := cause, wakes := min (v.lf.wakes + 1) (2 ^ 32 - 1) } } : State).emit 0x03 0x2001 cause
        v.wake cause = if cause ≤ 3 then w.demand else w))

/-- With Rooster in phase p, before the phase's interval has passed since the last poll nothing happens. Once it has, the last poll moves on along the
grid of the interval; where the sequencer cannot send that is all; while a full telegram or its window is in progress the poll is skipped and
counted; else it is sent and counted: its record holds its start, the poll antennas in use and its bits. The end of a poll, not before its 14.336 ms
are over, makes its answer window run from now. A poll's record ends with its answer window, 0x2030:03 after the end of the poll's 14.336 ms; the
intervals are 150 ms, 500 ms, 1 s and 2 s. The mute ends 60 min after it began, and not before. (R91, R92, R93, R94, R96, R105) -/
def Obligations.RoosterPollsOnItsGrid : Prop :=
  ∀ (s : State) (dt : Nat), let u := s.turn dt
    let r := u.aon.rooster
    (pollInterval 1 = 150000000 ∧ pollInterval 2 = 500000000 ∧ pollInterval 3 = 1000000000 ∧ pollInterval 4 = 2000000000) ∧
    ((r.st = 0 ∨ 4 < r.st ∨ u.aon.clock < r.lastPoll + pollInterval r.st) → exec (.pollDue dt) s = finish s u) ∧
    (1 ≤ r.st → r.st ≤ 4 → r.lastPoll + pollInterval r.st ≤ u.aon.clock →
      let grid : Rooster := { r with lastPoll := r.lastPoll + (u.aon.clock - r.lastPoll) / pollInterval r.st * pollInterval r.st }
      (u.lfSends = false → exec (.pollDue dt) s = finish s { u with aon := { u.aon with rooster := grid } }) ∧
      (u.lfSends = true → u.lf.tele.isSome = true →
        exec (.pollDue dt) s = finish s { u with aon := { u.aon with rooster := { grid with skipped := min (r.skipped + 1) (2 ^ 32 - 1) } } }) ∧
      (u.lfSends = true → u.lf.tele = none → ∃ t p, exec (.pollDue dt) s = .next t ∧ t.aon.rooster.poll = some p ∧
        p.start = u.aon.clock ∧ p.presence = false ∧ p.bits = u.pollBits ∧ t.aon.rooster.lastPoll = grid.lastPoll ∧
        t.aon.rooster.polls = min (r.polls + 1) (2 ^ 32 - 1) ∧ t.aon.rooster.st = r.st ∧ t.aon.rooster.skipped = r.skipped ∧ t.lf.tele = none ∧
        t.objs = u.objs ∧ t.rr.objs = u.rr.objs ∧ t.pol = u.pol)) ∧
    (∀ p : Poll, r.poll = some p →
      (u.aon.clock < p.start + 14336000 → exec (.groupPollEnd dt) s = finish s u) ∧
      (p.start + 14336000 ≤ u.aon.clock → exec (.groupPollEnd dt) s =
        finish s { u with aon := { u.aon with rooster := { r with poll := some { p with start := u.aon.clock - 14336000 } } } }) ∧
      (u.aon.clock < p.start + 14336000 + u.obj 0x2030 3 * 1000 → exec (.pollAnswerWindowEnd dt) s = finish s u) ∧
      (p.start + 14336000 + u.obj 0x2030 3 * 1000 ≤ u.aon.clock → p.presence = false → exec (.pollAnswerWindowEnd dt) s =
        finish s { u with aon := { u.aon with rooster := { r with poll := none } } })) ∧
    (r.muted = true → r.muteAt + 3600000000000 ≤ u.aon.clock → exec (.muteEnd dt) s =
      finish s (({ u with aon := { u.aon with rooster := { r with muted := false, hits := 0 } } } : State).emit 0x03 0x2005 (r.hits % 256))) ∧
    ((r.muted = false ∨ u.aon.clock < r.muteAt + 3600000000000) → exec (.muteEnd dt) s = finish s u)

/-- The phase that holds a time since lock is 1 to 10 min, 2 to 12 h, 3 to 96 h and 4 beyond. With Rooster polling in the ACTIVE mode before the polling
stop, a later phase that has begun becomes its state and is raised; at the polling stop it stops in state 5. An accepted stop request of a polling
Rooster leaves it in state 6 and raises POLLING_STOPPED; an accepted restart starts the schedule again in phase 1 from now, with the mute off and
tone step 0, and answers SEQUENCE in IDLE. (R92, R93, R95, R108) -/
def Obligations.RoosterPhasesFollowTheTimeSinceLock : Prop :=
  ∀ (s : State) (dt : Nat) (c : Client), let u := s.turn dt
    let r := u.aon.rooster
    (∀ t : Nat, phaseOf t = if t < 600000000000 then 1 else if t < 43200000000000 then 2 else if t < 345600000000000 then 3 else 4) ∧
    (u.aon.mode = 0 → 1 ≤ r.st → r.st < phaseOf u.sinceLock → r.st ≤ 4 → u.sinceLock < u.obj 0x2020 1 * 3600000000000 →
      exec (.pollPhase dt) s = finish s (({ u with aon := { u.aon with rooster := { r with st := phaseOf u.sinceLock } } } : State).emit 0x03 0x2003 (phaseOf u.sinceLock))) ∧
    ((r.st = 0 ∨ 4 < r.st ∨ phaseOf u.sinceLock ≤ r.st) → exec (.pollPhase dt) s = finish s u) ∧
    (u.aon.mode = 0 → 1 ≤ r.st → r.st ≤ 4 → u.obj 0x2020 1 * 3600000000000 ≤ u.sinceLock → exec (.pollingStopped dt) s =
      finish s (({ u with aon := { u.aon with rooster := { r with st := 5 } } } : State).emit 0x03 0x2004 (u.sinceLock / 3600000000000 % 65536))) ∧
    ((r.st = 0 ∨ 4 < r.st ∨ u.sinceLock < u.obj 0x2020 1 * 3600000000000) → exec (.pollingStopped dt) s = finish s u) ∧
    (Accepts u c 0x2022 2 [1] → 1 ≤ r.st → r.st ≤ 4 → exec (.stopPolling dt c) s = finish s
      ((({ u with aon := { u.aon with rooster := { r with st := 6 } } } : State).emit 0x03 0x2004 (u.sinceLock / 3600000000000 % 65536 + 65536)).done c 0x2022 2)) ∧
    (Accepts u c 0x2022 2 [1] → r.st = 0 ∨ 4 < r.st → exec (.stopPolling dt c) s = finish s (u.done c 0x2022 2)) ∧
    (Accepts u c 0x2022 2 [2] → r.st = 0 → exec (.restartPolling dt c) s = finish s (u.aborted c 0x2022 2 abSequence)) ∧
    (Accepts u c 0x2022 2 [2] → r.st ≠ 0 → ∃ t, exec (.restartPolling dt c) s = .next t ∧ t.aon.rooster.st = 1 ∧ t.aon.rooster.base = 0 ∧
      t.aon.rooster.lockAt = u.aon.clock ∧ t.aon.rooster.lastPoll = u.aon.clock ∧ t.aon.rooster.muted = false ∧ t.lf.toneStep = 0 ∧
      t.pol = u.pol ∧ (t.ctx c).reply = some { key := key 0x2022 2, abort := abOk, data := [] })

/-- An accepted request for a telegram, with none in progress and no limit in the way, adds a demand. A telegram starts only where one may; then, with
the trust pair serving and 8 bytes in channel 7, it carries those bytes as its nonce and the next round counter, its round parameters hold the slot
code, the tone step and the counter, the waiting demands are all served by it, and a token epoch begins with its nonce, start and parameters. Tone k
begins 40 ms plus k ms after the telegram's start, in order, six in all; the reply window opens no earlier than 46 ms after the start, after all
six, and with the ranging group able to range it has the telegram's slots from then. (R86, R88, R89, R100, R101, R103, R164, R174) -/
def Obligations.FullTelegramsRunToTheirReplyWindow : Prop :=
  ∀ (s : State) (dt : Nat), let u := s.turn dt
    (∀ c : Client, Accepts u c 0x2022 1 [1] → u.lf.tele = none → u.deferMs = 0 → exec (.requestTelegram dt c) s =
      finish s (({ u with lf := { u.lf with waiting := min 255 (u.lf.waiting + 1) } } : State).done c 0x2022 1)) ∧
    (u.teleMay = false → exec (.telegramStart dt) s = finish s u) ∧
    (u.teleMay = true → u.serving 0x20 = true → u.rngStopped 7 = false → u.rngWaits 7 8 = false → ∃ t q e, exec (.telegramStart dt) s = .next t ∧
      t.lf.tele = some q ∧ q.start = u.now ∧ q.nonce = (u.rngBuf 7).take 8 ∧ q.counter = (u.lf.counter + 1) % 256 ∧
      q.params = 8192 * t.cx.slotCode + 2048 * u.lf.toneStep + q.counter ∧ q.slots = 8 * 2 ^ t.cx.slotCode ∧ q.tones = 0 ∧ q.window = false ∧
      t.lf.waiting = 0 ∧ t.lf.counter = q.counter ∧ t.lf.telegrams = min (u.lf.telegrams + 1) (2 ^ 32 - 1) ∧
      t.cx.ep = some e ∧ e.start = q.start ∧ e.nonce = q.nonce ∧ e.counter = q.counter ∧ e.params = q.params ∧ t.cx.rows = u.cx.rows ∧ t.pol = u.pol) ∧
    (∀ q : Telegram, u.lf.tele = some q →
      (6 ≤ q.tones ∨ u.now < q.start + 40000000 + q.tones * 1000000 → exec (.tone dt) s = finish s u) ∧
      (q.tones < 6 → q.start + 40000000 + q.tones * 1000000 ≤ u.now → ∃ t, exec (.tone dt) s = .next t ∧
        t.lf.tele = some { q with tones := q.tones + 1 } ∧ { t with lf := u.lf } = { u with pending := s.pending }) ∧
      (q.window = false → (q.tones < 6 ∨ u.now < q.start + 46000000) → exec (.replyWindowOpen dt) s = finish s u) ∧
      (q.window = false → 6 ≤ q.tones → q.start + 46000000 ≤ u.now → ∃ t, exec (.replyWindowOpen dt) s = .next t ∧
        t.lf.tele = some { q with window := true } ∧ t.cx.rows = u.cx.rows ∧
        (u.rangingOk = true → t.cx.win = some { peer := false, start := q.start + 46000000, slots := q.slots } ∧ t.phy.window = true) ∧
        (u.rangingOk = false → t.cx = u.cx ∧ t.phy = u.phy)))

/-- An accepted request for diagnostics is noted for the next idle moment. With the unit serving and no telegram or poll in progress, a diagnosis that
is due after 60 s, or asked for, reads the three status words: it is done, the request is served, and the three chips' status and absence follow
from the words; before its time, unasked, nothing happens. A re-check of the chips' status does nothing before 1 s has passed since the last, or
with no chip excluded; then a word without the condition counts towards the two in a row that bring the chip's antennas back, and one with it starts
the count again. (R81, R83, R106, R108) -/
def Obligations.DriverDiagnosesFindAntennaFaults : Prop :=
  ∀ (s : State) (dt : Nat), let u := s.turn dt
    (∀ c : Client, Accepts u c 0x2015 4 [1] → exec (.runDiagnostics dt c) s = finish s (({ u with lf := { u.lf with diagAsked := true } } : State).done c 0x2015 4)) ∧
    (∀ diag : List Word, u.powered = true → u.serving 0x03 = true → u.lf.tele = none → u.aon.rooster.poll = none → u.lf.deferDrv = false →
      (u.now < u.lf.lastCheck + 60000000000 → u.lf.diagAsked = false → exec (.diagnosisRepeat dt diag) s = finish s u) ∧
      ((u.lf.lastCheck + 60000000000 ≤ u.now ∨ u.lf.diagAsked = true) → u.lf.chips.length = 3 → ∃ t, exec (.diagnosisRepeat dt diag) s = .next t ∧
        t.lf.diagAsked = false ∧ t.lf.lastCheck = u.now ∧ t.lf.tele = none ∧
        (∀ n, n < 3 → (nth {} t.lf.chips n).status = chipWord diag n ∧ (nth {} t.lf.chips n).absent = chipAbsent (chipWord diag n) 0) ∧
        t.objs = u.objs ∧ t.pol = u.pol)) ∧
    (∀ words : List Word, (u.powered = false ∨ u.lf.chips.any (·.hot) = false ∨ u.now < u.lf.lastRecheck + 1000000000 →
        exec (.driverStatusRecheck dt words) s = finish s u) ∧
      (u.powered = true → u.lf.chips.length = 3 → u.lf.lastRecheck + 1000000000 ≤ u.now → u.lf.chips.any (·.hot) = true →
        ∃ t, exec (.driverStatusRecheck dt words) s = .next t ∧ t.lf.lastRecheck = u.now ∧
        ∀ n, n < 3 → (nth {} u.lf.chips n).hot = true → let w := chipWord words n
          let c := nth {} u.lf.chips n
          nth {} t.lf.chips n = if chipAbsent w (u.chipEcho n) || chipHot w then { c with clear := 0, status := w }
            else if c.clear = 0 then { c with clear := 1, status := w } else { c with clear := 0, hot := false, status := w }))

/-- The start-up of the ranging group does nothing where the sample ports are not STARTING. Without the crystal or the sample PLL it leaves the sample
ports and the group FAILED. With three front ends that identify as 0xC5, report lock and training and no fault, whose lanes align with their markers
in position, with no lasting fault and channel 7 of the generator alive, the sample counter starts from now, the channel is the chosen one, every
lane streams, and the sample ports and the group are RUNNING. (R30, R111, R113, R153, R332) -/
def Obligations.RangingGroupStartUp : Prop :=
  ∀ (s : State) (dt : Nat) (o : FrontEndObs), let u := s.turn dt
    ((u.powered = false ∨ u.ownState 0x25 ≠ stStarting ∨ u.sup.hot = true) → exec (.rangingStartUp dt o) s = finish s u) ∧
    (u.powered = true → u.ownState 0x25 = stStarting → u.sup.hot = false → (u.sup.rc = true ∨ u.sup.pllS = true) →
      ∃ t, exec (.rangingStartUp dt o) s = .next t ∧ t.ownState 0x25 = stFailed ∧ t.ownState 0x04 = stFailed ∧ t.phy = u.phy) ∧
    (u.powered = true → u.ownState 0x25 = stStarting → u.sup.hot = false → u.sup.rc = false → u.sup.pllS = false → u.sup.serLow = false →
      u.rngStopped 7 = false → (∀ n : Nat, u.lasting n = false) →
      (∀ n, n < 3 → (nth (0 : Word) o.ids n).toNat / 256 = 0xC5 ∧ bit (nth (0 : Word) o.status n).toNat 15 = true ∧ bit (nth (0 : Word) o.status n).toNat 14 = true ∧
        (nth (0 : Word) o.status n).toNat &&& 0x1C00 = 0 ∧ nth false o.aligned n = true ∧ nth false o.inPosition n = true) →
      ∃ t, exec (.rangingStartUp dt o) s = .next t ∧ t.phy.origin = some u.now ∧ t.phy.chan = u.phySnapshots.chanChoice.1 ∧
        (∀ n, n < 4 → t.laneUp n = true) ∧ t.ownState 0x25 = stRunning ∧ t.ownState 0x04 = stRunning ∧ t.sampleAt u.now = 0 ∧ t.pol = u.pol ∧ t.rr.objs = u.rr.objs)

/-- On a lane that streams, fewer than 16 code errors between markers only count; 16 or more, two markers missing, or a front end's loss of lock, take
it DOWN: LANE_DOWN is raised with lane and cause, a frame in progress loses the lane, and nothing of the other lanes changes. A lane that is not
streaming cannot go down again. A DOWN lane that realigns streams again and counts a realignment. A resynchronisation asked for is carried out only
with no round running: lanes neither OFF nor EXCLUDED whose markers come into position stream, the others are DOWN. (R116, R118, R151) -/
def Obligations.LanesGoDownAndComeBack : Prop :=
  ∀ (s : State) (dt : Nat), let u := s.turn dt
    (∀ (n : Nat) (why : LaneLoss), u.laneUp n = false → exec (.laneDown dt n why) s = finish s u) ∧
    (∀ n k : Nat, u.laneUp n = true → n < u.phy.lanes.length → k < 16 → let lane : Lane := { (nth ({} : Lane) u.phy.lanes n) with codeErrs := min ((nth {} u.phy.lanes n).codeErrs + k) (2 ^ 32 - 1) }
      exec (.laneDown dt n (.codeErrors k)) s = finish s { u with phy := { u.phy with lanes := setAt u.phy.lanes n lane } }) ∧
    (∀ (n : Nat) (why : LaneLoss), u.laneUp n = true → n < u.phy.lanes.length → (∀ k, why = .codeErrors k → 16 ≤ k) →
      ∃ t, exec (.laneDown dt n why) s = .next t ∧ (nth {} t.phy.lanes n).state = 4 ∧ (nth {} t.phy.lanes n).lost = u.phy.rx.isSome ∧
        (∀ m, m ≠ n → nth ({} : Lane) t.phy.lanes m = nth {} u.phy.lanes m) ∧ t.phy.rx = u.phy.rx ∧ t.pol = u.pol ∧
        (why = .frontEnd → t.phy.resync = true) ∧
        (u.powered = true → u.evq.length < 60 →
          let cause : Nat := match why with
            | .codeErrors _ => 1
            | .marker => 2
            | .frontEnd => 3
          let e : Event := { code := 0x2401, unit := 0x04, param := (n + 256 * cause) % 2 ^ 32, ms := u.ms % 2 ^ 32 }
          e ∈ t.evq)) ∧
    (∀ n : Nat, u.powered = true → u.sup.rc = false → n < u.phy.lanes.length → (nth {} u.phy.lanes n).state = 4 → ∃ t, exec (.laneUp dt n) s = .next t ∧
      t.laneUp n = true ∧ (nth {} t.phy.lanes n).realigns = min ((nth {} u.phy.lanes n).realigns + 1) (2 ^ 32 - 1) ∧
      (∀ m, m ≠ n → nth ({} : Lane) t.phy.lanes m = nth {} u.phy.lanes m)) ∧
    (∀ n : Nat, (nth {} u.phy.lanes n).state ≠ 4 → exec (.laneUp dt n) s = finish s u) ∧
    (∀ c : Client, Accepts u c 0x2415 2 [1] → exec (.resynchronise dt c) s = finish s (({ u with phy := { u.phy with resync := true } } : State).done c 0x2415 2)) ∧
    (∀ inPos : List Bool, (u.phy.resync = false ∨ u.phy.round = true → exec (.feSync dt inPos) s = finish s u) ∧
      (u.phy.resync = true → u.phy.round = false → u.powered = true → u.sup.rc = false → ∃ t, exec (.feSync dt inPos) s = .next t ∧ t.phy.resync = false ∧
        ∀ n, n < 3 → (nth {} t.phy.lanes n).state = (if (nth {} u.phy.lanes n).state = 5 ∨ (nth {} u.phy.lanes n).state = 0 then (nth {} u.phy.lanes n).state
          else if nth false inPos n then 3 else 4)))

/-- With ranging able to run, a receive window open and no frame in reception, a power on a serving lane more than 12 dB above its idle floor starts
reception at that lane and code phase; a weaker one does nothing. A reception with no SFD 64 symbols after the detection is abandoned and counted. A
frame whose carrier lies outside 30 ppm or whose residual is too large is ended with TRACKING_LOST; a bad header CRC, a wrong version and a bad
payload CRC each count and end it, in this order; none of these delivers anything. Only a frame that passes them all is delivered, with its payload
and the clock offset of its carrier. Without a reception there is no frame. (R137, R138, R143, R155) -/
def Obligations.FramesAreDetectedAndDecoded : Prop :=
  ∀ (s : State) (dt : Nat), let u := s.turn dt
    u.peerListens = false →
    (∀ (lane phase : Nat) (power : Int),
      (u.rangingOk = false ∨ u.phy.window = false ∨ 3 ≤ lane ∨ u.laneUp lane = false ∨ power ≤ nth 0 u.phy.floors lane + 48 →
        exec (.preambleDetection dt lane phase power) s = finish s u) ∧
      (u.rangingOk = true → u.phy.window = true → u.phy.rx = none → lane < 3 → u.laneUp lane = true → nth 0 u.phy.floors lane + 48 < power →
        ∃ t r, exec (.preambleDetection dt lane phase power) s = .next t ∧ t.phy.rx = some r ∧ r.lane = lane ∧ r.phase = phase % 508 ∧ r.at_ = u.now ∧
          t.phy.detected = min (u.phy.detected + 1) (2 ^ 32 - 1) ∧ t.cx.rows = u.cx.rows ∧ t.objs = u.objs ∧ t.rr = u.rr)) ∧
    (u.phy.rx = none → exec (.sfdTimeout dt) s = finish s u) ∧
    (∀ r, u.phy.rx = some r → (u.now < r.at_ + 65128 → exec (.sfdTimeout dt) s = finish s u) ∧
      (r.at_ + 65128 ≤ u.now → exec (.sfdTimeout dt) s =
        finish s { u with phy := { u.phy with rx := none, sfdTimeouts := min (u.phy.sfdTimeouts + 1) (2 ^ 32 - 1) } })) ∧
    (∀ f : FrameObs, u.phy.rx = none → exec (.frameDelivery dt f) s = finish s u) ∧
    (∀ f : FrameObs, u.phy.rx.isSome = true → u.rangingOk = true → ∃ t, exec (.frameDelivery dt f) s = .next t ∧ t.phy.rx = none ∧
      t.phy.correlated = min (u.phy.correlated + 1) (2 ^ 32 - 1) ∧ t.cx.rows = u.cx.rows ∧
      let clear := carrierOk f.carrier u.phy.chan = true ∧ f.residual = false
      let h := headerOf f.header
      (¬clear → t.phy.trackLost = min (u.phy.trackLost + 1) (2 ^ 32 - 1) ∧ t.phy.delivered = u.phy.delivered) ∧
      (clear → h.2 = some 1 → t.phy.hdrFails = min (u.phy.hdrFails + 1) (2 ^ 32 - 1) ∧ t.phy.delivered = u.phy.delivered) ∧
      (clear → h.2 = some 2 → t.phy.verRejects = min (u.phy.verRejects + 1) (2 ^ 32 - 1) ∧ t.phy.delivered = u.phy.delivered) ∧
      (clear → h.2 = none → payloadOf f.payload h.1 = none → t.phy.payFails = min (u.phy.payFails + 1) (2 ^ 32 - 1) ∧ t.phy.delivered = u.phy.delivered) ∧
      (∀ p : Bytes, clear → h.2 = none → payloadOf f.payload h.1 = some p → ∃ d, t.phy.delivered = some d ∧ d.payload = p ∧ d.sfdB = f.sfdB ∧
        d.at_ = u.now ∧ d.co = clockOffset f.carrier u.phy.chan ∧ t.phy.payLen = h.1 ∧ t.phy.frameChan = u.phy.chan ∧
        t.phy.payFails = u.phy.payFails ∧ t.phy.hdrFails = u.phy.hdrFails))

/-- With ranging able to run and no window open, a noise measurement becomes the idle floors of the three lanes, and each lane's run of measurements
above 0x2442:04 grows or starts again. A temperature reading becomes the front ends' temperatures. Front-end writes that waited go out once no round
runs and no window is open, and not before. A status of a front end that shows over-temperature, a supply or a TX fault for the first time marks it
faulty and excludes its lane, with front end 0 also the TX lane; a clear status of a good front end with its PLL locked and lane trained is only
kept, and one without takes a lane that serves DOWN and asks for FE_SYNC. (R118, R123, R146, R148, R151) -/
def Obligations.FrontEndsAreReadAndWritten : Prop :=
  ∀ (s : State) (dt : Nat), let u := s.turn dt
    (∀ floors : List Int, (u.rangingOk = false ∨ u.phy.window = true → exec (.noiseMeasurement dt floors) s = finish s u) ∧
      (u.rangingOk = true → u.phy.window = false → ∃ t, exec (.noiseMeasurement dt floors) s = .next t ∧
        (∀ n, n < 3 → nth 0 t.phy.floors n = clampI 16 (nth 0 floors n)) ∧
        (∀ n, n < 3 → nth 0 t.phy.noiseRun n = if untwos 16 (u.conf 0x2441 0x2442 4) < nth 0 floors n then min 255 (nth 0 u.phy.noiseRun n + 1) else 0) ∧
        t.phy.lanes = u.phy.lanes ∧ t.objs = u.objs ∧ t.cx = u.cx)) ∧
    (∀ temps : List Int, u.powered = true → exec (.frontEndTemperatureRead dt temps) s =
      finish s { u with phy := { u.phy with fes := u.phy.fes.zipIdx.map (fun q => { q.1 with temp := clampI 16 (nth q.1.temp temps q.2) }) } }) ∧
    ((u.phy.round = true ∨ u.phy.window = true ∨ u.phy.deferredFe = []) → exec (.deferredFrontEndWrite dt) s = finish s u) ∧
    (u.phy.round = false → u.phy.window = false → u.phy.deferredFe ≠ [] → exec (.deferredFrontEndWrite dt) s =
      finish s { u with phy := { u.phy with feOut := u.phy.deferredFe, deferredFe := [] } }) ∧
    (∀ (n : Nat) (st : Word), u.powered = true → n < 3 → u.ownState 0x28 ≠ stStarting → u.phy.fes.length = 3 → u.phy.lanes.length = 4 →
      let f := nth ({} : FrontEnd) u.phy.fes n
      (st.toNat &&& 0x1C00 = 0 → f.fault = false → bit st.toNat 15 = false ∨ bit st.toNat 14 = false → u.laneUp n = true → ∃ t, exec (.frontEndStatusRead dt n st) s = .next t ∧
        (nth {} t.phy.lanes n).state = 4 ∧ t.phy.resync = true ∧ (nth ({} : FrontEnd) t.phy.fes n).status = st.toNat ∧ t.pol = u.pol ∧ t.cx = u.cx) ∧
      (st.toNat &&& 0x1C00 = 0 → f.fault = false → bit st.toNat 15 = true → bit st.toNat 14 = true → exec (.frontEndStatusRead dt n st) s =
        finish s { u with phy := { u.phy with fes := setAt u.phy.fes n { f with status := st.toNat } } }) ∧
      (st.toNat &&& 0x1C00 ≠ 0 → f.fault = false → ∃ t, exec (.frontEndStatusRead dt n st) s = .next t ∧
        (nth ({} : FrontEnd) t.phy.fes n).fault = true ∧ (nth ({} : FrontEnd) t.phy.fes n).status = st.toNat ∧
        (nth {} t.phy.lanes n).state = 5 ∧ (n = 0 → (nth {} t.phy.lanes 3).state = 5) ∧ t.pol = u.pol ∧ t.cx = u.cx))

/-- An accepted start answers SEQUENCE, with nothing else changed, while a run is in progress or the reference row holds no session; else a run with
that row on the round channel is in progress. A run that has made its rounds, with no fence up, ends: where a lane gave fewer than half the rounds,
or its time of flight spread over more than 64 RTU, the status is failed and no object changes; else the status is done and the RX delays of the
three lanes and the phase offsets of lanes 1 and 2 on the run's channel, and no other object, take the values of R149. (R149, R150, R154) -/
def Obligations.CalibrationWritesAllOrNothing : Prop :=
  ∀ (s : State) (dt : Nat), let u := s.turn dt
    (∀ c : Client, Accepts u c 0x2605 6 [1] →
      (u.phy.cal ≠ none ∨ (u.row (u.obj 0x2605 5)).st ≠ 3 → exec (.calibrationStart dt c) s = finish s (u.aborted c 0x2605 6 abSequence)) ∧
      (u.phy.cal = none → (u.row (u.obj 0x2605 5)).st = 3 → exec (.calibrationStart dt c) s =
        finish s (({ u with phy := { u.phy with cal := some { row := u.obj 0x2605 5, chan := u.phy.chan }, calStatus := 1 } } : State).done c 0x2605 6))) ∧
    (u.phy.cal = none → exec (.calibrationDone dt) s = finish s u) ∧
    (∀ q : CalRun, u.phy.cal = some q → let rounds := u.obj 0x2605 4
      let bad := ∃ l ∈ q.tofs, 2 * l.length < rounds ∨ (64 * 16 * l.length) ^ 2 < spread2 l
      (q.made < rounds ∨ u.fenced = true → exec (.calibrationDone dt) s = finish s u) ∧
      (rounds ≤ q.made → u.fenced = false → bad → ∃ t, exec (.calibrationDone dt) s = .next t ∧ t.phy.cal = none ∧ t.phy.calStatus = 3 ∧
        t.rr.objs = u.rr.objs ∧ t.objs = u.objs) ∧
      (rounds ≤ q.made → u.fenced = false → ¬bad → q.chan = 5 ∨ q.chan = 9 → ∃ t, exec (.calibrationDone dt) s = .next t ∧
        t.phy.cal = none ∧ t.phy.calStatus = 2 ∧
        (∀ n, n < 3 → t.obj 0x2601 (chSub (2 * n + 1) q.chan) = twos 32 (u.calDelay q n)) ∧
        (∀ n, 1 ≤ n → n < 3 → t.obj 0x2603 (chSub (2 * n - 1) q.chan) = twos 16 (u.calPhase q n)) ∧
        (∀ jx b : Nat, b < 256 → jx ≠ 0x2601 → jx ≠ 0x2603 → t.obj jx b = u.obj jx b)))

/-- The chips of a frame are as many as R136 counts: preamble, SFD, the ranging sequence where the SFD is SFD_B, header, and the payload's coded bits
with their pilots where there is a payload; a payload of 108 bytes with a ranging sequence, or of 124 without, is the largest that fits the 179,712
chips of a slot. (R136) -/
def Obligations.FrameLengthsFollowTheirFields : Prop :=
  (∀ f : TxFrame,
    let d := 16 * f.payload.length + 44
    (frameChips f).length = 32512 + 4064 + 17920 * (if f.sfdB then 1 else 0) + 4096 + 64 * (d + (d + 14) / 15) * (if f.payload = [] then 0 else 1)) ∧
  (frameLen true 108 ≤ 179712 ∧ 179712 < frameLen true 109 ∧ frameLen false 124 ≤ 179712 ∧ 179712 < frameLen false 125) ∧
  frameLen true 40 = 105312

/-- A delivered frame in an open reply window is taken once. In a slot with a second detection it gives nothing. A frame of another kind, version or
length is only counted as discarded. Otherwise it counts as delivered, and the first failed check gives the outcome: a wrong round counter STALE
(1), a slot other than h mod S WRONG_SLOT (2), an ID that is not in the paired list or not of the window's kind UNKNOWN (3), a revoked ID REVOKED
(4), an ID that has replied validly in this window DUPLICATE (5). A reply that passes them waits for a MAC check at the end of the queue, an ID with
a session keeps its row, and an ID with none takes the lowest FREE row as PENDING. An invalid reply adds one to the invalid count and leaves every
row that holds a session, a service or a KNOWN identity as it was. Without a delivered frame or a window nothing happens. (R166, R167, R168, R171) -/
def Obligations.RepliesPassTheirChecksInOrder : Prop :=
  (∀ (s : State) (dt : Nat), let u := s.turn dt
    (u.phy.delivered = none ∨ u.cx.win = none → exec (.reply dt) s = finish s u) ∧
    (∀ (d : DFrame) (w : ReplyWin), u.phy.delivered = some d → u.cx.win = some w → u.powered = true → u.serving 0x07 = true →
      let k := u.frameSlot w d
      let p := d.payload
      let id := slice 2 8 p
      let v : State := { u with phy := { u.phy with delivered := none }, cx := { u.cx with win := some { w with good := w.good ++ [k] } } }
      let x : State := { v with cx := { v.cx with delivered := min (v.cx.delivered + 1) (2 ^ 32 - 1) } }
      let bin := x.frameBin d.lanes
      let form := (p.getD 0 0) = 0x11 ∧ (p.getD 1 0) = 0x01 ∧ p.length = 56
      (w.twice.contains k = true → exec (.reply dt) s = finish s v) ∧
      (w.twice.contains k = false → ¬form →
        exec (.reply dt) s = finish s { v with cx := { v.cx with discarded := min (v.cx.discarded + 1) (2 ^ 32 - 1) } }) ∧
      (∀ e : Epoch, w.twice.contains k = false → form → u.epochOf w.peer = some e →
        ((p.getD 18 0).toNat ≠ e.counter → exec (.reply dt) s = finish s (x.replyInvalid id 1 bin)) ∧
        ((p.getD 18 0).toNat = e.counter → replySlot id e.nonce w.slots ≠ k → exec (.reply dt) s = finish s (x.replyInvalid id 2 bin)) ∧
        ((p.getD 18 0).toNat = e.counter → replySlot id e.nonce w.slots = k →
          (u.pairEntry id = none → exec (.reply dt) s = finish s (x.replyInvalid id 3 bin)) ∧
          (∀ n st : Nat, u.pairEntry id = some (n, st) → let kind := if w.peer then 2 else 1
            (idKind id ≠ kind → exec (.reply dt) s = finish s (x.replyInvalid id 3 bin)) ∧
            (idKind id = kind → st ≠ 1 → exec (.reply dt) s = finish s (x.replyInvalid id 4 bin)) ∧
            (idKind id = kind → st = 1 → w.valid.contains id = true → exec (.reply dt) s = finish s (x.replyInvalid id 5 bin)) ∧
            (idKind id = kind → st = 1 → w.valid.contains id = false → u.trustKeys = true →
              ∃ t m, exec (.reply dt) s = .next t ∧ t.cx.macs = u.cx.macs ++ [m] ∧ m.reply = p ∧ m.bin = bin ∧
                t.cx.invalid = u.cx.invalid ∧ t.cx.valid = u.cx.valid ∧ t.rr = u.rr ∧ t.objs = u.objs ∧ t.evq = u.evq ∧
                (∀ i, (u.row i).st = 3 → t.row i = u.row i) ∧
                (u.findRow (fun r => r.id == id && (r.st == 1 || r.st == 2 || r.st == 3)) = none → ∀ i, u.freeRow = some i →
                  m.row = some i ∧ (t.row i).st = 2 ∧ (t.row i).id = id ∧ (t.row i).kind = kind))))))) ∧
  (∀ (s : State) (id : Bytes) (cause bin : Nat), let t := s.replyInvalid id cause bin
    t.cx.invalid = min (s.cx.invalid + 1) (2 ^ 32 - 1) ∧
    ∀ i, (s.row i).st = 1 ∨ (s.row i).st = 2 ∨ (s.row i).st = 3 ∨ (s.row i).st = 5 → t.row i = s.row i)

/-- The MAC check in service, or else the first that waits, ends. Where the MAC under the partner's token key does not verify, the reply is invalid with
cause MAC (6), and no session starts. Where it verifies, the ID is still paired and has not been valid in this window, a session starts: a row of
the partner is ACTIVE, with bytes 40 and 41 of the reply as handle (0 becomes 1), the session keys of R159, the reply's tone, RSSI report and
status, and no missed round; the reply counts as valid. Where no row is FREE and none may be evicted, the reply is dropped and counted and
CONTEXT_FULL is raised. Without a check, or while trust pair or cipher engine do not serve, nothing happens. (R159, R163, R167, R171, R172, R192) -/
def Obligations.MacChecksStartSessions : Prop :=
  ∀ (s : State) (dt : Nat), let u := s.turn dt
    (u.cx.macs = [] ∨ u.powered = false ∨ u.trustKeys = false → exec (.macCheckDone dt) s = finish s u) ∧
    (∀ (m : MacWait) (w : ReplyWin) (e : Epoch), u.powered = true → u.trustKeys = true → u.cx.macs = [m] → m.service = true → u.cx.win = some w →
      u.epochOf w.peer = some e → u.lf.tele.isSome = true →
      let id := slice 2 8 m.reply
      let slot := u.slot (masterSlot (idKind id))
      let ktok := kdf slot.key (ascii "CHN-TOKEN") (u.vehicleBytes ++ id) 128
      let wake := if w.peer then 0 else u.obj 0x2010 1
      let good := slot.ty ≠ 0 ∧ cmac ktok (replyMessage u.vehicleBytes wake e.nonce e.params m.reply) = slice 40 16 m.reply
      (¬good → ∃ t, exec (.macCheckDone dt) s = .next t ∧ t.cx.macs = [] ∧ t.cx.valid = u.cx.valid ∧
        t.cx.invalid = min (u.cx.invalid + 1) (2 ^ 32 - 1) ∧ (∀ i, (u.row i).st = 3 → t.row i = u.row i)) ∧
      (good → u.isPaired id = true → w.valid.contains id = false →
        (∀ (n : Nat), u.findRow (fun r => r.id == id && (r.st == 1 || r.st == 2 || r.st == 3)) = some n →
          ∃ t, exec (.macCheckDone dt) s = .next t ∧ t.cx.macs = [] ∧ t.cx.valid = min (u.cx.valid + 1) (2 ^ 32 - 1) ∧
            let r := t.row n
            let h := beNat (slice 40 2 m.reply)
            r.st = 3 ∧ r.kind = idKind id ∧ r.id = id ∧ r.handle = (if h = 0 then 1 else h) ∧ r.rounds = 0 ∧ r.missed = 0 ∧ r.epoch = e.serial ∧
            r.tone = (m.reply.getD 19 0).toNat % 4 ∧ r.rssi = slice 20 18 m.reply ∧ r.status = (m.reply.getD 38 0).toNat ∧ r.seen = u.ms % 2 ^ 32 ∧
            r.kmac ++ r.krng = kdf ktok (ascii "CHN-SESSION") (u.vehicleBytes ++ id ++ e.nonce ++ slice 10 8 m.reply ++ [byte e.counter]) 256 ∧
            (∀ i, i ≠ n → t.row i = u.row i)) ∧
        (u.sessionRow id = none → ∃ t, exec (.macCheckDone dt) s = .next t ∧ t.cx.rows = u.cx.rows ∧
          t.cx.dropped = min (u.cx.dropped + 1) (2 ^ 32 - 1))))

/-- A reply window whose last slot has passed closes once: reception ends, every slot in which a lane detected a preamble and no frame was delivered, or
which saw a second detection, adds one to the collided count, sessions of an earlier epoch end, and round 0 is due 100 us after the window's close.
Before the last slot's end, or in an epoch whose rounds are already due, nothing happens. An epoch that has lasted 0x2C03:05 ends: the token epoch
is gone, no token session is ACTIVE, and a tractor's session is as before. An epoch that has not lasted so long goes on. A write of the row select
gives the client a snapshot of the row with its time; no other client's, no row and no object changes. (R166, R173, R174, R176, R185, R198) -/
def Obligations.WindowsAndEpochsEnd : Prop :=
  ∀ (s : State) (dt : Nat), let u := s.turn dt
    (u.cx.win = none → u.lf.tele = none → exec (.replyWindowClose dt) s = finish s u) ∧
    (∀ (w : ReplyWin), u.cx.win = some w →
      (u.now < w.start + w.slots * 400000 → exec (.replyWindowClose dt) s = finish s u) ∧
      (∀ e : Epoch, u.epochOf w.peer = some e → e.due.isSome = true → exec (.replyWindowClose dt) s = finish s u) ∧
      (∀ e : Epoch, w.peer = true → u.epochOf true = some e → e.due = none → e.next = 0 → w.start + w.slots * 400000 ≤ u.now →
        ∃ t e', exec (.replyWindowClose dt) s = .next t ∧ t.phy.window = false ∧ t.phy.rx = none ∧ t.epochOf true = some e' ∧
          e'.due = some (w.start + w.slots * 400000 + 100000) ∧ e'.serial = e.serial ∧ e'.nonce = e.nonce ∧ t.cx.ep = u.cx.ep ∧
          t.cx.collided = min (u.cx.collided + ((w.det.map (·.1)).filter (fun k => !w.good.contains k || w.twice.contains k)).length) (2 ^ 32 - 1) ∧
          (∀ i, (u.row i).st = 3 → (u.row i).kind ≠ 2 ∨ (u.row i).epoch = e.serial → t.row i = u.row i)) ∧
      (∀ e : Epoch, w.peer = false → u.epochOf false = some e → e.due = none → e.next = 0 → w.start + w.slots * 400000 ≤ u.now →
        ∃ t e', exec (.replyWindowClose dt) s = .next t ∧ t.phy.window = false ∧ t.epochOf false = some e' ∧
          e'.due = some (w.start + w.slots * 400000 + 100000) ∧ e'.serial = e.serial ∧ t.cx.pep = u.cx.pep)) ∧
    (∀ e : Epoch, u.cx.ep = some e → u.cx.pep = none →
      (u.now < e.start + u.conf 0x2C03 0x2C03 5 * 10 ^ 9 → exec (.epochEnd dt) s = finish s u) ∧
      (e.start + u.conf 0x2C03 0x2C03 5 * 10 ^ 9 ≤ u.now → ∃ t, exec (.epochEnd dt) s = .next t ∧ t.cx.ep = none ∧ t.rr.objs = u.rr.objs ∧ t.objs = u.objs ∧
        ∀ i, (u.row i).st = 3 → (u.row i).kind ≠ 1 → t.row i = u.row i)) ∧
    (∀ (c : Client) (row : Nat), Accepts u c 0x2C08 1 (leBytes 1 row) → row < 256 →
      let v := u.setCval c 0x2C08 1 row
      let x : ClientCtx := { v.ctx c with rowSnap := u.rowSnapshot row }
      exec (.rowSelect dt c row) s = finish s ((v.setCtx x).done c 0x2C08 1))

/-- No round starts before it is due, while one runs, while a slot is owed to the tractor, or without a round key. A token round that is due and finds
no session only moves the due time on. One that finds N sessions takes the round number, is FULL where the number is 0 or a decision is pending, and
marks its rows as listed at its start. Slot k begins no earlier than k slots after the start: in slot 0 the POLL and in slot N + 1 the FINAL is sent
with SFD_B under the round key, with the payload of R179 or R180 and the first chip 20 us after the slot's start; in the others a receive window
opens. Past the last slot no further slot begins. A round does not end before all of its slots have passed. The coupled state ends 10 s after the
last coupled round and clears the peer's ID. (R175, R176, R177, R179, R180, R183, R186, R189, R195, R197) -/
def Obligations.RoundsRunInTheirSlots : Prop :=
  ∀ (s : State) (dt : Nat), let u := s.turn dt
    (∀ e : Epoch, u.cx.ep = some e → u.cx.pep = none → e.due = none ∨ e.krd = [] ∨ u.cx.round.isSome = true ∨ u.owesTractor = true ∨ (∃ d, e.due = some d ∧ u.now < d) →
      exec (.roundStart dt) s = finish s u) ∧
    (∀ (e : Epoch) (due : Nat), u.cx.ep = some e → u.cx.pep = none → e.due = some due → due ≤ u.now → u.cx.round = none → u.owesTractor = false → e.krd ≠ [] → u.rangingOk = true →
      u.serving 0x07 = true → u.trustKeys = true →
      let v := ((u.phySnapshots).cxSnapshot).locSnapshot
      let start := due + (u.now - due) / 400000 * 400000
      let l := v.roundRows false e start
      (l = [] → ∃ t e', exec (.roundStart dt) s = .next t ∧ t.cx.round = none ∧ t.cx.ep = some e' ∧ e'.next = e.next ∧ (∃ d, e'.due = some d ∧ u.now < d) ∧
        t.cx.rows = u.cx.rows) ∧
      (l ≠ [] → ∃ t r, exec (.roundStart dt) s = .next t ∧ t.cx.round = some r ∧ r.number = e.next ∧ r.start = start ∧ r.peer = false ∧ r.begun = 0 ∧ r.krd = e.krd ∧
        (r.full = true ↔ e.next = 0 ∨ v.pol.pend ≠ []) ∧ r.ss.map (·.row) = l.map (·.1) ∧ r.ss.length ≤ min 32 (v.conf 0x2C03 0x2C03 4) ∧ t.phy.round = true ∧
        (∃ e', t.cx.ep = some e' ∧ e'.next = e.next + 1))) ∧
    (∀ r : Round, u.cx.round = some r → let n := r.ss.length
      let slots := if r.full then 2 * n + 2 else n + 2
      let first := (u.sampleAt r.start + r.begun * 199680 + 9984) % 2 ^ 48
      (slots ≤ r.begun ∨ u.now < r.start + r.begun * 400000 → exec (.slotStart dt) s = finish s u) ∧
      (r.begun < slots → r.start + r.begun * 400000 ≤ u.now → u.rangingOk = true →
        ∃ t q, exec (.slotStart dt) s = .next t ∧ t.cx.round = some q ∧ q.begun = r.begun + 1 ∧ q.number = r.number ∧ t.cx.rows = u.cx.rows ∧
          (r.begun = 0 → ∃ f, t.phy.tx = some f ∧ f.sfdB = true ∧ f.key = r.krd ∧ f.payload = q.poll u.vehicleBytes ∧ f.idx = first ∧ t.phy.window = false) ∧
          (r.begun = n + 1 → ∃ f, t.phy.tx = some f ∧ f.sfdB = true ∧ f.key = r.krd ∧ f.payload = q.final u.vehicleBytes ∧ f.idx = first ∧ t.phy.window = false) ∧
          (r.begun ≠ 0 → r.begun ≠ n + 1 → t.phy.window = true ∧ t.phy.tx = u.phy.tx)) ∧
      (r.begun < slots ∨ u.now < r.start + slots * 400000 → exec (.roundEnd dt) s = finish s u)) ∧
    (u.cx.coupled = false ∨ u.now < u.cx.coupleAt + 10 ^ 10 → exec (.couplingTimeout dt) s = finish s u) ∧
    (u.cx.coupled = true → u.cx.coupleAt + 10 ^ 10 ≤ u.now → exec (.couplingTimeout dt) s =
      finish s (({ u with cx := { u.cx with coupled := false, coupleRun := 0, peerId := List.replicate 8 0 } } : State).emit 0x07 0x2C08 (256 * u.cx.coupleRow)))

/-- A delivered frame in a listening slot is taken by the row for that slot: RESP in slots 1 to N, REPORT after the FINAL; the other row changes
nothing, and so does either without a frame or a round. A payload that is not of a listed kind and length is counted as discarded and changes no
row. A frame whose kind, round number, handle or MAC does not match its slot is a MAC failure: it is counted, the row's invalid count rises, and its
missed count and session stay. A RESP that matches clears the missed count, notes the time and keeps the lanes' reports and the clock offset for the
result; a REPORT that matches gives the token's intervals and clock offset and changes no row. (R175, R178, R181, R182, R185, R186, R193) -/
def Obligations.FramesOfASlotMeetTheirChecks : Prop :=
  ∀ (s : State) (dt : Nat) (rep : Bool), let u := s.turn dt
    let cmd : Instr := if rep then .report dt else .resp dt
    (u.phy.delivered = none ∨ u.cx.round = none → exec cmd s = finish s u) ∧
    (∀ (d : DFrame) (r : Round), u.phy.delivered = some d → u.cx.round = some r →
      (r.listening = none → exec cmd s = finish s { u with phy := { u.phy with delivered := none } }) ∧
      (∀ i : Nat, r.listening = some (i, !rep) → exec cmd s = finish s u) ∧
      (∀ (i : Nat) (l : Listed), r.listening = some (i, rep) → r.ss[i]? = some l →
        let p := d.payload
        let row := u.row l.row
        let ok := (p.getD 0 0).toNat = (if rep then 0x24 else 0x22) ∧ beNat (slice 2 4 p) = r.number ∧ beNat (slice 6 2 p) = l.handle ∧
          (cmac row.kmac (ascii (if rep then "CHN-REPT" else "CHN-RESP") ++ u.vehicleBytes ++ l.id ++ p.take 22)).take 8 = slice 22 8 p
        (listedKind p = false → ∃ t, exec cmd s = .next t ∧ t.cx.discarded = min (u.cx.discarded + 1) (2 ^ 32 - 1) ∧ t.cx.rows = u.cx.rows ∧ t.cx.macFails = u.cx.macFails) ∧
        (listedKind p = true → l.void = false → row.st = 3 → row.kmac ≠ [] →
          (¬ok → ∃ t q x, exec cmd s = .next t ∧ t.cx.round = some q ∧ q.ss[i]? = some x ∧ x.cur.macFail = true ∧ x.cur.resp = l.cur.resp ∧ x.cur.report = l.cur.report ∧
            t.cx.macFails = min (u.cx.macFails + 1) (2 ^ 32 - 1) ∧ (t.row l.row).invalid = min (row.invalid + 1) (2 ^ 16 - 1) ∧
            (t.row l.row).missed = row.missed ∧ (t.row l.row).st = 3 ∧ ∀ j, j ≠ l.row → t.row j = u.row j) ∧
          (ok → rep = false → d.lanes.any laneFails = false → ∃ t q x, exec cmd s = .next t ∧ t.cx.round = some q ∧ q.ss[i]? = some x ∧ x.cur.resp = true ∧
            x.cur.lanes = d.lanes ∧ x.cur.co = d.co ∧ (t.row l.row).missed = 0 ∧ (t.row l.row).seen = u.ms % 2 ^ 32 ∧ (t.row l.row).invalid = row.invalid ∧
            t.cx.macFails = u.cx.macFails ∧ ∀ j, j ≠ l.row → t.row j = u.row j) ∧
          (ok → rep = true → ∃ t q x, exec cmd s = .next t ∧ t.cx.round = some q ∧ q.ss[i]? = some x ∧ x.cur.report = true ∧ x.cur.db = beNat (slice 8 4 p) ∧
            x.cur.rb = beNat (slice 12 4 p) ∧ x.cur.tco = untwos 32 (beNat (slice 16 4 p)) ∧
            x.cur.tokOk = (bit (p.getD 1 0).toNat 6 && bit (p.getD 1 0).toNat 5) ∧ t.cx.rows = u.cx.rows))))

/-- When a FULL peer round of one live session ends, its row takes the times of flight, the flags, the round's number and both clock offsets of the
exchange; a RESP counts as a round ranged, and a slot in which nothing was delivered counts as missed and ends the session at the limit of
0x2C03:06; no other row changes. A result without a report has no valid lane and carries REPORT_MISSING; one whose token failed a check has no valid
lane and carries TOKEN_SEQ_FAIL. The worked example of R189 gives 8,528 sixteenths of an RTU with legs that agree. (R181, R185, R187, R188, R189) -/
def Obligations.RoundsEndWithTheirResults : Prop :=
  (∀ (s : State) (dt : Nat) (r : Round) (l : Listed), let u := s.turn dt
    let row := u.row l.row
    u.cx.round = some r → r.peer = true → r.full = true → r.ss = [l] → 4 ≤ r.begun → r.start + 1600000 ≤ u.now → u.phy.cal = none → l.void = false →
    row.st = 3 → row.id = l.id → ∃ t, exec (.roundEnd dt) s = .next t ∧ t.cx.round = none ∧ t.phy.round = false ∧ t.phy.window = false ∧
      t.cx.rounds = min (u.cx.rounds + 1) (2 ^ 32 - 1) ∧
      (t.row l.row).tof = (u.result l.cur l.cur.macFail).1 ∧ (t.row l.row).flags = (u.result l.cur l.cur.macFail).2 ∧ (t.row l.row).round = l.cur.number ∧
      (t.row l.row).co = l.cur.co ∧ (t.row l.row).tco = l.cur.tco ∧
      (l.cur.resp = true → (t.row l.row).rounds = min (row.rounds + 1) (2 ^ 32 - 1) ∧ (t.row l.row).missed = row.missed ∧ (t.row l.row).st = 3) ∧
      (l.cur.resp = false → l.cur.heard = false → let m := min (row.missed + 1) 255
        (t.row l.row).missed = m ∧ (t.row l.row).st = if u.conf 0x2C03 0x2C03 6 ≤ m then 1 else 3) ∧
      ∀ j, j ≠ l.row → t.row j = u.row j) ∧
  (∀ (v : State) (x : RespData) (macFail : Bool), let q := v.result x macFail
    (x.report = false → q.1 = [0, 0, 0] ∧ q.2 % 8 = 0 ∧ bit q.2 8 = true) ∧
    (x.report = true → x.tokOk = false → q.2 % 8 = 0 ∧ bit q.2 7 = true ∧ bit q.2 8 = false)) ∧
  (let lane : LaneReport := { flags := 1, ts := 25560055 }
   let x : RespData := { number := 0, t1 := 0, t5 := 51118080, resp := true, lanes := [lane], co := 2000, report := true, tokOk := true, db := 25559040, rb := 25559142, tco := -2000 }
   State.reset.laneToF x 0 = some (8528, (false, false)) ∧ (State.reset.result x false).2 = 1)

/-- With no write fence and enough random bytes, an accepted pairing of a token or peer ID enters it as paired in its own or the first empty entry,
changes no other entry, and leaves the 84-byte record of R160, encrypted under the transport key; an ID of another kind is out of range, a full list
is BUSY and a transport slot without an AES-256 key is refused. Role H may only revoke; an empty entry cannot be made paired; a change of status
that is not a reinstatement ends every session of the ID. A rotation gives the group slot a new key from channel 6, ends the epoch of its kind and
its sessions. A tractor record that decrypts, names a peer and has its reserved bytes 0 fills the pairing; one that does not decrypt is refused with
AUTH_FAILED and one of another kind as out of range; neither changes a pairing. (R157, R158, R160, R161, R191, R198) -/
def Obligations.PairingsAndGroupKeysChange : Prop :=
  ∀ (s : State) (dt : Nat) (c : Client), let u := s.turn dt
    u.fenced = false →
    (∀ id : Bytes, Accepts u c 0x2C23 1 id →
      (idKind id ≠ 1 → idKind id ≠ 2 → exec (.pairPartner dt c id) s = finish s (u.aborted c 0x2C23 1 abRange)) ∧
      (idKind id = 1 ∨ idKind id = 2 → u.rngStopped 6 = false → u.rngWaits 6 (u.pairNeed id) = false → u.trustKeys = true →
        (u.entryFor id = none → exec (.pairPartner dt c id) s = finish s (u.aborted c 0x2C23 1 abBusy)) ∧
        (∀ e, u.entryFor id = some e → u.transport = none → exec (.pairPartner dt c id) s = finish s (u.aborted c 0x2C23 1 abSequence)) ∧
        (∀ e tk, u.entryFor id = some e → u.transport = some tk → ∃ t iv, exec (.pairPartner dt c id) s = .next t ∧ iv.length = 12 ∧
          kvGet? t.rr.paired e = some (id, 1) ∧ (∀ j, j ≠ e → kvGet? t.rr.paired j = kvGet? u.rr.paired j) ∧ t.cx.rows = u.cx.rows ∧
          let kind := idKind id
          let wake := if kind = 2 then 0 else u.obj 0x2010 1
          let ktok := kdf (t.slot (if kind = 2 then 10 else 8)).key (ascii "CHN-TOKEN") (t.vehicleBytes ++ id) 128
          let plain := id ++ t.vehicleBytes ++ beBytes 2 wake ++ [0, 0, 0, 0, 0, 0] ++ ktok ++ (t.slot (if kind = 2 then 11 else 9)).key
          t.rr.pairRec = iv ++ (gcmEnc tk iv (ascii "CHN-PAIR") plain).1 ++ (gcmEnc tk iv (ascii "CHN-PAIR") plain).2))) ∧
    (∀ e st : Nat, e < 128 → st < 3 → Accepts u c 0x2C22 (e + 1) (leBytes 1 st) → let x := kvGet (List.replicate 8 0, 0) u.rr.paired e
      (u.role c = roleH → st ≠ 2 → exec (.entryStatus dt c e st) s = finish s (u.aborted c 0x2C22 (e + 1) abRole)) ∧
      (u.role c ≠ roleH → st = 1 → x.2 = 0 → exec (.entryStatus dt c e st) s = finish s (u.aborted c 0x2C22 (e + 1) abSequence)) ∧
      (u.role c ≠ roleH ∨ st = 2 → ¬(st = 1 ∧ x.2 = 0) → ∃ t, exec (.entryStatus dt c e st) s = .next t ∧ (st ≠ 0 → kvGet? t.rr.paired e = some (x.1, st)) ∧
        (st = 0 → t.rr.paired = kvDel u.rr.paired e) ∧ (∀ j, j ≠ e → kvGet? t.rr.paired j = kvGet? u.rr.paired j) ∧
        (∀ i, (u.row i).st = 3 → (u.row i).id = x.1 → (u.row i).kind = 1 ∨ (u.row i).kind = 2 → (t.row i).st = if st = 1 then 3 else 1) ∧
        (∀ i, (u.row i).id ≠ x.1 → t.row i = u.row i))) ∧
    (∀ which : Nat, which = 1 ∨ which = 2 → Accepts u c 0x2C23 4 (leBytes 1 which) → let n := if which = 2 then 11 else 9
      (u.retired n = true → exec (.rotateGroupKey dt c which) s = finish s (u.aborted c 0x2C23 4 abRange)) ∧
      (∀ v k, u.retired n = false → u.draw 6 16 = some (v, k) → ∃ t, exec (.rotateGroupKey dt c which) s = .next t ∧ (t.slot n).key = k ∧ (t.slot n).ty = 1 ∧
        t.epochOf (which == 2) = none ∧ t.epochOf (which != 2) = u.epochOf (which != 2) ∧
        (∀ i, (u.row i).st = 3 → (u.row i).kind = which → (t.row i).st = 1) ∧ (∀ i, (u.row i).kind ≠ which → t.row i = u.row i))) ∧
    (∀ (n : Nat) (data : Bytes), n < 4 → Accepts u c 0x2C32 (n + 1) data →
      (u.transport = none → exec (.importTractorRecord dt c n data) s = finish s (u.aborted c 0x2C32 (n + 1) abAuthFail)) ∧
      (∀ tk, u.transport = some tk → let got := gcmDec tk (data.take 12) (ascii "CHN-PAIR") (slice 12 56 data) (slice 68 16 data)
        (got = none → exec (.importTractorRecord dt c n data) s = finish s (u.aborted c 0x2C32 (n + 1) abAuthFail)) ∧
        (∀ p, got = some p → idKind p ≠ 2 ∨ (slice 16 8 p).any (· != 0) = true →
          exec (.importTractorRecord dt c n data) s = finish s (u.aborted c 0x2C32 (n + 1) abRange)) ∧
        (∀ p, got = some p → idKind p = 2 → (slice 16 8 p).any (· != 0) = false → ∃ t x, exec (.importTractorRecord dt c n data) s = .next t ∧
          kvGet? t.rr.tractors n = some x ∧ x.id = p.take 8 ∧ x.vid = slice 8 8 p ∧ x.ktok = slice 24 16 p ∧ x.kpgrp = slice 40 16 p ∧
          ∀ j, j ≠ n → kvGet? t.rr.tractors j = kvGet? u.rr.tractors j)))

/-- A tractor sends no challenge while it is not enabled or before its period has passed since the last. One that may, and draws eight bytes from
channel 7, sends the 22-byte frame of R194 with SFD_A, begins a peer epoch of that nonce with the next counter, and opens the reply window 1,000 us
after the frame's last chip. A peer that hears a challenge of a tractor it is paired with, with trust pair and ranging at work, answers with a
56-byte REPLY with SFD_A whose MAC is that of R163 under the tractor's token key with wake ID 0, in the slot that R164 gives, and holds an ACTIVE
row of kind tractor from then on. A challenge of an unknown vehicle is dropped; a frame of another length or version is counted as discarded;
another kind, a device without the peer role, or one in a round of its own does nothing. (R162, R163, R164, R170, R194, R196) -/
def Obligations.PeerChallengesAreSentAndAnswered : Prop :=
  ∀ (s : State) (dt : Nat), let u := s.turn dt
    (u.obj 0x2C30 1 ≠ 1 ∨ (∃ t, u.cx.challengedAt = some t ∧ u.now < t + u.conf 0x2C03 0x2C30 2 * 10 ^ 9) → exec (.peerChallenge dt) s = finish s u) ∧
    (∀ v nonce, u.obj 0x2C30 1 = 1 → u.cx.challengedAt = none → u.rangingOk = true → u.serving 0x07 = true → u.trustKeys = true → u.cx.round = none →
      u.cx.macs = [] → u.phy.window = false → u.cxSnapshot.draw 7 8 = some (v, nonce) →
      let counter := (v.cx.peerCounter + 1) % 256
      let code := v.conf 0x2C03 0x2C04 1
      ∃ t f e w, exec (.peerChallenge dt) s = .next t ∧ t.phy.tx = some f ∧ f.sfdB = false ∧ f.key = [] ∧
        f.payload = [0x12, 0x01] ++ u.vehicleBytes ++ nonce ++ [byte counter] ++ beBytes 2 (8192 * code + counter) ++ [0] ∧
        t.cx.pep = some e ∧ e.nonce = nonce ∧ e.counter = counter ∧ e.due = none ∧ t.cx.ep = u.cx.ep ∧ t.cx.peerCounter = counter ∧
        t.cx.win = some w ∧ w.peer = true ∧ w.slots = 8 * 2 ^ code ∧ w.start = u.now + 135705 + 1000000 ∧ t.phy.window = true ∧ t.cx.challengedAt = some u.now) ∧
    (u.phy.delivered = none → exec (.peerChallengeReceived dt) s = finish s u) ∧
    (∀ d : DFrame, u.phy.delivered = some d → let p := d.payload
      let v : State := { u with phy := { u.phy with delivered := none } }
      ((p.getD 0 0) ≠ 0x12 ∨ u.obj 0x2C30 7 ≠ 1 ∨ u.cx.round.isSome = true → exec (.peerChallengeReceived dt) s = finish s u) ∧
      ((p.getD 0 0) = 0x12 → u.obj 0x2C30 7 = 1 → u.cx.round = none →
        (p.length ≠ 22 ∨ (p.getD 1 0) ≠ 0x01 → exec (.peerChallengeReceived dt) s =
          finish s { v with cx := { v.cx with discarded := min (u.cx.discarded + 1) (2 ^ 32 - 1) } }) ∧
        (p.length = 22 → (p.getD 1 0) = 0x01 → u.tractorOf (slice 2 8 p) = none → exec (.peerChallengeReceived dt) s = finish s v) ∧
        (∀ j x n z nonce, p.length = 22 → (p.getD 1 0) = 0x01 → u.tractorOf (slice 2 8 p) = some (j, x) → u.tractorRow (slice 2 8 p) = some n →
          v.draw 7 8 = some (z, nonce) → u.trustKeys = true → u.rangingOk = true → u.serving 0x07 = true → u.cx.peer = none →
          let params := beNat (slice 19 2 p)
          let head := [0x11, 0x01] ++ x.id ++ nonce ++ [p.getD 18 0, 0] ++ List.replicate 18 0 ++ [0x20, 0]
          let mac := cmac x.ktok (replyMessage x.vid 0 (slice 10 8 p) params head)
          let k := crc16 (x.id ++ slice 10 8 p) % (8 * 2 ^ (params / 8192 % 4))
          ∃ t f q, exec (.peerChallengeReceived dt) s = .next t ∧ t.phy.tx = some f ∧ f.sfdB = false ∧ f.payload = head ++ mac ∧
            f.idx = (d.idx + 2 ^ 48 - refChip d.sfdB + 67744 + 509184 + k * 199680) % 2 ^ 48 ∧ t.cx.peer = some q ∧ q.row = n ∧ q.tractor = j ∧ q.pollAt = u.now ∧
            (t.row n).st = 3 ∧ (t.row n).kind = 3 ∧ (t.row n).id = x.vid ∧ (t.row n).handle = q.handle ∧ ∀ i, i ≠ n → t.row i = u.row i)))

/-- In the peer role a POLL is served only outside the device's own rounds. One that fails its tag or sequence check is not answered; after the third in
a row the session ends. One that passes clears the failures and starts the timeout again; where it lists the session's handle with a round number
that has not been used, the RESP is sent in the slot of its place in the list with SFD_B under the session's ranging key; where it does not, nothing
is sent. A FINAL that passes for the round in hand gives the gap to the next round. The session ends once no POLL has passed for the longer of 6 s
and three gaps, and not before. A session that ends returns the row to KNOWN. (R179, R180, R182, R184, R185, R196, R197) -/
def Obligations.PeersAnswerPollsOfTheirTractor : Prop :=
  ∀ (s : State) (dt : Nat), let u := s.turn dt
    (u.phy.delivered = none ∨ u.cx.peer = none → exec (.pollReceived dt) s = finish s u ∧ exec (.finalReceived dt) s = finish s u) ∧
    (u.cx.peer = none → exec (.peerSessionTimeout dt) s = finish s u) ∧
    (∀ q : PeerSession, u.cx.peer = some q → let limit := q.pollAt + max 6000000000 (3 * q.gap)
      (u.now < limit → exec (.peerSessionTimeout dt) s = finish s u) ∧
      (limit ≤ u.now → ∃ t, exec (.peerSessionTimeout dt) s = .next t ∧ t.cx.peer = none ∧ ((u.row q.row).st = 3 → (t.row q.row).st = 1) ∧
        (∀ i, i ≠ q.row → t.row i = u.row i) ∧ t.rr.objs = u.rr.objs) ∧
      (∀ d : DFrame, u.phy.delivered = some d → let p := d.payload
        let x := kvGet ({} : Tractor) u.rr.tractors q.tractor
        let v : State := ({ u with phy := { u.phy with delivered := none } } : State).unlisted p
        let number := beNat (slice 2 4 p)
        (u.cx.round.isSome = true ∨ (p.getD 0 0) ≠ 0x21 → exec (.pollReceived dt) s = finish s u) ∧
        (u.cx.round.isSome = true ∨ (p.getD 0 0) ≠ 0x23 → exec (.finalReceived dt) s = finish s u) ∧
        (u.cx.round = none → (p.getD 0 0) = 0x21 → let passed := listedKind p = true ∧ q.passes x.vid (ascii "CHN-POLL") d = true
          let hs := (List.range (p.getD 6 0).toNat).map (fun i => beNat (slice (8 + 2 * i) 2 p))
          (¬passed → q.failed = 2 → ∃ t, exec (.pollReceived dt) s = .next t ∧ t.cx.peer = none ∧ t.phy.tx = u.phy.tx ∧ ((u.row q.row).st = 3 → (t.row q.row).st = 1)) ∧
          (¬passed → q.failed ≠ 2 → exec (.pollReceived dt) s =
            finish s { v with cx := { v.cx with peer := some { q with failed := q.failed + 1 } } }) ∧
          (passed → q.handle ∉ hs ∨ (q.any = true ∧ number ≤ q.number) → ∃ t q1, exec (.pollReceived dt) s = .next t ∧ t.phy.tx = u.phy.tx ∧ t.cx.peer = some q1 ∧
            q1.failed = 0 ∧ q1.pollAt = u.now ∧ q1.answered = q.answered ∧ q1.owed = false) ∧
          (passed → ∀ i, hs.findIdx? (· == q.handle) = some i → q.any = false ∨ q.number < number → ∃ t q1 f, exec (.pollReceived dt) s = .next t ∧ t.cx.peer = some q1 ∧
            q1.failed = 0 ∧ q1.pollAt = u.now ∧ q1.number = number ∧ q1.any = true ∧ q1.answered = q.answered + 1 ∧ t.phy.tx = some f ∧ f.sfdB = true ∧
            f.key = q.krng ∧ f.iv = [0x22] ++ beBytes 4 number ++ beBytes 2 q.handle ++ [0, 0, 0, 0, 0] ∧ f.payload.length = 30 ∧
            f.idx = ((d.idx + 2 ^ 48 - 37088 - 9984) % 2 ^ 48 + (i + 1) * 199680 + 9984) % 2 ^ 48 ∧ t.cx.rows = u.cx.rows)) ∧
        (u.cx.round = none → (p.getD 0 0) = 0x23 → let passed := listedKind p = true ∧ q.passes x.vid (ascii "CHN-FINL") d = true ∧ number = q.number
          (¬passed → exec (.finalReceived dt) s = finish s v) ∧
          (passed → q.ends = false → bit (p.getD 1 0).toNat 6 = false → ∃ t q1, exec (.finalReceived dt) s = .next t ∧ t.cx.peer = some q1 ∧
            q1.gap = (beNat (slice 6 2 p) + q.n + 1) * 400000 ∧ q1.number = q.number ∧ t.cx.rows = u.cx.rows ∧ t.phy.tx = u.phy.tx))))

/-- A request reaches policy only from a source that may make it; from another nothing happens, and without policy in service it is REFUSED with cause
TRUST_LOST. With FULL service an UNLOCK or START waits: it is pending with its source and time, and lock state and outputs stay; one of a code that
already waits joins it. In RETURNED, or at level NONE, it is REFUSED with cause DEGRADED_REFUSED; a START while LATCHED gives LATCHED at once, and
one with an output fault or the outputs out of service is REFUSED with cause OUTPUT_FAULT. LOCK resolves as LOCKED with nothing pending; Rooster's
lock instant is now, or with the engine running waits for its stop. CANCEL refuses what is pending as CANCELLED and changes neither lock nor
outputs. UNLOCKED_NOTICE unlocks, returns Rooster to IDLE and leaves what is pending. (R206, R219, R220, R222, R226, R227, R244, R247) -/
def Obligations.PolicyServesItsRequests : Prop :=
  ∀ (s : State) (dt : Nat) (src : Source), let u := s.turn dt
    let cmd : Nat → Instr := fun code => if code = 1 then .unlock dt src else if code = 2 then .start dt src else if code = 3 then .lock dt src
      else if code = 4 then .cancel dt src else .unlockedNotice dt src
    (∀ code, 1 ≤ code → code ≤ 5 → (src = .can ∧ (u.outputsHear = false ∨ u.outNow 0x2A21 3 ≠ 1)) ∨ (src = .door ∧ code ≠ 1) ∨ (src = .walkAway ∧ code ≠ 3) → exec (cmd code) s = finish s u) ∧
    (∀ code, 1 ≤ code → code ≤ 5 → MayRequest u src code → u.policyServes = false → ∃ t, exec (cmd code) s = .next t ∧ t.pol.outcome = 3 ∧ t.pol.cause = 7 ∧
      t.pol.src = sourceNum src ∧ t.pol.pend = u.pol.pend ∧ t.pol.locked = u.pol.locked ∧ t.pol.out = u.pol.out) ∧
    (∀ code, code = 1 ∨ code = 2 → MayRequest u src code → u.policyServes = true → let v := u.polSnapshot
      (v.rr.lifecycle = lcReturned → ∃ t, exec (cmd code) s = .next t ∧ t.pol.outcome = 3 ∧ t.pol.cause = 5 ∧ t.pol.pend = u.pol.pend) ∧
      (v.rr.lifecycle ≠ lcReturned → code = 2 → v.pol.out = 2 → ∃ t, exec (cmd code) s = .next t ∧ t.pol.outcome = 5 ∧ t.pol.out = 2 ∧ t.pol.pend = u.pol.pend) ∧
      (v.rr.lifecycle ≠ lcReturned → code = 2 → v.pol.out ≠ 2 → v.outputsOut = true → ∃ t, exec (cmd code) s = .next t ∧ t.pol.outcome = 3 ∧ t.pol.cause = 8 ∧
        t.pol.pend = u.pol.pend) ∧
      (v.rr.lifecycle ≠ lcReturned → code = 1 ∨ (v.pol.out ≠ 2 ∧ v.outputsOut = false) →
        (v.loc.level = 0 → ∃ t, exec (cmd code) s = .next t ∧ t.pol.outcome = 3 ∧ t.pol.cause = 5 ∧ t.pol.pend = u.pol.pend) ∧
        (v.loc.level = 1 ∨ v.loc.level = 2 → v.pol.pend.any (fun q => q.code == code) = true → exec (cmd code) s = finish s (v.told src)) ∧
        (v.loc.level = 1 ∨ v.loc.level = 2 → v.pol.pend.any (fun q => q.code == code) = false → ∃ t q, exec (cmd code) s = .next t ∧ t.pol.pend = u.pol.pend ++ [q] ∧
          q.code = code ∧ q.src = sourceNum src ∧ q.at_ = u.now ∧ t.pol.locked = u.pol.locked ∧ t.pol.out = u.pol.out ∧ t.pol.outcome = u.pol.outcome ∧
          (u.lf.tele = none → t.lf.waiting = min 255 (u.lf.waiting + 1))))) ∧
    (MayRequest u src 3 → u.policyServes = true → ∃ t, exec (.lock dt src) s = .next t ∧ t.pol.locked = true ∧ t.pol.pend = [] ∧ t.pol.outcome = 4 ∧ t.pol.src = sourceNum src ∧
      t.pol.out = u.pol.out ∧ (u.pol.engine = true → t.pol.lockDue = true ∧ t.aon.rooster = u.aon.rooster) ∧
      (u.pol.engine = false → t.pol.lockDue = false ∧ t.aon.rooster.st = 1 ∧ t.aon.rooster.lockAt = u.aon.clock)) ∧
    (MayRequest u src 4 → u.policyServes = true → ∃ t, exec (.cancel dt src) s = .next t ∧ t.pol.pend = [] ∧ t.pol.locked = u.pol.locked ∧ t.pol.out = u.pol.out ∧
      t.aon.rooster = u.aon.rooster ∧ (u.pol.pend ≠ [] → t.pol.outcome = 3 ∧ t.pol.cause = 6) ∧ (u.pol.pend = [] → t.pol.outcome = u.pol.outcome)) ∧
    (MayRequest u src 5 → u.policyServes = true → ∃ t, exec (.unlockedNotice dt src) s = .next t ∧ t.pol.locked = false ∧ t.aon.rooster.st = 0 ∧
      t.pol.pend = u.pol.pend ∧ t.pol.out = u.pol.out ∧ t.pol.outcome = u.pol.outcome)

/-- While the control domain runs: a renewal is due every 500 ms of a release and sets its validity to 2,000 ms only where a deciding token's last
result in a start zone qualified within 1,500 ms, with no output fault and not at LF_ONLY. A release ends at the falling edge at or after its
validity's end, not before; its end is an outcome, and the outputs are LOCKED. Running, reported by the host under source 0 or by the engine-state
frame under source 1, latches a release that still stands and binds its driver, and latches nothing else. A latch ends only with the engine stopped
and no pulse for 2 s. A frame missing for longer than 0x2A22:04 raises ENGINE_STATE_STALE once. A readback is due every 500 us; the second mismatch
of a ball in a row is an output fault, which ends a release and not a latch; 100 matches in a row clear it. A stored latch resumes with running
within 1,000 ms of step 6, and else is cleared. (R229, R230, R231, R234, R236, R239, R240, R247, R249) -/
def Obligations.ReleasesLatchAndRunOut : Prop :=
  ∀ (s : State) (dt : Nat), let u := s.turn dt
    let p := u.pol
    u.powered = true →
    (p.out ≠ 1 ∨ u.now < p.renewAt + 500000000 ∨ u.policyServes = false → exec (.releaseRenewal dt) s = finish s u) ∧
    (p.out = 1 → p.renewAt + 500000000 ≤ u.now → u.policyServes = true →
      let fresh := u.loc.level ≠ 3 ∧ u.outputBad = false ∧ ∃ id ∈ p.partners, ∃ e ∈ p.startAt, e.1 = id ∧ e.2.1 = true ∧ u.now ≤ e.2.2 + 1500000000
      ∃ t, exec (.releaseRenewal dt) s = .next t ∧ t.pol.out = 1 ∧ u.now < t.pol.renewAt + 500000000 ∧
        (fresh → t.pol.validTill = u.now + 2000000000) ∧ (¬fresh → t.pol.validTill = p.validTill)) ∧
    (p.out ≠ 1 ∨ u.now < p.endAt → exec (.releaseEnded dt) s = finish s u) ∧
    (p.out = 1 → p.endAt ≤ u.now → ∃ t, exec (.releaseEnded dt) s = .next t ∧ t.pol.out = 0 ∧ t.pol.outcome = 6 ∧ t.pol.partners = [] ∧ t.pol.latch = none ∧
      t.pol.locked = p.locked ∧ t.pol.driver = p.driver) ∧
    (∀ c : Client, Accepts u c 0x2A22 5 [1] → u.outNow 0x2A22 1 = 0 → p.engine = false →
      (p.out = 1 → u.now < p.endAt → u.trustLost = false → ∃ t x, exec (.engineRunning dt c 1) s = .next t ∧ t.pol.engine = true ∧ t.pol.out = 2 ∧ t.pol.latch = some x ∧
        x.driver = leNat (p.partners.headD (List.replicate 8 0)) ∧ t.pol.driver = x.driver ∧ t.pol.bound = true ∧ t.pol.outcome = 5) ∧
      (p.out ≠ 1 ∨ p.endAt ≤ u.now ∨ u.trustLost = true → ∃ t, exec (.engineRunning dt c 1) s = .next t ∧ t.pol.engine = true ∧ t.pol.out = p.out ∧ t.pol.latch = p.latch ∧
        t.pol.bound = p.bound)) ∧
    (∀ c : Client, Accepts u c 0x2A22 5 [0] → u.outNow 0x2A22 1 = 0 → p.out ≠ 2 ∨ u.trustLost = false → ∃ t, exec (.engineRunning dt c 0) s = .next t ∧
      t.pol.engine = false ∧ t.pol.out = p.out ∧ (p.engine = true → t.pol.bound = false)) ∧
    (∀ (bus : Nat) (f : CanFrame), (f.id ≠ u.outNow 0x2A22 2 → exec (.engineStateFrame dt bus f) s = finish s u) ∧
      (f.id = u.outNow 0x2A22 2 → u.canHears bus = true → exec (.engineStateFrame dt bus f) s =
        finish s (((((u.canDeliver bus f false).requestFrame bus f).engineFrame f).bellRx bus f).bdpRx bus f))) ∧
    (∀ (v : State) (f : CanFrame), let k := v.outNow 0x2A22 3
      (v.outNow 0x2A22 1 ≠ 1 ∨ f.data.length ≤ k / 8 % 8 → v.engineFrame f = v) ∧
      (v.outputsHear = true → v.outNow 0x2A22 1 = 1 → f.ide = false → f.rtr = false → f.id = v.outNow 0x2A22 2 → k / 8 % 8 < f.data.length →
        (v.engineFrame f).pol.engine = bit (f.data.getD (k / 8 % 8) 0).toNat (k % 8) ∧ (v.engineFrame f).pol.engAt = v.now ∧ (v.engineFrame f).pol.stale = false ∧
        (v.engineFrame f).pol.door = bit (f.data.getD 1 0).toNat 0)) ∧
    (p.out ≠ 2 ∨ p.engine = true ∨ u.now < (u.dist.lastPulse.getD 0) + 2000000000 → exec (.latchEnd dt) s = finish s u) ∧
    (p.out = 2 → p.engine = false → (u.dist.lastPulse.getD 0) + 2000000000 ≤ u.now → ∃ t, exec (.latchEnd dt) s = .next t ∧ t.pol.out = 0 ∧ t.pol.latch = none ∧
      t.pol.outcome = 6 ∧ t.pol.bound = false) ∧
    (let late := u.now - p.engAt
     (p.stale = true ∨ u.now ≤ p.engAt + u.outNow 0x2A22 4 * 1000000 → exec (.engineStateStale dt) s = finish s u) ∧
     (p.stale = false → u.outputsHear = true → u.outNow 0x2A22 1 = 1 → p.engAt + u.outNow 0x2A22 4 * 1000000 < u.now → exec (.engineStateStale dt) s =
       finish s (({ u with pol := { p with stale := true } } : State).emit 0x06 0x2A04 (min (late / 1000000) 65535)))) ∧
    (∀ a b : Bool, (u.now < p.readAt + 500000 → exec (.outputReadback dt a b) s = finish s u) ∧
      (p.readAt + 500000 ≤ u.now → u.ownState 0x06 ≠ stStarting → let w := u.outputLevels
        (a = w.1 → b = w.2 → ∃ t, exec (.outputReadback dt a b) s = .next t ∧ t.pol.mis = (0, 0) ∧ t.pol.matches_ = min 100 (p.matches_ + 1) ∧ t.pol.out = p.out ∧
          t.pol.faultMask = if 99 ≤ p.matches_ then 0 else p.faultMask) ∧
        (a ≠ w.1 → b = w.2 → p.mis.1 = 0 → ∃ t, exec (.outputReadback dt a b) s = .next t ∧ t.pol.mis = (1, 0) ∧ t.pol.matches_ = 0 ∧ t.pol.faultMask = p.faultMask ∧
          t.pol.out = p.out) ∧
        (a ≠ w.1 → b = w.2 → 1 ≤ p.mis.1 → p.faultMask = 0 → ∃ t, exec (.outputReadback dt a b) s = .next t ∧ t.pol.faultMask = 1 ∧
          t.pol.outFaults = min (p.outFaults + 1) (2 ^ 32 - 1) ∧ t.pol.out = if p.out = 1 then 0 else p.out))) ∧
    (p.out = 0 ∨ u.now < p.msgAt + 500000000 → exec (.releaseMessage dt) s = finish s u) ∧
    (p.out = 1 ∨ p.out = 2 → p.msgAt + 500000000 ≤ u.now → u.trustKeys = true → (u.slot 12).ty ≠ 0 → ∃ t, exec (.releaseMessage dt) s = .next t ∧
      t.pol.messages = (p.messages + 1) % 2 ^ 32 ∧ u.now < t.pol.msgAt + 500000000 ∧ t.pol.out = p.out ∧ t.pol.outcome = p.outcome) ∧
    (u.sup.vehicleLost = true ∨ (∃ l, p.lostAt = some l ∧ u.now < l + 1000000000) → exec (.trustLostMessage dt) s = finish s u) ∧
    (u.sup.vehicleLost = false → p.lostAt = none → u.trustLost = true → let n := (p.messages + 1) % 2 ^ 32
      let v : State := { u.outSnapshot with pol := { p with messages := n, lostAt := some u.now } }
      exec (.trustLostMessage dt) s = finish s (v.releaseQueue ([7, byte u.stateFlags, 0, 0] ++ leBytes 4 (u.counter 1 % 2 ^ 32) ++ leBytes 4 n ++ List.replicate 8 0 ++ leBytes 2 u.validity ++ List.replicate 10 0))) ∧
    (∀ (k : Nat) (x : Latch), u.sup.step6 = some k → p.resume = true → p.latch = some x → u.policyServes = true →
      (p.engineKnown = true → p.engine = true → u.now ≤ k + 1000000000 → ∃ t, exec (.latchResume dt) s = .next t ∧ t.pol.out = 2 ∧ t.pol.resume = false ∧
        t.pol.outcome = 5 ∧ bit t.pol.relFlags 5 = true ∧ t.pol.driver = x.driver ∧ t.pol.bound = true) ∧
      (k + 1000000000 < u.now → ∃ t, exec (.latchResume dt) s = .next t ∧ t.pol.latch = none ∧ t.pol.resume = false ∧ t.pol.out = p.out) ∧
      (p.engineKnown = false → u.now ≤ k + 1000000000 → exec (.latchResume dt) s = finish s u))

/-- While the control domain runs: a request that has waited 0x2901:04 is REFUSED, by the first that applies, for two drivers, a wrong zone, suspicion
or no token, and one that has not goes on waiting. Hold-offs of tokens and bins that have run out are cleared and no others. Walk-away lock acts
only when enabled, unlocked, engine stopped, no door open and its time over. A rebinding takes place once the candidate has stood for 0x2901:0B, and
leaves the latch. A presence poll is sent only at LF_ONLY, with a request pending or a release that it renews. The governor level follows the
highest junction temperature: up at each entry, down 3 degrees below it. A zone map that passes its checks is stored and awaits the next snapshot,
with the map in force as before; one that fails them is out of range. (R203, R206, R222, R224, R225, R228, R241, R243, R245) -/
def Obligations.PolicyTimersAndLevels : Prop :=
  ∀ (s : State) (dt : Nat), let u := s.turn dt
    let p := u.pol
    u.powered = true →
    (∀ q : Request, p.pend = [q] → let lim := u.conf 0x2901 0x2901 4 * 1000000
      (u.now < q.at_ + lim → exec (.decisionTimeout dt) s = finish s u) ∧
      (q.at_ + lim ≤ u.now → ∃ t, exec (.decisionTimeout dt) s = .next t ∧ t.pol.pend = [] ∧ t.pol.outcome = 3 ∧ t.pol.src = q.src ∧
        t.pol.cause = (if q.twoDrivers then 4 else if q.wrongZone then 2 else if q.suspect then 3 else 1) ∧ t.pol.out = p.out ∧ t.pol.locked = p.locked)) ∧
    (∃ t, exec (.suspectCleared dt) s = .next t ∧ t.pol.bins = p.bins.filter (fun b => decide (u.now < b.2)) ∧
      t.pol.tokens.map (·.id) = p.tokens.map (·.id) ∧ (∀ x ∈ t.pol.tokens, ∀ k, x.till = some k → u.now < k) ∧
      (∀ x ∈ p.tokens, (∀ k, x.till = some k → u.now < k) → x ∈ t.pol.tokens)) ∧
    (let k := u.polSnapshot.conf 0x2901 0x2901 0xA
     (k = 0 ∨ p.locked = true ∨ p.engine = true ∨ p.door = true ∨ u.now < p.walkAt + k * 10 ^ 9 ∨ u.policyServes = false → exec (.walkAwayLock dt) s = finish s u) ∧
     (k ≠ 0 → p.locked = false → p.engine = false → p.door = false → p.walkAt + k * 10 ^ 9 ≤ u.now → u.policyServes = true → ∃ t, exec (.walkAwayLock dt) s = .next t ∧
       t.pol.locked = true ∧ t.pol.outcome = 4 ∧ t.pol.src = 4 ∧ t.aon.rooster.st = 1)) ∧
    (p.rebind = none → exec (.rebind dt) s = finish s u) ∧
    (∀ (id : Bytes) (row since : Nat), p.rebind = some (id, (row, since)) → let k := u.conf 0x2901 0x2901 0xB * 10 ^ 9
      (u.now < since + k → exec (.rebind dt) s = finish s u) ∧
      (since + k ≤ u.now → u.policyServes = true → p.engine = true → p.bound = true → ∃ t, exec (.rebind dt) s = .next t ∧ t.pol.driver = leNat id ∧ t.pol.bound = true ∧
        t.pol.rebind = none ∧ t.pol.out = p.out ∧ t.pol.latch.isSome = p.latch.isSome)) ∧
    (u.loc.level ≠ 3 ∨ (p.pend = [] ∧ u.presenceRenews = false) → exec (.presencePoll dt) s = finish s u) ∧
    (u.loc.level = 3 → u.policyServes = true → p.pend ≠ [] → p.presence.last = none → u.deferMs = 0 → u.lfSends = true → u.lf.tele = none →
      u.aon.rooster.poll = none →
      (u.aon.rfIn.prev = true → ∃ t, exec (.presencePoll dt) s = .next t ∧ t.pol.pend = [] ∧ t.pol.outcome = 3 ∧ t.pol.cause = 5) ∧
      (u.aon.rfIn.prev = false → ∃ t b, exec (.presencePoll dt) s = .next t ∧ t.aon.rooster.poll = some b ∧ b.presence = true ∧ b.start = u.aon.clock ∧
        t.pol.pend = p.pend ∧ t.pol.presence.last = some u.now ∧ t.pol.presence.open_ = true)) ∧
    (u.serving 0x21 = true → ∃ t, exec (.thermalLevel dt) s = .next t ∧ t.pol.tj = u.tjNow ∧ t.pol.gov = govLevel p.gov u.tjNow ∧ t.pol.pend = p.pend ∧ t.pol.out = p.out) ∧
    (govLevel 0 459 = 0 ∧ govLevel 0 460 = 1 ∧ govLevel 0 472 = 2 ∧ govLevel 0 484 = 3 ∧ govLevel 0 496 = 4 ∧ govLevel 4 485 = 4 ∧ govLevel 4 484 = 3 ∧ govLevel 3 473 = 3 ∧
      govLevel 3 472 = 2 ∧ govLevel 2 461 = 2 ∧ govLevel 2 460 = 1 ∧ govLevel 1 449 = 1 ∧ govLevel 1 448 = 0) ∧
    (∀ (c : Client) (data : Bytes), Accepts u c 0x2810 1 data → u.fenced = false →
      (mapOk data = false → exec (.zoneMap dt c data) s = finish s (u.aborted c 0x2810 1 abRange)) ∧
      (mapOk data = true → ∃ t, exec (.zoneMap dt c data) s = .next t ∧ t.rr.mapWaits = true ∧ t.rr.map = u.rr.map ∧ t.obj 0x2810 1 = leNat data ∧
        t.loc = u.loc ∧ t.cx = u.cx))

/-- A tag that is off, killed, or disabled on the path answers nothing, and a write under way is not disturbed; an unsupported command has no reply.
Otherwise Select sets, clears or inverts the flag of its target by action and match and makes the tag ready; Query with a matching flag and Sel
draws a slot of 2^Q, and a tag in slot 0 replies with a fresh RN16, any other arbitrates; without a match it is ready. QueryAdjust and QueryRep
count only in the tag's session: QueryRep counts the slot down and replies in slot 0, sends a replying tag to arbitrate, and after an
acknowledgement inverts the session's flag and makes it ready; QueryAdjust draws anew with Q up, down or as it was. ACK of the right RN16 is
answered with PC, UII and CRC, a wrong one sends it to arbitrate; NAK sends every tag but a ready one to arbitrate; Req_RN of the right RN16 gives a
handle and the secured state. (R257, R259, R264, R279, R287) -/
def Obligations.UhfInventoryRuns : Prop :=
  ∀ (s : State) (dt : Nat) (q : SelectCmd) (qc : QueryCmd) (session upDn : Nat) (rn : Word) (bits : List Bool), let u := s.turn dt
    let cmds : List Instr := [.select dt q, .query dt qc, .queryAdjust dt session upDn, .queryRep dt session, .ack dt rn, .nak dt, .reqRn dt rn,
      .unsupportedUhfCommand dt bits]
    let v := u.tagSnapshot
    let v1 : State := { v with tagd := { v.tagd with uhf := true, uhfOut := [] } }
    let w := v1.fieldCmd.s1Decay
    (u.tagd.on = false ∨ u.rr.tag.killed = true → ∀ i ∈ cmds, exec i s = finish s u) ∧
    (u.tagServes = true → v.tagConf 0x3010 1 = 0 ∨ v.tagd.job.isSome = true → ∀ i ∈ cmds, exec i s = finish s v1) ∧
    (u.tagServes = true → v.tagConf 0x3010 1 ≠ 0 → v.tagd.job = none →
      exec (.unsupportedUhfCommand dt bits) s = finish s w ∧
      (q.target ≤ 4 → q.bank ≠ 0 → ∃ t, exec (.select dt q) s = .next t ∧ t.tagd.st = .ready ∧ t.tagd.uhfOut = [] ∧ t.rr.tag = w.rr.tag ∧
        (w.selMatches q = true → q.action = 0 ∨ q.action = 1 → t.tagd.flags = setAt w.tagd.flags q.target (q.target == 4)) ∧
        (w.selMatches q = true → q.action = 4 ∨ q.action = 5 → t.tagd.flags = setAt w.tagd.flags q.target (q.target != 4)) ∧
        (w.selMatches q = true → q.action = 3 → t.tagd.flags = setAt w.tagd.flags q.target (!nth false w.tagd.flags q.target)) ∧
        (w.selMatches q = true → q.action = 2 ∨ q.action = 6 ∨ q.action = 7 → t.tagd.flags = w.tagd.flags) ∧
        (w.selMatches q = false → q.action = 0 ∨ q.action = 2 → t.tagd.flags = setAt w.tagd.flags q.target (q.target != 4)) ∧
        (w.selMatches q = false → q.action = 4 ∨ q.action = 6 → t.tagd.flags = setAt w.tagd.flags q.target (q.target == 4)) ∧
        (w.selMatches q = false → q.action = 7 → t.tagd.flags = setAt w.tagd.flags q.target (!nth false w.tagd.flags q.target)) ∧
        (w.selMatches q = false → q.action = 1 ∨ q.action = 3 ∨ q.action = 5 → t.tagd.flags = w.tagd.flags)) ∧
      (w.tagd.st ≠ .acknowledged → w.tagd.st ≠ .secured → qc.session < 4 → qc.q < 16 →
        let mine := (qc.sel < 2 ∨ (qc.sel = 3 ↔ nth false w.tagd.flags 4 = true)) ∧ nth false w.tagd.flags qc.session = qc.target
        ∃ t, exec (.query dt qc) s = .next t ∧ t.tagd.session = qc.session ∧ t.tagd.flags = w.tagd.flags ∧
          (¬mine → t.tagd.st = .ready ∧ t.tagd.uhfOut = []) ∧
          (mine → t.tagd.q = qc.q ∧ t.tagd.slot < 2 ^ qc.q ∧ (t.tagd.slot = 0 → t.tagd.st = .reply ∧ t.tagd.uhfOut = wbits t.tagd.rn) ∧
            (t.tagd.slot ≠ 0 → t.tagd.st = .arbitrate ∧ t.tagd.uhfOut = []))) ∧
      (w.tagd.st = .acknowledged → qc.session < 4 → qc.session = w.tagd.session → ∃ t, exec (.query dt qc) s = .next t ∧
        t.tagd.flags = setAt w.tagd.flags w.tagd.session (!nth false w.tagd.flags w.tagd.session)) ∧
      (session ≠ w.tagd.session ∨ w.tagd.st = .ready → exec (.queryRep dt session) s = finish s w ∧ exec (.queryAdjust dt session upDn) s = finish s w) ∧
      (session = w.tagd.session → w.tagd.st = .acknowledged ∨ w.tagd.st = .secured → upDn = 0 ∨ upDn = 3 ∨ upDn = 6 →
        ∀ i : Instr, i = .queryRep dt session ∨ i = .queryAdjust dt session upDn → ∃ t, exec i s = .next t ∧ t.tagd.st = .ready ∧ t.tagd.uhfSess = (if w.tagd.st = .secured then none
          else w.tagd.uhfSess) ∧ t.tagd.flags = setAt w.tagd.flags session (!nth false w.tagd.flags session)) ∧
      (session = w.tagd.session → w.tagd.st = .reply → ∃ t, exec (.queryRep dt session) s = .next t ∧ t.tagd.st = .arbitrate ∧ t.tagd.slot = 0x7FFF) ∧
      (session = w.tagd.session → w.tagd.st = .arbitrate → ∃ t, exec (.queryRep dt session) s = .next t ∧
        t.tagd.slot = (if w.tagd.slot = 0 then 0x7FFF else w.tagd.slot - 1) ∧
        (w.tagd.slot = 1 → t.tagd.st = .reply ∧ t.tagd.uhfOut = wbits t.tagd.rn) ∧ (w.tagd.slot ≠ 1 → t.tagd.st = .arbitrate ∧ t.tagd.uhfOut = [])) ∧
      (session = w.tagd.session → w.tagd.st = .reply ∨ w.tagd.st = .arbitrate → upDn = 0 ∨ upDn = 3 ∨ upDn = 6 → ∃ t, exec (.queryAdjust dt session upDn) s = .next t ∧
        t.tagd.q = (if upDn = 6 then min 15 (w.tagd.q + 1) else if upDn = 3 then w.tagd.q - 1 else w.tagd.q) ∧ t.tagd.slot < 2 ^ t.tagd.q ∧
        (t.tagd.slot = 0 → t.tagd.st = .reply) ∧ (t.tagd.slot ≠ 0 → t.tagd.st = .arbitrate)) ∧
      (w.tagd.st = .reply → ∃ t, exec (.ack dt rn) s = .next t ∧ (rn ≠ w.tagd.rn → t.tagd.st = .arbitrate ∧ t.tagd.uhfOut = []) ∧
        (rn = w.tagd.rn → t.tagd.st = .acknowledged ∧ t.tagd.uhfOut = withCrc (bitsOf (beBytes 2 w.rr.tag.pcWord ++ bytesOf w.rr.tag.uiiWords)))) ∧
      (w.tagd.st = .ready → exec (.ack dt rn) s = finish s w ∧ exec (.nak dt) s = finish s w ∧ exec (.reqRn dt rn) s = finish s w) ∧
      (w.tagd.st ≠ .ready → ∃ t, exec (.nak dt) s = .next t ∧ t.tagd.st = .arbitrate ∧ t.rr.tag = w.rr.tag) ∧
      (w.tagd.st = .acknowledged → rn ≠ w.tagd.rn → exec (.reqRn dt rn) s = finish s w) ∧
      (w.tagd.st = .acknowledged → rn = w.tagd.rn → ∃ t, exec (.reqRn dt rn) s = .next t ∧ t.tagd.st = .secured ∧ t.tagd.uhfOut = withCrc (wbits t.tagd.handle) ∧
        t.tagd.flags = w.tagd.flags ∧ t.rr.tag = w.rr.tag))

/-- With the handle of a secured tag, a Read outside a bank, of the Reserved bank or of an uncorrectable unit gives its error, any other the words;
TV_SUMMARY gives status, counter and words of the newest slot. A Write or BlockWrite of a locked place, beyond the bank, of 0 or more than 16 words,
or without the reserve changes no memory and gives its error; one equal to the last write succeeds without programming; any other begins, and memory
is as before until TAG_COMMIT at or after its last program, which lands exactly its words. Kill needs its password in two halves and the reserve.
Lock needs its permit and takes no permalock. The engine starts at V_TAG_ON and stops below V_TAG_OFF; a BlockWrite cut off then leaves its words
old. HARV goes on above V_TAG_HON where it may run, off below V_TAG_HOFF, and pauses 100 ms after an overload. (R256, R259, R265, R266, R267, R270,
R271, R272, R273, R281, R282, R284) -/
def Obligations.FieldAccessAndWritesLand : Prop :=
  (∀ (s : State) (dt : Nat) (handle : Word), let u := s.turn dt
    let v := u.tagSnapshot
    let v1 : State := { v with tagd := { v.tagd with uhf := true, uhfOut := [] } }
    let w := v1.fieldCmd.s1Decay
    let err : Nat → List Bool := fun code => withCrc (true :: bitsOf [byte code] ++ wbits w.tagd.handle)
    let good : List Word → List Bool := fun l => withCrc (false :: l.flatMap wbits ++ wbits w.tagd.handle)
    u.tagServes = true → v.tagConf 0x3010 1 ≠ 0 → v.tagd.job = none → w.tagd.st = .secured → handle = w.tagd.handle →
    (∀ bank ptr count, 1 ≤ count →
      (bank = 0 → exec (.read dt bank ptr count handle) s = finish s (w.uhfSay (err 4))) ∧
      (bank ≠ 0 → uhfBank bank ptr count = none → exec (.read dt bank ptr count handle) s = finish s (w.uhfSay (err 3))) ∧
      (∀ b a, bank ≠ 0 → uhfBank bank ptr count = some (b, a) → w.rr.tag.hurt b a count = true → exec (.read dt bank ptr count handle) s = finish s ((w.tagBadRead b a count).uhfSay (err 0x0F))) ∧
      (∀ b a, bank ≠ 0 → uhfBank bank ptr count = some (b, a) → w.rr.tag.hurt b a count = false → ∃ t, exec (.read dt bank ptr count handle) s = .next t ∧
        t.tagd.uhfOut = good (w.rr.tag.words b a count) ∧ t.rr.tag = w.rr.tag)) ∧
    (exec (.read dt 3 0 0 handle) s = finish s (w.uhfSay (err 3))) ∧
    (∀ ptr count, (128 < ptr + count → exec (.tvSummary dt ptr count handle) s = finish s (w.uhfSay (err 3))) ∧
      (ptr + count ≤ 128 → ∃ t, exec (.tvSummary dt ptr count handle) s = .next t ∧ t.rr.tag = w.rr.tag ∧ let m := w.rr.tag
        t.tagd.uhfOut = good ([BitVec.ofNat 16 m.status, BitVec.ofNat 16 (m.counter % 65536)] ++ (match m.newest with
          | some k => m.words 4 (0x400 + 0x80 * k + ptr) count
          | none => List.replicate count 0)))) ∧
    (∀ (bank ptr mv : Nat) (data : List Word), 1 ≤ data.length → data.length ≤ 16 → ∀ i : Instr,
      i = .blockWrite dt bank ptr data.length data handle mv ∨ (∃ x, data = [x] ∧ i = .write dt bank ptr x handle mv) →
      let lw : LastWrite := { handle := handle, ptr := ptr, count := data.length, crc := crc16 (bytesOf data) }
      ∃ t, exec i s = .next t ∧ t.rr.tag = w.rr.tag ∧ t.tagd.vtag = mv ∧
        (bank = 0 → t.tagd.job = none ∧ t.tagd.uhfOut = err 4) ∧
        (bank ≠ 0 → uhfBank bank ptr data.length = none → t.tagd.job = none ∧ t.tagd.uhfOut = err 3) ∧
        (∀ b a, bank ≠ 0 → uhfBank bank ptr data.length = some (b, a) →
          (b = 2 ∨ b = 4 ∨ w.fieldLocked b = true → t.tagd.job = none ∧ t.tagd.uhfOut = err 4) ∧
          (b ≠ 2 → b ≠ 4 → w.fieldLocked b = false →
            ((w.rr.tag.commit b).last = some lw → t.tagd.job = none ∧ t.tagd.uhfOut = good []) ∧
            ((w.rr.tag.commit b).last ≠ some lw → mv < 2700 ∨ w.fenced = true → t.tagd.job = none ∧ t.tagd.uhfOut = err 0x0B) ∧
            ((w.rr.tag.commit b).last ≠ some lw → 2700 ≤ mv → w.fenced = false → ∃ j, t.tagd.job = some j ∧ j.bank = b ∧ j.ptr = a ∧ j.words = data ∧
              j.handle = handle ∧ j.due = u.aon.clock + 24000 * ((a + data.length - 1) / 8 + 1 - a / 8 + 1 + b2n w.nv.run.isSome) ∧ t.tagd.uhfOut = [])))) ∧
    (∀ (bank ptr count mv : Nat) (data : List Word), count = 0 ∨ 16 < count → ∃ t, exec (.blockWrite dt bank ptr count data handle mv) s = .next t ∧
      t.rr.tag = w.rr.tag ∧ t.tagd.job = none ∧ t.tagd.uhfOut = err 0) ∧
    (∀ (recom mv : Nat) (half : Word), ∃ t, exec (.kill dt recom half handle mv) s = .next t ∧
      (recom ≠ 0 → t.rr.tag = w.rr.tag ∧ t.tagd.uhfOut = err 1) ∧
      (recom = 0 → w.rr.tag.canKill = false → t.rr.tag = w.rr.tag ∧ t.tagd.uhfOut = err 0) ∧
      (recom = 0 → w.rr.tag.canKill = true → w.tagd.half = none → t.rr.tag = w.rr.tag ∧ t.tagd.half = some half ∧ t.tagd.uhfOut = withCrc (wbits handle)) ∧
      (∀ h, recom = 0 → w.rr.tag.canKill = true → w.tagd.half = some h →
        (bytesOf [h, half] ≠ w.rr.tag.killPw → t.rr.tag = w.rr.tag ∧ t.tagd.st = .arbitrate) ∧
        (bytesOf [h, half] = w.rr.tag.killPw → mv < 2700 ∨ w.fenced = true → t.rr.tag = w.rr.tag ∧ t.tagd.uhfOut = err 0x0B) ∧
        (bytesOf [h, half] = w.rr.tag.killPw → 2700 ≤ mv → w.fenced = false → t.rr.tag.killed = true ∧ t.tagd.harv = false ∧ t.rr.tag.user = w.rr.tag.user ∧
          t.tagd.uhfOut = good []))) ∧
    (∀ mask action : Nat, ∃ t, exec (.uhfLock dt mask action handle) s = .next t ∧
      (w.tagConf 0x3021 3 = 0 → t.rr.tag = w.rr.tag ∧ t.tagd.uhfOut = err 4) ∧
      (mask % 2 = 1 → action % 2 = 1 → t.rr.tag = w.rr.tag ∧ t.tagd.uhfOut = err 4) ∧
      (w.tagConf 0x3021 3 ≠ 0 → mask = 2 → t.tagd.uhfOut = good []) ∧
      (w.tagConf 0x3021 3 ≠ 0 → mask = 2 → action = 2 → bit t.rr.tag.locks 0 = true ∧ t.rr.tag.user = w.rr.tag.user) ∧
      (w.tagConf 0x3021 3 ≠ 0 → mask = 2 → action = 0 → bit t.rr.tag.locks 0 = false ∧ bit t.rr.tag.locks 1 = bit w.rr.tag.locks 1))) ∧
  (∀ (s : State) (dt : Nat), let u := s.turn dt
    (u.tagd.job = none → u.tag.jobs = [] → exec (.tagCommit dt) s = finish s u) ∧
    (∀ j, u.tagd.job = some j → u.aon.clock < j.due → exec (.tagCommit dt) s = finish s u) ∧
    (∀ j, u.tagd.job = some j → j.due ≤ u.aon.clock → u.tagApp = false → ∃ t, exec (.tagCommit dt) s = .next t ∧ t.tagd.job = none ∧ t.rr.tag = u.rr.tag.land j true) ∧
    (∀ j r, u.tagd.job = none → u.tag.jobs = j :: r → j.due ≤ u.aon.clock → u.fenced = false → ∃ t, exec (.tagCommit dt) s = .next t ∧ t.tag.jobs = r ∧
      t.rr.tag = u.rr.tag.land j false) ∧
    (∀ (m : TagMem) (j : TagJob) (field : Bool), j.bank = 3 → kvSorted m.user = true → kvSorted (m.land j field).user = true ∧
      (∀ i, i < j.words.length → (m.land j field).word 3 (j.ptr + i) = nth 0 j.words i) ∧
      (∀ a, a < j.ptr ∨ j.ptr + j.words.length ≤ a → (m.land j field).word 3 a = m.word 3 a) ∧ (m.land j field).slots = m.slots ∧ (m.land j field).uii = m.uii ∧
      (m.land j field).killed = m.killed ∧ (m.land j field).killPw = m.killPw) ∧
    (∀ mv, (u.tagd.on = true ∨ mv < 1700 → exec (.tagPowerOn dt mv) s = finish s u) ∧
      (u.tagd.on = false → 1700 ≤ mv → ∃ t, exec (.tagPowerOn dt mv) s = .next t ∧ t.tagd.on = true ∧ t.tagd.vtag = mv ∧ t.tagd.st = .ready ∧ t.tagd.hst = .idle ∧
        nth false t.tagd.flags 0 = false ∧ t.rr = u.rr) ∧
      (u.tagd.on = false ∨ 1550 ≤ mv → exec (.tagPowerOff dt mv) s = finish s u) ∧
      (u.tagd.on = true → mv < 1550 → u.tagd.killAt = none → (u.tagd.job = none ∨ ∃ j, u.tagd.job = some j ∧ u.aon.clock < j.due ∧ j.kind = .fieldBlock) →
        ∃ t, exec (.tagPowerOff dt mv) s = .next t ∧ t.tagd.on = false ∧ t.tagd.job = none ∧ t.tagd.harv = false ∧ t.rr.tag.user = u.rr.tag.user ∧
          t.rr.tag.uii = u.rr.tag.uii ∧ t.rr.tag.killed = u.rr.tag.killed) ∧
      (mv ≤ 2800 ∨ u.harvMay = false → exec (.harvOn dt mv) s = finish s u) ∧
      (2800 < mv → u.harvMay = true → exec (.harvOn dt mv) s = finish s { u with tagd := { u.tagd with vtag := mv, harv := true } }) ∧
      (2750 ≤ mv → exec (.harvOff dt mv) s = finish s u) ∧
      (mv < 2750 → exec (.harvOff dt mv) s = finish s { u with tagd := { u.tagd with vtag := mv, harv := false } })) ∧
    (u.tagd.harv = false → exec (.harvOverload dt) s = finish s u) ∧
    (u.tagd.harv = true → u.powered = true → ∃ t, exec (.harvOverload dt) s = .next t ∧ t.tagd.harv = false ∧ t.tagd.harvOff = some (u.aon.clock + 100000000) ∧
      t.tag.overloads = min (u.tag.overloads + 1) (2 ^ 32 - 1) ∧ t.rr.tag = u.rr.tag) ∧
    (u.tagd.harvOff = none → exec (.harvRetry dt) s = finish s u) ∧
    (∀ k, u.tagd.harvOff = some k → (u.aon.clock < k → exec (.harvRetry dt) s = finish s u) ∧
      (k ≤ u.aon.clock → ∃ t, exec (.harvRetry dt) s = .next t ∧ t.tagd.harvOff = none ∧ (t.tagd.harv = true → 2800 < u.tagd.vtag) ∧ t.rr.tag = u.rr.tag)))

/-- The HF commands follow ISO/IEC 14443 Type A: REQA wakes an idle tag and WUPA also a halted one with ATQA 0x0044; the two cascade levels of the UID
give SAK 0x04 and 0x20; RATS of a selected tag is answered with the ATS, and every other state falls back. In a session a command of the application
is answered by the first block of its response, chained while more than a frame is left; R(ACK) brings the next block; S(DESELECT) halts the tag. A
window write of TID or Enforcement is READ_ONLY, one beyond the bank out of range; with the tag at work it waits for the fence or for its programs,
and after 2 ms it returns BUSY and leaves memory as it was. A refresh takes place only on a trigger and at its interval; it overwrites one slot with
a summary of the next counter, leaves the others and clears TRUST_LOST. A wrong kill password is AUTH_FAILED; the right one, with the reserve, kills
the tag. (R261, R262, R263, R268, R269, R275, R276, R277, R278, R279, R281) -/
def Obligations.HfPathAndHostWindow : Prop :=
  ∀ (s : State) (dt : Nat), let u := s.turn dt
    let v := u.tagSnapshot
    let v1 : State := { v with tagd := { v.tagd with hf := true } }
    let w := v1.fieldCmd
    let m := w.rr.tag
    (u.tagServes = false → ∀ (k : Nat) (l : List Bool) (b : Bytes), ∀ i ∈ ([.reqa dt, .wupa dt, .hlta dt, .anticollision dt k l, .hfSelect dt k b, .rats dt 0, .rAck dt k, .rNak dt k,
      .sDeselect dt, .getSummary dt b, .hfRead dt b, .getCertificate dt b, .hfUnknownCommand dt b] : List Instr), exec i s = finish s u) ∧
    (u.tagServes = true → v.tagConf 0x3010 2 ≠ 0 → v.tagd.job = none →
      (w.tagd.hst = .idle → ∃ t, exec (.reqa dt) s = .next t ∧ t.tagd.hst = .ready1 ∧ t.tagd.hfOut = [0x44, 0x00]) ∧
      (w.tagd.hst = .halt → ∃ t, exec (.reqa dt) s = .next t ∧ t.tagd.hst = .halt ∧ t.tagd.hfOut = []) ∧
      (w.tagd.hst = .idle ∨ w.tagd.hst = .halt → ∃ t, exec (.wupa dt) s = .next t ∧ t.tagd.hst = .ready1 ∧ t.tagd.hfOut = [0x44, 0x00] ∧
        t.tagd.halted = decide (w.tagd.hst = .halt)) ∧
      (w.tagd.hst = .active → ∃ t, exec (.hlta dt) s = .next t ∧ t.tagd.hst = .halt ∧ t.tagd.hfOut = []) ∧
      (w.tagd.hst = .ready1 → ∃ t, exec (.anticollision dt 1 []) s = .next t ∧ t.tagd.hst = .ready1 ∧
        t.tagd.hfOut = 0x88 :: hfUid.take 3 ++ [hfBcc (0x88 :: hfUid.take 3)]) ∧
      (w.tagd.hst = .ready2 → ∃ t, exec (.anticollision dt 2 []) s = .next t ∧ t.tagd.hst = .ready2 ∧ t.tagd.hfOut = hfUid.drop 3 ++ [hfBcc (hfUid.drop 3)]) ∧
      (w.tagd.hst = .ready1 → ∃ t, exec (.hfSelect dt 1 (0x88 :: hfUid.take 3)) s = .next t ∧ t.tagd.hst = .ready2 ∧ t.tagd.hfOut = [0x04]) ∧
      (∀ b : Bytes, w.tagd.hst = .ready2 → (b.take 4 = hfUid.drop 3 → ∃ t, exec (.hfSelect dt 2 b) s = .next t ∧ t.tagd.hst = .active ∧ t.tagd.hfOut = [0x20]) ∧
        (b.take 4 ≠ hfUid.drop 3 → ∃ t, exec (.hfSelect dt 2 b) s = .next t ∧ t.tagd.hst = (if w.tagd.halted then .halt else .idle) ∧ t.tagd.hfOut = [])) ∧
      (∀ p : Byte, w.tagd.hst = .active → ∃ t, exec (.rats dt p) s = .next t ∧ t.tagd.hst = .proto ∧ t.tagd.hfOut = [0x05, 0x75, 0x00, 0x70, 0x00] ∧
        t.tagd.fsd = fsdOf (p.toNat / 16) ∧ t.rr.tag = m) ∧
      (w.tagd.hst = .proto → let n := w.tagd.fsd - 3
        (∀ (i : Instr) (r : Bytes), (i = .getSummary dt [1] ∧ (∀ k, m.newest = some k → r = 0x00 :: (beBytes 2 m.status ++ m.slotBytes k)) ∧ (m.newest = none → r = [0x04])) ∨
          (i = .getCertificate dt [3] ∧ r = 0x00 :: (beBytes 2 m.cert.length ++ m.cert)) ∨
          (∃ (bank : Byte) (ptr : Nat) (k : Byte), ptr < 65536 ∧ i = .hfRead dt ([2, bank] ++ beBytes 2 ptr ++ [k]) ∧
            r = (if k = 0 ∨ 128 < k.toNat then [0x02] else if bank.toNat = 0 ∨ 4 < bank.toNat ∨ bankWords bank.toNat < ptr + k.toNat then [0x03]
              else if m.hurt bank.toNat ptr k.toNat then [0x06] else 0x00 :: bytesOf (m.words bank.toNat ptr k.toNat))) ∨
          (∃ b : Bytes, 4 ≤ (b.headD 0).toNat ∧ i = .hfUnknownCommand dt b ∧ r = [0x01]) →
          ∃ t, exec i s = .next t ∧ t.tagd.hfOut = byte (2 + (1 - w.tagd.blk) + 16 * b2n (decide (n < r.length))) :: r.take n ∧ t.tagd.chain = r.drop n ∧
            t.tagd.blk = 1 - w.tagd.blk ∧ t.rr.tag = m) ∧
        (∀ k, k ≠ w.tagd.blk → w.tagd.chain ≠ [] → ∃ t, exec (.rAck dt k) s = .next t ∧ t.tagd.chain = w.tagd.chain.drop n ∧ t.tagd.blk = 1 - w.tagd.blk ∧
          t.tagd.hfOut.drop 1 = w.tagd.chain.take n) ∧
        (∀ k, k = w.tagd.blk → exec (.rAck dt k) s = finish s w ∧ exec (.rNak dt k) s = finish s w) ∧
        (∀ k, k ≠ w.tagd.blk → exec (.rNak dt k) s = finish s (w.hfSay [byte (0xA2 + w.tagd.blk)])) ∧
        (∃ t, exec (.sDeselect dt) s = .next t ∧ t.tagd.hst = .halt ∧ t.tagd.hfSess = none ∧ t.tagd.hfOut = [0xC2] ∧ t.tagd.chain = []))) ∧
    (∃ t, exec (.hfFieldLoss dt) s = .next t ∧ t.tagd.hst = .idle ∧ t.tagd.hf = false ∧ t.tagd.hfSess = none ∧ t.tagd.hfOut = [] ∧ t.rr = u.rr) ∧
    (∀ (c : Client) (data : Bytes), Accepts u c 0x3020 4 data → let b := u.cval c 0x3020 1
      let p := u.cval c 0x3020 2
      let n := u.cval c 0x3020 3
      (b = 2 ∨ b = 4 → exec (.windowData dt c data) s = finish s (u.aborted c 0x3020 4 abReadOnly)) ∧
      (b = 3 → 4096 < p + n → exec (.windowData dt c data) s = finish s (u.aborted c 0x3020 4 abRange)) ∧
      (b = 3 → p + n ≤ 4096 → u.serving 0x08 = false ∨ u.tagd.vtag < 2700 → ∃ t, exec (.windowData dt c data) s = .next t ∧ t.rr = u.rr ∧ t.tag.jobs = u.tag.jobs ∧
        t.tag.busy = min (u.tag.busy + 1) (2 ^ 32 - 1)) ∧
      (b = 3 → p + n ≤ 4096 → u.serving 0x08 = true → 2700 ≤ u.tagd.vtag →
        (u.fenced = true → ∃ t x, exec (.windowData dt c data) s = .next t ∧ t.dict.commits = u.dict.commits ++ [x] ∧ x.c = c ∧ x.data = data ∧ t.tag.jobs = u.tag.jobs ∧ t.rr = u.rr) ∧
        (u.fenced = false → ∃ t j, exec (.windowData dt c data) s = .next t ∧ t.tag.jobs = u.tag.jobs ++ [j] ∧ j.kind = .host c ∧ j.bank = 3 ∧ j.ptr = p ∧
          j.words = (wordsOf data).take n ∧ t.rr = u.rr))) ∧
    (∀ c : Client, (u.tag.jobs = [] → exec (.hostTagTimeout dt c) s = finish s u) ∧
      (∀ j, u.tag.jobs = [j] → j.kind = .host c → (u.now < j.at_ + 2000000 → exec (.hostTagTimeout dt c) s = finish s u) ∧
        (j.at_ + 2000000 ≤ u.now → ∃ t, exec (.hostTagTimeout dt c) s = .next t ∧ t.tag.jobs = [] ∧ t.rr = u.rr ∧ t.tag.busy = min (u.tag.busy + 1) (2 ^ 32 - 1)))) ∧
    (u.tagApp = false ∨ u.refreshWanted = false ∨ u.refreshMay = false ∨ u.trustLost = true ∨ u.fenced = true → exec (.summaryRefresh dt) s = finish s u) ∧
    (let n := u.rr.tag.counter + 1
     let body := u.summaryBody n
     ∀ x sig, u.tagApp = true → u.refreshWanted = true → u.refreshMay = true → u.trustLost = false → u.fenced = false → u.rr.lifecycle ≠ lcReturned → 2700 ≤ u.tagd.vtag →
       u.ownSign 48 body = some (x, sig) → ∃ t, exec (.summaryRefresh dt) s = .next t ∧ t.rr.tag.lost = false ∧ t.tag.ask = false ∧ t.tagd.refreshAt = some u.aon.clock ∧
         t.rr.tag.slotBytes u.rr.tag.victim = body ++ padTo 96 sig ++ List.replicate 32 0 ∧
         (∀ k, k ≠ u.rr.tag.victim → t.rr.tag.slotBytes k = u.rr.tag.slotBytes k) ∧ t.rr.tag.user = u.rr.tag.user) ∧
    (∀ c : Client, Accepts u c 0x3030 7 [1] → exec (.refreshNow dt c) s = finish s (({ u with tag := { u.tag with ask := true } } : State).done c 0x3030 7)) ∧
    (∀ (c : Client) (pw : Bytes), Accepts u c 0x3040 1 pw → u.fenced = false →
      (u.rr.tag.killed = true ∨ u.rr.tag.canKill = false ∨ pw ≠ u.rr.tag.killPw → exec (.killObject dt c pw) s = finish s (u.aborted c 0x3040 1 abAuthFail)) ∧
      (u.rr.tag.killed = false → u.rr.tag.canKill = true → pw = u.rr.tag.killPw → 2700 ≤ u.tagd.vtag → ∃ t, exec (.killObject dt c pw) s = .next t ∧
        t.rr.tag.killed = true ∧ t.tagd.harv = false ∧ t.rr.tag.user = u.rr.tag.user))

/-- An accepted key operation on the client's slot: role, type, usage and a retired slot refuse a write before the key is looked at, and so does,
whatever the fence, a volatile slot whose increase has not committed. IMPORT is UNIT_UNAVAILABLE without the trust pair or the cipher engine,
AUTH_FAILED where the wrapping key is EMPTY or the tag fails, RANGE for a bad key, and else stores the key as imported. GENERATE stores a key made
of channel 6's oldest bytes, and waits for bytes where there are too few; IMPORT_PLAIN is for role F in FACTORY. Each new key takes the next
generation, and no other slot changes. ERASE empties the slot under the next generation, ZEROIZE_NOW empties it whatever the fence, and ZEROIZE_ALL,
for role F, empties all 64. SLOT_SELECT takes a snapshot of the slot. An anchor changes where an anchor that may sign anchor changes has signed the
record. The summary certificate is taken where its chain and its content hold, and is copied to the tag up to the length 0x3740:02. (R289, R292,
R294, R295, R298, R299, R300, R302, R304, R318) -/
def Obligations.KeyOperationsChangeSlots : Prop :=
  ∀ (s : State) (dt : Nat) (c : Client), let u := s.turn dt
    let a := u.keyAsk c
    let n := a.slot
    let op := fun (code : Nat) => Accepts u c 0x3720 6 [byte code]
    let no := fun (t : State) (cause : Nat) => finish s (t.aborted c 0x3720 6 cause)
    let cause := u.keyWriteCause c a
    let won := fun (t : State) (x : Slot) => t.slot n = x ∧ (∀ m, m ≠ n → t.slot m = u.slot m) ∧ (t.ctx c).keyOutcome = 0 ∧ t.rr.lifecycle = u.rr.lifecycle
    let blank : Slot := { gen := (u.slot n).gen + 1 }
    (u.fenced = false → u.marksOf n = 0 →
      (op 1 → let w := u.wrapped c
        let p := gcmDec (u.slot 0).key (w.take 12) (importAad a) (slice 12 48 w) (slice 60 16 w)
        (cause ≠ 0 → exec (.keyImport dt c) s = no u cause) ∧
        (cause = 0 → u.trustLost = true ∨ u.serving 0x09 = false → exec (.keyImport dt c) s = no u abUnavail) ∧
        (cause = 0 → u.trustLost = false → u.serving 0x09 = true → (u.slot 0).ty = 0 → exec (.keyImport dt c) s = no u abAuthFail) ∧
        (cause = 0 → u.trustLost = false → u.serving 0x09 = true → (u.slot 0).ty ≠ 0 →
          (p = none → ∃ t, exec (.keyImport dt c) s = .next t ∧ (t.ctx c).keyOutcome = abAuthFail ∧ (∀ m, t.slot m = u.slot m) ∧
            t.cipher.authFails = min (u.cipher.authFails + 1) (2 ^ 32 - 1)) ∧
          (∀ x, p = some x → plainKey a.ty x = none → ∃ t, exec (.keyImport dt c) s = .next t ∧ (t.ctx c).keyOutcome = abRange ∧ ∀ m, t.slot m = u.slot m) ∧
          (∀ x k, p = some x → plainKey a.ty x = some k → ∃ t, exec (.keyImport dt c) s = .next t ∧
            won t { blank with ty := a.ty, usage := a.usage, pers := a.pers, origin := 2, key := k }))) ∧
      (op 2 → let why := u.generateCause c a
        let len := (keyBytes a.ty).getD 0
        (why ≠ 0 → exec (.generate dt c) s = no u why) ∧
        (why = 0 → u.rngWaits 6 len = true → exec (.generate dt c) s =
          finish s { u with rng := { u.rng with waits := u.rng.waits ++ [{ ch := 6, need := len, c := c, key := key 0x3720 6, data := [2] }] } }) ∧
        (why = 0 → u.rngWaits 6 len = false → ∃ t, exec (.generate dt c) s = .next t ∧
          won t { blank with ty := a.ty, usage := a.usage, pers := a.pers, origin := 1, key := randomKey a.ty ((u.rngBuf 6).take len) })) ∧
      (op 3 → (u.mayErase c n = false → exec (.erase dt c) s = no u abRole) ∧
        (u.mayErase c n = true → u.retired n = true → exec (.erase dt c) s = no u abRange) ∧
        (u.mayErase c n = true → u.retired n = false → ∃ t, exec (.erase dt c) s = .next t ∧ won t blank)) ∧
      (op 5 → (u.rr.lifecycle ≠ lcFactory ∨ u.role c ≠ roleF → exec (.importPlain dt c) s = no u abRole) ∧
        (u.rr.lifecycle = lcFactory → u.role c = roleF → let k := plainKey a.ty (slice 12 48 (u.wrapped c))
          (cause ≠ 0 → exec (.importPlain dt c) s = no u cause) ∧ (cause = 0 → k = none → exec (.importPlain dt c) s = no u abRange) ∧
          (∀ x, cause = 0 → k = some x → ∃ t, exec (.importPlain dt c) s = .next t ∧
            won t { blank with ty := a.ty, usage := a.usage, pers := a.pers, origin := 3, key := x })))) ∧
    (u.ks.stale.contains n = true → u.fenced = true → (op 1 → exec (.keyImport dt c) s = no u cause) ∧ (op 2 → exec (.generate dt c) s = no u (u.generateCause c a)) ∧
      cause ≠ 0 ∧ u.generateCause c a ≠ 0) ∧
    (op 4 → (u.mayErase c n = false → exec (.zeroizeNow dt c) s = no u abRole) ∧
      (u.mayErase c n = true → ∃ t, exec (.zeroizeNow dt c) s = .next t ∧ won t { gen := min (2 ^ 32 - 1) ((u.backing n).gen + (u.marksOf n + 1)) } ∧
        t.ks.zeroizes = min (u.ks.zeroizes + 1) (2 ^ 32 - 1) ∧ t.nv.fence = u.nv.fence)) ∧
    (op 6 → (u.role c ≠ roleF → exec (.zeroizeAll dt c) s = no u abRole) ∧
      (u.role c = roleF → ∃ t, exec (.zeroizeAll dt c) s = .next t ∧ (t.ctx c).keyOutcome = 0 ∧
        ∀ m, m < 64 → t.slot m = { gen := min (2 ^ 32 - 1) ((u.backing m).gen + (u.marksOf m + 1)) })) ∧
    (∀ m, m < 64 → Accepts u c 0x3702 1 (leBytes 1 m) → ∃ t, exec (.slotSelect dt c m) s = .next t ∧ (∀ i, t.slot i = u.slot i) ∧
      let x := t.ctx c
      let sub := fun i => kvGet 0 x.slotVals (key 0x3710 i)
      x.slotMs = u.ms % 2 ^ 32 ∧ sub 1 = (u.slot m).ty ∧ sub 2 = (u.slot m).usage ∧ sub 3 = b2n (u.slot m).pers ∧ sub 4 = (u.slot m).gen ∧ sub 5 = (u.slot m).origin ∧
      sub 6 = u.jobsOn m ∧ sub 7 = kvGet 0 u.ks.uses m ∧ sub 8 = leNat (u.slot m).check ∧ sub 9 = leNat (padTo 97 (u.slot m).public)) ∧
    (∀ r : Bytes, Accepts u c 0x3731 1 r → u.fenced = false →
      let e := (r.getD 0 0).toNat
      let j := (r.getD 109 0).toNat
      let entry := slice 1 108 r
      let k := u.anchor j
      let signed : Bool := verifyWith (algType (anchorAlg k)) (anchorPub k) (ascii "KV-ANCHR" ++ serialBytes ++ [r.getD 0 0] ++ entry) false
        (slice 110 (algSig (anchorAlg k)) r) == some true
      let good := e < 8 ∧ j < 8 ∧ anchorMask entry < 32 ∧ bit (anchorMask k) 4 = true ∧ 1 ≤ anchorAlg k ∧ anchorAlg k ≤ 3 ∧ signed = true
      (u.serving 0x0A = false → exec (.anchorChange dt c r) s = finish s (u.aborted c 0x3731 1 abUnavail)) ∧
      (u.serving 0x0A = true → ¬good → exec (.anchorChange dt c r) s = finish s (u.aborted c 0x3731 1 abAuthFail)) ∧
      (u.serving 0x0A = true → good → ∃ t, exec (.anchorChange dt c r) s = .next t ∧
        t.rr.objs = (u.setObj 0x3730 (e + 1) (leNat entry)).rr.objs ∧ t.rr.slots = u.rr.slots)) ∧
    (∀ b : Bytes, Accepts u c 0x3740 1 b → u.fenced = false →
      (u.trustLost = true ∨ u.serving 0x0A = false → exec (.summaryCertificate dt c b) s = finish s (u.aborted c 0x3740 1 abUnavail)) ∧
      (u.trustLost = false → u.serving 0x0A = true → u.summaryCertOk b = false → exec (.summaryCertificate dt c b) s = finish s (u.aborted c 0x3740 1 abRange)) ∧
      (u.trustLost = false → u.serving 0x0A = true → u.summaryCertOk b = true → ∃ t, exec (.summaryCertificate dt c b) s = .next t ∧
        t.rr.objs = (u.setObj 0x3740 1 (leNat b)).rr.objs ∧ t.rr.slots = u.rr.slots ∧
        let n := u.obj 0x3740 2
        (leNat b ≠ 0 → n ≤ certLength b → t.rr.tag.cert = b.take n) ∧ (leNat b ≠ 0 → certLength b < n → t.rr.tag.cert = u.rr.tag.cert)))

/-- A submission names its mode or operation by the object written before. While another client holds the interface, and has used it within 30 s, or
while a job waits or runs or the engine is STOPPED, it is BUSY. A cipher job that fails validation ends in ERROR with the first violation; else it
waits. It starts on a free core with the key and generation its slot holds then, or ends with KEY_EMPTY or KEY_USAGE. It ends DONE or in ERROR, with
what the mode computes; an engine fault gives no output. The public-key engine validates at the start; VERIFY gives OK, SIGNATURE_INVALID or
INVALID_POINT, HASH its digest at the LAST part, SIGN a signature unless a fault was found, ECDH a key in its target. Reading the output after the
end frees the interface. A passing block of the generator is released, conditioned, to its channels; a failing one is discarded and reported, stops
the standard channels and restarts the sources, the fourth failure within 10 s stopping them all. RANDOM_BYTES delivers 32 bytes of channel 0, or
BUSY where it holds fewer. (R297, R305, R306, R307, R309, R310, R314, R319, R320, R321, R325, R328) -/
def Obligations.JobsRunOnTheirEngines : Prop :=
  ∀ (s : State) (dt : Nat) (c : Client), let u := s.turn dt
    let held := fun (h : Option Client) (last : Nat) => ∃ d, h = some d ∧ d ≠ c ∧ u.now < last + 30000000000
    let cmd : Nat → Instr := fun m => if m = 1 then .ecb dt c else if m = 2 then .cbc dt c else if m = 3 then .ctr dt c else if m = 4 then .gcm dt c
      else if m = 5 then .ccm dt c else .cmac dt c
    let pkc : Nat → Instr := fun m => if m = 1 then .sign dt c else if m = 2 then .verify dt c else if m = 3 then .ecdh dt c else .hash dt c
    (∀ m, 1 ≤ m → m ≤ 6 → u.obj 0x3410 1 ≠ m → exec (cmd m) s = finish s u) ∧
    (∀ m, 1 ≤ m → m ≤ 6 → u.obj 0x3410 1 = m → Accepts u c 0x3412 1 [1] → let j := u.cipherJob c
      let busy := held u.cipher.holder u.cipher.last ∨ u.ownState 0x09 = stStopped ∨ u.cipher.st = 1 ∨ u.cipher.st = 2
      (busy → exec (cmd m) s = finish s (u.aborted c 0x3412 1 abBusy)) ∧
      (¬busy → j.check ≠ resOk → ∃ t, exec (cmd m) s = .next t ∧ t.cipher.st = 4 ∧ t.cipher.result = j.check ∧ t.cipher.out = [] ∧ t.cipher.holder = some c ∧
        t.cipher.cores = u.cipher.cores) ∧
      (¬busy → j.check = resOk → ∃ t, exec (cmd m) s = .next t ∧ t.cipher.ring = some j ∧ j.mode = m ∧ t.cipher.st = 1 ∧ t.cipher.result = 0 ∧ t.cipher.holder = some c ∧
        t.cipher.cores = u.cipher.cores)) ∧
    ((u.cipher.ring = none ∨ u.freeCore = none ∨ u.serving 0x09 = false) → exec (.jobStart dt false) s = finish s u) ∧
    (∀ j n, u.cipher.ring = some j → u.freeCore = some n → u.serving 0x09 = true → let k := u.slot j.slot
      let usable := k.ty < 0x10 ∧ bit k.usage j.usageBit = true ∧ roleIn j.role (slotWriters j.slot) = true
      (k.ty = 0 ∨ ¬usable → ∃ t, exec (.jobStart dt false) s = .next t ∧ t.cipher.ring = none ∧ t.cipher.st = 4 ∧
        t.cipher.result = (if k.ty = 0 then resEmpty else resUsage) ∧ t.cipher.cores = u.cipher.cores) ∧
      (k.ty ≠ 0 → usable → ∃ t, exec (.jobStart dt false) s = .next t ∧ t.cipher.ring = none ∧ t.cipher.st = 2 ∧ t.cipher.gen = k.gen ∧
        t.cipher.cores = setAt u.cipher.cores n (some { job := j, key := k.key, gen := k.gen, start := u.now }))) ∧
    (∀ n fault, nth none u.cipher.cores n = none → exec (.jobDone dt n fault) s = finish s u) ∧
    (∀ n x, nth none u.cipher.cores n = some x → let r := x.job.compute x.key
      (u.now < x.start + x.duration → exec (.jobDone dt n false) s = finish s u) ∧
      (x.start + x.duration ≤ u.now → ∃ t, exec (.jobDone dt n false) s = .next t ∧ t.cipher.cores = setAt u.cipher.cores n none ∧ t.cipher.result = r.1 ∧
        t.cipher.st = (if r.1 = resOk then 3 else 4) ∧ t.cipher.out = r.2.1 ∧ t.cipher.tagOut = padTo 16 r.2.2.1 ∧ t.cipher.flags = r.2.2.2 ∧
        t.cipher.completed = min (u.cipher.completed + 1) (2 ^ 32 - 1)) ∧
      (∃ t, exec (.jobDone dt n true) s = .next t ∧ t.cipher.cores = setAt u.cipher.cores n none ∧ t.cipher.st = 4 ∧ t.cipher.result = resFault ∧ t.cipher.out = [])) ∧
    (∀ m, 1 ≤ m → m ≤ 4 → u.obj 0x3510 1 ≠ m → exec (pkc m) s = finish s u) ∧
    (∀ m, 1 ≤ m → m ≤ 4 → u.obj 0x3510 1 = m → Accepts u c 0x3512 1 [1] →
      let busy := held u.pk.holder u.pk.last ∨ u.ownState 0x0A = stStopped ∨ u.pk.st = 1 ∨ u.pk.st = 2
      (busy → exec (pkc m) s = finish s (u.aborted c 0x3512 1 abBusy)) ∧
      (¬busy → ∃ t, exec (pkc m) s = .next t ∧ t.pk.ring = some (u.pkJob c) ∧ (u.pkJob c).op = m ∧ t.pk.st = 1 ∧ t.pk.result = 0 ∧ t.pk.holder = some c)) ∧
    ((u.pk.ring = none ∨ u.serving 0x0A = false ∨ u.pk.run.isSome = true) → exec (.jobStart dt true) s = finish s u) ∧
    (∀ j, u.pk.ring = some j → u.serving 0x0A = true → u.pk.run = none → let code := u.pkStartCheck j
      (code ≠ 0 → ∃ t, exec (.jobStart dt true) s = .next t ∧ t.pk.ring = none ∧ t.pk.run = none ∧ t.pk.st = 4 ∧ t.pk.result = code) ∧
      (code = 0 → ∃ t r, exec (.jobStart dt true) s = .next t ∧ t.pk.ring = none ∧ t.pk.run = some r ∧ t.pk.st = 2 ∧ r.job = j ∧
        (j.op = 1 ∨ j.op = 3 → r.key = (u.slot j.slot).key ∧ r.gen = (u.slot j.slot).gen ∧ r.ty = (u.slot j.slot).ty) ∧ (j.op ≠ 1 → j.op ≠ 3 → r.ty = j.alg))) ∧
    (u.pk.run = none → ∀ fault, exec (.pkJobDone dt fault) s = finish s u) ∧
    (∀ r, u.pk.run = some r → let j := r.job
      let ended := fun (t : State) (code : Nat) => t.pk.run = none ∧ t.pk.result = code ∧ t.pk.st = (if code = 0 then 3 else 4)
      let ok := verifyWith r.ty (j.peer.take (pubLen r.ty)) j.msg j.digest (j.sig.take (sigLen r.ty))
      (j.op = 2 → ∃ t, exec (.pkJobDone dt false) s = .next t ∧ ended t (if ok = none then resPoint else if ok = some true then resOk else resSignature)) ∧
      (j.op = 4 → let m := (if bit j.flags 1 then [] else u.pk.hash.getD []) ++ j.msg
        ∃ t, exec (.pkJobDone dt false) s = .next t ∧ ended t resOk ∧ (bit j.flags 0 = false → t.pk.hash = some m) ∧
          (bit j.flags 0 = true → t.pk.hash = none ∧ t.pk.digest = padTo 64 (if j.hash = 1 then sha256 m else if j.hash = 2 then sha384 m else sha512 m))) ∧
      (j.op = 3 → u.fenced = true → exec (.pkJobDone dt false) s = finish s u) ∧
      (j.op = 3 → u.fenced = false → u.marksOf j.target = 0 → u.retired j.target = false → let z := sharedKey r.ty r.key j.peer
        (z = none → ∃ t, exec (.pkJobDone dt false) s = .next t ∧ ended t resPoint ∧ ∀ i, t.slot i = u.slot i) ∧
        (∀ k, z = some k → ∃ t, exec (.pkJobDone dt false) s = .next t ∧ ended t resOk ∧ (t.slot j.target).key = k ∧ (t.slot j.target).ty = 3 ∧
          (t.slot j.target).origin = 4 ∧ (t.slot j.target).gen = (u.slot j.target).gen + 1 ∧ ∀ i, i ≠ j.target → t.slot i = u.slot i)) ∧
      (j.op = 1 → ∀ v x, u.nonceExtra r.ty = some (v, x) →
        (∃ t, exec (.pkJobDone dt false) s = .next t ∧ ended t resOk ∧ t.pk.sigOut = padTo 96 (signWith r.ty r.key j.msg j.digest x)) ∧
        (∃ t, exec (.pkJobDone dt true) s = .next t ∧ ended t resFault ∧ t.pk.sigOut = List.replicate 96 0 ∧ t.pk.faults = min (u.pk.faults + 1) (2 ^ 32 - 1))) ∧
      (j.op = 1 → u.nonceExtra r.ty = none → ∀ fault, exec (.pkJobDone dt fault) s = finish s u)) ∧
    (AcceptsRead u c 0x3412 5 → ∃ t q, exec (.outputRead dt c) s = .next t ∧ (t.ctx c).reply = some q ∧ q.abort = 0 ∧ q.data = u.presentBytes c 0x3412 5 ∧
      t.cipher.out = u.cipher.out ∧ t.cipher.holder = if u.cipher.holder = some c ∧ (u.cipher.st = 3 ∨ u.cipher.st = 4) then none else u.cipher.holder) ∧
    (let late := fun (h : Option Client) (last : Nat) => h.isSome = true ∧ last + 30000000000 ≤ u.now
     (late u.cipher.holder u.cipher.last → exec (.hostJobTimeout dt false) s = finish s { u with cipher := { u.cipher with holder := none } }) ∧
     (¬late u.cipher.holder u.cipher.last → exec (.hostJobTimeout dt false) s = finish s u) ∧
     (late u.pk.holder u.pk.last → exec (.hostJobTimeout dt true) s = finish s { u with pk := { u.pk with holder := none } }) ∧
     (¬late u.pk.holder u.pk.last → exec (.hostJobTimeout dt true) s = finish s u)) ∧
    (∀ b : RawBlock, let w := u.rngTest b
      let g := u.rng
      let recent := (g.failTimes.filter (fun t => decide (u.now < t + 10000000000))).length + 1
      (g.fatal = true ∨ u.rngRuns = false → g.waits = [] → exec (.blockRelease dt b) s = finish s u) ∧
      (g.fatal = false → u.rngRuns = true → g.waits = [] →
        (u.rngInjecting = true → ∃ t, exec (.blockRelease dt b) s = .next t ∧ t.rng.bufs = g.bufs ∧ t.rng.released = g.released ∧ t.rng.st = 5 ∧
          t.rng.testFails = min (g.testFails + w.fails) (2 ^ 32 - 1) ∧ t.rng.testOut = sha256 (interleave (u.rngBits b))) ∧
        (u.rngInjecting = false → w.code = 0 → g.startBlock = true → ∃ t, exec (.blockRelease dt b) s = .next t ∧ t.rng.bufs = g.bufs ∧ t.rng.startBlock = false ∧
          t.rng.released = g.released ∧ t.rng.discarded = min (g.discarded + 1) (2 ^ 32 - 1)) ∧
        (u.rngInjecting = false → w.code = 0 → g.startBlock = false → ∃ t, exec (.blockRelease dt b) s = .next t ∧ t.rng.released = min (g.released + 1) (2 ^ 32 - 1) ∧
          t.rng.failures = g.failures ∧ t.rng.st = (if g.standardStopped then 3 else 1) ∧ t.rng.turn = (g.turn + 1) % 6 ∧
          (g.bufs.length = 8 → 32 ≤ u.rngRoom 7 → t.rngBuf 7 = u.rngBuf 7 ++ sha256 (interleave (u.rngBits b)) ∧ ∀ ch, ch ≠ 7 → t.rngBuf ch = u.rngBuf ch)) ∧
        (u.rngInjecting = false → w.code ≠ 0 → ∃ t, exec (.blockRelease dt b) s = .next t ∧ t.rng.failures = min (g.failures + 1) (2 ^ 32 - 1) ∧ t.rng.lastTest = w.code ∧
          t.rng.lastSrc = w.src ∧ t.rng.released = g.released ∧ (g.standardStopped = false → t.rng.standardStopped = true) ∧ t.rng.fatal = decide (4 ≤ recent) ∧
          (recent < 4 → t.rng.startBlock = true ∧ t.rng.restartAt = u.now ∧ t.rngBuf 6 = u.rngBuf 6 ∧ t.rngBuf 7 = u.rngBuf 7)))) ∧
    (let g := u.rng
     let due := g.restarting = true ∧ g.startBlock = false ∧ (g.st = 1 ∨ g.st = 3)
     (due → exec (.rngRestarted dt) s = finish s (({ u with rng := { g with restarting := false } } : State).emit 0x0B 0x3602 (min ((u.now - g.restartAt) / 1000) 65535))) ∧
     (¬due → exec (.rngRestarted dt) s = finish s u)) ∧
    (AcceptsRead u c 0x3620 1 → let stopped := u.rngStopped 0
      (stopped = true → exec (.randomBytes dt c) s = finish s (u.aborted c 0x3620 1 abUnavail)) ∧
      (stopped = false → u.rngInjecting = true ∨ (u.rngBuf 0).length < 32 → exec (.randomBytes dt c) s = finish s (u.aborted c 0x3620 1 abBusy)) ∧
      (stopped = false → u.rngInjecting = false → 32 ≤ (u.rngBuf 0).length → ∃ t q, exec (.randomBytes dt c) s = .next t ∧ (t.ctx c).reply = some q ∧ q.abort = 0 ∧
        q.data = (u.rngBuf 0).take 32 ∧ t.rng.bufs = setAt u.rng.bufs 0 ((u.rngBuf 0).drop 32))) ∧
    (∀ p, p < 256 → Accepts u c 0x3630 1 (leBytes 1 p) → ∃ t, exec (.testPattern dt c p) s = .next t ∧ t.rng.bufs = u.rng.bufs ∧ t.rng.released = u.rng.released ∧
      t.objs = (u.setObj 0x3630 1 p).objs ∧ (p = 0 → u.rngInjecting = true → t.rng.startBlock = true ∧ t.rng.restartAt = u.now))

/-- While the control domain runs: a program operation that ends takes effect, moves its page to a spare after three failed verifies, and lets the next
start: deferred ones first, then field writes, counters, others; none while the fence is up. The fence rises when a rail falls below its warning
level and lifts after 2 ms at the earliest; the pending counts are then stored. An increment is refused past the end, is stored at once with no
fence, and else joins the pending count, NV_FENCED past 65,535. A NAND operation that succeeds programs its page or empties its block; one that
fails retires the block and keeps the records. A timeout is retried once, then the medium is out of service and tried again every 10 s. FORMAT
erases every good block. A flush is due after its interval, a checkpoint at its count or interval, and it covers the records since the one before.
The journal store starts in the state its medium gives, with a GAP. An export has a length of 8 to 1,048,576 bytes in steps of 8, and a start that
exists; only one is open. A compaction that conservative mode held back keeps every record. (R339, R341, R342, R343, R350, R351, R357, R360, R364,
R366, R368, R370) -/
def Obligations.StoresKeepTheirRecords : Prop :=
  ∀ (s : State) (dt : Nat) (c : Client), let u := s.turn dt
    let j := u.jr
    let level := fun (r : Nat) => if r = 0 then 740 else if r = 1 then 3000 else 1680
    let value := fun (t : State) (n : Nat) => (kvGet {} t.rr.ctrs n).value
    u.powered = true →
    (u.nv.run = none → ∀ f, exec (.programComplete dt f) s = finish s u) ∧
    (∀ o f, u.nv.run = some o → ∃ t, exec (.programComplete dt f) s = .next t ∧ t.nv.failures = min (u.nv.failures + f) (2 ^ 32 - 1) ∧
      (f < 3 → t.rr.remapped = u.rr.remapped) ∧ (3 ≤ f → u.rr.sparesUsed < 20480 → t.rr.remapped = u.rr.remapped ++ [o.page] ∧ t.rr.sparesUsed = u.rr.sparesUsed + 1) ∧
      (∀ n k, o.fx = .counter n k → n ≠ 4 → value u n + k ≤ 2 ^ 48 - 1 → value t n = value u n + k) ∧
      (u.fenced = true → t.nv.run = none ∧ t.nv.deferred = u.nv.deferred ∧ t.nv.wait = u.nv.wait) ∧
      (u.fenced = false → u.tagd.job = none → t.nv.run =
        (u.nv.deferred.head? <|> u.nv.wait.find? (fun x => x.cls == 0) <|> u.nv.wait.find? (fun x => x.cls == 1) <|> u.nv.wait.head?))) ∧
    (∀ rail mv, (2 < rail ∨ level rail ≤ mv → exec (.fenceUp dt rail mv) s = finish s u) ∧
      (rail ≤ 2 → mv < level rail → ∃ t f, exec (.fenceUp dt rail mv) s = .next t ∧ t.nv.fence = some f ∧ t.nv.run = u.nv.run ∧ t.nv.wait = u.nv.wait ∧
        (u.nv.fence = none → f = { since := u.now, first := rail, mask := 2 ^ rail, low := mv } ∧ t.nv.fences = min (u.nv.fences + 1) (2 ^ 32 - 1)) ∧
        (∀ g, u.nv.fence = some g → f.since = g.since ∧ f.first = g.first ∧ f.mask = g.mask ||| 2 ^ rail ∧ f.deferred = g.deferred ∧
          f.low = (if rail = g.first then min g.low mv else g.low) ∧ t.nv.fences = u.nv.fences))) ∧
    (u.nv.fence = none → exec (.fenceReleased dt) s = finish s u) ∧
    (∀ f, u.nv.fence = some f → (u.now < f.since + 2000000 → exec (.fenceReleased dt) s = finish s u) ∧
      (f.since + 2000000 ≤ u.now → ∃ t, exec (.fenceReleased dt) s = .next t ∧ t.nv.fence = none ∧ t.nv.pend = [] ∧ t.nv.lifted = u.now ∧
        t.sup.dips = min (u.sup.dips + 1) (2 ^ 32 - 1) ∧
        (∀ n, n < 64 → n ≠ 4 → value u n + kvGet 0 u.nv.pend n ≤ 2 ^ 48 - 1 → value t n = value u n + kvGet 0 u.nv.pend n) ∧
        (u.nv.run = none → u.tagd.job = none → ∀ o r, u.nv.deferred = o :: r → t.nv.run = some o ∧ t.nv.deferred = r))) ∧
    (∀ n k, 32 ≤ n → n < 64 → k < 65536 → Accepts u c 0x3811 (n + 1) (leBytes 2 k) →
      (u.counterTakes n k = false → ∃ t, exec (.increment dt c n k) s = .next t ∧ value t n = value u n ∧ (kvGet {} t.rr.ctrs n).exhausted = true ∧ t.nv.pend = u.nv.pend ∧
        ∃ q, (t.ctx c).reply = some q ∧ q.abort = abRange) ∧
      (u.counterTakes n k = true → u.fenced = false → ∃ t q, exec (.increment dt c n k) s = .next t ∧ (n ≠ 4 → value t n = value u n + k) ∧
        (∀ m, m ≠ n → m ≠ 4 → value t m = value u m) ∧ (t.ctx c).reply = some q ∧ q.abort = 0) ∧
      (u.counterTakes n k = true → u.fenced = true → let p := kvGet 0 u.nv.pend n + k
        (65535 < p → exec (.increment dt c n k) s = finish s (u.aborted c 0x3811 (n + 1) abFenced)) ∧
        (p ≤ 65535 → ∃ t, exec (.increment dt c n k) s = .next t ∧ kvGet 0 t.nv.pend n = p ∧ (∀ m, value t m = value u m) ∧ t.ctx c = u.ctx c ∧
          t.dict.commits = u.dict.commits ++ [{ c := c, key := key 0x3811 (n + 1), data := leBytes 2 k, at_ := u.now, work := 0 }]))) ∧
    (∀ st : Byte, (j.op = none ∨ bit st.toNat 0 = true → exec (.nandOperationDone dt st) s = finish s u) ∧
      (∀ o, j.op = some o → bit st.toNat 0 = false → j.st ≠ 2 → let l := u.nandLin o.row
        let bad := (o.kind = .erase ∧ bit st.toNat 2 = true) ∨ (o.kind = .program ∧ bit st.toNat 3 = true)
        (bad → ∃ t, exec (.nandOperationDone dt st) s = .next t ∧ t.jr.op = none ∧ t.jr.pageRecs = j.pageRecs ∧ t.medium = u.medium ∧
          (u.rr.badBlocks.length < 1024 → t.rr.badBlocks = u.rr.badBlocks ++ [u.badEntry l] ∧ t.jr.st = j.st) ∧
          (1024 ≤ u.rr.badBlocks.length → t.rr.badBlocks = u.rr.badBlocks ∧ t.jr.st = 4 ∧ t.jr.retryAt = none)) ∧
        (¬bad → o.kind = .erase → ∃ t, exec (.nandOperationDone dt st) s = .next t ∧ t.jr.op = none ∧ t.jr.erased = true ∧ t.jr.tail = j.tail ∧
          t.medium.pages = u.medium.pages.filter (fun e => u.nandLin e.1 != l)) ∧
        (¬bad → o.kind = .program → ∃ t, exec (.nandOperationDone dt st) s = .next t ∧ t.jr.op = none ∧ t.jr.pageRecs = [] ∧ t.jr.tail = j.tail ∧
          t.medium.pages = kvPut u.medium.pages o.row { seq := j.pageSeq - 1, sealed := u.pageSeal, recs := j.pageRecs } ∧
          t.jr.head = if o.row % 64 = 63 then u.nandLoc (u.nextBlock l) 0 else o.row + 1))) ∧
    (∀ o, j.op = some o → let limit := match o.kind with
        | .program => 1000000
        | .erase => 10000000
      (u.now < o.start + limit → exec (.nandTimeout dt) s = finish s u) ∧
      (o.start + limit ≤ u.now → o.retry = false → exec (.nandTimeout dt) s =
        finish s { u with jr := { j with op := some { o with retry := true, start := u.now } } }) ∧
      (o.start + limit ≤ u.now → o.retry = true → ∃ t, exec (.nandTimeout dt) s = .next t ∧ t.jr.st = 4 ∧ t.jr.op = none ∧ t.jr.retryAt = some (u.now + 10000000000))) ∧
    (∀ id : Bytes, (j.retryAt = none ∨ j.st ≠ 4 ∨ (∃ t, j.retryAt = some t ∧ u.now < t) → exec (.mediumRetry dt id) s = finish s u) ∧
      (∀ t, j.retryAt = some t → j.st = 4 → t ≤ u.now →
        (u.idOk id = false → ∃ v, exec (.mediumRetry dt id) s = .next v ∧ v.jr.st = 4 ∧ v.jr.retryAt = some (u.now + 10000000000)) ∧
        (u.idOk id = true → ∃ v, exec (.mediumRetry dt id) s = .next v ∧ v.jr.st = (if u.medium.formatted then 3 else 1) ∧ v.jr.retryAt = none ∧ v.jr.nandId = id.take 2))) ∧
    (let due := j.ready = true ∧ j.tail ≠ [] ∧ j.pageAt + u.conf 0x3A03 0x3A03 1 * 1000000000 ≤ u.now
     (due → exec (.flushInterval dt) s = finish s { u with jr := { j with flushing := true } }) ∧ (¬due → exec (.flushInterval dt) s = finish s u)) ∧
    (let due := j.uncovered.isSome = true ∧ (u.conf 0x3A03 0x3A03 2 ≤ j.uncoveredN ∨ j.uncoveredAt + u.conf 0x3A03 0x3A03 3 * 1000000000 ≤ u.now)
     (¬due ∨ u.mayCheckpoint = false → exec (.checkpoint dt) s = finish s u) ∧
     (∀ first, due → u.mayCheckpoint = true → j.dropRun = 0 → (u.slot 49).ty = 0x10 → u.nonceExtra 0x10 ≠ none → j.uncovered = some first →
       ∃ t r sig, exec (.checkpoint dt) s = .next t ∧ r ∈ t.jr.tail ∧ r.raw.ty = 1 ∧ r.num = j.next ∧ r.chain = chainOver j.last ∧ t.jr.lastChk = j.next ∧
         r.raw.body = leBytes 8 first ++ leBytes 4 j.uncoveredN ++ leBytes 4 (u.slot 49).gen ++ leBytes 8 0 ++ padTo 64 sig)) ∧
    (Accepts u c 0x3A01 5 [1] → u.fenced = false → ∀ bad : List Nat,
      (j.st = 2 ∨ j.op.isSome = true → exec (.format dt c bad) s = finish s (u.aborted c 0x3A01 5 abBusy)) ∧
      (j.st ≠ 2 → j.op = none → j.ready = false ∨ j.st = 0 ∨ j.st = 4 → exec (.format dt c bad) s = finish s (u.aborted c 0x3A01 5 abUnavail)) ∧
      (j.st ≠ 2 → j.op = none → j.ready = true → j.st ≠ 0 → j.st ≠ 4 → 0 < u.nandTotal → ∃ t o, exec (.format dt c bad) s = .next t ∧ t.jr.st = 2 ∧ t.jr.op = some o ∧
        o.kind = .erase ∧ t.rr.badBlocks = bad.take 1024 ∧ (bad = [] → o.row = u.nandLoc 0 0) ∧ t.medium = u.medium)) ∧
    (∀ o : JournalObs, (j.ready = true ∨ u.serving 0x0E = false → exec (.journalReady dt o) s = finish s u) ∧
      (j.ready = false → u.serving 0x0E = true → ∃ t, exec (.journalReady dt o) s = .next t ∧ t.jr.ready = true ∧ t.jr.pageSeq = u.counter 3 * 65536 ∧
        t.jr.st = (if !o.present || !u.idOk o.id then 4 else if !u.medium.formatted then 1 else 3) ∧
        (o.present = true → u.idOk o.id = true → u.medium.formatted = true → ∃ g ∈ t.jr.tail, g.num = u.counter 4 * 65536 ∧ g.raw.ty = 2 ∧ g.raw.body.getD 12 0 = 1))) ∧
    (Accepts u c 0x3A20 3 [1] → u.exportWaits = false →
      let first := u.cval c 0x3A20 1
      let len := u.cval c 0x3A20 2
      (len % 8 ≠ 0 ∨ len < 8 ∨ 1048576 < len ∨ j.next ≤ first → exec (.requestExport dt c) s = finish s (u.aborted c 0x3A20 3 abRange)) ∧
      (len % 8 = 0 → 8 ≤ len → len ≤ 1048576 → first < j.next → (u.dict.stream ≠ none → exec (.requestExport dt c) s = finish s (u.aborted c 0x3A20 3 abBusy)) ∧
        (u.dict.stream = none → ∃ t x l, exec (.requestExport dt c) s = .next t ∧ t.dict.stream = some x ∧ x.c = c ∧ x.data = streamBytes len l ∧ (t.ctx c).expLen = len ∧
          (∀ r ∈ l, r.num = 0 ∨ (first ≤ r.num ∧ r.num ≤ (t.ctx c).expLast)) ∧ (first = 0 → (t.ctx c).expState = 1)))) ∧
    (let due := u.nv.compactDue = true ∧ u.fenced = false ∧ u.nv.lifted + 10000000000 ≤ u.now
     (¬due → exec (.conservativeCompactionDue dt) s = finish s u) ∧
     (due → ∃ t, exec (.conservativeCompactionDue dt) s = .next t ∧ t.nv.compactDue = false ∧ t.rr.objs = u.rr.objs ∧ t.rr.slots = u.rr.slots ∧ t.rr.ctrs = u.rr.ctrs ∧
       (∀ a, (t.rr.area a).recs = (u.rr.area a).recs ∧ (t.rr.area a).seq = (u.rr.area a).seq) ∧
       ∀ a, a < 4 → let x := u.rr.area a
         (t.rr.area a).b0 = if x.b0.free (areaSize a) < areaSize a / 8 then x.b0.compact (areaSize a) x.live x.recs.length else x.b0))

/-- A tick that brings a running timer to its compare value is one match: MATCH is set and counted; FREE runs on, PERIODIC takes 0 at the next tick,
ONE_SHOT stops at the value. A timer linked to it captures, resets, stops or starts, as named, in the next clock. A count past 2^32 - 1 sets OVF and
is counted, and the count goes on from 0. A write of the compare register gives no match unless it equals the count, one where it does, and two
where a tick brings the count to it in that clock; no other timer changes but by a link. START, STOP, RESET and RESTART act on their timer in one
clock, as do the group objects on each of T0 to T4 in the mask; a mask with bit 5, 6 or 7 changes no timer. A capture takes the count and sets NEW,
over an unread value OVERRUN; one in the clock of a read's latch is pending, and a later one over it sets OVERRUN. A clear takes the flags it names
away and leaves the rest. (R378, R379, R380, R381, R382, R383, R384, R385, R409) -/
def Obligations.TimersMatchCaptureAndObey : Prop :=
  ∀ (s : State) (dt n : Nat) (c : Client), let u := s.turn dt
    let k := u.timer n
    let ix := 0x4510 + n
    let p := u.obj ix 2
    let z := u.pclk
    let alone := ∀ j, j < 8 → (u.timer j).master ≠ n
    let others := fun (t : State) => ∀ j, j ≠ n → t.timer j = u.timer j
    n < 8 → u.powered = true →
    (let hit := k.running = true ∧ k.from_ ≤ z ∧ k.count z = k.cmp ∧ k.matchedAt ≠ some (k.tickAt z)
     (¬hit → exec (.timerMatch dt n) s = finish s u) ∧
     (hit → ∃ t, exec (.timerMatch dt n) s = .next t ∧ (t.timer n).mtch = true ∧ (t.timer n).matches_ = min (k.matches_ + 1) (2 ^ 32 - 1) ∧
       (alone → others t ∧ (t.timer n).count z = k.cmp ∧
         (u.obj ix 1 % 4 = 1 → (t.timer n).running = true ∧ (t.timer n).count (k.tickAt z + 2 ^ k.p) = 0) ∧
         (u.obj ix 1 % 4 = 2 → (t.timer n).running = false) ∧
         (u.obj ix 1 % 4 = 0 → (t.timer n).running = true ∧ (t.timer n).base = k.base ∧ (t.timer n).from_ = k.from_)) ∧
       (∀ j, j < 8 → j ≠ n → (u.timer j).master = n → let l := u.timer j
         let m := t.timer j
         (bit l.actions 0 = true → m.running = true) ∧ (bit l.actions 0 = false → bit l.actions 1 = true → m.running = false) ∧
         (bit l.actions 2 = true → m.count (z + 1) = 0) ∧ (bit l.actions 3 = true → m.new = true ∧ m.capture = l.count (z + 1)) ∧ m.matches_ = l.matches_))) ∧
    (let hit := k.running = true ∧ 2 ^ 32 ≤ k.raw z
     (¬hit → exec (.timerOverflow dt n) s = finish s u) ∧
     (hit → ∃ t, exec (.timerOverflow dt n) s = .next t ∧ (t.timer n).ovf = true ∧ (t.timer n).ovfs = min (k.ovfs + 1) (2 ^ 32 - 1) ∧ (t.timer n).running = true ∧
       (t.timer n).count z = k.count z ∧ (t.timer n).matches_ = k.matches_ ∧ others t)) ∧
    (∀ v (tick : Bool), v < 2 ^ 32 → Accepts u c ix 4 (leBytes 4 v) → ∃ t, exec (.compare dt c n v tick) s = .next t ∧ (t.timer n).cmp = v ∧
      (k.count z ≠ v → others t ∧ (t.timer n).matches_ = k.matches_ ∧ (t.timer n).mtch = k.mtch ∧ (t.timer n).running = k.running ∧ (t.timer n).count z = k.count z) ∧
      (k.count z = v → (t.timer n).mtch = true ∧
        (t.timer n).matches_ = min (k.matches_ + if tick = true ∧ k.running = true then 2 else 1) (2 ^ 32 - 1) ∧ (alone → others t ∧ (t.timer n).count z = v))) ∧
    (Accepts u c ix 0xB [1] → ∃ t, exec (.timerStart dt c n) s = .next t ∧ others t ∧
      t.timer n = { k with base := k.count z, from_ := z, p := p, running := true, matchedAt := some z }) ∧
    (Accepts u c ix 0xB [2] → ∃ t, exec (.timerStop dt c n) s = .next t ∧ others t ∧ t.timer n = { k with base := k.count z, from_ := z, running := false }) ∧
    (Accepts u c ix 0xB [3] → ∃ t, exec (.timerReset dt c n) s = .next t ∧ others t ∧ t.timer n = { k with base := 0, from_ := z, p := p, matchedAt := some z }) ∧
    (Accepts u c ix 0xB [4] → ∃ t, exec (.timerRestart dt c n) s = .next t ∧ others t ∧
      t.timer n = { k with base := 0, from_ := z, p := p, cmp := u.obj ix 0xE, running := true, matchedAt := some z }) ∧
    (∀ g m, 1 ≤ g → g ≤ 3 → m < 256 → Accepts u c 0x4501 g (leBytes 1 m) →
      let i : Instr := if g = 1 then .groupStart dt c m else if g = 2 then .groupStop dt c m else .groupReset dt c m
      (32 ≤ m → exec i s = finish s (u.aborted c 0x4501 g abRole)) ∧
      (m < 32 → ∃ t, exec i s = .next t ∧ (bit m n = false → t.timer n = k) ∧
        (n < 5 → bit m n = true → t.timer n = (if g = 1 then { k with base := k.count z, from_ := z, p := p, running := true, matchedAt := some z }
          else if g = 2 then { k with base := k.count z, from_ := z, running := false } else { k with base := 0, from_ := z, p := p, matchedAt := some z })))) ∧
    (let f := k.promote z
     let taken := fun (t : State) => (t.timer n).capture = k.count z ∧ (t.timer n).new = true ∧ (t.timer n).overrun = (k.overrun || f.new) ∧ (t.timer n).running = k.running ∧
       (t.timer n).count z = k.count z ∧ others t
     (∀ latch, (u.obj ix 6 = 0 ∨ 6 ≤ u.obj ix 6) → exec (.capture dt n latch) s = finish s u) ∧
     (1 ≤ u.obj ix 6 → u.obj ix 6 ≤ 5 → (∃ t, exec (.capture dt n false) s = .next t ∧ taken t) ∧
       (∃ t, exec (.capture dt n true) s = .next t ∧ (t.timer n).pend = some (k.count z, z) ∧ (t.timer n).capture = k.capture ∧ (t.timer n).new = k.new ∧
         (t.timer n).overrun = (k.overrun || k.pend.isSome) ∧ others t)) ∧
     (Accepts u c ix 0xF [1] → (u.obj ix 6 = 6 → ∃ t, exec (.captureTrigger dt c n) s = .next t ∧ taken t) ∧
       (u.obj ix 6 ≠ 6 → exec (.captureTrigger dt c n) s = finish s (u.done c ix 0xF))) ∧
     (∀ x y, k.pend = some (x, y) → y < z → f.capture = x ∧ f.new = true ∧ f.pend = none) ∧ (k.pend = none → f = k)) ∧
    (∀ m, m < 256 → Accepts u c ix 8 (leBytes 1 m) → ∃ t, exec (.timerClear dt c n m) s = .next t ∧ others t ∧
      t.timer n = { k with mtch := k.mtch && !bit m 0, ovf := k.ovf && !bit m 1, overrun := k.overrun && !bit m 2 })

/-- While the unit serves: a pulse counts; on the pulse source it adds 10 to the accumulator, whose whole coefficients go to the odometer unless that is
exhausted, and a new coefficient scales the accumulator first. The speed is that of the last second, at most 65,535. A request for a session goes
out when due, and not without a paired serial; its answer starts a session under a new key where serial and MAC are right, else a pairing fault or a
MAC failure is noted. Data requests are numbered from 1; the third unanswered one loses the link. An answer counts only with the right number and
MAC, and adds the sensor's difference. Parked pulses count while the control domain is down. A sentence that fails its form or checksum is rejected,
one that is not RMC or GGA ignored. A second mark is captured by T6 and its interval checked; 3 s without one, while a fix is valid, is
GNSS_IMPLAUSIBLE, said once. A scheduler test is due after 1 ms or a metre; an entry whose value has come fires once, counts the values passed over
and takes the next one. Tamper flags are cleared by the bits named. (R387, R392, R394, R395, R396, R397, R398, R399, R400, R402, R404, R405) -/
def Obligations.DistanceTimeAndSchedule : Prop :=
  ∀ (s : State) (dt : Nat) (c : Client), let u := s.turn dt
    let d := u.dist
    let g := u.gnss
    let mac := fun (key : Bytes) (ty : Nat) (b : Bytes) => (cmac key (ascii "KVMS" ++ [byte ty] ++ d.devNonce ++ b)).take 8
    let trust := u.trustLost = false ∧ u.serving 0x09 = true
    u.powered = true →
    (u.serving 0x33 = false → exec (.msPulse dt) s = finish s u ∧ exec (.speedUpdate dt) s = finish s u ∧ exec (.sessionReq dt) s = finish s u ∧
      exec (.dataReq dt) s = finish s u ∧ ∀ fr, exec (.sessionResp dt fr) s = finish s u ∧ exec (.dataResp dt fr) s = finish s u) ∧
    (u.serving 0x33 = true →
      (let k := u.obj 0x4411 1
       let a := if d.coeff = 0 ∨ d.coeff = k then u.aon.acc else u.aon.acc * k / d.coeff
       let stopped := (kvGet {} u.rr.ctrs 0).exhausted = true
       ∃ t, exec (.msPulse dt) s = .next t ∧ t.dist.pulses = (d.pulses + 1) % 2 ^ 32 ∧ t.dist.coeff = k ∧ t.dist.lastPulse = some u.now ∧ t.dist.speed = d.speed ∧
         (d.source ≠ 0 → t.aon.acc = a) ∧ (d.source = 0 → 0 < k → ¬stopped → a + 10 < k ∨ u.counterTakes 0 ((a + 10) / k) = true → t.aon.acc = (a + 10) % k) ∧ (d.source = 0 → stopped → t.aon.acc = a) ∧ (d.source = 0 → a + 10 < k → t.nv.wait = u.nv.wait ∧ t.nv.pend = u.nv.pend) ∧
         (d.source = 0 → k ≤ a + 10 → 0 < k → a + 10 < 2 * k → ¬stopped → u.counterTakes 0 1 = true → u.fenced = true → kvGet 0 t.nv.pend 0 = min (kvGet 0 u.nv.pend 0 + 1) 65535) ∧
         (d.source = 0 → k ≤ a + 10 → 0 < k → a + 10 < 2 * k → ¬stopped → u.counterTakes 0 1 = true → u.fenced = false → ∃ o, t.nv.wait = u.nv.wait ++ [o] ∧ o.fx = .counter 0 1 ∧ o.cls = 1)) ∧
      (let at_ := u.now / 100000000 * 100000000
       let n := (d.edges.filter (fun e => decide (at_ < e + 1000000000) && decide (e ≤ at_))).length
       ∃ t, exec (.speedUpdate dt) s = .next t ∧ t.dist.speed = min 65535 (divRound (n * 360000) u.coeff) ∧ t.dist.pulses = d.pulses ∧ t.aon.acc = u.aon.acc) ∧
      (let late := fun (x : Nat) => if d.link = 2 then 65535 ≤ d.reqNo else x + 5000000000 ≤ u.now
       let due := u.objBytes 8 0x4802 1 ≠ List.replicate 8 0 ∧ (∀ x, d.reqAt = some x → late x)
       (¬due → exec (.sessionReq dt) s = finish s u) ∧
       (due → ∃ t, exec (.sessionReq dt) s = .next t ∧ t.dist.session = d.session + 1 ∧ t.dist.key = none ∧ t.dist.opening = true ∧ t.dist.reqAt = some u.now ∧ t.dist.source = 0 ∧
         t.dist.sent = msFrame 1 t.dist.devNonce ∧ t.dist.devNonce.drop 4 = beBytes 4 ((d.session + 1) % 2 ^ 32) ∧ t.dist.link = (if d.link = 3 then 3 else 1))) ∧
      (∀ fr, let p := msPayload 0x81 24 fr
        (d.opening = false ∨ d.pairingFault = true ∨ ¬trust ∨ p = none → exec (.sessionResp dt fr) s = finish s u) ∧
        (∀ b, p = some b → d.opening = true → d.pairingFault = false → trust →
          let key := kdf (u.slot 2).key (ascii "KV-MSLINK") (b.take 8 ++ d.devNonce ++ slice 8 8 b) 128
          let right := mac key 0x81 (b.take 16) = b.drop 16 ∧ (u.slot 2).ty ≠ 0
          (b.take 8 ≠ u.objBytes 8 0x4802 1 → ∃ t, exec (.sessionResp dt fr) s = .next t ∧ t.dist.pairingFault = true ∧ t.dist.opening = false ∧ t.dist.key = none ∧
            bit t.rr.tamper 3 = true) ∧
          (b.take 8 = u.objBytes 8 0x4802 1 → ¬right → ∃ t, exec (.sessionResp dt fr) s = .next t ∧ t.dist.macFails = min (d.macFails + 1) (2 ^ 32 - 1) ∧
            (t.dist.link = 2 → d.link = 2)) ∧
          (b.take 8 = u.objBytes 8 0x4802 1 → right → ∃ t, exec (.sessionResp dt fr) s = .next t ∧ t.dist.key = some key ∧ t.dist.opening = false ∧ t.dist.link = 2 ∧
            t.dist.reqNo = 0 ∧ t.dist.unanswered = 0))) ∧
      (let n := d.unanswered + b2n d.await
       (d.link ≠ 2 ∨ u.now < d.dataAt + u.obj 0x4802 3 * 1000000 → exec (.dataReq dt) s = finish s u) ∧
       (d.link = 2 → d.dataAt + u.obj 0x4802 3 * 1000000 ≤ u.now →
         (3 ≤ n → ∃ t, exec (.dataReq dt) s = .next t ∧ t.dist.link = 3 ∧ t.dist.key = none ∧ t.dist.source = 0) ∧
         (n < 3 → d.reqNo < 65535 → ∃ t, exec (.dataReq dt) s = .next t ∧ t.dist.reqNo = d.reqNo + 1 ∧ t.dist.sent = msFrame 2 (beBytes 2 (d.reqNo + 1)) ∧
           t.dist.await = true ∧ t.dist.unanswered = n ∧ t.dist.latched = d.pulses ∧ t.dist.dataAt = u.now))) ∧
      (∀ fr, let p := msPayload 0x82 15 fr
        (d.await = false ∨ ¬trust ∨ p = none ∨ d.key = none → exec (.dataResp dt fr) s = finish s u) ∧
        (∀ b key, p = some b → d.key = some key → d.await = true → trust →
          (beNat (b.take 2) ≠ d.reqNo → exec (.dataResp dt fr) s = finish s u) ∧
          (beNat (b.take 2) = d.reqNo → mac key 0x82 (b.take 7) ≠ b.drop 7 → ∃ t, exec (.dataResp dt fr) s = .next t ∧ t.dist.macFails = min (d.macFails + 1) (2 ^ 32 - 1) ∧
            t.dist.prevCount = (if d.sessMacFails = 2 ∧ d.source ≠ 0 then none else d.prevCount)) ∧
          (beNat (b.take 2) = d.reqNo → mac key 0x82 (b.take 7) = b.drop 7 → ∃ t, exec (.dataResp dt fr) s = .next t ∧ t.dist.source = 1 ∧ t.dist.await = false ∧
            t.dist.unanswered = 0 ∧ t.dist.prevCount = some (beNat (slice 2 4 b)) ∧ t.dist.status = (b.getD 6 0).toNat ∧ t.dist.prevLatched = some d.latched ∧
            (d.prevCount = none → t.aon.acc = u.aon.acc) ∧
            (∀ x, d.prevCount = some x → let n := (beNat (slice 2 4 b) + 2 ^ 32 - x) % 2 ^ 32
              let a := u.newCoeff.aon.acc + 10 * n
              let k := u.obj 0x4411 1
              (n = 0 → t.aon.acc = u.aon.acc) ∧
              (n ≠ 0 → 0 < k → (kvGet {} u.rr.ctrs 0).exhausted = false → a < k ∨ u.counterTakes 0 (a / k) = true → t.aon.acc = a % k)))))) ∧
    (u.serving 0x34 = false → exec (.gnPps dt) s = finish s u ∧ exec (.ppsTimeout dt) s = finish s u ∧ ∀ b, exec (.nmeaSentence dt b) s = finish s u) ∧
    (u.serving 0x34 = true →
      (∀ b, (nmeaBody b = none → exec (.nmeaSentence dt b) s = finish s { u with gnss := { g with rejected := min (g.rejected + 1) (2 ^ 32 - 1) } }) ∧
        (∀ x, nmeaBody b = some x → let f := nmeaFields x
          let kind := (nth [] f 0).drop 2
          (kind ≠ ascii "RMC" → kind ≠ ascii "GGA" → exec (.nmeaSentence dt b) s = finish s u) ∧
          (kind = ascii "GGA" → ∃ t, exec (.nmeaSentence dt b) s = .next t ∧ t.gnss.ggaFix = (nth [] f 6 != [0x30] && nth [] f 6 != []) ∧
            t.gnss.sats = min 255 (decNat (nth [] f 7)) ∧ t.gnss.hdop = min 255 (decFixed 1 (nth [] f 8)) ∧ t.gnss.lat = g.lat ∧ t.gnss.rejected = g.rejected) ∧
          (kind = ascii "RMC" → let fix := nth [] f 2 = [0x41] ∧ nth [] f 12 ≠ [0x4E]
            ∃ t, exec (.nmeaSentence dt b) s = .next t ∧ t.gnss.rmcFix = decide fix ∧ t.gnss.rmcTod = some (todMs (nth [] f 1)) ∧ t.gnss.rejected = g.rejected ∧
              (fix → t.gnss.lat = degOf (nth [] f 3) (nth [] f 4 == [0x53]) ∧ t.gnss.lon = degOf (nth [] f 5) (nth [] f 6 == [0x57]) ∧
                t.gnss.course = decFixed 2 (nth [] f 8) ∧ t.gnss.speed = min 65535 (divRound (decFixed 3 (nth [] f 7) * 1852) 10000)) ∧
              (¬fix → t.gnss.utc = g.utc ∧ t.gnss.lat = g.lat ∧ t.gnss.lastRmc = g.lastRmc)))) ∧
      (let gap := u.pclk - g.ppsCount
       ∃ t, exec (.gnPps dt) s = .next t ∧ t.gnss.pps = some u.now ∧ t.gnss.ppsCount = u.pclk ∧ (u.obj 0x4516 6 ≠ 2 → (t.timer 6).capture = (u.timer 6).count u.pclk) ∧
         (g.pps = none ∨ (76723200 ≤ gap ∧ gap ≤ 76876800) → t.gnss.implausibleAt = g.implausibleAt ∧ bit t.gnss.raised 11 = false) ∧
         (g.pps ≠ none → gap < 76723200 ∨ 76876800 < gap → bit t.gnss.raised 11 = true ∧ (bit g.raised 11 = false → t.gnss.implausibleAt = some u.now ∧ bit t.rr.tamper 5 = true))) ∧
      (let late := g.pps.getD 0 + 3000000000 ≤ u.now
       (g.valid = false ∨ ¬late ∨ bit g.raised 11 = true → exec (.ppsTimeout dt) s = finish s u) ∧
       (g.valid = true → late → bit g.raised 11 = false → ∃ t, exec (.ppsTimeout dt) s = .next t ∧ bit t.gnss.raised 11 = true ∧ t.gnss.implausibleAt = some u.now ∧
         bit t.rr.tamper 5 = true))) ∧
    (u.serving 0x32 = false ∨ u.schedDue = false → exec (.schedulerTest dt) s = finish s u) ∧
    (u.serving 0x32 = true → u.schedDue = true → ∃ t, exec (.schedulerTest dt) s = .next t ∧ (u.sched.last + 1000000 ≤ u.now → t.sched.last = u.now) ∧
      t.rr.slots = u.rr.slots ∧ t.pol.out = u.pol.out) ∧
    (∀ (v : State) (e : Nat) (r : SchedEntry) (b n : Nat), kvGet {} v.sched.es e = r → r.cfg = v.snapRange (0x4610 + e) (0x4610 + e) → v.basis (v.schedConf e 1) = some b →
      r.next = some n → v.fenced = true → let q := kvGet {} (v.schedTest1 e).sched.es e
      let f := v.schedConf e 2
      let p := v.schedConf e 3
      (b < r.seen → q = { r with valid := true, seen := b, next := nextDue f p b }) ∧ (r.seen ≤ b → b < n → q = { r with valid := true, seen := b }) ∧
      (r.seen ≤ b → n ≤ b → q.seen = b ∧ q.next = nextDue f p b ∧ q.fired = min (r.fired + 1) (2 ^ 32 - 1) ∧
        (p ≠ 0 → q.skipped = min (r.skipped + (b - n) / p) (2 ^ 32 - 1)) ∧ (p = 0 → q.skipped = min r.skipped (2 ^ 32 - 1) ∧ q.spent = true))) ∧
    (∀ m, m < 256 → Accepts u c 0x4803 2 (leBytes 1 m) → u.fenced = false → u.rr.tamper < 256 → ∃ t, exec (.clearTamperFlags dt c m) s = .next t ∧
      (∀ b, b < 8 → bit t.rr.tamper b = (bit u.rr.tamper b && !bit m b)) ∧ t.rr.objs = u.rr.objs) ∧
    (∀ (v : State) (l : List Bool), v.powered = true → v.parkedPulse l = v) ∧
    (∀ (x : State) (l : List Bool), let v := x.turn dt
      v.powered = false → ∃ t, exec (.parkedPulse dt l) x = .next t ∧ t.aon.parked = min (v.aon.parked + (v.aon.msIn.run l).2) (2 ^ 24 - 1) ∧ t.aon.acc = v.aon.acc ∧ t.rr = v.rr)

/-- While the control domain runs: a request is BUSY while its buffer waits or sends, RANGE for a form that does not exist, FAILED in a mode that does
not send, else PENDING. An abort takes effect before the start of frame, else at the frame's end. The next frame is the one of highest priority on
the bus, or in mode 1 the first source. A frame sent is SENT, with ABORT_LATE after an abort; one that lost or failed waits again, FAILED for one-
shot and ABORTED after an abort. Bus-off at 256; a recovery starts after its delay, or by the recover object, and ends with both counts at 0. A
received frame goes where the first accepting filter says: the FIFO, while it has room, the high-priority buffer, or none. Reads take the oldest
record, and the high-priority record with NEW cleared. On the RC clock a controller without tolerant timing is RESTRICTED. The master requests a REF
each period, or sets FIRST while it cannot send; it yields to a lower or equal priority number. A slave takes its rate from consecutive pairs within
200 ppm, is valid with an EPOCH and a rate, and no longer after the timeout. The role is taken after (3 + priority) periods without a REF. (R415,
R419, R421, R422, R423, R424, R426, R428, R429, R430, R434, R437) -/
def Obligations.ControllersAndTimeMasterRun : Prop :=
  ∀ (s : State) (dt bus : Nat) (c : Client), let u := s.turn dt
    let x := u.ctl bus
    let l := u.bell
    let at_ := fun (ix : Nat) => ix + 0x100 * bus
    let put := fun (t : State) (b : Nat) (y : TxBuf) => (t.ctl bus).bufs = setAt x.bufs b y
    u.powered = true → bus < 2 →
    (∀ b, b < 3 → let ix := at_ (0x4110 + b)
      let fl := u.obj ix 2
      let y := x.buf b
      let bad := (bit fl 7 = false ∧ bit fl 6 = true) ∨ (bit fl 5 = true ∧ bit fl 7 = true) ∨ 2 ^ 30 ≤ u.obj ix 1 ∨ (bit fl 7 = true ∧ u.canFd bus = false)
      (Accepts u c ix 5 [1] →
        (y.st = 1 ∨ y.st = 2 → exec (.txRequest dt c bus b) s = finish s (u.aborted c ix 5 abBusy)) ∧
        (y.st ≠ 1 → y.st ≠ 2 → bad → exec (.txRequest dt c bus b) s = finish s (u.aborted c ix 5 abRange)) ∧
        (y.st ≠ 1 → y.st ≠ 2 → ¬bad → ∃ t, exec (.txRequest dt c bus b) s = .next t ∧
          put t b { y with st := if u.canModeSends bus then 1 else 5, result := 0, fr := u.bufFrame bus b, oneShot := bit fl 4, event := bit fl 3, abortLate := false })) ∧
      (Accepts u c ix 5 [2] → (y.st ≠ 1 → y.st ≠ 2 → exec (.txAbort dt c bus b) s = finish s (u.done c ix 5)) ∧
        (y.st = 1 → ∃ t, exec (.txAbort dt c bus b) s = .next t ∧ put t b { y with st := 4 }) ∧
        (y.st = 2 → ∃ t, exec (.txAbort dt c bus b) s = .next t ∧ put t b { y with abortLate := true }))) ∧
    (x.cur ≠ none ∨ u.canSends bus = false ∨ x.sources = [] → exec (.txChoice dt bus) s = finish s u) ∧
    (x.cur = none → u.canSends bus = true → x.sources ≠ [] → ∃ t q, exec (.txChoice dt bus) s = .next t ∧ q ∈ x.sources ∧
      (t.ctl bus).cur = some { buf := q.1, fr := { q.2 with brs := q.2.brs && !x.clkRc, esi := x.st == 3 }, start := u.now } ∧
      (u.canObj bus 0x4101 0xF = 0 → ∀ r ∈ x.sources, canRank q.2 ≤ canRank r.2) ∧ (u.canObj bus 0x4101 0xF ≠ 0 → x.sources.head? = some q) ∧
      (∀ b, q.1 = some b → put t b { x.buf b with st := 2 }) ∧ (q.1 = none → (t.ctl bus).bufs = x.bufs)) ∧
    (x.cur = none → ∀ o, exec (.frameEnd dt bus o) s = finish s u) ∧
    (∀ k b, x.cur = some k → k.buf = some b → let y := x.buf b
      (∀ tdc, ∃ t, exec (.frameEnd dt bus (.sent tdc)) s = .next t ∧ (t.ctl bus).cur = none ∧ (t.ctl bus).sent = min (x.sent + 1) (2 ^ 32 - 1) ∧
        (x.tec ≤ 256 → put t b { y with st := 3, sendTime := k.start, result := if y.abortLate then 4 else 0 })) ∧
      (∃ t, exec (.frameEnd dt bus .lostArbitration) s = .next t ∧ (t.ctl bus).cur = none ∧ (t.ctl bus).arbLost = min (x.arbLost + 1) (2 ^ 32 - 1) ∧ (t.ctl bus).tec = x.tec ∧
        put t b (if y.abortLate then { y with st := 4 } else if y.oneShot then { y with st := 5, result := 2 } else { y with st := 1 })) ∧
      (∀ e ph, let d := if x.st = 3 ∧ e % 8 = 3 then x.tec else x.tec + 8
        ∃ t, exec (.frameEnd dt bus (.error e ph)) s = .next t ∧ (t.ctl bus).cur = none ∧ (t.ctl bus).errors = min (x.errors + 1) (2 ^ 32 - 1) ∧
        (d < 256 → (t.ctl bus).tec = d ∧
          put t b (if y.abortLate then { y with st := 4 } else if y.oneShot then { y with st := 5, result := 1 } else { y with st := 1 })) ∧
        (256 ≤ d → x.st = 2 ∨ x.st = 3 → (t.ctl bus).st = 4 ∧ (t.ctl bus).tec = 256 ∧ (t.ctl bus).offAt = u.now))) ∧
    (∀ k, x.cur = some k → k.buf = none → ∀ o, ∃ t, exec (.frameEnd dt bus o) s = .next t ∧ (t.ctl bus).cur = none) ∧
    (let hears := x.st = 2 ∨ x.st = 3 ∨ x.st = 6
     (¬hears → (∀ f g, exec (.frameReceived dt bus f g) s = finish s u) ∧ ∀ e ph, exec (.canReceiveError dt bus e ph) s = finish s u) ∧
     (hears → (∀ f g, exec (.frameReceived dt bus f g) s = finish s (((((u.canDeliver bus f g).requestFrame bus f).engineFrame f).bellRx bus f).bdpRx bus f)) ∧
       ∀ e ph, x.tec < 256 → ∃ t, exec (.canReceiveError dt bus e ph) s = .next t ∧ (t.ctl bus).errors = min (x.errors + 1) (2 ^ 32 - 1) ∧
         (t.ctl bus).lastErr = e % 8 + 128 * b2n ph ∧ (t.ctl bus).rxErr = min (x.rxErr + 1) 255 ∧ (t.ctl bus).tec = x.tec)) ∧
    (∀ (v : State) (f : CanFrame) (g : Bool), let y := v.ctl bus
      let w := (v.canDeliver bus f g).ctl bus
      let r := fun (k : Nat) => ({ fr := f, hp := v.canObj bus 0x4122 (k + 1) % 4 == 1, filter := k, at_ := v.now } : RxRec)
      y.tec < 256 → w.rxd = min (y.rxd + 1) (2 ^ 32 - 1) ∧ w.bufs = y.bufs ∧ w.tec = y.tec ∧
      ((List.range 32).find? (fun k => v.filterTakes bus k f) = none → w.fifo = y.fifo ∧ w.hp = y.hp ∧ w.unfiltered = min (y.unfiltered + 1) (2 ^ 32 - 1)) ∧
      (∀ k, (List.range 32).find? (fun k => v.filterTakes bus k f) = some k →
        (v.canObj bus 0x4122 (k + 1) % 4 = 0 → y.fifo.length < 32 → w.fifo = y.fifo ++ [r k] ∧ w.hp = y.hp) ∧
        (v.canObj bus 0x4122 (k + 1) % 4 = 0 → 32 ≤ y.fifo.length → w.fifo = y.fifo ∧ w.drops = min (y.drops + 1) (2 ^ 32 - 1)) ∧
        (v.canObj bus 0x4122 (k + 1) % 4 = 1 → g = false → w.hp = some (r k) ∧ w.hpNew = true ∧ w.fifo = y.fifo ∧ (y.hpPend = none → y.hpNew = true → w.hpOver = true)) ∧
        (v.canObj bus 0x4122 (k + 1) % 4 = 1 → g = true → y.hpPend = none → w.hpPend = some (r k) ∧ w.hp = y.hp ∧ w.hpNew = y.hpNew ∧ w.fifo = y.fifo) ∧
        (2 ≤ v.canObj bus 0x4122 (k + 1) % 4 → w.fifo = y.fifo ∧ w.hp = y.hp))) ∧
    (AcceptsRead u c (at_ 0x4130) 3 → ∃ t q, exec (.nextRecord dt c bus) s = .next t ∧ (t.ctl bus).fifo = x.fifo.drop 1 ∧ (t.ctx c).reply = some q ∧ q.abort = 0 ∧
      q.data = (match x.fifo with
        | [] => List.replicate 80 0
        | r :: _ => r.bytes)) ∧
    (AcceptsRead u c (at_ 0x4131) 2 → let y := x.hpPromote u.now
      ∃ t q, exec (.highPriorityRecord dt c bus) s = .next t ∧ (t.ctl bus).hpNew = false ∧ (t.ctl bus).hp = y.hp ∧ (t.ctl bus).hpOver = y.hpOver ∧ (t.ctx c).reply = some q ∧
        q.abort = 0 ∧ q.data = (match y.hp with
          | none => List.replicate 80 0
          | some r => r.bytes)) ∧
    (Accepts u c (at_ 0x4131) 3 [1] → exec (.clearOverrun dt c bus) s = finish s ((u.setCtl bus { x with hpOver := false }).done c (at_ 0x4131) 3)) ∧
    (let due := x.st = 4 ∧ u.canObj bus 0x4101 0x10 = 0 ∧ x.offAt + u.canObj bus 0x4101 0x11 * 1000000 + (if u.lasting (0x1C + bus) then 10000000000 else 0) ≤ u.now
     (due → exec (.recoveryDelay dt bus) s = finish s (u.setCtl bus { x with st := 5 })) ∧ (¬due → exec (.recoveryDelay dt bus) s = finish s u)) ∧
    (Accepts u c (at_ 0x4102) 6 [1] → let may := x.st = 4 ∧ u.canObj bus 0x4101 0x10 = 1
      (may → exec (.recover dt c bus) s = finish s ((u.setCtl bus { x with st := 5 }).done c (at_ 0x4102) 6)) ∧
      (¬may → exec (.recover dt c bus) s = finish s (u.aborted c (at_ 0x4102) 6 abSequence))) ∧
    (x.st ≠ 5 → exec (.busRecovered dt bus) s = finish s u) ∧
    (x.st = 5 → ∃ t, exec (.busRecovered dt bus) s = .next t ∧ t.ctl bus = { x with st := 2, tec := 0, rxErr := 0 } ∧ (u.sup.vehicleLost = false → t.ownState (0x2E + bus) = stRunning)) ∧
    (x.st ≠ 1 → exec (.integrated dt bus) s = finish s u) ∧
    (x.st = 1 → ∃ t, exec (.integrated dt bus) s = .next t ∧ t.ctl bus = { x with st := if u.canObj bus 0x4101 2 = 2 ∨ x.rcRestricted = true then 6 else 2 } ∧
      (u.sup.vehicleLost = false → t.ownState (0x2E + bus) = stRunning)) ∧
    (let idle := u.ownState (0x2E + bus) = stStopped ∨ u.ownState (0x2E + bus) = stOff ∨ x.clkRc = u.sup.rc
     (idle → exec (.canClockRc dt bus) s = finish s u) ∧
     (¬idle → ∃ t, exec (.canClockRc dt bus) s = .next t ∧ (t.ctl bus).clkRc = u.sup.rc ∧ (t.ctl bus).rcRestricted = (u.sup.rc && !u.rcTolerant bus) ∧
       (u.sup.rc = true → u.rcTolerant bus = false → x.st = 2 ∨ x.st = 3 → (t.ctl bus).st = 6) ∧ (t.ctl bus).bufs = x.bufs ∧ (t.ctl bus).queue = x.queue)) ∧
    (let due := l.st = 3 ∧ l.sentAt + u.bellObj 4 * 1000000 ≤ u.now ∧ u.serving 0x30 = true
     (¬due → exec (.ref dt) s = finish s u) ∧
     (due → u.canSends u.bellBus = false → ∃ t, exec (.ref dt) s = .next t ∧ t.bell.first = true ∧ t.bell.inst = none ∧ t.bell.sentAt = u.now ∧ t.bell.seq = l.seq) ∧
     (due → u.canSends u.bellBus = true → ∃ t, exec (.ref dt) s = .next t ∧ t.bell.seq = (l.seq + 1) % 64 ∧ t.bell.outstanding = true ∧ t.bell.sentAt = u.now ∧
       t.bell.first = (l.first || l.outstanding || l.inst.isNone) ∧
       ((u.ctl u.bellBus).queue = [] → ∃ d, (t.ctl u.bellBus).queue = [d] ∧ d.cls = .bellwether ∧ d.epoch = false ∧ d.fr.id = u.bellObj 3 ∧ d.fr.dlc = 8 ∧
         (d.fr.data.getD 0 0).toNat = 64 + (l.seq + 1) % 64))) ∧
    (∀ f, let b := u.bellBus
      let into := finish s (((((u.canDeliver b f false).requestFrame b f).engineFrame f).bellRx b f).bdpRx b f)
      exec (.refReceived dt f) s = (if u.bellTakes f 1 then into else finish s u) ∧ exec (.epochReceived dt f) s = (if u.bellTakes f 2 then into else finish s u)) ∧
    (∀ (v : State) (f : CanFrame) (d : Nat), let w := v.bellRefRx f d
      let prio := (f.data.getD 1 0).toNat % 16
      let own := v.bellObj 5
      w.bell.refs = min (v.bell.refs + 1) (2 ^ 32 - 1) ∧ w.bell.refAt = v.now ∧ w.bell.seen = prio ∧
      (v.bell.st = 3 → v.sup.rc = false → w.bell.st = (if prio ≤ own then 1 else 3) ∧ (prio = own → w.bell.extra = v.bellObj 4 * 1000000 * d / 65536)) ∧
      (v.bell.st ≠ 3 → w.bell.inst = some v.pclk ∧ w.bell.seq = (f.data.getD 0 0).toNat % 64 ∧ w.bell.utc = bit (f.data.getD 1 0).toNat 7)) ∧
    (∀ (v : State) (a m a0 m0 : Nat), v.bell.lastPair = some (a0, m0) → let w := v.bellPair a m
      let good := a0 < a ∧ ((((m - m0) * 384 : Nat) : Int) - (((a - a0) * 5 : Nat) : Int)).natAbs * 1000000 ≤ 200 * ((a - a0) * 5)
      w.bell.lastPair = some (a, m) ∧ (good → w.bell.pair = some (a, m) ∧ w.bell.rate = some (m - m0, a - a0) ∧ (v.bell.high.isSome = true → w.bell.valid = true ∧ w.bell.st = 2)) ∧
      (¬good → w.bell.rejected = min (v.bell.rejected + 1) (2 ^ 32 - 1) ∧ w.bell.pair = v.bell.pair ∧ w.bell.rate = v.bell.rate)) ∧
    (∀ (v : State) (f : CanFrame), v.bell.st ≠ 3 → let w := v.bellEpochRx f
      w.bell.high = some (leNat (slice 2 2 f.data)) ∧ (v.bell.rate.isSome = true → w.bell.valid = true ∧ w.bell.st = 2) ∧ (v.bell.rate = none → w.bell.valid = v.bell.valid)) ∧
    (let p := u.bellObj 5
     let due := u.bellObj 1 = 2 ∧ l.slaveOnly = false ∧ (l.st = 1 ∨ l.st = 2) ∧ u.serving 0x30 = true ∧ l.refAt + (3 + p) * (u.bellObj 4 * 1000000) + l.extra ≤ u.now
     (¬due → exec (.masterTaken dt) s = finish s u) ∧
     (due → ∃ t, exec (.masterTaken dt) s = .next t ∧ t.bell.st = 3 ∧ t.bell.valid = true ∧ t.bell.first = true ∧ t.bell.mBase = (u.pclk, if l.valid then u.netTime
       else if u.timeSource = 1 ∨ u.timeSource = 2 then u.utcMs * 1000 else 0))) ∧
    (let due := l.st = 2 ∧ l.refAt + u.bellObj 6 * (u.bellObj 4 * 1000000) < u.now
     (¬due → exec (.refTimeout dt) s = finish s u) ∧
     (due → ∃ t, exec (.refTimeout dt) s = .next t ∧ t.bell.st = 1 ∧ t.bell.valid = false ∧ t.bell.rate = none))

/-- A reset holds the device with everything volatile at its reset value: ReRAM contents, the always-on domain and the tag domain stay, the always-on
domain not at POWER_ON. It comes with power, a rail below its reset level, RESET_N low for 1 us, 135 C, the loss of PLL_C, or on request once the
response has left or 100 ms have passed. A cold start begins with every rail up, after THERMAL below 115 C; it counts the boot and boots the active
bank, or the boot ROM stays. While the control domain runs: the sample ports fail with VDD_SER or PLL_S, both controllers with the CAN PLL; without
the crystal the RC oscillator takes over, until it has run 100 ms and no such fault lasts; 125 C stops ranging until below 120 C. A glitch is one
count against each pair; a watchdog or a mismatch is one against its own source. A lasting fault ends where its end condition holds; a transient one
is cleared by its code. Clearing a summary takes its bits, and those below it, away. The oldest fault entry leaves the queue as it is read. None
acts before its time. (R444, R447, R448, R449, R450, R451, R456, R457, R459, R462, R507, R508) -/
def Obligations.ResetsSuppliesClocksAndFaults : Prop :=
  ∀ (s : State) (dt : Nat) (c : Client), let u := s.turn dt
    let p := u.sup
    let total := fun (t : State) (n : Nat) => (t.src n).total
    let more := fun (n : Nat) => min (total u n + 1) (2 ^ 32 - 1)
    let resets := fun (i : Instr) (kind : Nat) => ∃ t, exec i s = .next t ∧ t.sup.held = true ∧ t.aon.resetKind = kind ∧ t.aon.mode = 0 ∧ t.dict = {} ∧ t.evq = [] ∧ t.objs = [] ∧
      t.pol = {} ∧ t.us = [] ∧ t.rr.objs = u.rr.objs ∧ t.rr.slots = u.rr.slots ∧ t.rr.lifecycle = u.rr.lifecycle ∧ t.tagd.job = u.tagd.job ∧ t.tagd.vtag = u.tagd.vtag ∧
      (kind ≠ 1 → t.aon = { u.aon with mode := 0, resetKind := kind, wake := 0 }) ∧ (kind = 1 → t.aon.marks = [] ∧ t.aon.latches = 0 ∧ t.aon.acc = 0 ∧ t.aon.history = [])
    resets (.powerOnReset dt) 1 ∧
    (∀ rail mv, let floor := if rail = 0 then 700 else if rail = 1 then 2800 else 1620
      (rail ≤ 2 → mv < floor → resets (.railReset dt rail mv) 2) ∧ (rail = 4 → mv < 2500 → resets (.railReset dt rail mv) 1) ∧
      ((rail ≤ 2 ∧ floor ≤ mv) ∨ rail = 3 ∨ (rail = 4 ∧ 2500 ≤ mv) ∨ 4 < rail → exec (.railReset dt rail mv) s = finish s u)) ∧
    (∀ ns, (1000 ≤ ns → resets (.externalReset dt ns) 3) ∧ (ns < 1000 → exec (.externalReset dt ns) s = finish s u)) ∧
    (Accepts u c 0x1210 3 [1] → exec (.resetNow dt c) s = finish s (({ u with sup := { p with pendingReset := some (6, c, u.now) } } : State).done c 0x1210 3)) ∧
    (p.pendingReset = none ∨ u.powered = false → exec (.deferredReset dt) s = finish s u) ∧
    (∀ k d t, p.pendingReset = some (k, d, t) → u.powered = true → k ≠ 1 →
      (u.responseGone d = true ∨ t + 100000000 ≤ u.now → resets (.deferredReset dt) k) ∧
      (u.responseGone d = false → u.now < t + 100000000 → exec (.deferredReset dt) s = finish s u)) ∧
    (∀ o : BootObs, let v := fun (r : Nat) => nth 0 o.rails r
      let may := p.held = true ∧ u.aon.mode = 0 ∧ 700 ≤ v 0 ∧ 2800 ≤ v 1 ∧ 1620 ≤ v 2 ∧ 2500 ≤ v 4 ∧ (u.aon.resetKind ≠ 5 ∨ tjOf o.sensors < 460)
      let scan := o.testMode = true ∧ u.rr.lifecycle = lcFactory
      let boots := fun (t : State) => (kvGet {} t.rr.ctrs 1).value
      (¬may → exec (.coldStart dt o) s = finish s u) ∧
      (may → scan → ∃ t, exec (.coldStart dt o) s = .next t ∧ t.sup.held = false ∧ t.sup.scan = true ∧ t.rr = u.rr) ∧
      (may → ¬scan → ∃ t, exec (.coldStart dt o) s = .next t ∧ t.sup.held = false ∧ t.now = 0 ∧ t.tagd.on = true ∧ t.rr.slots = u.rr.slots ∧
        (boots u < 2 ^ 48 - 1 → boots t = boots u + 1) ∧
        (u.rr.trialBank = none → (u.rr.admitted u.rr.active).isSome = true → t.sup.running = u.rr.active ∧ t.sup.trial = false ∧ t.ownState 0x22 = stRunning) ∧
        (u.rr.trialBank = none → u.rr.admitted u.rr.active = none → u.rr.admitted (1 - u.rr.active) = none → t.sup.bootRom = true ∧ t.ownState 0x22 = stFailed))) ∧
    (∀ mv, (u.powered = false ∨ 840 ≤ mv → exec (.vddSerLow dt mv) s = finish s u) ∧
      (u.powered = true → mv < 840 → ∃ t, exec (.vddSerLow dt mv) s = .next t ∧ t.sup.serLow = true ∧ t.pol = u.pol ∧
        (u.ownState 0x25 ≠ stOff → u.ownState 0x25 ≠ stStopped → t.ownState 0x25 = stFailed ∧ t.ownState 0x04 = stFailed)) ∧
      (u.powered = false ∨ p.serLow = false ∨ mv ≤ 860 → exec (.vddSerRecovered dt mv) s = finish s u) ∧
      (u.powered = true → p.serLow = true → 860 < mv → ∃ t, exec (.vddSerRecovered dt mv) s = .next t ∧ t.sup.serLow = false ∧
        (p.rc = false → p.hot = false → p.pllS = false → p.vehicleLost = false → t.ownState 0x04 = stStarting))) ∧
    (u.powered = false ∨ p.rc = true → exec (.clockLost dt) s = finish s u) ∧
    (u.powered = true → p.rc = false → ∃ t, exec (.clockLost dt) s = .next t ∧ t.sup.rc = true ∧ t.sup.rcSince = u.now ∧ t.sup.xtalLosses = min (p.xtalLosses + 1) (2 ^ 32 - 1) ∧
      total t 8 = more 8 ∧ t.phy.rx = none) ∧
    (let may := u.powered = true ∧ p.rc = true ∧ u.lasting 8 = false ∧ p.rcSince + 100000000 ≤ u.now
     (¬may → exec (.clockRestored dt) s = finish s u) ∧ (may → ∃ t, exec (.clockRestored dt) s = .next t ∧ t.sup.rc = false ∧ (p.hot = false → p.vehicleLost = false → t.ownState 0x04 = stStarting))) ∧
    (u.powered = false → ∀ l, exec (.pllLockLost dt l) s = finish s u ∧ exec (.pllRelock dt l) s = finish s u) ∧
    (u.powered = true → resets (.pllLockLost dt .core) 8 ∧ exec (.pllRelock dt .core) s = finish s u ∧
      (∃ t, exec (.pllLockLost dt .sample) s = .next t ∧ t.sup.pllS = true ∧ (u.ownState 0x25 ≠ stOff → u.ownState 0x25 ≠ stStopped → t.ownState 0x25 = stFailed)) ∧
      (∃ t, exec (.pllLockLost dt .can) s = .next t ∧ t.sup.pllCan = true ∧
        ∀ b, b < 2 → u.ownState (0x2E + b) ≠ stStopped → u.ownState (0x2E + b) ≠ stOff → t.ownState (0x2E + b) = stFailed ∧ (t.ctl b).st = 0) ∧
      (p.pllS = false → exec (.pllRelock dt .sample) s = finish s u) ∧ (p.pllCan = false → exec (.pllRelock dt .can) s = finish s u) ∧
      (p.pllS = true → ∃ t, exec (.pllRelock dt .sample) s = .next t ∧ t.sup.pllS = false ∧ (p.rc = false → p.hot = false → p.serLow = false → p.vehicleLost = false → t.ownState 0x04 = stStarting)) ∧
      (p.pllCan = true → ∃ t, exec (.pllRelock dt .can) s = .next t ∧ t.sup.pllCan = false ∧ ∀ b, b < 2 → p.vehicleLost = false → u.ownState (0x2E + b) = stFailed → t.ownState (0x2E + b) = stStarting)) ∧
    (∀ k, k < 65536 → (p.rc = true ∨ p.held = true → exec (.rcTrim dt k) s = finish s u) ∧
      (p.rc = false → p.held = false → exec (.rcTrim dt k) s = finish s { u with aon := { u.aon with trim := k } })) ∧
    (∀ l : List Int, l.length = 4 → let tj := tjOf l
      (u.powered = false → exec (.temperature dt l) s = finish s u ∧ exec (.thermalReset dt l) s = finish s u) ∧
      (u.powered = true → (540 ≤ tj → resets (.thermalReset dt l) 5) ∧ (tj < 540 → exec (.thermalReset dt l) s = finish s u) ∧
        ∃ t, exec (.temperature dt l) s = .next t ∧ t.sup.tj = l ∧ t.sup.hot = (if p.hot = true then decide (480 ≤ tj) else decide (500 ≤ tj)) ∧
          (p.hot = false → 500 ≤ tj → (p.vehicleLost = false → t.ownState 0x25 = stStopped) ∧ t.phy.rx = none) ∧ (p.hot = true → tj < 480 → p.vehicleLost = false → t.ownState 0x04 = stStarting))) ∧
    (u.powered = false → (∀ a b, exec (.glitch dt a b) s = finish s u) ∧ (∀ g, exec (.watchdogExpiry dt g) s = finish s u) ∧ ∀ b, exec (.lockstepMismatch dt b) s = finish s u) ∧
    exec (.glitch dt false false) s = finish s u ∧
    (u.powered = true → (∀ a b, a = true ∨ b = true → ∃ t, exec (.glitch dt a b) s = .next t ∧ t.sup.glitches = min (p.glitches + 1) (2 ^ 32 - 1) ∧ total t 1 = more 1 ∧
        total t 2 = more 2 ∧ t.pol = u.pol ∧ ∀ n, 3 ≤ n → total t n = total u n) ∧
      (∀ g, let n : Nat := match g with
          | .trust => 1
          | .vehicle => 2
          | .se m => 3 + m % 4
        ∃ t, exec (.watchdogExpiry dt g) s = .next t ∧ total t n = more n ∧ t.pol = u.pol ∧ ∀ m, m ≠ n → total t m = total u m) ∧
      (∀ b, let n := if b then 2 else 1
        ∃ t, exec (.lockstepMismatch dt b) s = .next t ∧ total t n = more n ∧ t.pol = u.pol ∧ ∀ m, m ≠ n → total t m = total u m)) ∧
    (∀ n, let quiet := (u.src n).quiet + 600000000000 ≤ u.now
      let met := u.powered = true ∧ (((n = 7 ∨ n = 0x1C ∨ n = 0x1D) ∧ quiet) ∨ (n = 0x1A ∧ u.jr.st = 3) ∨ (n = 0x1B ∧ u.dist.link = 2 ∧ u.dist.authSince + 600000000000 ≤ u.now))
      (¬met ∨ (u.src n).st ≠ 2 → exec (.faultEnded dt n) s = finish s u) ∧
      (met → (u.src n).st = 2 → ∃ t, exec (.faultEnded dt n) s = .next t ∧ (t.src n).st = 0 ∧ (t.src n).times = [] ∧ total t n = total u n)) ∧
    (∀ id, id < 65536 → Accepts u c 0x1302 1 (leBytes 2 id) →
      (unitFind id = none → exec (.clearSummary dt c id) s = finish s (u.aborted c 0x1302 1 abRange)) ∧
      (unitFind id ≠ none → exec (.clearSummary dt c id) s = finish s (({ u with sticky := u.sticky.filter (fun e => !(unitAll id).contains e.1) } : State).done c 0x1302 1))) ∧
    (∀ n, n < 256 → Accepts u c 0x1302 2 (leBytes 1 n) → let barred := u.role c = roleH ∧ n = 1
      let antenna := 0x0D ≤ n ∧ n ≤ 0x12
      (barred → exec (.clearSource dt c n) s = finish s (u.aborted c 0x1302 2 abRole)) ∧
      (¬barred → u.srcState n = 0 → exec (.clearSource dt c n) s = finish s (u.done c 0x1302 2)) ∧
      (¬barred → u.srcState n = 1 → ∃ t, exec (.clearSource dt c n) s = .next t ∧ (t.src n).st = 0 ∧ (t.src n).times = [] ∧ total t n = total u n) ∧
      (¬barred → u.srcState n = 2 → ¬antenna → exec (.clearSource dt c n) s = finish s (u.aborted c 0x1302 2 abSequence)) ∧
      (¬barred → u.srcState n = 2 → antenna → ∃ t, exec (.clearSource dt c n) s = .next t ∧ (t.src n).st = 0 ∧ (t.src n).times = [])) ∧
    (AcceptsRead u c 0x1320 1 → ∃ t q, exec (.nextFaultEntry dt c) s = .next t ∧ t.sup.faults = p.faults.drop 1 ∧ (t.ctx c).reply = some q ∧ q.abort = 0 ∧
      q.data = (match p.faults with
        | [] => List.replicate 12 0
        | e :: _ => e.bytes))

/-- Parking needs every condition of R453; a request then starts it, else it is SEQUENCE; idle parking comes once the host port has been idle for
0x1201:03. With the journal flushed, or its medium out of service for 1 s, the mode changes; without the control rails all volatile state is gone.
An edge on HS_CS_N ungates the gated mode. The second wrong mesh check in a row, the second wrong sample of the armed loop and the armed lid held
for 10 ms latch their bit; in FIELD, as set, every slot is zeroized; with the rails down the detection is logged and every slot marked. A trial is
confirmed 60 s after step 6 with no lasting pair fault. The lifecycle state advances only by one, by its role, under its conditions: slots 3, 48 and
49 generated; a zone map and slot 12; every slot zeroized first. BEGIN makes the bank unadmitted, a chunk writes its bytes at the offset, VERIFY
checks the bank, ACTIVATE marks it TRIAL and asks for a reset, only after a successful VERIFY with the engine stopped and nothing released. The
other bank is never touched. (R452, R453, R454, R455, R468, R469, R470, R473, R474) -/
def Obligations.ParkingTamperLifecycleAndUpdates : Prop :=
  ∀ (s : State) (dt : Nat) (c : Client), let u := s.turn dt
    let p := u.sup
    (∀ v : State, v.mayPark = true ↔ v.pol.engine = false ∧ v.pol.out = 0 ∧ (∀ x ∈ v.dict.clients, x.st = 2 → x.role = roleH) ∧ v.dict.stream = none ∧ v.cipher.holder = none ∧
      v.pk.holder = none ∧ v.phy.cal = none ∧ v.jr.st ≠ 2 ∧ v.sup.update ≠ 1 ∧ v.sup.trial = false) ∧
    (Accepts u c 0x1201 2 [1] → (u.mayPark = false → exec (.parkRequest dt c) s = finish s (u.aborted c 0x1201 2 abSequence)) ∧
      (u.mayPark = true → p.parkStep ≠ 0 → exec (.parkRequest dt c) s = finish s (u.done c 0x1201 2)) ∧
      (u.mayPark = true → p.parkStep = 0 → exec (.parkRequest dt c) s = finish s (({ u with sup := { p with parkStep := 1, parkCause := 1 } } : State).done c 0x1201 2))) ∧
    (let idle := u.obj 0x1201 3
     let due := u.powered = true ∧ idle ≠ 0 ∧ u.host.idleFrom + idle * 1000000000 ≤ u.now ∧ u.mayPark = true ∧ p.parkStep = 0
     (due → exec (.parkOnIdle dt) s = finish s { u with sup := { p with parkStep := 1, parkCause := 2 } }) ∧ (¬due → exec (.parkOnIdle dt) s = finish s u)) ∧
    (let j := u.jr
     let due := u.powered = true ∧ p.parkStep = 4 ∧ u.nv.run = none ∧ ((j.tail = [] ∧ j.op = none ∧ j.pageRecs = []) ∨ (j.st ≠ 3 ∧ p.parkAt + 1000000000 ≤ u.now))
     let phase := u.aon.rooster.st
     let mode := if 1 ≤ phase ∧ phase ≤ 4 then (if bit (u.obj 0x2020 2) (phase - 1) then 2 else 1) else 3
     (¬due → exec (.parkingComplete dt) s = finish s u) ∧
     (due → ∃ t, exec (.parkingComplete dt) s = .next t ∧ t.aon = { u.aon with mode := mode } ∧ t.rr.objs = u.rr.objs ∧ t.rr.slots = u.rr.slots ∧
       (mode = 1 → t.sup.parkStep = 0 ∧ t.dict = u.dict ∧ t.objs = u.objs) ∧ (mode ≠ 1 → t.dict = {} ∧ t.objs = [] ∧ t.evq = [] ∧ t.rng = {}))) ∧
    (u.aon.mode ≠ 1 → exec (.hostUngate dt) s = finish s u) ∧
    (u.aon.mode = 1 → ∃ t, exec (.hostUngate dt) s = .next t ∧ t.aon.mode = 0 ∧ t.host.idleFrom = u.now ∧ t.dict = u.dict ∧ t.rr.objs = u.rr.objs) ∧
    (let may := u.powered = true ∧ p.trial = true ∧ u.lasting 1 = false ∧ u.lasting 2 = false ∧ (∃ t, p.step6 = some t ∧ t + 60000000000 ≤ u.now) ∧ u.fenced = false
     (¬may → exec (.trialConfirmed dt) s = finish s u) ∧
     (may → ∃ t, exec (.trialConfirmed dt) s = .next t ∧ t.rr.active = p.running ∧ t.sup.trial = false ∧ t.rr.trialBank = none ∧
       t.rr.floor = max u.rr.floor (((u.rr.admitted p.running).map (·.version)).getD 0))) ∧
    (let bad := u.aon.meshBad
     let armed := u.obj 0x1482 1 ≠ 0
     let wrong := u.aon.loopBad
     let field := u.rr.lifecycle = lcField
     let up := u.aon.mode = 1 ∨ u.powered = true
     let hit := fun (i : Instr) (src : Nat) (zero : Prop) => ∃ t, exec i s = .next t ∧ bit t.aon.latches (src - 1) = true ∧
       (∀ b, b ≠ src - 1 → bit t.aon.latches b = bit u.aon.latches b) ∧ (zero → ∀ m, m < 64 → (t.slot m).ty = 0) ∧ (¬zero → ∀ m, t.slot m = u.slot m) ∧
       (up → p.held = false → p.scan = false → t.aon.offline = u.aon.offline) ∧
       (¬up → u.aon.offline.length < 8 → ∃ e, t.aon.offline = u.aon.offline ++ [e] ∧ e.src = src) ∧ (¬up → zero → 2 ≤ u.aon.mode → t.aon.resetKind = 9 ∧ t.aon.mode = 0)
     exec (.meshCheck dt true) s = finish s { u with aon := { u.aon with meshBad := 0 } } ∧
     (bad ≠ 1 → exec (.meshCheck dt false) s = finish s { u with aon := { u.aon with meshBad := min 3 (bad + 1) } }) ∧ (bad = 1 → hit (.meshCheck dt false) 3 field) ∧
     (¬armed → ∀ g, exec (.loopSample dt g) s = finish s u) ∧ (armed → exec (.loopSample dt true) s = finish s { u with aon := { u.aon with loopBad := 0 } }) ∧
     (armed → wrong ≠ 1 → exec (.loopSample dt false) s = finish s { u with aon := { u.aon with loopBad := min 3 (wrong + 1) } }) ∧
     (armed → wrong = 1 → hit (.loopSample dt false) 2 (field ∧ u.obj 0x1482 2 = 1)) ∧
     (∀ (lv : Bool) (ns : Nat), let seen := u.obj 0x1482 3 ≠ 0 ∧ lv = bit (u.obj 0x1482 4) 1 ∧ 10000000 ≤ ns
       (¬seen → exec (.lidDetection dt lv ns) s = finish s u) ∧ (seen → hit (.lidDetection dt lv ns) 1 (field ∧ bit (u.obj 0x1482 4) 0 = true)))) ∧
    (∀ m, m < 256 → Accepts u c 0x1481 2 (leBytes 1 m) → u.aon.latches < 8 → ∃ t, exec (.clearLatches dt c m) s = .next t ∧
      (∀ b, bit t.aon.latches b = (bit u.aon.latches b && !bit m b)) ∧ t.rr = u.rr) ∧
    (∀ n, 2 ≤ n → n ≤ 4 → Accepts u c 0x1401 2 [byte n] → u.fenced = false →
      let i : Instr := if n = 2 then .advanceIntegration dt c else if n = 3 then .advanceField dt c else .advanceReturned dt c
      let no := fun (a : Nat) => exec i s = finish s (u.aborted c 0x1401 2 a)
      let mine := u.role c = if n = 2 then roleF else roleW
      (u.rr.lifecycle + 1 ≠ n → no abSequence) ∧
      (u.rr.lifecycle + 1 = n → (¬mine → no abRole) ∧
        (mine → n = 2 → u.rngStopped 6 = true ∨ u.serving 0x0A = false ∨ u.trustLost = true → no abUnavail) ∧
        (mine → n = 2 → u.rngStopped 6 = false → u.serving 0x0A = true → u.trustLost = false →
          (u.rngWaits 6 96 = true → ∃ t w, exec i s = .next t ∧ t.rng.waits = u.rng.waits ++ [w] ∧ w.c = c ∧ w.need = 96 ∧ t.rr = u.rr) ∧
          (u.rngWaits 6 96 = false → u.marksOf 3 = 0 → u.marksOf 48 = 0 → u.marksOf 49 = 0 → ∃ t, exec i s = .next t ∧ t.rr.lifecycle = 2 ∧
            (t.slot 3).key = (u.rngBuf 6).take 32 ∧ (t.slot 48).ty = 0x10 ∧ (t.slot 49).ty = 0x10 ∧ (t.slot 3).gen = (u.slot 3).gen + 1 ∧
            ∀ m, m ≠ 3 → m ≠ 48 → m ≠ 49 → t.slot m = u.slot m)) ∧
        (mine → n = 3 → u.rr.map = [] ∨ (u.slot 12).ty = 0 → no abSequence) ∧
        (mine → n = 3 → u.rr.map ≠ [] → (u.slot 12).ty ≠ 0 → ∃ t, exec i s = .next t ∧ t.rr.lifecycle = 3 ∧ ∀ m, t.slot m = u.slot m) ∧
        (mine → n = 4 → ∃ t, exec i s = .next t ∧ t.rr.lifecycle = 4 ∧ ∀ m, m < 64 → (t.slot m).ty = 0))) ∧
    (u.fenced = false → let other := u.updateBank
      let seq := fun (i : Instr) (ix sub : Nat) => exec i s = finish s (u.aborted c ix sub abSequence)
      (Accepts u c 0x1420 1 [1] → (other = none → seq (.updateBegin dt c) 0x1420 1) ∧
        (∀ n, other = some n → ∃ t, exec (.updateBegin dt c) s = .next t ∧ t.sup.update = 1 ∧ (t.rr.bank n).header = none ∧ ∀ k, k < 2 → k ≠ n → t.rr.bank k = u.rr.bank k)) ∧
      (∀ d : Bytes, Accepts u c 0x1421 2 d → let off := u.obj 0x1421 1
        (other = none ∨ p.update ≠ 1 → seq (.chunk dt c d) 0x1421 2) ∧
        (∀ n, other = some n → p.update = 1 → 0 < d.length → d.length ≤ 4096 →
          (2 ^ 21 < off + d.length → exec (.chunk dt c d) s = finish s (u.aborted c 0x1421 2 abRange)) ∧
          (off + d.length ≤ 2 ^ 21 → ∃ t, exec (.chunk dt c d) s = .next t ∧ (∀ i, i < d.length → (t.rr.bank n).byte (off + i) = d.getD i 0) ∧
            (∀ a, a < off ∨ off + d.length ≤ a → (t.rr.bank n).byte a = (u.rr.bank n).byte a) ∧ ∀ k, k < 2 → k ≠ n → t.rr.bank k = u.rr.bank k))) ∧
      (Accepts u c 0x1420 1 [2] → (other = none ∨ p.update ≠ 1 → seq (.updateVerify dt c) 0x1420 1) ∧
        (∀ n, other = some n → p.update = 1 → ∃ t, exec (.updateVerify dt c) s = .next t ∧ t.sup.update = (if (u.rr.admitted n).isSome then 2 else 3) ∧
          ∀ k, t.rr.bank k = u.rr.bank k)) ∧
      (Accepts u c 0x1420 1 [3] → (other = none ∨ p.update ≠ 2 ∨ u.pol.engine = true ∨ u.pol.out ≠ 0 → seq (.activate dt c) 0x1420 1) ∧
        (∀ n, other = some n → p.update = 2 → u.pol.engine = false → u.pol.out = 0 → ∃ t, exec (.activate dt c) s = .next t ∧ t.rr.trialBank = some n ∧
          t.sup.pendingReset = some (7, c, u.now) ∧ t.rr.active = u.rr.active ∧ ∀ k, t.rr.bank k = u.rr.bank k)))
end

