-- ==== Sys2Proof/Laws/Crypto.lean ====
section
/-! SUPPORT. Lengths of what the ciphers and the ranging sequence give. -/

namespace Sys2Proof.Machine
open Sys2Proof

theorem aesEncK_length (ks : List (List Nat)) (blk : Bytes) (h : 16 ≤ (ks.getLastD []).length) : (aesEncK ks blk).length = 16 := by
  simp only [aesEncK, addKey, shiftRows, List.length_map, List.length_zip, List.length_range]
  omega

theorem chunks_bound {α : Type} (f n : Nat) (l : List α) : ∀ x ∈ chunks f n l, x.length ≤ n := by
  induction f generalizing l with
  | zero => simp [chunks]
  | succ f ih =>
    cases l with
    | nil => simp [chunks]
    | cons a t =>
      intro x hx
      simp only [chunks, List.isEmpty_cons, Bool.false_eq_true, if_false, List.mem_cons] at hx
      rcases hx with hx | hx
      · exact hx ▸ List.length_take_le _ _
      · exact ih _ _ hx

theorem chunks_flatten {α : Type} (f n : Nat) (l : List α) (hn : 0 < n) (h : l.length < f) : (chunks f n l).flatten = l := by
  induction f generalizing l with
  | zero => omega
  | succ f ih =>
    cases l with
    | nil => simp [chunks]
    | cons a t =>
      simp only [chunks, List.isEmpty_cons, Bool.false_eq_true, if_false, List.flatten_cons]
      rw [ih _ (by simp only [List.length_drop, List.length_cons] at *; omega), List.take_append_drop]

theorem xorBlocks_length (e : Nat → Bytes) (he : ∀ k, (e k).length = 16) (l : List Bytes) (hl : ∀ x ∈ l, x.length ≤ 16) (n : Nat) :
    ((l.zipIdx n).flatMap (fun q => xorBytes q.1 (e q.2))).length = l.flatten.length := by
  induction l generalizing n with
  | nil => rfl
  | cons a t ih =>
    have ha := hl a List.mem_cons_self
    rw [List.zipIdx_cons, List.flatMap_cons, List.length_append, ih (fun x hx => hl x (List.mem_cons_of_mem _ hx)), List.flatten_cons, List.length_append]
    simp only [xorBytes, List.length_map, List.length_zip, he]
    omega

theorem chunks_even {α : Type} (f n : Nat) (l : List α) (h : ∃ m, l.length = n * m) : ∀ x ∈ chunks f n l, x.length = n := by
  induction f generalizing l with
  | zero => simp [chunks]
  | succ f ih =>
    cases l with
    | nil => simp [chunks]
    | cons a t =>
      intro x hx
      simp only [chunks, List.isEmpty_cons, Bool.false_eq_true, if_false, List.mem_cons] at hx
      obtain ⟨m, hm⟩ := h
      cases m with
      | zero => simp at hm
      | succ m =>
        rw [Nat.mul_succ] at hm
        rcases hx with hx | hx
        · subst hx; rw [List.length_take]; omega
        · exact ih _ ⟨m, by rw [List.length_drop]; omega⟩ x hx

theorem aesExpand_words (nk f : Nat) : ∀ (i rc : Nat) (l : List (List Nat)), (∀ x ∈ l, x.length = 4) →
    (∀ x ∈ aesExpand nk f i rc l, x.length = 4) ∧ (aesExpand nk f i rc l).length = l.length + f := by
  induction f with
  | zero => intro i rc l h; exact ⟨h, rfl⟩
  | succ f ih =>
    intro i rc l h
    have hh : ∀ (k : Nat), (l.getD k [0, 0, 0, 0]).length = 4 := by
      intro k
      rw [List.getD_eq_getElem?_getD]
      cases e : l[k]? with
      | none => rfl
      | some x => exact h x (List.mem_of_getElem? e)
    have h0 : (l.headD [0, 0, 0, 0]).length = 4 := by
      cases l with
      | nil => rfl
      | cons a t => exact h a List.mem_cons_self
    unfold aesExpand
    dsimp only
    have key : ∀ w : List Nat, w.length = 4 → (∀ x ∈ aesExpand nk f (i + 1) (if i % nk = 0 then xtime rc else rc) (w :: l), x.length = 4) ∧
        (aesExpand nk f (i + 1) (if i % nk = 0 then xtime rc else rc) (w :: l)).length = l.length + (f + 1) := by
      intro w hw
      have r := ih (i + 1) (if i % nk = 0 then xtime rc else rc) (w :: l) (by
        intro x hx
        rcases List.mem_cons.mp hx with hx | hx
        · exact hx ▸ hw
        · exact h x hx)
      exact ⟨r.1, by rw [r.2, List.length_cons]; omega⟩
    apply key
    rw [List.length_map, List.length_zip, hh]
    suffices hs : ∀ t' : List Nat, t'.length = 4 → min t'.length 4 = 4 by
      apply hs
      split
      · split
        · rename_i a r e
          have := congrArg List.length e
          simp only [List.length_map, List.length_append, List.length_drop, List.length_take, h0, List.length_cons] at this ⊢
          omega
        · rename_i e
          have := congrArg List.length e
          simp only [List.length_map, List.length_append, List.length_drop, List.length_take, h0, List.length_nil] at this
          omega
      · split
        · rw [List.length_map, h0]
        · exact h0
    intro t' ht; rw [ht]; rfl

theorem flatten_fours (l : List (List Nat)) (h : ∀ x ∈ l, x.length = 4) : l.flatten.length = 4 * l.length := by
  induction l with
  | nil => rfl
  | cons a t ih =>
    rw [List.flatten_cons, List.length_append, h a List.mem_cons_self, ih (fun x hx => h x (List.mem_cons_of_mem _ hx)), List.length_cons]
    omega

theorem chunks_count {α : Type} (f n : Nat) (l : List α) (hn : n * f ≤ l.length) (h0 : 0 < n) : (chunks f n l).length = f := by
  induction f generalizing l with
  | zero => rfl
  | succ f ih =>
    rw [Nat.mul_succ] at hn
    cases l with
    | nil => simp only [List.length_nil] at hn; omega
    | cons a t =>
      simp only [chunks, List.isEmpty_cons, Bool.false_eq_true, if_false, List.length_cons]
      rw [ih _ (by rw [List.length_drop]; omega)]

theorem chunks_whole {α : Type} (f n : Nat) (l : List α) (hn : n * f ≤ l.length) : ∀ x ∈ chunks f n l, x.length = n := by
  induction f generalizing l with
  | zero => simp [chunks]
  | succ f ih =>
    rw [Nat.mul_succ] at hn
    cases l with
    | nil => simp [chunks]
    | cons a t =>
      intro x hx
      simp only [chunks, List.isEmpty_cons, Bool.false_eq_true, if_false, List.mem_cons] at hx
      rcases hx with hx | hx
      · subst hx; rw [List.length_take]; omega
      · exact ih _ (by rw [List.length_drop]; omega) x hx

/-- The last round key of every key has 16 bytes. -/
theorem aesKeys_last (key : Bytes) : 16 ≤ ((aesKeys key).getLastD []).length := by
  unfold aesKeys
  dsimp only
  have hw : ∀ x ∈ chunks (key.length / 4) 4 (key.map (·.toNat)), x.length = 4 :=
    chunks_whole _ _ _ (by rw [List.length_map]; omega)
  have hc : (chunks (key.length / 4) 4 (key.map (·.toNat))).length = key.length / 4 :=
    chunks_count _ _ _ (by rw [List.length_map]; omega) (by decide)
  have e := aesExpand_words (key.length / 4) (4 * (key.length / 4 + 7) - key.length / 4) (key.length / 4) 1
    (chunks (key.length / 4) 4 (key.map (·.toNat))).reverse (fun x hx => hw x (List.mem_reverse.mp hx))
  have l : (aesExpand (key.length / 4) (4 * (key.length / 4 + 7) - key.length / 4) (key.length / 4) 1
      (chunks (key.length / 4) 4 (key.map (·.toNat))).reverse).reverse.flatten.length = 16 * (key.length / 4 + 7) := by
    rw [flatten_fours _ (fun x hx => e.1 x (List.mem_reverse.mp hx)), List.length_reverse, e.2, List.length_reverse, hc]
    omega
  generalize (aesExpand (key.length / 4) (4 * (key.length / 4 + 7) - key.length / 4) (key.length / 4) 1
      (chunks (key.length / 4) 4 (key.map (·.toNat))).reverse).reverse.flatten = b at l
  have all := chunks_even 15 16 b ⟨_, l⟩
  cases hb : b with
  | nil => rw [hb] at l; simp only [List.length_nil] at l; omega
  | cons a t =>
    rw [hb] at all
    generalize hq : chunks 15 16 (a :: t) = q at all
    cases q with
    | nil => simp [chunks] at hq
    | cons y ys =>
      rw [List.getLastD_eq_getLast?, List.getLast?_eq_some_getLast (List.cons_ne_nil _ _), Option.getD_some]
      exact Nat.le_of_eq (all _ (List.getLast_mem _)).symm

/-- A block of AES has 16 bytes, whatever the key. -/
theorem aesEnc_length (key blk : Bytes) : (aesEnc key blk).length = 16 := aesEncK_length _ _ (aesKeys_last key)

/-- A CMAC has 16 bytes, whatever the key. -/
theorem cmac_length (key m : Bytes) : (cmac key m).length = 16 := aesEncK_length _ _ (aesKeys_last key)

/-- Counter mode keeps the length. -/
theorem ctrMode_length (w : Nat) (key ctr m : Bytes) : (ctrMode w key ctr m).length = m.length := by
  have e := xorBlocks_length (fun k => aesEncK (aesKeys key) (incBlock w k ctr)) (fun k => aesEncK_length _ _ (aesKeys_last key)) (blocks m) (chunks_bound _ _ _) 0
  have f : (blocks m).flatten = m := chunks_flatten _ _ _ (by decide) (by omega)
  rw [f] at e
  exact e

theorem bitsOf_length (b : Bytes) : (bitsOf b).length = 8 * b.length := by
  induction b with
  | nil => rfl
  | cons a t ih =>
    have h : bitsOf (a :: t) = (List.range 8).map (fun k => a.toNat.testBit (7 - k)) ++ bitsOf t := rfl
    rw [h, List.length_append, ih, List.length_map, List.length_range, List.length_cons]
    omega

/-- The keystream of a ranging sequence has its 4,096 bits (R131). -/
theorem rangingBits_length (key iv : Bytes) : (rangingBits key iv).length = 4096 := by
  unfold rangingBits
  rw [bitsOf_length, ctrMode_length, List.length_replicate]

theorem slice_left (o n : Nat) (a b : Bytes) (h : o + n ≤ a.length) : slice o n (a ++ b) = slice o n a := by
  unfold slice
  rw [List.drop_append_of_le_length (by omega), List.take_append_of_le_length (by rw [List.length_drop]; omega)]

theorem slice_right (o n : Nat) (a b : Bytes) (h : a.length = o) (g : b.length = n) : slice o n (a ++ b) = b := by
  unfold slice
  rw [← h, List.drop_left, ← g, List.take_length]

/-- A REPLY's MAC is not part of the message that it covers (R163). -/
theorem replyMessage_left (vid : Bytes) (wake : Nat) (vn : Bytes) (params : Nat) (a b : Bytes) (h : 39 ≤ a.length) :
    replyMessage vid wake vn params (a ++ b) = replyMessage vid wake vn params a := by
  unfold replyMessage
  rw [slice_left _ _ _ _ (by omega), slice_left _ _ _ _ (by omega), slice_left _ _ _ _ (by omega), slice_left _ _ _ _ (by omega), slice_left _ _ _ _ (by omega),
    slice_left _ _ _ _ (by omega)]

theorem xorBytes_twice (k : Bytes) : ∀ a : Bytes, a.length ≤ k.length → xorBytes (xorBytes a k) k = a := by
  induction k with
  | nil => intro a h; cases a with
    | nil => rfl
    | cons x t => simp at h
  | cons y k ih =>
    intro a h
    cases a with
    | nil => rfl
    | cons x t =>
      have := ih t (by simpa using h)
      simp only [xorBytes, List.zip_cons_cons, List.map_cons] at this ⊢
      rw [this, BitVec.xor_assoc, BitVec.xor_self, BitVec.xor_zero]

/-- Blocks XORed with 16-byte masks, block by block, and again, are as they were. -/
theorem xorBlocks_twice (e : Nat → Bytes) (he : ∀ k, (e k).length = 16) : ∀ (f : Nat) (m : Bytes) (n : Nat), m.length < f →
    ((chunks f 16 (((chunks f 16 m).zipIdx n).flatMap (fun q => xorBytes q.1 (e q.2)))).zipIdx n).flatMap (fun q => xorBytes q.1 (e q.2)) = m := by
  intro f
  induction f with
  | zero => intro m n h; omega
  | succ f ih =>
    intro m n h
    cases m with
    | nil => simp [chunks]
    | cons a t =>
      have hx : chunks (f + 1) 16 (a :: t) = (a :: t).take 16 :: chunks f 16 ((a :: t).drop 16) := by simp [chunks]
      have lx : (xorBytes ((a :: t).take 16) (e n)).length = ((a :: t).take 16).length := by
        simp only [xorBytes, List.length_map, List.length_zip, he, List.length_take]; omega
      rw [hx, List.zipIdx_cons, List.flatMap_cons]
      generalize hr : ((chunks f 16 ((a :: t).drop 16)).zipIdx (n + 1)).flatMap (fun q => xorBytes q.1 (e q.2)) = r
      have rl : r.length = ((a :: t).drop 16).length := by
        rw [← hr, xorBlocks_length e he _ (chunks_bound _ _ _), chunks_flatten _ _ _ (by decide) (by
          simp only [List.length_drop, List.length_cons] at *; omega)]
      have cut : chunks (f + 1) 16 (xorBytes ((a :: t).take 16) (e n) ++ r) = xorBytes ((a :: t).take 16) (e n) :: chunks f 16 r := by
        have ne : (xorBytes ((a :: t).take 16) (e n) ++ r).isEmpty = false := by
          rw [List.isEmpty_eq_false_iff_exists_mem]
          have : 0 < (xorBytes ((a :: t).take 16) (e n) ++ r).length := by
            rw [List.length_append, lx]; simp only [List.length_take, List.length_cons]; omega
          exact List.exists_mem_of_length_pos this
        have tk : (xorBytes ((a :: t).take 16) (e n) ++ r).take 16 = xorBytes ((a :: t).take 16) (e n) ∧
            (xorBytes ((a :: t).take 16) (e n) ++ r).drop 16 = r := by
          by_cases g : 16 ≤ (a :: t).length
          · have l16 : (xorBytes ((a :: t).take 16) (e n)).length = 16 := by rw [lx, List.length_take]; omega
            exact ⟨List.take_left' l16, List.drop_left' l16⟩
          · have r0 : r = [] := List.eq_nil_of_length_eq_zero (by rw [rl, List.length_drop]; omega)
            rw [r0, List.append_nil]
            have le : (xorBytes ((a :: t).take 16) (e n)).length ≤ 16 := by rw [lx, List.length_take]; omega
            exact ⟨List.take_of_length_le le, List.drop_eq_nil_of_le le⟩
        show (if _ then _ else _) = _
        rw [ne]
        simp only [Bool.false_eq_true, if_false]
        rw [tk.1, tk.2]
      rw [cut, List.zipIdx_cons, List.flatMap_cons, xorBytes_twice _ _ (by rw [he, List.length_take]; omega)]
      rw [← hr, ih _ _ (by simp only [List.length_drop, List.length_cons] at *; omega), List.take_append_drop]

/-- Counter mode undoes itself. -/
theorem ctrMode_twice (w : Nat) (key ctr m : Bytes) : ctrMode w key ctr (ctrMode w key ctr m) = m := by
  have l := ctrMode_length w key ctr m
  have e := xorBlocks_twice (fun k => aesEncK (aesKeys key) (incBlock w k ctr)) (fun k => aesEncK_length _ _ (aesKeys_last key)) (m.length + 1) m 0 (by omega)
  show ((chunks ((ctrMode w key ctr m).length + 1) 16 (ctrMode w key ctr m)).zipIdx).flatMap _ = m
  rw [l]
  exact e

theorem leBytes_length (n v : Nat) : (leBytes n v).length = n := by
  induction n generalizing v with
  | zero => rfl
  | succ n ih => simp [leBytes, ih]

theorem beBytes_length (n v : Nat) : (beBytes n v).length = n := by
  rw [beBytes, List.length_reverse, leBytes_length]

/-- A GCM tag has 16 bytes. -/
theorem gcmTag_length (key iv aad ct : Bytes) : (gcmTag key iv aad ct).length = 16 := by
  simp only [gcmTag, xorBytes, List.length_map, List.length_zip, beBytes_length, aesEnc_length]
  rfl

/-- What GCM encrypts it decrypts. -/
theorem gcmDec_gcmEnc (key iv aad m : Bytes) : gcmDec key iv aad (gcmEnc key iv aad m).1 (gcmEnc key iv aad m).2 = some m := by
  unfold gcmDec gcmEnc
  dsimp only
  rw [List.take_length, if_pos rfl]
  unfold gcmCrypt
  rw [ctrMode_twice]

end Sys2Proof.Machine
end

