-- ==== Sys2Proof/Laws/Curves.lean ====
section
/-! SUPPORT. Powers modulo a number, and the neutral point of Ed25519. -/

namespace Sys2Proof.Machine
open Sys2Proof

/-- The neutral point with a power of 2 as its z. -/
def edNeutral (e : Nat) : EdPoint := [0, 2 ^ e % p25519, 2 ^ e % p25519, 0]

theorem pow_mod_mul (a b : Nat) : 2 ^ a % p25519 * (2 ^ b % p25519) % p25519 = 2 ^ (a + b) % p25519 := by
  rw [← Nat.mul_mod, ← Nat.pow_add]

theorem subMod_self (a p : Nat) : subMod a a p = 0 := by
  unfold subMod
  rw [Nat.add_comm, Nat.add_sub_cancel, Nat.mod_self]

theorem subMod_zero (a p : Nat) : subMod a 0 p = a % p := by
  unfold subMod
  simp

theorem edAdd_neutral (a b : Nat) : edAdd (edNeutral a) (edNeutral b) = edNeutral (2 + 2 * a + 2 * b) := by
  unfold edAdd edNeutral
  simp only [List.getD_cons_zero, List.getD_cons_succ, subMod_zero, Nat.mod_mod, Nat.add_zero, Nat.mul_zero, Nat.zero_mul, Nat.zero_mod,
    subMod_self, pow_mod_mul]
  have k : 2 * (2 ^ a % p25519) * (2 ^ b % p25519) % p25519 = 2 ^ (1 + a + b) % p25519 := by
    rw [show 2 * (2 ^ a % p25519) * (2 ^ b % p25519) = 2 * ((2 ^ a % p25519) * (2 ^ b % p25519)) by rw [Nat.mul_assoc], Nat.mul_mod, pow_mod_mul]
    rw [← Nat.mul_mod, show 1 + a + b = (a + b) + 1 by omega, Nat.pow_succ, Nat.mul_comm]
  have e2 : (2 ^ (a + b) % p25519 + 2 ^ (a + b) % p25519) % p25519 = 2 ^ (1 + a + b) % p25519 := by
    rw [← Nat.add_mod, show 1 + a + b = (a + b) + 1 by omega, Nat.pow_succ, Nat.mul_comm, Nat.two_mul]
  rw [k, e2, pow_mod_mul]
  have e3 : 1 + a + b + (1 + a + b) = 2 + 2 * a + 2 * b := by omega
  rw [e3]

theorem edMul_zero : ∀ f q, edMul f 0 q = edNeutral 0
  | 0, _ => rfl
  | f + 1, q => by rw [edMul]; simp [edMul_zero f]

theorem edMul_neutral : ∀ f k e, ∃ d, edMul f k (edNeutral e) = edNeutral d
  | 0, _, _ => ⟨0, rfl⟩
  | f + 1, k, e => by
    rw [edMul, edAdd_neutral]
    obtain ⟨d, h⟩ := edMul_neutral f (k / 2) (2 + 2 * e + 2 * e)
    rw [h]
    split
    · exact ⟨_, edAdd_neutral d e⟩
    · exact ⟨d, rfl⟩

theorem powMod_mod (f b e m : Nat) : powMod f (b % m) e m % m = powMod f b e m % m := by
  cases f with
  | zero => rfl
  | succ f => 
    simp only [powMod]
    rw [← Nat.mul_mod]
    split
    · rw [Nat.mod_mod, Nat.mod_mod, Nat.mul_mod, Nat.mod_mod, ← Nat.mul_mod]
    · rfl

/-- powMod is the power modulo m. -/
theorem powMod_eq : ∀ f b e m, e < 2 ^ f → powMod f b e m % m = b ^ e % m
  | 0, b, e, m, h => by
    have : e = 0 := by simp at h; omega
    subst this; simp [powMod]
  | f + 1, b, e, m, h => by
    have ih := powMod_eq f (b * b % m) (e / 2) m (by rw [Nat.pow_succ] at h; omega)
    rw [← Nat.pow_mod, ← Nat.pow_two, ← Nat.pow_mul] at ih
    simp only [powMod]
    split
    · rw [Nat.mod_mod, ← Nat.pow_two, Nat.mul_mod, ih, ← Nat.mul_mod, ← Nat.pow_succ]
      congr 2; omega
    · rw [← Nat.pow_two, ih]; congr 2; omega

theorem neutral_inv (e : Nat) : 2 ^ e % p25519 * invMod (2 ^ e % p25519) p25519 % p25519 = 1 := by
  have f : 2 ^ (p25519 - 1) % p25519 = 1 := by rw [← powMod_eq 521 _ _ _ (by decide +kernel)]; decide +kernel
  have g : (2 ^ e) ^ (p25519 - 2) * 2 ^ e = (2 ^ (p25519 - 1)) ^ e := by
    rw [← Nat.pow_succ, ← Nat.pow_mul, ← Nat.pow_mul, Nat.mul_comm]
    rfl
  unfold invMod
  rw [Nat.mod_mod, Nat.mul_mod, powMod_eq 521 _ _ _ (by decide +kernel), ← Nat.pow_mod, Nat.mod_mod, ← Nat.mul_mod, Nat.mul_comm, g, Nat.pow_mod, f, Nat.one_pow]
  decide

theorem edEncode_neutral (e : Nat) : edEncode (edNeutral e) = leBytes 32 1 := by
  unfold edEncode edNeutral
  simp only [List.getD_cons_zero, List.getD_cons_succ, Nat.zero_mul, Nat.zero_mod, neutral_inv, Nat.add_zero]

/-- Under the neutral point as its public key, the signature of zero verifies over every message. -/
theorem edVerify_neutral (m : Bytes) : edVerify (1 :: List.replicate 31 0) m (1 :: List.replicate 63 0) = true := by
  have d : edDecode (1 :: List.replicate 31 0) = some (edNeutral 0) := by decide +kernel
  have t : (1 :: List.replicate 63 0 : Bytes).take 32 = 1 :: List.replicate 31 0 := by decide
  have z : leNat (slice 32 32 (1 :: List.replicate 63 0)) = 0 := by decide
  unfold edVerify
  rw [t, d, z]
  simp only [edMul_zero]
  obtain ⟨x, h⟩ := edMul_neutral 253 (leNat (sha512 (1 :: List.replicate 31 0 ++ (1 :: List.replicate 31 0 : Bytes).take 32 ++ m)) % ed25519L) 0
  rw [h, edAdd_neutral, edEncode_neutral, edEncode_neutral]
  decide

/-- The same of a key of the type Ed25519. -/
theorem verifyWith_neutral (m : Bytes) : verifyWith 0x14 (1 :: List.replicate 31 0) m false (1 :: List.replicate 63 0) = some true := by
  have d : edDecode (1 :: List.replicate 31 0) = some (edNeutral 0) := by decide +kernel
  unfold verifyWith
  rw [show curveOf 0x14 = none by decide]
  dsimp only
  rw [d, edVerify_neutral]
  rfl

end Sys2Proof.Machine
end

