-- ==== Sys2Proof/Laws/State.lean ====
section
/-! SUPPORT. What the shared operations leave alone: one lemma for each field and operation, for simp. -/

namespace Sys2Proof.Machine

open Sys2Proof

@[simp] theorem State.tick_us (s : State) (dt : Nat) : (s.tick dt).us = s.us := rfl
@[simp] theorem State.tick_sticky (s : State) (dt : Nat) : (s.tick dt).sticky = s.sticky := rfl
@[simp] theorem State.tick_objs (s : State) (dt : Nat) : (s.tick dt).objs = s.objs := rfl
@[simp] theorem State.tick_snaps (s : State) (dt : Nat) : (s.tick dt).snaps = s.snaps := rfl
@[simp] theorem State.tick_refused (s : State) (dt : Nat) : (s.tick dt).refused = s.refused := rfl
@[simp] theorem State.tick_evq (s : State) (dt : Nat) : (s.tick dt).evq = s.evq := rfl
@[simp] theorem State.tick_evLost (s : State) (dt : Nat) : (s.tick dt).evLost = s.evLost := rfl
@[simp] theorem State.tick_dict (s : State) (dt : Nat) : (s.tick dt).dict = s.dict := rfl
@[simp] theorem State.tick_host (s : State) (dt : Nat) : (s.tick dt).host = s.host := rfl
@[simp] theorem State.tick_lf (s : State) (dt : Nat) : (s.tick dt).lf = s.lf := rfl
@[simp] theorem State.tick_phy (s : State) (dt : Nat) : (s.tick dt).phy = s.phy := rfl
@[simp] theorem State.tick_nv (s : State) (dt : Nat) : (s.tick dt).nv = s.nv := rfl
@[simp] theorem State.tick_jr (s : State) (dt : Nat) : (s.tick dt).jr = s.jr := rfl
@[simp] theorem State.tick_sup (s : State) (dt : Nat) : (s.tick dt).sup = s.sup := rfl
@[simp] theorem State.tick_timers (s : State) (dt : Nat) : (s.tick dt).timers = s.timers := rfl
@[simp] theorem State.tick_dist (s : State) (dt : Nat) : (s.tick dt).dist = s.dist := rfl
@[simp] theorem State.tick_gnss (s : State) (dt : Nat) : (s.tick dt).gnss = s.gnss := rfl
@[simp] theorem State.tick_sched (s : State) (dt : Nat) : (s.tick dt).sched = s.sched := rfl
@[simp] theorem State.tick_can0 (s : State) (dt : Nat) : (s.tick dt).can0 = s.can0 := rfl
@[simp] theorem State.tick_can1 (s : State) (dt : Nat) : (s.tick dt).can1 = s.can1 := rfl
@[simp] theorem State.tick_bell (s : State) (dt : Nat) : (s.tick dt).bell = s.bell := rfl
@[simp] theorem State.tick_pol (s : State) (dt : Nat) : (s.tick dt).pol = s.pol := rfl
@[simp] theorem State.tick_cipher (s : State) (dt : Nat) : (s.tick dt).cipher = s.cipher := rfl
@[simp] theorem State.tick_pk (s : State) (dt : Nat) : (s.tick dt).pk = s.pk := rfl
@[simp] theorem State.tick_ks (s : State) (dt : Nat) : (s.tick dt).ks = s.ks := rfl
@[simp] theorem State.tick_rng (s : State) (dt : Nat) : (s.tick dt).rng = s.rng := rfl
@[simp] theorem State.tick_cx (s : State) (dt : Nat) : (s.tick dt).cx = s.cx := rfl
@[simp] theorem State.tick_loc (s : State) (dt : Nat) : (s.tick dt).loc = s.loc := rfl
@[simp] theorem State.tick_tag (s : State) (dt : Nat) : (s.tick dt).tag = s.tag := rfl
@[simp] theorem State.tick_tagd (s : State) (dt : Nat) : (s.tick dt).tagd = s.tagd := rfl
@[simp] theorem State.tick_rr (s : State) (dt : Nat) : (s.tick dt).rr = s.rr := rfl
@[simp] theorem State.tick_medium (s : State) (dt : Nat) : (s.tick dt).medium = s.medium := rfl
@[simp] theorem State.tick_free (s : State) (dt : Nat) : (s.tick dt).free = s.free := rfl
@[simp] theorem State.tick_pending (s : State) (dt : Nat) : (s.tick dt).pending = s.pending := rfl
@[simp] theorem State.tick_aon_mode (s : State) (dt : Nat) : (s.tick dt).aon.mode = s.aon.mode := rfl
@[simp] theorem State.tick_aon_resetKind (s : State) (dt : Nat) : (s.tick dt).aon.resetKind = s.aon.resetKind := rfl
@[simp] theorem State.tick_aon_wake (s : State) (dt : Nat) : (s.tick dt).aon.wake = s.aon.wake := rfl
@[simp] theorem State.tick_aon_trim (s : State) (dt : Nat) : (s.tick dt).aon.trim = s.aon.trim := rfl
@[simp] theorem State.tick_aon_history (s : State) (dt : Nat) : (s.tick dt).aon.history = s.aon.history := rfl
@[simp] theorem State.tick_aon_latches (s : State) (dt : Nat) : (s.tick dt).aon.latches = s.aon.latches := rfl
@[simp] theorem State.tick_aon_meshBad (s : State) (dt : Nat) : (s.tick dt).aon.meshBad = s.aon.meshBad := rfl
@[simp] theorem State.tick_aon_loopBad (s : State) (dt : Nat) : (s.tick dt).aon.loopBad = s.aon.loopBad := rfl
@[simp] theorem State.tick_aon_offline (s : State) (dt : Nat) : (s.tick dt).aon.offline = s.aon.offline := rfl
@[simp] theorem State.tick_aon_marks (s : State) (dt : Nat) : (s.tick dt).aon.marks = s.aon.marks := rfl
@[simp] theorem State.tick_aon_acc (s : State) (dt : Nat) : (s.tick dt).aon.acc = s.aon.acc := rfl
@[simp] theorem State.tick_aon_accLost (s : State) (dt : Nat) : (s.tick dt).aon.accLost = s.aon.accLost := rfl
@[simp] theorem State.tick_aon_parked (s : State) (dt : Nat) : (s.tick dt).aon.parked = s.aon.parked := rfl
@[simp] theorem State.tick_aon_msIn (s : State) (dt : Nat) : (s.tick dt).aon.msIn = s.aon.msIn := rfl
@[simp] theorem State.tick_aon_doorIn (s : State) (dt : Nat) : (s.tick dt).aon.doorIn = s.aon.doorIn := rfl
@[simp] theorem State.tick_aon_rfIn (s : State) (dt : Nat) : (s.tick dt).aon.rfIn = s.aon.rfIn := rfl
@[simp] theorem State.tick_aon_can0In (s : State) (dt : Nat) : (s.tick dt).aon.can0In = s.aon.can0In := rfl
@[simp] theorem State.tick_aon_can1In (s : State) (dt : Nat) : (s.tick dt).aon.can1In = s.aon.can1In := rfl
@[simp] theorem State.tick_aon_rooster (s : State) (dt : Nat) : (s.tick dt).aon.rooster = s.aon.rooster := rfl

@[simp] theorem State.setUnit_now (s : State) (uid st : Nat) : (s.setUnit uid st).now = s.now := rfl
@[simp] theorem State.setUnit_sticky (s : State) (uid st : Nat) : (s.setUnit uid st).sticky = s.sticky := rfl
@[simp] theorem State.setUnit_objs (s : State) (uid st : Nat) : (s.setUnit uid st).objs = s.objs := rfl
@[simp] theorem State.setUnit_snaps (s : State) (uid st : Nat) : (s.setUnit uid st).snaps = s.snaps := rfl
@[simp] theorem State.setUnit_refused (s : State) (uid st : Nat) : (s.setUnit uid st).refused = s.refused := rfl
@[simp] theorem State.setUnit_evq (s : State) (uid st : Nat) : (s.setUnit uid st).evq = s.evq := rfl
@[simp] theorem State.setUnit_evLost (s : State) (uid st : Nat) : (s.setUnit uid st).evLost = s.evLost := rfl
@[simp] theorem State.setUnit_dict (s : State) (uid st : Nat) : (s.setUnit uid st).dict = s.dict := rfl
@[simp] theorem State.setUnit_host (s : State) (uid st : Nat) : (s.setUnit uid st).host = s.host := rfl
@[simp] theorem State.setUnit_lf (s : State) (uid st : Nat) : (s.setUnit uid st).lf = s.lf := rfl
@[simp] theorem State.setUnit_phy (s : State) (uid st : Nat) : (s.setUnit uid st).phy = s.phy := rfl
@[simp] theorem State.setUnit_nv (s : State) (uid st : Nat) : (s.setUnit uid st).nv = s.nv := rfl
@[simp] theorem State.setUnit_jr (s : State) (uid st : Nat) : (s.setUnit uid st).jr = s.jr := rfl
@[simp] theorem State.setUnit_sup (s : State) (uid st : Nat) : (s.setUnit uid st).sup = s.sup := rfl
@[simp] theorem State.setUnit_timers (s : State) (uid st : Nat) : (s.setUnit uid st).timers = s.timers := rfl
@[simp] theorem State.setUnit_dist (s : State) (uid st : Nat) : (s.setUnit uid st).dist = s.dist := rfl
@[simp] theorem State.setUnit_gnss (s : State) (uid st : Nat) : (s.setUnit uid st).gnss = s.gnss := rfl
@[simp] theorem State.setUnit_sched (s : State) (uid st : Nat) : (s.setUnit uid st).sched = s.sched := rfl
@[simp] theorem State.setUnit_can0 (s : State) (uid st : Nat) : (s.setUnit uid st).can0 = s.can0 := rfl
@[simp] theorem State.setUnit_can1 (s : State) (uid st : Nat) : (s.setUnit uid st).can1 = s.can1 := rfl
@[simp] theorem State.setUnit_bell (s : State) (uid st : Nat) : (s.setUnit uid st).bell = s.bell := rfl
@[simp] theorem State.setUnit_pol (s : State) (uid st : Nat) : (s.setUnit uid st).pol = s.pol := rfl
@[simp] theorem State.setUnit_cipher (s : State) (uid st : Nat) : (s.setUnit uid st).cipher = s.cipher := rfl
@[simp] theorem State.setUnit_pk (s : State) (uid st : Nat) : (s.setUnit uid st).pk = s.pk := rfl
@[simp] theorem State.setUnit_ks (s : State) (uid st : Nat) : (s.setUnit uid st).ks = s.ks := rfl
@[simp] theorem State.setUnit_rng (s : State) (uid st : Nat) : (s.setUnit uid st).rng = s.rng := rfl
@[simp] theorem State.setUnit_cx (s : State) (uid st : Nat) : (s.setUnit uid st).cx = s.cx := rfl
@[simp] theorem State.setUnit_loc (s : State) (uid st : Nat) : (s.setUnit uid st).loc = s.loc := rfl
@[simp] theorem State.setUnit_tag (s : State) (uid st : Nat) : (s.setUnit uid st).tag = s.tag := rfl
@[simp] theorem State.setUnit_tagd (s : State) (uid st : Nat) : (s.setUnit uid st).tagd = s.tagd := rfl
@[simp] theorem State.setUnit_aon (s : State) (uid st : Nat) : (s.setUnit uid st).aon = s.aon := rfl
@[simp] theorem State.setUnit_rr (s : State) (uid st : Nat) : (s.setUnit uid st).rr = s.rr := rfl
@[simp] theorem State.setUnit_medium (s : State) (uid st : Nat) : (s.setUnit uid st).medium = s.medium := rfl
@[simp] theorem State.setUnit_free (s : State) (uid st : Nat) : (s.setUnit uid st).free = s.free := rfl
@[simp] theorem State.setUnit_pending (s : State) (uid st : Nat) : (s.setUnit uid st).pending = s.pending := rfl

@[simp] theorem State.stick_now (s : State) (uid b : Nat) : (s.stick uid b).now = s.now := rfl
@[simp] theorem State.stick_us (s : State) (uid b : Nat) : (s.stick uid b).us = s.us := rfl
@[simp] theorem State.stick_objs (s : State) (uid b : Nat) : (s.stick uid b).objs = s.objs := rfl
@[simp] theorem State.stick_snaps (s : State) (uid b : Nat) : (s.stick uid b).snaps = s.snaps := rfl
@[simp] theorem State.stick_refused (s : State) (uid b : Nat) : (s.stick uid b).refused = s.refused := rfl
@[simp] theorem State.stick_evq (s : State) (uid b : Nat) : (s.stick uid b).evq = s.evq := rfl
@[simp] theorem State.stick_evLost (s : State) (uid b : Nat) : (s.stick uid b).evLost = s.evLost := rfl
@[simp] theorem State.stick_dict (s : State) (uid b : Nat) : (s.stick uid b).dict = s.dict := rfl
@[simp] theorem State.stick_host (s : State) (uid b : Nat) : (s.stick uid b).host = s.host := rfl
@[simp] theorem State.stick_lf (s : State) (uid b : Nat) : (s.stick uid b).lf = s.lf := rfl
@[simp] theorem State.stick_phy (s : State) (uid b : Nat) : (s.stick uid b).phy = s.phy := rfl
@[simp] theorem State.stick_nv (s : State) (uid b : Nat) : (s.stick uid b).nv = s.nv := rfl
@[simp] theorem State.stick_jr (s : State) (uid b : Nat) : (s.stick uid b).jr = s.jr := rfl
@[simp] theorem State.stick_sup (s : State) (uid b : Nat) : (s.stick uid b).sup = s.sup := rfl
@[simp] theorem State.stick_timers (s : State) (uid b : Nat) : (s.stick uid b).timers = s.timers := rfl
@[simp] theorem State.stick_dist (s : State) (uid b : Nat) : (s.stick uid b).dist = s.dist := rfl
@[simp] theorem State.stick_gnss (s : State) (uid b : Nat) : (s.stick uid b).gnss = s.gnss := rfl
@[simp] theorem State.stick_sched (s : State) (uid b : Nat) : (s.stick uid b).sched = s.sched := rfl
@[simp] theorem State.stick_can0 (s : State) (uid b : Nat) : (s.stick uid b).can0 = s.can0 := rfl
@[simp] theorem State.stick_can1 (s : State) (uid b : Nat) : (s.stick uid b).can1 = s.can1 := rfl
@[simp] theorem State.stick_bell (s : State) (uid b : Nat) : (s.stick uid b).bell = s.bell := rfl
@[simp] theorem State.stick_pol (s : State) (uid b : Nat) : (s.stick uid b).pol = s.pol := rfl
@[simp] theorem State.stick_cipher (s : State) (uid b : Nat) : (s.stick uid b).cipher = s.cipher := rfl
@[simp] theorem State.stick_pk (s : State) (uid b : Nat) : (s.stick uid b).pk = s.pk := rfl
@[simp] theorem State.stick_ks (s : State) (uid b : Nat) : (s.stick uid b).ks = s.ks := rfl
@[simp] theorem State.stick_rng (s : State) (uid b : Nat) : (s.stick uid b).rng = s.rng := rfl
@[simp] theorem State.stick_cx (s : State) (uid b : Nat) : (s.stick uid b).cx = s.cx := rfl
@[simp] theorem State.stick_loc (s : State) (uid b : Nat) : (s.stick uid b).loc = s.loc := rfl
@[simp] theorem State.stick_tag (s : State) (uid b : Nat) : (s.stick uid b).tag = s.tag := rfl
@[simp] theorem State.stick_tagd (s : State) (uid b : Nat) : (s.stick uid b).tagd = s.tagd := rfl
@[simp] theorem State.stick_aon (s : State) (uid b : Nat) : (s.stick uid b).aon = s.aon := rfl
@[simp] theorem State.stick_rr (s : State) (uid b : Nat) : (s.stick uid b).rr = s.rr := rfl
@[simp] theorem State.stick_medium (s : State) (uid b : Nat) : (s.stick uid b).medium = s.medium := rfl
@[simp] theorem State.stick_free (s : State) (uid b : Nat) : (s.stick uid b).free = s.free := rfl
@[simp] theorem State.stick_pending (s : State) (uid b : Nat) : (s.stick uid b).pending = s.pending := rfl

@[simp] theorem State.touched_now (s : State) (k : Nat) : (s.touched k).now = s.now := rfl
@[simp] theorem State.touched_us (s : State) (k : Nat) : (s.touched k).us = s.us := rfl
@[simp] theorem State.touched_sticky (s : State) (k : Nat) : (s.touched k).sticky = s.sticky := rfl
@[simp] theorem State.touched_objs (s : State) (k : Nat) : (s.touched k).objs = s.objs := rfl
@[simp] theorem State.touched_snaps (s : State) (k : Nat) : (s.touched k).snaps = s.snaps := rfl
@[simp] theorem State.touched_evq (s : State) (k : Nat) : (s.touched k).evq = s.evq := rfl
@[simp] theorem State.touched_evLost (s : State) (k : Nat) : (s.touched k).evLost = s.evLost := rfl
@[simp] theorem State.touched_dict (s : State) (k : Nat) : (s.touched k).dict = s.dict := rfl
@[simp] theorem State.touched_host (s : State) (k : Nat) : (s.touched k).host = s.host := rfl
@[simp] theorem State.touched_lf (s : State) (k : Nat) : (s.touched k).lf = s.lf := rfl
@[simp] theorem State.touched_phy (s : State) (k : Nat) : (s.touched k).phy = s.phy := rfl
@[simp] theorem State.touched_nv (s : State) (k : Nat) : (s.touched k).nv = s.nv := rfl
@[simp] theorem State.touched_jr (s : State) (k : Nat) : (s.touched k).jr = s.jr := rfl
@[simp] theorem State.touched_sup (s : State) (k : Nat) : (s.touched k).sup = s.sup := rfl
@[simp] theorem State.touched_timers (s : State) (k : Nat) : (s.touched k).timers = s.timers := rfl
@[simp] theorem State.touched_dist (s : State) (k : Nat) : (s.touched k).dist = s.dist := rfl
@[simp] theorem State.touched_gnss (s : State) (k : Nat) : (s.touched k).gnss = s.gnss := rfl
@[simp] theorem State.touched_sched (s : State) (k : Nat) : (s.touched k).sched = s.sched := rfl
@[simp] theorem State.touched_can0 (s : State) (k : Nat) : (s.touched k).can0 = s.can0 := rfl
@[simp] theorem State.touched_can1 (s : State) (k : Nat) : (s.touched k).can1 = s.can1 := rfl
@[simp] theorem State.touched_bell (s : State) (k : Nat) : (s.touched k).bell = s.bell := rfl
@[simp] theorem State.touched_pol (s : State) (k : Nat) : (s.touched k).pol = s.pol := rfl
@[simp] theorem State.touched_cipher (s : State) (k : Nat) : (s.touched k).cipher = s.cipher := rfl
@[simp] theorem State.touched_pk (s : State) (k : Nat) : (s.touched k).pk = s.pk := rfl
@[simp] theorem State.touched_ks (s : State) (k : Nat) : (s.touched k).ks = s.ks := rfl
@[simp] theorem State.touched_rng (s : State) (k : Nat) : (s.touched k).rng = s.rng := rfl
@[simp] theorem State.touched_cx (s : State) (k : Nat) : (s.touched k).cx = s.cx := rfl
@[simp] theorem State.touched_loc (s : State) (k : Nat) : (s.touched k).loc = s.loc := rfl
@[simp] theorem State.touched_tag (s : State) (k : Nat) : (s.touched k).tag = s.tag := rfl
@[simp] theorem State.touched_tagd (s : State) (k : Nat) : (s.touched k).tagd = s.tagd := rfl
@[simp] theorem State.touched_aon (s : State) (k : Nat) : (s.touched k).aon = s.aon := rfl
@[simp] theorem State.touched_rr (s : State) (k : Nat) : (s.touched k).rr = s.rr := rfl
@[simp] theorem State.touched_medium (s : State) (k : Nat) : (s.touched k).medium = s.medium := rfl
@[simp] theorem State.touched_free (s : State) (k : Nat) : (s.touched k).free = s.free := rfl
@[simp] theorem State.touched_pending (s : State) (k : Nat) : (s.touched k).pending = s.pending := rfl

@[simp] theorem State.touchIx_now (s : State) (ix : Nat) : (s.touchIx ix).now = s.now := rfl
@[simp] theorem State.touchIx_us (s : State) (ix : Nat) : (s.touchIx ix).us = s.us := rfl
@[simp] theorem State.touchIx_sticky (s : State) (ix : Nat) : (s.touchIx ix).sticky = s.sticky := rfl
@[simp] theorem State.touchIx_objs (s : State) (ix : Nat) : (s.touchIx ix).objs = s.objs := rfl
@[simp] theorem State.touchIx_snaps (s : State) (ix : Nat) : (s.touchIx ix).snaps = s.snaps := rfl
@[simp] theorem State.touchIx_evq (s : State) (ix : Nat) : (s.touchIx ix).evq = s.evq := rfl
@[simp] theorem State.touchIx_evLost (s : State) (ix : Nat) : (s.touchIx ix).evLost = s.evLost := rfl
@[simp] theorem State.touchIx_dict (s : State) (ix : Nat) : (s.touchIx ix).dict = s.dict := rfl
@[simp] theorem State.touchIx_host (s : State) (ix : Nat) : (s.touchIx ix).host = s.host := rfl
@[simp] theorem State.touchIx_lf (s : State) (ix : Nat) : (s.touchIx ix).lf = s.lf := rfl
@[simp] theorem State.touchIx_phy (s : State) (ix : Nat) : (s.touchIx ix).phy = s.phy := rfl
@[simp] theorem State.touchIx_nv (s : State) (ix : Nat) : (s.touchIx ix).nv = s.nv := rfl
@[simp] theorem State.touchIx_jr (s : State) (ix : Nat) : (s.touchIx ix).jr = s.jr := rfl
@[simp] theorem State.touchIx_sup (s : State) (ix : Nat) : (s.touchIx ix).sup = s.sup := rfl
@[simp] theorem State.touchIx_timers (s : State) (ix : Nat) : (s.touchIx ix).timers = s.timers := rfl
@[simp] theorem State.touchIx_dist (s : State) (ix : Nat) : (s.touchIx ix).dist = s.dist := rfl
@[simp] theorem State.touchIx_gnss (s : State) (ix : Nat) : (s.touchIx ix).gnss = s.gnss := rfl
@[simp] theorem State.touchIx_sched (s : State) (ix : Nat) : (s.touchIx ix).sched = s.sched := rfl
@[simp] theorem State.touchIx_can0 (s : State) (ix : Nat) : (s.touchIx ix).can0 = s.can0 := rfl
@[simp] theorem State.touchIx_can1 (s : State) (ix : Nat) : (s.touchIx ix).can1 = s.can1 := rfl
@[simp] theorem State.touchIx_bell (s : State) (ix : Nat) : (s.touchIx ix).bell = s.bell := rfl
@[simp] theorem State.touchIx_pol (s : State) (ix : Nat) : (s.touchIx ix).pol = s.pol := rfl
@[simp] theorem State.touchIx_cipher (s : State) (ix : Nat) : (s.touchIx ix).cipher = s.cipher := rfl
@[simp] theorem State.touchIx_pk (s : State) (ix : Nat) : (s.touchIx ix).pk = s.pk := rfl
@[simp] theorem State.touchIx_ks (s : State) (ix : Nat) : (s.touchIx ix).ks = s.ks := rfl
@[simp] theorem State.touchIx_rng (s : State) (ix : Nat) : (s.touchIx ix).rng = s.rng := rfl
@[simp] theorem State.touchIx_cx (s : State) (ix : Nat) : (s.touchIx ix).cx = s.cx := rfl
@[simp] theorem State.touchIx_loc (s : State) (ix : Nat) : (s.touchIx ix).loc = s.loc := rfl
@[simp] theorem State.touchIx_tag (s : State) (ix : Nat) : (s.touchIx ix).tag = s.tag := rfl
@[simp] theorem State.touchIx_tagd (s : State) (ix : Nat) : (s.touchIx ix).tagd = s.tagd := rfl
@[simp] theorem State.touchIx_aon (s : State) (ix : Nat) : (s.touchIx ix).aon = s.aon := rfl
@[simp] theorem State.touchIx_rr (s : State) (ix : Nat) : (s.touchIx ix).rr = s.rr := rfl
@[simp] theorem State.touchIx_medium (s : State) (ix : Nat) : (s.touchIx ix).medium = s.medium := rfl
@[simp] theorem State.touchIx_free (s : State) (ix : Nat) : (s.touchIx ix).free = s.free := rfl
@[simp] theorem State.touchIx_pending (s : State) (ix : Nat) : (s.touchIx ix).pending = s.pending := rfl

@[simp] theorem State.setCtx_now (s : State) (x : ClientCtx) : (s.setCtx x).now = s.now := rfl
@[simp] theorem State.setCtx_us (s : State) (x : ClientCtx) : (s.setCtx x).us = s.us := rfl
@[simp] theorem State.setCtx_sticky (s : State) (x : ClientCtx) : (s.setCtx x).sticky = s.sticky := rfl
@[simp] theorem State.setCtx_objs (s : State) (x : ClientCtx) : (s.setCtx x).objs = s.objs := rfl
@[simp] theorem State.setCtx_snaps (s : State) (x : ClientCtx) : (s.setCtx x).snaps = s.snaps := rfl
@[simp] theorem State.setCtx_refused (s : State) (x : ClientCtx) : (s.setCtx x).refused = s.refused := rfl
@[simp] theorem State.setCtx_evq (s : State) (x : ClientCtx) : (s.setCtx x).evq = s.evq := rfl
@[simp] theorem State.setCtx_evLost (s : State) (x : ClientCtx) : (s.setCtx x).evLost = s.evLost := rfl
@[simp] theorem State.setCtx_host (s : State) (x : ClientCtx) : (s.setCtx x).host = s.host := rfl
@[simp] theorem State.setCtx_lf (s : State) (x : ClientCtx) : (s.setCtx x).lf = s.lf := rfl
@[simp] theorem State.setCtx_phy (s : State) (x : ClientCtx) : (s.setCtx x).phy = s.phy := rfl
@[simp] theorem State.setCtx_nv (s : State) (x : ClientCtx) : (s.setCtx x).nv = s.nv := rfl
@[simp] theorem State.setCtx_jr (s : State) (x : ClientCtx) : (s.setCtx x).jr = s.jr := rfl
@[simp] theorem State.setCtx_sup (s : State) (x : ClientCtx) : (s.setCtx x).sup = s.sup := rfl
@[simp] theorem State.setCtx_timers (s : State) (x : ClientCtx) : (s.setCtx x).timers = s.timers := rfl
@[simp] theorem State.setCtx_dist (s : State) (x : ClientCtx) : (s.setCtx x).dist = s.dist := rfl
@[simp] theorem State.setCtx_gnss (s : State) (x : ClientCtx) : (s.setCtx x).gnss = s.gnss := rfl
@[simp] theorem State.setCtx_sched (s : State) (x : ClientCtx) : (s.setCtx x).sched = s.sched := rfl
@[simp] theorem State.setCtx_can0 (s : State) (x : ClientCtx) : (s.setCtx x).can0 = s.can0 := rfl
@[simp] theorem State.setCtx_can1 (s : State) (x : ClientCtx) : (s.setCtx x).can1 = s.can1 := rfl
@[simp] theorem State.setCtx_bell (s : State) (x : ClientCtx) : (s.setCtx x).bell = s.bell := rfl
@[simp] theorem State.setCtx_pol (s : State) (x : ClientCtx) : (s.setCtx x).pol = s.pol := rfl
@[simp] theorem State.setCtx_cipher (s : State) (x : ClientCtx) : (s.setCtx x).cipher = s.cipher := rfl
@[simp] theorem State.setCtx_pk (s : State) (x : ClientCtx) : (s.setCtx x).pk = s.pk := rfl
@[simp] theorem State.setCtx_ks (s : State) (x : ClientCtx) : (s.setCtx x).ks = s.ks := rfl
@[simp] theorem State.setCtx_rng (s : State) (x : ClientCtx) : (s.setCtx x).rng = s.rng := rfl
@[simp] theorem State.setCtx_cx (s : State) (x : ClientCtx) : (s.setCtx x).cx = s.cx := rfl
@[simp] theorem State.setCtx_loc (s : State) (x : ClientCtx) : (s.setCtx x).loc = s.loc := rfl
@[simp] theorem State.setCtx_tag (s : State) (x : ClientCtx) : (s.setCtx x).tag = s.tag := rfl
@[simp] theorem State.setCtx_tagd (s : State) (x : ClientCtx) : (s.setCtx x).tagd = s.tagd := rfl
@[simp] theorem State.setCtx_aon (s : State) (x : ClientCtx) : (s.setCtx x).aon = s.aon := rfl
@[simp] theorem State.setCtx_rr (s : State) (x : ClientCtx) : (s.setCtx x).rr = s.rr := rfl
@[simp] theorem State.setCtx_medium (s : State) (x : ClientCtx) : (s.setCtx x).medium = s.medium := rfl
@[simp] theorem State.setCtx_free (s : State) (x : ClientCtx) : (s.setCtx x).free = s.free := rfl
@[simp] theorem State.setCtx_pending (s : State) (x : ClientCtx) : (s.setCtx x).pending = s.pending := rfl

@[simp] theorem State.setCval_now (s : State) (c : Client) (ix sub v : Nat) : (s.setCval c ix sub v).now = s.now := rfl
@[simp] theorem State.setCval_us (s : State) (c : Client) (ix sub v : Nat) : (s.setCval c ix sub v).us = s.us := rfl
@[simp] theorem State.setCval_sticky (s : State) (c : Client) (ix sub v : Nat) : (s.setCval c ix sub v).sticky = s.sticky := rfl
@[simp] theorem State.setCval_objs (s : State) (c : Client) (ix sub v : Nat) : (s.setCval c ix sub v).objs = s.objs := rfl
@[simp] theorem State.setCval_snaps (s : State) (c : Client) (ix sub v : Nat) : (s.setCval c ix sub v).snaps = s.snaps := rfl
@[simp] theorem State.setCval_refused (s : State) (c : Client) (ix sub v : Nat) : (s.setCval c ix sub v).refused = s.refused := rfl
@[simp] theorem State.setCval_evq (s : State) (c : Client) (ix sub v : Nat) : (s.setCval c ix sub v).evq = s.evq := rfl
@[simp] theorem State.setCval_evLost (s : State) (c : Client) (ix sub v : Nat) : (s.setCval c ix sub v).evLost = s.evLost := rfl
@[simp] theorem State.setCval_host (s : State) (c : Client) (ix sub v : Nat) : (s.setCval c ix sub v).host = s.host := rfl
@[simp] theorem State.setCval_lf (s : State) (c : Client) (ix sub v : Nat) : (s.setCval c ix sub v).lf = s.lf := rfl
@[simp] theorem State.setCval_phy (s : State) (c : Client) (ix sub v : Nat) : (s.setCval c ix sub v).phy = s.phy := rfl
@[simp] theorem State.setCval_nv (s : State) (c : Client) (ix sub v : Nat) : (s.setCval c ix sub v).nv = s.nv := rfl
@[simp] theorem State.setCval_jr (s : State) (c : Client) (ix sub v : Nat) : (s.setCval c ix sub v).jr = s.jr := rfl
@[simp] theorem State.setCval_sup (s : State) (c : Client) (ix sub v : Nat) : (s.setCval c ix sub v).sup = s.sup := rfl
@[simp] theorem State.setCval_timers (s : State) (c : Client) (ix sub v : Nat) : (s.setCval c ix sub v).timers = s.timers := rfl
@[simp] theorem State.setCval_dist (s : State) (c : Client) (ix sub v : Nat) : (s.setCval c ix sub v).dist = s.dist := rfl
@[simp] theorem State.setCval_gnss (s : State) (c : Client) (ix sub v : Nat) : (s.setCval c ix sub v).gnss = s.gnss := rfl
@[simp] theorem State.setCval_sched (s : State) (c : Client) (ix sub v : Nat) : (s.setCval c ix sub v).sched = s.sched := rfl
@[simp] theorem State.setCval_can0 (s : State) (c : Client) (ix sub v : Nat) : (s.setCval c ix sub v).can0 = s.can0 := rfl
@[simp] theorem State.setCval_can1 (s : State) (c : Client) (ix sub v : Nat) : (s.setCval c ix sub v).can1 = s.can1 := rfl
@[simp] theorem State.setCval_bell (s : State) (c : Client) (ix sub v : Nat) : (s.setCval c ix sub v).bell = s.bell := rfl
@[simp] theorem State.setCval_pol (s : State) (c : Client) (ix sub v : Nat) : (s.setCval c ix sub v).pol = s.pol := rfl
@[simp] theorem State.setCval_cipher (s : State) (c : Client) (ix sub v : Nat) : (s.setCval c ix sub v).cipher = s.cipher := rfl
@[simp] theorem State.setCval_pk (s : State) (c : Client) (ix sub v : Nat) : (s.setCval c ix sub v).pk = s.pk := rfl
@[simp] theorem State.setCval_ks (s : State) (c : Client) (ix sub v : Nat) : (s.setCval c ix sub v).ks = s.ks := rfl
@[simp] theorem State.setCval_rng (s : State) (c : Client) (ix sub v : Nat) : (s.setCval c ix sub v).rng = s.rng := rfl
@[simp] theorem State.setCval_cx (s : State) (c : Client) (ix sub v : Nat) : (s.setCval c ix sub v).cx = s.cx := rfl
@[simp] theorem State.setCval_loc (s : State) (c : Client) (ix sub v : Nat) : (s.setCval c ix sub v).loc = s.loc := rfl
@[simp] theorem State.setCval_tag (s : State) (c : Client) (ix sub v : Nat) : (s.setCval c ix sub v).tag = s.tag := rfl
@[simp] theorem State.setCval_tagd (s : State) (c : Client) (ix sub v : Nat) : (s.setCval c ix sub v).tagd = s.tagd := rfl
@[simp] theorem State.setCval_aon (s : State) (c : Client) (ix sub v : Nat) : (s.setCval c ix sub v).aon = s.aon := rfl
@[simp] theorem State.setCval_rr (s : State) (c : Client) (ix sub v : Nat) : (s.setCval c ix sub v).rr = s.rr := rfl
@[simp] theorem State.setCval_medium (s : State) (c : Client) (ix sub v : Nat) : (s.setCval c ix sub v).medium = s.medium := rfl
@[simp] theorem State.setCval_free (s : State) (c : Client) (ix sub v : Nat) : (s.setCval c ix sub v).free = s.free := rfl
@[simp] theorem State.setCval_pending (s : State) (c : Client) (ix sub v : Nat) : (s.setCval c ix sub v).pending = s.pending := rfl

@[simp] theorem State.waitCommit_now (s : State) (c : Client) (k : Nat) (d : Bytes) : (s.waitCommit c k d).now = s.now := rfl
@[simp] theorem State.waitCommit_us (s : State) (c : Client) (k : Nat) (d : Bytes) : (s.waitCommit c k d).us = s.us := rfl
@[simp] theorem State.waitCommit_sticky (s : State) (c : Client) (k : Nat) (d : Bytes) : (s.waitCommit c k d).sticky = s.sticky := rfl
@[simp] theorem State.waitCommit_objs (s : State) (c : Client) (k : Nat) (d : Bytes) : (s.waitCommit c k d).objs = s.objs := rfl
@[simp] theorem State.waitCommit_snaps (s : State) (c : Client) (k : Nat) (d : Bytes) : (s.waitCommit c k d).snaps = s.snaps := rfl
@[simp] theorem State.waitCommit_refused (s : State) (c : Client) (k : Nat) (d : Bytes) : (s.waitCommit c k d).refused = s.refused := rfl
@[simp] theorem State.waitCommit_evq (s : State) (c : Client) (k : Nat) (d : Bytes) : (s.waitCommit c k d).evq = s.evq := rfl
@[simp] theorem State.waitCommit_evLost (s : State) (c : Client) (k : Nat) (d : Bytes) : (s.waitCommit c k d).evLost = s.evLost := rfl
@[simp] theorem State.waitCommit_host (s : State) (c : Client) (k : Nat) (d : Bytes) : (s.waitCommit c k d).host = s.host := rfl
@[simp] theorem State.waitCommit_lf (s : State) (c : Client) (k : Nat) (d : Bytes) : (s.waitCommit c k d).lf = s.lf := rfl
@[simp] theorem State.waitCommit_phy (s : State) (c : Client) (k : Nat) (d : Bytes) : (s.waitCommit c k d).phy = s.phy := rfl
@[simp] theorem State.waitCommit_nv (s : State) (c : Client) (k : Nat) (d : Bytes) : (s.waitCommit c k d).nv = s.nv := rfl
@[simp] theorem State.waitCommit_jr (s : State) (c : Client) (k : Nat) (d : Bytes) : (s.waitCommit c k d).jr = s.jr := rfl
@[simp] theorem State.waitCommit_sup (s : State) (c : Client) (k : Nat) (d : Bytes) : (s.waitCommit c k d).sup = s.sup := rfl
@[simp] theorem State.waitCommit_timers (s : State) (c : Client) (k : Nat) (d : Bytes) : (s.waitCommit c k d).timers = s.timers := rfl
@[simp] theorem State.waitCommit_dist (s : State) (c : Client) (k : Nat) (d : Bytes) : (s.waitCommit c k d).dist = s.dist := rfl
@[simp] theorem State.waitCommit_gnss (s : State) (c : Client) (k : Nat) (d : Bytes) : (s.waitCommit c k d).gnss = s.gnss := rfl
@[simp] theorem State.waitCommit_sched (s : State) (c : Client) (k : Nat) (d : Bytes) : (s.waitCommit c k d).sched = s.sched := rfl
@[simp] theorem State.waitCommit_can0 (s : State) (c : Client) (k : Nat) (d : Bytes) : (s.waitCommit c k d).can0 = s.can0 := rfl
@[simp] theorem State.waitCommit_can1 (s : State) (c : Client) (k : Nat) (d : Bytes) : (s.waitCommit c k d).can1 = s.can1 := rfl
@[simp] theorem State.waitCommit_bell (s : State) (c : Client) (k : Nat) (d : Bytes) : (s.waitCommit c k d).bell = s.bell := rfl
@[simp] theorem State.waitCommit_pol (s : State) (c : Client) (k : Nat) (d : Bytes) : (s.waitCommit c k d).pol = s.pol := rfl
@[simp] theorem State.waitCommit_cipher (s : State) (c : Client) (k : Nat) (d : Bytes) : (s.waitCommit c k d).cipher = s.cipher := rfl
@[simp] theorem State.waitCommit_pk (s : State) (c : Client) (k : Nat) (d : Bytes) : (s.waitCommit c k d).pk = s.pk := rfl
@[simp] theorem State.waitCommit_ks (s : State) (c : Client) (k : Nat) (d : Bytes) : (s.waitCommit c k d).ks = s.ks := rfl
@[simp] theorem State.waitCommit_rng (s : State) (c : Client) (k : Nat) (d : Bytes) : (s.waitCommit c k d).rng = s.rng := rfl
@[simp] theorem State.waitCommit_cx (s : State) (c : Client) (k : Nat) (d : Bytes) : (s.waitCommit c k d).cx = s.cx := rfl
@[simp] theorem State.waitCommit_loc (s : State) (c : Client) (k : Nat) (d : Bytes) : (s.waitCommit c k d).loc = s.loc := rfl
@[simp] theorem State.waitCommit_tag (s : State) (c : Client) (k : Nat) (d : Bytes) : (s.waitCommit c k d).tag = s.tag := rfl
@[simp] theorem State.waitCommit_tagd (s : State) (c : Client) (k : Nat) (d : Bytes) : (s.waitCommit c k d).tagd = s.tagd := rfl
@[simp] theorem State.waitCommit_aon (s : State) (c : Client) (k : Nat) (d : Bytes) : (s.waitCommit c k d).aon = s.aon := rfl
@[simp] theorem State.waitCommit_rr (s : State) (c : Client) (k : Nat) (d : Bytes) : (s.waitCommit c k d).rr = s.rr := rfl
@[simp] theorem State.waitCommit_medium (s : State) (c : Client) (k : Nat) (d : Bytes) : (s.waitCommit c k d).medium = s.medium := rfl
@[simp] theorem State.waitCommit_free (s : State) (c : Client) (k : Nat) (d : Bytes) : (s.waitCommit c k d).free = s.free := rfl
@[simp] theorem State.waitCommit_pending (s : State) (c : Client) (k : Nat) (d : Bytes) : (s.waitCommit c k d).pending = s.pending := rfl

@[simp] theorem State.answer_now (s : State) (c : Client) (k ab : Nat) (d : Bytes) (l : Bool) : (s.answer c k ab d l).now = s.now := rfl
@[simp] theorem State.answer_us (s : State) (c : Client) (k ab : Nat) (d : Bytes) (l : Bool) : (s.answer c k ab d l).us = s.us := rfl
@[simp] theorem State.answer_sticky (s : State) (c : Client) (k ab : Nat) (d : Bytes) (l : Bool) : (s.answer c k ab d l).sticky = s.sticky := rfl
@[simp] theorem State.answer_objs (s : State) (c : Client) (k ab : Nat) (d : Bytes) (l : Bool) : (s.answer c k ab d l).objs = s.objs := rfl
@[simp] theorem State.answer_snaps (s : State) (c : Client) (k ab : Nat) (d : Bytes) (l : Bool) : (s.answer c k ab d l).snaps = s.snaps := rfl
@[simp] theorem State.answer_refused (s : State) (c : Client) (k ab : Nat) (d : Bytes) (l : Bool) : (s.answer c k ab d l).refused = s.refused := rfl
@[simp] theorem State.answer_evq (s : State) (c : Client) (k ab : Nat) (d : Bytes) (l : Bool) : (s.answer c k ab d l).evq = s.evq := rfl
@[simp] theorem State.answer_evLost (s : State) (c : Client) (k ab : Nat) (d : Bytes) (l : Bool) : (s.answer c k ab d l).evLost = s.evLost := rfl
@[simp] theorem State.answer_host (s : State) (c : Client) (k ab : Nat) (d : Bytes) (l : Bool) : (s.answer c k ab d l).host = s.host := rfl
@[simp] theorem State.answer_lf (s : State) (c : Client) (k ab : Nat) (d : Bytes) (l : Bool) : (s.answer c k ab d l).lf = s.lf := rfl
@[simp] theorem State.answer_phy (s : State) (c : Client) (k ab : Nat) (d : Bytes) (l : Bool) : (s.answer c k ab d l).phy = s.phy := rfl
@[simp] theorem State.answer_nv (s : State) (c : Client) (k ab : Nat) (d : Bytes) (l : Bool) : (s.answer c k ab d l).nv = s.nv := rfl
@[simp] theorem State.answer_jr (s : State) (c : Client) (k ab : Nat) (d : Bytes) (l : Bool) : (s.answer c k ab d l).jr = s.jr := rfl
@[simp] theorem State.answer_sup (s : State) (c : Client) (k ab : Nat) (d : Bytes) (l : Bool) : (s.answer c k ab d l).sup = s.sup := rfl
@[simp] theorem State.answer_timers (s : State) (c : Client) (k ab : Nat) (d : Bytes) (l : Bool) : (s.answer c k ab d l).timers = s.timers := rfl
@[simp] theorem State.answer_dist (s : State) (c : Client) (k ab : Nat) (d : Bytes) (l : Bool) : (s.answer c k ab d l).dist = s.dist := rfl
@[simp] theorem State.answer_gnss (s : State) (c : Client) (k ab : Nat) (d : Bytes) (l : Bool) : (s.answer c k ab d l).gnss = s.gnss := rfl
@[simp] theorem State.answer_sched (s : State) (c : Client) (k ab : Nat) (d : Bytes) (l : Bool) : (s.answer c k ab d l).sched = s.sched := rfl
@[simp] theorem State.answer_can0 (s : State) (c : Client) (k ab : Nat) (d : Bytes) (l : Bool) : (s.answer c k ab d l).can0 = s.can0 := rfl
@[simp] theorem State.answer_can1 (s : State) (c : Client) (k ab : Nat) (d : Bytes) (l : Bool) : (s.answer c k ab d l).can1 = s.can1 := rfl
@[simp] theorem State.answer_bell (s : State) (c : Client) (k ab : Nat) (d : Bytes) (l : Bool) : (s.answer c k ab d l).bell = s.bell := rfl
@[simp] theorem State.answer_pol (s : State) (c : Client) (k ab : Nat) (d : Bytes) (l : Bool) : (s.answer c k ab d l).pol = s.pol := rfl
@[simp] theorem State.answer_cipher (s : State) (c : Client) (k ab : Nat) (d : Bytes) (l : Bool) : (s.answer c k ab d l).cipher = s.cipher := rfl
@[simp] theorem State.answer_pk (s : State) (c : Client) (k ab : Nat) (d : Bytes) (l : Bool) : (s.answer c k ab d l).pk = s.pk := rfl
@[simp] theorem State.answer_ks (s : State) (c : Client) (k ab : Nat) (d : Bytes) (l : Bool) : (s.answer c k ab d l).ks = s.ks := rfl
@[simp] theorem State.answer_rng (s : State) (c : Client) (k ab : Nat) (d : Bytes) (l : Bool) : (s.answer c k ab d l).rng = s.rng := rfl
@[simp] theorem State.answer_cx (s : State) (c : Client) (k ab : Nat) (d : Bytes) (l : Bool) : (s.answer c k ab d l).cx = s.cx := rfl
@[simp] theorem State.answer_loc (s : State) (c : Client) (k ab : Nat) (d : Bytes) (l : Bool) : (s.answer c k ab d l).loc = s.loc := rfl
@[simp] theorem State.answer_tag (s : State) (c : Client) (k ab : Nat) (d : Bytes) (l : Bool) : (s.answer c k ab d l).tag = s.tag := rfl
@[simp] theorem State.answer_tagd (s : State) (c : Client) (k ab : Nat) (d : Bytes) (l : Bool) : (s.answer c k ab d l).tagd = s.tagd := rfl
@[simp] theorem State.answer_aon (s : State) (c : Client) (k ab : Nat) (d : Bytes) (l : Bool) : (s.answer c k ab d l).aon = s.aon := rfl
@[simp] theorem State.answer_rr (s : State) (c : Client) (k ab : Nat) (d : Bytes) (l : Bool) : (s.answer c k ab d l).rr = s.rr := rfl
@[simp] theorem State.answer_medium (s : State) (c : Client) (k ab : Nat) (d : Bytes) (l : Bool) : (s.answer c k ab d l).medium = s.medium := rfl
@[simp] theorem State.answer_free (s : State) (c : Client) (k ab : Nat) (d : Bytes) (l : Bool) : (s.answer c k ab d l).free = s.free := rfl
@[simp] theorem State.answer_pending (s : State) (c : Client) (k ab : Nat) (d : Bytes) (l : Bool) : (s.answer c k ab d l).pending = s.pending := rfl

@[simp] theorem State.setSrc_now (s : State) (n : Nat) (x : FaultSrc) : (s.setSrc n x).now = s.now := rfl
@[simp] theorem State.setSrc_us (s : State) (n : Nat) (x : FaultSrc) : (s.setSrc n x).us = s.us := rfl
@[simp] theorem State.setSrc_sticky (s : State) (n : Nat) (x : FaultSrc) : (s.setSrc n x).sticky = s.sticky := rfl
@[simp] theorem State.setSrc_objs (s : State) (n : Nat) (x : FaultSrc) : (s.setSrc n x).objs = s.objs := rfl
@[simp] theorem State.setSrc_snaps (s : State) (n : Nat) (x : FaultSrc) : (s.setSrc n x).snaps = s.snaps := rfl
@[simp] theorem State.setSrc_refused (s : State) (n : Nat) (x : FaultSrc) : (s.setSrc n x).refused = s.refused := rfl
@[simp] theorem State.setSrc_evq (s : State) (n : Nat) (x : FaultSrc) : (s.setSrc n x).evq = s.evq := rfl
@[simp] theorem State.setSrc_evLost (s : State) (n : Nat) (x : FaultSrc) : (s.setSrc n x).evLost = s.evLost := rfl
@[simp] theorem State.setSrc_dict (s : State) (n : Nat) (x : FaultSrc) : (s.setSrc n x).dict = s.dict := rfl
@[simp] theorem State.setSrc_host (s : State) (n : Nat) (x : FaultSrc) : (s.setSrc n x).host = s.host := rfl
@[simp] theorem State.setSrc_lf (s : State) (n : Nat) (x : FaultSrc) : (s.setSrc n x).lf = s.lf := rfl
@[simp] theorem State.setSrc_phy (s : State) (n : Nat) (x : FaultSrc) : (s.setSrc n x).phy = s.phy := rfl
@[simp] theorem State.setSrc_nv (s : State) (n : Nat) (x : FaultSrc) : (s.setSrc n x).nv = s.nv := rfl
@[simp] theorem State.setSrc_jr (s : State) (n : Nat) (x : FaultSrc) : (s.setSrc n x).jr = s.jr := rfl
@[simp] theorem State.setSrc_timers (s : State) (n : Nat) (x : FaultSrc) : (s.setSrc n x).timers = s.timers := rfl
@[simp] theorem State.setSrc_dist (s : State) (n : Nat) (x : FaultSrc) : (s.setSrc n x).dist = s.dist := rfl
@[simp] theorem State.setSrc_gnss (s : State) (n : Nat) (x : FaultSrc) : (s.setSrc n x).gnss = s.gnss := rfl
@[simp] theorem State.setSrc_sched (s : State) (n : Nat) (x : FaultSrc) : (s.setSrc n x).sched = s.sched := rfl
@[simp] theorem State.setSrc_can0 (s : State) (n : Nat) (x : FaultSrc) : (s.setSrc n x).can0 = s.can0 := rfl
@[simp] theorem State.setSrc_can1 (s : State) (n : Nat) (x : FaultSrc) : (s.setSrc n x).can1 = s.can1 := rfl
@[simp] theorem State.setSrc_bell (s : State) (n : Nat) (x : FaultSrc) : (s.setSrc n x).bell = s.bell := rfl
@[simp] theorem State.setSrc_pol (s : State) (n : Nat) (x : FaultSrc) : (s.setSrc n x).pol = s.pol := rfl
@[simp] theorem State.setSrc_cipher (s : State) (n : Nat) (x : FaultSrc) : (s.setSrc n x).cipher = s.cipher := rfl
@[simp] theorem State.setSrc_pk (s : State) (n : Nat) (x : FaultSrc) : (s.setSrc n x).pk = s.pk := rfl
@[simp] theorem State.setSrc_ks (s : State) (n : Nat) (x : FaultSrc) : (s.setSrc n x).ks = s.ks := rfl
@[simp] theorem State.setSrc_rng (s : State) (n : Nat) (x : FaultSrc) : (s.setSrc n x).rng = s.rng := rfl
@[simp] theorem State.setSrc_cx (s : State) (n : Nat) (x : FaultSrc) : (s.setSrc n x).cx = s.cx := rfl
@[simp] theorem State.setSrc_loc (s : State) (n : Nat) (x : FaultSrc) : (s.setSrc n x).loc = s.loc := rfl
@[simp] theorem State.setSrc_tag (s : State) (n : Nat) (x : FaultSrc) : (s.setSrc n x).tag = s.tag := rfl
@[simp] theorem State.setSrc_tagd (s : State) (n : Nat) (x : FaultSrc) : (s.setSrc n x).tagd = s.tagd := rfl
@[simp] theorem State.setSrc_aon (s : State) (n : Nat) (x : FaultSrc) : (s.setSrc n x).aon = s.aon := rfl
@[simp] theorem State.setSrc_rr (s : State) (n : Nat) (x : FaultSrc) : (s.setSrc n x).rr = s.rr := rfl
@[simp] theorem State.setSrc_medium (s : State) (n : Nat) (x : FaultSrc) : (s.setSrc n x).medium = s.medium := rfl
@[simp] theorem State.setSrc_free (s : State) (n : Nat) (x : FaultSrc) : (s.setSrc n x).free = s.free := rfl
@[simp] theorem State.setSrc_pending (s : State) (n : Nat) (x : FaultSrc) : (s.setSrc n x).pending = s.pending := rfl

@[simp] theorem State.pushFault_now (s : State) (e : FaultEntry) : (s.pushFault e).now = s.now := rfl
@[simp] theorem State.pushFault_us (s : State) (e : FaultEntry) : (s.pushFault e).us = s.us := rfl
@[simp] theorem State.pushFault_sticky (s : State) (e : FaultEntry) : (s.pushFault e).sticky = s.sticky := rfl
@[simp] theorem State.pushFault_objs (s : State) (e : FaultEntry) : (s.pushFault e).objs = s.objs := rfl
@[simp] theorem State.pushFault_snaps (s : State) (e : FaultEntry) : (s.pushFault e).snaps = s.snaps := rfl
@[simp] theorem State.pushFault_refused (s : State) (e : FaultEntry) : (s.pushFault e).refused = s.refused := rfl
@[simp] theorem State.pushFault_evq (s : State) (e : FaultEntry) : (s.pushFault e).evq = s.evq := rfl
@[simp] theorem State.pushFault_evLost (s : State) (e : FaultEntry) : (s.pushFault e).evLost = s.evLost := rfl
@[simp] theorem State.pushFault_dict (s : State) (e : FaultEntry) : (s.pushFault e).dict = s.dict := rfl
@[simp] theorem State.pushFault_host (s : State) (e : FaultEntry) : (s.pushFault e).host = s.host := rfl
@[simp] theorem State.pushFault_lf (s : State) (e : FaultEntry) : (s.pushFault e).lf = s.lf := rfl
@[simp] theorem State.pushFault_phy (s : State) (e : FaultEntry) : (s.pushFault e).phy = s.phy := rfl
@[simp] theorem State.pushFault_nv (s : State) (e : FaultEntry) : (s.pushFault e).nv = s.nv := rfl
@[simp] theorem State.pushFault_jr (s : State) (e : FaultEntry) : (s.pushFault e).jr = s.jr := rfl
@[simp] theorem State.pushFault_timers (s : State) (e : FaultEntry) : (s.pushFault e).timers = s.timers := rfl
@[simp] theorem State.pushFault_dist (s : State) (e : FaultEntry) : (s.pushFault e).dist = s.dist := rfl
@[simp] theorem State.pushFault_gnss (s : State) (e : FaultEntry) : (s.pushFault e).gnss = s.gnss := rfl
@[simp] theorem State.pushFault_sched (s : State) (e : FaultEntry) : (s.pushFault e).sched = s.sched := rfl
@[simp] theorem State.pushFault_can0 (s : State) (e : FaultEntry) : (s.pushFault e).can0 = s.can0 := rfl
@[simp] theorem State.pushFault_can1 (s : State) (e : FaultEntry) : (s.pushFault e).can1 = s.can1 := rfl
@[simp] theorem State.pushFault_bell (s : State) (e : FaultEntry) : (s.pushFault e).bell = s.bell := rfl
@[simp] theorem State.pushFault_pol (s : State) (e : FaultEntry) : (s.pushFault e).pol = s.pol := rfl
@[simp] theorem State.pushFault_cipher (s : State) (e : FaultEntry) : (s.pushFault e).cipher = s.cipher := rfl
@[simp] theorem State.pushFault_pk (s : State) (e : FaultEntry) : (s.pushFault e).pk = s.pk := rfl
@[simp] theorem State.pushFault_ks (s : State) (e : FaultEntry) : (s.pushFault e).ks = s.ks := rfl
@[simp] theorem State.pushFault_rng (s : State) (e : FaultEntry) : (s.pushFault e).rng = s.rng := rfl
@[simp] theorem State.pushFault_cx (s : State) (e : FaultEntry) : (s.pushFault e).cx = s.cx := rfl
@[simp] theorem State.pushFault_loc (s : State) (e : FaultEntry) : (s.pushFault e).loc = s.loc := rfl
@[simp] theorem State.pushFault_tag (s : State) (e : FaultEntry) : (s.pushFault e).tag = s.tag := rfl
@[simp] theorem State.pushFault_tagd (s : State) (e : FaultEntry) : (s.pushFault e).tagd = s.tagd := rfl
@[simp] theorem State.pushFault_aon (s : State) (e : FaultEntry) : (s.pushFault e).aon = s.aon := rfl
@[simp] theorem State.pushFault_rr (s : State) (e : FaultEntry) : (s.pushFault e).rr = s.rr := rfl
@[simp] theorem State.pushFault_medium (s : State) (e : FaultEntry) : (s.pushFault e).medium = s.medium := rfl
@[simp] theorem State.pushFault_free (s : State) (e : FaultEntry) : (s.pushFault e).free = s.free := rfl
@[simp] theorem State.pushFault_pending (s : State) (e : FaultEntry) : (s.pushFault e).pending = s.pending := rfl

@[simp] theorem State.record_now (s : State) (ty : Nat) (b : Bytes) : (s.record ty b).now = s.now := rfl
@[simp] theorem State.record_us (s : State) (ty : Nat) (b : Bytes) : (s.record ty b).us = s.us := rfl
@[simp] theorem State.record_sticky (s : State) (ty : Nat) (b : Bytes) : (s.record ty b).sticky = s.sticky := rfl
@[simp] theorem State.record_objs (s : State) (ty : Nat) (b : Bytes) : (s.record ty b).objs = s.objs := rfl
@[simp] theorem State.record_snaps (s : State) (ty : Nat) (b : Bytes) : (s.record ty b).snaps = s.snaps := rfl
@[simp] theorem State.record_refused (s : State) (ty : Nat) (b : Bytes) : (s.record ty b).refused = s.refused := rfl
@[simp] theorem State.record_evq (s : State) (ty : Nat) (b : Bytes) : (s.record ty b).evq = s.evq := rfl
@[simp] theorem State.record_evLost (s : State) (ty : Nat) (b : Bytes) : (s.record ty b).evLost = s.evLost := rfl
@[simp] theorem State.record_dict (s : State) (ty : Nat) (b : Bytes) : (s.record ty b).dict = s.dict := rfl
@[simp] theorem State.record_host (s : State) (ty : Nat) (b : Bytes) : (s.record ty b).host = s.host := rfl
@[simp] theorem State.record_lf (s : State) (ty : Nat) (b : Bytes) : (s.record ty b).lf = s.lf := rfl
@[simp] theorem State.record_phy (s : State) (ty : Nat) (b : Bytes) : (s.record ty b).phy = s.phy := rfl
@[simp] theorem State.record_nv (s : State) (ty : Nat) (b : Bytes) : (s.record ty b).nv = s.nv := rfl
@[simp] theorem State.record_sup (s : State) (ty : Nat) (b : Bytes) : (s.record ty b).sup = s.sup := rfl
@[simp] theorem State.record_timers (s : State) (ty : Nat) (b : Bytes) : (s.record ty b).timers = s.timers := rfl
@[simp] theorem State.record_dist (s : State) (ty : Nat) (b : Bytes) : (s.record ty b).dist = s.dist := rfl
@[simp] theorem State.record_gnss (s : State) (ty : Nat) (b : Bytes) : (s.record ty b).gnss = s.gnss := rfl
@[simp] theorem State.record_sched (s : State) (ty : Nat) (b : Bytes) : (s.record ty b).sched = s.sched := rfl
@[simp] theorem State.record_can0 (s : State) (ty : Nat) (b : Bytes) : (s.record ty b).can0 = s.can0 := rfl
@[simp] theorem State.record_can1 (s : State) (ty : Nat) (b : Bytes) : (s.record ty b).can1 = s.can1 := rfl
@[simp] theorem State.record_bell (s : State) (ty : Nat) (b : Bytes) : (s.record ty b).bell = s.bell := rfl
@[simp] theorem State.record_pol (s : State) (ty : Nat) (b : Bytes) : (s.record ty b).pol = s.pol := rfl
@[simp] theorem State.record_cipher (s : State) (ty : Nat) (b : Bytes) : (s.record ty b).cipher = s.cipher := rfl
@[simp] theorem State.record_pk (s : State) (ty : Nat) (b : Bytes) : (s.record ty b).pk = s.pk := rfl
@[simp] theorem State.record_ks (s : State) (ty : Nat) (b : Bytes) : (s.record ty b).ks = s.ks := rfl
@[simp] theorem State.record_rng (s : State) (ty : Nat) (b : Bytes) : (s.record ty b).rng = s.rng := rfl
@[simp] theorem State.record_cx (s : State) (ty : Nat) (b : Bytes) : (s.record ty b).cx = s.cx := rfl
@[simp] theorem State.record_loc (s : State) (ty : Nat) (b : Bytes) : (s.record ty b).loc = s.loc := rfl
@[simp] theorem State.record_tag (s : State) (ty : Nat) (b : Bytes) : (s.record ty b).tag = s.tag := rfl
@[simp] theorem State.record_tagd (s : State) (ty : Nat) (b : Bytes) : (s.record ty b).tagd = s.tagd := rfl
@[simp] theorem State.record_aon (s : State) (ty : Nat) (b : Bytes) : (s.record ty b).aon = s.aon := rfl
@[simp] theorem State.record_medium (s : State) (ty : Nat) (b : Bytes) : (s.record ty b).medium = s.medium := rfl
@[simp] theorem State.record_free (s : State) (ty : Nat) (b : Bytes) : (s.record ty b).free = s.free := rfl
@[simp] theorem State.record_pending (s : State) (ty : Nat) (b : Bytes) : (s.record ty b).pending = s.pending := rfl
@[simp] theorem State.record_rr_objs (s : State) (ty : Nat) (b : Bytes) : (s.record ty b).rr.objs = s.rr.objs := rfl
@[simp] theorem State.record_rr_param (s : State) (ty : Nat) (b : Bytes) : (s.record ty b).rr.param = s.rr.param := rfl
@[simp] theorem State.record_rr_boot (s : State) (ty : Nat) (b : Bytes) : (s.record ty b).rr.boot = s.rr.boot := rfl
@[simp] theorem State.record_rr_key (s : State) (ty : Nat) (b : Bytes) : (s.record ty b).rr.key = s.rr.key := rfl
@[simp] theorem State.record_rr_cal (s : State) (ty : Nat) (b : Bytes) : (s.record ty b).rr.cal = s.rr.cal := rfl
@[simp] theorem State.record_rr_remapped (s : State) (ty : Nat) (b : Bytes) : (s.record ty b).rr.remapped = s.rr.remapped := rfl
@[simp] theorem State.record_rr_sparesUsed (s : State) (ty : Nat) (b : Bytes) : (s.record ty b).rr.sparesUsed = s.rr.sparesUsed := rfl
@[simp] theorem State.record_rr_lifecycle (s : State) (ty : Nat) (b : Bytes) : (s.record ty b).rr.lifecycle = s.rr.lifecycle := rfl
@[simp] theorem State.record_rr_fwA (s : State) (ty : Nat) (b : Bytes) : (s.record ty b).rr.fwA = s.rr.fwA := rfl
@[simp] theorem State.record_rr_fwB (s : State) (ty : Nat) (b : Bytes) : (s.record ty b).rr.fwB = s.rr.fwB := rfl
@[simp] theorem State.record_rr_active (s : State) (ty : Nat) (b : Bytes) : (s.record ty b).rr.active = s.rr.active := rfl
@[simp] theorem State.record_rr_trialBank (s : State) (ty : Nat) (b : Bytes) : (s.record ty b).rr.trialBank = s.rr.trialBank := rfl
@[simp] theorem State.record_rr_trialRan (s : State) (ty : Nat) (b : Bytes) : (s.record ty b).rr.trialRan = s.rr.trialRan := rfl
@[simp] theorem State.record_rr_floor (s : State) (ty : Nat) (b : Bytes) : (s.record ty b).rr.floor = s.rr.floor := rfl
@[simp] theorem State.record_rr_badBlocks (s : State) (ty : Nat) (b : Bytes) : (s.record ty b).rr.badBlocks = s.rr.badBlocks := rfl
@[simp] theorem State.record_rr_headHint (s : State) (ty : Nat) (b : Bytes) : (s.record ty b).rr.headHint = s.rr.headHint := rfl
@[simp] theorem State.record_rr_oldest (s : State) (ty : Nat) (b : Bytes) : (s.record ty b).rr.oldest = s.rr.oldest := rfl
@[simp] theorem State.record_rr_wraps (s : State) (ty : Nat) (b : Bytes) : (s.record ty b).rr.wraps = s.rr.wraps := rfl
@[simp] theorem State.record_rr_tamper (s : State) (ty : Nat) (b : Bytes) : (s.record ty b).rr.tamper = s.rr.tamper := rfl
@[simp] theorem State.record_rr_slots (s : State) (ty : Nat) (b : Bytes) : (s.record ty b).rr.slots = s.rr.slots := rfl
@[simp] theorem State.record_rr_vehicleId (s : State) (ty : Nat) (b : Bytes) : (s.record ty b).rr.vehicleId = s.rr.vehicleId := rfl
@[simp] theorem State.record_rr_stock (s : State) (ty : Nat) (b : Bytes) : (s.record ty b).rr.stock = s.rr.stock := rfl
@[simp] theorem State.record_rr_locked (s : State) (ty : Nat) (b : Bytes) : (s.record ty b).rr.locked = s.rr.locked := rfl
@[simp] theorem State.record_rr_map (s : State) (ty : Nat) (b : Bytes) : (s.record ty b).rr.map = s.rr.map := rfl
@[simp] theorem State.record_rr_mapWaits (s : State) (ty : Nat) (b : Bytes) : (s.record ty b).rr.mapWaits = s.rr.mapWaits := rfl
@[simp] theorem State.record_rr_paired (s : State) (ty : Nat) (b : Bytes) : (s.record ty b).rr.paired = s.rr.paired := rfl
@[simp] theorem State.record_rr_pairRec (s : State) (ty : Nat) (b : Bytes) : (s.record ty b).rr.pairRec = s.rr.pairRec := rfl
@[simp] theorem State.record_rr_tractors (s : State) (ty : Nat) (b : Bytes) : (s.record ty b).rr.tractors = s.rr.tractors := rfl
@[simp] theorem State.record_rr_latch (s : State) (ty : Nat) (b : Bytes) : (s.record ty b).rr.latch = s.rr.latch := rfl
@[simp] theorem State.record_rr_tag (s : State) (ty : Nat) (b : Bytes) : (s.record ty b).rr.tag = s.rr.tag := rfl
@[simp] theorem State.record_rr_tamperAt (s : State) (ty : Nat) (b : Bytes) : (s.record ty b).rr.tamperAt = s.rr.tamperAt := rfl

@[simp] theorem State.pushEvent_now (s : State) (e : Event) : (s.pushEvent e).now = s.now := by
  unfold State.pushEvent; split <;> rfl
@[simp] theorem State.pushEvent_us (s : State) (e : Event) : (s.pushEvent e).us = s.us := by
  unfold State.pushEvent; split <;> rfl
@[simp] theorem State.pushEvent_sticky (s : State) (e : Event) : (s.pushEvent e).sticky = s.sticky := by
  unfold State.pushEvent; split <;> rfl
@[simp] theorem State.pushEvent_objs (s : State) (e : Event) : (s.pushEvent e).objs = s.objs := by
  unfold State.pushEvent; split <;> rfl
@[simp] theorem State.pushEvent_snaps (s : State) (e : Event) : (s.pushEvent e).snaps = s.snaps := by
  unfold State.pushEvent; split <;> rfl
@[simp] theorem State.pushEvent_refused (s : State) (e : Event) : (s.pushEvent e).refused = s.refused := by
  unfold State.pushEvent; split <;> rfl
@[simp] theorem State.pushEvent_dict (s : State) (e : Event) : (s.pushEvent e).dict = s.dict := by
  unfold State.pushEvent; split <;> rfl
@[simp] theorem State.pushEvent_host (s : State) (e : Event) : (s.pushEvent e).host = s.host := by
  unfold State.pushEvent; split <;> rfl
@[simp] theorem State.pushEvent_lf (s : State) (e : Event) : (s.pushEvent e).lf = s.lf := by
  unfold State.pushEvent; split <;> rfl
@[simp] theorem State.pushEvent_phy (s : State) (e : Event) : (s.pushEvent e).phy = s.phy := by
  unfold State.pushEvent; split <;> rfl
@[simp] theorem State.pushEvent_nv (s : State) (e : Event) : (s.pushEvent e).nv = s.nv := by
  unfold State.pushEvent; split <;> rfl
@[simp] theorem State.pushEvent_jr (s : State) (e : Event) : (s.pushEvent e).jr = s.jr := by
  unfold State.pushEvent; split <;> rfl
@[simp] theorem State.pushEvent_sup (s : State) (e : Event) : (s.pushEvent e).sup = s.sup := by
  unfold State.pushEvent; split <;> rfl
@[simp] theorem State.pushEvent_timers (s : State) (e : Event) : (s.pushEvent e).timers = s.timers := by
  unfold State.pushEvent; split <;> rfl
@[simp] theorem State.pushEvent_dist (s : State) (e : Event) : (s.pushEvent e).dist = s.dist := by
  unfold State.pushEvent; split <;> rfl
@[simp] theorem State.pushEvent_gnss (s : State) (e : Event) : (s.pushEvent e).gnss = s.gnss := by
  unfold State.pushEvent; split <;> rfl
@[simp] theorem State.pushEvent_sched (s : State) (e : Event) : (s.pushEvent e).sched = s.sched := by
  unfold State.pushEvent; split <;> rfl
@[simp] theorem State.pushEvent_can0 (s : State) (e : Event) : (s.pushEvent e).can0 = s.can0 := by
  unfold State.pushEvent; split <;> rfl
@[simp] theorem State.pushEvent_can1 (s : State) (e : Event) : (s.pushEvent e).can1 = s.can1 := by
  unfold State.pushEvent; split <;> rfl
@[simp] theorem State.pushEvent_bell (s : State) (e : Event) : (s.pushEvent e).bell = s.bell := by
  unfold State.pushEvent; split <;> rfl
@[simp] theorem State.pushEvent_pol (s : State) (e : Event) : (s.pushEvent e).pol = s.pol := by
  unfold State.pushEvent; split <;> rfl
@[simp] theorem State.pushEvent_cipher (s : State) (e : Event) : (s.pushEvent e).cipher = s.cipher := by
  unfold State.pushEvent; split <;> rfl
@[simp] theorem State.pushEvent_pk (s : State) (e : Event) : (s.pushEvent e).pk = s.pk := by
  unfold State.pushEvent; split <;> rfl
@[simp] theorem State.pushEvent_ks (s : State) (e : Event) : (s.pushEvent e).ks = s.ks := by
  unfold State.pushEvent; split <;> rfl
@[simp] theorem State.pushEvent_rng (s : State) (e : Event) : (s.pushEvent e).rng = s.rng := by
  unfold State.pushEvent; split <;> rfl
@[simp] theorem State.pushEvent_cx (s : State) (e : Event) : (s.pushEvent e).cx = s.cx := by
  unfold State.pushEvent; split <;> rfl
@[simp] theorem State.pushEvent_loc (s : State) (e : Event) : (s.pushEvent e).loc = s.loc := by
  unfold State.pushEvent; split <;> rfl
@[simp] theorem State.pushEvent_tag (s : State) (e : Event) : (s.pushEvent e).tag = s.tag := by
  unfold State.pushEvent; split <;> rfl
@[simp] theorem State.pushEvent_tagd (s : State) (e : Event) : (s.pushEvent e).tagd = s.tagd := by
  unfold State.pushEvent; split <;> rfl
@[simp] theorem State.pushEvent_aon (s : State) (e : Event) : (s.pushEvent e).aon = s.aon := by
  unfold State.pushEvent; split <;> rfl
@[simp] theorem State.pushEvent_rr (s : State) (e : Event) : (s.pushEvent e).rr = s.rr := by
  unfold State.pushEvent; split <;> rfl
@[simp] theorem State.pushEvent_medium (s : State) (e : Event) : (s.pushEvent e).medium = s.medium := by
  unfold State.pushEvent; split <;> rfl
@[simp] theorem State.pushEvent_free (s : State) (e : Event) : (s.pushEvent e).free = s.free := by
  unfold State.pushEvent; split <;> rfl
@[simp] theorem State.pushEvent_pending (s : State) (e : Event) : (s.pushEvent e).pending = s.pending := by
  unfold State.pushEvent; split <;> rfl

@[simp] theorem State.setObj_now (s : State) (ix sub v : Nat) : (s.setObj ix sub v).now = s.now := by
  unfold State.setObj; split
  · rfl
  · split <;> rfl
@[simp] theorem State.setObj_us (s : State) (ix sub v : Nat) : (s.setObj ix sub v).us = s.us := by
  unfold State.setObj; split
  · rfl
  · split <;> rfl
@[simp] theorem State.setObj_sticky (s : State) (ix sub v : Nat) : (s.setObj ix sub v).sticky = s.sticky := by
  unfold State.setObj; split
  · rfl
  · split <;> rfl
@[simp] theorem State.setObj_snaps (s : State) (ix sub v : Nat) : (s.setObj ix sub v).snaps = s.snaps := by
  unfold State.setObj; split
  · rfl
  · split <;> rfl
@[simp] theorem State.setObj_refused (s : State) (ix sub v : Nat) : (s.setObj ix sub v).refused = s.refused := by
  unfold State.setObj; split
  · rfl
  · split <;> rfl
@[simp] theorem State.setObj_evq (s : State) (ix sub v : Nat) : (s.setObj ix sub v).evq = s.evq := by
  unfold State.setObj; split
  · rfl
  · split <;> rfl
@[simp] theorem State.setObj_evLost (s : State) (ix sub v : Nat) : (s.setObj ix sub v).evLost = s.evLost := by
  unfold State.setObj; split
  · rfl
  · split <;> rfl
@[simp] theorem State.setObj_dict (s : State) (ix sub v : Nat) : (s.setObj ix sub v).dict = s.dict := by
  unfold State.setObj; split
  · rfl
  · split <;> rfl
@[simp] theorem State.setObj_host (s : State) (ix sub v : Nat) : (s.setObj ix sub v).host = s.host := by
  unfold State.setObj; split
  · rfl
  · split <;> rfl
@[simp] theorem State.setObj_lf (s : State) (ix sub v : Nat) : (s.setObj ix sub v).lf = s.lf := by
  unfold State.setObj; split
  · rfl
  · split <;> rfl
@[simp] theorem State.setObj_phy (s : State) (ix sub v : Nat) : (s.setObj ix sub v).phy = s.phy := by
  unfold State.setObj; split
  · rfl
  · split <;> rfl
@[simp] theorem State.setObj_nv (s : State) (ix sub v : Nat) : (s.setObj ix sub v).nv = s.nv := by
  unfold State.setObj; split
  · rfl
  · split <;> rfl
@[simp] theorem State.setObj_jr (s : State) (ix sub v : Nat) : (s.setObj ix sub v).jr = s.jr := by
  unfold State.setObj; split
  · rfl
  · split <;> rfl
@[simp] theorem State.setObj_sup (s : State) (ix sub v : Nat) : (s.setObj ix sub v).sup = s.sup := by
  unfold State.setObj; split
  · rfl
  · split <;> rfl
@[simp] theorem State.setObj_timers (s : State) (ix sub v : Nat) : (s.setObj ix sub v).timers = s.timers := by
  unfold State.setObj; split
  · rfl
  · split <;> rfl
@[simp] theorem State.setObj_dist (s : State) (ix sub v : Nat) : (s.setObj ix sub v).dist = s.dist := by
  unfold State.setObj; split
  · rfl
  · split <;> rfl
@[simp] theorem State.setObj_gnss (s : State) (ix sub v : Nat) : (s.setObj ix sub v).gnss = s.gnss := by
  unfold State.setObj; split
  · rfl
  · split <;> rfl
@[simp] theorem State.setObj_sched (s : State) (ix sub v : Nat) : (s.setObj ix sub v).sched = s.sched := by
  unfold State.setObj; split
  · rfl
  · split <;> rfl
@[simp] theorem State.setObj_can0 (s : State) (ix sub v : Nat) : (s.setObj ix sub v).can0 = s.can0 := by
  unfold State.setObj; split
  · rfl
  · split <;> rfl
@[simp] theorem State.setObj_can1 (s : State) (ix sub v : Nat) : (s.setObj ix sub v).can1 = s.can1 := by
  unfold State.setObj; split
  · rfl
  · split <;> rfl
@[simp] theorem State.setObj_bell (s : State) (ix sub v : Nat) : (s.setObj ix sub v).bell = s.bell := by
  unfold State.setObj; split
  · rfl
  · split <;> rfl
@[simp] theorem State.setObj_pol (s : State) (ix sub v : Nat) : (s.setObj ix sub v).pol = s.pol := by
  unfold State.setObj; split
  · rfl
  · split <;> rfl
@[simp] theorem State.setObj_cipher (s : State) (ix sub v : Nat) : (s.setObj ix sub v).cipher = s.cipher := by
  unfold State.setObj; split
  · rfl
  · split <;> rfl
@[simp] theorem State.setObj_pk (s : State) (ix sub v : Nat) : (s.setObj ix sub v).pk = s.pk := by
  unfold State.setObj; split
  · rfl
  · split <;> rfl
@[simp] theorem State.setObj_ks (s : State) (ix sub v : Nat) : (s.setObj ix sub v).ks = s.ks := by
  unfold State.setObj; split
  · rfl
  · split <;> rfl
@[simp] theorem State.setObj_rng (s : State) (ix sub v : Nat) : (s.setObj ix sub v).rng = s.rng := by
  unfold State.setObj; split
  · rfl
  · split <;> rfl
@[simp] theorem State.setObj_cx (s : State) (ix sub v : Nat) : (s.setObj ix sub v).cx = s.cx := by
  unfold State.setObj; split
  · rfl
  · split <;> rfl
@[simp] theorem State.setObj_loc (s : State) (ix sub v : Nat) : (s.setObj ix sub v).loc = s.loc := by
  unfold State.setObj; split
  · rfl
  · split <;> rfl
@[simp] theorem State.setObj_tag (s : State) (ix sub v : Nat) : (s.setObj ix sub v).tag = s.tag := by
  unfold State.setObj; split
  · rfl
  · split <;> rfl
@[simp] theorem State.setObj_tagd (s : State) (ix sub v : Nat) : (s.setObj ix sub v).tagd = s.tagd := by
  unfold State.setObj; split
  · rfl
  · split <;> rfl
@[simp] theorem State.setObj_aon (s : State) (ix sub v : Nat) : (s.setObj ix sub v).aon = s.aon := by
  unfold State.setObj; split
  · rfl
  · split <;> rfl
@[simp] theorem State.setObj_medium (s : State) (ix sub v : Nat) : (s.setObj ix sub v).medium = s.medium := by
  unfold State.setObj; split
  · rfl
  · split <;> rfl
@[simp] theorem State.setObj_free (s : State) (ix sub v : Nat) : (s.setObj ix sub v).free = s.free := by
  unfold State.setObj; split
  · rfl
  · split <;> rfl
@[simp] theorem State.setObj_pending (s : State) (ix sub v : Nat) : (s.setObj ix sub v).pending = s.pending := by
  unfold State.setObj; split
  · rfl
  · split <;> rfl
@[simp] theorem State.setObj_rr_param (s : State) (ix sub v : Nat) : (s.setObj ix sub v).rr.param = s.rr.param := by
  unfold State.setObj; split
  · rfl
  · split <;> rfl
@[simp] theorem State.setObj_rr_boot (s : State) (ix sub v : Nat) : (s.setObj ix sub v).rr.boot = s.rr.boot := by
  unfold State.setObj; split
  · rfl
  · split <;> rfl
@[simp] theorem State.setObj_rr_key (s : State) (ix sub v : Nat) : (s.setObj ix sub v).rr.key = s.rr.key := by
  unfold State.setObj; split
  · rfl
  · split <;> rfl
@[simp] theorem State.setObj_rr_cal (s : State) (ix sub v : Nat) : (s.setObj ix sub v).rr.cal = s.rr.cal := by
  unfold State.setObj; split
  · rfl
  · split <;> rfl
@[simp] theorem State.setObj_rr_ctrs (s : State) (ix sub v : Nat) : (s.setObj ix sub v).rr.ctrs = s.rr.ctrs := by
  unfold State.setObj; split
  · rfl
  · split <;> rfl
@[simp] theorem State.setObj_rr_remapped (s : State) (ix sub v : Nat) : (s.setObj ix sub v).rr.remapped = s.rr.remapped := by
  unfold State.setObj; split
  · rfl
  · split <;> rfl
@[simp] theorem State.setObj_rr_sparesUsed (s : State) (ix sub v : Nat) : (s.setObj ix sub v).rr.sparesUsed = s.rr.sparesUsed := by
  unfold State.setObj; split
  · rfl
  · split <;> rfl
@[simp] theorem State.setObj_rr_lifecycle (s : State) (ix sub v : Nat) : (s.setObj ix sub v).rr.lifecycle = s.rr.lifecycle := by
  unfold State.setObj; split
  · rfl
  · split <;> rfl
@[simp] theorem State.setObj_rr_fwA (s : State) (ix sub v : Nat) : (s.setObj ix sub v).rr.fwA = s.rr.fwA := by
  unfold State.setObj; split
  · rfl
  · split <;> rfl
@[simp] theorem State.setObj_rr_fwB (s : State) (ix sub v : Nat) : (s.setObj ix sub v).rr.fwB = s.rr.fwB := by
  unfold State.setObj; split
  · rfl
  · split <;> rfl
@[simp] theorem State.setObj_rr_active (s : State) (ix sub v : Nat) : (s.setObj ix sub v).rr.active = s.rr.active := by
  unfold State.setObj; split
  · rfl
  · split <;> rfl
@[simp] theorem State.setObj_rr_trialBank (s : State) (ix sub v : Nat) : (s.setObj ix sub v).rr.trialBank = s.rr.trialBank := by
  unfold State.setObj; split
  · rfl
  · split <;> rfl
@[simp] theorem State.setObj_rr_trialRan (s : State) (ix sub v : Nat) : (s.setObj ix sub v).rr.trialRan = s.rr.trialRan := by
  unfold State.setObj; split
  · rfl
  · split <;> rfl
@[simp] theorem State.setObj_rr_floor (s : State) (ix sub v : Nat) : (s.setObj ix sub v).rr.floor = s.rr.floor := by
  unfold State.setObj; split
  · rfl
  · split <;> rfl
@[simp] theorem State.setObj_rr_badBlocks (s : State) (ix sub v : Nat) : (s.setObj ix sub v).rr.badBlocks = s.rr.badBlocks := by
  unfold State.setObj; split
  · rfl
  · split <;> rfl
@[simp] theorem State.setObj_rr_headHint (s : State) (ix sub v : Nat) : (s.setObj ix sub v).rr.headHint = s.rr.headHint := by
  unfold State.setObj; split
  · rfl
  · split <;> rfl
@[simp] theorem State.setObj_rr_oldest (s : State) (ix sub v : Nat) : (s.setObj ix sub v).rr.oldest = s.rr.oldest := by
  unfold State.setObj; split
  · rfl
  · split <;> rfl
@[simp] theorem State.setObj_rr_wraps (s : State) (ix sub v : Nat) : (s.setObj ix sub v).rr.wraps = s.rr.wraps := by
  unfold State.setObj; split
  · rfl
  · split <;> rfl
@[simp] theorem State.setObj_rr_tamper (s : State) (ix sub v : Nat) : (s.setObj ix sub v).rr.tamper = s.rr.tamper := by
  unfold State.setObj; split
  · rfl
  · split <;> rfl
@[simp] theorem State.setObj_rr_slots (s : State) (ix sub v : Nat) : (s.setObj ix sub v).rr.slots = s.rr.slots := by
  unfold State.setObj; split
  · rfl
  · split <;> rfl
@[simp] theorem State.setObj_rr_vehicleId (s : State) (ix sub v : Nat) : (s.setObj ix sub v).rr.vehicleId = s.rr.vehicleId := by
  unfold State.setObj; split
  · rfl
  · split <;> rfl
@[simp] theorem State.setObj_rr_stock (s : State) (ix sub v : Nat) : (s.setObj ix sub v).rr.stock = s.rr.stock := by
  unfold State.setObj; split
  · rfl
  · split <;> rfl
@[simp] theorem State.setObj_rr_locked (s : State) (ix sub v : Nat) : (s.setObj ix sub v).rr.locked = s.rr.locked := by
  unfold State.setObj; split
  · rfl
  · split <;> rfl
@[simp] theorem State.setObj_rr_map (s : State) (ix sub v : Nat) : (s.setObj ix sub v).rr.map = s.rr.map := by
  unfold State.setObj; split
  · rfl
  · split <;> rfl
@[simp] theorem State.setObj_rr_mapWaits (s : State) (ix sub v : Nat) : (s.setObj ix sub v).rr.mapWaits = s.rr.mapWaits := by
  unfold State.setObj; split
  · rfl
  · split <;> rfl
@[simp] theorem State.setObj_rr_paired (s : State) (ix sub v : Nat) : (s.setObj ix sub v).rr.paired = s.rr.paired := by
  unfold State.setObj; split
  · rfl
  · split <;> rfl
@[simp] theorem State.setObj_rr_pairRec (s : State) (ix sub v : Nat) : (s.setObj ix sub v).rr.pairRec = s.rr.pairRec := by
  unfold State.setObj; split
  · rfl
  · split <;> rfl
@[simp] theorem State.setObj_rr_tractors (s : State) (ix sub v : Nat) : (s.setObj ix sub v).rr.tractors = s.rr.tractors := by
  unfold State.setObj; split
  · rfl
  · split <;> rfl
@[simp] theorem State.setObj_rr_latch (s : State) (ix sub v : Nat) : (s.setObj ix sub v).rr.latch = s.rr.latch := by
  unfold State.setObj; split
  · rfl
  · split <;> rfl
@[simp] theorem State.setObj_rr_tag (s : State) (ix sub v : Nat) : (s.setObj ix sub v).rr.tag = s.rr.tag := by
  unfold State.setObj; split
  · rfl
  · split <;> rfl
@[simp] theorem State.setObj_rr_tamperAt (s : State) (ix sub v : Nat) : (s.setObj ix sub v).rr.tamperAt = s.rr.tamperAt := by
  unfold State.setObj; split
  · rfl
  · split <;> rfl

@[simp] theorem State.emit_now (s : State) (n code p : Nat) : (s.emit n code p).now = s.now := by
  unfold State.emit; split
  · rfl
  · dsimp only; split <;> simp
@[simp] theorem State.emit_us (s : State) (n code p : Nat) : (s.emit n code p).us = s.us := by
  unfold State.emit; split
  · rfl
  · dsimp only; split <;> simp
@[simp] theorem State.emit_sticky (s : State) (n code p : Nat) : (s.emit n code p).sticky = s.sticky := by
  unfold State.emit; split
  · rfl
  · dsimp only; split <;> simp
@[simp] theorem State.emit_objs (s : State) (n code p : Nat) : (s.emit n code p).objs = s.objs := by
  unfold State.emit; split
  · rfl
  · dsimp only; split <;> simp
@[simp] theorem State.emit_snaps (s : State) (n code p : Nat) : (s.emit n code p).snaps = s.snaps := by
  unfold State.emit; split
  · rfl
  · dsimp only; split <;> simp
@[simp] theorem State.emit_refused (s : State) (n code p : Nat) : (s.emit n code p).refused = s.refused := by
  unfold State.emit; split
  · rfl
  · dsimp only; split <;> simp
@[simp] theorem State.emit_dict (s : State) (n code p : Nat) : (s.emit n code p).dict = s.dict := by
  unfold State.emit; split
  · rfl
  · dsimp only; split <;> simp
@[simp] theorem State.emit_host (s : State) (n code p : Nat) : (s.emit n code p).host = s.host := by
  unfold State.emit; split
  · rfl
  · dsimp only; split <;> simp
@[simp] theorem State.emit_lf (s : State) (n code p : Nat) : (s.emit n code p).lf = s.lf := by
  unfold State.emit; split
  · rfl
  · dsimp only; split <;> simp
@[simp] theorem State.emit_phy (s : State) (n code p : Nat) : (s.emit n code p).phy = s.phy := by
  unfold State.emit; split
  · rfl
  · dsimp only; split <;> simp
@[simp] theorem State.emit_nv (s : State) (n code p : Nat) : (s.emit n code p).nv = s.nv := by
  unfold State.emit; split
  · rfl
  · dsimp only; split <;> simp
@[simp] theorem State.emit_sup (s : State) (n code p : Nat) : (s.emit n code p).sup = s.sup := by
  unfold State.emit; split
  · rfl
  · dsimp only; split <;> simp
@[simp] theorem State.emit_timers (s : State) (n code p : Nat) : (s.emit n code p).timers = s.timers := by
  unfold State.emit; split
  · rfl
  · dsimp only; split <;> simp
@[simp] theorem State.emit_dist (s : State) (n code p : Nat) : (s.emit n code p).dist = s.dist := by
  unfold State.emit; split
  · rfl
  · dsimp only; split <;> simp
@[simp] theorem State.emit_gnss (s : State) (n code p : Nat) : (s.emit n code p).gnss = s.gnss := by
  unfold State.emit; split
  · rfl
  · dsimp only; split <;> simp
@[simp] theorem State.emit_sched (s : State) (n code p : Nat) : (s.emit n code p).sched = s.sched := by
  unfold State.emit; split
  · rfl
  · dsimp only; split <;> simp
@[simp] theorem State.emit_can0 (s : State) (n code p : Nat) : (s.emit n code p).can0 = s.can0 := by
  unfold State.emit; split
  · rfl
  · dsimp only; split <;> simp
@[simp] theorem State.emit_can1 (s : State) (n code p : Nat) : (s.emit n code p).can1 = s.can1 := by
  unfold State.emit; split
  · rfl
  · dsimp only; split <;> simp
@[simp] theorem State.emit_bell (s : State) (n code p : Nat) : (s.emit n code p).bell = s.bell := by
  unfold State.emit; split
  · rfl
  · dsimp only; split <;> simp
@[simp] theorem State.emit_pol (s : State) (n code p : Nat) : (s.emit n code p).pol = s.pol := by
  unfold State.emit; split
  · rfl
  · dsimp only; split <;> simp
@[simp] theorem State.emit_cipher (s : State) (n code p : Nat) : (s.emit n code p).cipher = s.cipher := by
  unfold State.emit; split
  · rfl
  · dsimp only; split <;> simp
@[simp] theorem State.emit_pk (s : State) (n code p : Nat) : (s.emit n code p).pk = s.pk := by
  unfold State.emit; split
  · rfl
  · dsimp only; split <;> simp
@[simp] theorem State.emit_ks (s : State) (n code p : Nat) : (s.emit n code p).ks = s.ks := by
  unfold State.emit; split
  · rfl
  · dsimp only; split <;> simp
@[simp] theorem State.emit_rng (s : State) (n code p : Nat) : (s.emit n code p).rng = s.rng := by
  unfold State.emit; split
  · rfl
  · dsimp only; split <;> simp
@[simp] theorem State.emit_cx (s : State) (n code p : Nat) : (s.emit n code p).cx = s.cx := by
  unfold State.emit; split
  · rfl
  · dsimp only; split <;> simp
@[simp] theorem State.emit_loc (s : State) (n code p : Nat) : (s.emit n code p).loc = s.loc := by
  unfold State.emit; split
  · rfl
  · dsimp only; split <;> simp
@[simp] theorem State.emit_tag (s : State) (n code p : Nat) : (s.emit n code p).tag = s.tag := by
  unfold State.emit; split
  · rfl
  · dsimp only; split <;> simp
@[simp] theorem State.emit_tagd (s : State) (n code p : Nat) : (s.emit n code p).tagd = s.tagd := by
  unfold State.emit; split
  · rfl
  · dsimp only; split <;> simp
@[simp] theorem State.emit_aon (s : State) (n code p : Nat) : (s.emit n code p).aon = s.aon := by
  unfold State.emit; split
  · rfl
  · dsimp only; split <;> simp
@[simp] theorem State.emit_medium (s : State) (n code p : Nat) : (s.emit n code p).medium = s.medium := by
  unfold State.emit; split
  · rfl
  · dsimp only; split <;> simp
@[simp] theorem State.emit_free (s : State) (n code p : Nat) : (s.emit n code p).free = s.free := by
  unfold State.emit; split
  · rfl
  · dsimp only; split <;> simp
@[simp] theorem State.emit_pending (s : State) (n code p : Nat) : (s.emit n code p).pending = s.pending := by
  unfold State.emit; split
  · rfl
  · dsimp only; split <;> simp
@[simp] theorem State.emit_rr_objs (s : State) (n code p : Nat) : (s.emit n code p).rr.objs = s.rr.objs := by
  unfold State.emit; split
  · rfl
  · dsimp only; split <;> simp
@[simp] theorem State.emit_rr_param (s : State) (n code p : Nat) : (s.emit n code p).rr.param = s.rr.param := by
  unfold State.emit; split
  · rfl
  · dsimp only; split <;> simp
@[simp] theorem State.emit_rr_boot (s : State) (n code p : Nat) : (s.emit n code p).rr.boot = s.rr.boot := by
  unfold State.emit; split
  · rfl
  · dsimp only; split <;> simp
@[simp] theorem State.emit_rr_key (s : State) (n code p : Nat) : (s.emit n code p).rr.key = s.rr.key := by
  unfold State.emit; split
  · rfl
  · dsimp only; split <;> simp
@[simp] theorem State.emit_rr_cal (s : State) (n code p : Nat) : (s.emit n code p).rr.cal = s.rr.cal := by
  unfold State.emit; split
  · rfl
  · dsimp only; split <;> simp
@[simp] theorem State.emit_rr_remapped (s : State) (n code p : Nat) : (s.emit n code p).rr.remapped = s.rr.remapped := by
  unfold State.emit; split
  · rfl
  · dsimp only; split <;> simp
@[simp] theorem State.emit_rr_sparesUsed (s : State) (n code p : Nat) : (s.emit n code p).rr.sparesUsed = s.rr.sparesUsed := by
  unfold State.emit; split
  · rfl
  · dsimp only; split <;> simp
@[simp] theorem State.emit_rr_lifecycle (s : State) (n code p : Nat) : (s.emit n code p).rr.lifecycle = s.rr.lifecycle := by
  unfold State.emit; split
  · rfl
  · dsimp only; split <;> simp
@[simp] theorem State.emit_rr_fwA (s : State) (n code p : Nat) : (s.emit n code p).rr.fwA = s.rr.fwA := by
  unfold State.emit; split
  · rfl
  · dsimp only; split <;> simp
@[simp] theorem State.emit_rr_fwB (s : State) (n code p : Nat) : (s.emit n code p).rr.fwB = s.rr.fwB := by
  unfold State.emit; split
  · rfl
  · dsimp only; split <;> simp
@[simp] theorem State.emit_rr_active (s : State) (n code p : Nat) : (s.emit n code p).rr.active = s.rr.active := by
  unfold State.emit; split
  · rfl
  · dsimp only; split <;> simp
@[simp] theorem State.emit_rr_trialBank (s : State) (n code p : Nat) : (s.emit n code p).rr.trialBank = s.rr.trialBank := by
  unfold State.emit; split
  · rfl
  · dsimp only; split <;> simp
@[simp] theorem State.emit_rr_trialRan (s : State) (n code p : Nat) : (s.emit n code p).rr.trialRan = s.rr.trialRan := by
  unfold State.emit; split
  · rfl
  · dsimp only; split <;> simp
@[simp] theorem State.emit_rr_floor (s : State) (n code p : Nat) : (s.emit n code p).rr.floor = s.rr.floor := by
  unfold State.emit; split
  · rfl
  · dsimp only; split <;> simp
@[simp] theorem State.emit_rr_badBlocks (s : State) (n code p : Nat) : (s.emit n code p).rr.badBlocks = s.rr.badBlocks := by
  unfold State.emit; split
  · rfl
  · dsimp only; split <;> simp
@[simp] theorem State.emit_rr_headHint (s : State) (n code p : Nat) : (s.emit n code p).rr.headHint = s.rr.headHint := by
  unfold State.emit; split
  · rfl
  · dsimp only; split <;> simp
@[simp] theorem State.emit_rr_oldest (s : State) (n code p : Nat) : (s.emit n code p).rr.oldest = s.rr.oldest := by
  unfold State.emit; split
  · rfl
  · dsimp only; split <;> simp
@[simp] theorem State.emit_rr_wraps (s : State) (n code p : Nat) : (s.emit n code p).rr.wraps = s.rr.wraps := by
  unfold State.emit; split
  · rfl
  · dsimp only; split <;> simp
@[simp] theorem State.emit_rr_tamper (s : State) (n code p : Nat) : (s.emit n code p).rr.tamper = s.rr.tamper := by
  unfold State.emit; split
  · rfl
  · dsimp only; split <;> simp
@[simp] theorem State.emit_rr_slots (s : State) (n code p : Nat) : (s.emit n code p).rr.slots = s.rr.slots := by
  unfold State.emit; split
  · rfl
  · dsimp only; split <;> simp
@[simp] theorem State.emit_rr_vehicleId (s : State) (n code p : Nat) : (s.emit n code p).rr.vehicleId = s.rr.vehicleId := by
  unfold State.emit; split
  · rfl
  · dsimp only; split <;> simp
@[simp] theorem State.emit_rr_stock (s : State) (n code p : Nat) : (s.emit n code p).rr.stock = s.rr.stock := by
  unfold State.emit; split
  · rfl
  · dsimp only; split <;> simp
@[simp] theorem State.emit_rr_locked (s : State) (n code p : Nat) : (s.emit n code p).rr.locked = s.rr.locked := by
  unfold State.emit; split
  · rfl
  · dsimp only; split <;> simp
@[simp] theorem State.emit_rr_map (s : State) (n code p : Nat) : (s.emit n code p).rr.map = s.rr.map := by
  unfold State.emit; split
  · rfl
  · dsimp only; split <;> simp
@[simp] theorem State.emit_rr_mapWaits (s : State) (n code p : Nat) : (s.emit n code p).rr.mapWaits = s.rr.mapWaits := by
  unfold State.emit; split
  · rfl
  · dsimp only; split <;> simp
@[simp] theorem State.emit_rr_paired (s : State) (n code p : Nat) : (s.emit n code p).rr.paired = s.rr.paired := by
  unfold State.emit; split
  · rfl
  · dsimp only; split <;> simp
@[simp] theorem State.emit_rr_pairRec (s : State) (n code p : Nat) : (s.emit n code p).rr.pairRec = s.rr.pairRec := by
  unfold State.emit; split
  · rfl
  · dsimp only; split <;> simp
@[simp] theorem State.emit_rr_tractors (s : State) (n code p : Nat) : (s.emit n code p).rr.tractors = s.rr.tractors := by
  unfold State.emit; split
  · rfl
  · dsimp only; split <;> simp
@[simp] theorem State.emit_rr_latch (s : State) (n code p : Nat) : (s.emit n code p).rr.latch = s.rr.latch := by
  unfold State.emit; split
  · rfl
  · dsimp only; split <;> simp
@[simp] theorem State.emit_rr_tag (s : State) (n code p : Nat) : (s.emit n code p).rr.tag = s.rr.tag := by
  unfold State.emit; split
  · rfl
  · dsimp only; split <;> simp
@[simp] theorem State.emit_rr_tamperAt (s : State) (n code p : Nat) : (s.emit n code p).rr.tamperAt = s.rr.tamperAt := by
  unfold State.emit; split
  · rfl
  · dsimp only; split <;> simp

@[simp] theorem State.emitIf_now (s : State) (b : Bool) (n code p : Nat) : (s.emitIf b n code p).now = s.now := by
  unfold State.emitIf; split <;> simp
@[simp] theorem State.emitIf_us (s : State) (b : Bool) (n code p : Nat) : (s.emitIf b n code p).us = s.us := by
  unfold State.emitIf; split <;> simp
@[simp] theorem State.emitIf_sticky (s : State) (b : Bool) (n code p : Nat) : (s.emitIf b n code p).sticky = s.sticky := by
  unfold State.emitIf; split <;> simp
@[simp] theorem State.emitIf_objs (s : State) (b : Bool) (n code p : Nat) : (s.emitIf b n code p).objs = s.objs := by
  unfold State.emitIf; split <;> simp
@[simp] theorem State.emitIf_snaps (s : State) (b : Bool) (n code p : Nat) : (s.emitIf b n code p).snaps = s.snaps := by
  unfold State.emitIf; split <;> simp
@[simp] theorem State.emitIf_refused (s : State) (b : Bool) (n code p : Nat) : (s.emitIf b n code p).refused = s.refused := by
  unfold State.emitIf; split <;> simp
@[simp] theorem State.emitIf_dict (s : State) (b : Bool) (n code p : Nat) : (s.emitIf b n code p).dict = s.dict := by
  unfold State.emitIf; split <;> simp
@[simp] theorem State.emitIf_host (s : State) (b : Bool) (n code p : Nat) : (s.emitIf b n code p).host = s.host := by
  unfold State.emitIf; split <;> simp
@[simp] theorem State.emitIf_lf (s : State) (b : Bool) (n code p : Nat) : (s.emitIf b n code p).lf = s.lf := by
  unfold State.emitIf; split <;> simp
@[simp] theorem State.emitIf_phy (s : State) (b : Bool) (n code p : Nat) : (s.emitIf b n code p).phy = s.phy := by
  unfold State.emitIf; split <;> simp
@[simp] theorem State.emitIf_nv (s : State) (b : Bool) (n code p : Nat) : (s.emitIf b n code p).nv = s.nv := by
  unfold State.emitIf; split <;> simp
@[simp] theorem State.emitIf_sup (s : State) (b : Bool) (n code p : Nat) : (s.emitIf b n code p).sup = s.sup := by
  unfold State.emitIf; split <;> simp
@[simp] theorem State.emitIf_timers (s : State) (b : Bool) (n code p : Nat) : (s.emitIf b n code p).timers = s.timers := by
  unfold State.emitIf; split <;> simp
@[simp] theorem State.emitIf_dist (s : State) (b : Bool) (n code p : Nat) : (s.emitIf b n code p).dist = s.dist := by
  unfold State.emitIf; split <;> simp
@[simp] theorem State.emitIf_gnss (s : State) (b : Bool) (n code p : Nat) : (s.emitIf b n code p).gnss = s.gnss := by
  unfold State.emitIf; split <;> simp
@[simp] theorem State.emitIf_sched (s : State) (b : Bool) (n code p : Nat) : (s.emitIf b n code p).sched = s.sched := by
  unfold State.emitIf; split <;> simp
@[simp] theorem State.emitIf_can0 (s : State) (b : Bool) (n code p : Nat) : (s.emitIf b n code p).can0 = s.can0 := by
  unfold State.emitIf; split <;> simp
@[simp] theorem State.emitIf_can1 (s : State) (b : Bool) (n code p : Nat) : (s.emitIf b n code p).can1 = s.can1 := by
  unfold State.emitIf; split <;> simp
@[simp] theorem State.emitIf_bell (s : State) (b : Bool) (n code p : Nat) : (s.emitIf b n code p).bell = s.bell := by
  unfold State.emitIf; split <;> simp
@[simp] theorem State.emitIf_pol (s : State) (b : Bool) (n code p : Nat) : (s.emitIf b n code p).pol = s.pol := by
  unfold State.emitIf; split <;> simp
@[simp] theorem State.emitIf_cipher (s : State) (b : Bool) (n code p : Nat) : (s.emitIf b n code p).cipher = s.cipher := by
  unfold State.emitIf; split <;> simp
@[simp] theorem State.emitIf_pk (s : State) (b : Bool) (n code p : Nat) : (s.emitIf b n code p).pk = s.pk := by
  unfold State.emitIf; split <;> simp
@[simp] theorem State.emitIf_ks (s : State) (b : Bool) (n code p : Nat) : (s.emitIf b n code p).ks = s.ks := by
  unfold State.emitIf; split <;> simp
@[simp] theorem State.emitIf_rng (s : State) (b : Bool) (n code p : Nat) : (s.emitIf b n code p).rng = s.rng := by
  unfold State.emitIf; split <;> simp
@[simp] theorem State.emitIf_cx (s : State) (b : Bool) (n code p : Nat) : (s.emitIf b n code p).cx = s.cx := by
  unfold State.emitIf; split <;> simp
@[simp] theorem State.emitIf_loc (s : State) (b : Bool) (n code p : Nat) : (s.emitIf b n code p).loc = s.loc := by
  unfold State.emitIf; split <;> simp
@[simp] theorem State.emitIf_tag (s : State) (b : Bool) (n code p : Nat) : (s.emitIf b n code p).tag = s.tag := by
  unfold State.emitIf; split <;> simp
@[simp] theorem State.emitIf_tagd (s : State) (b : Bool) (n code p : Nat) : (s.emitIf b n code p).tagd = s.tagd := by
  unfold State.emitIf; split <;> simp
@[simp] theorem State.emitIf_aon (s : State) (b : Bool) (n code p : Nat) : (s.emitIf b n code p).aon = s.aon := by
  unfold State.emitIf; split <;> simp
@[simp] theorem State.emitIf_medium (s : State) (b : Bool) (n code p : Nat) : (s.emitIf b n code p).medium = s.medium := by
  unfold State.emitIf; split <;> simp
@[simp] theorem State.emitIf_free (s : State) (b : Bool) (n code p : Nat) : (s.emitIf b n code p).free = s.free := by
  unfold State.emitIf; split <;> simp
@[simp] theorem State.emitIf_pending (s : State) (b : Bool) (n code p : Nat) : (s.emitIf b n code p).pending = s.pending := by
  unfold State.emitIf; split <;> simp
@[simp] theorem State.emitIf_rr_objs (s : State) (b : Bool) (n code p : Nat) : (s.emitIf b n code p).rr.objs = s.rr.objs := by
  unfold State.emitIf; split <;> simp
@[simp] theorem State.emitIf_rr_param (s : State) (b : Bool) (n code p : Nat) : (s.emitIf b n code p).rr.param = s.rr.param := by
  unfold State.emitIf; split <;> simp
@[simp] theorem State.emitIf_rr_boot (s : State) (b : Bool) (n code p : Nat) : (s.emitIf b n code p).rr.boot = s.rr.boot := by
  unfold State.emitIf; split <;> simp
@[simp] theorem State.emitIf_rr_key (s : State) (b : Bool) (n code p : Nat) : (s.emitIf b n code p).rr.key = s.rr.key := by
  unfold State.emitIf; split <;> simp
@[simp] theorem State.emitIf_rr_cal (s : State) (b : Bool) (n code p : Nat) : (s.emitIf b n code p).rr.cal = s.rr.cal := by
  unfold State.emitIf; split <;> simp
@[simp] theorem State.emitIf_rr_remapped (s : State) (b : Bool) (n code p : Nat) : (s.emitIf b n code p).rr.remapped = s.rr.remapped := by
  unfold State.emitIf; split <;> simp
@[simp] theorem State.emitIf_rr_sparesUsed (s : State) (b : Bool) (n code p : Nat) : (s.emitIf b n code p).rr.sparesUsed = s.rr.sparesUsed := by
  unfold State.emitIf; split <;> simp
@[simp] theorem State.emitIf_rr_lifecycle (s : State) (b : Bool) (n code p : Nat) : (s.emitIf b n code p).rr.lifecycle = s.rr.lifecycle := by
  unfold State.emitIf; split <;> simp
@[simp] theorem State.emitIf_rr_fwA (s : State) (b : Bool) (n code p : Nat) : (s.emitIf b n code p).rr.fwA = s.rr.fwA := by
  unfold State.emitIf; split <;> simp
@[simp] theorem State.emitIf_rr_fwB (s : State) (b : Bool) (n code p : Nat) : (s.emitIf b n code p).rr.fwB = s.rr.fwB := by
  unfold State.emitIf; split <;> simp
@[simp] theorem State.emitIf_rr_active (s : State) (b : Bool) (n code p : Nat) : (s.emitIf b n code p).rr.active = s.rr.active := by
  unfold State.emitIf; split <;> simp
@[simp] theorem State.emitIf_rr_trialBank (s : State) (b : Bool) (n code p : Nat) : (s.emitIf b n code p).rr.trialBank = s.rr.trialBank := by
  unfold State.emitIf; split <;> simp
@[simp] theorem State.emitIf_rr_trialRan (s : State) (b : Bool) (n code p : Nat) : (s.emitIf b n code p).rr.trialRan = s.rr.trialRan := by
  unfold State.emitIf; split <;> simp
@[simp] theorem State.emitIf_rr_floor (s : State) (b : Bool) (n code p : Nat) : (s.emitIf b n code p).rr.floor = s.rr.floor := by
  unfold State.emitIf; split <;> simp
@[simp] theorem State.emitIf_rr_badBlocks (s : State) (b : Bool) (n code p : Nat) : (s.emitIf b n code p).rr.badBlocks = s.rr.badBlocks := by
  unfold State.emitIf; split <;> simp
@[simp] theorem State.emitIf_rr_headHint (s : State) (b : Bool) (n code p : Nat) : (s.emitIf b n code p).rr.headHint = s.rr.headHint := by
  unfold State.emitIf; split <;> simp
@[simp] theorem State.emitIf_rr_oldest (s : State) (b : Bool) (n code p : Nat) : (s.emitIf b n code p).rr.oldest = s.rr.oldest := by
  unfold State.emitIf; split <;> simp
@[simp] theorem State.emitIf_rr_wraps (s : State) (b : Bool) (n code p : Nat) : (s.emitIf b n code p).rr.wraps = s.rr.wraps := by
  unfold State.emitIf; split <;> simp
@[simp] theorem State.emitIf_rr_tamper (s : State) (b : Bool) (n code p : Nat) : (s.emitIf b n code p).rr.tamper = s.rr.tamper := by
  unfold State.emitIf; split <;> simp
@[simp] theorem State.emitIf_rr_slots (s : State) (b : Bool) (n code p : Nat) : (s.emitIf b n code p).rr.slots = s.rr.slots := by
  unfold State.emitIf; split <;> simp
@[simp] theorem State.emitIf_rr_vehicleId (s : State) (b : Bool) (n code p : Nat) : (s.emitIf b n code p).rr.vehicleId = s.rr.vehicleId := by
  unfold State.emitIf; split <;> simp
@[simp] theorem State.emitIf_rr_stock (s : State) (b : Bool) (n code p : Nat) : (s.emitIf b n code p).rr.stock = s.rr.stock := by
  unfold State.emitIf; split <;> simp
@[simp] theorem State.emitIf_rr_locked (s : State) (b : Bool) (n code p : Nat) : (s.emitIf b n code p).rr.locked = s.rr.locked := by
  unfold State.emitIf; split <;> simp
@[simp] theorem State.emitIf_rr_map (s : State) (b : Bool) (n code p : Nat) : (s.emitIf b n code p).rr.map = s.rr.map := by
  unfold State.emitIf; split <;> simp
@[simp] theorem State.emitIf_rr_mapWaits (s : State) (b : Bool) (n code p : Nat) : (s.emitIf b n code p).rr.mapWaits = s.rr.mapWaits := by
  unfold State.emitIf; split <;> simp
@[simp] theorem State.emitIf_rr_paired (s : State) (b : Bool) (n code p : Nat) : (s.emitIf b n code p).rr.paired = s.rr.paired := by
  unfold State.emitIf; split <;> simp
@[simp] theorem State.emitIf_rr_pairRec (s : State) (b : Bool) (n code p : Nat) : (s.emitIf b n code p).rr.pairRec = s.rr.pairRec := by
  unfold State.emitIf; split <;> simp
@[simp] theorem State.emitIf_rr_tractors (s : State) (b : Bool) (n code p : Nat) : (s.emitIf b n code p).rr.tractors = s.rr.tractors := by
  unfold State.emitIf; split <;> simp
@[simp] theorem State.emitIf_rr_latch (s : State) (b : Bool) (n code p : Nat) : (s.emitIf b n code p).rr.latch = s.rr.latch := by
  unfold State.emitIf; split <;> simp
@[simp] theorem State.emitIf_rr_tag (s : State) (b : Bool) (n code p : Nat) : (s.emitIf b n code p).rr.tag = s.rr.tag := by
  unfold State.emitIf; split <;> simp
@[simp] theorem State.emitIf_rr_tamperAt (s : State) (b : Bool) (n code p : Nat) : (s.emitIf b n code p).rr.tamperAt = s.rr.tamperAt := by
  unfold State.emitIf; split <;> simp

@[simp] theorem State.snapshot_now (s : State) (k lo hi : Nat) (b : Bool) (n code p : Nat) : (s.snapshot k lo hi b n code p).now = s.now := by
  unfold State.snapshot; split
  · rfl
  · split <;> simp
@[simp] theorem State.snapshot_us (s : State) (k lo hi : Nat) (b : Bool) (n code p : Nat) : (s.snapshot k lo hi b n code p).us = s.us := by
  unfold State.snapshot; split
  · rfl
  · split <;> simp
@[simp] theorem State.snapshot_objs (s : State) (k lo hi : Nat) (b : Bool) (n code p : Nat) : (s.snapshot k lo hi b n code p).objs = s.objs := by
  unfold State.snapshot; split
  · rfl
  · split <;> simp
@[simp] theorem State.snapshot_dict (s : State) (k lo hi : Nat) (b : Bool) (n code p : Nat) : (s.snapshot k lo hi b n code p).dict = s.dict := by
  unfold State.snapshot; split
  · rfl
  · split <;> simp
@[simp] theorem State.snapshot_host (s : State) (k lo hi : Nat) (b : Bool) (n code p : Nat) : (s.snapshot k lo hi b n code p).host = s.host := by
  unfold State.snapshot; split
  · rfl
  · split <;> simp
@[simp] theorem State.snapshot_lf (s : State) (k lo hi : Nat) (b : Bool) (n code p : Nat) : (s.snapshot k lo hi b n code p).lf = s.lf := by
  unfold State.snapshot; split
  · rfl
  · split <;> simp
@[simp] theorem State.snapshot_phy (s : State) (k lo hi : Nat) (b : Bool) (n code p : Nat) : (s.snapshot k lo hi b n code p).phy = s.phy := by
  unfold State.snapshot; split
  · rfl
  · split <;> simp
@[simp] theorem State.snapshot_nv (s : State) (k lo hi : Nat) (b : Bool) (n code p : Nat) : (s.snapshot k lo hi b n code p).nv = s.nv := by
  unfold State.snapshot; split
  · rfl
  · split <;> simp
@[simp] theorem State.snapshot_sup (s : State) (k lo hi : Nat) (b : Bool) (n code p : Nat) : (s.snapshot k lo hi b n code p).sup = s.sup := by
  unfold State.snapshot; split
  · rfl
  · split <;> simp
@[simp] theorem State.snapshot_timers (s : State) (k lo hi : Nat) (b : Bool) (n code p : Nat) : (s.snapshot k lo hi b n code p).timers = s.timers := by
  unfold State.snapshot; split
  · rfl
  · split <;> simp
@[simp] theorem State.snapshot_dist (s : State) (k lo hi : Nat) (b : Bool) (n code p : Nat) : (s.snapshot k lo hi b n code p).dist = s.dist := by
  unfold State.snapshot; split
  · rfl
  · split <;> simp
@[simp] theorem State.snapshot_gnss (s : State) (k lo hi : Nat) (b : Bool) (n code p : Nat) : (s.snapshot k lo hi b n code p).gnss = s.gnss := by
  unfold State.snapshot; split
  · rfl
  · split <;> simp
@[simp] theorem State.snapshot_sched (s : State) (k lo hi : Nat) (b : Bool) (n code p : Nat) : (s.snapshot k lo hi b n code p).sched = s.sched := by
  unfold State.snapshot; split
  · rfl
  · split <;> simp
@[simp] theorem State.snapshot_can0 (s : State) (k lo hi : Nat) (b : Bool) (n code p : Nat) : (s.snapshot k lo hi b n code p).can0 = s.can0 := by
  unfold State.snapshot; split
  · rfl
  · split <;> simp
@[simp] theorem State.snapshot_can1 (s : State) (k lo hi : Nat) (b : Bool) (n code p : Nat) : (s.snapshot k lo hi b n code p).can1 = s.can1 := by
  unfold State.snapshot; split
  · rfl
  · split <;> simp
@[simp] theorem State.snapshot_bell (s : State) (k lo hi : Nat) (b : Bool) (n code p : Nat) : (s.snapshot k lo hi b n code p).bell = s.bell := by
  unfold State.snapshot; split
  · rfl
  · split <;> simp
@[simp] theorem State.snapshot_pol (s : State) (k lo hi : Nat) (b : Bool) (n code p : Nat) : (s.snapshot k lo hi b n code p).pol = s.pol := by
  unfold State.snapshot; split
  · rfl
  · split <;> simp
@[simp] theorem State.snapshot_cipher (s : State) (k lo hi : Nat) (b : Bool) (n code p : Nat) : (s.snapshot k lo hi b n code p).cipher = s.cipher := by
  unfold State.snapshot; split
  · rfl
  · split <;> simp
@[simp] theorem State.snapshot_pk (s : State) (k lo hi : Nat) (b : Bool) (n code p : Nat) : (s.snapshot k lo hi b n code p).pk = s.pk := by
  unfold State.snapshot; split
  · rfl
  · split <;> simp
@[simp] theorem State.snapshot_ks (s : State) (k lo hi : Nat) (b : Bool) (n code p : Nat) : (s.snapshot k lo hi b n code p).ks = s.ks := by
  unfold State.snapshot; split
  · rfl
  · split <;> simp
@[simp] theorem State.snapshot_rng (s : State) (k lo hi : Nat) (b : Bool) (n code p : Nat) : (s.snapshot k lo hi b n code p).rng = s.rng := by
  unfold State.snapshot; split
  · rfl
  · split <;> simp
@[simp] theorem State.snapshot_cx (s : State) (k lo hi : Nat) (b : Bool) (n code p : Nat) : (s.snapshot k lo hi b n code p).cx = s.cx := by
  unfold State.snapshot; split
  · rfl
  · split <;> simp
@[simp] theorem State.snapshot_loc (s : State) (k lo hi : Nat) (b : Bool) (n code p : Nat) : (s.snapshot k lo hi b n code p).loc = s.loc := by
  unfold State.snapshot; split
  · rfl
  · split <;> simp
@[simp] theorem State.snapshot_tag (s : State) (k lo hi : Nat) (b : Bool) (n code p : Nat) : (s.snapshot k lo hi b n code p).tag = s.tag := by
  unfold State.snapshot; split
  · rfl
  · split <;> simp
@[simp] theorem State.snapshot_tagd (s : State) (k lo hi : Nat) (b : Bool) (n code p : Nat) : (s.snapshot k lo hi b n code p).tagd = s.tagd := by
  unfold State.snapshot; split
  · rfl
  · split <;> simp
@[simp] theorem State.snapshot_aon (s : State) (k lo hi : Nat) (b : Bool) (n code p : Nat) : (s.snapshot k lo hi b n code p).aon = s.aon := by
  unfold State.snapshot; split
  · rfl
  · split <;> simp
@[simp] theorem State.snapshot_medium (s : State) (k lo hi : Nat) (b : Bool) (n code p : Nat) : (s.snapshot k lo hi b n code p).medium = s.medium := by
  unfold State.snapshot; split
  · rfl
  · split <;> simp
@[simp] theorem State.snapshot_free (s : State) (k lo hi : Nat) (b : Bool) (n code p : Nat) : (s.snapshot k lo hi b n code p).free = s.free := by
  unfold State.snapshot; split
  · rfl
  · split <;> simp
@[simp] theorem State.snapshot_pending (s : State) (k lo hi : Nat) (b : Bool) (n code p : Nat) : (s.snapshot k lo hi b n code p).pending = s.pending := by
  unfold State.snapshot; split
  · rfl
  · split <;> simp
@[simp] theorem State.snapshot_rr_objs (s : State) (k lo hi : Nat) (b : Bool) (n code p : Nat) : (s.snapshot k lo hi b n code p).rr.objs = s.rr.objs := by
  unfold State.snapshot; split
  · rfl
  · split <;> simp
@[simp] theorem State.snapshot_rr_param (s : State) (k lo hi : Nat) (b : Bool) (n code p : Nat) : (s.snapshot k lo hi b n code p).rr.param = s.rr.param := by
  unfold State.snapshot; split
  · rfl
  · split <;> simp
@[simp] theorem State.snapshot_rr_boot (s : State) (k lo hi : Nat) (b : Bool) (n code p : Nat) : (s.snapshot k lo hi b n code p).rr.boot = s.rr.boot := by
  unfold State.snapshot; split
  · rfl
  · split <;> simp
@[simp] theorem State.snapshot_rr_key (s : State) (k lo hi : Nat) (b : Bool) (n code p : Nat) : (s.snapshot k lo hi b n code p).rr.key = s.rr.key := by
  unfold State.snapshot; split
  · rfl
  · split <;> simp
@[simp] theorem State.snapshot_rr_cal (s : State) (k lo hi : Nat) (b : Bool) (n code p : Nat) : (s.snapshot k lo hi b n code p).rr.cal = s.rr.cal := by
  unfold State.snapshot; split
  · rfl
  · split <;> simp
@[simp] theorem State.snapshot_rr_remapped (s : State) (k lo hi : Nat) (b : Bool) (n code p : Nat) : (s.snapshot k lo hi b n code p).rr.remapped = s.rr.remapped := by
  unfold State.snapshot; split
  · rfl
  · split <;> simp
@[simp] theorem State.snapshot_rr_sparesUsed (s : State) (k lo hi : Nat) (b : Bool) (n code p : Nat) : (s.snapshot k lo hi b n code p).rr.sparesUsed = s.rr.sparesUsed := by
  unfold State.snapshot; split
  · rfl
  · split <;> simp
@[simp] theorem State.snapshot_rr_lifecycle (s : State) (k lo hi : Nat) (b : Bool) (n code p : Nat) : (s.snapshot k lo hi b n code p).rr.lifecycle = s.rr.lifecycle := by
  unfold State.snapshot; split
  · rfl
  · split <;> simp
@[simp] theorem State.snapshot_rr_fwA (s : State) (k lo hi : Nat) (b : Bool) (n code p : Nat) : (s.snapshot k lo hi b n code p).rr.fwA = s.rr.fwA := by
  unfold State.snapshot; split
  · rfl
  · split <;> simp
@[simp] theorem State.snapshot_rr_fwB (s : State) (k lo hi : Nat) (b : Bool) (n code p : Nat) : (s.snapshot k lo hi b n code p).rr.fwB = s.rr.fwB := by
  unfold State.snapshot; split
  · rfl
  · split <;> simp
@[simp] theorem State.snapshot_rr_active (s : State) (k lo hi : Nat) (b : Bool) (n code p : Nat) : (s.snapshot k lo hi b n code p).rr.active = s.rr.active := by
  unfold State.snapshot; split
  · rfl
  · split <;> simp
@[simp] theorem State.snapshot_rr_trialBank (s : State) (k lo hi : Nat) (b : Bool) (n code p : Nat) : (s.snapshot k lo hi b n code p).rr.trialBank = s.rr.trialBank := by
  unfold State.snapshot; split
  · rfl
  · split <;> simp
@[simp] theorem State.snapshot_rr_trialRan (s : State) (k lo hi : Nat) (b : Bool) (n code p : Nat) : (s.snapshot k lo hi b n code p).rr.trialRan = s.rr.trialRan := by
  unfold State.snapshot; split
  · rfl
  · split <;> simp
@[simp] theorem State.snapshot_rr_floor (s : State) (k lo hi : Nat) (b : Bool) (n code p : Nat) : (s.snapshot k lo hi b n code p).rr.floor = s.rr.floor := by
  unfold State.snapshot; split
  · rfl
  · split <;> simp
@[simp] theorem State.snapshot_rr_badBlocks (s : State) (k lo hi : Nat) (b : Bool) (n code p : Nat) : (s.snapshot k lo hi b n code p).rr.badBlocks = s.rr.badBlocks := by
  unfold State.snapshot; split
  · rfl
  · split <;> simp
@[simp] theorem State.snapshot_rr_headHint (s : State) (k lo hi : Nat) (b : Bool) (n code p : Nat) : (s.snapshot k lo hi b n code p).rr.headHint = s.rr.headHint := by
  unfold State.snapshot; split
  · rfl
  · split <;> simp
@[simp] theorem State.snapshot_rr_oldest (s : State) (k lo hi : Nat) (b : Bool) (n code p : Nat) : (s.snapshot k lo hi b n code p).rr.oldest = s.rr.oldest := by
  unfold State.snapshot; split
  · rfl
  · split <;> simp
@[simp] theorem State.snapshot_rr_wraps (s : State) (k lo hi : Nat) (b : Bool) (n code p : Nat) : (s.snapshot k lo hi b n code p).rr.wraps = s.rr.wraps := by
  unfold State.snapshot; split
  · rfl
  · split <;> simp
@[simp] theorem State.snapshot_rr_tamper (s : State) (k lo hi : Nat) (b : Bool) (n code p : Nat) : (s.snapshot k lo hi b n code p).rr.tamper = s.rr.tamper := by
  unfold State.snapshot; split
  · rfl
  · split <;> simp
@[simp] theorem State.snapshot_rr_slots (s : State) (k lo hi : Nat) (b : Bool) (n code p : Nat) : (s.snapshot k lo hi b n code p).rr.slots = s.rr.slots := by
  unfold State.snapshot; split
  · rfl
  · split <;> simp
@[simp] theorem State.snapshot_rr_vehicleId (s : State) (k lo hi : Nat) (b : Bool) (n code p : Nat) : (s.snapshot k lo hi b n code p).rr.vehicleId = s.rr.vehicleId := by
  unfold State.snapshot; split
  · rfl
  · split <;> simp
@[simp] theorem State.snapshot_rr_stock (s : State) (k lo hi : Nat) (b : Bool) (n code p : Nat) : (s.snapshot k lo hi b n code p).rr.stock = s.rr.stock := by
  unfold State.snapshot; split
  · rfl
  · split <;> simp
@[simp] theorem State.snapshot_rr_locked (s : State) (k lo hi : Nat) (b : Bool) (n code p : Nat) : (s.snapshot k lo hi b n code p).rr.locked = s.rr.locked := by
  unfold State.snapshot; split
  · rfl
  · split <;> simp
@[simp] theorem State.snapshot_rr_map (s : State) (k lo hi : Nat) (b : Bool) (n code p : Nat) : (s.snapshot k lo hi b n code p).rr.map = s.rr.map := by
  unfold State.snapshot; split
  · rfl
  · split <;> simp
@[simp] theorem State.snapshot_rr_mapWaits (s : State) (k lo hi : Nat) (b : Bool) (n code p : Nat) : (s.snapshot k lo hi b n code p).rr.mapWaits = s.rr.mapWaits := by
  unfold State.snapshot; split
  · rfl
  · split <;> simp
@[simp] theorem State.snapshot_rr_paired (s : State) (k lo hi : Nat) (b : Bool) (n code p : Nat) : (s.snapshot k lo hi b n code p).rr.paired = s.rr.paired := by
  unfold State.snapshot; split
  · rfl
  · split <;> simp
@[simp] theorem State.snapshot_rr_pairRec (s : State) (k lo hi : Nat) (b : Bool) (n code p : Nat) : (s.snapshot k lo hi b n code p).rr.pairRec = s.rr.pairRec := by
  unfold State.snapshot; split
  · rfl
  · split <;> simp
@[simp] theorem State.snapshot_rr_tractors (s : State) (k lo hi : Nat) (b : Bool) (n code p : Nat) : (s.snapshot k lo hi b n code p).rr.tractors = s.rr.tractors := by
  unfold State.snapshot; split
  · rfl
  · split <;> simp
@[simp] theorem State.snapshot_rr_latch (s : State) (k lo hi : Nat) (b : Bool) (n code p : Nat) : (s.snapshot k lo hi b n code p).rr.latch = s.rr.latch := by
  unfold State.snapshot; split
  · rfl
  · split <;> simp
@[simp] theorem State.snapshot_rr_tag (s : State) (k lo hi : Nat) (b : Bool) (n code p : Nat) : (s.snapshot k lo hi b n code p).rr.tag = s.rr.tag := by
  unfold State.snapshot; split
  · rfl
  · split <;> simp
@[simp] theorem State.snapshot_rr_tamperAt (s : State) (k lo hi : Nat) (b : Bool) (n code p : Nat) : (s.snapshot k lo hi b n code p).rr.tamperAt = s.rr.tamperAt := by
  unfold State.snapshot; split
  · rfl
  · split <;> simp

@[simp] theorem State.nvRequest_now (s : State) (o : NvOp) : (s.nvRequest o).now = s.now := by
  unfold State.nvRequest; split
  · split <;> rfl
  · rfl
@[simp] theorem State.nvRequest_us (s : State) (o : NvOp) : (s.nvRequest o).us = s.us := by
  unfold State.nvRequest; split
  · split <;> rfl
  · rfl
@[simp] theorem State.nvRequest_sticky (s : State) (o : NvOp) : (s.nvRequest o).sticky = s.sticky := by
  unfold State.nvRequest; split
  · split <;> rfl
  · rfl
@[simp] theorem State.nvRequest_objs (s : State) (o : NvOp) : (s.nvRequest o).objs = s.objs := by
  unfold State.nvRequest; split
  · split <;> rfl
  · rfl
@[simp] theorem State.nvRequest_snaps (s : State) (o : NvOp) : (s.nvRequest o).snaps = s.snaps := by
  unfold State.nvRequest; split
  · split <;> rfl
  · rfl
@[simp] theorem State.nvRequest_refused (s : State) (o : NvOp) : (s.nvRequest o).refused = s.refused := by
  unfold State.nvRequest; split
  · split <;> rfl
  · rfl
@[simp] theorem State.nvRequest_evq (s : State) (o : NvOp) : (s.nvRequest o).evq = s.evq := by
  unfold State.nvRequest; split
  · split <;> rfl
  · rfl
@[simp] theorem State.nvRequest_evLost (s : State) (o : NvOp) : (s.nvRequest o).evLost = s.evLost := by
  unfold State.nvRequest; split
  · split <;> rfl
  · rfl
@[simp] theorem State.nvRequest_dict (s : State) (o : NvOp) : (s.nvRequest o).dict = s.dict := by
  unfold State.nvRequest; split
  · split <;> rfl
  · rfl
@[simp] theorem State.nvRequest_host (s : State) (o : NvOp) : (s.nvRequest o).host = s.host := by
  unfold State.nvRequest; split
  · split <;> rfl
  · rfl
@[simp] theorem State.nvRequest_lf (s : State) (o : NvOp) : (s.nvRequest o).lf = s.lf := by
  unfold State.nvRequest; split
  · split <;> rfl
  · rfl
@[simp] theorem State.nvRequest_phy (s : State) (o : NvOp) : (s.nvRequest o).phy = s.phy := by
  unfold State.nvRequest; split
  · split <;> rfl
  · rfl
@[simp] theorem State.nvRequest_jr (s : State) (o : NvOp) : (s.nvRequest o).jr = s.jr := by
  unfold State.nvRequest; split
  · split <;> rfl
  · rfl
@[simp] theorem State.nvRequest_sup (s : State) (o : NvOp) : (s.nvRequest o).sup = s.sup := by
  unfold State.nvRequest; split
  · split <;> rfl
  · rfl
@[simp] theorem State.nvRequest_timers (s : State) (o : NvOp) : (s.nvRequest o).timers = s.timers := by
  unfold State.nvRequest; split
  · split <;> rfl
  · rfl
@[simp] theorem State.nvRequest_dist (s : State) (o : NvOp) : (s.nvRequest o).dist = s.dist := by
  unfold State.nvRequest; split
  · split <;> rfl
  · rfl
@[simp] theorem State.nvRequest_gnss (s : State) (o : NvOp) : (s.nvRequest o).gnss = s.gnss := by
  unfold State.nvRequest; split
  · split <;> rfl
  · rfl
@[simp] theorem State.nvRequest_sched (s : State) (o : NvOp) : (s.nvRequest o).sched = s.sched := by
  unfold State.nvRequest; split
  · split <;> rfl
  · rfl
@[simp] theorem State.nvRequest_can0 (s : State) (o : NvOp) : (s.nvRequest o).can0 = s.can0 := by
  unfold State.nvRequest; split
  · split <;> rfl
  · rfl
@[simp] theorem State.nvRequest_can1 (s : State) (o : NvOp) : (s.nvRequest o).can1 = s.can1 := by
  unfold State.nvRequest; split
  · split <;> rfl
  · rfl
@[simp] theorem State.nvRequest_bell (s : State) (o : NvOp) : (s.nvRequest o).bell = s.bell := by
  unfold State.nvRequest; split
  · split <;> rfl
  · rfl
@[simp] theorem State.nvRequest_pol (s : State) (o : NvOp) : (s.nvRequest o).pol = s.pol := by
  unfold State.nvRequest; split
  · split <;> rfl
  · rfl
@[simp] theorem State.nvRequest_cipher (s : State) (o : NvOp) : (s.nvRequest o).cipher = s.cipher := by
  unfold State.nvRequest; split
  · split <;> rfl
  · rfl
@[simp] theorem State.nvRequest_pk (s : State) (o : NvOp) : (s.nvRequest o).pk = s.pk := by
  unfold State.nvRequest; split
  · split <;> rfl
  · rfl
@[simp] theorem State.nvRequest_ks (s : State) (o : NvOp) : (s.nvRequest o).ks = s.ks := by
  unfold State.nvRequest; split
  · split <;> rfl
  · rfl
@[simp] theorem State.nvRequest_rng (s : State) (o : NvOp) : (s.nvRequest o).rng = s.rng := by
  unfold State.nvRequest; split
  · split <;> rfl
  · rfl
@[simp] theorem State.nvRequest_cx (s : State) (o : NvOp) : (s.nvRequest o).cx = s.cx := by
  unfold State.nvRequest; split
  · split <;> rfl
  · rfl
@[simp] theorem State.nvRequest_loc (s : State) (o : NvOp) : (s.nvRequest o).loc = s.loc := by
  unfold State.nvRequest; split
  · split <;> rfl
  · rfl
@[simp] theorem State.nvRequest_tag (s : State) (o : NvOp) : (s.nvRequest o).tag = s.tag := by
  unfold State.nvRequest; split
  · split <;> rfl
  · rfl
@[simp] theorem State.nvRequest_tagd (s : State) (o : NvOp) : (s.nvRequest o).tagd = s.tagd := by
  unfold State.nvRequest; split
  · split <;> rfl
  · rfl
@[simp] theorem State.nvRequest_aon (s : State) (o : NvOp) : (s.nvRequest o).aon = s.aon := by
  unfold State.nvRequest; split
  · split <;> rfl
  · rfl
@[simp] theorem State.nvRequest_rr (s : State) (o : NvOp) : (s.nvRequest o).rr = s.rr := by
  unfold State.nvRequest; split
  · split <;> rfl
  · rfl
@[simp] theorem State.nvRequest_medium (s : State) (o : NvOp) : (s.nvRequest o).medium = s.medium := by
  unfold State.nvRequest; split
  · split <;> rfl
  · rfl
@[simp] theorem State.nvRequest_free (s : State) (o : NvOp) : (s.nvRequest o).free = s.free := by
  unfold State.nvRequest; split
  · split <;> rfl
  · rfl
@[simp] theorem State.nvRequest_pending (s : State) (o : NvOp) : (s.nvRequest o).pending = s.pending := by
  unfold State.nvRequest; split
  · split <;> rfl
  · rfl

@[simp] theorem State.nvPump_now (s : State) : (s.nvPump).now = s.now := by
  unfold State.nvPump; split
  · rfl
  · split
    · rfl
    · split <;> rfl
@[simp] theorem State.nvPump_us (s : State) : (s.nvPump).us = s.us := by
  unfold State.nvPump; split
  · rfl
  · split
    · rfl
    · split <;> rfl
@[simp] theorem State.nvPump_sticky (s : State) : (s.nvPump).sticky = s.sticky := by
  unfold State.nvPump; split
  · rfl
  · split
    · rfl
    · split <;> rfl
@[simp] theorem State.nvPump_objs (s : State) : (s.nvPump).objs = s.objs := by
  unfold State.nvPump; split
  · rfl
  · split
    · rfl
    · split <;> rfl
@[simp] theorem State.nvPump_snaps (s : State) : (s.nvPump).snaps = s.snaps := by
  unfold State.nvPump; split
  · rfl
  · split
    · rfl
    · split <;> rfl
@[simp] theorem State.nvPump_refused (s : State) : (s.nvPump).refused = s.refused := by
  unfold State.nvPump; split
  · rfl
  · split
    · rfl
    · split <;> rfl
@[simp] theorem State.nvPump_evq (s : State) : (s.nvPump).evq = s.evq := by
  unfold State.nvPump; split
  · rfl
  · split
    · rfl
    · split <;> rfl
@[simp] theorem State.nvPump_evLost (s : State) : (s.nvPump).evLost = s.evLost := by
  unfold State.nvPump; split
  · rfl
  · split
    · rfl
    · split <;> rfl
@[simp] theorem State.nvPump_dict (s : State) : (s.nvPump).dict = s.dict := by
  unfold State.nvPump; split
  · rfl
  · split
    · rfl
    · split <;> rfl
@[simp] theorem State.nvPump_host (s : State) : (s.nvPump).host = s.host := by
  unfold State.nvPump; split
  · rfl
  · split
    · rfl
    · split <;> rfl
@[simp] theorem State.nvPump_lf (s : State) : (s.nvPump).lf = s.lf := by
  unfold State.nvPump; split
  · rfl
  · split
    · rfl
    · split <;> rfl
@[simp] theorem State.nvPump_phy (s : State) : (s.nvPump).phy = s.phy := by
  unfold State.nvPump; split
  · rfl
  · split
    · rfl
    · split <;> rfl
@[simp] theorem State.nvPump_jr (s : State) : (s.nvPump).jr = s.jr := by
  unfold State.nvPump; split
  · rfl
  · split
    · rfl
    · split <;> rfl
@[simp] theorem State.nvPump_sup (s : State) : (s.nvPump).sup = s.sup := by
  unfold State.nvPump; split
  · rfl
  · split
    · rfl
    · split <;> rfl
@[simp] theorem State.nvPump_timers (s : State) : (s.nvPump).timers = s.timers := by
  unfold State.nvPump; split
  · rfl
  · split
    · rfl
    · split <;> rfl
@[simp] theorem State.nvPump_dist (s : State) : (s.nvPump).dist = s.dist := by
  unfold State.nvPump; split
  · rfl
  · split
    · rfl
    · split <;> rfl
@[simp] theorem State.nvPump_gnss (s : State) : (s.nvPump).gnss = s.gnss := by
  unfold State.nvPump; split
  · rfl
  · split
    · rfl
    · split <;> rfl
@[simp] theorem State.nvPump_sched (s : State) : (s.nvPump).sched = s.sched := by
  unfold State.nvPump; split
  · rfl
  · split
    · rfl
    · split <;> rfl
@[simp] theorem State.nvPump_can0 (s : State) : (s.nvPump).can0 = s.can0 := by
  unfold State.nvPump; split
  · rfl
  · split
    · rfl
    · split <;> rfl
@[simp] theorem State.nvPump_can1 (s : State) : (s.nvPump).can1 = s.can1 := by
  unfold State.nvPump; split
  · rfl
  · split
    · rfl
    · split <;> rfl
@[simp] theorem State.nvPump_bell (s : State) : (s.nvPump).bell = s.bell := by
  unfold State.nvPump; split
  · rfl
  · split
    · rfl
    · split <;> rfl
@[simp] theorem State.nvPump_pol (s : State) : (s.nvPump).pol = s.pol := by
  unfold State.nvPump; split
  · rfl
  · split
    · rfl
    · split <;> rfl
@[simp] theorem State.nvPump_cipher (s : State) : (s.nvPump).cipher = s.cipher := by
  unfold State.nvPump; split
  · rfl
  · split
    · rfl
    · split <;> rfl
@[simp] theorem State.nvPump_pk (s : State) : (s.nvPump).pk = s.pk := by
  unfold State.nvPump; split
  · rfl
  · split
    · rfl
    · split <;> rfl
@[simp] theorem State.nvPump_ks (s : State) : (s.nvPump).ks = s.ks := by
  unfold State.nvPump; split
  · rfl
  · split
    · rfl
    · split <;> rfl
@[simp] theorem State.nvPump_rng (s : State) : (s.nvPump).rng = s.rng := by
  unfold State.nvPump; split
  · rfl
  · split
    · rfl
    · split <;> rfl
@[simp] theorem State.nvPump_cx (s : State) : (s.nvPump).cx = s.cx := by
  unfold State.nvPump; split
  · rfl
  · split
    · rfl
    · split <;> rfl
@[simp] theorem State.nvPump_loc (s : State) : (s.nvPump).loc = s.loc := by
  unfold State.nvPump; split
  · rfl
  · split
    · rfl
    · split <;> rfl
@[simp] theorem State.nvPump_tag (s : State) : (s.nvPump).tag = s.tag := by
  unfold State.nvPump; split
  · rfl
  · split
    · rfl
    · split <;> rfl
@[simp] theorem State.nvPump_tagd (s : State) : (s.nvPump).tagd = s.tagd := by
  unfold State.nvPump; split
  · rfl
  · split
    · rfl
    · split <;> rfl
@[simp] theorem State.nvPump_aon (s : State) : (s.nvPump).aon = s.aon := by
  unfold State.nvPump; split
  · rfl
  · split
    · rfl
    · split <;> rfl
@[simp] theorem State.nvPump_rr (s : State) : (s.nvPump).rr = s.rr := by
  unfold State.nvPump; split
  · rfl
  · split
    · rfl
    · split <;> rfl
@[simp] theorem State.nvPump_medium (s : State) : (s.nvPump).medium = s.medium := by
  unfold State.nvPump; split
  · rfl
  · split
    · rfl
    · split <;> rfl
@[simp] theorem State.nvPump_free (s : State) : (s.nvPump).free = s.free := by
  unfold State.nvPump; split
  · rfl
  · split
    · rfl
    · split <;> rfl
@[simp] theorem State.nvPump_pending (s : State) : (s.nvPump).pending = s.pending := by
  unfold State.nvPump; split
  · rfl
  · split
    · rfl
    · split <;> rfl

@[simp] theorem State.makeLasting_now (s : State) (n : Nat) : (s.makeLasting n).now = s.now := by
  unfold State.makeLasting; simp
@[simp] theorem State.makeLasting_us (s : State) (n : Nat) : (s.makeLasting n).us = s.us := by
  unfold State.makeLasting; simp
@[simp] theorem State.makeLasting_sticky (s : State) (n : Nat) : (s.makeLasting n).sticky = s.sticky := by
  unfold State.makeLasting; simp
@[simp] theorem State.makeLasting_objs (s : State) (n : Nat) : (s.makeLasting n).objs = s.objs := by
  unfold State.makeLasting; simp
@[simp] theorem State.makeLasting_snaps (s : State) (n : Nat) : (s.makeLasting n).snaps = s.snaps := by
  unfold State.makeLasting; simp
@[simp] theorem State.makeLasting_refused (s : State) (n : Nat) : (s.makeLasting n).refused = s.refused := by
  unfold State.makeLasting; simp
@[simp] theorem State.makeLasting_dict (s : State) (n : Nat) : (s.makeLasting n).dict = s.dict := by
  unfold State.makeLasting; simp
@[simp] theorem State.makeLasting_host (s : State) (n : Nat) : (s.makeLasting n).host = s.host := by
  unfold State.makeLasting; simp
@[simp] theorem State.makeLasting_lf (s : State) (n : Nat) : (s.makeLasting n).lf = s.lf := by
  unfold State.makeLasting; simp
@[simp] theorem State.makeLasting_phy (s : State) (n : Nat) : (s.makeLasting n).phy = s.phy := by
  unfold State.makeLasting; simp
@[simp] theorem State.makeLasting_nv (s : State) (n : Nat) : (s.makeLasting n).nv = s.nv := by
  unfold State.makeLasting; simp
@[simp] theorem State.makeLasting_timers (s : State) (n : Nat) : (s.makeLasting n).timers = s.timers := by
  unfold State.makeLasting; simp
@[simp] theorem State.makeLasting_dist (s : State) (n : Nat) : (s.makeLasting n).dist = s.dist := by
  unfold State.makeLasting; simp
@[simp] theorem State.makeLasting_gnss (s : State) (n : Nat) : (s.makeLasting n).gnss = s.gnss := by
  unfold State.makeLasting; simp
@[simp] theorem State.makeLasting_sched (s : State) (n : Nat) : (s.makeLasting n).sched = s.sched := by
  unfold State.makeLasting; simp
@[simp] theorem State.makeLasting_can0 (s : State) (n : Nat) : (s.makeLasting n).can0 = s.can0 := by
  unfold State.makeLasting; simp
@[simp] theorem State.makeLasting_can1 (s : State) (n : Nat) : (s.makeLasting n).can1 = s.can1 := by
  unfold State.makeLasting; simp
@[simp] theorem State.makeLasting_bell (s : State) (n : Nat) : (s.makeLasting n).bell = s.bell := by
  unfold State.makeLasting; simp
@[simp] theorem State.makeLasting_pol (s : State) (n : Nat) : (s.makeLasting n).pol = s.pol := by
  unfold State.makeLasting; simp
@[simp] theorem State.makeLasting_cipher (s : State) (n : Nat) : (s.makeLasting n).cipher = s.cipher := by
  unfold State.makeLasting; simp
@[simp] theorem State.makeLasting_pk (s : State) (n : Nat) : (s.makeLasting n).pk = s.pk := by
  unfold State.makeLasting; simp
@[simp] theorem State.makeLasting_ks (s : State) (n : Nat) : (s.makeLasting n).ks = s.ks := by
  unfold State.makeLasting; simp
@[simp] theorem State.makeLasting_rng (s : State) (n : Nat) : (s.makeLasting n).rng = s.rng := by
  unfold State.makeLasting; simp
@[simp] theorem State.makeLasting_cx (s : State) (n : Nat) : (s.makeLasting n).cx = s.cx := by
  unfold State.makeLasting; simp
@[simp] theorem State.makeLasting_loc (s : State) (n : Nat) : (s.makeLasting n).loc = s.loc := by
  unfold State.makeLasting; simp
@[simp] theorem State.makeLasting_tag (s : State) (n : Nat) : (s.makeLasting n).tag = s.tag := by
  unfold State.makeLasting; simp
@[simp] theorem State.makeLasting_tagd (s : State) (n : Nat) : (s.makeLasting n).tagd = s.tagd := by
  unfold State.makeLasting; simp
@[simp] theorem State.makeLasting_aon (s : State) (n : Nat) : (s.makeLasting n).aon = s.aon := by
  unfold State.makeLasting; simp
@[simp] theorem State.makeLasting_medium (s : State) (n : Nat) : (s.makeLasting n).medium = s.medium := by
  unfold State.makeLasting; simp
@[simp] theorem State.makeLasting_free (s : State) (n : Nat) : (s.makeLasting n).free = s.free := by
  unfold State.makeLasting; simp
@[simp] theorem State.makeLasting_pending (s : State) (n : Nat) : (s.makeLasting n).pending = s.pending := by
  unfold State.makeLasting; simp
@[simp] theorem State.makeLasting_rr_objs (s : State) (n : Nat) : (s.makeLasting n).rr.objs = s.rr.objs := by
  unfold State.makeLasting; simp
@[simp] theorem State.makeLasting_rr_param (s : State) (n : Nat) : (s.makeLasting n).rr.param = s.rr.param := by
  unfold State.makeLasting; simp
@[simp] theorem State.makeLasting_rr_boot (s : State) (n : Nat) : (s.makeLasting n).rr.boot = s.rr.boot := by
  unfold State.makeLasting; simp
@[simp] theorem State.makeLasting_rr_key (s : State) (n : Nat) : (s.makeLasting n).rr.key = s.rr.key := by
  unfold State.makeLasting; simp
@[simp] theorem State.makeLasting_rr_cal (s : State) (n : Nat) : (s.makeLasting n).rr.cal = s.rr.cal := by
  unfold State.makeLasting; simp
@[simp] theorem State.makeLasting_rr_remapped (s : State) (n : Nat) : (s.makeLasting n).rr.remapped = s.rr.remapped := by
  unfold State.makeLasting; simp
@[simp] theorem State.makeLasting_rr_sparesUsed (s : State) (n : Nat) : (s.makeLasting n).rr.sparesUsed = s.rr.sparesUsed := by
  unfold State.makeLasting; simp
@[simp] theorem State.makeLasting_rr_lifecycle (s : State) (n : Nat) : (s.makeLasting n).rr.lifecycle = s.rr.lifecycle := by
  unfold State.makeLasting; simp
@[simp] theorem State.makeLasting_rr_fwA (s : State) (n : Nat) : (s.makeLasting n).rr.fwA = s.rr.fwA := by
  unfold State.makeLasting; simp
@[simp] theorem State.makeLasting_rr_fwB (s : State) (n : Nat) : (s.makeLasting n).rr.fwB = s.rr.fwB := by
  unfold State.makeLasting; simp
@[simp] theorem State.makeLasting_rr_active (s : State) (n : Nat) : (s.makeLasting n).rr.active = s.rr.active := by
  unfold State.makeLasting; simp
@[simp] theorem State.makeLasting_rr_trialBank (s : State) (n : Nat) : (s.makeLasting n).rr.trialBank = s.rr.trialBank := by
  unfold State.makeLasting; simp
@[simp] theorem State.makeLasting_rr_trialRan (s : State) (n : Nat) : (s.makeLasting n).rr.trialRan = s.rr.trialRan := by
  unfold State.makeLasting; simp
@[simp] theorem State.makeLasting_rr_floor (s : State) (n : Nat) : (s.makeLasting n).rr.floor = s.rr.floor := by
  unfold State.makeLasting; simp
@[simp] theorem State.makeLasting_rr_badBlocks (s : State) (n : Nat) : (s.makeLasting n).rr.badBlocks = s.rr.badBlocks := by
  unfold State.makeLasting; simp
@[simp] theorem State.makeLasting_rr_headHint (s : State) (n : Nat) : (s.makeLasting n).rr.headHint = s.rr.headHint := by
  unfold State.makeLasting; simp
@[simp] theorem State.makeLasting_rr_oldest (s : State) (n : Nat) : (s.makeLasting n).rr.oldest = s.rr.oldest := by
  unfold State.makeLasting; simp
@[simp] theorem State.makeLasting_rr_wraps (s : State) (n : Nat) : (s.makeLasting n).rr.wraps = s.rr.wraps := by
  unfold State.makeLasting; simp
@[simp] theorem State.makeLasting_rr_tamper (s : State) (n : Nat) : (s.makeLasting n).rr.tamper = s.rr.tamper := by
  unfold State.makeLasting; simp
@[simp] theorem State.makeLasting_rr_slots (s : State) (n : Nat) : (s.makeLasting n).rr.slots = s.rr.slots := by
  unfold State.makeLasting; simp
@[simp] theorem State.makeLasting_rr_vehicleId (s : State) (n : Nat) : (s.makeLasting n).rr.vehicleId = s.rr.vehicleId := by
  unfold State.makeLasting; simp
@[simp] theorem State.makeLasting_rr_stock (s : State) (n : Nat) : (s.makeLasting n).rr.stock = s.rr.stock := by
  unfold State.makeLasting; simp
@[simp] theorem State.makeLasting_rr_locked (s : State) (n : Nat) : (s.makeLasting n).rr.locked = s.rr.locked := by
  unfold State.makeLasting; simp
@[simp] theorem State.makeLasting_rr_map (s : State) (n : Nat) : (s.makeLasting n).rr.map = s.rr.map := by
  unfold State.makeLasting; simp
@[simp] theorem State.makeLasting_rr_mapWaits (s : State) (n : Nat) : (s.makeLasting n).rr.mapWaits = s.rr.mapWaits := by
  unfold State.makeLasting; simp
@[simp] theorem State.makeLasting_rr_paired (s : State) (n : Nat) : (s.makeLasting n).rr.paired = s.rr.paired := by
  unfold State.makeLasting; simp
@[simp] theorem State.makeLasting_rr_pairRec (s : State) (n : Nat) : (s.makeLasting n).rr.pairRec = s.rr.pairRec := by
  unfold State.makeLasting; simp
@[simp] theorem State.makeLasting_rr_tractors (s : State) (n : Nat) : (s.makeLasting n).rr.tractors = s.rr.tractors := by
  unfold State.makeLasting; simp
@[simp] theorem State.makeLasting_rr_latch (s : State) (n : Nat) : (s.makeLasting n).rr.latch = s.rr.latch := by
  unfold State.makeLasting; simp
@[simp] theorem State.makeLasting_rr_tag (s : State) (n : Nat) : (s.makeLasting n).rr.tag = s.rr.tag := by
  unfold State.makeLasting; simp
@[simp] theorem State.makeLasting_rr_tamperAt (s : State) (n : Nat) : (s.makeLasting n).rr.tamperAt = s.rr.tamperAt := by
  unfold State.makeLasting; simp

@[simp] theorem State.chargeWith_now (s : State) (n u code : Nat) (b : Bool) : (s.chargeWith n u code b).now = s.now := by
  unfold State.chargeWith; dsimp only; split
  · simp
  · split <;> split <;> simp
@[simp] theorem State.chargeWith_us (s : State) (n u code : Nat) (b : Bool) : (s.chargeWith n u code b).us = s.us := by
  unfold State.chargeWith; dsimp only; split
  · simp
  · split <;> split <;> simp
@[simp] theorem State.chargeWith_sticky (s : State) (n u code : Nat) (b : Bool) : (s.chargeWith n u code b).sticky = s.sticky := by
  unfold State.chargeWith; dsimp only; split
  · simp
  · split <;> split <;> simp
@[simp] theorem State.chargeWith_objs (s : State) (n u code : Nat) (b : Bool) : (s.chargeWith n u code b).objs = s.objs := by
  unfold State.chargeWith; dsimp only; split
  · simp
  · split <;> split <;> simp
@[simp] theorem State.chargeWith_snaps (s : State) (n u code : Nat) (b : Bool) : (s.chargeWith n u code b).snaps = s.snaps := by
  unfold State.chargeWith; dsimp only; split
  · simp
  · split <;> split <;> simp
@[simp] theorem State.chargeWith_refused (s : State) (n u code : Nat) (b : Bool) : (s.chargeWith n u code b).refused = s.refused := by
  unfold State.chargeWith; dsimp only; split
  · simp
  · split <;> split <;> simp
@[simp] theorem State.chargeWith_dict (s : State) (n u code : Nat) (b : Bool) : (s.chargeWith n u code b).dict = s.dict := by
  unfold State.chargeWith; dsimp only; split
  · simp
  · split <;> split <;> simp
@[simp] theorem State.chargeWith_host (s : State) (n u code : Nat) (b : Bool) : (s.chargeWith n u code b).host = s.host := by
  unfold State.chargeWith; dsimp only; split
  · simp
  · split <;> split <;> simp
@[simp] theorem State.chargeWith_lf (s : State) (n u code : Nat) (b : Bool) : (s.chargeWith n u code b).lf = s.lf := by
  unfold State.chargeWith; dsimp only; split
  · simp
  · split <;> split <;> simp
@[simp] theorem State.chargeWith_phy (s : State) (n u code : Nat) (b : Bool) : (s.chargeWith n u code b).phy = s.phy := by
  unfold State.chargeWith; dsimp only; split
  · simp
  · split <;> split <;> simp
@[simp] theorem State.chargeWith_nv (s : State) (n u code : Nat) (b : Bool) : (s.chargeWith n u code b).nv = s.nv := by
  unfold State.chargeWith; dsimp only; split
  · simp
  · split <;> split <;> simp
@[simp] theorem State.chargeWith_timers (s : State) (n u code : Nat) (b : Bool) : (s.chargeWith n u code b).timers = s.timers := by
  unfold State.chargeWith; dsimp only; split
  · simp
  · split <;> split <;> simp
@[simp] theorem State.chargeWith_dist (s : State) (n u code : Nat) (b : Bool) : (s.chargeWith n u code b).dist = s.dist := by
  unfold State.chargeWith; dsimp only; split
  · simp
  · split <;> split <;> simp
@[simp] theorem State.chargeWith_gnss (s : State) (n u code : Nat) (b : Bool) : (s.chargeWith n u code b).gnss = s.gnss := by
  unfold State.chargeWith; dsimp only; split
  · simp
  · split <;> split <;> simp
@[simp] theorem State.chargeWith_sched (s : State) (n u code : Nat) (b : Bool) : (s.chargeWith n u code b).sched = s.sched := by
  unfold State.chargeWith; dsimp only; split
  · simp
  · split <;> split <;> simp
@[simp] theorem State.chargeWith_can0 (s : State) (n u code : Nat) (b : Bool) : (s.chargeWith n u code b).can0 = s.can0 := by
  unfold State.chargeWith; dsimp only; split
  · simp
  · split <;> split <;> simp
@[simp] theorem State.chargeWith_can1 (s : State) (n u code : Nat) (b : Bool) : (s.chargeWith n u code b).can1 = s.can1 := by
  unfold State.chargeWith; dsimp only; split
  · simp
  · split <;> split <;> simp
@[simp] theorem State.chargeWith_bell (s : State) (n u code : Nat) (b : Bool) : (s.chargeWith n u code b).bell = s.bell := by
  unfold State.chargeWith; dsimp only; split
  · simp
  · split <;> split <;> simp
@[simp] theorem State.chargeWith_pol (s : State) (n u code : Nat) (b : Bool) : (s.chargeWith n u code b).pol = s.pol := by
  unfold State.chargeWith; dsimp only; split
  · simp
  · split <;> split <;> simp
@[simp] theorem State.chargeWith_cipher (s : State) (n u code : Nat) (b : Bool) : (s.chargeWith n u code b).cipher = s.cipher := by
  unfold State.chargeWith; dsimp only; split
  · simp
  · split <;> split <;> simp
@[simp] theorem State.chargeWith_pk (s : State) (n u code : Nat) (b : Bool) : (s.chargeWith n u code b).pk = s.pk := by
  unfold State.chargeWith; dsimp only; split
  · simp
  · split <;> split <;> simp
@[simp] theorem State.chargeWith_ks (s : State) (n u code : Nat) (b : Bool) : (s.chargeWith n u code b).ks = s.ks := by
  unfold State.chargeWith; dsimp only; split
  · simp
  · split <;> split <;> simp
@[simp] theorem State.chargeWith_rng (s : State) (n u code : Nat) (b : Bool) : (s.chargeWith n u code b).rng = s.rng := by
  unfold State.chargeWith; dsimp only; split
  · simp
  · split <;> split <;> simp
@[simp] theorem State.chargeWith_cx (s : State) (n u code : Nat) (b : Bool) : (s.chargeWith n u code b).cx = s.cx := by
  unfold State.chargeWith; dsimp only; split
  · simp
  · split <;> split <;> simp
@[simp] theorem State.chargeWith_loc (s : State) (n u code : Nat) (b : Bool) : (s.chargeWith n u code b).loc = s.loc := by
  unfold State.chargeWith; dsimp only; split
  · simp
  · split <;> split <;> simp
@[simp] theorem State.chargeWith_tag (s : State) (n u code : Nat) (b : Bool) : (s.chargeWith n u code b).tag = s.tag := by
  unfold State.chargeWith; dsimp only; split
  · simp
  · split <;> split <;> simp
@[simp] theorem State.chargeWith_tagd (s : State) (n u code : Nat) (b : Bool) : (s.chargeWith n u code b).tagd = s.tagd := by
  unfold State.chargeWith; dsimp only; split
  · simp
  · split <;> split <;> simp
@[simp] theorem State.chargeWith_aon (s : State) (n u code : Nat) (b : Bool) : (s.chargeWith n u code b).aon = s.aon := by
  unfold State.chargeWith; dsimp only; split
  · simp
  · split <;> split <;> simp
@[simp] theorem State.chargeWith_medium (s : State) (n u code : Nat) (b : Bool) : (s.chargeWith n u code b).medium = s.medium := by
  unfold State.chargeWith; dsimp only; split
  · simp
  · split <;> split <;> simp
@[simp] theorem State.chargeWith_free (s : State) (n u code : Nat) (b : Bool) : (s.chargeWith n u code b).free = s.free := by
  unfold State.chargeWith; dsimp only; split
  · simp
  · split <;> split <;> simp
@[simp] theorem State.chargeWith_pending (s : State) (n u code : Nat) (b : Bool) : (s.chargeWith n u code b).pending = s.pending := by
  unfold State.chargeWith; dsimp only; split
  · simp
  · split <;> split <;> simp
@[simp] theorem State.chargeWith_rr_objs (s : State) (n u code : Nat) (b : Bool) : (s.chargeWith n u code b).rr.objs = s.rr.objs := by
  unfold State.chargeWith; dsimp only; split
  · simp
  · split <;> split <;> simp
@[simp] theorem State.chargeWith_rr_param (s : State) (n u code : Nat) (b : Bool) : (s.chargeWith n u code b).rr.param = s.rr.param := by
  unfold State.chargeWith; dsimp only; split
  · simp
  · split <;> split <;> simp
@[simp] theorem State.chargeWith_rr_boot (s : State) (n u code : Nat) (b : Bool) : (s.chargeWith n u code b).rr.boot = s.rr.boot := by
  unfold State.chargeWith; dsimp only; split
  · simp
  · split <;> split <;> simp
@[simp] theorem State.chargeWith_rr_key (s : State) (n u code : Nat) (b : Bool) : (s.chargeWith n u code b).rr.key = s.rr.key := by
  unfold State.chargeWith; dsimp only; split
  · simp
  · split <;> split <;> simp
@[simp] theorem State.chargeWith_rr_cal (s : State) (n u code : Nat) (b : Bool) : (s.chargeWith n u code b).rr.cal = s.rr.cal := by
  unfold State.chargeWith; dsimp only; split
  · simp
  · split <;> split <;> simp
@[simp] theorem State.chargeWith_rr_remapped (s : State) (n u code : Nat) (b : Bool) : (s.chargeWith n u code b).rr.remapped = s.rr.remapped := by
  unfold State.chargeWith; dsimp only; split
  · simp
  · split <;> split <;> simp
@[simp] theorem State.chargeWith_rr_sparesUsed (s : State) (n u code : Nat) (b : Bool) : (s.chargeWith n u code b).rr.sparesUsed = s.rr.sparesUsed := by
  unfold State.chargeWith; dsimp only; split
  · simp
  · split <;> split <;> simp
@[simp] theorem State.chargeWith_rr_lifecycle (s : State) (n u code : Nat) (b : Bool) : (s.chargeWith n u code b).rr.lifecycle = s.rr.lifecycle := by
  unfold State.chargeWith; dsimp only; split
  · simp
  · split <;> split <;> simp
@[simp] theorem State.chargeWith_rr_fwA (s : State) (n u code : Nat) (b : Bool) : (s.chargeWith n u code b).rr.fwA = s.rr.fwA := by
  unfold State.chargeWith; dsimp only; split
  · simp
  · split <;> split <;> simp
@[simp] theorem State.chargeWith_rr_fwB (s : State) (n u code : Nat) (b : Bool) : (s.chargeWith n u code b).rr.fwB = s.rr.fwB := by
  unfold State.chargeWith; dsimp only; split
  · simp
  · split <;> split <;> simp
@[simp] theorem State.chargeWith_rr_active (s : State) (n u code : Nat) (b : Bool) : (s.chargeWith n u code b).rr.active = s.rr.active := by
  unfold State.chargeWith; dsimp only; split
  · simp
  · split <;> split <;> simp
@[simp] theorem State.chargeWith_rr_trialBank (s : State) (n u code : Nat) (b : Bool) : (s.chargeWith n u code b).rr.trialBank = s.rr.trialBank := by
  unfold State.chargeWith; dsimp only; split
  · simp
  · split <;> split <;> simp
@[simp] theorem State.chargeWith_rr_trialRan (s : State) (n u code : Nat) (b : Bool) : (s.chargeWith n u code b).rr.trialRan = s.rr.trialRan := by
  unfold State.chargeWith; dsimp only; split
  · simp
  · split <;> split <;> simp
@[simp] theorem State.chargeWith_rr_floor (s : State) (n u code : Nat) (b : Bool) : (s.chargeWith n u code b).rr.floor = s.rr.floor := by
  unfold State.chargeWith; dsimp only; split
  · simp
  · split <;> split <;> simp
@[simp] theorem State.chargeWith_rr_badBlocks (s : State) (n u code : Nat) (b : Bool) : (s.chargeWith n u code b).rr.badBlocks = s.rr.badBlocks := by
  unfold State.chargeWith; dsimp only; split
  · simp
  · split <;> split <;> simp
@[simp] theorem State.chargeWith_rr_headHint (s : State) (n u code : Nat) (b : Bool) : (s.chargeWith n u code b).rr.headHint = s.rr.headHint := by
  unfold State.chargeWith; dsimp only; split
  · simp
  · split <;> split <;> simp
@[simp] theorem State.chargeWith_rr_oldest (s : State) (n u code : Nat) (b : Bool) : (s.chargeWith n u code b).rr.oldest = s.rr.oldest := by
  unfold State.chargeWith; dsimp only; split
  · simp
  · split <;> split <;> simp
@[simp] theorem State.chargeWith_rr_wraps (s : State) (n u code : Nat) (b : Bool) : (s.chargeWith n u code b).rr.wraps = s.rr.wraps := by
  unfold State.chargeWith; dsimp only; split
  · simp
  · split <;> split <;> simp
@[simp] theorem State.chargeWith_rr_tamper (s : State) (n u code : Nat) (b : Bool) : (s.chargeWith n u code b).rr.tamper = s.rr.tamper := by
  unfold State.chargeWith; dsimp only; split
  · simp
  · split <;> split <;> simp
@[simp] theorem State.chargeWith_rr_slots (s : State) (n u code : Nat) (b : Bool) : (s.chargeWith n u code b).rr.slots = s.rr.slots := by
  unfold State.chargeWith; dsimp only; split
  · simp
  · split <;> split <;> simp
@[simp] theorem State.chargeWith_rr_vehicleId (s : State) (n u code : Nat) (b : Bool) : (s.chargeWith n u code b).rr.vehicleId = s.rr.vehicleId := by
  unfold State.chargeWith; dsimp only; split
  · simp
  · split <;> split <;> simp
@[simp] theorem State.chargeWith_rr_stock (s : State) (n u code : Nat) (b : Bool) : (s.chargeWith n u code b).rr.stock = s.rr.stock := by
  unfold State.chargeWith; dsimp only; split
  · simp
  · split <;> split <;> simp
@[simp] theorem State.chargeWith_rr_locked (s : State) (n u code : Nat) (b : Bool) : (s.chargeWith n u code b).rr.locked = s.rr.locked := by
  unfold State.chargeWith; dsimp only; split
  · simp
  · split <;> split <;> simp
@[simp] theorem State.chargeWith_rr_map (s : State) (n u code : Nat) (b : Bool) : (s.chargeWith n u code b).rr.map = s.rr.map := by
  unfold State.chargeWith; dsimp only; split
  · simp
  · split <;> split <;> simp
@[simp] theorem State.chargeWith_rr_mapWaits (s : State) (n u code : Nat) (b : Bool) : (s.chargeWith n u code b).rr.mapWaits = s.rr.mapWaits := by
  unfold State.chargeWith; dsimp only; split
  · simp
  · split <;> split <;> simp
@[simp] theorem State.chargeWith_rr_paired (s : State) (n u code : Nat) (b : Bool) : (s.chargeWith n u code b).rr.paired = s.rr.paired := by
  unfold State.chargeWith; dsimp only; split
  · simp
  · split <;> split <;> simp
@[simp] theorem State.chargeWith_rr_pairRec (s : State) (n u code : Nat) (b : Bool) : (s.chargeWith n u code b).rr.pairRec = s.rr.pairRec := by
  unfold State.chargeWith; dsimp only; split
  · simp
  · split <;> split <;> simp
@[simp] theorem State.chargeWith_rr_tractors (s : State) (n u code : Nat) (b : Bool) : (s.chargeWith n u code b).rr.tractors = s.rr.tractors := by
  unfold State.chargeWith; dsimp only; split
  · simp
  · split <;> split <;> simp
@[simp] theorem State.chargeWith_rr_latch (s : State) (n u code : Nat) (b : Bool) : (s.chargeWith n u code b).rr.latch = s.rr.latch := by
  unfold State.chargeWith; dsimp only; split
  · simp
  · split <;> split <;> simp
@[simp] theorem State.chargeWith_rr_tag (s : State) (n u code : Nat) (b : Bool) : (s.chargeWith n u code b).rr.tag = s.rr.tag := by
  unfold State.chargeWith; dsimp only; split
  · simp
  · split <;> split <;> simp
@[simp] theorem State.chargeWith_rr_tamperAt (s : State) (n u code : Nat) (b : Bool) : (s.chargeWith n u code b).rr.tamperAt = s.rr.tamperAt := by
  unfold State.chargeWith; dsimp only; split
  · simp
  · split <;> split <;> simp

@[simp] theorem State.charge_now (s : State) (n u code : Nat) : (s.charge n u code).now = s.now := by
  unfold State.charge; simp
@[simp] theorem State.charge_us (s : State) (n u code : Nat) : (s.charge n u code).us = s.us := by
  unfold State.charge; simp
@[simp] theorem State.charge_sticky (s : State) (n u code : Nat) : (s.charge n u code).sticky = s.sticky := by
  unfold State.charge; simp
@[simp] theorem State.charge_objs (s : State) (n u code : Nat) : (s.charge n u code).objs = s.objs := by
  unfold State.charge; simp
@[simp] theorem State.charge_snaps (s : State) (n u code : Nat) : (s.charge n u code).snaps = s.snaps := by
  unfold State.charge; simp
@[simp] theorem State.charge_refused (s : State) (n u code : Nat) : (s.charge n u code).refused = s.refused := by
  unfold State.charge; simp
@[simp] theorem State.charge_dict (s : State) (n u code : Nat) : (s.charge n u code).dict = s.dict := by
  unfold State.charge; simp
@[simp] theorem State.charge_host (s : State) (n u code : Nat) : (s.charge n u code).host = s.host := by
  unfold State.charge; simp
@[simp] theorem State.charge_lf (s : State) (n u code : Nat) : (s.charge n u code).lf = s.lf := by
  unfold State.charge; simp
@[simp] theorem State.charge_phy (s : State) (n u code : Nat) : (s.charge n u code).phy = s.phy := by
  unfold State.charge; simp
@[simp] theorem State.charge_nv (s : State) (n u code : Nat) : (s.charge n u code).nv = s.nv := by
  unfold State.charge; simp
@[simp] theorem State.charge_timers (s : State) (n u code : Nat) : (s.charge n u code).timers = s.timers := by
  unfold State.charge; simp
@[simp] theorem State.charge_dist (s : State) (n u code : Nat) : (s.charge n u code).dist = s.dist := by
  unfold State.charge; simp
@[simp] theorem State.charge_gnss (s : State) (n u code : Nat) : (s.charge n u code).gnss = s.gnss := by
  unfold State.charge; simp
@[simp] theorem State.charge_sched (s : State) (n u code : Nat) : (s.charge n u code).sched = s.sched := by
  unfold State.charge; simp
@[simp] theorem State.charge_can0 (s : State) (n u code : Nat) : (s.charge n u code).can0 = s.can0 := by
  unfold State.charge; simp
@[simp] theorem State.charge_can1 (s : State) (n u code : Nat) : (s.charge n u code).can1 = s.can1 := by
  unfold State.charge; simp
@[simp] theorem State.charge_bell (s : State) (n u code : Nat) : (s.charge n u code).bell = s.bell := by
  unfold State.charge; simp
@[simp] theorem State.charge_pol (s : State) (n u code : Nat) : (s.charge n u code).pol = s.pol := by
  unfold State.charge; simp
@[simp] theorem State.charge_cipher (s : State) (n u code : Nat) : (s.charge n u code).cipher = s.cipher := by
  unfold State.charge; simp
@[simp] theorem State.charge_pk (s : State) (n u code : Nat) : (s.charge n u code).pk = s.pk := by
  unfold State.charge; simp
@[simp] theorem State.charge_ks (s : State) (n u code : Nat) : (s.charge n u code).ks = s.ks := by
  unfold State.charge; simp
@[simp] theorem State.charge_rng (s : State) (n u code : Nat) : (s.charge n u code).rng = s.rng := by
  unfold State.charge; simp
@[simp] theorem State.charge_cx (s : State) (n u code : Nat) : (s.charge n u code).cx = s.cx := by
  unfold State.charge; simp
@[simp] theorem State.charge_loc (s : State) (n u code : Nat) : (s.charge n u code).loc = s.loc := by
  unfold State.charge; simp
@[simp] theorem State.charge_tag (s : State) (n u code : Nat) : (s.charge n u code).tag = s.tag := by
  unfold State.charge; simp
@[simp] theorem State.charge_tagd (s : State) (n u code : Nat) : (s.charge n u code).tagd = s.tagd := by
  unfold State.charge; simp
@[simp] theorem State.charge_aon (s : State) (n u code : Nat) : (s.charge n u code).aon = s.aon := by
  unfold State.charge; simp
@[simp] theorem State.charge_medium (s : State) (n u code : Nat) : (s.charge n u code).medium = s.medium := by
  unfold State.charge; simp
@[simp] theorem State.charge_free (s : State) (n u code : Nat) : (s.charge n u code).free = s.free := by
  unfold State.charge; simp
@[simp] theorem State.charge_pending (s : State) (n u code : Nat) : (s.charge n u code).pending = s.pending := by
  unfold State.charge; simp
@[simp] theorem State.charge_rr_objs (s : State) (n u code : Nat) : (s.charge n u code).rr.objs = s.rr.objs := by
  unfold State.charge; simp
@[simp] theorem State.charge_rr_param (s : State) (n u code : Nat) : (s.charge n u code).rr.param = s.rr.param := by
  unfold State.charge; simp
@[simp] theorem State.charge_rr_boot (s : State) (n u code : Nat) : (s.charge n u code).rr.boot = s.rr.boot := by
  unfold State.charge; simp
@[simp] theorem State.charge_rr_key (s : State) (n u code : Nat) : (s.charge n u code).rr.key = s.rr.key := by
  unfold State.charge; simp
@[simp] theorem State.charge_rr_cal (s : State) (n u code : Nat) : (s.charge n u code).rr.cal = s.rr.cal := by
  unfold State.charge; simp
@[simp] theorem State.charge_rr_remapped (s : State) (n u code : Nat) : (s.charge n u code).rr.remapped = s.rr.remapped := by
  unfold State.charge; simp
@[simp] theorem State.charge_rr_sparesUsed (s : State) (n u code : Nat) : (s.charge n u code).rr.sparesUsed = s.rr.sparesUsed := by
  unfold State.charge; simp
@[simp] theorem State.charge_rr_lifecycle (s : State) (n u code : Nat) : (s.charge n u code).rr.lifecycle = s.rr.lifecycle := by
  unfold State.charge; simp
@[simp] theorem State.charge_rr_fwA (s : State) (n u code : Nat) : (s.charge n u code).rr.fwA = s.rr.fwA := by
  unfold State.charge; simp
@[simp] theorem State.charge_rr_fwB (s : State) (n u code : Nat) : (s.charge n u code).rr.fwB = s.rr.fwB := by
  unfold State.charge; simp
@[simp] theorem State.charge_rr_active (s : State) (n u code : Nat) : (s.charge n u code).rr.active = s.rr.active := by
  unfold State.charge; simp
@[simp] theorem State.charge_rr_trialBank (s : State) (n u code : Nat) : (s.charge n u code).rr.trialBank = s.rr.trialBank := by
  unfold State.charge; simp
@[simp] theorem State.charge_rr_trialRan (s : State) (n u code : Nat) : (s.charge n u code).rr.trialRan = s.rr.trialRan := by
  unfold State.charge; simp
@[simp] theorem State.charge_rr_floor (s : State) (n u code : Nat) : (s.charge n u code).rr.floor = s.rr.floor := by
  unfold State.charge; simp
@[simp] theorem State.charge_rr_badBlocks (s : State) (n u code : Nat) : (s.charge n u code).rr.badBlocks = s.rr.badBlocks := by
  unfold State.charge; simp
@[simp] theorem State.charge_rr_headHint (s : State) (n u code : Nat) : (s.charge n u code).rr.headHint = s.rr.headHint := by
  unfold State.charge; simp
@[simp] theorem State.charge_rr_oldest (s : State) (n u code : Nat) : (s.charge n u code).rr.oldest = s.rr.oldest := by
  unfold State.charge; simp
@[simp] theorem State.charge_rr_wraps (s : State) (n u code : Nat) : (s.charge n u code).rr.wraps = s.rr.wraps := by
  unfold State.charge; simp
@[simp] theorem State.charge_rr_tamper (s : State) (n u code : Nat) : (s.charge n u code).rr.tamper = s.rr.tamper := by
  unfold State.charge; simp
@[simp] theorem State.charge_rr_slots (s : State) (n u code : Nat) : (s.charge n u code).rr.slots = s.rr.slots := by
  unfold State.charge; simp
@[simp] theorem State.charge_rr_vehicleId (s : State) (n u code : Nat) : (s.charge n u code).rr.vehicleId = s.rr.vehicleId := by
  unfold State.charge; simp
@[simp] theorem State.charge_rr_stock (s : State) (n u code : Nat) : (s.charge n u code).rr.stock = s.rr.stock := by
  unfold State.charge; simp
@[simp] theorem State.charge_rr_locked (s : State) (n u code : Nat) : (s.charge n u code).rr.locked = s.rr.locked := by
  unfold State.charge; simp
@[simp] theorem State.charge_rr_map (s : State) (n u code : Nat) : (s.charge n u code).rr.map = s.rr.map := by
  unfold State.charge; simp
@[simp] theorem State.charge_rr_mapWaits (s : State) (n u code : Nat) : (s.charge n u code).rr.mapWaits = s.rr.mapWaits := by
  unfold State.charge; simp
@[simp] theorem State.charge_rr_paired (s : State) (n u code : Nat) : (s.charge n u code).rr.paired = s.rr.paired := by
  unfold State.charge; simp
@[simp] theorem State.charge_rr_pairRec (s : State) (n u code : Nat) : (s.charge n u code).rr.pairRec = s.rr.pairRec := by
  unfold State.charge; simp
@[simp] theorem State.charge_rr_tractors (s : State) (n u code : Nat) : (s.charge n u code).rr.tractors = s.rr.tractors := by
  unfold State.charge; simp
@[simp] theorem State.charge_rr_latch (s : State) (n u code : Nat) : (s.charge n u code).rr.latch = s.rr.latch := by
  unfold State.charge; simp
@[simp] theorem State.charge_rr_tag (s : State) (n u code : Nat) : (s.charge n u code).rr.tag = s.rr.tag := by
  unfold State.charge; simp
@[simp] theorem State.charge_rr_tamperAt (s : State) (n u code : Nat) : (s.charge n u code).rr.tamperAt = s.rr.tamperAt := by
  unfold State.charge; simp

@[simp] theorem State.endFault_now (s : State) (n : Nat) : (s.endFault n).now = s.now := by
  unfold State.endFault; split <;> simp
@[simp] theorem State.endFault_us (s : State) (n : Nat) : (s.endFault n).us = s.us := by
  unfold State.endFault; split <;> simp
@[simp] theorem State.endFault_sticky (s : State) (n : Nat) : (s.endFault n).sticky = s.sticky := by
  unfold State.endFault; split <;> simp
@[simp] theorem State.endFault_objs (s : State) (n : Nat) : (s.endFault n).objs = s.objs := by
  unfold State.endFault; split <;> simp
@[simp] theorem State.endFault_snaps (s : State) (n : Nat) : (s.endFault n).snaps = s.snaps := by
  unfold State.endFault; split <;> simp
@[simp] theorem State.endFault_refused (s : State) (n : Nat) : (s.endFault n).refused = s.refused := by
  unfold State.endFault; split <;> simp
@[simp] theorem State.endFault_dict (s : State) (n : Nat) : (s.endFault n).dict = s.dict := by
  unfold State.endFault; split <;> simp
@[simp] theorem State.endFault_host (s : State) (n : Nat) : (s.endFault n).host = s.host := by
  unfold State.endFault; split <;> simp
@[simp] theorem State.endFault_lf (s : State) (n : Nat) : (s.endFault n).lf = s.lf := by
  unfold State.endFault; split <;> simp
@[simp] theorem State.endFault_phy (s : State) (n : Nat) : (s.endFault n).phy = s.phy := by
  unfold State.endFault; split <;> simp
@[simp] theorem State.endFault_nv (s : State) (n : Nat) : (s.endFault n).nv = s.nv := by
  unfold State.endFault; split <;> simp
@[simp] theorem State.endFault_timers (s : State) (n : Nat) : (s.endFault n).timers = s.timers := by
  unfold State.endFault; split <;> simp
@[simp] theorem State.endFault_dist (s : State) (n : Nat) : (s.endFault n).dist = s.dist := by
  unfold State.endFault; split <;> simp
@[simp] theorem State.endFault_gnss (s : State) (n : Nat) : (s.endFault n).gnss = s.gnss := by
  unfold State.endFault; split <;> simp
@[simp] theorem State.endFault_sched (s : State) (n : Nat) : (s.endFault n).sched = s.sched := by
  unfold State.endFault; split <;> simp
@[simp] theorem State.endFault_can0 (s : State) (n : Nat) : (s.endFault n).can0 = s.can0 := by
  unfold State.endFault; split <;> simp
@[simp] theorem State.endFault_can1 (s : State) (n : Nat) : (s.endFault n).can1 = s.can1 := by
  unfold State.endFault; split <;> simp
@[simp] theorem State.endFault_bell (s : State) (n : Nat) : (s.endFault n).bell = s.bell := by
  unfold State.endFault; split <;> simp
@[simp] theorem State.endFault_pol (s : State) (n : Nat) : (s.endFault n).pol = s.pol := by
  unfold State.endFault; split <;> simp
@[simp] theorem State.endFault_cipher (s : State) (n : Nat) : (s.endFault n).cipher = s.cipher := by
  unfold State.endFault; split <;> simp
@[simp] theorem State.endFault_pk (s : State) (n : Nat) : (s.endFault n).pk = s.pk := by
  unfold State.endFault; split <;> simp
@[simp] theorem State.endFault_ks (s : State) (n : Nat) : (s.endFault n).ks = s.ks := by
  unfold State.endFault; split <;> simp
@[simp] theorem State.endFault_rng (s : State) (n : Nat) : (s.endFault n).rng = s.rng := by
  unfold State.endFault; split <;> simp
@[simp] theorem State.endFault_cx (s : State) (n : Nat) : (s.endFault n).cx = s.cx := by
  unfold State.endFault; split <;> simp
@[simp] theorem State.endFault_loc (s : State) (n : Nat) : (s.endFault n).loc = s.loc := by
  unfold State.endFault; split <;> simp
@[simp] theorem State.endFault_tag (s : State) (n : Nat) : (s.endFault n).tag = s.tag := by
  unfold State.endFault; split <;> simp
@[simp] theorem State.endFault_tagd (s : State) (n : Nat) : (s.endFault n).tagd = s.tagd := by
  unfold State.endFault; split <;> simp
@[simp] theorem State.endFault_aon (s : State) (n : Nat) : (s.endFault n).aon = s.aon := by
  unfold State.endFault; split <;> simp
@[simp] theorem State.endFault_medium (s : State) (n : Nat) : (s.endFault n).medium = s.medium := by
  unfold State.endFault; split <;> simp
@[simp] theorem State.endFault_free (s : State) (n : Nat) : (s.endFault n).free = s.free := by
  unfold State.endFault; split <;> simp
@[simp] theorem State.endFault_pending (s : State) (n : Nat) : (s.endFault n).pending = s.pending := by
  unfold State.endFault; split <;> simp
@[simp] theorem State.endFault_rr_objs (s : State) (n : Nat) : (s.endFault n).rr.objs = s.rr.objs := by
  unfold State.endFault; split <;> simp
@[simp] theorem State.endFault_rr_param (s : State) (n : Nat) : (s.endFault n).rr.param = s.rr.param := by
  unfold State.endFault; split <;> simp
@[simp] theorem State.endFault_rr_boot (s : State) (n : Nat) : (s.endFault n).rr.boot = s.rr.boot := by
  unfold State.endFault; split <;> simp
@[simp] theorem State.endFault_rr_key (s : State) (n : Nat) : (s.endFault n).rr.key = s.rr.key := by
  unfold State.endFault; split <;> simp
@[simp] theorem State.endFault_rr_cal (s : State) (n : Nat) : (s.endFault n).rr.cal = s.rr.cal := by
  unfold State.endFault; split <;> simp
@[simp] theorem State.endFault_rr_remapped (s : State) (n : Nat) : (s.endFault n).rr.remapped = s.rr.remapped := by
  unfold State.endFault; split <;> simp
@[simp] theorem State.endFault_rr_sparesUsed (s : State) (n : Nat) : (s.endFault n).rr.sparesUsed = s.rr.sparesUsed := by
  unfold State.endFault; split <;> simp
@[simp] theorem State.endFault_rr_lifecycle (s : State) (n : Nat) : (s.endFault n).rr.lifecycle = s.rr.lifecycle := by
  unfold State.endFault; split <;> simp
@[simp] theorem State.endFault_rr_fwA (s : State) (n : Nat) : (s.endFault n).rr.fwA = s.rr.fwA := by
  unfold State.endFault; split <;> simp
@[simp] theorem State.endFault_rr_fwB (s : State) (n : Nat) : (s.endFault n).rr.fwB = s.rr.fwB := by
  unfold State.endFault; split <;> simp
@[simp] theorem State.endFault_rr_active (s : State) (n : Nat) : (s.endFault n).rr.active = s.rr.active := by
  unfold State.endFault; split <;> simp
@[simp] theorem State.endFault_rr_trialBank (s : State) (n : Nat) : (s.endFault n).rr.trialBank = s.rr.trialBank := by
  unfold State.endFault; split <;> simp
@[simp] theorem State.endFault_rr_trialRan (s : State) (n : Nat) : (s.endFault n).rr.trialRan = s.rr.trialRan := by
  unfold State.endFault; split <;> simp
@[simp] theorem State.endFault_rr_floor (s : State) (n : Nat) : (s.endFault n).rr.floor = s.rr.floor := by
  unfold State.endFault; split <;> simp
@[simp] theorem State.endFault_rr_badBlocks (s : State) (n : Nat) : (s.endFault n).rr.badBlocks = s.rr.badBlocks := by
  unfold State.endFault; split <;> simp
@[simp] theorem State.endFault_rr_headHint (s : State) (n : Nat) : (s.endFault n).rr.headHint = s.rr.headHint := by
  unfold State.endFault; split <;> simp
@[simp] theorem State.endFault_rr_oldest (s : State) (n : Nat) : (s.endFault n).rr.oldest = s.rr.oldest := by
  unfold State.endFault; split <;> simp
@[simp] theorem State.endFault_rr_wraps (s : State) (n : Nat) : (s.endFault n).rr.wraps = s.rr.wraps := by
  unfold State.endFault; split <;> simp
@[simp] theorem State.endFault_rr_tamper (s : State) (n : Nat) : (s.endFault n).rr.tamper = s.rr.tamper := by
  unfold State.endFault; split <;> simp
@[simp] theorem State.endFault_rr_slots (s : State) (n : Nat) : (s.endFault n).rr.slots = s.rr.slots := by
  unfold State.endFault; split <;> simp
@[simp] theorem State.endFault_rr_vehicleId (s : State) (n : Nat) : (s.endFault n).rr.vehicleId = s.rr.vehicleId := by
  unfold State.endFault; split <;> simp
@[simp] theorem State.endFault_rr_stock (s : State) (n : Nat) : (s.endFault n).rr.stock = s.rr.stock := by
  unfold State.endFault; split <;> simp
@[simp] theorem State.endFault_rr_locked (s : State) (n : Nat) : (s.endFault n).rr.locked = s.rr.locked := by
  unfold State.endFault; split <;> simp
@[simp] theorem State.endFault_rr_map (s : State) (n : Nat) : (s.endFault n).rr.map = s.rr.map := by
  unfold State.endFault; split <;> simp
@[simp] theorem State.endFault_rr_mapWaits (s : State) (n : Nat) : (s.endFault n).rr.mapWaits = s.rr.mapWaits := by
  unfold State.endFault; split <;> simp
@[simp] theorem State.endFault_rr_paired (s : State) (n : Nat) : (s.endFault n).rr.paired = s.rr.paired := by
  unfold State.endFault; split <;> simp
@[simp] theorem State.endFault_rr_pairRec (s : State) (n : Nat) : (s.endFault n).rr.pairRec = s.rr.pairRec := by
  unfold State.endFault; split <;> simp
@[simp] theorem State.endFault_rr_tractors (s : State) (n : Nat) : (s.endFault n).rr.tractors = s.rr.tractors := by
  unfold State.endFault; split <;> simp
@[simp] theorem State.endFault_rr_latch (s : State) (n : Nat) : (s.endFault n).rr.latch = s.rr.latch := by
  unfold State.endFault; split <;> simp
@[simp] theorem State.endFault_rr_tag (s : State) (n : Nat) : (s.endFault n).rr.tag = s.rr.tag := by
  unfold State.endFault; split <;> simp
@[simp] theorem State.endFault_rr_tamperAt (s : State) (n : Nat) : (s.endFault n).rr.tamperAt = s.rr.tamperAt := by
  unfold State.endFault; split <;> simp

@[simp] theorem State.setUnits_now (s : State) (l : List Nat) (st : Nat) : (s.setUnits l st).now = s.now := by
  unfold State.setUnits; induction l generalizing s with
  | nil => rfl
  | cons a r ih => simp only [List.foldl_cons, ih, State.setUnit_now]
@[simp] theorem State.setUnits_sticky (s : State) (l : List Nat) (st : Nat) : (s.setUnits l st).sticky = s.sticky := by
  unfold State.setUnits; induction l generalizing s with
  | nil => rfl
  | cons a r ih => simp only [List.foldl_cons, ih, State.setUnit_sticky]
@[simp] theorem State.setUnits_objs (s : State) (l : List Nat) (st : Nat) : (s.setUnits l st).objs = s.objs := by
  unfold State.setUnits; induction l generalizing s with
  | nil => rfl
  | cons a r ih => simp only [List.foldl_cons, ih, State.setUnit_objs]
@[simp] theorem State.setUnits_snaps (s : State) (l : List Nat) (st : Nat) : (s.setUnits l st).snaps = s.snaps := by
  unfold State.setUnits; induction l generalizing s with
  | nil => rfl
  | cons a r ih => simp only [List.foldl_cons, ih, State.setUnit_snaps]
@[simp] theorem State.setUnits_refused (s : State) (l : List Nat) (st : Nat) : (s.setUnits l st).refused = s.refused := by
  unfold State.setUnits; induction l generalizing s with
  | nil => rfl
  | cons a r ih => simp only [List.foldl_cons, ih, State.setUnit_refused]
@[simp] theorem State.setUnits_evq (s : State) (l : List Nat) (st : Nat) : (s.setUnits l st).evq = s.evq := by
  unfold State.setUnits; induction l generalizing s with
  | nil => rfl
  | cons a r ih => simp only [List.foldl_cons, ih, State.setUnit_evq]
@[simp] theorem State.setUnits_evLost (s : State) (l : List Nat) (st : Nat) : (s.setUnits l st).evLost = s.evLost := by
  unfold State.setUnits; induction l generalizing s with
  | nil => rfl
  | cons a r ih => simp only [List.foldl_cons, ih, State.setUnit_evLost]
@[simp] theorem State.setUnits_dict (s : State) (l : List Nat) (st : Nat) : (s.setUnits l st).dict = s.dict := by
  unfold State.setUnits; induction l generalizing s with
  | nil => rfl
  | cons a r ih => simp only [List.foldl_cons, ih, State.setUnit_dict]
@[simp] theorem State.setUnits_host (s : State) (l : List Nat) (st : Nat) : (s.setUnits l st).host = s.host := by
  unfold State.setUnits; induction l generalizing s with
  | nil => rfl
  | cons a r ih => simp only [List.foldl_cons, ih, State.setUnit_host]
@[simp] theorem State.setUnits_lf (s : State) (l : List Nat) (st : Nat) : (s.setUnits l st).lf = s.lf := by
  unfold State.setUnits; induction l generalizing s with
  | nil => rfl
  | cons a r ih => simp only [List.foldl_cons, ih, State.setUnit_lf]
@[simp] theorem State.setUnits_phy (s : State) (l : List Nat) (st : Nat) : (s.setUnits l st).phy = s.phy := by
  unfold State.setUnits; induction l generalizing s with
  | nil => rfl
  | cons a r ih => simp only [List.foldl_cons, ih, State.setUnit_phy]
@[simp] theorem State.setUnits_nv (s : State) (l : List Nat) (st : Nat) : (s.setUnits l st).nv = s.nv := by
  unfold State.setUnits; induction l generalizing s with
  | nil => rfl
  | cons a r ih => simp only [List.foldl_cons, ih, State.setUnit_nv]
@[simp] theorem State.setUnits_jr (s : State) (l : List Nat) (st : Nat) : (s.setUnits l st).jr = s.jr := by
  unfold State.setUnits; induction l generalizing s with
  | nil => rfl
  | cons a r ih => simp only [List.foldl_cons, ih, State.setUnit_jr]
@[simp] theorem State.setUnits_sup (s : State) (l : List Nat) (st : Nat) : (s.setUnits l st).sup = s.sup := by
  unfold State.setUnits; induction l generalizing s with
  | nil => rfl
  | cons a r ih => simp only [List.foldl_cons, ih, State.setUnit_sup]
@[simp] theorem State.setUnits_timers (s : State) (l : List Nat) (st : Nat) : (s.setUnits l st).timers = s.timers := by
  unfold State.setUnits; induction l generalizing s with
  | nil => rfl
  | cons a r ih => simp only [List.foldl_cons, ih, State.setUnit_timers]
@[simp] theorem State.setUnits_dist (s : State) (l : List Nat) (st : Nat) : (s.setUnits l st).dist = s.dist := by
  unfold State.setUnits; induction l generalizing s with
  | nil => rfl
  | cons a r ih => simp only [List.foldl_cons, ih, State.setUnit_dist]
@[simp] theorem State.setUnits_gnss (s : State) (l : List Nat) (st : Nat) : (s.setUnits l st).gnss = s.gnss := by
  unfold State.setUnits; induction l generalizing s with
  | nil => rfl
  | cons a r ih => simp only [List.foldl_cons, ih, State.setUnit_gnss]
@[simp] theorem State.setUnits_sched (s : State) (l : List Nat) (st : Nat) : (s.setUnits l st).sched = s.sched := by
  unfold State.setUnits; induction l generalizing s with
  | nil => rfl
  | cons a r ih => simp only [List.foldl_cons, ih, State.setUnit_sched]
@[simp] theorem State.setUnits_can0 (s : State) (l : List Nat) (st : Nat) : (s.setUnits l st).can0 = s.can0 := by
  unfold State.setUnits; induction l generalizing s with
  | nil => rfl
  | cons a r ih => simp only [List.foldl_cons, ih, State.setUnit_can0]
@[simp] theorem State.setUnits_can1 (s : State) (l : List Nat) (st : Nat) : (s.setUnits l st).can1 = s.can1 := by
  unfold State.setUnits; induction l generalizing s with
  | nil => rfl
  | cons a r ih => simp only [List.foldl_cons, ih, State.setUnit_can1]
@[simp] theorem State.setUnits_bell (s : State) (l : List Nat) (st : Nat) : (s.setUnits l st).bell = s.bell := by
  unfold State.setUnits; induction l generalizing s with
  | nil => rfl
  | cons a r ih => simp only [List.foldl_cons, ih, State.setUnit_bell]
@[simp] theorem State.setUnits_pol (s : State) (l : List Nat) (st : Nat) : (s.setUnits l st).pol = s.pol := by
  unfold State.setUnits; induction l generalizing s with
  | nil => rfl
  | cons a r ih => simp only [List.foldl_cons, ih, State.setUnit_pol]
@[simp] theorem State.setUnits_cipher (s : State) (l : List Nat) (st : Nat) : (s.setUnits l st).cipher = s.cipher := by
  unfold State.setUnits; induction l generalizing s with
  | nil => rfl
  | cons a r ih => simp only [List.foldl_cons, ih, State.setUnit_cipher]
@[simp] theorem State.setUnits_pk (s : State) (l : List Nat) (st : Nat) : (s.setUnits l st).pk = s.pk := by
  unfold State.setUnits; induction l generalizing s with
  | nil => rfl
  | cons a r ih => simp only [List.foldl_cons, ih, State.setUnit_pk]
@[simp] theorem State.setUnits_ks (s : State) (l : List Nat) (st : Nat) : (s.setUnits l st).ks = s.ks := by
  unfold State.setUnits; induction l generalizing s with
  | nil => rfl
  | cons a r ih => simp only [List.foldl_cons, ih, State.setUnit_ks]
@[simp] theorem State.setUnits_rng (s : State) (l : List Nat) (st : Nat) : (s.setUnits l st).rng = s.rng := by
  unfold State.setUnits; induction l generalizing s with
  | nil => rfl
  | cons a r ih => simp only [List.foldl_cons, ih, State.setUnit_rng]
@[simp] theorem State.setUnits_cx (s : State) (l : List Nat) (st : Nat) : (s.setUnits l st).cx = s.cx := by
  unfold State.setUnits; induction l generalizing s with
  | nil => rfl
  | cons a r ih => simp only [List.foldl_cons, ih, State.setUnit_cx]
@[simp] theorem State.setUnits_loc (s : State) (l : List Nat) (st : Nat) : (s.setUnits l st).loc = s.loc := by
  unfold State.setUnits; induction l generalizing s with
  | nil => rfl
  | cons a r ih => simp only [List.foldl_cons, ih, State.setUnit_loc]
@[simp] theorem State.setUnits_tag (s : State) (l : List Nat) (st : Nat) : (s.setUnits l st).tag = s.tag := by
  unfold State.setUnits; induction l generalizing s with
  | nil => rfl
  | cons a r ih => simp only [List.foldl_cons, ih, State.setUnit_tag]
@[simp] theorem State.setUnits_tagd (s : State) (l : List Nat) (st : Nat) : (s.setUnits l st).tagd = s.tagd := by
  unfold State.setUnits; induction l generalizing s with
  | nil => rfl
  | cons a r ih => simp only [List.foldl_cons, ih, State.setUnit_tagd]
@[simp] theorem State.setUnits_aon (s : State) (l : List Nat) (st : Nat) : (s.setUnits l st).aon = s.aon := by
  unfold State.setUnits; induction l generalizing s with
  | nil => rfl
  | cons a r ih => simp only [List.foldl_cons, ih, State.setUnit_aon]
@[simp] theorem State.setUnits_rr (s : State) (l : List Nat) (st : Nat) : (s.setUnits l st).rr = s.rr := by
  unfold State.setUnits; induction l generalizing s with
  | nil => rfl
  | cons a r ih => simp only [List.foldl_cons, ih, State.setUnit_rr]
@[simp] theorem State.setUnits_medium (s : State) (l : List Nat) (st : Nat) : (s.setUnits l st).medium = s.medium := by
  unfold State.setUnits; induction l generalizing s with
  | nil => rfl
  | cons a r ih => simp only [List.foldl_cons, ih, State.setUnit_medium]
@[simp] theorem State.setUnits_free (s : State) (l : List Nat) (st : Nat) : (s.setUnits l st).free = s.free := by
  unfold State.setUnits; induction l generalizing s with
  | nil => rfl
  | cons a r ih => simp only [List.foldl_cons, ih, State.setUnit_free]
@[simp] theorem State.setUnits_pending (s : State) (l : List Nat) (st : Nat) : (s.setUnits l st).pending = s.pending := by
  unfold State.setUnits; induction l generalizing s with
  | nil => rfl
  | cons a r ih => simp only [List.foldl_cons, ih, State.setUnit_pending]

end Sys2Proof.Machine
end

