-- ==== Sys2Proof/Laws/Dictionary.lean ====
section
/-! SUPPORT. What an accepted request comes to: its act, and the answer. -/

namespace Sys2Proof.Machine

open Sys2Proof

@[simp] theorem key_hi (ix sub : Nat) (h : sub < 256) : key ix sub / 256 = ix := by unfold key; omega
@[simp] theorem key_lo (ix sub : Nat) (h : sub < 256) : key ix sub % 256 = sub := by unfold key; omega

theorem finish_next (s t : State) : finish s t = .next { t with pending := s.pending } := rfl

theorem asked_asks {u : State} {c : Client} (h : Asks u c) (f : State → State) : u.asked c f = f u := by
  obtain ⟨h1, h2, h3⟩ := h
  simp [State.asked, h1, h2, h3]

theorem asked_not {u : State} {c : Client} (h : ¬ Asks u c) (f : State → State) : u.asked c f = u := by
  unfold State.asked Asks at *
  split
  · simp_all
  · rfl

/-- An accepted write begins its way. -/
theorem asksWrite_begins {u : State} {c : Client} {ix sub : Nat} {data : Bytes} (h : Accepts u c ix sub data) :
    u.asksWrite c ix sub data = u.beginWrite c ix sub data (wayOf c ix sub data) := by
  obtain ⟨ha, hc⟩ := h
  have hc' : u.checkWrite c ix sub data = 0 := hc
  simp [State.asksWrite, asked_asks ha, State.writeRequest, State.writeWith, hc']

/-- A way with nothing in its way acts at once and is answered. -/
theorem startWay_now {u : State} {c : Client} {k : Nat} {data : Bytes} {w : Way}
    (hl : w.late = false) (hn : w.nv = true → u.fenced = false) (hw : w.need u = 0) :
    u.startWay c k data w = (w.act u).1.answer c k (w.act u).2 [] true := by
  have : (w.late || (w.nv && u.fenced)) = false := by
    cases h : w.nv <;> simp_all
  simp [State.startWay, this, State.runWay, hw]

/-- An accepted write whose way has nothing in its way. -/
theorem asksWrite_acts {u : State} {c : Client} {ix sub : Nat} {data : Bytes} (w : Way) (hw : wayOf c ix sub data = w)
    (h : Accepts u c ix sub data) (h1 : ¬(ix = 0x3020 ∧ sub = 4)) (h2 : ix ≠ 0x3811)
    (hl : w.late = false) (hn : w.nv = true → u.fenced = false) (h0 : w.need u = 0) :
    u.asksWrite c ix sub data = (w.act u).1.answer c (key ix sub) (w.act u).2 [] true := by
  rw [asksWrite_begins h, hw]
  simp [State.beginWrite, h1, h2, startWay_now hl hn h0]
  intro _ _ _
  simp [State.runWay, h0]

/-- A write that a check of R39 turns down is answered with its abort code, and nothing else changes. -/
theorem asksWrite_refused {u : State} {c : Client} {ix sub : Nat} {data : Bytes} (h : Asks u c) (hc : u.checkWrite c ix sub data ≠ 0) :
    u.asksWrite c ix sub data = u.answer c (key ix sub) (u.checkWrite c ix sub data) [] false := by
  simp [State.asksWrite, asked_asks h, State.writeRequest, State.writeWith, hc]

/-- An accepted read gives the object's value. -/
theorem asksRead_gives {u : State} {c : Client} {ix sub : Nat} (h : AcceptsRead u c ix sub) :
    u.asksRead c ix sub = (u.readObject c ix sub).1.answer c (key ix sub) (u.readObject c ix sub).2.1 (u.readObject c ix sub).2.2 true := by
  obtain ⟨ha, hc⟩ := h
  have hc' : u.checkAccess c false ix sub 0 = 0 := hc
  simp [State.asksRead, asked_asks ha, State.readRequest, hc']

theorem find_client (l : List ClientCtx) (c : Client) (x : ClientCtx) (h : l.find? (fun y => y.c == c) = some x) : x.c = c := by
  have := List.find?_some h
  simpa using this

@[simp] theorem State.ctx_c (s : State) (c : Client) : (s.ctx c).c = c := by
  unfold State.ctx
  cases h : s.dict.clients.find? (fun x => x.c == c) with
  | none => rfl
  | some x => exact find_client _ _ _ h

theorem find_map_same (l : List ClientCtx) (x : ClientCtx) (h : l.any (fun y => y.c == x.c) = true) :
    (l.map (fun y => if y.c == x.c then x else y)).find? (fun y => y.c == x.c) = some x := by
  induction l with
  | nil => simp at h
  | cons a r ih =>
    by_cases ha : a.c = x.c
    · simp [ha]
    · have : r.any (fun y => y.c == x.c) = true := by simpa [ha] using h
      simp [ha]
      simpa using ih this

theorem find_map_other (l : List ClientCtx) (x : ClientCtx) (d : Client) (h : d ≠ x.c) :
    (l.map (fun y => if y.c == x.c then x else y)).find? (fun y => y.c == d) = l.find? (fun y => y.c == d) := by
  have h2 : (x.c == d) = false := by simp; exact fun e => h e.symm
  induction l with
  | nil => rfl
  | cons a r ih =>
    by_cases ha : a.c = x.c
    · have h1 : (a.c == d) = false := by rw [ha]; exact h2
      simp only [List.map_cons, ha, beq_self_eq_true, if_true, List.find?_cons, h2, ih]
    · have h1 : (a.c == x.c) = false := by simp [ha]
      simp only [List.map_cons, h1, List.find?_cons, ih, Bool.false_eq_true, if_false]

@[simp] theorem State.ctx_setCtx (s : State) (x : ClientCtx) : (s.setCtx x).ctx x.c = x := by
  unfold State.setCtx State.ctx
  dsimp only
  split
  · rename_i h; rw [find_map_same _ _ h]; rfl
  · rename_i h
    have : s.dict.clients.find? (fun y => y.c == x.c) = none := by
      rw [List.find?_eq_none]; intro y hy hc
      exact h (List.any_eq_true.mpr ⟨y, hy, hc⟩)
    simp [List.find?_append, this]

theorem State.ctx_setCtx_of (s : State) (x : ClientCtx) (c : Client) (h : x.c = c) : (s.setCtx x).ctx c = x := by
  subst h; simp

theorem State.ctx_setCtx_other (s : State) (x : ClientCtx) (d : Client) (h : d ≠ x.c) : (s.setCtx x).ctx d = s.ctx d := by
  unfold State.setCtx State.ctx
  dsimp only
  split
  · rw [find_map_other _ _ _ h]
  · have h2 : (x.c == d) = false := by simp; exact fun e => h e.symm
    simp [List.find?_append, h2]

theorem setCtx_rest (s : State) (x : ClientCtx) : { s.setCtx x with dict := s.dict } = s := rfl

end Sys2Proof.Machine
end

