-- ==== Sys2Proof/Laws/Maps.lean ====
section
/-! SUPPORT. Lists by key: what is read back after a value is put, removed or set, on any list; and that rising keys stay rising. -/

namespace Sys2Proof.Machine

open Sys2Proof

section
variable {α : Type}

@[simp] theorem kvGet?_kvPut_same (l : List (Nat × α)) (k : Nat) (v : α) : kvGet? (kvPut l k v) k = some v := by
  induction l with
  | nil => simp [kvPut, kvGet?]
  | cons e r ih =>
    obtain ⟨a, b⟩ := e
    unfold kvPut
    split
    · simp [kvGet?]
    · split
      · simp [kvGet?]
      · rename_i h; simp [kvGet?, h, ih]

theorem kvGet?_kvPut_other (l : List (Nat × α)) (k j : Nat) (v : α) (h : j ≠ k) : kvGet? (kvPut l k v) j = kvGet? l j := by
  induction l with
  | nil => simp [kvPut, kvGet?, h]
  | cons e r ih =>
    obtain ⟨a, b⟩ := e
    unfold kvPut
    split
    · simp [kvGet?, h]
    · split
      · rename_i g; subst g; simp [kvGet?, h]
      · simp only [kvGet?, ih]

@[simp] theorem kvGet?_kvDel_same (l : List (Nat × α)) (k : Nat) : kvGet? (kvDel l k) k = none := by
  induction l with
  | nil => rfl
  | cons e r ih =>
    obtain ⟨a, b⟩ := e
    unfold kvDel at *
    by_cases h : a = k
    · subst h; simpa using ih
    · simp only [List.filter_cons, bne_iff_ne, ne_eq, h, not_false_eq_true, ↓reduceIte, kvGet?, Ne.symm h, ih]

theorem kvGet?_kvDel_other (l : List (Nat × α)) (k j : Nat) (h : j ≠ k) : kvGet? (kvDel l k) j = kvGet? l j := by
  induction l with
  | nil => rfl
  | cons e r ih =>
    obtain ⟨a, b⟩ := e
    unfold kvDel at *
    by_cases g : a = k
    · subst g; simp only [List.filter_cons, bne_self_eq_false, Bool.false_eq_true, ↓reduceIte, kvGet?, h, ih]
    · simp only [List.filter_cons, bne_iff_ne, ne_eq, g, not_false_eq_true, ↓reduceIte, kvGet?, ih]

@[simp] theorem kvGet_kvPut_same (d : α) (l : List (Nat × α)) (k : Nat) (v : α) : kvGet d (kvPut l k v) k = v := by simp [kvGet]

theorem kvGet_kvPut_other (d : α) (l : List (Nat × α)) (k j : Nat) (v : α) (h : j ≠ k) : kvGet d (kvPut l k v) j = kvGet d l j := by
  simp [kvGet, kvGet?_kvPut_other l k j v h]

@[simp] theorem kvGet_kvDel_same (d : α) (l : List (Nat × α)) (k : Nat) : kvGet d (kvDel l k) k = d := by simp [kvGet]

theorem kvGet_kvDel_other (d : α) (l : List (Nat × α)) (k j : Nat) (h : j ≠ k) : kvGet d (kvDel l k) j = kvGet d l j := by
  simp [kvGet, kvGet?_kvDel_other l k j h]

variable [DecidableEq α]

@[simp] theorem kvGet_kvSet_same (d : α) (l : List (Nat × α)) (k : Nat) (v : α) : kvGet d (kvSet d l k v) k = v := by
  unfold kvSet; split
  · rename_i h; simp [h]
  · simp

theorem kvGet_kvSet_other (d : α) (l : List (Nat × α)) (k j : Nat) (v : α) (h : j ≠ k) : kvGet d (kvSet d l k v) j = kvGet d l j := by
  unfold kvSet; split
  · exact kvGet_kvDel_other d l k j h
  · exact kvGet_kvPut_other d l k j v h

end

section
variable {α : Type}

/-- A list with rising keys, as its first key and its rest. -/
theorem kvSorted_cons (k : Nat) (v : α) (r : List (Nat × α)) : kvSorted ((k, v) :: r) = true ↔ (∀ e ∈ r, k < e.1) ∧ kvSorted r = true := by
  induction r generalizing k v with
  | nil => simp [kvSorted]
  | cons e r ih =>
    obtain ⟨a, b⟩ := e
    simp only [kvSorted, Bool.and_eq_true, decide_eq_true_eq, List.mem_cons, forall_eq_or_imp]
    constructor
    · rintro ⟨h, g⟩
      exact ⟨⟨h, fun e m => Nat.lt_trans h (((ih a b).mp g).1 e m)⟩, g⟩
    · rintro ⟨⟨h, _⟩, g⟩; exact ⟨h, g⟩

theorem kvPut_keys (l : List (Nat × α)) (k : Nat) (v : α) (m : Nat) (h : ∀ e ∈ l, m < e.1) (g : m < k) : ∀ e ∈ kvPut l k v, m < e.1 := by
  induction l with
  | nil => simp [kvPut, g]
  | cons e r ih =>
    obtain ⟨a, b⟩ := e
    simp only [List.mem_cons, forall_eq_or_imp] at h
    unfold kvPut
    split
    · simp only [List.mem_cons, forall_eq_or_imp]; exact ⟨g, h.1, h.2⟩
    · split
      · simp only [List.mem_cons, forall_eq_or_imp]; exact ⟨g, h.2⟩
      · simp only [List.mem_cons, forall_eq_or_imp]; exact ⟨h.1, ih h.2⟩

theorem kvSorted_kvPut (l : List (Nat × α)) (k : Nat) (v : α) (h : kvSorted l = true) : kvSorted (kvPut l k v) = true := by
  induction l with
  | nil => rfl
  | cons e r ih =>
    obtain ⟨a, b⟩ := e
    have hr := (kvSorted_cons a b r).mp h
    unfold kvPut
    split
    · rename_i g
      refine (kvSorted_cons k v _).mpr ⟨?_, h⟩
      simp only [List.mem_cons, forall_eq_or_imp]
      exact ⟨g, fun e m => Nat.lt_trans g (hr.1 e m)⟩
    · split
      · rename_i g; subst g; exact (kvSorted_cons k v r).mpr hr
      · exact (kvSorted_cons a b _).mpr ⟨kvPut_keys r k v a hr.1 (by omega), ih hr.2⟩

theorem kvSorted_kvDel (l : List (Nat × α)) (k : Nat) (h : kvSorted l = true) : kvSorted (kvDel l k) = true := by
  induction l with
  | nil => rfl
  | cons e r ih =>
    obtain ⟨a, b⟩ := e
    have hr := (kvSorted_cons a b r).mp h
    have hd : kvDel ((a, b) :: r) k = if a = k then kvDel r k else (a, b) :: kvDel r k := by
      unfold kvDel; by_cases g : a = k <;> simp [g]
    rw [hd]
    split
    · exact ih hr.2
    · exact (kvSorted_cons a b _).mpr ⟨fun e m => hr.1 e (List.mem_filter.mp m).1, ih hr.2⟩

theorem kvSorted_kvSet [DecidableEq α] (d : α) (l : List (Nat × α)) (k : Nat) (v : α) (h : kvSorted l = true) : kvSorted (kvSet d l k v) = true := by
  unfold kvSet; split
  · exact kvSorted_kvDel l k h
  · exact kvSorted_kvPut l k v h

end

/-- Programming a firmware bank keeps its bytes in canonical form. -/
theorem FwBank.program_sorted (b : FwBank) (a : Nat) (d : Bytes) (h : kvSorted b.mem = true) : kvSorted (b.program a d).mem = true := by
  have go : ∀ (q : List (Byte × Nat)) (m : List Host.Cell), kvSorted m = true →
      kvSorted (q.foldl (fun (m : List Host.Cell) x => kvSet 0xFF m (a + x.2) x.1) m) = true := by
    intro q
    induction q with
    | nil => intro m h; exact h
    | cons x r ih => intro m h; exact ih _ (kvSorted_kvSet _ _ _ _ h)
  exact go _ _ h

/-- Writing a word of a bank keeps the User bank's words in canonical form. -/
theorem TagMem.setWord_sorted (m : TagMem) (bank a : Nat) (w : Word) (h : kvSorted m.user = true) : kvSorted (m.setWord bank a w).user = true := by
  unfold TagMem.setWord
  split
  · split
    · exact h
    · split <;> exact h
  · split
    · exact kvSorted_kvSet _ _ _ _ h
    · exact h

theorem TagMem.setWords_sorted (m : TagMem) (bank ptr : Nat) (l : List Word) (h : kvSorted m.user = true) :
    kvSorted (m.setWords bank ptr l).user = true := by
  have go : ∀ (q : List (Word × Nat)) (m : TagMem), kvSorted m.user = true →
      kvSorted (q.foldl (fun (x : TagMem) e => x.setWord bank (ptr + e.2) e.1) m).user = true := by
    intro q
    induction q with
    | nil => intro m h; exact h
    | cons e r ih => intro m h; exact ih _ (m.setWord_sorted _ _ _ h)
  exact go _ _ h

/-- A word of the User bank reads back after it is written, and every other word of it is as before. -/
theorem TagMem.setWord_user (m : TagMem) (a j : Nat) (w : Word) :
    kvGet 0xFFFF (m.setWord 3 a w).user j = if j = a then w else kvGet 0xFFFF m.user j := by
  unfold TagMem.setWord
  simp only [show (3 : Nat) ≠ 1 by decide, ↓reduceIte]
  split
  · rename_i h; subst h; exact kvGet_kvSet_same _ _ _ _
  · rename_i h; exact kvGet_kvSet_other _ _ _ _ _ h

/-- The events queue with room (R74): the event is its newest entry, and none is lost. -/
theorem State.pushEvent_room (s : State) (e : Event) (h : s.evq.length < 64) : s.pushEvent e = { s with evq := s.evq ++ [e] } := by
  unfold State.pushEvent; simp [h]

/-- The full events queue (R74): its oldest entry leaves, and the lost count rises. -/
theorem State.pushEvent_full (s : State) (e : Event) (h : 64 ≤ s.evq.length) :
    s.pushEvent e = { s with evq := s.evq.drop 1 ++ [e], evLost := satAdd 16 s.evLost 1 } := by
  unfold State.pushEvent; simp [Nat.not_lt.mpr h]

/-- The events queue never grows past its 64 entries (R74). -/
theorem State.pushEvent_bound (s : State) (e : Event) (h : s.evq.length ≤ 64) : (s.pushEvent e).evq.length ≤ 64 := by
  unfold State.pushEvent
  split <;> simp <;> omega

end Sys2Proof.Machine
end

