-- ==== Sys2Proof/WellFormed.lean ====
section
/-! DEFINITION. Well-formed commands: every operand is one that the block can be given. An ill-formed command has the effect that its operands
have after being cut to the widths of the wire. -/

namespace Sys2Proof

/-- A client that exists (R41). -/
def clientOk : Client → Bool
  | .host => true
  | .can b ch => decide (b < 2) && decide (ch < 16)

/-- A request's source that exists (R219). -/
def sourceOk : Source → Bool
  | .host c => clientOk c
  | _ => true

/-- Data lengths of a frame (R414): 0 to 8 in both formats, and the longer ones of FD. -/
def lengthOk (fd : Bool) (n : Nat) : Bool :=
  decide (n ≤ 8) || (fd && (([12, 16, 20, 24, 32, 48, 64] : List Nat).contains n))

/-- A frame that can be on a bus (R414): identifier, DLC and data agree; FD has no remote frames. -/
def frameOk (f : CanFrame) : Bool :=
  decide (f.id < if f.ide then 2 ^ 29 else 2 ^ 11) && decide (f.dlc < 16) && lengthOk f.fdf f.data.length && !(f.rtr && f.fdf) &&
  (!f.rtr || f.data.isEmpty)

/-- The fields of a UHF Select within their widths (R264). -/
def selectOk (q : SelectCmd) : Bool := decide (q.target < 8) && decide (q.action < 8) && decide (q.bank < 4)

/-- The fields of a UHF Query within their widths (R264). -/
def queryOk (q : QueryCmd) : Bool := decide (q.m < 4) && decide (q.sel < 4) && decide (q.session < 4) && decide (q.q < 16)

/-- The check of a command. -/
def Instr.wellFormed : Instr → Bool
  | .unitStop _ c uid => clientOk c && decide (uid < 65536)
  | .unitStart _ c uid => clientOk c && decide (uid < 65536)
  | .unitStartUp _ uid _ => decide (uid < 65536)
  | .trustRequestServed _ => true
  | .firewallFault _ _ _ => true
  | .nop _ words => !words.isEmpty
  | .ignoredOpcode _ words => !words.isEmpty
  | .reqRead _ words => !words.isEmpty
  | .reqWrite _ words => !words.isEmpty
  | .response _ words => !words.isEmpty
  | .fastRead _ words => !words.isEmpty
  | .objectWrite _ c idx sub _ => clientOk c && decide (idx < 65536) && decide (sub < 256)
  | .persistentCommit _ c => clientOk c
  | .nvFenced _ c => clientOk c
  | .role _ c code => clientOk c && decide (code < 256)
  | .proof _ c _ => clientOk c
  | .sessionOpenTimeout _ c => clientOk c
  | .close _ c => clientOk c
  | .sessionIdleTimeout _ c => clientOk c
  | .proofHoldOffEnd _ c => clientOk c
  | .nextEvent _ c => clientOk c
  | .clearLostCount _ c => clientOk c
  | .applyFastMap _ c => clientOk c
  | .streamIdleTimeout _ => true
  | .readSnapshotTimeout _ c => clientOk c
  | .expeditedWrite _ bus chan fr fd => decide (bus < 2) && decide (chan < 16) && lengthOk fd fr.length
  | .segmentedWriteInitiate _ bus chan fr fd => decide (bus < 2) && decide (chan < 16) && lengthOk fd fr.length
  | .blockWriteInitiate _ bus chan fr fd => decide (bus < 2) && decide (chan < 16) && lengthOk fd fr.length
  | .readInitiate _ bus chan fr fd => decide (bus < 2) && decide (chan < 16) && lengthOk fd fr.length
  | .blockReadInitiate _ bus chan fr fd => decide (bus < 2) && decide (chan < 16) && lengthOk fd fr.length
  | .segmentedWriteSegment _ bus chan fr fd => decide (bus < 2) && decide (chan < 16) && lengthOk fd fr.length
  | .blockWriteSegment _ bus chan fr fd => decide (bus < 2) && decide (chan < 16) && lengthOk fd fr.length
  | .segmentedReadRequest _ bus chan fr fd => decide (bus < 2) && decide (chan < 16) && lengthOk fd fr.length
  | .blockReadAcknowledgement _ bus chan fr fd => decide (bus < 2) && decide (chan < 16) && lengthOk fd fr.length
  | .blockReadEndAcknowledgement _ bus chan fr fd => decide (bus < 2) && decide (chan < 16) && lengthOk fd fr.length
  | .writeEnd _ bus chan fr fd => decide (bus < 2) && decide (chan < 16) && lengthOk fd fr.length
  | .abort _ bus chan fr fd => decide (bus < 2) && decide (chan < 16) && lengthOk fd fr.length
  | .transferTimeout _ bus chan => decide (bus < 2) && decide (chan < 16)
  | .wakeDoor _ _ => true
  | .wakeRf _ _ => true
  | .canWake _ bus _ => decide (bus < 2)
  | .pollDue _ => true
  | .pollAnswerWindowEnd _ => true
  | .pollPhase _ => true
  | .pollingStopped _ => true
  | .muteEnd _ => true
  | .requestTelegram _ c => clientOk c
  | .telegramStart _ => true
  | .tone _ => true
  | .replyWindowOpen _ => true
  | .stopPolling _ c => clientOk c
  | .restartPolling _ c => clientOk c
  | .runDiagnostics _ c => clientOk c
  | .diagnosisRepeat _ _ => true
  | .driverStatusRecheck _ _ => true
  | .rangingStartUp _ _ => true
  | .resynchronise _ c => clientOk c
  | .feSync _ _ => true
  | .laneDown _ lane _ => decide (lane < 3)
  | .laneUp _ lane => decide (lane < 3)
  | .preambleDetection _ lane _ _ => decide (lane < 3)
  | .sfdTimeout _ => true
  | .frameDelivery _ _ => true
  | .noiseMeasurement _ floors => floors.length == 3
  | .frontEndTemperatureRead _ temps => temps.length == 3
  | .deferredFrontEndWrite _ => true
  | .frontEndStatusRead _ fe _ => decide (fe < 3)
  | .calibrationStart _ c => clientOk c
  | .calibrationDone _ => true
  | .reply _ => true
  | .macCheckDone _ => true
  | .replyWindowClose _ => true
  | .rowSelect _ c row => clientOk c && decide (row < 256)
  | .epochEnd _ => true
  | .roundStart _ => true
  | .slotStart _ => true
  | .resp _ => true
  | .report _ => true
  | .roundEnd _ => true
  | .couplingTimeout _ => true
  | .pairPartner _ c _ => clientOk c
  | .entryStatus _ c entry status => clientOk c && decide (entry < 128) && decide (status < 256)
  | .rotateGroupKey _ c which => clientOk c && decide (which < 256)
  | .importTractorRecord _ c n _ => clientOk c && decide (n < 4)
  | .peerChallenge _ => true
  | .peerChallengeReceived _ => true
  | .pollReceived _ => true
  | .finalReceived _ => true
  | .peerSessionTimeout _ => true
  | .zoneMap _ c _ => clientOk c
  | .unlock _ src => sourceOk src
  | .start _ src => sourceOk src
  | .lock _ src => sourceOk src
  | .cancel _ src => sourceOk src
  | .unlockedNotice _ src => sourceOk src
  | .decisionTimeout _ => true
  | .suspectCleared _ => true
  | .walkAwayLock _ => true
  | .releaseRenewal _ => true
  | .releaseEnded _ => true
  | .engineStateFrame _ bus f => decide (bus < 2) && frameOk f
  | .engineRunning _ c v => clientOk c && decide (v < 256)
  | .latchEnd _ => true
  | .engineStateStale _ => true
  | .outputReadback _ _ _ => true
  | .releaseMessage _ => true
  | .trustLostMessage _ => true
  | .rebind _ => true
  | .presencePoll _ => true
  | .thermalLevel _ => true
  | .latchResume _ => true
  | .tagPowerOn _ mv => decide (mv < 65536)
  | .tagPowerOff _ mv => decide (mv < 65536)
  | .select _ q => selectOk q
  | .query _ q => queryOk q
  | .queryAdjust _ session upDn => decide (session < 4) && decide (upDn < 8)
  | .queryRep _ session => decide (session < 4)
  | .ack _ _ => true
  | .nak _ => true
  | .reqRn _ _ => true
  | .read _ bank _ count _ => decide (bank < 4) && decide (count < 256)
  | .write _ bank _ _ _ mv => decide (bank < 4) && decide (mv < 65536)
  | .blockWrite _ bank _ count _ _ mv => decide (bank < 4) && decide (count < 256) && decide (mv < 65536)
  | .kill _ recom _ _ mv => decide (recom < 8) && decide (mv < 65536)
  | .uhfLock _ mask action _ => decide (mask < 1024) && decide (action < 1024)
  | .tvSummary _ _ count _ => decide (count < 256)
  | .unsupportedUhfCommand _ _ => true
  | .tagCommit _ => true
  | .reqa _ => true
  | .wupa _ => true
  | .hlta _ => true
  | .anticollision _ level _ => decide (level < 3)
  | .hfSelect _ level _ => decide (level < 3)
  | .rats _ _ => true
  | .rAck _ block => decide (block < 2)
  | .rNak _ block => decide (block < 2)
  | .sDeselect _ => true
  | .getSummary _ _ => true
  | .hfRead _ _ => true
  | .getCertificate _ _ => true
  | .windowData _ c _ => clientOk c
  | .hostTagTimeout _ c => clientOk c
  | .summaryRefresh _ => true
  | .refreshNow _ c => clientOk c
  | .killObject _ c _ => clientOk c
  | .harvOn _ mv => decide (mv < 65536)
  | .harvOff _ mv => decide (mv < 65536)
  | .harvOverload _ => true
  | .harvRetry _ => true
  | .keyImport _ c => clientOk c
  | .generate _ c => clientOk c
  | .erase _ c => clientOk c
  | .zeroizeNow _ c => clientOk c
  | .importPlain _ c => clientOk c
  | .zeroizeAll _ c => clientOk c
  | .slotSelect _ c slot => clientOk c && decide (slot < 64)
  | .anchorChange _ c _ => clientOk c
  | .summaryCertificate _ c _ => clientOk c
  | .ecb _ c => clientOk c
  | .cbc _ c => clientOk c
  | .ctr _ c => clientOk c
  | .gcm _ c => clientOk c
  | .ccm _ c => clientOk c
  | .cmac _ c => clientOk c
  | .jobStart _ _ => true
  | .jobDone _ core _ => decide (core < 4)
  | .sign _ c => clientOk c
  | .verify _ c => clientOk c
  | .ecdh _ c => clientOk c
  | .hash _ c => clientOk c
  | .pkJobDone _ _ => true
  | .outputRead _ c => clientOk c
  | .hostJobTimeout _ _ => true
  | .blockRelease _ _ => true
  | .rngRestarted _ => true
  | .randomBytes _ c => clientOk c
  | .testPattern _ c code => clientOk c && decide (code < 256)
  | .programComplete _ failedVerifies => decide (failedVerifies < 4)
  | .fenceUp _ rail mv => decide (rail < 5) && decide (mv < 65536)
  | .fenceReleased _ => true
  | .increment _ c counter amount => clientOk c && decide (counter < 64) && decide (amount < 65536)
  | .nandOperationDone _ _ => true
  | .nandTimeout _ => true
  | .mediumRetry _ _ => true
  | .flushInterval _ => true
  | .checkpoint _ => true
  | .format _ c _ => clientOk c
  | .requestExport _ c => clientOk c
  | .journalReady _ _ => true
  | .timerMatch _ n => decide (n < 8)
  | .timerOverflow _ n => decide (n < 8)
  | .compare _ c n v _ => clientOk c && decide (n < 8) && decide (v < 4294967296)
  | .timerStart _ c n => clientOk c && decide (n < 8)
  | .timerStop _ c n => clientOk c && decide (n < 8)
  | .timerReset _ c n => clientOk c && decide (n < 8)
  | .timerRestart _ c n => clientOk c && decide (n < 8)
  | .groupStart _ c mask => clientOk c && decide (mask < 256)
  | .groupStop _ c mask => clientOk c && decide (mask < 256)
  | .groupReset _ c mask => clientOk c && decide (mask < 256)
  | .capture _ n _ => decide (n < 8)
  | .captureTrigger _ c n => clientOk c && decide (n < 8)
  | .timerClear _ c n mask => clientOk c && decide (n < 8) && decide (mask < 256)
  | .msPulse _ => true
  | .speedUpdate _ => true
  | .sessionReq _ => true
  | .sessionResp _ _ => true
  | .dataReq _ => true
  | .dataResp _ _ => true
  | .parkedPulse _ _ => true
  | .nmeaSentence _ _ => true
  | .gnPps _ => true
  | .ppsTimeout _ => true
  | .schedulerTest _ => true
  | .clearTamperFlags _ c mask => clientOk c && decide (mask < 256)
  | .frameReceived _ bus f _ => decide (bus < 2) && frameOk f
  | .nextRecord _ c bus => clientOk c && decide (bus < 2)
  | .highPriorityRecord _ c bus => clientOk c && decide (bus < 2)
  | .clearOverrun _ c bus => clientOk c && decide (bus < 2)
  | .txRequest _ c bus b => clientOk c && decide (bus < 2) && decide (b < 3)
  | .txAbort _ c bus b => clientOk c && decide (bus < 2) && decide (b < 3)
  | .txChoice _ bus => decide (bus < 2)
  | .frameEnd _ bus _ => decide (bus < 2)
  | .recoveryDelay _ bus => decide (bus < 2)
  | .recover _ c bus => clientOk c && decide (bus < 2)
  | .busRecovered _ bus => decide (bus < 2)
  | .integrated _ bus => decide (bus < 2)
  | .canClockRc _ bus => decide (bus < 2)
  | .ref _ => true
  | .refReceived _ f => frameOk f
  | .epochReceived _ f => frameOk f
  | .masterTaken _ => true
  | .refTimeout _ => true
  | .powerOnReset _ => true
  | .railReset _ rail mv => decide (rail < 5) && decide (mv < 65536)
  | .externalReset _ _ => true
  | .resetNow _ c => clientOk c
  | .deferredReset _ => true
  | .coldStart _ _ => true
  | .vddSerLow _ mv => decide (mv < 65536)
  | .vddSerRecovered _ mv => decide (mv < 65536)
  | .clockLost _ => true
  | .clockRestored _ => true
  | .pllLockLost _ _ => true
  | .pllRelock _ _ => true
  | .rcTrim _ code => decide (code < 65536)
  | .temperature _ sensors => sensors.length == 4
  | .thermalReset _ sensors => sensors.length == 4
  | .glitch _ _ _ => true
  | .parkRequest _ c => clientOk c
  | .parkOnIdle _ => true
  | .parkingComplete _ => true
  | .hostUngate _ => true
  | .watchdogExpiry _ _ => true
  | .lockstepMismatch _ _ => true
  | .faultEnded _ src => decide (src < 31)
  | .clearSummary _ c uid => clientOk c && decide (uid < 65536)
  | .clearSource _ c code => clientOk c && decide (code < 256)
  | .nextFaultEntry _ c => clientOk c
  | .trialConfirmed _ => true
  | .meshCheck _ _ => true
  | .loopSample _ _ => true
  | .lidDetection _ _ _ => true
  | .clearLatches _ c mask => clientOk c && decide (mask < 256)
  | .advanceIntegration _ c => clientOk c
  | .advanceField _ c => clientOk c
  | .advanceReturned _ c => clientOk c
  | .updateBegin _ c => clientOk c
  | .chunk _ c _ => clientOk c
  | .updateVerify _ c => clientOk c
  | .activate _ c => clientOk c
  | .groupPollEnd _ => true
  | .hfFieldLoss _ => true
  | .hfUnknownCommand _ _ => true
  | .canReceiveError _ bus code _ => decide (bus < 2) && decide (code < 256)
  | .conservativeCompactionDue _ => true

end Sys2Proof
end

