-- ==== Sys2Proof/Tests/Slice0.lean ====
section
/-! SUPPORT. Tests: for each statement, states and operands that meet its hypotheses, and what single commands do to them; and one
ill-formed command for each check of well-formedness. -/

open Sys2Proof Sys2Proof.Machine

namespace Sys2Proof.Tests

set_option Elab.async false
set_option linter.unusedVariables false

/-- The state after a command. -/
def after (i : Instr) (s : State) : State :=
  match exec i s with
  | .next t => t
  | _ => s

/-- The abort code of the last answer to a client. -/
def told (c : Client) (t : State) : Option Nat := (t.ctx c).reply.map (·.abort)

/-- A part whose units have all started, with its supplies up. -/
def live : State :=
  { State.reset with us := (unitTree.map (fun u => (u.id, 3))).filter (fun e => !isGroup e.1), sup := { State.reset.sup with held := false } }

/-- Channel 3 of bus 0 with an open session. -/
def can3 : Client := .can 0 3

/-- A session of a role on channel 3 of bus 0. -/
def inSession (s : State) (role : Nat) : State := s.setCtx { s.ctx can3 with st := 2, role := role, key := List.replicate 16 1, lastUse := s.now, row := some 0 }

theorem wit_StepRunsTheFrontCommand :
    let s : State := { live with pending := [.clearLostCount 5 .host] }
    s.pending = .clearLostCount 5 .host :: [] ∧
    live.pending = [] := by decide +kernel

/-- A state that meets the hypotheses of LifecycleOnlyMovesForward. -/
theorem wit_LifecycleOnlyMovesForward :
  let s : State := { live with pending := [.clearLostCount 5 .host] }
  1 ≤ s.rr.lifecycle ∧ s.rr.lifecycle ≤ 4 ∧ ∃ t, step s = .next t := ⟨by decide, by decide, _, rfl⟩

theorem wit_RefusedWriteOnlyAnswers :
    let u := live.turn 0
    Asks u .host ∧
    u.checkWrite .host 0x9999 1 [1] ≠ abOk ∧
    u.dictDown .host 0x9999 = abOk ∧ indexExists 0x9999 = false ∧
    indexExists 0x1101 = true ∧ subExists 0x1101 200 = false ∧
    u.checkWrite .host 0x1180 4 [1] = abOk := by decide +kernel

theorem wit_RefusedWriteOnlyAnswers_session :
    let u := (inSession live roleH).turn 0
    Asks u can3 ∧
    u.checkWrite can3 0x1180 4 [1] = abOk ∧
    (u.ctx can3).st = 2 ∧
    (inSession live 2).checkWrite can3 0x1180 4 [1] = abRole := by decide +kernel

theorem wit_EventQueueLosesItsOldest :
    let e : Event := { code := 1, unit := 0x24, param := 0, ms := 0 }
    let full : State := { live with evq := List.replicate 64 e }
    (live.powered = true ∧ live.evq.length < 64) ∧ State.reset.powered = false ∧
    full.powered = true ∧ full.evq.length = 64 ∧ full.evLost = 0 ∧
    ({ full with evLost := 65535 } : State).evq.length = 64 ∧ 0 < ({ full with evLost := 65535 } : State).evLost ∧
    AcceptsRead ((live.emit 0x24 0x1101 7).turn 0) .host 0x1181 1 ∧
    Accepts (live.turn 0) .host 0x1180 4 [1] ∧
    (full.emit 0x24 0x1101 7).evLost = 2 ∧ (full.emit 0x24 0x1101 7).evq.length = 64 := by decide +kernel

theorem wit_ObjectStoreReadsBackWhatWasWritten :
    (objFind 0x1101 7).isSome = true ∧
    kvSorted live.objs = true ∧ kvSorted live.rr.objs = true ∧
    (7 < 256 ∧ 8 < 256) ∧ ((0x1101, 8) : Nat × Nat) ≠ (0x1101, 7) ∧
    (objFind 0x1101 7).map (·.dflt) = some (State.reset.obj 0x1101 7) ∧
    (live.setObj 0x1101 7 9).obj 0x1101 7 = 9 := by decide +kernel

theorem wit_StopAndStartRequestsMoveUnits :
    let u := live.turn 0
    Accepts u .host (baseOf 0x0B) 8 [1] ∧
    (unitFind 0x0B ≠ none ∧ ∀ v ∈ unitAll 0x0B, unstoppable v = false) ∧
    (Accepts u .host (baseOf 8) 8 [1] ∧ unitFind 8 ≠ none ∧ (∀ v ∈ unitAll 8, unstoppable v = false) ∧ u.rr.lifecycle = lcFactory) ∧
    (∃ v ∈ unitAll 0x0B, isGroup v = false ∧ u.ownState v ≠ stOff ∧ u.ownState v ≠ stFailed) ∧
    told .host (after (.unitStop 0 .host 0x0B) live) = some abOk ∧
    (after (.unitStop 0 .host 0x0B) live).ownState 0x0B = stStopped := by decide +kernel

theorem wit_StopAndStartRequestsMoveUnits_start :
    let s := after (.unitStop 0 .host 3) live
    let u := s.turn 0
    Accepts u .host (baseOf 3) 8 [2] ∧
    unitFind 3 ≠ none ∧ unitFind (unitParent 3) ≠ none ∧ u.unitState (unitParent 3) ≠ stStopped ∧
    (after (.unitStart 0 .host 3) s).ownState 3 = stStarting := by decide +kernel

theorem wit_StopAndStartRequestsMoveUnits_parent :
    let s := after (.unitStop 0 .host 4) live
    let p := ([0,1,2,3,4,5,6,7,8,9,10,11,12,13,14,15,16,17,18,0x1B,0x1C,0x1D,0x20,0x25,0x26,0x27,0x28,0x29,0x2A,0x2B,0x2C,0x2D,0x2E]).filter (fun v => (s.turn 0).unitState (unitParent v) == stStopped)
    (∃ v ∈ p, Accepts (s.turn 0) .host (baseOf v) 8 [2] ∧ unitFind v ≠ none ∧ unitFind (unitParent v) ≠ none) := by decide +kernel

theorem wit_UnstoppableUnitsDenyTheStop :
    let u := (inSession live 2).turn 0
    ([0x00, 0x01, 0x20, 0x21, 0x22, 0x0C, 0x0D, 0x11, 0x35, 0x36, 0x37, 0x24, 0x12].all fun v => decide (Asks u can3 ∧ u.dictDown can3 (baseOf v) = abOk ∧ u.dictDown .host (baseOf v) = abOk)) = true ∧
    Asks u .host ∧ (u.ctx can3).st = 2 ∧ (u.ctx can3).revoked = false ∧ (u.ctx .host).revoked = false := by decide +kernel

theorem wit_StartUpWaitsForWhatAUnitDependsOn :
    let u := live.turn 0
    u.powered = true ∧ u.ownState 0x22 ≠ stStarting ∧ (State.reset.turn 0).powered = false ∧
    (let w := ({ live with us := [(3, stStarting)] } : State).turn 0; ∃ v ∈ startAfter 3, w.unitState v ≠ stRunning ∧ w.unitState v ≠ stDegraded) ∧
    ([0x22, 0x23, 0x24, 0x07, 0x31, 0x34, 0x20, 0x06].all fun uid => (({ live with us := kvPut live.us uid stStarting } : State).turn 0).mayStart uid) = true := by decide +kernel

theorem wit_RequestQueueAndFirewall :
    let m : MacWait := { row := none, was := 0, reply := [], bin := 0, gain := 0, queued := true }
    let s : State := { live with cx := { live.cx with macs := [m] } }
    let u := s.turn 0
    u.powered = true ∧ u.trustKeys = true ∧ u.cx.macs.any (·.service) = false ∧ u.cx.macs.find? (·.queued) = some m ∧
    mayWrite .trustPair .trust = true ∧ mayWrite .capture .trust = false ∧
    (after (.trustRequestServed 0) s).cx.macs.map (·.service) = [true] := by decide +kernel

/-- A request frame of the host: the words before the CRC, and their CRC (R50). -/
def framed (l : List Word) : List Word := l ++ [hostCrc l]

/-- A read request of tag 7. -/
def readFrame (ix sub : Nat) : List Word := framed [0x1007, BitVec.ofNat 16 ix, BitVec.ofNat 16 (256 * sub), 0, 0]

/-- A write request of tag 8, in one piece. -/
def writeFrame (ix sub : Nat) (data : Bytes) : List Word :=
  framed ([0x2008, BitVec.ofNat 16 ix, BitVec.ofNat 16 (256 * sub), BitVec.ofNat 16 data.length, 0, 0, 0, BitVec.ofNat 16 data.length] ++ hostWords data)

theorem wit_HostTransactionsShiftStatusAndWords :
    let s : State := { live with host := { live.host with resp := [1, 2, 3], avail := true, busy := true } }
    (live.turn 0).powered = true ∧ (live.turn 0).host.avail = false ∧
    hostOp [0x0001, 5] = 0 ∧ 5 ≤ hostOp [0x5001] ∧ hostOp [0x3000, 0, 0, 0] = 3 ∧ hostOp [0x3000, 0] = 3 ∧ hostOp [0x4002, 0, 0] = 4 ∧
    (s.turn 0).powered = true ∧ (s.turn 0).host.avail = true ∧ (s.turn 0).host.resp.length ≤ 3 ∧ 1 < (s.turn 0).host.resp.length ∧
    (after (.response 0 [0x3000, 0, 0, 0]) s).host.miso.drop 1 = [1, 2, 3] ∧ (after (.response 0 [0x3000, 0]) s).host.avail = true := by decide +kernel

theorem wit_RequestFramesAreAcceptedOrDiscarded :
    let r := readFrame 0x1002 1
    let w := writeFrame 0x1180 4 [1]
    let u := live.turn 0
    let v := u.fastFlags.hostBegin r
    u.powered = true ∧ hostOp r = 1 ∧ hostOp w = 2 ∧
    v.hostReady = true ∧ v.frameWords r ≤ r.length ∧ hostCrc (r.take (v.frameWords r - 1)) = nth 0 r (v.frameWords r - 1) ∧
    v.host.lastReq ≠ r.take (v.frameWords r) ∧ v.host.lastReq = [] ∧
    (r.dropLast).length < (u.fastFlags.hostBegin r.dropLast).frameWords r.dropLast ∧
    (u.fastFlags.hostBegin w).hostReady = true ∧ (u.fastFlags.hostBegin w).frameWords w = w.length ∧
    (after (.reqRead 0 r) live).host.resp[1]? = some 0 ∧ (after (.reqWrite 0 w) live).settle.host.resp[1]? = some 0 := by decide +kernel

theorem wit_RequestFramesAreAcceptedOrDiscarded_again :
    let r := readFrame 0x1002 1
    let s := after (.response 0 (0x3000 :: List.replicate 40 0)) (after (.reqRead 0 r) live)
    let bad : List Word := r.dropLast ++ [r.getLastD 0 + 1]
    let other := framed [0x1007, 0x1002, 0x0200, 0, 0]
    let v := (s.turn 0).fastFlags.hostBegin r
    v.hostReady = true ∧ v.host.lastReq = r.take (v.frameWords r) ∧ v.host.lastReq ≠ [] ∧
    hostCrc (bad.take 5) ≠ nth 0 bad 5 ∧
    v.host.lastReq ≠ other ∧ wordAt v.host.lastReq 0 % 256 = wordAt other 0 % 256 ∧
    wordAt v.host.lastReq 0 % 256 ≠ wordAt (writeFrame 0x1180 4 [1]) 0 % 256 ∧
    ((after (.reqRead 0 r) live).hostReady = false ∨ ((after (.reqRead 0 r) live).turn 0).host.avail = true) ∧
    (after (.reqRead 0 other) s).host.resp[1]? = some (BitVec.ofNat 16 abSequence) ∧
    (after (.reqRead 0 bad) s).host.crcErr = true ∧
    (after (.reqRead 0 r) s).host.repeated = 1 := by decide +kernel

theorem wit_HostReadsAndWritesOfWholeObjects :
    let x := live.ctx .host
    let r := readFrame 0x1002 1
    let q := live.readObject .host 0x1002 1
    let good := writeFrame 0x1201 1 [4]
    let bad := writeFrame 0x1201 1 [1, 2, 3, 4, 5]
    let pers := writeFrame 0x1101 7 [9, 0]
    x.tagged = false ∧ x = { x with stage := none, readSnap := none } ∧
    hostOp r = 1 ∧ wideAt r 3 = 0 ∧ live.checkAccess .host false 0x1002 1 0 = abOk ∧ q.2 = (abOk, q.2.2) ∧ q.2.2.length ≤ live.window ∧ q.2.2.length < 65536 ∧
    live.checkAccess .host false 0x9999 1 0 ≠ abOk ∧
    hostOp bad = 2 ∧ wideAt bad 5 = 0 ∧ wordAt bad 7 = wideAt bad 3 ∧ 8 + (wordAt bad 7 + 1) / 2 < bad.length ∧ live.pieceCause bad [1, 2, 3, 4, 5] ≠ abOk := by decide +kernel

theorem wit_HostReadsAndWritesOfWholeObjects_write :
    let good := writeFrame 0x5010 2 [7, 0]
    let pers := writeFrame 0x1101 7 [9, 0]
    (hostOp good = 2 ∧ wideAt good 5 = 0 ∧ wordAt good 7 = wideAt good 3 ∧ 8 + (wordAt good 7 + 1) / 2 < good.length ∧
    live.pieceCause good [7, 0] = abOk ∧ valueOk 0x5010 2 7 = true ∧ (objFind 0x5010 2).map (·.pers) = some false ∧
    hostOp pers = 2 ∧ wideAt pers 5 = 0 ∧ wordAt pers 7 = wideAt pers 3 ∧ 8 + (wordAt pers 7 + 1) / 2 < pers.length ∧
    live.pieceCause pers [9, 0] = abOk ∧ valueOk 0x1101 7 9 = true ∧ (objFind 0x1101 7).map (·.pers) = some true) ∧
    wayOf .host 0x5010 2 [7, 0] = plainWay .host 0x5010 2 [7, 0] ∧
    wayOf .host 0x1101 7 [9, 0] = plainWay .host 0x1101 7 [9, 0] :=
  ⟨by decide +kernel, rfl, rfl⟩

theorem wit_PersistentWritesCommitOrAreFenced :
    let u := live.turn 0
    let x : Commit := { c := .host, key := 0x110107, data := [9, 0], at_ := 0, work := 0 }
    let s : State := { live with dict := { live.dict with commits := [x] } }
    let f : State := { s with nv := { s.nv with fence := some { since := 0, first := 0, mask := 1, low := 700 } } }
    (Accepts u .host 0x1101 7 [9, 0] ∧ (objFind 0x1101 7).map (·.pers) = some true ∧
    Accepts u .host 0x5010 2 [7, 0] ∧ (objFind 0x5010 2).map (·.pers) = some false ∧
    (s.turn 0).dict.commits.find? (fun y => y.c == .host) = some x ∧ (s.turn 0).powered = true ∧ (s.turn 0).fenced = false ∧
    (f.turn 0).fenced = true ∧ (f.turn 0).dict.commits.find? (fun y => y.c == .host) = some x ∧ (f.turn 0).powered = true ∧
    (f.turn 0).now < x.at_ + 100000000 ∧ x.at_ + 100000000 ≤ (f.turn 100000000).now ∧ (f.turn 100000000).fenced = true ∧
    told .host (after (.nvFenced 100000000 .host) f) = some abFenced ∧
    (after (.persistentCommit 0 .host) s).obj 0x1101 7 = 9 ∧ (after (.persistentCommit 0 .host) f).obj 0x1101 7 = 30) ∧
    wayOf .host 0x1101 7 [9, 0] = plainWay .host 0x1101 7 [9, 0] ∧
    wayOf .host 0x5010 2 [7, 0] = plainWay .host 0x5010 2 [7, 0] :=
  ⟨by decide +kernel, rfl, rfl⟩

/-- The host pairing key of a part that holds one, with random bytes in channel 2 and in a role opening. -/
def paired : State := { live with
  rr := { live.rr with slots := kvPut live.rr.slots 1 { ty := 1, usage := 0x10, pers := true, gen := 1, key := List.replicate 16 7 } },
  rng := { live.rng with bufs := (List.range 8).map (fun n => List.replicate 64 (byte n)) } }

/-- A part on whose channel 3 of bus 0 an opening of role H is under way, with the proof that ends it. -/
def opening : State := paired.setCtx { paired.ctx can3 with st := 1, role := roleH, devNonce := List.replicate 16 3, cliNonce := List.replicate 16 4, openedAt := 0 }
def goodProof : Bytes := padTo 96 (cmac (opening.slot 1).key (opening.ctx can3).proofMessage)

theorem wit_RoleSessionsOpenWithAProof :
    let u := paired.turn 0
    Accepts u can3 0x1110 1 (leBytes 1 roleF) ∧ ({ paired with rr := { paired.rr with lifecycle := 3 } } : State).rr.lifecycle ≠ lcFactory ∧
    Accepts (({ paired with rr := { paired.rr with lifecycle := 3 } } : State).turn 0) can3 0x1110 1 (leBytes 1 roleF) ∧
    Accepts u can3 0x1110 1 [1] ∧ (u.ctx can3).st ≠ 2 ∧ (u.ctx can3).holdUntil ≤ u.now ∧ u.sessionsOpen < 32 ∧ u.trustLost = false ∧ u.rngStopped 2 = false ∧
    u.rngWaits 2 16 = false ∧
    Accepts u can3 0x1110 7 goodProof ∧ (u.ctx can3).st ≠ 1 ∧
    ((after (.role 0 can3 1) paired).ctx can3).devNonce = List.replicate 16 2 := by decide +kernel

theorem wit_RoleSessionsOpenWithAProof_proof :
    let u := opening.turn 0
    let w := opening.turn 10000000001
    Accepts u can3 0x1110 7 goodProof ∧ (u.ctx can3).st = 1 ∧ u.now ≤ (u.ctx can3).openedAt + 10000000000 ∧ (u.ctx can3).role = roleH ∧
    u.cipherOk = true ∧ u.trustLost = false ∧ (u.slot 1).ty ≠ 0 ∧ u.sessionsOpen < 32 ∧ u.freeRow ≠ none ∧
    u.slot 1 = opening.slot 1 ∧ u.ctx can3 = opening.ctx can3 ∧
    Accepts w can3 0x1110 7 goodProof ∧ (w.ctx can3).st = 1 ∧ (w.ctx can3).openedAt + 10000000000 < w.now := by decide +kernel

/-- The proof that verifies. -/
theorem wit_RoleSessionsOpenWithAProof_good :
  goodProof = padTo 96 (cmac ((opening.turn 0).slot 1).key ((opening.turn 0).ctx can3).proofMessage) := by
  have h : (opening.turn 0).slot 1 = opening.slot 1 ∧ (opening.turn 0).ctx can3 = opening.ctx can3 := by decide +kernel
  rw [h.1, h.2, goodProof]

/-- A proof that does not verify. -/
theorem wit_RoleSessionsOpenWithAProof_bad : ∃ p, Accepts (opening.turn 0) can3 0x1110 7 p ∧ p ≠ goodProof := by
  by_cases h : goodProof = List.replicate 96 0
  · exact ⟨List.replicate 96 1, by decide +kernel, by rw [h]; decide⟩
  · exact ⟨List.replicate 96 0, by decide +kernel, fun e => h e.symm⟩

theorem wit_SessionsEndAndTimeOut :
    let o : State := live.setCtx { live.ctx can3 with st := 1, role := 1, openedAt := 0 }
    let s := inSession live roleH
    let h : State := live.setCtx { live.ctx can3 with holdUntil := 2000000000 }
    (o.turn 0).powered = true ∧ ((o.turn 0).ctx can3).st = 1 ∧ (o.turn 9999999999).now < ((o.turn 9999999999).ctx can3).openedAt + 10000000000 ∧
    ((o.turn 10000000000).ctx can3).openedAt + 10000000000 ≤ (o.turn 10000000000).now ∧
    Accepts (s.turn 0) can3 0x1110 8 [1] ∧ ((s.turn 0).ctx can3).st = 2 ∧ (s.turn 0).evq.length < 64 ∧
    (s.turn 29999999999).now < ((s.turn 29999999999).ctx can3).lastUse + (s.turn 29999999999).idleLimit can3 * 1000000000 ∧
    ((s.turn 30000000000).ctx can3).lastUse + (s.turn 30000000000).idleLimit can3 * 1000000000 ≤ (s.turn 30000000000).now ∧
    ((h.turn 2000000000).ctx can3).holdUntil ≤ (h.turn 2000000000).now ∧ (h.turn 1999999999).now < ((h.turn 1999999999).ctx can3).holdUntil ∧
    ((after (.sessionIdleTimeout 30000000000 can3) s).ctx can3).st = 0 := by decide +kernel

theorem wit_FastMapAppliesWholeOrNotAtAll :
    let g := (live.setObj 0x5020 1 0x11010700).setObj 0x5020 32 0x11010700
    let b := live.setObj 0x5020 1 0x99990100
    let ok := fun (u : State) => (List.range 32).filter (fun k => u.obj 0x5020 (k + 1) != 0)
    (Accepts (g.turn 0) .host 0x5021 1 [1] ∧ ok (g.turn 0) = [0, 31] ∧ (∀ k ∈ ok (g.turn 0), (g.turn 0).fastBad k = false)) ∧
    2 + ((ok (g.turn 0)).map (fun k => slotWords ((g.turn 0).obj 0x5020 (k + 1) / 256 % 2 ^ 24))).sum ≤ 254 ∧
    (Accepts (b.turn 0) .host 0x5021 1 [1] ∧ (∃ k ∈ ok (b.turn 0), (b.turn 0).fastBad k = true) ∧ (b.turn 0).refused.contains 0x5020 = false) ∧
    (after (.applyFastMap 0 .host) g).host.newData = 1 + 2 ^ 31 := by decide +kernel

theorem wit_StreamsAndSnapshotsTimeOut :
    let st : Stream := { c := .host, data := [1], last := 0 }
    let s : State := ({ live with dict := { live.dict with stream := some st } } : State).setCtx { live.ctx .host with readSnap := some { key := 0x210001, data := [], last := 0 } }
    (s.turn 0).powered = true ∧ (s.turn 0).dict.stream = some st ∧ ((s.turn 0).ctx .host).readSnap.isSome = true ∧ (live.turn 0).dict.stream = none ∧
    (s.turn 9999999999).now < st.last + (s.turn 9999999999).obj 0x5010 2 * 1000000000 ∧
    st.last + (s.turn 10000000000).obj 0x5010 2 * 1000000000 ≤ (s.turn 10000000000).now ∧ ((live.turn 0).ctx .host).readSnap = none ∧
    (after (.streamIdleTimeout 10000000000) s).dict.stream = none ∧ (after (.readSnapshotTimeout 10000000000 .host) s).ctx .host = { (s.ctx .host) with readSnap := none } := by decide +kernel

/-- A part on whose channel 3 of bus 0 a session of H is open and whose first CAN controller runs. -/
def ses : State := let s := inSession live roleH; { s with can0 := { s.can0 with st := 2 } }

/-- The same with a transfer in progress. -/
def mid (t : Xfer) : State := ses.setCtx { ses.ctx can3 with xfer := some t }

/-- A transfer of 0x2810:01 or another object over classical frames. -/
def xf (kind : XferKind) (k total : Nat) (data : Bytes) : Xfer := { kind := kind, key := k, total := total, data := data }

theorem wit_BdpFramesReachTheirChannel :
    let u := ses.turn 0
    let fr : Bytes := [0x22, 0x01, 0x11, 0x07, 9, 0, 0, 0]
    let f : CanFrame := { id := 0x6C3, dlc := 8, data := fr }
    let w := ((((u.canDeliver 0 f false).requestFrame 0 f).engineFrame f).bellRx 0 f).bdpConfig 0
    (([0x80, 0x00, 0x20, 0x24, 0x28, 0x40, 0x48, 0x60, 0x68, 0x6C, 0xA0].map fun b => u.bdpKind 0 3 [b]) =
  [.abort, .segment, .expedited, .segWrite, .blkWrite, .read, .blkRead, .readRequest, .readAck, .readEndAck, .writeEnd]) ∧
    ((mid (xf .blkWrite 0x281001 16384 [])).turn 0).blockPhase 0 3 = true ∧ ((mid (xf .blkWrite 0x281001 16384 [])).turn 0).bdpKind 0 3 [0x81] = .blockSegment ∧
    u.powered = true ∧ dlcBytes false (dlcFor fr.length) = fr.length ∧ u.canHears 0 = true ∧ w.powered = true ∧ (u.bdpConfig 0).bdpConf 0 2 + 3 = 0x6C3 ∧
    w.bdpConf 0 2 + 3 = 0x6C3 ∧ bit (w.bdpConf 0 1) 0 = true := by decide +kernel

theorem wit_BdpWritesStageSegmentsInOrder :
    let b := ses.bdpTouch can3
    let seg : Bytes := [0x24, 0x10, 0x28, 0x01, 0x00, 0x40, 0, 0]
    let blk : Bytes := [0x28, 0x10, 0x28, 0x01, 0x00, 0x40, 0, 0]
    let bad : Bytes := [0x24, 0x10, 0x28, 0x02, 0x00, 0x40, 0, 0]
    let full : State := ses.setCtx { ses.ctx .host with stage := some { key := 0x341102, total := 65536, data := [] } }
    ses.bdpForm 0 seg false false = true ∧ (b.ctx can3).xfer = none ∧ ses.bdpKind 0 3 seg = .segWrite ∧ ses.bdpKind 0 3 blk = .blkWrite ∧
    b.checkForm can3 0x2810 1 0 16384 = abOk ∧ b.stagingFull can3 16384 = false ∧ b.checkForm can3 0x2810 2 0 16384 ≠ abOk ∧
    (full.bdpTouch can3).checkForm can3 0x2810 1 0 16384 = abOk ∧ (full.bdpTouch can3).stagingFull can3 16384 = true ∧
    ((ses.bdpFrame 0 3 seg false).ctx can3).xfer.map (·.total) = some 16384 := by decide +kernel

theorem wit_BdpWritesStageSegmentsInOrder_expedited :
    let fr : Bytes := [0x22, 0x01, 0x11, 0x07, 9, 0, 0, 0]
    let w := (inSession ses 2).bdpTouch can3
    let b := ses.bdpTouch can3
    ses.bdpForm 0 fr false false = true ∧ ses.bdpKind 0 3 fr = .expedited ∧ b.checkForm can3 0x1101 7 9 2 = abOk ∧ (b.ctx can3).st = 2 ∧
    (b.ctx can3).role = roleH ∧ valueOk 0x1101 7 9 = true ∧ (b.ctx can3).xfer = none ∧
    w.checkForm can3 0x1101 7 9 2 = abOk ∧ (w.ctx can3).role ≠ roleH ∧
    (((inSession ses 2).bdpFrame 0 3 fr false).ctx can3).reply.map (·.abort) = some abAuthReq := by decide +kernel

theorem wit_BdpWritesStageSegmentsInOrder_segment :
    let t := xf .segWrite 0x281001 16384 []
    let e := xf .segWrite 0x110107 2 []
    let v := mid t
    let fr : Bytes := [0x00, 1, 2, 3, 4, 5, 6, 7]
    let odd : Bytes := [0x10, 1, 2, 3, 4, 5, 6, 7]
    let short : Bytes := [0x03, 1, 2, 3, 4, 5, 6, 7]
    let lst : Bytes := [0x0B, 9, 0, 0, 0, 0, 0, 0]
    v.bdpForm 0 fr false true = true ∧ ((v.bdpTouch can3).ctx can3).xfer = some t ∧ v.bdpKind 0 3 fr = .segment ∧ bit 0x10 4 ≠ t.toggle ∧ bit 0 4 = t.toggle ∧
    t.ended = false ∧ segFits t (bit 0 0) 8 = true ∧ 0 / 2 % 8 = 0 ∧ segFits t (bit 3 0) 8 = false ∧
    segFits e (bit 11 0) 8 = true ∧ 11 / 2 % 8 = 7 - (e.total - e.data.length) ∧ (((mid e).bdpTouch can3).ctx can3).xfer = some e ∧
    ((v.bdpFrame 0 3 fr false).ctx can3).xfer.map (·.data) = some [1, 2, 3, 4, 5, 6, 7] ∧
    ((v.bdpFrame 0 3 odd false).ctx can3).reply.map (·.abort) = some abSequence := by decide +kernel

theorem wit_BdpWritesStageSegmentsInOrder_block :
    let t : Xfer := { xf .blkWrite 0x281001 16384 [] with blk := 127 }
    let v := mid t
    let fr : Bytes := [0x01, 1, 2, 3, 4, 5, 6, 7]
    let gap : Bytes := [0x02, 1, 2, 3, 4, 5, 6, 7]
    let wrong : Bytes := [0x81, 1, 2, 3, 4, 5, 6, 7]
    let one : Xfer := { xf .blkWrite 0x281001 16384 [] with blk := 1 }
    v.bdpForm 0 fr false true = true ∧ ((v.bdpTouch can3).ctx can3).xfer = some t ∧ v.bdpKind 0 3 fr = .blockSegment ∧
    0x01 % 128 = t.seq + 1 ∧ segFits t (bit 0x01 7) 8 = true ∧ segFits t (bit 0x81 7) 8 = false ∧ 0x02 % 128 ≠ t.seq + 1 ∧ bit 0x02 7 = false ∧ 0x02 % 128 ≠ t.blk ∧
    (((mid one).bdpTouch can3).ctx can3 = (mid one).ctx can3 ∨ 0x01 % 128 = one.blk) ∧
    ((v.bdpFrame 0 3 fr false).ctx can3).xfer.map (fun x => (x.data.length, x.seq)) = some (7, 1) ∧
    (((mid one).bdpFrame 0 3 fr false).ctx can3).xfer.map (fun x => (x.seq, x.blk)) = some (0, 127) := by decide +kernel

theorem wit_BdpWritesCommitAfterTheirTag :
    let t : Xfer := { xf .segWrite 0x110107 2 [9, 0] with ended := true }
    let v := mid t
    let b := v.bdpTouch can3
    let tag := ((b.ctx can3).tagOver 1 0x1101 7 [9, 0]).take 7
    let good : Bytes := 0xA5 :: tag
    let bad : Bytes := 0xA5 :: List.replicate 7 0
    let short : Bytes := 0xA4 :: tag
    let ab : Bytes := [0x80, 0x01, 0x11, 0x07, 0, 0, 0, 0]
    v.bdpForm 0 good false false = true ∧ (b.ctx can3).xfer = some t ∧ v.bdpKind 0 3 good = .writeEnd ∧ 0xA4 % 8 ≠ unusedOf false 2 ∧ 0xA5 % 8 = unusedOf false 2 ∧
    b.tagDown can3 0x1101 = false ∧ (b.ctx can3).tagged = true ∧ tag = slice 1 7 good ∧ tag ≠ slice 1 7 bad ∧ b.valueCause can3 0x1101 7 9 = abOk ∧
    v.bdpKind 0 3 ab = .abort ∧
    (v.bdpFrame 0 3 good false).dict.commits.map (·.key) = [0x110107] ∧ (v.bdpFrame 0 3 bad false).dict.commits = [] := by decide +kernel

theorem wit_BdpReadsSendTheValueRead :
    let b := ses.bdpTouch can3
    let small : Bytes := [0x40, 0x01, 0x11, 0x07, 0, 0, 0, 0]
    let big : Bytes := [0x40, 0x02, 0x10, 0x01, 0, 0, 0, 0]
    let blk : Bytes := [0x48, 0x10, 0x28, 0x01, 127, 0, 0, 0]
    let none_ : Bytes := [0x40, 0x99, 0x99, 0x01, 0, 0, 0, 0]
    ses.bdpForm 0 small false false = true ∧ (b.ctx can3).xfer = none ∧ ses.bdpKind 0 3 small = .read ∧ ses.bdpKind 0 3 blk = .blkRead ∧
    b.checkAccess can3 false 0x9999 1 0 ≠ abOk ∧ b.checkAccess can3 false 0x1101 7 0 = abOk ∧ (b.bdpValue can3 0x1101 7).2 = (abOk, [30, 0]) ∧
    b.checkAccess can3 false 0x2810 1 0 = abOk ∧ (b.bdpValue can3 0x2810 1).2.1 = abOk ∧ (b.bdpValue can3 0x2810 1).2.2.length = 16384 ∧ b.tagDown can3 0x2810 = false ∧
    ((ses.bdpFrame 0 3 small false).can0.queue.map (·.fr.data)) = [[0x42, 0x01, 0x11, 0x07, 30, 0, 0, 0]] := by decide +kernel

theorem wit_BdpReadsSendTheValueRead_segment :
    let t := xf .segRead 0x281001 9 [1, 2, 3, 4, 5, 6, 7, 8, 9]
    let t2 : Xfer := { t with done := 7, toggle := true }
    let fr : Bytes := [0x60, 0, 0, 0, 0, 0, 0, 0]
    let fr2 : Bytes := [0x70, 0, 0, 0, 0, 0, 0, 0]
    (mid t).bdpForm 0 fr false false = true ∧ (((mid t).bdpTouch can3).ctx can3).xfer = some t ∧ (mid t).bdpKind 0 3 fr = .readRequest ∧
    bit 0x60 4 = t.toggle ∧ bit 0x70 4 ≠ t.toggle ∧ bit 0x70 4 = t2.toggle ∧ t2.total ≤ t2.done + segBytes false ∧ ¬ t.total ≤ t.done + segBytes false ∧
    ((mid t).bdpFrame 0 3 fr false).can0.queue.map (·.fr.data) = [[0x00, 1, 2, 3, 4, 5, 6, 7]] ∧
    (((mid t2).bdpFrame 0 3 fr2 false).can0.queue.map (·.fr.data)).take 1 = [[0x1B, 8, 9, 0, 0, 0, 0, 0]] := by decide +kernel

theorem wit_BdpReadsSendTheValueRead_block :
    let t : Xfer := { xf .blkRead 0x281001 16 (List.replicate 16 5) with blk := 2, seq := 2 }
    let l : Xfer := { t with done := 14, seq := 1 }
    let e : Xfer := { t with done := 16, ended := true }
    let fr : Bytes := [0x68, 2, 127, 0, 0, 0, 0, 0]
    let one : Bytes := [0x68, 1, 1, 0, 0, 0, 0, 0]
    let fin : Bytes := [0x6C, 0, 0, 0, 0, 0, 0, 0]
    (((mid t).bdpTouch can3).ctx can3).xfer = some t ∧ (mid t).bdpKind 0 3 fr = .readAck ∧ t.ended = false ∧ 2 ≤ t.seq ∧ min t.total (t.done + 2 * segBytes false) < t.total ∧
    (((mid l).bdpTouch can3).ctx can3).xfer = some l ∧ 1 ≤ l.seq ∧ min l.total (l.done + 1 * segBytes false) = l.total ∧
    (((mid e).bdpTouch can3).ctx can3).xfer = some e ∧ (mid e).bdpKind 0 3 fin = .readEndAck ∧ e.ended = true ∧ (((mid t).bdpTouch can3).ctx can3).xfer = some t ∧
    ((mid t).bdpFrame 0 3 fr false).can0.queue.map (·.fr.data) = [[0x81, 5, 5, 0, 0, 0, 0, 0]] ∧
    (((mid e).bdpFrame 0 3 fin false).ctx can3).xfer = none := by decide +kernel

theorem wit_BdpTransfersAreDisplacedAndTimeOut :
    let t := xf .segWrite 0x281001 16384 []
    let fr : Bytes := [0x40, 0x01, 0x11, 0x07, 0, 0, 0, 0]
    let v := mid t
    let w : Xfer := { t with commit := true }
    v.bdpKind 0 3 fr = .read ∧ v.bdpForm 0 fr false false = true ∧ ((v.bdpTouch can3).ctx can3).xfer = some t ∧
    ((ses.turn 0).ctx can3).xfer = none ∧ ((v.turn 0).ctx can3).xfer = some t ∧ (v.turn 999999999).now < t.last + (v.turn 0).bdpConf 0 4 * 1000000 ∧
    t.last + (v.turn 0).bdpConf 0 4 * 1000000 ≤ (v.turn 1000000000).now ∧ (v.turn 0).powered = true ∧ ((mid w).turn 0).ctx can3 = { (v.turn 0).ctx can3 with xfer := some w } ∧
    (after (.transferTimeout 1000000000 0 3) v).dict.segTimeouts = 1 := by decide +kernel

/-- Rooster in a state. -/
def roost (r : Rooster) : State := { live with aon := { live.aon with rooster := r } }

theorem wit_WakesActByCause :
    let p : Poll := { start := 0, ants := 1, presence := false, bits := [] }
    let v : State := { roost { st := 1, poll := some p, muted := true } with aon := { (roost { st := 1, poll := some p, muted := true }).aon with clock := 15000000 } }
    live.inAnswerWindow = false ∧ v.inAnswerWindow = true ∧ v.aon.rooster.poll = some p ∧ p.presence = false ∧ v.aon.rooster.muted = true ∧
    2 ≤ ({ live with aon := { live.aon with mode := 2 } } : State).aon.mode ∧ live.aon.mode = 0 ∧ live.sup.parkStep = 0 ∧ live.powered = true ∧
    (live.wake 3).lf.waiting = 1 ∧ (live.wake 4).lf.waiting = 0 ∧ v.rfOnce.lf.wakes = 0 := by decide +kernel

theorem wit_RoosterPollsOnItsGrid :
    let i := roost { st := 0 }
    let s := roost { st := 1, lastPoll := 0 }
    let b : State := { s with lf := { s.lf with tele := some { start := 0, nonce := [], counter := 0, params := 0, slots := 8, ants := 0, clkRc := false, chan := 5, bits := [] } } }
    (i.turn 0).aon.rooster.st = 0 ∧ (s.turn 149999999).aon.clock < (s.turn 149999999).aon.rooster.lastPoll + pollInterval 1 ∧ (s.turn 150000000).aon.rooster.st = 1 ∧
    (s.turn 150000000).aon.rooster.lastPoll + pollInterval 1 ≤ (s.turn 150000000).aon.clock ∧ (s.turn 150000000).lfSends = true ∧ (s.turn 150000000).lf.tele = none ∧
    (b.turn 150000000).lfSends = true ∧ (b.turn 150000000).lf.tele.isSome = true ∧ (({ s with us := kvPut s.us 3 stStopped } : State).turn 150000000).lfSends = false ∧
    (after (.pollDue 310000000) s).aon.rooster.lastPoll = 300000000 ∧ (after (.pollDue 150000000) s).aon.rooster.polls = 1 ∧
    (after (.pollDue 150000000) b).aon.rooster.skipped = 1 := by decide +kernel

theorem wit_RoosterPollsOnItsGrid_window :
    let p : Poll := { start := 0, ants := 1, presence := false, bits := [] }
    let s := roost { st := 1, poll := some p }
    let m := roost { st := 1, muted := true, hits := 8 }
    (s.turn 14335999).aon.clock < p.start + 14336000 ∧ p.start + 14336000 ≤ (s.turn 14336000).aon.clock ∧ (s.turn 0).aon.rooster.poll = some p ∧
    (s.turn 17335999).aon.clock < p.start + 14336000 + (s.turn 0).obj 0x2030 3 * 1000 ∧ p.start + 14336000 + (s.turn 0).obj 0x2030 3 * 1000 ≤ (s.turn 17336000).aon.clock ∧
    (m.turn 0).aon.rooster.muted = true ∧ (m.turn 3600000000000).aon.rooster.muteAt + 3600000000000 ≤ (m.turn 3600000000000).aon.clock ∧
    (m.turn 3599999999999).aon.clock < (m.turn 0).aon.rooster.muteAt + 3600000000000 ∧ (s.turn 0).aon.rooster.muted = false ∧
    (after (.pollAnswerWindowEnd 17336000) s).aon.rooster.poll = none ∧ (after (.muteEnd 3600000000000) m).aon.rooster.hits = 0 := by decide +kernel

theorem wit_RoosterPhasesFollowTheTimeSinceLock :
    let s := roost { st := 1 }
    let i := roost { st := 0 }
    let late : State := { roost { st := 4 } with aon := { (roost { st := 4 }).aon with clock := 1814400000000000 } }
    let d : State := { roost { st := 2 } with aon := { (roost { st := 2 }).aon with clock := 43200000000000 } }
    (s.turn 600000000000).aon.mode = 0 ∧ (s.turn 600000000000).aon.rooster.st < phaseOf (s.turn 600000000000).sinceLock ∧
    (s.turn 600000000000).sinceLock < (s.turn 0).obj 0x2020 1 * 3600000000000 ∧ phaseOf (s.turn 599999999999).sinceLock ≤ (s.turn 599999999999).aon.rooster.st ∧
    (d.turn 0).aon.rooster.st < phaseOf (d.turn 0).sinceLock ∧ (i.turn 0).aon.rooster.st = 0 ∧ (late.turn 0).aon.mode = 0 ∧ (late.turn 0).aon.rooster.st = 4 ∧
    (late.turn 0).obj 0x2020 1 * 3600000000000 ≤ (late.turn 0).sinceLock ∧ (s.turn 0).sinceLock < (s.turn 0).obj 0x2020 1 * 3600000000000 ∧
    Accepts (s.turn 0) .host 0x2022 2 [1] ∧ Accepts (i.turn 0) .host 0x2022 2 [1] ∧ Accepts (i.turn 0) .host 0x2022 2 [2] ∧ Accepts (late.turn 0) .host 0x2022 2 [2] ∧
    (after (.pollPhase 0) d).aon.rooster.st = 3 ∧ (after (.pollingStopped 0) late).aon.rooster.st = 5 ∧ (after (.stopPolling 0 .host) s).aon.rooster.st = 6 ∧
    (after (.restartPolling 0 .host) late).aon.rooster.st = 1 := by decide +kernel

/-- A part with random bytes in every channel and a demand for a full telegram. -/
def ready : State := { live with
  rng := { live.rng with bufs := (List.range 8).map (fun n => List.replicate 64 (byte n)) }, lf := { live.lf with waiting := 1 },
  phy := { live.phy with origin := some 0, lanes := [{ state := 3 }, { state := 3 }, { state := 3 }, { state := 3 }] } }
/-- A full telegram with n tones sent. -/
def tele (n : Nat) : Telegram := { start := 0, nonce := List.replicate 8 7, counter := 1, params := 1, slots := 8, ants := 0, clkRc := false, chan := 5, bits := [], tones := n }
def telling (n : Nat) : State := { ready with lf := { ready.lf with tele := some (tele n), waiting := 0 } }

theorem wit_FullTelegramsRunToTheirReplyWindow :
    let u := live.turn 0
    let a := (telling 0).turn 40000000
    let b := (telling 6).turn 46000000
    Accepts u .host 0x2022 1 [1] ∧ u.lf.tele = none ∧ u.deferMs = 0 ∧ u.teleMay = false ∧
    (ready.turn 0).teleMay = true ∧ (ready.turn 0).serving 0x20 = true ∧ (ready.turn 0).rngStopped 7 = false ∧ (ready.turn 0).rngWaits 7 8 = false ∧
    a.lf.tele = some (tele 0) ∧ (tele 0).tones < 6 ∧ 40000000 ≤ a.now ∧ ((telling 0).turn 39999999).now < (tele 0).start + 40000000 ∧ b.lf.tele = some (tele 6) ∧
    (tele 6).window = false ∧ 46000000 ≤ b.now ∧ ((telling 6).turn 45999999).now < 46000000 ∧ b.rangingOk = true ∧
    (({ telling 6 with us := kvPut (telling 6).us 0x25 stStopped } : State).turn 46000000).rangingOk = false ∧
    (after (.telegramStart 0) ready).lf.tele.map (·.nonce) = some (List.replicate 8 7) ∧ (after (.replyWindowOpen 46000000) (telling 6)).phy.window = true := by decide +kernel

theorem wit_DriverDiagnosesFindAntennaFaults :
    let hot : State := { live with lf := { live.lf with chips := [{ hot := true }, {}, {}] } }
    let u := live.turn 60000000000
    Accepts (live.turn 0) .host 0x2015 4 [1] ∧ u.powered = true ∧ u.serving 0x03 = true ∧ u.lf.tele = none ∧ u.aon.rooster.poll = none ∧ u.lf.deferDrv = false ∧
    u.lf.lastCheck + 60000000000 ≤ u.now ∧ u.lf.chips.length = 3 ∧ (live.turn 59999999999).now < (live.turn 0).lf.lastCheck + 60000000000 ∧ u.lf.diagAsked = false ∧
    (hot.turn 999999999).now < (hot.turn 0).lf.lastRecheck + 1000000000 ∧ (hot.turn 0).lf.chips.length = 3 ∧ (live.turn 0).lf.chips.any (·.hot) = false ∧
    (hot.turn 1000000000).lf.lastRecheck + 1000000000 ≤ (hot.turn 1000000000).now ∧ (hot.turn 0).lf.chips.any (·.hot) = true ∧ (hot.turn 0).powered = true ∧
    (nth ({} : Chip) (after (.driverStatusRecheck 1000000000 [0x8000, 0x8000, 0x8000]) hot).lf.chips 0).clear = 1 ∧
    ((after (.diagnosisRepeat 60000000000 [0, 0x8000, 0x8000]) live).lf.chips.map (·.absent)) = [false, false, true] := by decide +kernel

/-- A ranging group that awaits its start-up. -/
def phyStart : State := { live with us := kvPut live.us 0x25 stStarting }

theorem wit_RangingGroupStartUp :
    let u := phyStart.turn 0
    let o : FrontEndObs := {}
    let rc : State := { phyStart with sup := { phyStart.sup with rc := true } }
    (live.turn 0).ownState 0x25 ≠ stStarting ∧ u.powered = true ∧ u.ownState 0x25 = stStarting ∧ u.sup.hot = false ∧ u.sup.rc = false ∧ u.sup.pllS = false ∧
    (rc.turn 0).powered = true ∧ (rc.turn 0).ownState 0x25 = stStarting ∧ (rc.turn 0).sup.rc = true ∧ u.sup.serLow = false ∧ u.rngStopped 7 = false ∧ u.sup.srcs = [] ∧
    (o.ids.all fun x => x.toNat / 256 == 0xC5) = true ∧ (o.status.all fun x => bit x.toNat 15 && bit x.toNat 14 && (x.toNat &&& 0x1C00 == 0)) = true ∧
    o.aligned = [true, true, true] ∧ o.inPosition = [true, true, true] ∧ o.ids.length = 3 ∧ o.status.length = 3 ∧
    (after (.rangingStartUp 5 o) phyStart).phy.origin = some 5 ∧ (after (.rangingStartUp 0 o) rc).ownState 0x04 = stFailed := by decide +kernel

/-- No source of Sheepdog is lasting in that state (RangingGroupStartUp). -/
theorem wit_RangingGroupStartUp_sources : ∀ n : Nat, (phyStart.turn 0).lasting n = false := by
  intro n
  have h : (phyStart.turn 0).sup.srcs = [] := by decide +kernel
  unfold State.lasting
  rw [h]
  rfl

theorem wit_LanesGoDownAndComeBack :
    let u := ready.turn 0
    let d : State := { ready with phy := { ready.phy with lanes := [{ state := 3 }, { state := 4 }, { state := 3 }, { state := 3 }], resync := true } }
    let r : State := { ready with phy := { ready.phy with round := true, resync := true } }
    u.laneUp 2 = true ∧ 2 < u.phy.lanes.length ∧ (d.turn 0).laneUp 1 = false ∧ u.powered = true ∧ u.evq.length < 60 ∧ u.sup.rc = false ∧
    (nth ({} : Lane) (d.turn 0).phy.lanes 1).state = 4 ∧ (nth ({} : Lane) u.phy.lanes 1).state ≠ 4 ∧ Accepts u .host 0x2415 2 [1] ∧
    u.phy.resync = false ∧ (d.turn 0).phy.resync = true ∧ (d.turn 0).phy.round = false ∧ (d.turn 0).powered = true ∧ (d.turn 0).sup.rc = false ∧ (r.turn 0).phy.round = true ∧
    (nth ({} : Lane) (after (.laneDown 0 2 (.codeErrors 15)) ready).phy.lanes 2).state = 3 ∧ (nth ({} : Lane) (after (.laneDown 0 2 (.codeErrors 16)) ready).phy.lanes 2).state = 4 ∧
    ((after (.feSync 0 [true, true, false]) d).phy.lanes.map (·.state)).take 3 = [3, 3, 4] ∧ (after (.laneUp 0 1) d).laneUp 1 = true := by decide +kernel

/-- A receive window open, and a reception on lane 1. -/
def hearing : State := { ready with phy := { ready.phy with window := true } }
def receiving : State := { hearing with phy := { hearing.phy with rx := some { lane := 1, phase := 0, at_ := 0 } } }

theorem wit_FramesAreDetectedAndDecoded :
    let u := hearing.turn 0
    let w := receiving.turn 65128
    let f : FrameObs := { sfdB := false, lanes := [], header := [] }
    u.peerListens = false ∧ (ready.turn 0).phy.window = false ∧ (ready.turn 0).peerListens = false ∧ u.rangingOk = true ∧ u.phy.window = true ∧ u.phy.rx = none ∧ u.laneUp 1 = true ∧
    nth 0 u.phy.floors 1 + 48 < 49 ∧ (48 : Int) ≤ nth 0 u.phy.floors 1 + 48 ∧ w.phy.rx = some { lane := 1, phase := 0, at_ := 0 } ∧ 65128 ≤ w.now ∧ w.peerListens = false ∧
    (receiving.turn 65127).now < 65128 ∧ w.phy.rx.isSome = true ∧ w.rangingOk = true ∧ (receiving.turn 65127).peerListens = false ∧
    carrierOk 0 w.phy.chan = true ∧ carrierOk 1000000 w.phy.chan = false ∧
    (after (.preambleDetection 0 1 600 49) hearing).phy.rx.map (·.phase) = some 92 ∧ (after (.preambleDetection 0 1 0 48) hearing).phy.rx = none ∧
    (after (.sfdTimeout 65128) receiving).phy.sfdTimeouts = 1 ∧ (after (.frameDelivery 0 { f with carrier := 1000000 }) receiving).phy.trackLost = 1 := by decide +kernel

/-- Soft decisions of coded bits. -/
def soft (l : List Bool) : List Int := l.map (fun b => if b then -8 else 7)
/-- A header with a chosen CRC error and version, and its payload. -/
def heard (err version : Nat) (p : Bytes) : FrameObs :=
  { sfdB := false, lanes := [], header := soft (convEncode (bitsOf [1, byte (16 * version), byte (err + crc8 [1, byte (16 * version)])])), payload := soft (convEncode (payloadBits p)) }

theorem wit_FramesAreDetectedAndDecoded_payload :
    let h := fun (f : FrameObs) => (headerOf f.header).2
    h { sfdB := false, lanes := [], header := [] } = some 1 ∧ h (heard 0 0 [7]) = some 2 ∧ headerOf (heard 0 1 [7]).header = (1, none) ∧
    payloadOf (heard 0 1 [7]).payload 1 = some [7] ∧ payloadOf [] 1 = none := by decide +kernel

theorem wit_FrontEndsAreReadAndWritten :
    let u := ready.turn 0
    let w : State := { ready with phy := { ready.phy with deferredFe := [feWrite 0 1 2] } }
    let b : State := { w with phy := { w.phy with round := true } }
    u.rangingOk = true ∧ u.phy.window = false ∧ (hearing.turn 0).phy.window = true ∧ u.powered = true ∧
    u.phy.deferredFe = [] ∧ (b.turn 0).phy.round = true ∧ (w.turn 0).phy.round = false ∧ (w.turn 0).phy.window = false ∧ (w.turn 0).phy.deferredFe ≠ [] ∧
    u.ownState 0x28 ≠ stStarting ∧ u.phy.fes.length = 3 ∧ u.phy.lanes.length = 4 ∧ (nth ({} : FrontEnd) u.phy.fes 0).fault = false ∧
    (0xE000 &&& 0x1C00 = 0) ∧ (0xF000 &&& 0x1C00 ≠ 0) ∧
    u.laneUp 1 = true ∧ ((0x2000 : Word).toNat &&& 0x1C00 = 0) ∧ bit (0x2000 : Word).toNat 14 = false ∧
    (after (.noiseMeasurement 0 [-161, -159, 70000]) ready).phy.noiseRun = [0, 1, 1] ∧ (after (.noiseMeasurement 0 [-161, -159, 70000]) ready).phy.floors = [-161, -159, 32767] ∧
    (after (.frontEndStatusRead 0 0 0xF000) ready).phy.lanes.map (·.state) = [5, 3, 3, 5] ∧
    (after (.frontEndStatusRead 0 1 0x2000) ready).phy.lanes.map (·.state) = [3, 4, 3, 3] ∧ (after (.frontEndStatusRead 0 1 0x2000) ready).phy.resync = true := by decide +kernel

/-- A calibration run on channel 9 whose values are given for each lane. -/
def calibrating (made : Nat) (l : List Int) : State :=
  { ready with rr := { ready.rr with objs := kvPut ready.rr.objs 0x260504 4 }, phy := { ready.phy with cal := some { row := 0, chan := 9, made := made, tofs := [l, l, l], phases := [l, l] }, calStatus := 1 } }

theorem wit_CalibrationWritesAllOrNothing :
    let n := inSession ready 2
    let s : State := { n with cx := { n.cx with rows := [(0, { st := 3, id := [] })] } }
    let u := (calibrating 4 [10, 10]).turn 0
    Accepts (s.turn 0) can3 0x2605 6 [1] ∧ (s.turn 0).phy.cal = none ∧ ((s.turn 0).row ((s.turn 0).obj 0x2605 5)).st = 3 ∧
    ((n.turn 0).row ((n.turn 0).obj 0x2605 5)).st ≠ 3 ∧ Accepts (n.turn 0) can3 0x2605 6 [1] ∧
    (u.phy.cal.map fun q => (q.made, q.chan, q.tofs)) = some (4, 9, [[10, 10], [10, 10], [10, 10]]) ∧ u.obj 0x2605 4 = 4 ∧ u.fenced = false ∧
    ((calibrating 3 []).turn 0).obj 0x2605 4 = 4 ∧ 2 * [10].length < 4 ∧ ¬ 2 * [10, 10].length < 4 ∧ ¬ (64 * 16 * 2) ^ 2 < spread2 [10, 10] ∧ (64 * 16 * 2) ^ 2 < spread2 [0, 2049] ∧
    (after (.calibrationDone 0) (calibrating 4 [10])).phy.calStatus = 3 ∧ (after (.calibrationDone 0) (calibrating 4 [10, 10])).phy.calStatus = 2 := by decide +kernel

/-- A part paired with the token of this ID, with a reply window of 8 slots open and the ID's reply delivered in its slot. -/
def tokenId : Bytes := [1, 2, 3, 4, 5, 6, 7, 8]
def nonce : Bytes := [9, 8, 7, 6, 5, 4, 3, 2]
def epoch : Epoch := { serial := 1, start := 0, nonce := nonce, counter := 5, params := 5, krd := List.replicate 16 1 }
def twin : ReplyWin := { peer := false, start := 0, slots := 8 }
def trusted : State := { ready with
  rr := { ready.rr with vehicleId := 0x1122334455667788, paired := [(0, (tokenId, 1)), (1, ([1, 0, 0, 0, 0, 0, 0, 2], 2)), (2, ([2, 0, 0, 0, 0, 0, 0, 3], 1))]
                        slots := kvPut (kvPut (kvPut ready.rr.slots 8 { ty := 3, usage := 0x10, pers := true, gen := 1, key := List.replicate 32 5 }) 9 { ty := 1, usage := 0x1C, pers := true, gen := 1, key := List.replicate 16 7 }) 12 { ty := 3, usage := 0, pers := true, gen := 1, key := List.replicate 32 9 } }
  cx := { ready.cx with win := some twin, ep := some epoch }, lf := { ready.lf with waiting := 0, tele := some { tele 6 with window := true } } }
/-- A reply of an ID with round counter n and a MAC. -/
def replyOf (id : Bytes) (n : Nat) (mac : Bytes) : Bytes := [0x11, 0x01] ++ id ++ List.replicate 8 6 ++ [byte n, 1] ++ List.replicate 18 100 ++ [0, 0] ++ mac
def goodReply : Bytes :=
  replyOf tokenId 5 (cmac (trusted.tokKey tokenId) (replyMessage trusted.vehicleBytes (trusted.obj 0x2010 1) nonce 5 (replyOf tokenId 5 [])))
/-- A frame delivered in slot k. -/
def inSlot (k : Nat) (p : Bytes) : DFrame := { sfdB := false, payload := p, lanes := [], co := 0, at_ := 0, idx := refChip false + k * 199680 }
def hears (d : DFrame) : State := { trusted with phy := { trusted.phy with delivered := some d } }
def kTok : Nat := replySlot tokenId nonce 8

theorem wit_RepliesPassTheirChecksInOrder :
    let d := inSlot kTok (replyOf tokenId 5 (List.replicate 16 0))
    let u := (hears d).turn 0
    let w := { twin with twice := [kTok] }
    let unk : Bytes := [1, 9, 9, 9, 9, 9, 9, 9]
    (trusted.turn 0).phy.delivered = none ∧ u.phy.delivered = some d ∧ u.cx.win = some twin ∧ u.powered = true ∧ u.serving 0x07 = true ∧
    u.frameSlot twin d = kTok ∧ twin.twice.contains kTok = false ∧ w.twice.contains kTok = true ∧ d.payload.length = 56 ∧ u.epochOf false = some epoch ∧
    (4 : Nat) ≠ epoch.counter ∧ (d.payload.getD 18 0).toNat = epoch.counter ∧ replySlot tokenId nonce 8 = kTok ∧ (kTok + 1) % 8 ≠ kTok ∧
    u.pairEntry unk = none ∧ u.pairEntry [2, 0, 0, 0, 0, 0, 0, 3] = some (2, 1) ∧ idKind [2, 0, 0, 0, 0, 0, 0, 3] ≠ 1 ∧ u.pairEntry [1, 0, 0, 0, 0, 0, 0, 2] = some (1, 2) ∧
    u.pairEntry tokenId = some (0, 1) ∧ twin.valid.contains tokenId = false ∧ ({ twin with valid := [tokenId] } : ReplyWin).valid.contains tokenId = true ∧ u.trustKeys = true ∧
    u.findRow (fun r => r.id == tokenId && (r.st == 1 || r.st == 2 || r.st == 3)) = none ∧ u.freeRow = some 0 ∧
    (after (.reply 0) (hears d)).cx.macs.map (·.row) = [some 0] ∧ (after (.reply 0) (hears { d with payload := replyOf tokenId 4 (List.replicate 16 0) })).cx.invalid = 1 := by decide +kernel

/-- The MAC check of a reply in service, with the row of its ID. -/
def checking (p : Bytes) (rows : List (Nat × Row)) : State :=
  { trusted with cx := { trusted.cx with rows := rows, macs := [{ row := some 0, was := 0, reply := p, bin := 0, gain := 0, queued := true, service := true }] } }
def pendingRow : Row := { st := 2, kind := 1, id := tokenId }

theorem masked (vid : Bytes) (wake : Nat) (mac : Bytes) :
    replyMessage vid wake nonce 5 (replyOf tokenId 5 mac) = replyMessage vid wake nonce 5 (replyOf tokenId 5 []) := by
  have e : replyOf tokenId 5 mac = replyOf tokenId 5 [] ++ mac := by simp [replyOf]
  rw [e]
  exact replyMessage_left _ _ _ _ _ _ (by decide)

theorem mac_of (mac : Bytes) (h : mac.length = 16) : slice 40 16 (replyOf tokenId 5 mac) = mac := by
  have e : replyOf tokenId 5 mac = replyOf tokenId 5 [] ++ mac := by simp [replyOf]
  rw [e]
  exact slice_right _ _ _ _ (by decide) h

/-- The reply's MAC verifies in every state with the same keys, identifier and wake ID. -/
theorem goodReply_verifies (u : State) (k : (u.slot 8).key = (trusted.slot 8).key) (v : u.vehicleBytes = trusted.vehicleBytes)
    (w : u.obj 0x2010 1 = trusted.obj 0x2010 1) :
    cmac (kdf (u.slot 8).key (ascii "CHN-TOKEN") (u.vehicleBytes ++ tokenId) 128) (replyMessage u.vehicleBytes (u.obj 0x2010 1) nonce 5 goodReply) = slice 40 16 goodReply := by
  unfold goodReply
  rw [k, v, w, masked, mac_of _ (cmac_length _ _)]
  rfl

theorem wit_MacChecksStartSessions :
    let s := checking goodReply [(0, pendingRow)]
    let u := s.turn 0
    let e := (checking goodReply []).turn 0
    (live.turn 0).cx.macs = [] ∧ u.powered = true ∧ u.trustKeys = true ∧ (u.cx.macs.map (·.service)) = [true] ∧ u.cx.win = some twin ∧ u.epochOf false = some epoch ∧ u.lf.tele.isSome = true ∧
    (u.slot 8).ty ≠ 0 ∧ (u.slot 8).key = (trusted.slot 8).key ∧ u.vehicleBytes = trusted.vehicleBytes ∧ u.obj 0x2010 1 = trusted.obj 0x2010 1 ∧ idKind tokenId = 1 ∧
    u.isPaired tokenId = true ∧ twin.valid.contains tokenId = false ∧ u.findRow (fun r => r.id == tokenId && (r.st == 1 || r.st == 2 || r.st == 3)) = some 0 ∧
    e.isPaired tokenId = true ∧ (e.sessionRow tokenId).map (·.2) = some 0 := by decide +kernel

/-- Its MAC verifies there. -/
theorem wit_MacChecksStartSessions_good : let u := (checking goodReply [(0, pendingRow)]).turn 0
    cmac (kdf (u.slot 8).key (ascii "CHN-TOKEN") (u.vehicleBytes ++ tokenId) 128) (replyMessage u.vehicleBytes (u.obj 0x2010 1) nonce 5 goodReply) = slice 40 16 goodReply := by
  have h : let u := (checking goodReply [(0, pendingRow)]).turn 0
      (u.slot 8).key = (trusted.slot 8).key ∧ u.vehicleBytes = trusted.vehicleBytes ∧ u.obj 0x2010 1 = trusted.obj 0x2010 1 := by decide +kernel
  exact goodReply_verifies _ h.1 h.2.1 h.2.2

/-- A reply whose MAC does not verify waits for its check. -/
theorem wit_MacChecksStartSessions_bad : ∃ mac : Bytes, let u := (checking (replyOf tokenId 5 mac) [(0, pendingRow)]).turn 0
    u.powered = true ∧ u.trustKeys = true ∧ (u.cx.macs.map (·.service)) = [true] ∧ u.cx.win = some twin ∧ u.epochOf false = some epoch ∧ u.lf.tele.isSome = true ∧
    cmac (kdf (u.slot 8).key (ascii "CHN-TOKEN") (u.vehicleBytes ++ tokenId) 128) (replyMessage u.vehicleBytes (u.obj 0x2010 1) nonce 5 (replyOf tokenId 5 mac)) ≠
      slice 40 16 (replyOf tokenId 5 mac) := by
  have z : let u := (checking (replyOf tokenId 5 (List.replicate 16 0)) [(0, pendingRow)]).turn 0
      u.powered = true ∧ u.trustKeys = true ∧ (u.cx.macs.map (·.service)) = [true] ∧ u.cx.win = some twin ∧ u.epochOf false = some epoch ∧ u.lf.tele.isSome = true ∧
      (u.slot 8).key = (trusted.slot 8).key ∧ u.vehicleBytes = trusted.vehicleBytes ∧ u.obj 0x2010 1 = trusted.obj 0x2010 1 := by decide +kernel
  have o : let u := (checking (replyOf tokenId 5 (List.replicate 16 1)) [(0, pendingRow)]).turn 0
      u.powered = true ∧ u.trustKeys = true ∧ (u.cx.macs.map (·.service)) = [true] ∧ u.cx.win = some twin ∧ u.epochOf false = some epoch ∧ u.lf.tele.isSome = true ∧
      (u.slot 8).key = (trusted.slot 8).key ∧ u.vehicleBytes = trusted.vehicleBytes ∧ u.obj 0x2010 1 = trusted.obj 0x2010 1 := by decide +kernel
  by_cases h : cmac (kdf (trusted.slot 8).key (ascii "CHN-TOKEN") (trusted.vehicleBytes ++ tokenId) 128)
      (replyMessage trusted.vehicleBytes (trusted.obj 0x2010 1) nonce 5 (replyOf tokenId 5 [])) = List.replicate 16 0
  · refine ⟨List.replicate 16 1, ?_⟩
    obtain ⟨a, b, c, d, e, f, g, i, j⟩ := o
    refine ⟨a, b, c, d, e, f, ?_⟩
    rw [g, i, j, masked, mac_of _ (by decide), h]
    decide
  · refine ⟨List.replicate 16 0, ?_⟩
    obtain ⟨a, b, c, d, e, f, g, i, j⟩ := z
    refine ⟨a, b, c, d, e, f, ?_⟩
    rw [g, i, j, masked, mac_of _ (by decide)]
    exact h

/-- A context table with no FREE row and none that may be evicted. -/
def fullTable : State := checking goodReply ((List.range 256).map fun n => (n, { st := 3, kind := 1, id := beBytes 8 (2 ^ 56 + n + 1000), epoch := 1, seen := 0 }))

theorem wit_MacChecksStartSessions_full :
    let f := fullTable.turn 0
    f.sessionRow tokenId = none ∧ f.isPaired tokenId = true ∧ f.cx.macs.length = 1 ∧ f.trustKeys = true ∧ f.powered = true ∧ f.cx.win = some twin ∧
    (f.slot 8).key = (trusted.slot 8).key ∧ f.vehicleBytes = trusted.vehicleBytes ∧ f.obj 0x2010 1 = trusted.obj 0x2010 1 := by decide +kernel

theorem wit_WindowsAndEpochsEnd :
    let a := trusted.turn 3200000
    let due : State := { trusted with cx := { trusted.cx with ep := some { epoch with due := some 5000000 } } }
    let pw : State := { trusted with cx := { trusted.cx with ep := none, pep := some epoch, win := some { twin with peer := true, det := [(1, 5), (2, 6)], good := [1] } } }
    (live.turn 0).cx.win = none ∧ (live.turn 0).lf.tele = none ∧ a.cx.win = some twin ∧ (trusted.turn 3199999).now < 3200000 ∧ 3200000 ≤ a.now ∧
    a.epochOf false = some epoch ∧ epoch.due = none ∧ epoch.next = 0 ∧ ((due.turn 0).epochOf false).any (fun e => e.due.isSome) = true ∧ (due.turn 0).cx.win = some twin ∧
    (pw.turn 3200000).cx.win = some { twin with peer := true, det := [(1, 5), (2, 6)], good := [1] } ∧ (pw.turn 3200000).epochOf true = some epoch ∧
    a.cx.pep = none ∧ (trusted.turn 29999999999).now < epoch.start + (trusted.turn 0).conf 0x2C03 0x2C03 5 * 10 ^ 9 ∧
    epoch.start + (trusted.turn 0).conf 0x2C03 0x2C03 5 * 10 ^ 9 ≤ (trusted.turn 30000000000).now ∧ Accepts (trusted.turn 0) .host 0x2C08 1 (leBytes 1 255) ∧
    (after (.replyWindowClose 3200000) pw).cx.collided = 1 ∧ (after (.epochEnd 30000000000) trusted).cx.ep = none := by decide +kernel

/-- A token session in row 0, and an epoch whose next round is due. -/
def sessionRow : Row := { st := 3, kind := 1, id := tokenId, handle := 0x1234, epoch := 1, kmac := List.replicate 16 2, krng := List.replicate 16 3 }
def dueAt : Epoch := { epoch with due := some 1000000 }
def roundDue (rows : List (Nat × Row)) : State := { trusted with cx := { trusted.cx with win := none, ep := some dueAt, rows := rows }, lf := { trusted.lf with tele := none } }

theorem wit_RoundsRunInTheirSlots :
    let s := roundDue [(0, sessionRow)]
    let u := s.turn 1000000
    let e := (roundDue []).turn 1000000
    let v := ((u.phySnapshots).cxSnapshot).locSnapshot
    let w := ((e.phySnapshots).cxSnapshot).locSnapshot
    u.cx.ep = some dueAt ∧ u.cx.pep = none ∧ (s.turn 999999).now < 1000000 ∧ 1000000 ≤ u.now ∧ u.cx.round = none ∧ dueAt.krd ≠ [] ∧
    u.rangingOk = true ∧ u.serving 0x07 = true ∧ u.trustKeys = true ∧ v.roundRows false dueAt 1000000 ≠ [] ∧ w.roundRows false dueAt 1000000 = [] ∧ e.rangingOk = true ∧
    (u.cx.coupled = false) ∧ e.cx.ep = some dueAt ∧ e.serving 0x07 = true ∧ e.trustKeys = true ∧
    (after (.roundStart 1000000) s).cx.round.map (fun r => (r.number, r.full, r.ss.length)) = some (0, true, 1) := by decide +kernel

/-- A full round of one session with k slots begun. -/
def theRound (k : Nat) : Round :=
  { peer := false, number := 0, full := true, last := false, start := 0, krd := List.replicate 16 1, gap := 10, epochAt := 0, serial := 1, ants := 0
    ss := [{ row := 0, id := tokenId, handle := 0x1234, cur := { number := 0, t1 := 0 }, prev := none }], begun := k }
def inRound (k : Nat) : State := { roundDue [(0, sessionRow)] with cx := { (roundDue [(0, sessionRow)]).cx with round := some (theRound k) } }

theorem wit_RoundsRunInTheirSlots_slots :
    let c : State := { live with cx := { live.cx with coupled := true, peerId := tokenId } }
    ((inRound 0).turn 0).cx.round = some (theRound 0) ∧ ((inRound 0).turn 0).rangingOk = true ∧ ((inRound 2).turn 799999).now < (theRound 2).start + 2 * 400000 ∧
    ((inRound 2).turn 800000).cx.round = some (theRound 2) ∧ ((inRound 1).turn 400000).rangingOk = true ∧ ((inRound 4).turn 1600000).cx.round = some (theRound 4) ∧
    ((inRound 4).turn 1599999).now < 1600000 ∧ (c.turn 10000000000).cx.coupled = true ∧ 10 ^ 10 ≤ (c.turn 10000000000).now ∧ (c.turn 9999999999).now < (c.turn 0).cx.coupleAt + 10 ^ 10 ∧
    (after (.slotStart 400000) (inRound 1)).phy.window = true ∧ (after (.couplingTimeout 10000000000) c).cx.coupled = false ∧
    (after (.slotStart 800000) (inRound 2)).phy.tx.map (fun f => (f.payload.length, f.idx)) = some (16, 2 * 199680 + 9984) := by decide +kernel

/-- A token's RESP or REPORT with handle h and a correct MAC. -/
def tokenFrame (rep : Bool) (h : Nat) : Bytes :=
  let b : Bytes := [if rep then 0x24 else 0x22, 0xE0, 0, 0, 0, 0] ++ beBytes 2 h ++ [0, 0, 4, 0, 0, 0, 5, 0, 255, 255, 255, 254, 100, 0]
  b ++ (cmac sessionRow.kmac (ascii (if rep then "CHN-REPT" else "CHN-RESP") ++ trusted.vehicleBytes ++ tokenId ++ b)).take 8
/-- The round with k slots begun hears a frame. -/
def slotHears (k : Nat) (p : Bytes) : State := { inRound k with phy := { (inRound k).phy with delivered := some (inSlot 1 p) } }

theorem wit_FramesOfASlotMeetTheirChecks :
    let a := (slotHears 2 (tokenFrame false 0x1234)).turn 0
    let b := (slotHears 4 (tokenFrame true 0x1234)).turn 0
    let l : Listed := { row := 0, id := tokenId, handle := 0x1234, cur := { number := 0, t1 := 0 }, prev := none }
    ((inRound 2).turn 0).phy.delivered = none ∧ a.phy.delivered = some (inSlot 1 (tokenFrame false 0x1234)) ∧ a.cx.round = some (theRound 2) ∧ b.cx.round = some (theRound 4) ∧
    (theRound 2).listening = some (0, false) ∧ (theRound 4).listening = some (0, true) ∧ (theRound 1).listening = none ∧ (theRound 2).ss[0]? = some l ∧
    ((slotHears 1 []).turn 0).cx.round = some (theRound 1) ∧ listedKind [] = false ∧ listedKind (tokenFrame false 0x1234) = true ∧ l.void = false ∧ (a.row 0).st = 3 ∧
    (a.row 0).kmac = sessionRow.kmac ∧ a.vehicleBytes = trusted.vehicleBytes ∧ (b.row 0).kmac = sessionRow.kmac ∧ b.vehicleBytes = trusted.vehicleBytes ∧ ¬ beNat (slice 6 2 (tokenFrame false 0x1235)) = 0x1234 ∧
    (inSlot 1 (tokenFrame false 0x1234)).lanes.any laneFails = false := by decide +kernel

/-- The token's frames match their slots, in every state with the row's key and the identifier. -/
theorem wit_FramesOfASlotMeetTheirChecks_ok (rep : Bool) : let p := tokenFrame rep 0x1234
    (p.getD 0 0).toNat = (if rep then 0x24 else 0x22) ∧ beNat (slice 2 4 p) = 0 ∧ beNat (slice 6 2 p) = 0x1234 ∧
    (cmac sessionRow.kmac (ascii (if rep then "CHN-REPT" else "CHN-RESP") ++ trusted.vehicleBytes ++ tokenId ++ p.take 22)).take 8 = slice 22 8 p := by
  have g : ∀ b m : Bytes, b.length = 22 → m.length = 8 → (b ++ m).take 22 = b ∧ slice 22 8 (b ++ m) = m := fun b m hb hm =>
    ⟨List.take_left' hb, slice_right _ _ _ _ hb hm⟩
  unfold tokenFrame
  dsimp only
  rw [(g _ _ (by cases rep <;> decide) (by rw [List.length_take, cmac_length]; rfl)).1, (g _ _ (by cases rep <;> decide) (by rw [List.length_take, cmac_length]; rfl)).2]
  cases rep <;> exact ⟨by decide, by decide, by decide, rfl⟩

/-- A peer round of one session, over. -/
def overRound (resp : Bool) : Round :=
  { theRound 4 with peer := true, ss := [{ row := 0, id := tokenId, handle := 0x1234, cur := { number := 0, t1 := 0, resp := resp }, prev := none }] }
def overAt (resp : Bool) : State := { roundDue [(0, { sessionRow with missed := 9 })] with cx := { (roundDue [(0, { sessionRow with missed := 9 })]).cx with round := some (overRound resp) } }

theorem wit_RoundsEndWithTheirResults :
    let u := (overAt true).turn 1600000
    let w := (overAt false).turn 1600000
    u.cx.round = some (overRound true) ∧ (overRound true).full = true ∧ (overRound true).ss.length = 1 ∧ 4 ≤ (overRound true).begun ∧ 1600000 ≤ u.now ∧ u.phy.cal = none ∧
    (u.row 0).st = 3 ∧ (u.row 0).id = tokenId ∧ w.cx.round = some (overRound false) ∧ (w.row 0).st = 3 ∧
    ((after (.roundEnd 1600000) (overAt true)).row 0).st = 3 ∧ ((after (.roundEnd 1600000) (overAt false)).row 0).st = 1 := by decide +kernel

/-- A part with a session of role W, whose transport slot 12 holds a key. -/
def paired2 : State := (inSession trusted 2).setObj 0x2C23 2 12
def fresh : Bytes := [1, 7, 7, 7, 7, 7, 7, 7]
/-- A tractor record encrypted under the transport key. -/
def sealed_ (kind rsv : Nat) : Bytes :=
  let p : Bytes := [byte kind, 0, 0, 0, 0, 0, 0, 1] ++ List.replicate 8 4 ++ [byte rsv] ++ List.replicate 7 0 ++ List.replicate 16 5 ++ List.replicate 16 6
  let g := gcmEnc (List.replicate 32 9) (List.replicate 12 1) (ascii "CHN-PAIR") p
  List.replicate 12 1 ++ g.1 ++ g.2

theorem wit_PairingsAndGroupKeysChange :
    let u := paired2.turn 0
    let n := (inSession trusted 2).turn 0
    let full : State := { paired2 with rr := { paired2.rr with paired := (List.range 128).map (fun k => (k, (beBytes 8 (2 ^ 56 + 77 * k), 1))) } }
    u.fenced = false ∧ Accepts u can3 0x2C23 1 fresh ∧ idKind fresh = 1 ∧ idKind (List.replicate 8 3) ≠ 1 ∧ idKind (List.replicate 8 3) ≠ 2 ∧ Accepts u can3 0x2C23 1 (List.replicate 8 3) ∧
    u.rngStopped 6 = false ∧ u.rngWaits 6 (u.pairNeed fresh) = false ∧ u.trustKeys = true ∧ (full.turn 0).entryFor fresh = none ∧ u.entryFor fresh = some 3 ∧
    n.transport = none ∧ n.entryFor fresh = some 3 ∧ Accepts n can3 0x2C23 1 fresh ∧ u.transport = some (List.replicate 32 9) ∧ Accepts (full.turn 0) can3 0x2C23 1 fresh ∧
    kvGet? (after (.pairPartner 0 can3 fresh) paired2).rr.paired 3 = some (fresh, 1) := by decide +kernel

theorem wit_PairingsAndGroupKeysChange_entries :
    let u := paired2.turn 0
    let h := (inSession paired2 roleH).turn 0
    let ret : State := { paired2 with rr := { paired2.rr with slots := kvPut paired2.rr.slots 9 { ty := 0x80, usage := 0, pers := true, gen := 1, key := [] } } }
    Accepts h can3 0x2C22 1 (leBytes 1 1) ∧ h.role can3 = roleH ∧ Accepts u can3 0x2C22 128 (leBytes 1 1) ∧ u.role can3 ≠ roleH ∧ (kvGet (List.replicate 8 0, 0) u.rr.paired 127).2 = 0 ∧
    Accepts h can3 0x2C22 1 (leBytes 1 2) ∧ Accepts u can3 0x2C22 1 (leBytes 1 0) ∧ (kvGet (List.replicate 8 0, 0) u.rr.paired 0).2 = 1 ∧
    Accepts u can3 0x2C23 4 (leBytes 1 1) ∧ u.retired 9 = false ∧ (u.draw 6 16).isSome = true ∧ Accepts u can3 0x2C23 4 (leBytes 1 2) ∧ u.retired 11 = false ∧
    told can3 (after (.entryStatus 0 can3 0 1) (inSession paired2 roleH)) = some abRole ∧ ((after (.rotateGroupKey 0 can3 1) paired2).slot 9).key = List.replicate 16 6 := by decide +kernel

/-- Records that decrypt to each kind of contents, and one that does not decrypt. -/
theorem sealed_opens (kind rsv : Nat) : let d := sealed_ kind rsv
    d.length = 84 ∧ ∃ p, gcmDec (List.replicate 32 9) (d.take 12) (ascii "CHN-PAIR") (slice 12 56 d) (slice 68 16 d) = some p ∧ (idKind p = (byte kind).toNat) ∧
      slice 16 8 p = byte rsv :: List.replicate 7 0 := by
  let p : Bytes := [byte kind, 0, 0, 0, 0, 0, 0, 1] ++ List.replicate 8 4 ++ [byte rsv] ++ List.replicate 7 0 ++ List.replicate 16 5 ++ List.replicate 16 6
  have l : (gcmEnc (List.replicate 32 9) (List.replicate 12 1) (ascii "CHN-PAIR") p).1.length = 56 := by
    show (ctrMode _ _ _ _).length = 56
    rw [ctrMode_length]; rfl
  have m : (gcmEnc (List.replicate 32 9) (List.replicate 12 1) (ascii "CHN-PAIR") p).2.length = 16 := gcmTag_length _ _ _ _
  have e := gcmDec_gcmEnc (List.replicate 32 9) (List.replicate 12 1) (ascii "CHN-PAIR") p
  unfold sealed_
  dsimp only
  change List.length (List.replicate 12 1 ++ (gcmEnc (List.replicate 32 9) (List.replicate 12 1) (ascii "CHN-PAIR") p).1 ++
    (gcmEnc (List.replicate 32 9) (List.replicate 12 1) (ascii "CHN-PAIR") p).2) = 84 ∧ ∃ q, gcmDec (List.replicate 32 9)
    (List.take 12 (List.replicate 12 1 ++ (gcmEnc (List.replicate 32 9) (List.replicate 12 1) (ascii "CHN-PAIR") p).1 ++
      (gcmEnc (List.replicate 32 9) (List.replicate 12 1) (ascii "CHN-PAIR") p).2)) (ascii "CHN-PAIR")
    (slice 12 56 (List.replicate 12 1 ++ (gcmEnc (List.replicate 32 9) (List.replicate 12 1) (ascii "CHN-PAIR") p).1 ++
      (gcmEnc (List.replicate 32 9) (List.replicate 12 1) (ascii "CHN-PAIR") p).2))
    (slice 68 16 (List.replicate 12 1 ++ (gcmEnc (List.replicate 32 9) (List.replicate 12 1) (ascii "CHN-PAIR") p).1 ++
      (gcmEnc (List.replicate 32 9) (List.replicate 12 1) (ascii "CHN-PAIR") p).2)) = some q ∧ idKind q = (byte kind).toNat ∧ slice 16 8 q = byte rsv :: List.replicate 7 0
  generalize (gcmEnc (List.replicate 32 9) (List.replicate 12 1) (ascii "CHN-PAIR") p).1 = c at l e
  generalize (gcmEnc (List.replicate 32 9) (List.replicate 12 1) (ascii "CHN-PAIR") p).2 = t at m e
  have i : (List.replicate 12 (1 : Byte)).length = 12 := rfl
  rw [List.append_assoc, List.take_left' i, show slice 12 56 (List.replicate 12 1 ++ (c ++ t)) = c by
    rw [← List.append_assoc, slice_left _ _ _ _ (by rw [List.length_append, l]; decide), slice_right _ _ _ _ i l],
    show slice 68 16 (List.replicate 12 1 ++ (c ++ t)) = t by rw [← List.append_assoc]; exact slice_right _ _ _ _ (by rw [List.length_append, l]; decide) m]
  exact ⟨by rw [List.length_append, List.length_append, l, m]; rfl, p, e, rfl, rfl⟩

/-- A record that does not decrypt. -/
theorem wit_PairingsAndGroupKeysChange_bad : ∃ d : Bytes, Accepts (paired2.turn 0) can3 0x2C32 4 d ∧ (paired2.turn 0).transport = some (List.replicate 32 9) ∧
    gcmDec (List.replicate 32 9) (d.take 12) (ascii "CHN-PAIR") (slice 12 56 d) (slice 68 16 d) = none := by
  have a : Accepts (paired2.turn 0) can3 0x2C32 4 (List.replicate 84 0) ∧ Accepts (paired2.turn 0) can3 0x2C32 4 (List.replicate 68 0 ++ List.replicate 16 1) ∧
      (paired2.turn 0).transport = some (List.replicate 32 9) := by decide +kernel
  by_cases h : (gcmTag (List.replicate 32 9) (List.replicate 12 0) (ascii "CHN-PAIR") (List.replicate 56 0)).take 16 = List.replicate 16 0
  · refine ⟨_, a.2.1, a.2.2, ?_⟩
    show (if (gcmTag (List.replicate 32 9) (List.replicate 12 0) (ascii "CHN-PAIR") (List.replicate 56 0)).take 16 = List.replicate 16 1 then _ else none) = none
    rw [h, if_neg (by decide)]
  · refine ⟨_, a.1, a.2.2, ?_⟩
    show (if (gcmTag (List.replicate 32 9) (List.replicate 12 0) (ascii "CHN-PAIR") (List.replicate 56 0)).take 16 = List.replicate 16 0 then _ else none) = none
    rw [if_neg h]

theorem wit_PairingsAndGroupKeysChange_tractors :
    let u := paired2.turn 0
    let n := (inSession trusted 2).turn 0
    n.transport = none ∧ Accepts n can3 0x2C32 1 (List.replicate 84 0) ∧ u.transport = some (List.replicate 32 9) ∧ Accepts u can3 0x2C32 4 (List.replicate 84 0) ∧
    lenOf 0x2C32 4 = some 84 ∧ (byte 1).toNat ≠ 2 ∧ (byte 2).toNat = 2 ∧ ((byte 1 :: List.replicate 7 0 : Bytes).any (· != 0)) = true ∧ ((byte 0 :: List.replicate 7 0 : Bytes).any (· != 0)) = false := by decide +kernel

/-- A part that may challenge peers, and one in the peer role of the tractor with identifier 4, 4, … -/
def tractorId : Bytes := List.replicate 8 4
def challenger : State := { trusted.setObj 0x2C30 1 1 with cx := { trusted.cx with win := none, ep := none }, lf := { trusted.lf with tele := none } }
def peerBase : State :=
  let s := trusted.setObj 0x2C30 7 1
  { s with rr := { s.rr with tractors := [(0, { id := [2, 0, 0, 0, 0, 0, 0, 1], vid := tractorId, ktok := List.replicate 16 5, kpgrp := List.replicate 16 6 })] }
           cx := { s.cx with win := none, ep := none }, lf := { s.lf with tele := none } }
def peerHears (d : DFrame) (q : Option PeerSession) : State :=
  { peerBase with phy := { peerBase.phy with delivered := some d }, cx := { peerBase.cx with peer := q, rows := [(0, { st := 3, kind := 3, id := tractorId, handle := 0x1234 })] } }
def challenge (vid : Bytes) (ver : Byte) : Bytes := [0x12, ver] ++ vid ++ nonce ++ [1, 0, 1, 0]

theorem wit_PeerChallengesAreSentAndAnswered :
    let u := challenger.turn 0
    let w : State := { challenger with cx := { challenger.cx with challengedAt := some 0 } }
    let d := inSlot 0 (challenge tractorId 1)
    let v := (peerHears d none).turn 0
    (trusted.turn 0).obj 0x2C30 1 ≠ 1 ∧ (w.turn 29999999999).cx.challengedAt = some 0 ∧ (w.turn 29999999999).now < 0 + (w.turn 29999999999).conf 0x2C03 0x2C30 2 * 10 ^ 9 ∧
    u.obj 0x2C30 1 = 1 ∧ u.cx.challengedAt = none ∧ u.rangingOk = true ∧ u.serving 0x07 = true ∧ u.trustKeys = true ∧ u.cx.round = none ∧ u.cx.macs = [] ∧ u.phy.window = false ∧
    (u.cxSnapshot.draw 7 8).isSome = true ∧ u.phy.delivered = none ∧ v.phy.delivered = some d ∧ v.obj 0x2C30 7 = 1 ∧ v.cx.round = none ∧ d.payload.length = 22 ∧
    (challenge tractorId 2).length = 22 ∧ v.tractorOf nonce = none ∧ (v.tractorOf tractorId).map (·.1) = some 0 ∧ v.tractorRow tractorId = some 0 ∧
    (({ v with phy := { v.phy with delivered := none } } : State).draw 7 8).isSome = true ∧ v.trustKeys = true ∧ v.rangingOk = true ∧ v.serving 0x07 = true ∧ v.cx.peer = none ∧
    (after (.peerChallenge 0) challenger).phy.tx.map (fun f => f.payload.length) = some 22 ∧ (after (.peerChallenge 0) challenger).phy.window = true := by decide +kernel

/-- A session in the peer role, and a POLL or FINAL of its tractor with a correct tag. -/
def peerSes (failed : Nat) : PeerSession :=
  { tractor := 0, row := 0, handle := 0x1234, kmac := List.replicate 16 2, krng := List.replicate 16 3, krd := List.replicate 16 1, pollAt := 0, failed := failed }
def tagged_ (label b : Bytes) : Bytes := b ++ deviceTag (List.replicate 16 1) tractorId label b
def pollOf (h : Nat) : Bytes := tagged_ (ascii "CHN-POLL") ([0x21, 0, 0, 0, 0, 7, 1, 0] ++ beBytes 2 h)
def finalOf (n : Byte) : Bytes := tagged_ (ascii "CHN-FINL") [0x23, 0, 0, 0, 0, n, 0, 9]
def clean (p : Bytes) : DFrame := { inSlot 0 p with lanes := [{ flags := 1 }, {}, {}], sfdB := true }

theorem wit_PeersAnswerPollsOfTheirTractor :
    let d := clean (pollOf 0x1234)
    let u := (peerHears d (some (peerSes 0))).turn 0
    let x := kvGet ({} : Tractor) u.rr.tractors 0
    let q := peerSes 0
    let z : DFrame := { d with lanes := [] }
    let f := clean (finalOf 0)
    (peerBase.turn 0).phy.delivered = none ∧ (peerBase.turn 0).cx.peer = none ∧ u.cx.peer = some q ∧ u.phy.delivered = some d ∧ u.cx.round = none ∧
    ((peerHears d (some q)).turn 5999999999).now < q.pollAt + max 6000000000 (3 * q.gap) ∧ q.pollAt + max 6000000000 (3 * q.gap) ≤ ((peerHears d (some q)).turn 6000000000).now ∧
    ((peerHears d (some q)).turn 6000000000).cx.peer = some q ∧ (u.row 0).st = 3 ∧
    listedKind d.payload = true ∧ x.vid = tractorId ∧ (peerSes 2).failed = 2 ∧ q.failed ≠ 2 ∧
    ([0x1234].findIdx? (· == q.handle)) = some 0 ∧ q.any = false ∧ q.handle ∉ [0x1111] ∧ (clean (pollOf 0x1111)).payload.length = 18 ∧
    listedKind f.payload = true ∧ beNat (slice 2 4 f.payload) = q.number ∧ q.ends = false ∧ bit (f.payload.getD 1 0).toNat 6 = false ∧
    beNat (slice 2 4 (finalOf 1)) ≠ q.number ∧ (d.payload.getD 0 0).toNat ≠ 0x23 ∧ (f.payload.getD 0 0).toNat ≠ 0x21 := by decide +kernel

/-- The tractor's frames pass their checks where the lane's flags are clean, and do not without a lane. -/
theorem wit_PeersAnswerPollsOfTheirTractor_passes (label b : Bytes) (n : Nat) : (peerSes n).passes tractorId label (clean (tagged_ label b)) = true ∧
    (peerSes n).passes tractorId label { clean (tagged_ label b) with lanes := [] } = false := by
  have l : (deviceTag (List.replicate 16 1) tractorId label b).length = 8 := by unfold deviceTag; rw [List.length_take, cmac_length]; rfl
  have e : (tagged_ label b).length - 8 = b.length := by unfold tagged_; rw [List.length_append, l]; omega
  constructor
  · show ((deviceTag (List.replicate 16 1) tractorId label ((tagged_ label b).take ((tagged_ label b).length - 8)) == (tagged_ label b).drop ((tagged_ label b).length - 8)) &&
      bit 1 0 && decide ((0 : Int).natAbs ≤ 64)) = true
    rw [e]
    unfold tagged_
    rw [List.take_left, List.drop_left]
    simp [bit]
  · show ((_ == _) && bit 0 0 && decide ((0 : Int).natAbs ≤ 64)) = false
    rw [show bit 0 0 = false from rfl, Bool.and_false]
    rfl
/-- A part whose policy is set, at a service level. -/
def polAt (level : Nat) (p : Pol → Pol) : State :=
  { ready with us := kvPut ready.us 5 stStopped, loc := { ready.loc with level := level }, pol := p ready.pol, lf := { ready.lf with waiting := 0 } }
/-- The same with the engine running. -/
def running (s : State) : State := s.setObj 0x2A22 5 1
def anUnlock : Request := { code := 1, src := 3, at_ := 0, epoch := 0 }

theorem wit_PolicyServesItsRequests :
    let n := (ready.setObj 0x2A21 3 0).turn 0
    let u := (polAt 1 id).turn 0
    let d : State := { polAt 1 id with us := kvPut (polAt 1 id).us 0x21 stStopped }
    let ret : State := { polAt 1 id with rr := { ready.rr with lifecycle := 4 } }
    ((MayRequest u (.host .host) 1 ∧ MayRequest u .can 5 ∧ MayRequest u .door 1 ∧ MayRequest u .walkAway 3 ∧ (Source.door = .door ∧ 2 ≠ 1)) ∧
    (u.policyServes = true ∧ (d.turn 0).policyServes = false ∧ MayRequest (d.turn 0) (.host .host) 2) ∧
    (u.polSnapshot.rr.lifecycle ≠ lcReturned ∧ (ret.turn 0).polSnapshot.rr.lifecycle = lcReturned ∧ MayRequest (ret.turn 0) (.host .host) 2 ∧ (ret.turn 0).policyServes = true) ∧
    (u.polSnapshot.loc.level = 1 ∧ u.polSnapshot.pol.pend.any (fun q => q.code == 1) = false ∧ u.polSnapshot.pol.out ≠ 2 ∧ u.polSnapshot.outputsOut = false ∧ u.lf.tele = none) ∧
    (((polAt 0 id).turn 0).polSnapshot.loc.level = 0 ∧ ((polAt 2 fun p => { p with pend := [anUnlock] }).turn 0).polSnapshot.loc.level = 2) ∧
    ((polAt 2 fun p => { p with pend := [anUnlock] }).turn 0).polSnapshot.pol.pend.any (fun q => q.code == 1) = true ∧
    (((polAt 1 fun p => { p with out := 2 }).turn 0).polSnapshot.pol.out = 2 ∧ ((polAt 1 fun p => { p with faultMask := 1 }).turn 0).polSnapshot.outputsOut = true)) ∧
    ((((running (polAt 1 fun p => { p with engine := true, pend := [anUnlock] })).turn 0).pol.engine = true ∧ u.pol.engine = false ∧ u.pol.pend = []) ∧
    ((after (.unlock 0 .door) (polAt 1 id)).pol.pend.map (·.code) = [1] ∧ (after (.start 0 (.host .host)) ret).pol.cause = 5) ∧
    ((after (.lock 0 .walkAway) (polAt 1 id)).aon.rooster.st = 1 ∧ (after (.unlockedNotice 0 .can) (polAt 1 fun p => { p with locked := true })).pol.locked = false)) :=
  ⟨by decide +kernel, by decide +kernel⟩

theorem wit_PolicyServesItsRequests_can :
    let s := ready.setObj 0x2A21 3 0
    (s.turn 0).outNow 0x2A21 3 ≠ 1 ∧
    (after (.lock 0 .can) s).pol.locked = false := by decide +kernel

/-- A release that stands until 2 s, and a latch. -/
def releasing : State := polAt 1 fun p => { p with out := 1, renewAt := 0, validTill := 1999500000, partners := [tokenId], startAt := [(tokenId, (true, 0))] }
def aLatch : Latch := { driver := 5, driver2 := 0, zone := 1, cls := 1, flags := 1 }
def latched (eng : Bool) : State := (polAt 1 fun p => { p with out := 2, engine := eng, latch := some aLatch, bound := true }).setObj 0x2A22 5 (b2n eng)

theorem wit_ReleasesLatchAndRunOut :
    let r := (releasing).turn 500000000
    let o := (releasing).turn 1500000001
    let e := (releasing).turn 1999500000
    r.powered = true ∧ r.pol.out = 1 ∧ r.pol.renewAt + 500000000 ≤ r.now ∧ r.policyServes = true ∧ r.loc.level ≠ 3 ∧ r.outputBad = false ∧ (releasing.turn 499999999).now < 500000000 ∧
    r.pol.startAt = [(tokenId, (true, 0))] ∧ r.pol.partners = [tokenId] ∧ r.now ≤ 0 + 1500000000 ∧ ¬ o.now ≤ 0 + 1500000000 ∧ e.pol.endAt ≤ e.now ∧ (releasing.turn 1999499999).now < r.pol.endAt ∧
    Accepts r .host 0x2A22 5 [1] ∧ r.outNow 0x2A22 1 = 0 ∧ r.pol.engine = false ∧ r.now < r.pol.endAt ∧ r.trustLost = false ∧ Accepts r .host 0x2A22 5 [0] ∧ Accepts e .host 0x2A22 5 [1] ∧
    ((latched true).turn 0).pol.engine = true ∧ ((latched false).turn 2000000000).pol.out = 2 ∧ ((latched false).turn 2000000000).pol.engine = false ∧
    (((latched false).turn 2000000000).dist.lastPulse.getD 0) + 2000000000 ≤ ((latched false).turn 2000000000).now ∧ ((latched false).turn 1999999999).now < 2000000000 ∧
    (after (.releaseRenewal 500000000) releasing).pol.validTill = 2500000000 ∧ (after (.releaseEnded 1999500000) releasing).pol.out = 0 ∧
    (after (.engineRunning 0 .host 1) releasing).pol.out = 2 ∧ (after (.latchEnd 2000000000) (latched false)).pol.out = 0 := by decide +kernel

/-- The engine state comes by frame. -/
def byFrame : State := let s := (polAt 1 fun p => { p with engAt := 0 }).setObj 0x2A22 1 1; { s with can0 := { s.can0 with st := 2 } }
def engFrame : CanFrame := { id := 0xA2, dlc := 2, data := [1, 1] }

theorem wit_ReleasesLatchAndRunOut_frames :
    let u := byFrame.turn 1000000001
    u.canHears 0 = true ∧ engFrame.id = u.outNow 0x2A22 2 ∧ ({ engFrame with id := 1 } : CanFrame).id ≠ u.outNow 0x2A22 2 ∧
    u.outNow 0x2A22 1 = 1 ∧ live.outNow 0x2A22 1 ≠ 1 ∧ u.serving 0x06 = true ∧ u.outNow 0x2A22 3 / 8 % 8 < engFrame.data.length ∧ ([] : Bytes).length ≤ u.outNow 0x2A22 3 / 8 % 8 ∧
    u.pol.stale = false ∧ u.pol.engAt + u.outNow 0x2A22 4 * 1000000 < u.now ∧ (byFrame.turn 1000000000).now ≤ (byFrame.turn 0).pol.engAt + (byFrame.turn 0).outNow 0x2A22 4 * 1000000 ∧
    (after (.engineStateFrame 0 0 engFrame) byFrame).pol.engine = true ∧ (after (.engineStateStale 1000000001) byFrame).pol.stale = true ∧
    (byFrame.engineFrame engFrame).pol.door = true := by decide +kernel

theorem wit_ReleasesLatchAndRunOut_outputs :
    let s := polAt 1 id
    let m := polAt 1 fun p => { p with mis := (1, 0) }
    let u := s.turn 500000
    (s.turn 499999).now < 500000 ∧ u.pol.readAt + 500000 ≤ u.now ∧ u.ownState 0x06 ≠ stStarting ∧ u.outputLevels = (false, false) ∧ u.pol.mis.1 = 0 ∧ 1 ≤ (m.turn 500000).pol.mis.1 ∧ (m.turn 500000).pol.faultMask = 0 ∧
    (releasing.turn 499999999).now < (releasing.turn 0).pol.msgAt + 500000000 ∧ u.pol.out = 0 ∧
    (after (.outputReadback 500000 true false) m).pol.faultMask = 1 ∧ (after (.outputReadback 500000 true false) s).pol.faultMask = 0 := by decide +kernel

theorem wit_ReleasesLatchAndRunOut_messages :
    let r : State := { releasing with rr := trusted.rr }
    let l : State := { polAt 1 id with sup := { (polAt 1 id).sup with lost := 1 } }
    let y : State := { running (polAt 1 fun p => { p with latch := some aLatch, resume := true, engineKnown := true, engine := true }) with sup := { live.sup with step6 := some 0 } }
    let k : State := { polAt 1 fun p => { p with latch := some aLatch, resume := true } with sup := { live.sup with step6 := some 0 } }
    (r.turn 500000000).pol.out = 1 ∧ (r.turn 500000000).pol.msgAt + 500000000 ≤ (r.turn 500000000).now ∧ (r.turn 500000000).trustKeys = true ∧ ((r.turn 500000000).slot 12).ty ≠ 0 ∧
    (y.turn 1000000000).sup.step6 = some 0 ∧ (y.turn 1000000000).pol.resume = true ∧ (y.turn 1000000000).pol.latch = some aLatch ∧ (y.turn 1000000000).policyServes = true ∧
    (y.turn 1000000000).pol.engineKnown = true ∧ (y.turn 1000000000).pol.engine = true ∧ (y.turn 1000000000).now ≤ 1000000000 ∧ 1000000000 < (y.turn 1000000001).now ∧ (k.turn 0).pol.engineKnown = false ∧
    (after (.releaseMessage 500000000) r).pol.messages = 1 ∧ (after (.latchResume 1000000000) y).pol.out = 2 ∧ (after (.latchResume 1000000001) y).pol.latch = none := by decide +kernel

theorem wit_ReleasesLatchAndRunOut_lost :
    let l : State := { polAt 1 id with sup := { live.sup with srcs := [(1, { st := 2 })] } }
    let m : State := { l with pol := { l.pol with lostAt := some 0 } }
    (l.turn 0).sup.vehicleLost = false ∧ (l.turn 0).pol.lostAt = none ∧ (l.turn 0).trustLost = true ∧ (m.turn 999999999).pol.lostAt = some 0 ∧ (m.turn 999999999).now < 0 + 1000000000 ∧
    (after (.trustLostMessage 0) l).pol.messages = 1 ∧ (after (.trustLostMessage 999999999) m).pol.messages = 0 := by decide +kernel

/-- A request of this age with what its decisions found. -/
def asking (q : Request) : State := polAt 1 fun p => { p with pend := [q], locked := true }

theorem wit_PolicyTimersAndLevels :
    let q : Request := { anUnlock with suspect := true }
    let a := (asking q).turn 300000000
    let w : State := ((inSession ready roleH).setObj 0x2901 0xA 5)
    let wl : State := { w with pol := { w.pol with locked := false } }
    let b : State := running (polAt 1 fun p => { p with engine := true, bound := true, rebind := some (tokenId, (0, 0)) })
    a.powered = true ∧ a.pol.pend = [q] ∧ q.at_ + a.conf 0x2901 0x2901 4 * 1000000 ≤ a.now ∧ ((asking q).turn 299999999).now < q.at_ + a.conf 0x2901 0x2901 4 * 1000000 ∧
    (live.turn 0).polSnapshot.conf 0x2901 0x2901 0xA = 0 ∧ (wl.turn 5000000000).polSnapshot.conf 0x2901 0x2901 0xA ≠ 0 ∧ (wl.turn 5000000000).pol.locked = false ∧ (wl.turn 0).pol.engine = false ∧ (wl.turn 0).pol.door = false ∧
    (wl.turn 5000000000).pol.walkAt + 5 * 10 ^ 9 ≤ (wl.turn 5000000000).now ∧ (wl.turn 5000000000).policyServes = true ∧ (live.turn 0).pol.rebind = none ∧
    (b.turn 10000000000).pol.rebind = some (tokenId, (0, 0)) ∧ 0 + (b.turn 0).conf 0x2901 0x2901 0xB * 10 ^ 9 ≤ (b.turn 10000000000).now ∧ (b.turn 9999999999).now < 0 + (b.turn 0).conf 0x2901 0x2901 0xB * 10 ^ 9 ∧
    (b.turn 10000000000).policyServes = true ∧ (b.turn 10000000000).pol.engine = true ∧ (b.turn 10000000000).pol.bound = true ∧ (live.turn 0).serving 0x21 = true ∧
    (after (.decisionTimeout 300000000) (asking q)).pol.cause = 3 ∧ (after (.walkAwayLock 5000000000) wl).pol.locked = true ∧ (after (.rebind 10000000000) b).pol.driver = leNat tokenId ∧
    (after (.thermalLevel 0) { live with sup := { live.sup with tj := [100, 496, 100, 100] } }).pol.gov = 4 := by decide +kernel

def lfOnly (rf : Bool) : State :=
  { polAt 3 fun p => { p with pend := [anUnlock] } with aon := { live.aon with rfIn := { live.aon.rfIn with prev := rf } } }

theorem wit_PolicyTimersAndLevels_presence :
    let u := (lfOnly false).turn 0
    let v := (lfOnly true).turn 0
    let z : Bytes := List.replicate 16384 0
    (live.turn 0).loc.level ≠ 3 ∧ u.loc.level = 3 ∧ u.policyServes = true ∧ u.pol.pend ≠ [] ∧ u.pol.presence.last = none ∧ u.deferMs = 0 ∧ u.lfSends = true ∧ u.lf.tele = none ∧
    u.aon.rooster.poll = none ∧ u.aon.rfIn.prev = false ∧ v.aon.rfIn.prev = true ∧ v.pol.pend ≠ [] ∧ v.pol.presence.last = none ∧ v.aon.rooster.poll = none ∧
    (after (.presencePoll 0) (lfOnly false)).aon.rooster.poll.map (·.presence) = some true ∧ (after (.presencePoll 0) (lfOnly true)).pol.cause = 5 := by decide +kernel

/-- A zone map up to its check: one zone, no correction grid. -/
def i16 (v : Int) : Bytes := leBytes 2 (twos 16 v)
def mapBody : Bytes :=
  let lf := fun (x y z : Int) => i16 x ++ i16 y ++ i16 z ++ i16 280 ++ [0xFF, 1, 0, 0]
  [0x4B, 0x5A, 0x4D, 0x50] ++ i16 1 ++ i16 980 ++ leBytes 4 7 ++ i16 0 ++ i16 0 ++ i16 0 ++ i16 (-500) ++ i16 3000 ++ i16 (-1500) ++ i16 1500 ++ i16 0 ++ i16 2500 ++
  i16 250 ++ i16 100 ++ i16 400 ++ [1, 0, 0, 0, 0, 0, 0, 0, 1] ++ List.replicate 19 0 ++
  i16 1200 ++ i16 0 ++ i16 1500 ++ i16 1216 ++ i16 0 ++ i16 1500 ++ i16 1200 ++ i16 16 ++ i16 1500 ++ List.replicate 6 0 ++
  lf 500 700 300 ++ lf 500 (-700) 300 ++ lf 1500 700 300 ++ lf 1500 (-700) 300 ++ lf 0 0 2000 ++ lf 2500 0 2000 ++ List.replicate 48 0 ++
  [5, 1, 1, 0x3F] ++ i16 400 ++ i16 1000 ++ i16 250 ++ i16 750 ++ i16 700 ++ i16 1400 ++ i16 40 ++ i16 100 ++ [0, 0, 0, 0] ++ List.replicate 744 0
def goodMap : Bytes := mapBody ++ (leBytes 4 (crc32 mapBody) ++ List.replicate 15404 0)

theorem mapBody_length : mapBody.length = 976 := by decide +kernel
theorem goodMap_length : goodMap.length = 16384 := by
  unfold goodMap
  rw [List.length_append, List.length_append, mapBody_length, List.length_replicate]
  rfl

theorem crc32Step_lt (c : Nat) (h : c < 2 ^ 32) : crc32Step c < 2 ^ 32 := by
  unfold crc32Step
  split
  · exact Nat.xor_lt_two_pow (by omega) (by decide)
  · omega

theorem crc32_lt (b : Bytes) : crc32 b < 2 ^ 32 := by
  unfold crc32
  refine Nat.xor_lt_two_pow ?_ (by decide)
  suffices h : ∀ (b : Bytes) (c : Nat), c < 2 ^ 32 → b.foldl (fun c x => crc32Step (crc32Step (crc32Step (crc32Step (crc32Step (crc32Step (crc32Step
      (crc32Step (c ^^^ x.toNat))))))))) c < 2 ^ 32 by exact h b _ (by decide)
  intro b
  induction b with
  | nil => exact fun c h => h
  | cons a t ih =>
    intro c h
    rw [List.foldl_cons]
    apply ih
    iterate 8 apply crc32Step_lt
    exact Nat.xor_lt_two_pow h (by have := a.isLt; omega)

theorem padded_crc (b z : Bytes) (h : b.length = 976) :
    crc32 ((b ++ (leBytes 4 (crc32 b) ++ z)).take 976) = mapU32 (b ++ (leBytes 4 (crc32 b) ++ z)) 976 := by
  have g : ∀ i, (b ++ (leBytes 4 (crc32 b) ++ z)).getD (976 + i) 0 = (leBytes 4 (crc32 b) ++ z).getD i 0 := by
    intro i
    rw [List.getD_eq_getElem?_getD, List.getD_eq_getElem?_getD, List.getElem?_append_right (by omega), h, Nat.add_sub_cancel_left]
  have l := crc32_lt b
  rw [List.take_left' h]
  simp only [mapU32, mapU16, mapU8, Nat.add_assoc]
  have g0 := g 0
  rw [Nat.add_zero] at g0
  rw [g0, g, g, g]
  generalize crc32 b = c at l
  simp [leBytes]
  omega

theorem mapOk_parts (m : Bytes) (a : mapUsed m = 980) (p : (m.take 4 == ascii "KZMP" && mapU16 m 4 == 1 && mapCells m == 0) = true)
    (c : crc32 (m.take 976) = mapU32 m 976) (z : mapZero m 980 16384 = true)
    (q : (mapZero m 43 44 && mapZero m 45 64 && mapZero m 82 88 &&
      (List.range 6).all (fun k => decide (mapU8 m (88 + 12 * k + 9) ≤ 1) && mapZero m (88 + 12 * k + 10) (88 + 12 * k + 12)) &&
      (List.range 4).all (fun k => mapZero m (160 + 12 * k + 9) (160 + 12 * k + 12)) &&
      (List.range 32).all (fun k => if mapU8 m (zoneAt k) = 0 then mapZero m (zoneAt k) (zoneAt k + 24) else mapZero m (zoneAt k + 20) (zoneAt k + 24)) &&
      mapU8 m 36 == (mapZones m).length && mapRanges m) = true) : mapOk m = true := by
  unfold mapOk
  dsimp only
  rw [a]
  simp only [Bool.and_eq_true, beq_iff_eq] at p q ⊢
  rw [p.2]
  refine ⟨⟨⟨⟨⟨⟨⟨⟨⟨⟨⟨⟨⟨p.1.1, p.1.2⟩, rfl⟩, rfl⟩, c⟩, z⟩, ?_⟩, ?_⟩, ?_⟩, ?_⟩, ?_⟩, ?_⟩, ?_⟩, ?_⟩
  · exact q.1.1.1.1.1.1.1
  · exact q.1.1.1.1.1.1.2
  · exact q.1.1.1.1.1.2
  · exact q.1.1.1.1.2
  · exact q.1.1.1.2
  · exact q.1.1.2
  · exact q.1.2
  · exact q.2

/-- A map with a check that agrees passes the checks of R206. -/
theorem wit_PolicyTimersAndLevels_goodMap : mapOk goodMap = true :=
  mapOk_parts goodMap (by decide +kernel) (by decide +kernel) (padded_crc mapBody (List.replicate 15404 0) mapBody_length) (by decide +kernel) (by decide +kernel)

/-- The write of either map is accepted. -/
theorem wit_PolicyTimersAndLevels_map : Accepts (live.turn 0) .host 0x2810 1 goodMap ∧ (live.turn 0).fenced = false := by
  unfold Accepts State.checkWrite State.checkForm
  rw [goodMap_length]
  decide +kernel

/-- The write of a map of zeros is accepted, and the map fails the checks. -/
theorem wit_PolicyTimersAndLevels_badMap : Accepts (live.turn 0) .host 0x2810 1 (List.replicate 16384 0) ∧ mapOk (List.replicate 16384 0) = false := by
  unfold Accepts State.checkWrite State.checkForm
  rw [List.length_replicate]
  decide +kernel
/-- A vehicle tag with VTAG up, its UHF path in a state. -/
def tagged (st : UhfState) : State := { live with tagd := { live.tagd with on := true, vtag := 2900, st := st, session := 1, rn := 0x1234, handle := 0x4321, q := 3, slot := 1 } }
/-- The state in which a UHF command finds the tag. -/
def uhfSeen (s : State) : State :=
  let v := (s.turn 0).tagSnapshot
  let v1 : State := { v with tagd := { v.tagd with uhf := true, uhfOut := [] } }
  v1.fieldCmd.s1Decay
def sel (target action : Nat) (mask : List Bool) : SelectCmd := { target := target, action := action, bank := 1, ptr := 16, mask := mask }
/-- What the statements of the UHF path ask of a tag in reach. -/
def reached (s : State) : Bool := (s.turn 0).tagServes && (s.turn 0).tagSnapshot.tagConf 0x3010 1 != 0 && (s.turn 0).tagSnapshot.tagd.job.isNone

theorem wit_UhfInventoryRuns :
    let deaf : State := { (tagged .ready) with rr := { (tagged .ready).rr with objs := kvPut live.rr.objs (key 0x3010 1) 0 } }
    let busy : State := { (tagged .ready) with tagd := { (tagged .ready).tagd with job := some { kind := .fieldWord, bank := 3, ptr := 0, words := [1], handle := 1, due := 1, at_ := 0 } } }
    let sts := [UhfState.ready, .arbitrate, .reply, .acknowledged, .secured]
    let dead : State := { (tagged .ready) with rr := { live.rr with tag := { live.rr.tag with killed := true } } }
    (live.turn 0).tagd.on = false ∧ (dead.turn 0).rr.tag.killed = true ∧
    (deaf.turn 0).tagServes = true ∧ (deaf.turn 0).tagSnapshot.tagConf 0x3010 1 = 0 ∧ (busy.turn 0).tagServes = true ∧ (busy.turn 0).tagSnapshot.tagd.job.isSome = true ∧
    (sts.all fun x => reached (tagged x) && decide ((uhfSeen (tagged x)).tagd.st = x)) = true ∧
    (uhfSeen (tagged .ready)).selMatches (sel 0 0 [true]) = false ∧ (uhfSeen (tagged .ready)).selMatches (sel 4 3 [false, false]) = true ∧ (uhfSeen (tagged .ready)).selMatches (sel 4 7 [true]) = false ∧
    (uhfSeen (tagged .secured)).tagd.uhfSess = none ∧ (uhfSeen (tagged .reply)).tagd.slot = 1 ∧ (uhfSeen (tagged .reply)).tagd.rn ≠ 0 ∧ (uhfSeen (tagged .reply)).tagd.session = 1 ∧
    (after (.queryRep 0 1) (tagged .arbitrate)).tagd.st = .reply ∧ (after (.ack 0 0x1235) (tagged .reply)).tagd.st = .arbitrate ∧ (after (.ack 0 0x1234) (tagged .reply)).tagd.st = .acknowledged ∧
    (after (.reqRn 0 0x1234) (tagged .acknowledged)).tagd.st = .secured ∧ (after (.select 0 (sel 3 3 [false])) (tagged .reply)).tagd.flags = [false, false, false, true, false] := by decide +kernel

theorem wit_FieldAccessAndWritesLand :
    let s := tagged .secured
    let w := uhfSeen s
    let withPw : State := { s with rr := { s.rr with tag := { s.rr.tag with killPw := [1, 2, 3, 4], bad := [3 * 4096], slots := [(2, List.replicate 256 7)] } } }
    let half : State := { withPw with tagd := { withPw.tagd with half := some 0x0102 } }
    let again : LastWrite := { handle := 0x4321, ptr := 5, count := 1, crc := crc16 (bytesOf [7]) }
    let twice : State := { s with rr := { s.rr with tag := { s.rr.tag with commits := [(3, { seq := 4, last := some again })] } } }
    let lockable : State := { s with rr := { s.rr with objs := kvPut (kvPut s.rr.objs (key 0x3021 3) 1) (key 0x3021 1) 1 } }
    reached s = true ∧ w.tagd.st = .secured ∧ w.tagd.handle = 0x4321 ∧ reached half = true ∧ reached twice = true ∧ reached lockable = true ∧
    uhfBank 3 4095 2 = none ∧ uhfBank 3 5 1 = some (3, 5) ∧ uhfBank 1 1 17 = some (1, 1) ∧ uhfBank 3 0x8400 128 = some (4, 0x400) ∧
    (uhfSeen withPw).rr.tag.hurt 3 7 2 = true ∧ (uhfSeen withPw).rr.tag.hurt 3 8 1 = false ∧ w.rr.tag.canKill = false ∧ (uhfSeen half).rr.tag.canKill = true ∧
    w.fieldLocked 3 = false ∧ (uhfSeen lockable).fieldLocked 3 = true ∧ w.fenced = false ∧ (w.rr.tag.commit 3).last = none ∧ ((uhfSeen twice).rr.tag.commit 3).last = some again ∧
    (uhfSeen withPw).tagd.half = none ∧ (uhfSeen half).tagd.half = some 0x0102 ∧ bytesOf [0x0102, 0x0304] = (uhfSeen half).rr.tag.killPw ∧ bytesOf [0x0102, 0x0305] ≠ (uhfSeen half).rr.tag.killPw ∧
    w.tagConf 0x3021 3 = 0 ∧ (uhfSeen lockable).tagConf 0x3021 3 ≠ 0 ∧
    (after (.kill 0 0 0x0304 0x4321 2700) half).rr.tag.killed = true ∧ (after (.kill 0 0 0x0304 0x4321 2699) half).rr.tag.killed = false ∧
    bit (after (.uhfLock 0 2 2 0x4321) lockable).rr.tag.locks 0 = true ∧ ((after (.write 0 3 5 7 0x4321 2900) s).tagd.job.map (·.due)) = some 48000 := by decide +kernel

theorem wit_FieldAccessAndWritesLand_memory :
    let s := tagged .secured
    let j : TagJob := { kind := .fieldBlock, bank := 3, ptr := 5, words := [1, 2], handle := 1, due := 48000, at_ := 0 }
    let busy : State := { s with tagd := { s.tagd with job := some j, harv := true } }
    let host : State := { s with tag := { s.tag with jobs := [{ j with kind := .host .host }] } }
    let down : State := { busy with us := [] }
    let above : State := { s with tagd := { s.tagd with harvOff := some 100000000 } }
    let harv : State := { s with rr := { s.rr with objs := kvPut (kvPut s.rr.objs (key 0x3050 1) 1) (key 0x3050 2) 1 } }
    (((s.turn 0).tagd.job = none ∧ (s.turn 0).tag.jobs = [] ∧ (busy.turn 47999).tagd.job = some j ∧ (busy.turn 47999).aon.clock < j.due ∧ j.due ≤ (down.turn 48000).aon.clock) ∧
    ((down.turn 48000).tagd.job = some j ∧ (down.turn 48000).tagApp = false ∧ (host.turn 48000).tag.jobs = [{ j with kind := .host .host }] ∧ (host.turn 48000).fenced = false) ∧
    (j.bank = 3 ∧ kvSorted s.rr.tag.user = true ∧ (live.turn 0).tagd.on = false ∧ (s.turn 0).tagd.on = true ∧ (s.turn 0).tagd.killAt = none ∧ (busy.turn 0).tagd.job = some j) ∧
    ((s.turn 0).harvMay = false ∧ (harv.turn 0).harvMay = true ∧ (s.turn 0).tagd.harv = false ∧ (busy.turn 0).tagd.harv = true ∧ (s.turn 0).powered = true ∧ (busy.turn 0).powered = true)) ∧
    (((s.turn 0).tagd.harvOff = none ∧ (above.turn 99999999).tagd.harvOff = some 100000000 ∧ (above.turn 99999999).aon.clock < 100000000 ∧ 100000000 ≤ (above.turn 100000000).aon.clock) ∧
    ((after (.tagCommit 48000) down).rr.tag.words 3 4 4 = [0xFFFF, 1, 2, 0xFFFF] ∧ (after (.tagPowerOff 47999 1549) busy).rr.tag.user = [] ∧ (after (.tagPowerOn 0 1700) live).tagd.on = true) ∧
    ((after (.harvOn 0 2800) harv).tagd.harv = false ∧ (after (.harvOn 0 2801) harv).tagd.harv = true ∧ (after (.harvRetry 100000000) above).tagd.harvOff = none)) :=
  ⟨by decide +kernel, by decide +kernel⟩

/-- The tag with its HF path in a state. -/
def hfTag (st : HfState) : State := { (tagged .ready) with tagd := { (tagged .ready).tagd with hst := st, fsd := 16, chain := List.replicate 20 7 } }
/-- The state in which an HF command finds the tag. -/
def hfSeen (s : State) : State :=
  let v := (s.turn 0).tagSnapshot
  let v1 : State := { v with tagd := { v.tagd with hf := true } }
  v1.fieldCmd
/-- The window of the host port's client set to a bank, a pointer and a count. -/
def window (s : State) (b p n : Nat) : State := s.setCtx { s.ctx .host with vals := [(key 0x3020 1, b), (key 0x3020 2, p), (key 0x3020 3, n)] }

theorem wit_HfPathAndHostWindow :
    let sts := [HfState.idle, .ready1, .ready2, .active, .halt, .proto]
    let woken : State := { (hfTag .ready2) with tagd := { (hfTag .ready2).tagd with halted := true } }
    (live.turn 0).tagServes = false ∧ (sts.all fun x => ((hfTag x).turn 0).tagServes && ((hfTag x).turn 0).tagSnapshot.tagConf 0x3010 2 != 0 && ((hfTag x).turn 0).tagSnapshot.tagd.job.isNone) = true ∧
    (sts.all fun x => decide ((hfSeen (hfTag x)).tagd.hst = x)) = true ∧ (hfSeen woken).tagd.hst = .ready2 ∧ (hfSeen woken).tagd.halted = true ∧ (hfSeen (hfTag .ready2)).tagd.halted = false ∧
    (hfSeen (hfTag .proto)).tagd.chain ≠ [] ∧ (hfSeen (hfTag .proto)).tagd.blk = 1 ∧ (0 : Nat) ≠ 1 ∧ (hfSeen (hfTag .proto)).rr.tag.newest = none ∧ (4 : Nat) ≤ ((4 : Byte)).toNat ∧
    (after (.rats 0 0x80) (hfTag .active)).tagd.hst = .proto ∧ (after (.reqa 0) (hfTag .halt)).tagd.hst = .halt ∧ (after (.wupa 0) (hfTag .halt)).tagd.hst = .ready1 ∧
    (after (.rAck 0 0) (hfTag .proto)).tagd.chain = List.replicate 7 7 ∧ (after (.rAck 0 1) (hfTag .proto)).tagd.chain = List.replicate 20 7 ∧
    (after (.getSummary 0 [1]) (hfTag .proto)).tagd.hfOut = [2, 4] ∧ (after (.sDeselect 0) (hfTag .proto)).tagd.hst = .halt := by decide +kernel

theorem wit_HfPathAndHostWindow_window :
    let s := tagged .ready
    let ok := window s 3 4094 2
    let data : Bytes := [1, 2, 3, 4] ++ List.replicate 252 0
    let low : State := { ok with tagd := { ok.tagd with vtag := 2699 } }
    let j : TagJob := { kind := .host .host, bank := 3, ptr := 5, words := [1, 2], handle := 1, due := 48000, at_ := 0 }
    let wait : State := { s with tag := { s.tag with jobs := [j] } }
    let sw := inSession s 2
    let pw : State := { sw with rr := { s.rr with tag := { s.rr.tag with killPw := [1, 2, 3, 4] } } }
    (Accepts (ok.turn 0) .host 0x3020 4 data) ∧ Accepts ((window s 2 0 2).turn 0) .host 0x3020 4 data ∧ Accepts ((window s 3 4095 2).turn 0) .host 0x3020 4 data ∧ (Accepts (low.turn 0) .host 0x3020 4 data) ∧
    (ok.turn 0).cval .host 0x3020 1 = 3 ∧ (ok.turn 0).cval .host 0x3020 2 + (ok.turn 0).cval .host 0x3020 3 = 4096 ∧ (ok.turn 0).serving 0x08 = true ∧ 2700 ≤ (ok.turn 0).tagd.vtag ∧ (low.turn 0).tagd.vtag < 2700 ∧
    (ok.turn 0).fenced = false ∧ (wait.turn 1999999).tag.jobs = [j] ∧ (wait.turn 1999999).now < j.at_ + 2000000 ∧ j.at_ + 2000000 ≤ (wait.turn 2000000).now ∧ (s.turn 0).tag.jobs = [] ∧
    (Accepts (sw.turn 0) can3 0x3030 7 [1]) ∧ (Accepts (pw.turn 0) can3 0x3040 1 [1, 2, 3, 4]) ∧ (Accepts (pw.turn 0) can3 0x3040 1 [1, 2, 3, 5]) ∧ (pw.turn 0).rr.tag.killed = false ∧ (pw.turn 0).rr.tag.canKill = true ∧
    (live.turn 0).tagApp = true ∧ (s.turn 0).refreshWanted = true ∧ (s.turn 0).refreshMay = true ∧ ({ s with tagd := { s.tagd with refreshAt := some 0 } } : State).refreshMay = false ∧
    ((after (.windowData 0 .host data) ok).tag.jobs.map (·.words)) = [[0x0102, 0x0304]] ∧ told .host (after (.hostTagTimeout 2000000 .host) wait) = some abBusy ∧
    (after (.killObject 0 can3 [1, 2, 3, 4]) pw).rr.tag.killed = true ∧ told can3 (after (.killObject 0 can3 [1, 2, 3, 5]) pw) = some abAuthFail := by decide +kernel

/-- A fence is up, and the window is written. -/
def raised (s : State) : State := { s with nv := { s.nv with fence := some { since := 0, first := 1, mask := 1, low := 0 } } }
/-- Slot 48 holds a signing key. -/
def signing : State := { (tagged .ready) with rr := { (tagged .ready).rr with slots := kvPut (tagged .ready).rr.slots 48 { ty := 0x20, usage := 0x40, pers := true, gen := 1, key := List.replicate 32 5 } } }

theorem wit_HfPathAndHostWindow_refresh :
    let u := signing.turn 0
    let f := (raised (window (tagged .ready) 3 4094 2)).turn 0
    u.tagApp = true ∧ u.refreshWanted = true ∧ u.refreshMay = true ∧ u.trustLost = false ∧ u.fenced = false ∧ u.rr.lifecycle ≠ lcReturned ∧ 2700 ≤ u.tagd.vtag ∧
    (u.ownSign 48 (u.summaryBody (u.rr.tag.counter + 1))).isSome = true ∧
    f.fenced = true ∧ Accepts f .host 0x3020 4 (List.replicate 256 1) ∧ f.serving 0x08 = true ∧ 2700 ≤ f.tagd.vtag := by decide +kernel

/-- A part whose slots 0, 5 and 60 hold keys, with bytes in channels 0 and 6 of the generator. -/
def keyed : State := { live with
  rng := { live.rng with bufs := [List.replicate 64 1, [], [], [], [], [], (List.range 60).map byte, []], startBlock := false }
  rr := { live.rr with slots := [(0, { ty := 3, usage := 0x60, pers := true, gen := 1, key := List.replicate 32 5 }), (5, { ty := 1, usage := 0x7F, pers := true, gen := 7, key := List.replicate 16 5 }), (21, { gen := 2 ^ 32 - 1 }), (22, { ty := 1, usage := 0x7F, pers := true, gen := 7, key := List.replicate 16 5 }), (60, { ty := 0x10, usage := 0x180, pers := true, gen := 3, key := List.replicate 32 1 })] } }
/-- The operation record of the session on channel 3: slot, type, usage, and a wrapped key. -/
def keyOf (role n ty u : Nat) (w : Bytes) : State :=
  let s := inSession keyed role
  s.setCtx { s.ctx can3 with vals := [(key 0x3720 1, n), (key 0x3720 2, ty), (key 0x3720 3, u), (key 0x3720 4, 1)], wrapped := w }
/-- A state with one unit removed from those that serve. -/
def lacking (s : State) (uid : Nat) : State := { s with us := kvDel s.us uid }

theorem wit_KeyOperationsChangeSlots :
    let s := keyOf 2 20 1 0x10 []
    let u := s.turn 0
    let f := keyOf 4 20 1 0x10 ([1, 2, 3, 4, 5, 6, 7, 8, 9, 10, 11, 12] ++ List.replicate 16 3)
    let b := keyOf 4 20 1 0x10 (List.replicate 76 255)
    let r := keyOf 4 21 1 0x10 []
    let st := (raised { s with ks := { s.ks with stale := [20] } }).turn 0
    ((u.fenced = false ∧ u.marksOf 20 = 0 ∧ Accepts u can3 0x3720 6 [1] ∧ Accepts u can3 0x3720 6 [2] ∧ Accepts u can3 0x3720 6 [3] ∧ Accepts u can3 0x3720 6 [4] ∧ (u.keyAsk can3).slot = 20) ∧
    (u.keyWriteCause can3 (u.keyAsk can3) = 0 ∧ u.trustLost = false ∧ u.serving 0x09 = true ∧ (u.slot 0).ty ≠ 0 ∧ ((keyOf 2 20 0x10 0x80 []).turn 0).keyWriteCause can3 (((keyOf 2 20 0x10 0x80 []).turn 0).keyAsk can3) ≠ 0) ∧
    (((lacking s 0x09).turn 0).serving 0x09 = false ∧ Accepts ((lacking s 0x09).turn 0) can3 0x3720 6 [1] ∧ Accepts ((keyOf 2 20 0x10 0x80 []).turn 0) can3 0x3720 6 [1]) ∧
    (((keyOf 2 20 1 0x10 []).turn 0).generateCause can3 (u.keyAsk can3) = 0 ∧ u.rngWaits 6 ((keyBytes 1).getD 0) = false ∧ ((keyOf 2 0 3 0x60 []).turn 0).generateCause can3 (((keyOf 2 0 3 0x60 []).turn 0).keyAsk can3) ≠ 0)) ∧
    ((u.mayErase can3 20 = true ∧ u.retired 20 = false ∧ u.ks.stale.contains 20 = false ∧ u.mayErase can3 0 = false ∧ u.retired 21 = true ∧ (r.turn 0).mayErase can3 21 = true ∧ Accepts (r.turn 0) can3 0x3720 6 [3]) ∧
    (Accepts (f.turn 0) can3 0x3720 6 [5] ∧ Accepts (f.turn 0) can3 0x3720 6 [6] ∧ (f.turn 0).role can3 = roleF ∧ (f.turn 0).rr.lifecycle = lcFactory ∧ u.role can3 ≠ roleF) ∧
    ((f.turn 0).keyWriteCause can3 ((f.turn 0).keyAsk can3) = 0 ∧ plainKey 1 (slice 12 48 ((f.turn 0).wrapped can3)) = some (List.replicate 16 3) ∧ (b.turn 0).keyWriteCause can3 ((b.turn 0).keyAsk can3) = 0 ∧ plainKey 1 (slice 12 48 ((b.turn 0).wrapped can3)) = none) ∧
    (st.ks.stale.contains 20 = true ∧ st.fenced = true ∧ Accepts st can3 0x3720 6 [1] ∧ Accepts st can3 0x3720 6 [2]) ∧
    Accepts u can3 0x3702 1 (leBytes 1 63) ∧
    (((after (.generate 0 can3) s).slot 20).key = (List.range 16).map byte ∧ ((after (.erase 0 can3) (keyOf 2 22 1 0x10 [])).slot 22).gen = 8 ∧ ((after (.importPlain 0 can3) f).slot 20).key = List.replicate 16 3)) ∧
    ((((after (.zeroizeNow 0 can3) (keyOf 2 22 1 0x10 [])).slot 22).ty = 0 ∧ ((after (.zeroizeAll 0 can3) f).slot 60).ty = 0 ∧ ((after (.zeroizeAll 0 can3) f).slot 0).gen = 2)) :=
  ⟨by decide +kernel, by decide +kernel, by decide +kernel⟩

/-- The wrapped form of a key for slot 20, in parts. -/
def wrapAsk : KeyAsk := { slot := 20, ty := 1, usage := 0x10, pers := true }
def wrapped20 (p : Bytes) : Bytes :=
  List.replicate 12 9 ++ (gcmEnc (List.replicate 32 5) (List.replicate 12 9) (importAad wrapAsk) p).1 ++ (gcmEnc (List.replicate 32 5) (List.replicate 12 9) (importAad wrapAsk) p).2

theorem wrapped20_slices (p : Bytes) (h : p.length = 48) : (wrapped20 p).take 12 = List.replicate 12 9 ∧
    slice 12 48 (wrapped20 p) = (gcmEnc (List.replicate 32 5) (List.replicate 12 9) (importAad wrapAsk) p).1 ∧
    slice 60 16 (wrapped20 p) = (gcmEnc (List.replicate 32 5) (List.replicate 12 9) (importAad wrapAsk) p).2 ∧ (wrapped20 p).length = 76 := by
  have l : (gcmEnc (List.replicate 32 5) (List.replicate 12 9) (importAad wrapAsk) p).1.length = 48 := by
    simp only [gcmEnc, gcmCrypt, ctrMode_length, h]
  have m : (gcmEnc (List.replicate 32 5) (List.replicate 12 9) (importAad wrapAsk) p).2.length = 16 := gcmTag_length _ _ _ _
  unfold wrapped20 slice
  generalize (gcmEnc (List.replicate 32 5) (List.replicate 12 9) (importAad wrapAsk) p).1 = c at *
  generalize (gcmEnc (List.replicate 32 5) (List.replicate 12 9) (importAad wrapAsk) p).2 = t at *
  rw [List.append_assoc]
  refine ⟨List.take_left' (by decide), ?_, ?_, by simp [l, m]⟩
  · rw [List.drop_left' (by decide)]; exact List.take_left' l
  · rw [← List.append_assoc, List.drop_left' (by simp [l])]; exact List.take_of_length_le (by omega)

/-- The wrapped form opens under the key of slot 0 with the record's own data: the tag is right, whatever the serial number. -/
theorem wit_KeyOperationsChangeSlots_import (p : Bytes) (h : p.length = 48) : let w := wrapped20 p
    gcmDec (List.replicate 32 5) (w.take 12) (importAad wrapAsk) (slice 12 48 w) (slice 60 16 w) = some p := by
  obtain ⟨h1, h2, h3, _⟩ := wrapped20_slices p h
  dsimp only
  rw [h1, h2, h3]
  exact gcmDec_gcmEnc _ _ _ _

theorem wit_KeyOperationsChangeSlots_plain :
    (List.replicate 16 3 ++ List.replicate 32 0 : Bytes).length = 48 ∧ plainKey 1 (List.replicate 16 3 ++ List.replicate 32 0) = some (List.replicate 16 3) ∧ plainKey 1 (List.replicate 48 255) = none := by decide +kernel

/-- An IMPORT with a wrapped key of 76 bytes finds the record, the wrapping key and the wrapped key as they were written. -/
def importing (x : Byte) : State := keyOf 2 20 1 0x10 (List.replicate 60 9 ++ List.replicate 16 x)
def found (u : State) (x : Byte) : Prop :=
  (u.slot 0).key = List.replicate 32 5 ∧ u.wrapped can3 = List.replicate 60 9 ++ List.replicate 16 x ∧ (u.keyAsk can3).slot = 20 ∧ (u.keyAsk can3).ty = 1 ∧ (u.keyAsk can3).usage = 0x10

theorem found_dec (u : State) (x : Byte) (h : found u x) : gcmDec (u.slot 0).key ((u.wrapped can3).take 12) (importAad (u.keyAsk can3)) (slice 12 48 (u.wrapped can3)) (slice 60 16 (u.wrapped can3)) =
    gcmDec (List.replicate 32 5) (List.replicate 12 9) (importAad wrapAsk) (List.replicate 48 9) (List.replicate 16 x) := by
  obtain ⟨h1, h2, h3, h4, h5⟩ := h
  have e : importAad (u.keyAsk can3) = importAad wrapAsk := by unfold importAad; rw [h3, h4, h5]; rfl
  rw [h1, h2, e]
  rfl

theorem wit_KeyOperationsChangeSlots_found : found ((importing 0).turn 0) 0 ∧ found ((importing 1).turn 0) 1 := by
  unfold found
  decide +kernel

/-- An IMPORT whose tag is wrong. -/
theorem wit_KeyOperationsChangeSlots_badTag : ∃ x : Byte, let u := (importing x).turn 0
    let a := u.keyAsk can3
    let w := u.wrapped can3
    gcmDec (u.slot 0).key (w.take 12) (importAad a) (slice 12 48 w) (slice 60 16 w) = none := by
  have d : ∀ key iv aad c (x y : Bytes), x.length = 16 → y.length = 16 → x ≠ y → gcmDec key iv aad c x = none ∨ gcmDec key iv aad c y = none := by
    intro key iv aad c x y hx hy hn
    unfold gcmDec
    rw [hx, hy]
    by_cases h : (gcmTag key iv aad c).take 16 = x
    · right; rw [if_neg]; rw [h]; exact hn
    · left; rw [if_neg h]
  have z := d (List.replicate 32 5) (List.replicate 12 9) (importAad wrapAsk) (List.replicate 48 9) (List.replicate 16 0) (List.replicate 16 1) (by decide) (by decide) (by decide)
  rcases z with z | z
  · exact ⟨0, (found_dec _ 0 wit_KeyOperationsChangeSlots_found.1).trans z⟩
  · exact ⟨1, (found_dec _ 1 wit_KeyOperationsChangeSlots_found.2).trans z⟩

/-- Anchor 0 may sign anchor changes and summary certificates, with the neutral point of Ed25519 as its key; slot 48 holds a key. -/
def nPub : Bytes := 1 :: List.replicate 31 0
def nSig : Bytes := 1 :: List.replicate 63 0
def anchored : State :=
  let s := inSession live 2
  { s with rr := { s.rr with objs := kvPut s.rr.objs (key 0x3730 1) (leNat ([0x18, 3] ++ List.replicate 8 7 ++ nPub)), slots := [(48, { ty := 0x10, usage := 0x80, pers := true, gen := 1, key := List.replicate 31 0 ++ [5] })] } }
/-- An anchor change of an entry, signed under an anchor. -/
def change (e j : Byte) : Bytes := padTo 206 ([e] ++ List.replicate 108 3 ++ [j] ++ nSig)

/-- What an anchor change of an entry finds. -/
abbrev mayChange (u : State) (r : Bytes) : Prop :=
  (r.getD 109 0).toNat = 0 ∧ anchorAlg (u.anchor 0) = 3 ∧ anchorPub (u.anchor 0) = nPub ∧ slice 110 (algSig 3) r = nSig

theorem mayChange_signed (u : State) (r m : Bytes) (h : mayChange u r) : let k := u.anchor (r.getD 109 0).toNat
    (verifyWith (algType (anchorAlg k)) (anchorPub k) m false (slice 110 (algSig (anchorAlg k)) r) == some true) = true := by
  obtain ⟨h1, h2, h3, h4⟩ := h
  dsimp only
  rw [h1, h2, h3, h4]
  have := verifyWith_neutral m
  unfold nPub nSig
  rw [show algType 3 = 0x14 by decide, this]
  rfl

/-- A certificate of the summary signing key, signed under anchor 0. -/
def summaryCert : Bytes :=
  let pub := (anchored.slot 48).public
  padTo 2030 (ascii "KVCR" ++ [1, 0x10, 1, 3] ++ List.replicate 8 1 ++ List.replicate 8 7 ++ [0, 0, 0, 0, 255, 255, 255, 255] ++ anchored.vehicleBytes ++ beBytes 2 65 ++ pub ++ beBytes 2 64 ++ nSig)

theorem wit_KeyOperationsChangeSlots_anchor :
    let u := anchored.turn 0
    Accepts u can3 0x3731 1 (change 4 0) ∧ Accepts u can3 0x3731 1 (change 4 1) ∧ u.fenced = false ∧ u.serving 0x0A = true ∧ ((change 7 0).getD 0 0).toNat < 8 ∧ anchorMask (slice 1 108 (change 4 0)) < 32 ∧
    mayChange u (change 4 0) ∧ bit (anchorMask (u.anchor 0)) 4 = true ∧ bit (anchorMask (u.anchor 1)) 4 = false ∧ ((lacking anchored 0x0A).turn 0).serving 0x0A = false ∧ Accepts ((lacking anchored 0x0A).turn 0) can3 0x3731 1 (change 4 0) ∧
    Accepts u can3 0x3740 1 summaryCert ∧ Accepts u can3 0x3740 1 (List.replicate 2030 0) ∧ Accepts ((lacking anchored 0x0A).turn 0) can3 0x3740 1 summaryCert ∧ u.summaryCertOk (List.replicate 2030 0) = false ∧ leNat summaryCert ≠ 0 ∧
    certLength summaryCert = 173 + 0 ∧ u.obj 0x3740 2 ≤ certLength summaryCert := by decide +kernel

theorem wit_KeyOperationsChangeSlots_certificate : (anchored.turn 0).summaryCertOk summaryCert = true := by decide +kernel

/-- A part with cipher and public-key jobs described by the host objects: mode or operation m. -/
def asks (m : Nat) : State :=
  let s := inSession keyed 2
  let l := [(key 0x3410 1, m), (key 0x3410 3, 22), (key 0x3410 5, 16), (key 0x3410 6, 8), (key 0x3410 8, 32), (key 0x3510 1, m), (key 0x3510 2, 0x10)]
  { s with objs := l.foldl (fun o e => kvPut o e.1 e.2) s.objs, rr := { s.rr with objs := l.foldl (fun o e => kvPut o e.1 e.2) s.rr.objs } }
/-- A cipher job of slot n, and one on core 0. -/
def aJob (n : Nat) : CipherJob := { c := can3, role := 2, mode := 1, dec := false, slot := n, iv := [], tagLen := 8, pad := false, ctrW := 32, aad := [], input := [], tag := [] }
def onCore : CoreJob := { job := aJob 22, key := List.replicate 16 5, gen := 7, start := 0 }
def waiting (s : State) (n : Nat) : State := { s with cipher := { s.cipher with ring := some (aJob n), st := 1, holder := some can3 } }
/-- A public-key job of an operation, waiting or running. -/
def pJob (op flags : Nat) : PkJob := { c := can3, role := 2, op := op, alg := 0x14, hash := 1, slot := 60, digest := false, target := 20, flags := flags, msg := [1, 2, 3], peer := nPub, sig := nSig }
def pkRuns (j : PkJob) (ty : Nat) (k : Bytes) : State := { keyed with pk := { keyed.pk with run := some { job := j, ty := ty, key := k, gen := 3 }, st := 2 } }

theorem wit_JobsRunOnTheirEngines :
    let u := (asks 6).turn 0
    let held : State := { (asks 3) with cipher := { (asks 3).cipher with holder := some .host, last := 1 }, pk := { (asks 3).pk with holder := some .host, last := 1 } }
    let full : State := { (waiting (asks 1) 22) with cipher := { (waiting (asks 1) 22).cipher with cores := List.replicate 4 (some onCore) } }
    let runs : State := { (asks 1) with cipher := { (asks 1).cipher with cores := [some onCore, none, none, none], st := 2, holder := some can3 } }
    ((u.obj 0x3410 1 = 6 ∧ u.obj 0x3410 1 ≠ 1 ∧ Accepts u can3 0x3412 1 [1] ∧ u.cipher.holder = none ∧ u.cipher.st = 0 ∧ u.ownState 0x09 ≠ stStopped ∧ (u.cipherJob can3).check = resOk) ∧
    (Accepts ((asks 1).turn 0) can3 0x3412 1 [1] ∧ (((asks 1).turn 0).cipherJob can3).check ≠ resOk ∧ ((asks 1).turn 0).obj 0x3410 1 = 1) ∧
    ((held.turn 30000000000).cipher.holder = some .host ∧ Client.host ≠ can3 ∧ (held.turn 30000000000).now < (held.turn 30000000000).cipher.last + 30000000000 ∧ Accepts (held.turn 30000000000) can3 0x3412 1 [1] ∧ Accepts (held.turn 30000000000) can3 0x3512 1 [1]) ∧
    (((waiting keyed 22).turn 0).cipher.ring = some (aJob 22) ∧ ((waiting keyed 22).turn 0).freeCore = some 0 ∧ ((waiting keyed 22).turn 0).serving 0x09 = true ∧ (full.turn 0).freeCore = none ∧ u.cipher.ring = none)) ∧
    (((((waiting keyed 22).turn 0).slot 22).ty ≠ 0 ∧ (((waiting keyed 22).turn 0).slot 22).ty < 0x10 ∧ bit (((waiting keyed 22).turn 0).slot 22).usage (aJob 22).usageBit = true ∧ roleIn 2 (slotWriters 22) = true ∧ (((waiting keyed 23).turn 0).slot 23).ty = 0) ∧
    (nth none (runs.turn 0).cipher.cores 0 = some onCore ∧ nth none (runs.turn 0).cipher.cores 1 = none ∧ onCore.duration = 500 ∧ (runs.turn 499).now < onCore.start + onCore.duration ∧ onCore.start + onCore.duration ≤ (runs.turn 500).now) ∧
    (((asks 4).turn 0).obj 0x3510 1 = 4 ∧ Accepts ((asks 4).turn 0) can3 0x3512 1 [1] ∧ ((asks 4).turn 0).pk.holder = none ∧ ((asks 4).turn 0).pk.st = 0 ∧ ((asks 4).turn 0).ownState 0x0A ≠ stStopped ∧ u.pk.ring = none ∧ u.pk.run = none ∧ u.obj 0x3510 1 ≠ 1) ∧
    (AcceptsRead u can3 0x3412 5 ∧ (held.turn 0).cipher.holder.isSome = true ∧ (held.turn 30000000001).cipher.last + 30000000000 ≤ (held.turn 30000000001).now ∧ (held.turn 30000000001).pk.last + 30000000000 ≤ (held.turn 30000000001).now)) ∧
    (((after (.cmac 0 can3) (asks 6)).cipher.st = 1 ∧ (after (.jobStart 0 false) (waiting keyed 22)).cipher.st = 2 ∧ (after (.jobStart 0 false) (waiting keyed 23)).cipher.result = resEmpty ∧ (after (.jobDone 500 0 false) runs).cipher.st = 3) ∧
    ((after (.jobDone 0 0 true) runs).cipher.result = resFault ∧ (after (.hostJobTimeout 30000000001 false) held).cipher.holder = none ∧ (after (.hostJobTimeout 30000000000 false) held).cipher.holder = some .host)) :=
  ⟨by decide +kernel, by decide +kernel, by decide +kernel⟩

theorem wit_JobsRunOnTheirEngines_publicKey :
    let w (j : PkJob) : State := { keyed with pk := { keyed.pk with ring := some j, st := 1 } }
    let dry : State := { (pkRuns (pJob 1 0) 0x10 []) with rng := { keyed.rng with bufs := List.replicate 8 [] } }
    let kex := pkRuns (pJob 3 0) 0x15 (List.replicate 32 1)
    let far : PkJob := { (pJob 3 0) with peer := 4 :: (beBytes 32 p256.gx ++ beBytes 32 p256.gy) }
    ((w (pJob 2 0)).turn 0).pk.ring = some (pJob 2 0) ∧ ((w (pJob 2 0)).turn 0).serving 0x0A = true ∧ ((w (pJob 2 0)).turn 0).pk.run = none ∧ ((w (pJob 2 0)).turn 0).pkStartCheck (pJob 2 0) = 0 ∧
    ((w (pJob 4 0)).turn 0).pkStartCheck (pJob 4 0) ≠ 0 ∧ ((w (pJob 1 0)).turn 0).pkStartCheck (pJob 1 0) = 0 ∧ ((pkRuns (pJob 2 0) 0x14 []).turn 0).pk.run.isSome = true ∧ ((pkRuns (pJob 4 3) 1 []).turn 0).pk.run.map (·.job.op) = some 4 ∧
    (kex.turn 0).fenced = false ∧ (kex.turn 0).marksOf 20 = 0 ∧ (kex.turn 0).retired 20 = false ∧ sharedKey 0x15 (List.replicate 32 1) (List.replicate 32 0) = none ∧ (sharedKey 0x10 (List.replicate 31 0 ++ [1]) far.peer).isSome = true ∧
    (((raised kex).turn 0).fenced = true) ∧ (((pkRuns (pJob 1 0) 0x10 []).turn 0).nonceExtra 0x10).isSome = true ∧ ((dry.turn 0).nonceExtra 0x10).isNone = true ∧ (dry.turn 0).pk.run.map (·.job.op) = some 1 ∧
    (after (.jobStart 0 true) (w (pJob 2 0))).pk.st = 2 ∧ (after (.pkJobDone 0 true) (pkRuns (pJob 1 0) 0x10 [])).pk.result = resFault ∧ (after (.pkJobDone 0 false) dry).pk.st = 2 := by decide +kernel

/-- A raw block that passes every test, with the bits of a 31-stage sequence. -/
def lfsr : Nat → Nat → List Bool
  | 0, _ => []
  | n + 1, x => (x % 2 == 1) :: lfsr n (if x % 2 = 1 then (x / 2) ^^^ 0x48000000 else x / 2)
def fairBits : List Bytes := (chunks 9 1024 (lfsr 4096 0x12345678)).map fun l => (chunks 129 8 l).map fun b => byte (b.foldl (fun a x => 2 * a + b2n x) 0)
def fair : RawBlock := { bits := fairBits, cycles := [64000, 64001, 64002, 64003] }

theorem wit_JobsRunOnTheirEngines_generator :
    let u := keyed.turn 0
    let inj : State := { keyed with objs := kvPut keyed.objs (key 0x3630 1) 1 }
    let fresh : State := { keyed with rng := { keyed.rng with startBlock := true } }
    let fatal : State := { keyed with rng := { keyed.rng with fatal := true } }
    let dead : State := { keyed with rng := { keyed.rng with failTimes := [0, 0, 0] } }
    let back : State := { keyed with rng := { keyed.rng with restarting := true, st := 1 } }
    u.rng.waits = [] ∧ u.rng.fatal = false ∧ (fatal.turn 0).rng.fatal = true ∧ u.rngRuns = true ∧ (inj.turn 0).rngInjecting = true ∧ u.rngInjecting = false ∧ (u.rngTest fair).code = 0 ∧ u.rng.startBlock = false ∧
    ((fresh.turn 0).rngTest fair).code = 0 ∧ (fresh.turn 0).rng.startBlock = true ∧ (u.rngTest { fair with kat := false }).code ≠ 0 ∧ u.rng.bufs.length = 8 ∧ 32 ≤ u.rngRoom 7 ∧ (dead.turn 0).rng.failTimes.length = 3 ∧
    (back.turn 0).rng.restarting = true ∧ (back.turn 0).rng.startBlock = false ∧ (back.turn 0).rng.st = 1 ∧ u.rng.restarting = false ∧ AcceptsRead u .host 0x3620 1 ∧ u.rngStopped 0 = false ∧ 32 ≤ (u.rngBuf 0).length ∧ (inj.turn 0).rngStopped 0 = false ∧
    (fatal.turn 0).rngStopped 0 = true ∧ AcceptsRead (fatal.turn 0) .host 0x3620 1 ∧ AcceptsRead (inj.turn 0) .host 0x3620 1 ∧ Accepts ((inSession inj 4).turn 0) can3 0x3630 1 (leBytes 1 4) ∧
    (after (.randomBytes 0 .host) keyed).rng.bufs.map (·.length) = [32, 0, 0, 0, 0, 0, 60, 0] ∧ told .host (after (.randomBytes 0 .host) inj) = some abBusy := by decide +kernel

/-- The journal runs on its medium, with two records in its tail and a key in slot 49. -/
def aRaw : JRaw := { ty := 0x10, utc := 0, src := 0, flags := 0, ms := 0, odo := 0, driver := 0, body := List.replicate 16 1 }
def aRec (n : Nat) : JRec := { raw := aRaw, num := n, chain := List.replicate 32 0 }
def logging : State :=
  let s := inSession keyed 2
  { s with
    rr := { s.rr with slots := kvPut s.rr.slots 49 { ty := 0x10, usage := 0x80, pers := true, gen := 3, key := List.replicate 31 0 ++ [1] } }
    jr := { live.jr with ready := true, st := 3, next := 5, tail := [aRec 3, aRec 4], tailBytes := 176, lastChk := 2, uncovered := some 3, uncoveredN := 2 } }
def nvOp (fx : NvFx) (cls : Nat) : NvOp := { cls := cls, unit := 0x0D, page := 70000, mask := 1, fx := fx }
def programs (s : State) (fx : NvFx) : State := { s with nv := { s.nv with run := some (nvOp fx 1), wait := [nvOp .page 2, nvOp .tag 0] } }
def onNand (k : NandKind) (row : Nat) (retry : Bool) : State :=
  { logging with jr := { logging.jr with op := some { kind := k, row := row, retry := retry, start := 0 }, pageRecs := [aRec 1], tail := [], tailBytes := 0 } }

theorem wit_StoresKeepTheirRecords :
    let u := logging.turn 0
    let p := (programs logging (.counter 33 2)).turn 0
    let q := raised { logging with nv := { logging.nv with deferred := [nvOp (.counter 45 2) 1], pend := [(33, 65530), (40, 2)] } }
    let f : Fence := { since := 0, first := 1, mask := 1, low := 0 }
    u.powered = true ∧ u.nv.run = none ∧ p.nv.run = some (nvOp (.counter 33 2) 1) ∧ p.fenced = false ∧ p.tagd.job = none ∧ ((raised (programs logging .page)).turn 0).fenced = true ∧ p.rr.sparesUsed < 20480 ∧
    (33 : Nat) ≠ 4 ∧ (kvGet {} p.rr.ctrs 33).value + 2 ≤ 2 ^ 48 - 1 ∧ (1679 : Nat) < 1680 ∧ u.nv.fence = none ∧ (q.turn 1999999).nv.fence = some f ∧ (q.turn 1999999).now < f.since + 2000000 ∧ f.since + 2000000 ≤ (q.turn 2000000).now ∧
    (q.turn 0).nv.run = none ∧ (q.turn 0).tagd.job = none ∧ (q.turn 0).nv.deferred = [nvOp (.counter 45 2) 1] ∧ (kvGet {} (q.turn 0).rr.ctrs 40).value + kvGet 0 (q.turn 0).nv.pend 40 ≤ 2 ^ 48 - 1 ∧
    (kvGet {} (after (.programComplete 0 0) (programs logging (.counter 33 2))).rr.ctrs 33).value = 2 ∧ (after (.programComplete 0 3) (programs logging .page)).rr.remapped = [70000] ∧ (after (.programComplete 0 0) (programs logging .page)).nv.run = some (nvOp .tag 0) ∧
    (after (.fenceUp 0 2 1680) logging).nv.fence = none ∧ (after (.fenceUp 0 2 1679) logging).nv.fence = some { since := 0, first := 2, mask := 4, low := 1679 } ∧ (kvGet {} (after (.fenceReleased 2000000) q).rr.ctrs 33).value = 65530 := by decide +kernel

theorem wit_StoresKeepTheirRecords_counters :
    let u := logging.turn 0
    let end_ : State := { logging with rr := { logging.rr with ctrs := [(63, { value := 2 ^ 48 - 2 })] } }
    let q := raised { logging with nv := { logging.nv with pend := [(33, 65530)] } }
    let held : State := { logging with nv := { logging.nv with compactDue := true }, rr := { logging.rr with boot := { logging.rr.boot with b0 := { head := 10, used := 2047, stamp := 3 }, recs := [(7, (4, 1))] } } }
    Accepts u can3 0x3811 64 (leBytes 2 65535) ∧ u.counterTakes 63 65535 = true ∧ u.fenced = false ∧ Accepts (end_.turn 0) can3 0x3811 64 (leBytes 2 2) ∧ (end_.turn 0).counterTakes 63 2 = false ∧ (end_.turn 0).counterTakes 63 1 = true ∧
    Accepts (q.turn 0) can3 0x3811 34 (leBytes 2 5) ∧ (q.turn 0).counterTakes 33 6 = true ∧ (q.turn 0).fenced = true ∧ kvGet 0 (q.turn 0).nv.pend 33 + 5 ≤ 65535 ∧ 65535 < kvGet 0 (q.turn 0).nv.pend 33 + 6 ∧
    (held.turn 10000000000).nv.compactDue = true ∧ (held.turn 10000000000).fenced = false ∧ (held.turn 10000000000).nv.lifted + 10000000000 ≤ (held.turn 10000000000).now ∧ u.nv.compactDue = false ∧
    (kvGet {} (after (.increment 0 can3 63 65535) logging).rr.ctrs 63).value = 65535 ∧ told can3 (after (.increment 0 can3 63 2) end_) = some abRange ∧ told can3 (after (.increment 0 can3 33 6) q) = some abFenced ∧ kvGet 0 (after (.increment 0 can3 33 5) q).nv.pend 33 = 65535 ∧
    (after (.conservativeCompactionDue 10000000000) held).rr.boot.b0 = { head := 13, used := 3, stamp := 4 } := by decide +kernel

theorem wit_StoresKeepTheirRecords_medium :
    let u := logging.turn 0
    let full : State := { (onNand .erase 64 false) with rr := { logging.rr with badBlocks := List.replicate 1024 9 } }
    let out : State := { logging with jr := { logging.jr with st := 4, retryAt := some 1000 } }
    let boot : State := { logging with jr := { live.jr with ready := false }, medium := { logging.medium with formatted := true } }
    ((u.jr.op = none ∧ ((onNand .erase 64 false).turn 0).jr.op = some { kind := .erase, row := 64, retry := false, start := 0 } ∧ ((onNand .program 63 true).turn 0).jr.st ≠ 2 ∧ ((onNand .program 63 true).turn 0).jr.op = some { kind := .program, row := 63, retry := true, start := 0 }) ∧
    (bit (0x04 : Byte).toNat 0 = false ∧ bit (0x04 : Byte).toNat 2 = true ∧ bit (0x08 : Byte).toNat 3 = true ∧ bit (0x01 : Byte).toNat 0 = true ∧ 1024 ≤ (full.turn 0).rr.badBlocks.length ∧ u.rr.badBlocks.length < 1024) ∧
    (((onNand .program 5 false).turn 999999).now < 0 + 1000000 ∧ 0 + 1000000 ≤ ((onNand .program 5 false).turn 1000000).now ∧ ((onNand .program 5 true).turn 1000000).jr.op.any (·.retry) = true ∧ ((onNand .erase 64 false).turn 9999999).now < 0 + 10000000) ∧
    (u.jr.retryAt = none ∧ (out.turn 1000).jr.retryAt = some 1000 ∧ (out.turn 1000).jr.st = 4 ∧ (out.turn 999).now < 1000 ∧ 1000 ≤ (out.turn 1000).now ∧ (out.turn 1000).idOk [0x2C, 1] = true)) ∧
    (((boot.turn 0).jr.ready = false ∧ (boot.turn 0).serving 0x0E = true ∧ (boot.turn 0).medium.formatted = true ∧ (boot.turn 0).idOk [0, 0] = true ∧ u.jr.ready = true ∧ ((lacking boot 0x0E).turn 0).serving 0x0E = false) ∧
    (Accepts u can3 0x3A01 5 [1] ∧ u.fenced = false ∧ u.jr.st = 3 ∧ 0 < u.nandTotal ∧ Accepts ((onNand .erase 64 false).turn 0) can3 0x3A01 5 [1] ∧ Accepts (out.turn 0) can3 0x3A01 5 [1]) ∧
    ((after (.nandOperationDone 0 0x04) (onNand .erase 64 false)).rr.badBlocks = [1] ∧ (after (.nandOperationDone 0 0) (onNand .program 5 false)).jr.head = 6 ∧ (after (.nandTimeout 1000000) (onNand .program 5 true)).jr.st = 4) ∧
    ((after (.format 0 can3 []) logging).jr.st = 2 ∧ told can3 (after (.format 0 can3 []) out) = some abUnavail ∧ (after (.journalReady 0 {}) boot).jr.st = 3 ∧ (after (.mediumRetry 1000 [0x2C, 1]) out).jr.st = 1)) :=
  ⟨by decide +kernel, by decide +kernel⟩

theorem wit_StoresKeepTheirRecords_journal :
    let u := logging.turn 0
    let many : State := { logging with jr := { logging.jr with uncoveredN := 5000 } }
    let ask (first len : Nat) : State := logging.setCtx { logging.ctx can3 with vals := [(key 0x3A20 1, first), (key 0x3A20 2, len)] }
    let open_ : State := { (ask 0 8) with dict := { (ask 0 8).dict with stream := some { c := .host, data := [], last := 0 } } }
    let i := u.conf 0x3A03 0x3A03 1 * 1000000000
    u.jr.ready = true ∧ u.jr.tail ≠ [] ∧ u.jr.pageAt + i ≤ (logging.turn i).now ∧ (logging.turn (i - 1)).now < u.jr.pageAt + i ∧ (live.turn 0).jr.ready = false ∧
    (many.turn 0).jr.uncovered = some 3 ∧ (many.turn 0).conf 0x3A03 0x3A03 2 ≤ (many.turn 0).jr.uncoveredN ∧ (many.turn 0).mayCheckpoint = true ∧ (many.turn 0).jr.dropRun = 0 ∧ ((many.turn 0).slot 49).ty = 0x10 ∧ ((many.turn 0).nonceExtra 0x10).isSome = true ∧ u.jr.uncoveredN < u.conf 0x3A03 0x3A03 2 ∧
    Accepts ((ask 0 8).turn 0) can3 0x3A20 3 [1] ∧ ((ask 0 8).turn 0).exportWaits = false ∧ ((ask 6 1048576).turn 0).cval can3 0x3A20 1 < ((ask 6 1048576).turn 0).jr.next ∧ ((ask 6 1048576).turn 0).cval can3 0x3A20 2 = 1048576 ∧ Accepts ((ask 4 12).turn 0) can3 0x3A20 3 [1] ∧ ((ask 7 8).turn 0).jr.next ≤ 7 ∧
    Accepts (open_.turn 0) can3 0x3A20 3 [1] ∧ (open_.turn 0).dict.stream.isSome = true ∧ ((ask 0 8).turn 0).dict.stream.isNone = true ∧ (open_.turn 0).exportWaits = false ∧
    (after (.flushInterval i) logging).jr.flushing = true ∧ told can3 (after (.requestExport 0 can3) (ask 7 8)) = some abRange ∧ told can3 (after (.requestExport 0 can3) open_) = some abBusy := by decide +kernel

/-- Objects set in both stores. -/
def setting (s : State) (l : List (Nat × Nat)) : State :=
  { s with objs := l.foldl (fun o e => kvPut o e.1 e.2) s.objs, rr := { s.rr with objs := l.foldl (fun o e => kvPut o e.1 e.2) s.rr.objs } }
/-- Timer 2 as given, in a session on channel 3, with its mode, prescaler and capture source. -/
def timing (t : Timer) (mode src : Nat) : State :=
  let s := inSession live 2
  { (setting s [(key 0x4512 1, mode), (key 0x4512 2, 3), (key 0x4512 6, src), (key 0x4512 0xE, 77)]) with timers := [(2, t)] }
/-- A timer that runs at the peripheral clock from a count. -/
def at_ (n cmp : Nat) : Timer := { running := true, base := n, cmp := cmp }

theorem wit_TimersMatchCaptureAndObey :
    let hit := timing (at_ 5 53) 1 0
    let linked : State := { hit with timers := [(2, at_ 5 53), (3, { at_ 9 0 with master := 2, actions := 15 }), (4, { at_ 9 0 with master := 2, actions := 2 })] }
    let past := timing (at_ (2 ^ 32 - 1) 0) 0 0
    let u := hit.turn 625
    let stopped := timing { base := 9 } 2 6
    (((2 : Nat) < 8 ∧ u.powered = true ∧ (u.timer 2).running = true ∧ (u.timer 2).from_ ≤ u.pclk ∧ (u.timer 2).count u.pclk = (u.timer 2).cmp ∧ (u.timer 2).matchedAt ≠ some ((u.timer 2).tickAt u.pclk) ∧ (hit.turn 626).powered = true) ∧
    ((((List.range 8).all fun j => (u.timer j).master != 2) = true) ∧ ((linked.turn 625).timer 3).master = 2 ∧ ((linked.turn 625).timer 4).master = 2 ∧ ((hit.turn 700).timer 2).count (hit.turn 700).pclk ≠ 53 ∧ u.obj 0x4512 1 % 4 = 1) ∧
    (((past.turn 625).timer 2).running = true ∧ 2 ^ 32 ≤ ((past.turn 625).timer 2).raw (past.turn 625).pclk ∧ (u.timer 2).raw u.pclk < 2 ^ 32) ∧
    (Accepts u can3 0x4512 4 (leBytes 4 (2 ^ 32 - 1)) ∧ Accepts u can3 0x4512 4 (leBytes 4 53) ∧ Accepts u can3 0x4512 0xB [1] ∧ Accepts u can3 0x4512 0xB [2] ∧ Accepts u can3 0x4512 0xB [3] ∧ Accepts u can3 0x4512 0xB [4] ∧ Accepts u can3 0x4512 8 (leBytes 1 7))) ∧
    ((Accepts u can3 0x4501 1 (leBytes 1 31) ∧ Accepts u can3 0x4501 2 (leBytes 1 32) ∧ Accepts u can3 0x4501 3 (leBytes 1 255) ∧ bit 31 2 = true ∧ bit 27 2 = false) ∧
    (((after (.timerMatch 625 2) hit).timer 2).matches_ = 1 ∧ (((after (.timerMatch 625 2) (timing (at_ 5 53) 2 0)).timer 2).running = false) ∧ ((after (.timerMatch 625 2) linked).timer 4).running = false ∧ ((after (.timerMatch 625 2) linked).timer 3).capture = 58) ∧
    (((after (.compare 625 can3 2 53 true) hit).timer 2).matches_ = 2 ∧ ((after (.timerOverflow 625 2) past).timer 2).ovfs = 1 ∧ (((after (.groupStop 0 can3 4) hit).timer 2).running = false) ∧ told can3 (after (.groupStop 0 can3 32) hit) = some abRole) ∧
    (((after (.timerRestart 0 can3 2) stopped).timer 2).cmp = 77 ∧ ((after (.timerClear 0 can3 2 1) (timing { mtch := true, ovf := true } 0 0)).timer 2).ovf = true)) :=
  ⟨by decide +kernel, by decide +kernel⟩

theorem wit_TimersMatchCaptureAndObey_captures :
    let src (n : Nat) : State := timing { at_ 5 53 with new := true } 0 n
    let held : State := timing { at_ 5 53 with pend := some (9, 0) } 0 5
    ((src 0).turn 0).obj 0x4512 6 = 0 ∧ ((src 6).turn 0).obj 0x4512 6 = 6 ∧ ((src 1).turn 0).obj 0x4512 6 = 1 ∧ ((src 5).turn 0).obj 0x4512 6 = 5 ∧ Accepts ((src 6).turn 0) can3 0x4512 0xF [1] ∧ Accepts ((src 5).turn 0) can3 0x4512 0xF [1] ∧
    ((held.turn 625).timer 2).pend = some (9, 0) ∧ 0 < (held.turn 625).pclk ∧ (((src 1).turn 0).timer 2).pend = none ∧
    ((after (.capture 625 2 false) (src 1)).timer 2).capture = 53 ∧ ((after (.capture 625 2 false) (src 1)).timer 2).overrun = true ∧ ((after (.capture 625 2 true) (src 1)).timer 2).pend = some (53, 48) ∧ ((after (.captureTrigger 625 can3 2) (src 6)).timer 2).capture = 53 ∧
    ((after (.capture 625 2 false) (src 6)).timer 2).capture = 0 ∧ ((after (.capture 625 2 true) held).timer 2).overrun = true := by decide +kernel

/-- A part with a paired motion sensor. -/
def serial8 : Bytes := [1, 2, 3, 4, 5, 6, 7, 8]
def devNonce : Bytes := [9, 9, 9, 9, 0, 0, 0, 1]
def sensing (d : Dist) : State :=
  let s := setting (inSession live 2) [(key 0x4802 1, leNat serial8)]
  { s with rr := { s.rr with slots := [(2, { ty := 1, usage := 0x10, pers := true, gen := 1, key := List.replicate 16 4 })] }, dist := d }
def sessKey : Bytes := kdf (List.replicate 16 4) (ascii "KV-MSLINK") (serial8 ++ devNonce ++ List.replicate 8 7) 128
/-- A frame of a type with its MAC under the session key. -/
def macked (ty : Nat) (b : Bytes) : Bytes := msFrame ty (b ++ (cmac sessKey (ascii "KVMS" ++ [byte ty] ++ devNonce ++ b)).take 8)
def opened : Dist := { live.dist with coeff := 8000, link := 1, opening := true, devNonce := devNonce, reqAt := some 0 }
def linked : Dist := { live.dist with coeff := 8000, link := 2, devNonce := devNonce, key := some sessKey, reqAt := some 0, reqNo := 7, await := true, latched := 50, unanswered := 1 }

theorem wit_DistanceTimeAndSchedule :
    let u := (sensing opened).turn 0
    let idle : Dist := { live.dist with coeff := 8000 }
    let near : State := { (sensing idle) with aon := { live.aon with acc := 7990 } }
    u.powered = true ∧ u.serving 0x33 = true ∧ ((lacking live 0x33).turn 0).serving 0x33 = false ∧ u.dist.source = 0 ∧ u.obj 0x4411 1 = 8000 ∧ u.aon.acc + 10 < 8000 ∧ 8000 ≤ (near.turn 0).aon.acc + 10 ∧ (near.turn 0).aon.acc + 10 < 16000 ∧
    (near.turn 0).counterTakes 0 1 = true ∧ (near.turn 0).fenced = false ∧ ((raised near).turn 0).fenced = true ∧ ((raised near).turn 0).counterTakes 0 1 = true ∧
    u.objBytes 8 0x4802 1 ≠ List.replicate 8 0 ∧ ((sensing idle).turn 0).dist.reqAt = none ∧ u.dist.reqAt = some 0 ∧ ¬(0 + 5000000000 ≤ ((sensing opened).turn 4999999999).now) ∧ (live.turn 0).objBytes 8 0x4802 1 = List.replicate 8 0 ∧
    u.dist.opening = true ∧ u.dist.pairingFault = false ∧ u.trustLost = false ∧ u.serving 0x09 = true ∧ (u.slot 2).ty ≠ 0 ∧ msPayload 0x81 24 (msFrame 0x81 (List.replicate 24 0)) = some (List.replicate 24 0) ∧ msPayload 0x81 24 [] = none ∧ ((sensing linked).turn 0).dist.opening = false ∧
    (msPayload 0x81 24 (macked 0x81 (serial8 ++ List.replicate 8 7))).map (·.take 16) = some (serial8 ++ List.replicate 8 7) ∧ (msPayload 0x81 24 (msFrame 0x81 (serial8 ++ List.replicate 16 7))).isSome = true ∧
    (after (.msPulse 0) near).aon.acc = 0 ∧ (after (.sessionReq 0) (sensing { live.dist with coeff := 8000 })).dist.session = 1 := by decide +kernel

theorem wit_DistanceTimeAndSchedule_data :
    let w := (sensing linked).turn 1000000000
    let p7 := beBytes 2 7 ++ beBytes 4 20 ++ [0]
    let p8 := beBytes 2 8 ++ beBytes 4 20 ++ [0]
    w.dist.link = 2 ∧ w.dist.dataAt + w.obj 0x4802 3 * 1000000 ≤ w.now ∧ w.dist.unanswered + b2n w.dist.await = 2 ∧ w.dist.reqNo < 65535 ∧ ((sensing { linked with unanswered := 2 }).turn 1000000000).dist.unanswered = 2 ∧ ((sensing linked).turn 999999999).now < w.dist.dataAt + w.obj 0x4802 3 * 1000000 ∧
    w.dist.key = some sessKey ∧ w.dist.await = true ∧ (msPayload 0x82 15 (macked 0x82 p7)).map (·.take 7) = some p7 ∧ (msPayload 0x82 15 (macked 0x82 p8)).map (·.take 7) = some p8 ∧ w.trustLost = false ∧ w.dist.prevCount = none ∧ ((sensing { linked with prevCount := some 5 }).turn 0).dist.prevCount = some 5 ∧
    (after (.dataReq 1000000000) (sensing linked)).dist.reqNo = 8 ∧ (after (.dataReq 1000000000) (sensing { linked with unanswered := 2 })).dist.link = 3 ∧
    (after (.sessionResp 0 (msFrame 0x81 (List.replicate 24 0))) (sensing opened)).dist.pairingFault = true := by decide +kernel

/-- A sentence with its checksum. -/
def sentence (t : String) : Bytes :=
  let b := ascii t
  let x := b.foldl (fun (a : Nat) c => a ^^^ c.toNat) 0
  let h := fun (n : Nat) => if n < 10 then byte (48 + n) else byte (55 + n)
  [0x24] ++ b ++ [0x2A, h (x / 16), h (x % 16), 0x0D, 0x0A]

theorem wit_DistanceTimeAndSchedule_gnss :
    let s : State := { (inSession live 2) with gnss := { live.gnss with valid := true, pps := some 0, ppsCount := 0 }, rr := { live.rr with tamper := 0x38 } }
    let u := s.turn 0
    let rmc := sentence "GNRMC,123519.00,A,4807.0380,N,01131.0000,E,022.4,084.4,230394,,,A"
    let none_ := sentence "GNRMC,123519.00,V,,,,,,,230394,,,N"
    let gga := sentence "GPGGA,123519.00,4807.038,S,01131.000,W,1,08,0.9,545.4,M,46.9,M,,"
    let r : SchedEntry := { next := some 3, seen := 1, cfg := (live.turn 0).snapRange 0x4610 0x4610 }
    let test (q : SchedEntry) (dt : Nat) : State := (raised { live with sched := { live.sched with es := [(0, q)] } }).turn dt
    let v := test r 3000000
    let parked : State := { live with aon := { live.aon with mode := 1 } }
    ((u.powered = true ∧ u.serving 0x34 = true ∧ ((lacking live 0x34).turn 0).serving 0x34 = false ∧ nmeaBody [1, 2, 3] = none ∧ (nmeaBody rmc).isSome = true ∧ (nmeaBody none_).isSome = true ∧ (nmeaBody gga).isSome = true ∧ (nmeaBody (sentence "GPGSV,1")).isSome = true) ∧
    ((s.turn 1000000000).gnss.pps = some 0 ∧ 76723200 ≤ (s.turn 999000000).pclk - 0 ∧ (s.turn 1001000000).pclk - 0 ≤ 76876800 ∧ (s.turn 998999999).pclk - 0 < 76723200 ∧ 76876800 < (s.turn 1001000020).pclk ∧ bit u.gnss.raised 11 = false) ∧
    (u.gnss.valid = true ∧ (s.turn 2999999999).now < u.gnss.pps.getD 0 + 3000000000 ∧ u.gnss.pps.getD 0 + 3000000000 ≤ (s.turn 3000000000).now ∧ (live.turn 0).gnss.valid = false) ∧
    ((live.turn 1000000).serving 0x32 = true ∧ (live.turn 1000000).schedDue = true ∧ (live.turn 999999).schedDue = false ∧ (live.turn 1000000).sched.last + 1000000 ≤ (live.turn 1000000).now ∧ ((lacking live 0x32).turn 0).serving 0x32 = false)) ∧
    ((kvGet {} v.sched.es 0 = r ∧ r.cfg = v.snapRange (0x4610 + 0) (0x4610 + 0) ∧ v.basis (v.schedConf 0 1) = some 3 ∧ v.fenced = true ∧ (test r 2000000).basis ((test r 2000000).schedConf 0 1) = some 2 ∧ (test { r with seen := 9 } 0).basis 1 = some 0 ∧ v.schedConf 0 3 ≠ 0) ∧
    (Accepts u can3 0x4803 2 (leBytes 1 0x38) ∧ u.fenced = false ∧ u.rr.tamper < 256 ∧ (parked.turn 0).powered = false ∧ live.powered = true) ∧
    ((after (.nmeaSentence 0 rmc) s).gnss.lat = 481173000 ∧ (after (.nmeaSentence 0 none_) s).gnss.rmcFix = false ∧ (after (.nmeaSentence 0 gga) s).gnss.hdop = 9 ∧ (after (.nmeaSentence 0 [1, 2, 3]) s).gnss.rejected = 1 ∧ bit (after (.ppsTimeout 3000000000) s).gnss.raised 11 = true) ∧
    ((v.schedTest1 0).sched.es.map (·.2.fired) = [1] ∧ (after (.clearTamperFlags 0 can3 0x10) s).rr.tamper = 0x28 ∧ (after (.parkedPulse 0 [false, false, true, true]) parked).aon.parked = 1 ∧ bit (after (.gnPps 998999999) s).gnss.raised 11 = true)) :=
  ⟨by decide +kernel, by decide +kernel⟩

/-- A controller that takes part in bus 0, in a session on channel 3, with its first buffer's identifier, flags and DLC. -/
def onBus (x : CanCtl) (flags : Nat) : State :=
  (setting (inSession live 2) [(key 0x4110 1, 5), (key 0x4110 2, flags), (key 0x4110 3, 1), (key 0x4122 1, 0x80), (key 0x4122 2, 0x81), (key 0x4120 2, 1), (key 0x4121 1, 3), (key 0x4121 2, 3), (key 0x4122 3, 0x82), (key 0x4120 3, 2), (key 0x4121 3, 3)]).setCtl 0 x
def active : CanCtl := { live.can0 with st := 2 }
def txBuf (st : Nat) (one late : Bool) : TxBuf := { st := st, fr := { id := 5 }, oneShot := one, abortLate := late }
def bufs0 (y : TxBuf) (cur : Bool) : CanCtl := { active with bufs := [y, {}, {}], cur := if cur then some { buf := some 0, fr := { id := 5 }, start := 0 } else none }

theorem wit_ControllersAndTimeMasterRun :
    let u := (onBus active 0).turn 0
    let two : CanCtl := { active with bufs := [txBuf 1 false false, { st := 1, fr := { id := 3 } }, {}], queue := [{ cls := .bellwether, fr := { id := 4 } }] }
    let dev : CanCtl := { active with cur := some { buf := none, fr := { id := 4 }, start := 0 } }
    let fifoMode := setting (onBus two 0) [(key 0x4101 0xF, 1)]
    u.powered = true ∧ (0 : Nat) < 2 ∧ Accepts u can3 0x4110 5 [1] ∧ Accepts u can3 0x4110 5 [2] ∧ ((u.ctl 0).buf 0).st = 0 ∧ (((onBus (bufs0 (txBuf 2 false false) true) 0).turn 0).ctl 0).buf 0 = txBuf 2 false false ∧
    (((onBus (bufs0 (txBuf 1 false false) false) 0).turn 0).ctl 0).buf 0 = txBuf 1 false false ∧ ((onBus active 0x40).turn 0).obj 0x4110 2 = 0x40 ∧ bit 0x40 7 = false ∧ bit 0x40 6 = true ∧ Accepts ((onBus active 0x40).turn 0) can3 0x4110 5 [1] ∧ u.canModeSends 0 = true ∧
    (u.ctl 0).cur = none ∧ u.canSends 0 = true ∧ (u.ctl 0).sources = [] ∧ (((onBus two 0).turn 0).ctl 0).sources ≠ [] ∧ ((onBus two 0).turn 0).canObj 0 0x4101 0xF = 0 ∧ (fifoMode.turn 0).canObj 0 0x4101 0xF = 1 ∧ (((onBus dev 0).turn 0).ctl 0).cur = some { buf := none, fr := { id := 4 }, start := 0 } ∧
    (((onBus (bufs0 (txBuf 2 true false) true) 0).turn 0).ctl 0).cur = some { buf := some 0, fr := { id := 5 }, start := 0 } ∧ (((onBus { (bufs0 (txBuf 2 true false) true) with tec := 248 } 0).turn 0).ctl 0).tec + 8 = 256 ∧ (u.ctl 0).tec + 8 < 256 ∧
    ((after (.txRequest 0 can3 0 0) (onBus active 0)).ctl 0).bufs.map (·.st) = [1, 0, 0] ∧ told can3 (after (.txRequest 0 can3 0 0) (onBus active 0x40)) = some abRange ∧ ((after (.txChoice 0 0) (onBus two 0)).ctl 0).cur.map (·.buf) = some (some 1) ∧ ((after (.txChoice 0 0) fifoMode).ctl 0).cur.map (·.buf) = some none ∧
    ((after (.frameEnd 0 0 .lostArbitration) (onBus (bufs0 (txBuf 2 true false) true) 0)).ctl 0).bufs.map (·.result) = [2, 0, 0] ∧ ((after (.frameEnd 0 0 (.sent 0)) (onBus (bufs0 (txBuf 2 false true) true) 0)).ctl 0).bufs.map (·.result) = [4, 0, 0] ∧
    ((after (.frameEnd 0 0 (.error 1 false)) (onBus { (bufs0 (txBuf 2 true false) true) with tec := 248 } 0)).ctl 0).st = 4 := by decide +kernel

theorem wit_ControllersAndTimeMasterRun_reception :
    let u := (onBus active 0).turn 0
    let f (n : Nat) : CanFrame := { id := n, dlc := 1, data := [7] }
    let recd : RxRec := { fr := f 1, hp := true, filter := 1, at_ := 0 }
    let full : CanCtl := { active with fifo := List.replicate 32 recd, hp := some recd, hpNew := true, hpOver := true }
    let off : CanCtl := { active with st := 4, tec := 256 }
    let manual := setting (onBus off 0) [(key 0x4101 0x10, 1)]
    (((u.ctl 0).st = 2 ∧ (((onBus off 0).turn 0).ctl 0).st = 4 ∧ (u.ctl 0).tec < 256 ∧ (List.range 32).find? (fun k => u.filterTakes 0 k (f 0)) = some 0 ∧ (List.range 32).find? (fun k => u.filterTakes 0 k (f 1)) = some 1 ∧ (List.range 32).find? (fun k => u.filterTakes 0 k (f 2)) = some 2 ∧ (List.range 32).find? (fun k => u.filterTakes 0 k (f 3)) = none) ∧
    (u.canObj 0 0x4122 1 % 4 = 0 ∧ u.canObj 0 0x4122 2 % 4 = 1 ∧ u.canObj 0 0x4122 3 % 4 = 2 ∧ (u.ctl 0).fifo.length < 32 ∧ 32 ≤ (((onBus full 0).turn 0).ctl 0).fifo.length ∧ (u.ctl 0).hpPend = none ∧ (((onBus full 0).turn 0).ctl 0).hpNew = true) ∧
    (AcceptsRead u can3 0x4130 3 ∧ AcceptsRead u can3 0x4131 2 ∧ Accepts u can3 0x4131 3 [1] ∧ Accepts u can3 0x4102 6 [1] ∧ Accepts (manual.turn 0) can3 0x4102 6 [1] ∧ (manual.turn 0).canObj 0 0x4101 0x10 = 1 ∧ ((manual.turn 0).ctl 0).st = 4)) ∧
    ((((onBus off 0).turn 0).canObj 0 0x4101 0x10 = 0 ∧ (((onBus off 0).turn 100000000).ctl 0).offAt + ((onBus off 0).turn 0).canObj 0 0x4101 0x11 * 1000000 ≤ ((onBus off 0).turn 100000000).now ∧ ((onBus off 0).turn 99999999).now < 100000000 ∧ ((onBus off 0).turn 0).lasting 0x1C = false) ∧
    ((((onBus { off with st := 5 } 0).turn 0).ctl 0).st = 5 ∧ (((onBus { active with st := 1 } 0).turn 0).ctl 0).st = 1 ∧ u.ownState 0x2E ≠ stStopped ∧ u.ownState 0x2E ≠ stOff ∧ (u.ctl 0).clkRc = u.sup.rc ∧ (let r := ({ (onBus active 0) with sup := { live.sup with rc := true } } : State).turn 0; (r.ctl 0).clkRc ≠ r.sup.rc ∧ r.rcTolerant 0 = false)) ∧
    (((after (.frameReceived 0 0 (f 0) false) (onBus active 0)).ctl 0).fifo.length = 1 ∧ ((after (.frameReceived 0 0 (f 0) false) (onBus full 0)).ctl 0).drops = 1 ∧ ((after (.frameReceived 0 0 (f 1) false) (onBus active 0)).ctl 0).hp.isSome = true ∧ ((after (.frameReceived 0 0 (f 1) true) (onBus active 0)).ctl 0).hpPend.isSome = true) ∧
    (((after (.nextRecord 0 can3 0) (onBus full 0)).ctl 0).fifo.length = 31 ∧ ((after (.highPriorityRecord 0 can3 0) (onBus full 0)).ctl 0).hpNew = false ∧ ((after (.recoveryDelay 100000000 0) (onBus off 0)).ctl 0).st = 5 ∧ told can3 (after (.recover 0 can3 0) (onBus off 0)) = some abSequence ∧ ((after (.busRecovered 0 0) (onBus { off with st := 5 } 0)).ctl 0).tec = 0)) :=
  ⟨by decide +kernel, by decide +kernel⟩

theorem wit_ControllersAndTimeMasterRun_bellwether :
    let with_ (b : Bell) : State := { (setting (onBus active 0) [(key 0x4301 1, 2)]) with bell := b }
    let m : Bell := { live.bell with st := 3 }
    let sl : Bell := { live.bell with st := 1 }
    let ok : Bell := { sl with st := 2, valid := true, rate := some (10, 768), high := some 0, lastPair := some (768, 10) }
    let ref : CanFrame := { id := 16, dlc := 8, data := [0x45, 8, 0, 0, 0, 0, 0, 0] }
    let ep : CanFrame := { id := 16, dlc := 8, data := [0x85, 0, 1, 0, 0, 0, 0, 0] }
    let mu : State := { (with_ m) with can0 := { active with st := 4 } }
    ((((with_ m).turn 100000000).bell.st = 3 ∧ 0 + ((with_ m).turn 0).bellObj 4 * 1000000 ≤ ((with_ m).turn 100000000).now ∧ ((with_ m).turn 99999999).now < 100000000 ∧ ((with_ m).turn 0).serving 0x30 = true ∧ ((with_ m).turn 0).canSends ((with_ m).turn 0).bellBus = true ∧ (((with_ m).turn 0).ctl 0).queue = []) ∧
    ((mu.turn 0).canSends (mu.turn 0).bellBus = false ∧ ((with_ sl).turn 0).bellTakes ref 1 = true ∧ ((with_ sl).turn 0).bellTakes ep 2 = true ∧ ((with_ sl).turn 0).bellTakes ref 2 = false ∧ ((with_ m).turn 0).bellObj 5 = 8 ∧ (ref.data.getD 1 0).toNat % 16 = 8) ∧
    (((with_ ok).turn 0).bell.lastPair = some (768, 10) ∧ 768 < 1536 ∧ ((((20 - 10) * 384 : Nat) : Int) - (((1536 - 768) * 5 : Nat) : Int)).natAbs * 1000000 ≤ 200 * ((1536 - 768) * 5) ∧ ((with_ ok).turn 0).bell.high.isSome = true ∧ (with_ sl).bell.st ≠ 3 ∧ (with_ sl).bell.rate = none ∧ (with_ ok).bell.rate.isSome = true)) ∧
    ((((with_ sl).turn 0).bellObj 1 = 2 ∧ ((with_ sl).turn 0).bell.slaveOnly = false ∧ 0 + (3 + 8) * (100 * 1000000) + 0 ≤ ((with_ sl).turn 1100000000).now ∧ ((with_ sl).turn 1099999999).now < 1100000000 ∧ ((with_ ok).turn 0).bellObj 6 = 3 ∧ 0 + 3 * (100 * 1000000) < ((with_ ok).turn 300000001).now ∧ ((with_ ok).turn 300000000).now = 300000000) ∧
    ((after (.ref 100000000) (with_ m)).bell.seq = 1 ∧ (after (.ref 100000000) mu).bell.first = true ∧ (after (.refReceived 0 ref) (with_ m)).bell.st = 1 ∧ (after (.refReceived 0 ref) (with_ sl)).bell.seq = 5 ∧ (after (.epochReceived 0 ep) (with_ sl)).bell.high = some 1) ∧
    ((after (.masterTaken 1100000000) (with_ sl)).bell.st = 3 ∧ (after (.masterTaken 1099999999) (with_ sl)).bell.st = 1 ∧ (after (.refTimeout 300000001) (with_ ok)).bell.valid = false ∧ (after (.refTimeout 300000000) (with_ ok)).bell.valid = true)) :=
  ⟨by decide +kernel, by decide +kernel⟩


/-- A part with a supervision record. -/
def withSup (s : State) (f : Sup → Sup) : State := { s with sup := f s.sup }
/-- The state of the reset, with firmware banks. -/
def banked (a b : FwBank) : State := { State.reset with rr := { State.reset.rr with fwA := a, fwB := b } }

theorem wit_ResetsSuppliesClocksAndFaults :
    let s := inSession live 2
    let u := s.turn 0
    let ask (c : Client) (at_ : Nat) : State := withSup live fun p => { p with pendingReset := some (6, c, at_) }
    let replying : State := { ask .host 0 with host := { live.host with busy := true } }
    let hot := withSup live fun p => { p with held := true }
    let o : BootObs := {}
    ((railReset 1 = 2800 ∧ (2799 : Nat) < 2800 ∧ Accepts u can3 0x1210 3 [1] ∧ (live.turn 0).sup.pendingReset = none ∧ ((ask can3 0).turn 0).sup.pendingReset = some (6, can3, 0) ∧ ((ask can3 0).turn 0).responseGone can3 = true) ∧
    ((replying.turn 99999999).responseGone .host = false ∧ (replying.turn 99999999).now < 0 + 100000000 ∧ (replying.turn 100000000).now = 0 + 100000000 ∧ (replying.turn 0).powered = true ∧ (hot.turn 0).powered = false) ∧
    ((State.reset.turn 0).sup.held = true ∧ (State.reset.turn 0).aon.mode = 0 ∧ (State.reset.turn 0).aon.resetKind ≠ 5 ∧ nth 0 o.rails 1 = 3300 ∧ nth 0 o.rails 4 = 3300 ∧ (State.reset.turn 0).rr.lifecycle = lcFactory ∧ (live.turn 0).sup.held = false) ∧
    ((State.reset.turn 0).rr.trialBank = none ∧ ((State.reset.turn 0).rr.admitted (State.reset.turn 0).rr.active).isSome = true ∧ ((banked {} {}).turn 0).rr.admitted 0 = none ∧ ((banked {} {}).turn 0).rr.admitted 1 = none ∧ ((banked {} {}).turn 0).rr.active = 0 ∧ (kvGet {} State.reset.rr.ctrs 1).value < 2 ^ 48 - 1)) ∧
    ((tjOf [0, 459, 0, 0] < 460 ∧ ¬(tjOf [0, 460, 0, 0] < 460) ∧ u.powered = true ∧ (839 : Nat) < 840 ∧ u.ownState 0x25 ≠ stOff ∧ u.ownState 0x25 ≠ stStopped) ∧
    (((withSup live fun p => { p with serLow := true }).turn 0).sup.serLow = true ∧ u.sup.rc = false ∧ u.sup.hot = false ∧ u.sup.pllS = false ∧ u.sup.serLow = false ∧ ((withSup live fun p => { p with rc := true }).turn 100000000).lasting 8 = false ∧ 0 + 100000000 ≤ ((withSup live fun p => { p with rc := true }).turn 100000000).now) ∧
    (((withSup live fun p => { p with pllS := true }).turn 0).sup.pllS = true ∧ ((withSup live fun p => { p with pllCan := true }).turn 0).sup.pllCan = true ∧ u.ownState 0x2E ≠ stStopped ∧ u.ownState 0x2F ≠ stOff ∧ ((live.setUnit 0x2E stFailed).turn 0).ownState 0x2E = stFailed) ∧
    (tjOf [0, 500, 3, 4] = 500 ∧ tjOf [0, -3, 540, 4] = 540 ∧ tjOf [479, 0, 0, 0] < 480 ∧ ((withSup live fun p => { p with hot := true }).turn 0).sup.hot = true ∧ 3 % 4 + 3 = 6)) ∧
    (((after (.railReset 0 1 2799) live).sup.held = true ∧ (after (.railReset 0 1 2800) live).sup.held = false ∧ (after (.railReset 0 4 2499) live).aon.resetKind = 1 ∧ (after (.externalReset 0 999) live).sup.held = false ∧ (after (.externalReset 0 1000) live).aon.resetKind = 3) ∧
    ((after (.deferredReset 0) (ask can3 0)).aon.resetKind = 6 ∧ (after (.deferredReset 99999999) replying).sup.held = false ∧ (after (.deferredReset 100000000) replying).sup.held = true) ∧
    ((after (.coldStart 0 {}) State.reset).sup.held = false ∧ (after (.coldStart 0 {}) (banked {} {})).sup.bootRom = true ∧ (after (.coldStart 0 { testMode := true }) State.reset).sup.scan = true ∧ (after (.coldStart 0 { rails := [699, 3300, 1800, 900, 3300] }) State.reset).sup.held = true) ∧
    ((after (.vddSerLow 0 839) live).ownState 0x04 = stFailed ∧ (after (.vddSerLow 0 840) live).ownState 0x04 ≠ stFailed ∧ (after (.clockLost 0) live).sup.rc = true ∧ (after (.pllLockLost 0 .core) live).aon.resetKind = 8 ∧ (after (.temperature 0 [500, 0, 0, 0]) live).sup.hot = true ∧ (after (.thermalReset 0 [539, 0, 0, 0]) live).sup.held = false)) :=
  ⟨by decide +kernel, by decide +kernel, by decide +kernel⟩

theorem wit_ResetsSuppliesClocksAndFaults_sources :
    let e : FaultEntry := { src := 8, unit := 0x37, code := 0x1204, ms := 5 }
    let with_ (n st : Nat) (role : Nat) : State := withSup (inSession live role) fun p => { p with srcs := [(n, { st := st, times := [0], total := 3, quiet := 0 })], faults := [e] }
    let u := (with_ 7 2 2).turn 600000000000
    ((u.powered = true ∧ (u.src 7).quiet + 600000000000 ≤ u.now ∧ (u.src 7).st = 2 ∧ ((with_ 7 2 2).turn 599999999999).now < 600000000000 ∧ ((with_ 0x1A 2 2).turn 0).src 0x1A = { st := 2, times := [0], total := 3, quiet := 0 }) ∧
    (({ (with_ 0x1A 2 2) with jr := { live.jr with st := 3 } }.turn 0).jr.st = 3 ∧ ({ (with_ 0x1B 2 2) with dist := { live.dist with link := 2 } }.turn 600000000000).dist.link = 2) ∧
    (unitFind 0x9999 = none ∧ unitFind 0x37 ≠ none ∧ Accepts u can3 0x1302 1 (leBytes 2 0x37) ∧ Accepts u can3 0x1302 1 (leBytes 2 0x9999) ∧ Accepts u can3 0x1302 2 (leBytes 1 7) ∧ Accepts ((with_ 7 2 1).turn 0) can3 0x1302 2 (leBytes 1 1) ∧ ((with_ 7 2 1).turn 0).role can3 = roleH) ∧
    (((with_ 7 1 2).turn 0).srcState 7 = 1 ∧ ((with_ 7 2 2).turn 0).srcState 7 = 2 ∧ ((with_ 0x0D 2 2).turn 0).srcState 0x0D = 2 ∧ ((with_ 7 2 2).turn 0).srcState 8 = 0 ∧ AcceptsRead u can3 0x1320 1 ∧ u.sup.faults = [e] ∧ (live.turn 0).sup.faults = [])) ∧
    ((((after (.faultEnded 600000000000 7) (with_ 7 2 2)).src 7).st = 0 ∧ ((after (.faultEnded 599999999999 7) (with_ 7 2 2)).src 7).st = 2 ∧ told can3 (after (.clearSource 0 can3 7) (with_ 7 2 2)) = some abSequence ∧ ((after (.clearSource 0 can3 0x0D) (with_ 0x0D 2 2)).src 0x0D).st = 0 ∧ ((after (.clearSource 0 can3 7) (with_ 7 1 2)).src 7).total = 3) ∧
    (told can3 (after (.clearSource 0 can3 1) (with_ 7 2 1)) = some abRole ∧ told can3 (after (.clearSummary 0 can3 0x9999) (with_ 7 2 2)) = some abRange ∧ (after (.clearSummary 0 can3 0x37) { (with_ 7 2 2) with sticky := [(0x37, 2), (0x11, 1)] }).sticky = [(0x11, 1)]) ∧
    ((after (.nextFaultEntry 0 can3) (with_ 7 2 2)).sup.faults = [] ∧ ((after (.nextFaultEntry 0 can3) (with_ 7 2 2)).ctx can3).reply.map (·.data) = some e.bytes) ∧
    (((after (.glitch 0 true false) live).src 1).total = 1 ∧ ((after (.glitch 0 true false) live).src 2).total = 1 ∧ ((after (.glitch 0 true false) live).src 3).total = 0 ∧ ((after (.watchdogExpiry 0 (.se 5)) live).src 4).total = 1 ∧ ((after (.lockstepMismatch 0 true) live).src 2).total = 1)) :=
  ⟨by decide +kernel, by decide +kernel⟩

theorem wit_ParkingTamperLifecycleAndUpdates :
    let p (step : Nat) : State := withSup live fun q => { q with parkStep := step }
    let free := inSession live 1
    let moving := withSup free fun q => { q with trial := true }
    let u := free.turn 0
    let idle := setting live [(key 0x1201 3, 5)]
    let done := p 4
    let polling : State := { (setting done [(key 0x2020 2, 1)]) with aon := { live.aon with rooster := { live.aon.rooster with st := 1 } } }
    let gated : State := { live with aon := { live.aon with mode := 1 } }
    let trial := withSup live fun q => { q with trial := true, step6 := some 0, running := 1 }
    (((live.turn 0).mayPark = true ∧ u.mayPark = true ∧ Accepts u can3 0x1201 2 [1] ∧ u.sup.parkStep = 0 ∧ (moving.turn 0).mayPark = false ∧ Accepts (moving.turn 0) can3 0x1201 2 [1] ∧ (idle.turn 5000000000).obj 0x1201 3 = 5 ∧ (idle.turn 5000000000).mayPark = true) ∧
    ((idle.turn 5000000000).host.idleFrom + 5 * 1000000000 ≤ (idle.turn 5000000000).now ∧ (idle.turn 4999999999).now < 5000000000 ∧ (done.turn 0).sup.parkStep = 4 ∧ (done.turn 0).nv.run = none ∧ (done.turn 0).jr.tail = [] ∧ (done.turn 0).jr.op = none ∧ (done.turn 0).jr.pageRecs = []) ∧
    ((polling.turn 0).aon.rooster.st = 1 ∧ bit ((polling.turn 0).obj 0x2020 2) 0 = true ∧ (gated.turn 0).aon.mode = 1 ∧ (live.turn 0).aon.mode ≠ 1 ∧ (trial.turn 60000000000).sup.step6 = some 0 ∧ 0 + 60000000000 ≤ (trial.turn 60000000000).now ∧ (trial.turn 60000000000).lasting 1 = false ∧ (trial.turn 60000000000).fenced = false)) ∧
    (((after (.parkRequest 0 can3) free).sup.parkStep ≠ 0 ∧ told can3 (after (.parkRequest 0 can3) moving) = some abSequence ∧ (after (.parkOnIdle 4999999999) idle).sup.parkStep = 0 ∧ (after (.parkingComplete 0) done).aon.mode = 3 ∧ (after (.parkingComplete 0) polling).aon.mode = 2) ∧
    ((after (.hostUngate 0) gated).aon.mode = 0 ∧ (after (.trialConfirmed 60000000000) trial).rr.active = 1 ∧ (after (.trialConfirmed 59999999999) trial).sup.trial = true)) :=
  ⟨by decide +kernel, by decide +kernel⟩

theorem wit_ParkingTamperLifecycleAndUpdates_tamper :
    let aon (m l : Nat) : State := { live with aon := { live.aon with meshBad := m, loopBad := l, latches := 1 } }
    let field (s : State) : State := { (setting s [(key 0x1482 1, 1), (key 0x1482 2, 1), (key 0x1482 3, 1), (key 0x1482 4, 3)]) with rr := { (setting s [(key 0x1482 1, 1), (key 0x1482 2, 1), (key 0x1482 3, 1), (key 0x1482 4, 3)]).rr with lifecycle := lcField, slots := [(5, { ty := 1, usage := 0x7F, pers := true, gen := 7, key := List.replicate 16 5 })] } }
    let dark : State := { (field (aon 1 1)) with aon := { live.aon with meshBad := 1, mode := 2 } }
    let u := (field (aon 1 1)).turn 0
    u.aon.meshBad = 1 ∧ u.obj 0x1482 1 ≠ 0 ∧ u.aon.loopBad = 1 ∧ u.rr.lifecycle = lcField ∧ u.powered = true ∧ u.sup.held = false ∧ u.sup.scan = false ∧ u.obj 0x1482 2 = 1 ∧ bit (u.obj 0x1482 4) 0 = true ∧ bit (u.obj 0x1482 4) 1 = true ∧ u.obj 0x1482 3 ≠ 0 ∧
    (dark.turn 0).aon.mode = 2 ∧ (dark.turn 0).powered = false ∧ (dark.turn 0).aon.offline.length < 8 ∧ (live.turn 0).obj 0x1482 1 = 0 ∧ Accepts ((inSession (aon 1 1) 2).turn 0) can3 0x1481 2 (leBytes 1 1) ∧ ((aon 1 1).turn 0).aon.latches < 8 ∧
    (after (.meshCheck 0 false) (field (aon 1 1))).aon.latches = 5 ∧ ((after (.meshCheck 0 false) (field (aon 1 1))).slot 5).ty = 0 ∧ ((after (.meshCheck 0 false) { (field (aon 1 1)) with rr := { (field (aon 1 1)).rr with lifecycle := lcFactory } }).slot 5).ty = 1 ∧ (after (.meshCheck 0 false) live).aon.latches = 0 ∧
    (after (.loopSample 0 false) (field (aon 1 1))).aon.latches = 3 ∧ (after (.loopSample 0 false) (aon 1 1)).aon.latches = 1 ∧ (after (.lidDetection 0 true 9999999) (field live)).aon.latches = 0 ∧ (after (.lidDetection 0 true 10000000) (field live)).aon.latches = 1 ∧ (after (.clearLatches 0 can3 1) (inSession (aon 1 1) 2)).aon.latches = 0 ∧
    (after (.meshCheck 0 false) dark).aon.resetKind = 9 ∧ ((after (.meshCheck 0 false) dark).aon.offline.map (·.src)) = [3] := by decide +kernel

theorem wit_ParkingTamperLifecycleAndUpdates_lifecycle :
    let at_ (n role : Nat) (bytes : Nat) : State := { (inSession live role) with rr := { live.rr with lifecycle := n, map := [0], slots := [(12, { ty := 1, usage := 0x10, pers := true, gen := 7, key := List.replicate 16 5 })] }, rng := { live.rng with bufs := [[], [], [], [], [], [], (List.range bytes).map byte, []], startBlock := false } }
    let u := (at_ 1 4 100).turn 0
    let v := (at_ 2 2 0).turn 0
    let w := (at_ 3 2 0).turn 0
    ((u.fenced = false ∧ Accepts u can3 0x1401 2 [2] ∧ u.rr.lifecycle + 1 = 2 ∧ u.role can3 = roleF ∧ u.rngStopped 6 = false ∧ u.serving 0x0A = true ∧ u.trustLost = false ∧ u.rngWaits 6 96 = false ∧ u.marksOf 3 = 0 ∧ u.marksOf 48 = 0 ∧ u.marksOf 49 = 0) ∧
    (((at_ 1 4 95).turn 0).rngWaits 6 96 = true ∧ Accepts ((at_ 1 4 95).turn 0) can3 0x1401 2 [2] ∧ ((lacking (at_ 1 4 100) 0x0A).turn 0).serving 0x0A = false ∧ Accepts v can3 0x1401 2 [3] ∧ v.role can3 = roleW ∧ v.rr.map ≠ [] ∧ (v.slot 12).ty ≠ 0)) ∧
    ((Accepts w can3 0x1401 2 [4] ∧ w.role can3 = roleW ∧ w.rr.lifecycle + 1 = 4 ∧ Accepts ((at_ 1 2 0).turn 0) can3 0x1401 2 [2] ∧ ((at_ 1 2 0).turn 0).role can3 ≠ roleF ∧ ((at_ 1 2 0).turn 0).rr.lifecycle + 1 = 2 ∧ ({ (inSession live 2) with rr := { live.rr with lifecycle := 2 } } : State).rr.map = []) ∧
    ((after (.advanceIntegration 0 can3) (at_ 1 4 100)).rr.lifecycle = 2 ∧ ((after (.advanceIntegration 0 can3) (at_ 1 4 100)).slot 3).key = (List.range 32).map byte ∧ ((after (.advanceIntegration 0 can3) (at_ 1 4 95)).rr.lifecycle = 1)) ∧
    ((after (.advanceField 0 can3) (at_ 2 2 0)).rr.lifecycle = 3 ∧ told can3 (after (.advanceIntegration 0 can3) (at_ 1 2 0)) = some abRole ∧ told can3 (after (.advanceField 0 can3) (at_ 1 2 0)) = some abSequence ∧ (after (.advanceReturned 0 can3) (at_ 3 2 0)).rr.lifecycle = 4 ∧ ((after (.advanceReturned 0 can3) (at_ 3 2 0)).slot 12).ty = 0)) :=
  ⟨by decide +kernel, by decide +kernel⟩

theorem wit_ParkingTamperLifecycleAndUpdates_updates :
    let w (up : Nat) : State := withSup (setting (inSession live 2) [(key 0x1421 1, 2097150)]) fun p => { p with update := up }
    let u := (w 1).turn 0
    let busy : State := { w 1 with rr := { (w 1).rr with trialBank := some 1 } }
    u.fenced = false ∧ u.updateBank = some 1 ∧ (busy.turn 0).updateBank = none ∧ Accepts u can3 0x1420 1 [1] ∧ Accepts u can3 0x1421 2 [7, 8] ∧ u.obj 0x1421 1 = 2097150 ∧ 2 ^ 21 < 2097150 + [7, 8, 9].length ∧ Accepts u can3 0x1421 2 [7, 8, 9] ∧
    (u.sup.update = 1 ∧ Accepts u can3 0x1420 1 [2] ∧ Accepts ((w 2).turn 0) can3 0x1420 1 [3] ∧ ((w 2).turn 0).sup.update = 2 ∧ ((w 2).turn 0).pol.engine = false ∧ ((w 2).turn 0).pol.out = 0 ∧ u.rr.admitted 1 = none ∨ (u.rr.admitted 1).isSome = true) ∧
    ((after (.updateBegin 0 can3) (w 0)).rr.fwB).header = none ∧ (after (.updateBegin 0 can3) (w 0)).rr.fwA = live.rr.fwA ∧ told can3 (after (.updateBegin 0 can3) busy) = some abSequence ∧
    ((after (.chunk 0 can3 [7, 8]) (w 1)).rr.fwB).byte 2097151 = 8 ∧ told can3 (after (.chunk 0 can3 [7, 8, 9]) (w 1)) = some abRange ∧ told can3 (after (.chunk 0 can3 [7]) (w 2)) = some abSequence ∧
    (after (.activate 0 can3) (w 2)).rr.trialBank = some 1 ∧ told can3 (after (.activate 0 can3) (w 1)) = some abSequence ∧ (after (.updateVerify 0 can3) (w 1)).sup.update ≠ 1 := by decide +kernel

/-- Commands that well-formedness refuses: one for each check of each command, in the order of the opcode table. -/
theorem illFormed_0 : ([
  .unitStop 0 (.can 2 0) 0, .unitStop 0 .host 65536, .unitStart 0 (.can 2 0) 0, .unitStart 0 .host 65536, .unitStartUp 0 65536 { }, .nop 0 [],
  .ignoredOpcode 0 [], .reqRead 0 [], .reqWrite 0 [], .response 0 [], .fastRead 0 [], .objectWrite 0 (.can 2 0) 0 0 [],
  .objectWrite 0 .host 65536 0 [], .objectWrite 0 .host 0 256 [], .persistentCommit 0 (.can 2 0), .nvFenced 0 (.can 2 0), .role 0 (.can 2 0) 0, .role 0 .host 256,
  .proof 0 (.can 2 0) [], .sessionOpenTimeout 0 (.can 2 0), .close 0 (.can 2 0), .sessionIdleTimeout 0 (.can 2 0), .proofHoldOffEnd 0 (.can 2 0), .nextEvent 0 (.can 2 0),
  .clearLostCount 0 (.can 2 0), .applyFastMap 0 (.can 2 0), .readSnapshotTimeout 0 (.can 2 0), .expeditedWrite 0 2 0 [] false, .expeditedWrite 0 0 16 [] false, .expeditedWrite 0 0 0 (List.replicate 9 0) false,
  .segmentedWriteInitiate 0 2 0 [] false, .segmentedWriteInitiate 0 0 16 [] false, .segmentedWriteInitiate 0 0 0 (List.replicate 9 0) false, .blockWriteInitiate 0 2 0 [] false
  ] : List Instr).all (fun i => !i.wellFormed) = true := by decide +kernel

/-- The next of them. -/
theorem illFormed_1 : ([
  .blockWriteInitiate 0 0 16 [] false, .blockWriteInitiate 0 0 0 (List.replicate 9 0) false, .readInitiate 0 2 0 [] false, .readInitiate 0 0 16 [] false, .readInitiate 0 0 0 (List.replicate 9 0) false, .blockReadInitiate 0 2 0 [] false,
  .blockReadInitiate 0 0 16 [] false, .blockReadInitiate 0 0 0 (List.replicate 9 0) false, .segmentedWriteSegment 0 2 0 [] false, .segmentedWriteSegment 0 0 16 [] false, .segmentedWriteSegment 0 0 0 (List.replicate 9 0) false, .blockWriteSegment 0 2 0 [] false,
  .blockWriteSegment 0 0 16 [] false, .blockWriteSegment 0 0 0 (List.replicate 9 0) false, .segmentedReadRequest 0 2 0 [] false, .segmentedReadRequest 0 0 16 [] false, .segmentedReadRequest 0 0 0 (List.replicate 9 0) false, .blockReadAcknowledgement 0 2 0 [] false,
  .blockReadAcknowledgement 0 0 16 [] false, .blockReadAcknowledgement 0 0 0 (List.replicate 9 0) false, .blockReadEndAcknowledgement 0 2 0 [] false, .blockReadEndAcknowledgement 0 0 16 [] false, .blockReadEndAcknowledgement 0 0 0 (List.replicate 9 0) false, .writeEnd 0 2 0 [] false,
  .writeEnd 0 0 16 [] false, .writeEnd 0 0 0 (List.replicate 9 0) false, .abort 0 2 0 [] false, .abort 0 0 16 [] false, .abort 0 0 0 (List.replicate 9 0) false, .transferTimeout 0 2 0,
  .transferTimeout 0 0 16, .canWake 0 2 [], .requestTelegram 0 (.can 2 0), .stopPolling 0 (.can 2 0)
  ] : List Instr).all (fun i => !i.wellFormed) = true := by decide +kernel

/-- The next of them. -/
theorem illFormed_2 : ([
  .restartPolling 0 (.can 2 0), .runDiagnostics 0 (.can 2 0), .resynchronise 0 (.can 2 0), .laneDown 0 3 .marker, .laneUp 0 3, .preambleDetection 0 3 0 0,
  .noiseMeasurement 0 [], .frontEndTemperatureRead 0 [], .frontEndStatusRead 0 3 0, .calibrationStart 0 (.can 2 0), .rowSelect 0 (.can 2 0) 0, .rowSelect 0 .host 256,
  .pairPartner 0 (.can 2 0) [], .entryStatus 0 (.can 2 0) 0 0, .entryStatus 0 .host 128 0, .entryStatus 0 .host 0 256, .rotateGroupKey 0 (.can 2 0) 0, .rotateGroupKey 0 .host 256,
  .importTractorRecord 0 (.can 2 0) 0 [], .importTractorRecord 0 .host 4 [], .zoneMap 0 (.can 2 0) [], .unlock 0 (.host (.can 0 16)), .start 0 (.host (.can 0 16)), .lock 0 (.host (.can 0 16)),
  .cancel 0 (.host (.can 0 16)), .unlockedNotice 0 (.host (.can 0 16)), .engineStateFrame 0 2 { id := 0 }, .engineStateFrame 0 0 { id := 0, dlc := 16 }, .engineRunning 0 (.can 2 0) 0, .engineRunning 0 .host 256,
  .tagPowerOn 0 65536, .tagPowerOff 0 65536, .select 0 { target := 8, action := 0, bank := 0, ptr := 0 }, .query 0 { m := 4 }
  ] : List Instr).all (fun i => !i.wellFormed) = true := by decide +kernel

/-- The next of them. -/
theorem illFormed_3 : ([
  .queryAdjust 0 4 0, .queryAdjust 0 0 8, .queryRep 0 4, .read 0 4 0 0 0, .read 0 0 0 256 0, .write 0 4 0 0 0 0,
  .write 0 0 0 0 0 65536, .blockWrite 0 4 0 0 [0] 0 0, .blockWrite 0 0 0 256 [0] 0 0, .blockWrite 0 0 0 0 [0] 0 65536, .kill 0 8 0 0 0, .kill 0 0 0 0 65536,
  .uhfLock 0 1024 0 0, .uhfLock 0 0 1024 0, .tvSummary 0 0 256 0, .anticollision 0 3 [], .hfSelect 0 3 [], .rAck 0 2,
  .rNak 0 2, .windowData 0 (.can 2 0) [], .hostTagTimeout 0 (.can 2 0), .refreshNow 0 (.can 2 0), .killObject 0 (.can 2 0) [], .harvOn 0 65536,
  .harvOff 0 65536, .keyImport 0 (.can 2 0), .generate 0 (.can 2 0), .erase 0 (.can 2 0), .zeroizeNow 0 (.can 2 0), .importPlain 0 (.can 2 0),
  .zeroizeAll 0 (.can 2 0), .slotSelect 0 (.can 2 0) 0, .slotSelect 0 .host 64, .anchorChange 0 (.can 2 0) []
  ] : List Instr).all (fun i => !i.wellFormed) = true := by decide +kernel

/-- The next of them. -/
theorem illFormed_4 : ([
  .summaryCertificate 0 (.can 2 0) [], .ecb 0 (.can 2 0), .cbc 0 (.can 2 0), .ctr 0 (.can 2 0), .gcm 0 (.can 2 0), .ccm 0 (.can 2 0),
  .cmac 0 (.can 2 0), .jobDone 0 4 false, .sign 0 (.can 2 0), .verify 0 (.can 2 0), .ecdh 0 (.can 2 0), .hash 0 (.can 2 0),
  .outputRead 0 (.can 2 0), .randomBytes 0 (.can 2 0), .testPattern 0 (.can 2 0) 0, .testPattern 0 .host 256, .programComplete 0 4, .fenceUp 0 5 0,
  .fenceUp 0 0 65536, .increment 0 (.can 2 0) 0 0, .increment 0 .host 64 0, .increment 0 .host 0 65536, .format 0 (.can 2 0) [], .requestExport 0 (.can 2 0),
  .timerMatch 0 8, .timerOverflow 0 8, .compare 0 (.can 2 0) 0 0 false, .compare 0 .host 8 0 false, .compare 0 .host 0 4294967296 false, .timerStart 0 (.can 2 0) 0,
  .timerStart 0 .host 8, .timerStop 0 (.can 2 0) 0, .timerStop 0 .host 8, .timerReset 0 (.can 2 0) 0
  ] : List Instr).all (fun i => !i.wellFormed) = true := by decide +kernel

/-- The next of them. -/
theorem illFormed_5 : ([
  .timerReset 0 .host 8, .timerRestart 0 (.can 2 0) 0, .timerRestart 0 .host 8, .groupStart 0 (.can 2 0) 0, .groupStart 0 .host 256, .groupStop 0 (.can 2 0) 0,
  .groupStop 0 .host 256, .groupReset 0 (.can 2 0) 0, .groupReset 0 .host 256, .capture 0 8 false, .captureTrigger 0 (.can 2 0) 0, .captureTrigger 0 .host 8,
  .timerClear 0 (.can 2 0) 0 0, .timerClear 0 .host 8 0, .timerClear 0 .host 0 256, .clearTamperFlags 0 (.can 2 0) 0, .clearTamperFlags 0 .host 256, .frameReceived 0 2 { id := 0 } false,
  .frameReceived 0 0 { id := 0, dlc := 16 } false, .nextRecord 0 (.can 2 0) 0, .nextRecord 0 .host 2, .highPriorityRecord 0 (.can 2 0) 0, .highPriorityRecord 0 .host 2, .clearOverrun 0 (.can 2 0) 0,
  .clearOverrun 0 .host 2, .txRequest 0 (.can 2 0) 0 0, .txRequest 0 .host 2 0, .txRequest 0 .host 0 3, .txAbort 0 (.can 2 0) 0 0, .txAbort 0 .host 2 0,
  .txAbort 0 .host 0 3, .txChoice 0 2, .frameEnd 0 2 .lostArbitration, .recoveryDelay 0 2
  ] : List Instr).all (fun i => !i.wellFormed) = true := by decide +kernel

/-- The next of them. -/
theorem illFormed_6 : ([
  .recover 0 (.can 2 0) 0, .recover 0 .host 2, .busRecovered 0 2, .integrated 0 2, .canClockRc 0 2, .refReceived 0 { id := 0, dlc := 16 },
  .epochReceived 0 { id := 0, dlc := 16 }, .railReset 0 5 0, .railReset 0 0 65536, .resetNow 0 (.can 2 0), .vddSerLow 0 65536, .vddSerRecovered 0 65536,
  .rcTrim 0 65536, .temperature 0 [], .thermalReset 0 [], .parkRequest 0 (.can 2 0), .faultEnded 0 31, .clearSummary 0 (.can 2 0) 0,
  .clearSummary 0 .host 65536, .clearSource 0 (.can 2 0) 0, .clearSource 0 .host 256, .nextFaultEntry 0 (.can 2 0), .clearLatches 0 (.can 2 0) 0, .clearLatches 0 .host 256,
  .advanceIntegration 0 (.can 2 0), .advanceField 0 (.can 2 0), .advanceReturned 0 (.can 2 0), .updateBegin 0 (.can 2 0), .chunk 0 (.can 2 0) [], .updateVerify 0 (.can 2 0),
  .activate 0 (.can 2 0), .canReceiveError 0 2 0 false, .canReceiveError 0 0 256 false
  ] : List Instr).all (fun i => !i.wellFormed) = true := by decide +kernel

/-- Frames that no bus carries, by their length, their identifiers, and remote frames with data or in FD; and fields of Select and Query wider than theirs. -/
theorem illFormed_fields : ([.refReceived 0 { id := 0, data := List.replicate 9 0 }, .refReceived 0 { id := 0, fdf := true, data := List.replicate 13 0 }, .refReceived 0 { id := 2 ^ 11 }, .refReceived 0 { id := 2 ^ 29, ide := true },
  .refReceived 0 { id := 0, rtr := true, fdf := true }, .refReceived 0 { id := 0, rtr := true, dlc := 1, data := [0] }, .abort 0 0 0 (List.replicate 65 0) true, .proof 0 (.can 0 16) [],
  .select 0 { target := 0, action := 8, bank := 0, ptr := 0 }, .select 0 { target := 0, action := 0, bank := 4, ptr := 0 }, .query 0 { sel := 4 }, .query 0 { session := 4 }, .query 0 { q := 16 }
  ] : List Instr).all (fun i => !i.wellFormed) = true := by decide +kernel

/-- The same commands with operands in range are well formed. -/
theorem wellFormed_some : ([
  .unitStop 0 .host 0, .unitStart 0 .host 0, .unitStartUp 0 0 { }, .nop 0 [0], .ignoredOpcode 0 [0], .reqRead 0 [0], .reqWrite 0 [0],
  .response 0 [0], .fastRead 0 [0], .objectWrite 0 .host 0 0 [], .persistentCommit 0 .host, .nvFenced 0 .host, .role 0 .host 0, .proof 0 .host [],
  .sessionOpenTimeout 0 .host, .close 0 .host, .sessionIdleTimeout 0 .host, .proofHoldOffEnd 0 .host, .nextEvent 0 .host, .clearLostCount 0 .host, .applyFastMap 0 .host,
  .readSnapshotTimeout 0 .host, .expeditedWrite 0 0 0 [] false, .segmentedWriteInitiate 0 0 0 [] false, .blockWriteInitiate 0 0 0 [] false, .readInitiate 0 0 0 [] false, .blockReadInitiate 0 0 0 [] false, .segmentedWriteSegment 0 0 0 [] false,
  .blockWriteSegment 0 0 0 [] false, .segmentedReadRequest 0 0 0 [] false, .blockReadAcknowledgement 0 0 0 [] false, .blockReadEndAcknowledgement 0 0 0 [] false, .writeEnd 0 0 0 [] false, .abort 0 0 0 [] false, .transferTimeout 0 0 0
  ] : List Instr).all (fun i => i.wellFormed) = true := by decide +kernel
end Sys2Proof.Tests
end

section
/-! SUPPORT. What a client's request leaves in its record, and what a write to a unit's Control object comes to. -/

namespace Sys2Proof.Machine
open Sys2Proof

/-! ## What a request leaves in its client's record -/

@[simp] theorem State.ctx_answer_reply (s : State) (c : Client) (k ab : Nat) (d : Bytes) (late : Bool) :
    ((s.answer c k ab d late).ctx c).reply = some { key := k, abort := ab, data := d } := by
  let x' : ClientCtx := { s.ctx c with
    reply := some { key := k, abort := ab, data := d }
    keyOutcome := if k = 0x372006 && late then ab else (s.ctx c).keyOutcome
    ctr := if (s.ctx c).st = 2 && late then ((s.ctx c).ctr + 1) % 2 ^ 32 else (s.ctx c).ctr
    lastUse := s.now }
  have h : (s.setCtx x').ctx c = x' := State.ctx_setCtx_of s x' c (s.ctx_c c)
  exact congrArg ClientCtx.reply h

theorem dictDown_of_checkWrite {u : State} {c : Client} {ix sub : Nat} {data : Bytes} (h : u.checkWrite c ix sub data = abOk) :
    u.dictDown c ix = abOk := by
  by_contra hd
  have hd' : u.dictDown c ix ≠ 0 := hd
  simp [State.checkWrite, State.checkForm, State.checkAccess, hd', abOk] at h

theorem vehicleLost_of_dictDown {u : State} {c : Client} {ix : Nat} (h : u.dictDown c ix = abOk) : u.sup.vehicleLost = false := by
  cases hv : u.sup.vehicleLost with
  | false => rfl
  | true => simp [State.dictDown, hv, abOk, abUnavail] at h

theorem vehicleLost_of_accepts {u : State} {c : Client} {ix sub : Nat} {data : Bytes} (h : Accepts u c ix sub data) :
    u.sup.vehicleLost = false := vehicleLost_of_dictDown (dictDown_of_checkWrite h.2)

/-! ## Descriptors -/

theorem unitFind_mem {uid : Nat} {d : UnitDef} (h : unitFind uid = some d) : d ∈ unitTree ∧ d.id = uid :=
  ⟨List.mem_of_find?_eq_some h, by simpa using List.find?_some h⟩

theorem unitOfBase_baseOf {uid : Nat} (h : unitFind uid ≠ none) : ∃ d, unitOfBase (baseOf uid) = some d ∧ d.id = uid := by
  obtain ⟨d, hd⟩ := Option.ne_none_iff_exists'.mp h
  obtain ⟨hm, hid⟩ := unitFind_mem hd
  have bases : ∀ e ∈ unitTree, unitOfBase e.base = some e := by decide +kernel
  exact ⟨d, by simpa [baseOf, hd] using bases d hm, hid⟩

theorem wayOf_control {uid : Nat} (h : unitFind uid ≠ none) (c : Client) (data : Bytes) :
    wayOf c (baseOf uid) 8 data = { act := fun s => s.controlWrite uid (leNat data) } := by
  obtain ⟨d, hd, rfl⟩ := unitOfBase_baseOf h
  simp [wayOf, wayWith, hd]

theorem asksWrite_control {u : State} {c : Client} {uid : Nat} {data : Bytes} (h : Accepts u c (baseOf uid) 8 data) (hu : unitFind uid ≠ none) :
    u.asksWrite c (baseOf uid) 8 data =
      (u.controlWrite uid (leNat data)).1.answer c (key (baseOf uid) 8) (u.controlWrite uid (leNat data)).2 [] true := by
  have notCounters : baseOf uid ≠ 0x3811 := by
    obtain ⟨d, hd, -⟩ := unitOfBase_baseOf hu
    intro e
    simp [e, show unitOfBase 0x3811 = none by decide] at hd
  exact asksWrite_acts _ (wayOf_control hu c data) h (by omega) notCounters rfl (by simp) rfl

end Sys2Proof.Machine
end

section
/-! SUPPORT. Unit states: what a stop and a start make of the own state of each unit, and what they leave alone (R19). -/

namespace Sys2Proof.Machine
open Sys2Proof

/-! ## Unit states -/

theorem State.ownState_congr {s t : State} (hu : t.us = s.us) (hs : t.sup = s.sup) (v : Nat) : t.ownState v = s.ownState v := by
  simp [State.ownState, hu, hs]

theorem State.ownState_setUnit {s : State} (h : s.sup.vehicleLost = false) (u st v : Nat) :
    (s.setUnit u st).ownState v = if v = u then st else s.ownState v := by
  simp only [State.ownState, h, Bool.false_and, Bool.false_eq_true, if_false, State.setUnit]
  split
  · next e => rw [e, kvGet_kvPut_same]
  · next e => exact kvGet_kvPut_other _ _ _ _ _ e

/-- A pass over units that maps the own state of each unit it meets, groups aside, by g, maps those of all units of its list. -/
theorem foldl_ownState (f : State → Nat → State) (g : Nat → Nat) (idem : ∀ x, g (g x) = g x)
    (keeps : ∀ s u, (f s u).sup = s.sup)
    (one : ∀ s u v, s.sup.vehicleLost = false → (f s u).ownState v = if v = u ∧ isGroup v = false then g (s.ownState v) else s.ownState v)
    (l : List Nat) (s : State) (h : s.sup.vehicleLost = false) (v : Nat) :
    (l.foldl f s).ownState v = if v ∈ l ∧ isGroup v = false then g (s.ownState v) else s.ownState v := by
  induction l generalizing s with
  | nil => simp
  | cons u r ih =>
    rw [List.foldl_cons, ih (f s u) (by rw [keeps]; exact h), one s u v h]
    by_cases hg : isGroup v = false
    · by_cases hu : v = u
      · subst hu; simp [hg, idem]
      · simp [hu]
    · simp [hg]

/-- What neither a stop nor a start of a unit touches. -/
structure KeepsStores (s t : State) : Prop where
  pol : t.pol = s.pol
  objs : t.objs = s.objs
  rrObjs : t.rr.objs = s.rr.objs
  lifecycle : t.rr.lifecycle = s.rr.lifecycle
  sup : t.sup = s.sup

theorem KeepsStores.refl (s : State) : KeepsStores s s := ⟨rfl, rfl, rfl, rfl, rfl⟩

theorem KeepsStores.trans {s t u : State} (h : KeepsStores s t) (g : KeepsStores t u) : KeepsStores s u :=
  ⟨g.pol.trans h.pol, g.objs.trans h.objs, g.rrObjs.trans h.rrObjs, g.lifecycle.trans h.lifecycle, g.sup.trans h.sup⟩

theorem KeepsStores.foldl {α : Type} {f : State → α → State} (h : ∀ s a, KeepsStores s (f s a)) (l : List α) (s : State) :
    KeepsStores s (l.foldl f s) := by
  induction l generalizing s with
  | nil => exact .refl s
  | cons a r ih => exact (h s a).trans (ih _)

theorem KeepsStores.setUnit (s : State) (u st : Nat) : KeepsStores s (s.setUnit u st) := ⟨rfl, rfl, rfl, rfl, rfl⟩

/-- What leaves the unit states alone as well. -/
structure KeepsUnits (s t : State) : Prop extends KeepsStores s t where
  us : t.us = s.us

theorem KeepsUnits.refl (s : State) : KeepsUnits s s := ⟨.refl s, rfl⟩

theorem KeepsUnits.trans {s t u : State} (h : KeepsUnits s t) (g : KeepsUnits t u) : KeepsUnits s u :=
  ⟨h.toKeepsStores.trans g.toKeepsStores, g.us.trans h.us⟩

theorem KeepsUnits.ownState {s t : State} (h : KeepsUnits s t) (v : Nat) : t.ownState v = s.ownState v := State.ownState_congr h.us h.sup v

theorem KeepsUnits.foldl {α : Type} {f : State → α → State} (h : ∀ s a, KeepsUnits s (f s a)) (l : List α) (s : State) :
    KeepsUnits s (l.foldl f s) := by
  induction l generalizing s with
  | nil => exact .refl s
  | cons a r ih => exact (h s a).trans (ih _)

theorem KeepsUnits.emit {s t : State} (h : KeepsUnits s t) {u code p : Nat} : KeepsUnits s (t.emit u code p) :=
  h.trans ⟨⟨by simp, by simp, by simp, by simp, by simp⟩, by simp⟩

theorem KeepsUnits.emitIf {s t : State} (h : KeepsUnits s t) {b : Bool} {u code p : Nat} : KeepsUnits s (t.emitIf b u code p) := by
  cases b
  · exact h
  · exact h.emit

theorem KeepsUnits.setCtl (s : State) (bus : Nat) (x : CanCtl) : KeepsUnits s (s.setCtl bus x) := by
  unfold State.setCtl
  split <;> exact ⟨⟨rfl, rfl, rfl, rfl, rfl⟩, rfl⟩

theorem KeepsUnits.linkStop (s : State) : KeepsUnits s s.linkStop := by
  unfold State.linkStop State.linkTo
  refine .emitIf ?_
  exact ⟨⟨rfl, rfl, rfl, rfl, rfl⟩, rfl⟩

theorem KeepsUnits.gnssStop (s : State) : KeepsUnits s s.gnssStop := by
  unfold State.gnssStop
  refine .emitIf ?_
  exact ⟨⟨rfl, rfl, rfl, rfl, rfl⟩, rfl⟩

theorem KeepsUnits.bellValid (s : State) (b : Bool) : KeepsUnits s (s.bellValid b) := by
  unfold State.bellValid
  refine .emitIf ?_
  exact ⟨⟨rfl, rfl, rfl, rfl, rfl⟩, rfl⟩

/-! ## Stopping -/

/-- The own state of a unit that is no group after a stop: OFF and FAILED stay (R19). -/
def afterStop (st : Nat) : Nat := if st = stOff ∨ st = stFailed then st else stStopped

theorem afterStop_idem (st : Nat) : afterStop (afterStop st) = afterStop st := by
  unfold afterStop
  split_ifs with h g <;> simp_all

/-- A unit's stop leaves a group, and a unit that is OFF, FAILED or STOPPED, as it is; of every other unit its work ends, and it is STOPPED. -/
theorem State.stopOne_cases (s : State) (u : Nat) :
    ((isGroup u = true ∨ s.ownState u = stOff ∨ s.ownState u = stFailed ∨ s.ownState u = stStopped) ∧ s.stopOne u = s) ∨
    (isGroup u = false ∧ s.ownState u ≠ stOff ∧ s.ownState u ≠ stFailed ∧ ∃ t, KeepsUnits s t ∧ s.stopOne u = t.setUnit u stStopped) := by
  unfold State.stopOne
  by_cases stays : (isGroup u || s.ownState u == stOff || s.ownState u == stFailed || s.ownState u == stStopped) = true
  · exact .inl ⟨by simpa [or_assoc] using stays, if_pos stays⟩
  · have goes := stays
    simp only [Bool.or_eq_true, beq_iff_eq, not_or, Bool.not_eq_true] at goes
    obtain ⟨⟨⟨group, off⟩, failed⟩, -⟩ := goes
    have ends : ∀ t, KeepsUnits s t → ∃ x, KeepsUnits s x ∧ t.setUnit u stStopped = x.setUnit u stStopped := fun t h => ⟨t, h, rfl⟩
    refine .inr ⟨group, off, failed, ?_⟩
    rw [if_neg stays]
    split_ifs with can0 can1
    · subst can0; exact ends _ (.setCtl s 0 _)
    · subst can1; exact ends _ (.setCtl s 1 _)
    · exact ends _ ⟨⟨rfl, rfl, rfl, rfl, rfl⟩, rfl⟩
    · exact ends _ ⟨⟨rfl, rfl, rfl, rfl, rfl⟩, rfl⟩
    · exact ends _ ⟨⟨rfl, rfl, rfl, rfl, rfl⟩, rfl⟩
    · exact ends _ (.linkStop s)
    · exact ends _ (.gnssStop s)
    · exact ends _ ((KeepsUnits.bellValid s false).trans ⟨⟨rfl, rfl, rfl, rfl, rfl⟩, rfl⟩)
    · exact ends _ (.refl s)

theorem KeepsStores.stopOne (s : State) (u : Nat) : KeepsStores s (s.stopOne u) := by
  obtain ⟨-, e⟩ | ⟨-, -, -, t, keeps, e⟩ := s.stopOne_cases u
  · rw [e]; exact .refl s
  · rw [e]; exact keeps.toKeepsStores.trans (.setUnit t u _)

theorem State.stopOne_ownState (s : State) (u v : Nat) (h : s.sup.vehicleLost = false) :
    (s.stopOne u).ownState v = if v = u ∧ isGroup v = false then afterStop (s.ownState v) else s.ownState v := by
  obtain ⟨stays, e⟩ | ⟨group, off, failed, t, keeps, e⟩ := s.stopOne_cases u
  · rw [e]
    split
    · next c =>
      obtain ⟨rfl, group⟩ := c
      unfold afterStop
      split
      · rfl
      · next c => simp [group] at stays; tauto
    · rfl
  · rw [e, State.ownState_setUnit (keeps.sup ▸ h), keeps.ownState]
    by_cases c : v = u
    · simp [c, group, afterStop, off, failed]
    · simp [c]

theorem KeepsUnits.sessionClose (s : State) (c : Client) (cause : Nat) : KeepsUnits s (s.sessionClose c cause) := by
  unfold State.sessionClose State.dictEvent
  by_cases none_ : (s.ctx c).st ≠ 2
  · rw [if_pos none_]; exact .refl s
  · rw [if_neg none_]
    refine .emit ?_
    cases (s.ctx c).row <;> exact ⟨⟨rfl, rfl, rfl, rfl, rfl⟩, rfl⟩

theorem KeepsUnits.busSessionsClose (s : State) (bus : Nat) : KeepsUnits s (s.busSessionsClose bus) := .foldl (fun t _ => .sessionClose t _ _) _ s

/-- An accepted stop maps the own state of each unit of the subtree on its own, the sessions of a CAN controller that stops besides (R19, R44). -/
theorem State.controlWrite_stop {s : State} {uid : Nat} (up : s.sup.vehicleLost = false) (all : ∀ v ∈ unitAll uid, unstoppable v = false)
    (tag : uid = 8 → s.rr.lifecycle = lcFactory) :
    ∃ t, s.controlWrite uid 1 = (t, abOk) ∧ KeepsStores s t ∧
      ∀ v, t.ownState v = if v ∈ unitAll uid ∧ isGroup v = false then afterStop (s.ownState v) else s.ownState v := by
  let pass := (unitAll uid).reverse.foldl (fun (t : State) u => t.stopOne u) s
  have stop : s.unitStop uid = (pass, abOk) := by
    have none_ : (unitAll uid).any unstoppable = false := by simpa using all
    have mayTag : (uid = 0x08 && s.rr.lifecycle != lcFactory) = false := by simpa using tag
    unfold State.unitStop
    rw [if_neg (by simp [none_]), if_neg (by simp [mayTag])]
  have shut : ∃ t, s.controlWrite uid 1 = (t, abOk) ∧ KeepsUnits pass t := by
    refine ⟨_, by simp only [State.controlWrite, stop]; rfl, KeepsUnits.foldl (fun t b => ?_) [0, 1] pass⟩
    split
    · exact .busSessionsClose t b
    · exact .refl t
  obtain ⟨t, act, keeps⟩ := shut
  refine ⟨t, act, (KeepsStores.foldl KeepsStores.stopOne _ s).trans keeps.toKeepsStores, fun v => ?_⟩
  rw [keeps.ownState, foldl_ownState _ afterStop afterStop_idem (fun t u => (KeepsStores.stopOne t u).sup) State.stopOne_ownState _ s up v]
  simp

/-! ## Starting -/

/-- The own state of a unit that is no group after a start request (R19). -/
def afterStart (st : Nat) : Nat := if st = stStopped then stStarting else st

theorem afterStart_idem (st : Nat) : afterStart (afterStart st) = afterStart st := by
  by_cases h : st = stStopped
  · subst h; rfl
  · simp [afterStart, h]

/-- A unit that is STOPPED and no group is STARTING; every other unit stays as it is. -/
def State.startOne (s : State) (u : Nat) : State := if !isGroup u && s.ownState u == stStopped then s.setUnit u stStarting else s

/-- Nothing but the unit states changes. -/
theorem State.startOne_units (s : State) (u : Nat) : ∃ us, s.startOne u = { s with us := us } := by
  unfold State.startOne
  split <;> exact ⟨_, rfl⟩

theorem State.startOne_ownState (s : State) (u v : Nat) (h : s.sup.vehicleLost = false) :
    (s.startOne u).ownState v = if v = u ∧ isGroup v = false then afterStart (s.ownState v) else s.ownState v := by
  unfold State.startOne
  by_cases c : v = u
  · subst c
    unfold afterStart
    cases isGroup v <;> by_cases st : s.ownState v = stStopped <;> simp [st, State.ownState_setUnit h]
  · split <;> simp [c, State.ownState_setUnit h]

theorem foldl_startOne_units (l : List Nat) (s : State) : ∃ us, l.foldl State.startOne s = { s with us := us } := by
  induction l generalizing s with
  | nil => exact ⟨_, rfl⟩
  | cons u r ih =>
    obtain ⟨us, one⟩ := s.startOne_units u
    obtain ⟨us', others⟩ := ih (s.startOne u)
    exact ⟨us', by rw [List.foldl_cons, others, one]⟩

/-- A start request to a unit whose parent is STOPPED (R19). -/
theorem State.controlWrite_start_refused {s : State} {uid : Nat} (parent : unitFind (unitParent uid) ≠ none)
    (stopped : s.unitState (unitParent uid) = stStopped) (tag : uid = 8 → s.rr.tag.killed = false) :
    s.controlWrite uid 2 = (s, abSequence) := by
  show s.unitStart uid = _
  unfold State.unitStart
  dsimp only
  rw [if_neg (by simpa using tag), if_pos (by simp [stopped, Option.isSome_iff_ne_none, parent])]

/-- Another start request maps the own state of each unit of the subtree on its own, and nothing else changes (R19). -/
theorem State.controlWrite_start {s : State} {uid : Nat} (up : s.sup.vehicleLost = false)
    (parent : unitFind (unitParent uid) = none ∨ s.unitState (unitParent uid) ≠ stStopped) (tag : uid = 8 → s.rr.tag.killed = false) :
    ∃ us, s.controlWrite uid 2 = ({ s with us := us }, abOk) ∧
      ∀ v, ({ s with us := us } : State).ownState v =
        if v ∈ unitAll uid ∧ isGroup v = false then afterStart (s.ownState v) else s.ownState v := by
  obtain ⟨us, pass⟩ := foldl_startOne_units (unitAll uid) s
  refine ⟨us, ?_, ?_⟩ <;> rw [← pass]
  · show s.unitStart uid = _
    unfold State.unitStart
    dsimp only
    rw [if_neg (by simpa using tag), if_neg (by simpa [Option.isSome_iff_ne_none, imp_iff_not_or] using parent)]
    rfl
  · have keeps : ∀ t u, (State.startOne t u).sup = t.sup := by
      intro t u
      obtain ⟨us, e⟩ := t.startOne_units u
      rw [e]
    exact foldl_ownState _ afterStart afterStart_idem keeps State.startOne_ownState _ s up

end Sys2Proof.Machine
end

section
/-! SUPPORT. The statements on stopping and starting units. -/

namespace Sys2Proof.Machine
open Sys2Proof

/-- Settles O10: a stop and a start are each one pass over the subtree, in which each unit's own state is mapped on its own. -/
theorem stopAndStartRequestsMoveUnits : Obligations.StopAndStartRequestsMoveUnits := by
  intro s dt c uid u
  refine ⟨fun acc find all tag => ?_, fun acc find parent stopped tag => ?_, fun acc find parent tag => ?_⟩
  · obtain ⟨t, act, stores, own⟩ := State.controlWrite_stop (vehicleLost_of_accepts acc) all tag
    have run : exec (.unitStop dt c uid) s = finish s (t.answer c (key (baseOf uid) 8) abOk [] true) := by
      show finish s (u.asksWrite c (baseOf uid) 8 [1]) = _
      rw [asksWrite_control acc find, show leNat [1] = 1 from rfl, act]
    refine ⟨_, run, ?_, fun v mem group off failed => (own v).trans ?_, fun v out => (own v).trans ?_, stores.pol, stores.objs, stores.rrObjs,
      stores.lifecycle, rfl⟩
    · exact congrArg (Option.map (·.abort)) (t.ctx_answer_reply c _ abOk [] true)
    · rw [if_pos ⟨mem, group⟩, afterStop, if_neg (by simp [off, failed])]
    · split
      · next inside => rw [afterStop, if_pos (out.resolve_left (not_not.mpr inside.1))]
      · rfl
  · show finish s (u.asksWrite c (baseOf uid) 8 [2]) = _
    rw [asksWrite_control acc find, show leNat [2] = 2 from rfl, State.controlWrite_start_refused parent stopped tag]
    rfl
  · obtain ⟨us, act, own⟩ := State.controlWrite_start (vehicleLost_of_accepts acc) parent tag
    have run : exec (.unitStart dt c uid) s = finish s (({ u with us := us } : State).answer c (key (baseOf uid) 8) abOk [] true) := by
      show finish s (u.asksWrite c (baseOf uid) 8 [2]) = _
      rw [asksWrite_control acc find, show leNat [2] = 2 from rfl, act]
    refine ⟨_, run, ?_, fun v => (own v).trans ?_, rfl, rfl, rfl, rfl, rfl⟩
    · exact congrArg (Option.map (·.abort)) (State.ctx_answer_reply _ c _ abOk [] true)
    · unfold afterStart
      by_cases inside : v ∈ unitAll uid ∧ isGroup v = false
      · simp [inside]
      · rw [if_neg inside, if_neg (fun h => inside ⟨h.1, h.2.1⟩)]

/-! ## The units that nobody stops -/

section
variable {u : State} {c : Client} {uid : Nat} (find : unitFind uid ≠ none) (up : u.dictDown c (baseOf uid) = abOk)
  (role : c = .host ∨ (u.ctx c).st = 2) (valid : (u.ctx c).revoked = false)
include find up role valid

/-- A write to a unit's Control object by a client with a role passes checks 1 to 5 of R39, or the role is not one that may command the unit. -/
theorem checkAccess_control (v : Nat) : u.checkAccess c true (baseOf uid) 8 v = abOk ∨ u.checkAccess c true (baseOf uid) 8 v = abRole := by
  obtain ⟨d, base, -⟩ := unitOfBase_baseOf find
  have acc : accOf (baseOf uid) 8 = .wo := by simp [accOf, base]
  have down : u.dictDown c (baseOf uid) = 0 := up
  cases mask : roleIn (u.role c) (rolesOf (baseOf uid) 8) <;> cases barred : u.writeBarred (u.role c) (baseOf uid) 8 v
  all_goals
    cases c with
    | host => simp [State.checkAccess, indexExists, subExists, base, acc, down, valid, mask, barred]
    | can b ch =>
      have holds := role.resolve_left (by simp)
      simp [State.checkAccess, indexExists, subExists, base, acc, down, valid, mask, barred, holds]

/-- The same of all checks of R39, for the stop code. -/
theorem checkWrite_control : u.checkWrite c (baseOf uid) 8 [1] = abOk ∨ u.checkWrite c (baseOf uid) 8 [1] = abRole := by
  obtain ⟨d, base, -⟩ := unitOfBase_baseOf find
  have access := checkAccess_control find up role valid (leNat [1])
  have form : u.checkForm c (baseOf uid) 8 (leNat [1]) 1 = u.checkAccess c true (baseOf uid) 8 (leNat [1]) := by
    obtain h | h := access <;> rw [State.checkForm, h]
    · have acc : accOf (baseOf uid) 8 = .wo := by simp [accOf, base]
      have len : lenOf (baseOf uid) 8 = some 1 := by simp [lenOf, base]
      simp [abOk, acc, len]
    · simp [abRole]
  have value : valueOk (baseOf uid) 8 (leNat [1]) = true := by simp [valueOk, base, leNat]
  have whole : u.checkWrite c (baseOf uid) 8 [1] = u.checkAccess c true (baseOf uid) 8 (leNat [1]) := by
    unfold State.checkWrite
    dsimp only [List.length_singleton]
    rw [form, value]
    obtain h | h := access <;> rw [h] <;> rfl
  rw [whole]
  exact access

end

/-- A stop request to a subtree with a unit that cannot be stopped is refused, and nothing changes (R20). -/
theorem State.controlWrite_unstoppable {s : State} {uid : Nat} (some_ : (unitAll uid).any unstoppable = true) :
    s.controlWrite uid 1 = (s, abRole) := by
  have stop : s.unitStop uid = (s, abRole) := if_pos some_
  simp [State.controlWrite, stop]

/-- Settles O11: the request is turned down by the check of its role (R39), or past it by the unit. -/
theorem unstoppableUnitsDenyTheStop : Obligations.UnstoppableUnitsDenyTheStop := by
  intro s dt c uid u listed asks up role valid
  have find : unitFind uid ≠ none := by
    have all : ∀ v ∈ [0x00, 0x01, 0x20, 0x21, 0x22, 0x0C, 0x0D, 0x11, 0x35, 0x36, 0x37, 0x24, 0x12], unitFind v ≠ none := by decide +kernel
    exact all uid listed
  have barred : (unitAll uid).any unstoppable = true := by
    have all : ∀ v ∈ [0x00, 0x01, 0x20, 0x21, 0x22, 0x0C, 0x0D, 0x11, 0x35, 0x36, 0x37, 0x24, 0x12], (unitAll v).any unstoppable = true := by
      decide +kernel
    exact all uid listed
  obtain ok | no := checkWrite_control find up role valid
  · refine ⟨true, ?_⟩
    show finish s (u.asksWrite c (baseOf uid) 8 [1]) = _
    rw [asksWrite_control ⟨asks, ok⟩ find, show leNat [1] = 1 from rfl, State.controlWrite_unstoppable barred]
  · refine ⟨false, ?_⟩
    show finish s (u.asksWrite c (baseOf uid) 8 [1]) = _
    rw [asksWrite_refused asks (by rw [no]; decide), no]

end Sys2Proof.Machine
end

section
/-! SUPPORT. What reset leaves, and the balls while a reset is held. -/

namespace Sys2Proof.Machine
open Sys2Proof

/-! ## Reset -/

/-- A unit that is no group reports its own state (R15). -/
theorem State.unitState_of_not_group (s : State) {v : Nat} (h : isGroup v = false) : s.unitState v = s.ownState v := by
  simp [State.unitState, State.stateGo, h]

/-! ## Balls while a reset is held -/

/-- In a reset a ball with power shows its level of R480, PMIC_EN and HARV aside. -/
theorem State.ball_held {s : State} {b : Ball} (held : s.sup.held = true) (power : s.ballPower b.domain = true) (h : b ≠ .pmicEn) (g : b ≠ .harv) :
    s.ball b = b.inReset := by
  simp [State.ball, held, power, h, g]

/-- A ball without power shows its level of R480. -/
theorem State.ball_off {s : State} {b : Ball} (power : s.ballPower b.domain = false) : s.ball b = b.domainOff := by
  simp [State.ball, power]

theorem State.ball_pmicEn (s : State) : s.ball .pmicEn = driven s.pmicOn := by
  simp [State.ball, Ball.domain, State.ballPower]

/-- While a reset is held, the PMIC is off in THERMAL alone (R456). -/
theorem State.pmicOn_held {s : State} (held : s.sup.held = true) (mode : s.aon.mode ≤ 1) : s.pmicOn = !(s.aon.resetKind == 5) := by
  simp [State.pmicOn, held, mode]

/-- FAULT_N follows the fault sources outside a reset (R456, R459). -/
theorem State.ball_faultN {s : State} (released : s.sup.held = false) : s.ball .faultN = .low ↔ ∃ e ∈ s.sup.srcs, e.2.st = 2 := by
  have live : s.ball .faultN = if s.faultN then .low else .z := by
    simp [State.ball, Ball.domain, State.ballPower, State.ballLive, released]
  rw [live, State.faultN, released, Bool.false_or]
  cases lasting : s.sup.srcs.any (fun e => e.2.st == 2) with
  | false => simpa using lasting
  | true => simpa using lasting

/-- Settles O3: reset by the default of each field, the balls by their tables of R480. -/
theorem resetLeavesTheSpecifiedState : Obligations.ResetLeavesTheSpecifiedState := by
  refine ⟨rfl, fun v single => ?_, rfl, rfl, rfl, rfl, rfl, fun c => ⟨rfl, rfl⟩, rfl, rfl, rfl, fun s held mode => ?_, fun s => State.ball_faultN⟩
  · rw [State.unitState_of_not_group _ single]
    rfl
  · have pmic := State.pmicOn_held held mode
    refine ⟨State.ball_held held rfl (by decide) (by decide), State.ball_held held rfl (by decide) (by decide), ?_, fun powered => ?_, fun thermal => ?_⟩
    · rw [State.ball_pmicEn, pmic]
      by_cases thermal : s.aon.resetKind = 5 <;> simp [thermal, driven]
    · have on : s.pmicOn = true := by simpa [pmic] using powered
      have shows : ∀ b : Ball, b.domain = .io ∨ b.domain = .v18 → s.ball b = b.inReset := by
        intro b dom
        refine State.ball_held held ?_ ?_ ?_
        · obtain h | h := dom <;> rw [h] <;> exact on
        · rintro rfl; simp [Ball.domain] at dom
        · rintro rfl; simp [Ball.domain] at dom
      exact ⟨shows _ (.inl rfl), shows _ (.inl rfl), shows _ (.inl rfl), shows _ (.inl rfl), shows _ (.inr rfl), shows _ (.inl rfl),
        fun n => ⟨shows _ (.inl rfl), shows _ (.inr rfl), shows _ (.inr rfl)⟩⟩
    · have off : s.pmicOn = false := by simp [pmic, thermal]
      exact ⟨State.ball_off off, State.ball_off off, State.ball_off off⟩

end Sys2Proof.Machine
end

section
/-! SUPPORT. Start-up of units, the request queue of the trust pair and the firewall. -/

namespace Sys2Proof.Machine
open Sys2Proof

/-! ## Start-up -/

@[simp] theorem State.timer_setTimer_same (s : State) (n : Nat) (x : Timer) : (s.setTimer n x).timer n = x := kvGet_kvSet_same _ _ _ _

theorem State.timer_setTimer_other (s : State) {n m : Nat} (x : Timer) (h : m ≠ n) : (s.setTimer n x).timer m = s.timer m :=
  kvGet_kvSet_other _ _ _ _ _ h

@[simp] theorem State.setTimer_us (s : State) (n : Nat) (x : Timer) : (s.setTimer n x).us = s.us := rfl

/-- A unit may not start up while the control domain is down, from a state other than STARTING, or before what it waits for. -/
theorem State.mayStart_false {s : State} {uid : Nat}
    (h : s.powered = false ∨ s.ownState uid ≠ stStarting ∨ ∃ v ∈ startAfter uid, s.unitState v ≠ stRunning ∧ s.unitState v ≠ stDegraded) :
    s.mayStart uid = false := by
  unfold State.mayStart
  obtain down | other | ⟨v, mem, run, degr⟩ := h
  · simp [down]
  · simp [other]
  · have waits : (startAfter uid).all (fun u => s.serving u) = false :=
      List.all_eq_false.mpr ⟨v, mem, by simp [State.serving, run, degr]⟩
    simp [waits]

/-- The timer set's start leaves T0 to T4 stopped at 0 and T5 running from 0 (R377). -/
theorem State.timersStart_timers (s : State) : (∀ n, n < 5 → s.timersStart.timer n = {}) ∧ s.timersStart.timer 5 = Timer.free s.pclk := by
  unfold State.timersStart
  refine ⟨fun n h => ?_, State.timer_setTimer_same _ _ _⟩
  rw [State.timer_setTimer_other _ _ (by omega)]
  generalize ({ s with objs := s.objs.filter (fun e => !(decide (0x4510 ≤ e.1 / 256) && decide (e.1 / 256 ≤ 0x4514))) } : State) = s1
  simp only [show List.range 5 = [0, 1, 2, 3, 4] from rfl, List.foldl_cons, List.foldl_nil]
  obtain rfl | rfl | rfl | rfl | rfl : n = 4 ∨ n = 3 ∨ n = 2 ∨ n = 1 ∨ n = 0 := by omega
  all_goals simp [State.timer_setTimer_other]

section
variable {s : State} (o : StartObs)

/-- A unit that may not start up stays as it is. -/
theorem State.startUp_waits {uid : Nat} (h : s.mayStart uid = false) : s.startUp uid o = s := if_pos (by simp [h])

/-- Units whose start-up is nothing but their new state (R32). -/
theorem State.startUp_plain {uid : Nat} (may : s.mayStart uid = true) (h : uid ∈ [0x22, 0x23, 0x24, 0x07]) :
    s.startUp uid o = s.setUnit uid stRunning := by
  simp only [List.mem_cons, List.not_mem_nil, or_false] at h
  obtain rfl | rfl | rfl | rfl := h <;> exact if_neg (by simp [may])

theorem State.startUp_timerSet (may : s.mayStart 0x31 = true) : s.startUp 0x31 o = s.timersStart.setUnit 0x31 stRunning := if_neg (by simp [may])

theorem State.startUp_gnss (may : s.mayStart 0x34 = true) :
    s.startUp 0x34 o = (s.setTimer 6 (Timer.free s.pclk)).setUnit 0x34 stRunning := if_neg (by simp [may])

theorem State.startUp_trustPair (may : s.mayStart 0x20 = true) :
    s.startUp 0x20 o = s.setUnit 0x20 (if s.trustLost then stFailed else stRunning) := if_neg (by simp [may])

theorem State.startUp_outputs (may : s.mayStart 0x06 = true) :
    s.startUp 0x06 o = s.setUnit 0x06 (if s.lasting 0x13 then stFailed else stRunning) := if_neg (by simp [may])

end

/-- Settles O12, by the branches of a unit's start-up. -/
theorem startUpWaitsForWhatAUnitDependsOn : Obligations.StartUpWaitsForWhatAUnitDependsOn := by
  intro s dt uid o u
  refine ⟨fun waits => congrArg (finish s) (State.startUp_waits o (State.mayStart_false waits)), fun may => ⟨fun listed => ?_, ?_, ?_, ?_, ?_⟩⟩
  · exact congrArg (finish s) (State.startUp_plain o may listed)
  · rintro rfl
    obtain ⟨stopped, free⟩ := u.timersStart_timers
    exact ⟨_, congrArg (finish s) (State.startUp_timerSet o may), kvGet?_kvPut_same _ _ _, stopped, free⟩
  · rintro rfl
    exact ⟨_, congrArg (finish s) (State.startUp_gnss o may), kvGet?_kvPut_same _ _ _, u.timer_setTimer_same 6 (Timer.free u.pclk)⟩
  · rintro rfl
    exact congrArg (finish s) (State.startUp_trustPair o may)
  · rintro rfl
    exact congrArg (finish s) (State.startUp_outputs o may)

/-! ## The request queue and the firewall -/

/-- The listed initiators of a region are those of the table of R27. -/
theorem mayWrite_iff (i : Initiator) (r : Region) : mayWrite i r = true ↔
    (r = .trust ∧ (i = .trustPair ∨ i = .cipherTrust)) ∨ (r = .vehicle ∧ i = .vehiclePair) ∨
      (r = .roundBuffers ∧ (i = .capture ∨ ∃ n, i = .se n)) ∨ (r = .messages ∧ (i = .trustPair ∨ i = .vehiclePair ∨ ∃ n, i = .se n)) ∨
      (r = .jobRings ∧ (i = .trustPair ∨ i = .vehiclePair ∨ i = .cipherTrust ∨ i = .cipherVehicle)) ∨
      (r = .journalTail ∧ (i = .trustPair ∨ i = .nand)) ∨ (r = .tagSnapshot ∧ (i = .tagEngine ∨ i = .vehiclePair)) := by
  cases r <;> cases i <;> simp [mayWrite]

/-- The first queued check goes into service (R25). -/
theorem State.trustServed_first {s : State} {m : MacWait} (on : s.powered = true) (keys : s.trustKeys = true)
    (idle : s.cx.macs.any (·.service) = false) (first : s.cx.macs.find? (·.queued) = some m) :
    s.trustServed = { s with cx := { s.cx with macs := s.cx.macs.map (fun x => if x == m then { x with service := true } else x) } } := by
  unfold State.trustServed
  rw [if_neg (by simp [on, keys, idle]), first]

theorem State.firewall_listed {s : State} {i : Initiator} {r : Region} (listed : mayWrite i r = true) : s.firewall i r = s :=
  if_pos (by simp [listed])

theorem State.firewall_other {s : State} {i : Initiator} {r : Region} (on : s.powered = true) (other : mayWrite i r = false) :
    s.firewall i r = s.charge (firewallSource i r) (sourceUnit (firewallSource i r)) 0 := if_neg (by simp [on, other])

/-- Settles O13, by the branches of the queue's service and of the firewall. -/
theorem requestQueueAndFirewall : Obligations.RequestQueueAndFirewall :=
  ⟨fun s _ _ on keys idle first => congrArg (finish s) (State.trustServed_first on keys idle first),
    fun s _ i r => ⟨mayWrite_iff i r, fun listed => congrArg (finish s) (State.firewall_listed listed),
      fun on other => congrArg (finish s) (State.firewall_other on other)⟩⟩

end Sys2Proof.Machine
end

section
/-! SUPPORT. The fast map. -/

namespace Sys2Proof.Machine
open Sys2Proof

/-! ## The fast map (R57 to R59) -/

/-- The slots of the fast map that its configuration uses. -/
def State.fastUsed (s : State) : List Nat := (List.range 32).filter (fun k => s.obj 0x5020 (k + 1) != 0)

/-- The words that the fast map of the configuration needs, with the two flag words. -/
def State.fastWords (s : State) : Nat := 2 + (s.fastUsed.map (fun k => slotWords (s.obj 0x5020 (k + 1) / 256 % 2 ^ 24))).sum

/-- The fast map of the configuration. -/
def State.fastMap (s : State) : List (Nat × Nat) := s.fastUsed.map (fun k => (k, s.obj 0x5020 (k + 1) / 256 % 2 ^ 24))

theorem filterMap_nonzero {α : Type} (v : Nat → Nat) (f : Nat → α) (l : List Nat) :
    l.filterMap (fun k => if v k = 0 then none else some (f k)) = (l.filter (fun k => v k != 0)).map f := by
  induction l with
  | nil => rfl
  | cons k r ih => by_cases h : v k = 0 <;> simp [h, ih]

/-- A slot that is bad is in use. -/
theorem State.fastBad_used {s : State} {k : Nat} (lt : k < 32) (h : s.fastBad k = true) : k ∈ s.fastUsed := by
  simp only [State.fastBad, Bool.and_eq_true] at h
  simpa [State.fastUsed, lt] using h.1

/-- Some used slot is bad just where some slot is. -/
theorem State.find_fastBad_none (s : State) : (List.range 32).find? s.fastBad = none ↔ ∀ k ∈ s.fastUsed, s.fastBad k = false := by
  rw [List.find?_eq_none]
  constructor
  · intro h k mem
    simpa using h k (List.mem_filter.mp mem).1
  · intro h k lt bad
    simp [h k (State.fastBad_used (List.mem_range.mp lt) bad)] at bad

/-- What applying the fast map comes to: the map of the configuration in force, or its refusal. -/
theorem State.applyFastMap_eq (s : State) : ∃ seen p, s.applyFastMap =
    (if (∀ k ∈ s.fastUsed, s.fastBad k = false) ∧ s.fastWords ≤ 254 then
      { s with
        refused := s.refused.filter (· != 0x5020)
        host := { s.host with map := s.fastMap, latched := [], seen := seen, newData := (s.fastUsed.map (fun k => 2 ^ k)).sum } }
    else s.snapshot 0x5020 0x5020 0x5020 false 0x12 0x5001 p, abOk) := by
  have map : (List.range 32).filterMap (fun k => if s.obj 0x5020 (k + 1) = 0 then none else some (k, s.obj 0x5020 (k + 1) / 256 % 2 ^ 24)) = s.fastMap :=
    filterMap_nonzero (fun k => s.obj 0x5020 (k + 1)) _ _
  have words : 2 + (s.fastMap.map (fun e => slotWords e.2)).foldl (· + ·) 0 = s.fastWords := by
    rw [← List.sum_eq_foldl, State.fastMap, List.map_map]; rfl
  have flags : (s.fastMap.map (fun e => 2 ^ e.1)).foldl (· + ·) 0 = (s.fastUsed.map (fun k => 2 ^ k)).sum := by
    rw [← List.sum_eq_foldl, State.fastMap, List.map_map]; rfl
  unfold State.applyFastMap
  simp only [map, words, flags]
  by_cases ok : (∀ k ∈ s.fastUsed, s.fastBad k = false) ∧ s.fastWords ≤ 254
  · exact ⟨_, 0, by rw [if_pos ok, if_pos (by simp [s.find_fastBad_none.mpr ok.1, ok.2])]⟩
  · exact ⟨[], _, by rw [if_neg ok, if_neg (by simpa [s.find_fastBad_none] using ok)]⟩

/-- A refusal of a set marks it; the first since it was written is raised and sticks to the unit (R23). -/
theorem State.snapshot_refused (s : State) (set lo hi uid code p : Nat) :
    (s.snapshot set lo hi false uid code p).refused.contains set = true ∧
    (s.refused.contains set = true → s.snapshot set lo hi false uid code p = s) ∧
    (s.refused.contains set = false → bit (kvGet 0 (s.snapshot set lo hi false uid code p).sticky uid) 6 = true) := by
  by_cases said : s.refused.contains set = true
  · have kept : s.snapshot set lo hi false uid code p = s := by
      unfold State.snapshot
      rw [if_neg (by simp), if_pos said]
    rw [kept]
    exact ⟨said, fun _ => rfl, fun new => absurd (said.symm.trans new) (by decide)⟩
  · have raised : s.snapshot set lo hi false uid code p = ({ s with refused := s.refused ++ [set] }.stick uid 6).emit uid code p := by
      unfold State.snapshot
      rw [if_neg (by simp), if_neg said]
    rw [raised]
    refine ⟨by simp, fun old => absurd old said, fun _ => ?_⟩
    rw [State.emit_sticky, State.stick, kvGet_kvPut_same, bit, Nat.testBit_or, Nat.testBit_two_pow_self, Bool.or_true]

theorem asksWrite_applyFastMap {u : State} {c : Client} (acc : Accepts u c 0x5021 1 [1]) :
    u.asksWrite c 0x5021 1 [1] = u.applyFastMap.1.answer c (key 0x5021 1) u.applyFastMap.2 [] true :=
  asksWrite_acts { act := State.applyFastMap } rfl acc (by decide) (by decide) rfl (by simp) rfl

/-- Settles O20: the set is applied whole where it is consistent, else refused whole. -/
theorem fastMapAppliesWholeOrNotAtAll : Obligations.FastMapAppliesWholeOrNotAtAll := by
  intro s dt c u used words acc
  obtain ⟨seen, p, act⟩ := u.applyFastMap_eq
  have run : exec (.applyFastMap dt c) s = finish s (u.applyFastMap.1.answer c (key 0x5021 1) u.applyFastMap.2 [] true) :=
    congrArg (finish s) (asksWrite_applyFastMap acc)
  rw [act] at run
  refine ⟨fun good fit => ?_, fun bad => ?_⟩
  · rw [if_pos ⟨good, fit⟩] at run
    exact ⟨_, run, rfl, rfl, rfl, rfl, rfl, rfl, congrArg (Option.map (·.abort)) (State.ctx_answer_reply _ c _ abOk [] true)⟩
  · have no : ¬((∀ k ∈ u.fastUsed, u.fastBad k = false) ∧ u.fastWords ≤ 254) := by
      rintro ⟨good, fit⟩
      obtain ⟨k, mem, bad⟩ | large := bad
      · simp [good k mem] at bad
      · exact absurd fit (Nat.not_le.mpr large)
    rw [if_neg no] at run
    obtain ⟨marked, again, first⟩ := u.snapshot_refused 0x5020 0x5020 0x5020 0x12 0x5001 p
    have host := u.snapshot_host 0x5020 0x5020 0x5020 false 0x12 0x5001 p
    have objs := u.snapshot_objs 0x5020 0x5020 0x5020 false 0x12 0x5001 p
    generalize u.snapshot 0x5020 0x5020 0x5020 false 0x12 0x5001 p = t at run marked again first host objs
    have quiet : u.refused.contains 0x5020 = true → t.evq = u.evq ∧ t.sticky = u.sticky := fun said => by rw [again said]; exact ⟨rfl, rfl⟩
    exact ⟨_, run, host, marked, quiet, first, objs,
      congrArg (Option.map (·.abort)) (t.ctx_answer_reply c _ abOk [] true)⟩

end Sys2Proof.Machine
end

section
/-! SUPPORT. The start-up of the ranging group. -/

namespace Sys2Proof.Machine
open Sys2Proof

/-! ## The ranging group's start-up (R153) -/

/-- A unit that rests on the vehicle pair and is not FAILED says that the pair is not lost (R465). -/
theorem vehicleLost_of_ownState {s : State} {v : Nat} (member : vehicleUnits.contains v = true) (h : s.ownState v ≠ stFailed) :
    s.sup.vehicleLost = false := by
  cases lost : s.sup.vehicleLost with
  | false => rfl
  | true => exact absurd (by simp [State.ownState, lost, List.contains_iff_mem.mp member]) h

/-- A pass whose every step leaves the state as it is. -/
theorem foldl_unmoved {f : State → Nat → State} {s : State} {l : List Nat} (h : ∀ n ∈ l, f s n = s) : l.foldl f s = s := by
  induction l with
  | nil => rfl
  | cons n r ih => rw [List.foldl_cons, h n List.mem_cons_self, ih (fun m mem => h m (List.mem_cons_of_mem n mem))]

/-- A pass that sets a state in the units of a list. -/
theorem State.setUnits_ownState {s : State} (h : s.sup.vehicleLost = false) (l : List Nat) (st v : Nat) :
    (s.setUnits l st).ownState v = if v ∈ l then st else s.ownState v := by
  induction l generalizing s with
  | nil => simp [State.setUnits]
  | cons u r ih =>
    show ((s.setUnit u st).setUnits r st).ownState v = _
    rw [ih (s := s.setUnit u st) h, State.ownState_setUnit h]
    by_cases mem : v ∈ r
    · simp [mem]
    · by_cases e : v = u <;> simp [mem, e]

theorem KeepsUnits.snapshot (s : State) (set lo hi : Nat) (b : Bool) (uid code p : Nat) : KeepsUnits s (s.snapshot set lo hi b uid code p) :=
  ⟨⟨by simp, by simp, by simp, by simp, by simp⟩, by simp⟩

/-- What only gives a front end something to write keeps units, policy, stores, time and generator. -/
theorem KeepsUnits.feOut (t : State) (l : List FeTxn) :
    let x : State := match l with
      | [] => t
      | l => { t with phy := { t.phy with feOut := l } }
    KeepsUnits t x ∧ x.now = t.now ∧ x.rng = t.rng := by
  cases l <;> exact ⟨⟨⟨rfl, rfl, rfl, rfl, rfl⟩, rfl⟩, rfl, rfl⟩

/-- The ranging group's snapshots (R22, R155) keep units, policy, stores, time and generator. -/
theorem State.phySnapshots_keeps (s : State) : KeepsUnits s s.phySnapshots ∧ s.phySnapshots.now = s.now ∧ s.phySnapshots.rng = s.rng := by
  unfold State.phySnapshots
  extract_lets s1 s2 s3
  have keeps : KeepsUnits s s3 :=
    (((KeepsUnits.snapshot s ..).trans (.snapshot s1 ..)).trans (.snapshot s2 ..)).trans (.snapshot ..)
  have now : s3.now = s.now := by simp [s3, s2, s1]
  have rng : s3.rng = s.rng := by simp [s3, s2, s1]
  obtain ⟨written, sameNow, sameRng⟩ := KeepsUnits.feOut s3 (s.newPower s3)
  exact ⟨keeps.trans written, sameNow.trans now, sameRng.trans rng⟩

/-- A front end answers with its identity, reports lock and training and no fault, and its lane has aligned with its markers in position (R113, R118). -/
def frontEndInOrder (o : FrontEndObs) (n : Nat) : Prop :=
  (nth (0 : Word) o.ids n).toNat / 256 = 0xC5 ∧ bit (nth (0 : Word) o.status n).toNat 15 = true ∧ bit (nth (0 : Word) o.status n).toNat 14 = true ∧
    (nth (0 : Word) o.status n).toNat &&& 0x1C00 = 0 ∧ nth false o.aligned n = true ∧ nth false o.inPosition n = true

section
variable {s : State} {o : FrontEndObs} (on : s.powered = true) (starting : s.ownState 0x25 = stStarting) (cool : s.sup.hot = false)

/-- Nothing starts while the control domain is down, from another state than STARTING, or while the group is gated for its heat (R450). -/
theorem State.rangingStart_waits (h : s.powered = false ∨ s.ownState 0x25 ≠ stStarting ∨ s.sup.hot = true) : s.rangingStart o = s :=
  if_pos (by simpa [or_assoc] using h)

include on starting cool

/-- Without a clock or the supply of the lanes the ports fail, and the group with them (R153, R444, R448). -/
theorem State.rangingStart_dead (dead : s.sup.rc = true ∨ s.sup.pllS = true ∨ s.sup.serLow = true) :
    s.rangingStart o = ((s.setUnits [0x26, 0x27, 0x28, 0x2A, 0x2B, 0x2C, 0x2D] stRunning).setUnit 0x25 stFailed).setUnit 0x04 stFailed := by
  unfold State.rangingStart
  rw [if_neg (by simp [on, starting, cool]), if_pos (by simpa [or_assoc] using dead)]
  rfl

/-- With three front ends in order, their lanes in position and no lasting fault, every lane streams from now on, on the chosen channel, and the
lanes give the ports and the group their states. -/
theorem State.rangingStart_good (xtal : s.sup.rc = false) (pll : s.sup.pllS = false) (supply : s.sup.serLow = false)
    (sound : ∀ n, s.lasting n = false) (good : ∀ n, n < 3 → frontEndInOrder o n) :
    ∃ p : Phy, p.origin = some s.phySnapshots.now ∧ p.chan = s.phySnapshots.chanChoice.1 ∧ (∀ n, n < 4 → (nth ({} : Lane) p.lanes n).state = 3) ∧
      s.rangingStart o = (({ s.phySnapshots with phy := p } : State).setUnits rangingUnits stRunning).lanesState := by
  unfold State.rangingStart
  rw [if_neg (by simp [on, starting, cool]), if_neg (by simp [xtal, pll, supply])]
  extract_lets s0 q word fe fes serves lane lanes seq p0 p s1 s2 s3 s4 s5
  replace good : ∀ n, n < 3 → word o.ids n / 256 = 0xC5 ∧ bit (word o.status n) 15 = true ∧ bit (word o.status n) 14 = true ∧
      word o.status n &&& 0x1C00 = 0 ∧ nth false o.aligned n = true ∧ nth false o.inPosition n = true := good
  clear_value word
  have seen : ∀ n, n < 3 → nth ({} : FrontEnd) fes n = fe n := by
    intro n lt
    obtain rfl | rfl | rfl : n = 0 ∨ n = 1 ∨ n = 2 := by omega
    all_goals rfl
  have clean : ∀ n, n < 3 → (fe n).absent = false ∧ (fe n).fault = false := by
    intro n lt
    obtain ⟨id, lock, -, clear, -, -⟩ := good n lt
    simp [fe, id, lock, clear]
  have serve : ∀ n, n < 3 → serves n = true := by
    intro n lt
    simp [serves, seen n lt, clean n lt]
  have streams : ∀ n, n < 4 → (nth ({} : Lane) lanes n).state = 3 := by
    have receive : ∀ n, n < 3 → (lane n).state = 3 := by
      intro n lt
      obtain ⟨-, -, training, -, aligned, position⟩ := good n lt
      simp [lane, serve n lt, training, aligned, position]
    intro n lt
    obtain rfl | rfl | rfl | rfl : n = 0 ∨ n = 1 ∨ n = 2 ∨ n = 3 := by omega
    · exact receive 0 (by decide)
    · exact receive 1 (by decide)
    · exact receive 2 (by decide)
    · exact if_pos (serve 0 (by decide))
  have unsaid : s2 = s1 := by
    refine foldl_unmoved fun n mem => ?_
    have lt : n < 3 := by simp only [List.mem_cons, List.not_mem_nil, or_false] at mem; omega
    simp only [seen n lt, clean n lt, Bool.false_and, Bool.false_eq_true, if_false]
  have started : s3 = s1.setUnits rangingUnits stRunning := congrArg (fun t => State.setUnits t rangingUnits stRunning) unsaid
  have lasting : ∀ n, s3.lasting n = false := by
    intro n
    have sup : s3.sup = s.sup := by
      rw [started, State.setUnits_sup]
      exact s.phySnapshots_keeps.1.sup
    rw [State.lasting, sup]
    exact sound n
  have engines : s4 = s3 := foldl_unmoved fun n _ => if_neg (by simp [lasting])
  have ports : s5 = s4 := foldl_unmoved fun n _ => if_neg (by simp [engines, lasting])
  exact ⟨p, rfl, rfl, streams, by rw [ports, engines, started]⟩

end

/-- Where every lane streams and nothing is lost, the ports and the group run (R151, R153). -/
theorem State.lanesState_streaming {s : State} (run : s.ownState 0x25 = stRunning) (lanes : ∀ n, n < 4 → s.laneUp n = true)
    (xtal : s.sup.rc = false) (pll : s.sup.pllS = false) (supply : s.sup.serLow = false) (sound : ∀ n, s.lasting n = false)
    (keys : s.rngStopped 7 = false) : s.lanesState = (s.setUnit 0x25 stRunning).setUnit 0x04 stRunning := by
  have all : s.laneUp 0 = true ∧ s.laneUp 1 = true ∧ s.laneUp 2 = true ∧ s.laneUp 3 = true :=
    ⟨lanes 0 (by decide), lanes 1 (by decide), lanes 2 (by decide), lanes 3 (by decide)⟩
  unfold State.lanesState
  rw [if_neg (by simp [run, stRunning, stOff, stStopped, stStarting])]
  simp [all, xtal, pll, supply, sound, keys]

/-- The own states of the ports and of the group after both are set. -/
theorem State.ownState_portsAndGroup {s : State} (up : s.sup.vehicleLost = false) (a b : Nat) :
    ((s.setUnit 0x25 a).setUnit 0x04 b).ownState 0x25 = a ∧ ((s.setUnit 0x25 a).setUnit 0x04 b).ownState 0x04 = b := by
  have upPorts : (s.setUnit 0x25 a).sup.vehicleLost = false := up
  simp [State.ownState_setUnit upPorts, State.ownState_setUnit up]

/-- The group's first start without its crystal or its PLL: ports and group FAILED, the sample counter and the lanes as they were (R444, R448). -/
theorem State.rangingStart_fails {s : State} {o : FrontEndObs} (on : s.powered = true) (starting : s.ownState 0x25 = stStarting)
    (cool : s.sup.hot = false) (dead : s.sup.rc = true ∨ s.sup.pllS = true ∨ s.sup.serLow = true) :
    ∃ t, s.rangingStart o = t ∧ t.ownState 0x25 = stFailed ∧ t.ownState 0x04 = stFailed ∧ t.phy = s.phy := by
  have up : s.sup.vehicleLost = false := vehicleLost_of_ownState (v := 0x25) (by decide) (by rw [starting]; decide)
  obtain ⟨ports, group⟩ := State.ownState_portsAndGroup (s := s.setUnits [0x26, 0x27, 0x28, 0x2A, 0x2B, 0x2C, 0x2D] stRunning)
    (by rw [State.setUnits_sup]; exact up) stFailed stFailed
  exact ⟨_, State.rangingStart_dead on starting cool dead, ports, group, State.setUnits_phy ..⟩

/-- Units set RUNNING over a state whose four lanes stream: the ports and the group run, and nothing else moves. -/
theorem State.lanesState_afterStart {s : State} (up : s.sup.vehicleLost = false) (lanes : ∀ n, n < 4 → s.laneUp n = true)
    (xtal : s.sup.rc = false) (pll : s.sup.pllS = false) (supply : s.sup.serLow = false) (sound : ∀ n, s.lasting n = false)
    (keys : s.rngStopped 7 = false) :
    ∃ t, (s.setUnits rangingUnits stRunning).lanesState = t ∧ t.ownState 0x25 = stRunning ∧ t.ownState 0x04 = stRunning ∧ t.phy = s.phy ∧
      t.pol = s.pol ∧ t.rr.objs = s.rr.objs := by
  have runs : (s.setUnits rangingUnits stRunning).ownState 0x25 = stRunning :=
    (State.setUnits_ownState up rangingUnits stRunning 0x25).trans (if_pos (by decide))
  have sup : (s.setUnits rangingUnits stRunning).sup = s.sup := State.setUnits_sup ..
  have phy : (s.setUnits rangingUnits stRunning).phy = s.phy := State.setUnits_phy ..
  have rng : (s.setUnits rangingUnits stRunning).rng = s.rng := State.setUnits_rng ..
  have pol : (s.setUnits rangingUnits stRunning).pol = s.pol := State.setUnits_pol ..
  have rr : (s.setUnits rangingUnits stRunning).rr = s.rr := State.setUnits_rr ..
  generalize s.setUnits rangingUnits stRunning = t at *
  have settled := State.lanesState_streaming runs (fun n lt => by rw [State.laneUp, phy]; exact lanes n lt) (sup ▸ xtal) (sup ▸ pll) (sup ▸ supply)
    (fun n => by rw [State.lasting, sup]; exact sound n) (by rw [State.rngStopped, rng]; exact keys)
  obtain ⟨ports, group⟩ := State.ownState_portsAndGroup (s := t) (sup ▸ up) stRunning stRunning
  exact ⟨_, settled, ports, group, phy, pol, congrArg ReRam.objs rr⟩

/-- The group's start in order: the sample counter runs from now, the lanes stream, and the ports and the group run (R111, R153). -/
theorem State.rangingStart_runs {s : State} {o : FrontEndObs} (on : s.powered = true) (starting : s.ownState 0x25 = stStarting)
    (cool : s.sup.hot = false) (xtal : s.sup.rc = false) (pll : s.sup.pllS = false) (supply : s.sup.serLow = false)
    (keys : s.rngStopped 7 = false) (sound : ∀ n, s.lasting n = false) (good : ∀ n, n < 3 → frontEndInOrder o n) :
    ∃ t, s.rangingStart o = t ∧ t.phy.origin = some s.now ∧ t.phy.chan = s.phySnapshots.chanChoice.1 ∧ (∀ n, n < 4 → t.laneUp n = true) ∧
      t.ownState 0x25 = stRunning ∧ t.ownState 0x04 = stRunning ∧ t.pol = s.pol ∧ t.rr.objs = s.rr.objs := by
  have up : s.sup.vehicleLost = false := vehicleLost_of_ownState (v := 0x25) (by decide) (by rw [starting]; decide)
  obtain ⟨p, origin, chan, streams, act⟩ := State.rangingStart_good on starting cool xtal pll supply sound good
  obtain ⟨keeps, now, rng⟩ := s.phySnapshots_keeps
  have sup := keeps.sup
  have pol := keeps.pol
  have objs := keeps.rrObjs
  rw [now] at origin
  generalize s.phySnapshots = b at *
  obtain ⟨t, after, ports, group, phy, samePol, sameObjs⟩ := State.lanesState_afterStart (s := { b with phy := p }) (sup ▸ up)
    (fun n lt => by simp [State.laneUp, streams n lt]) (sup ▸ xtal) (sup ▸ pll) (sup ▸ supply)
    (fun n => by rw [State.lasting, sup]; exact sound n) (by rw [State.rngStopped, rng]; exact keys)
  refine ⟨t, act.trans after, phy ▸ origin, phy ▸ chan, fun n lt => ?_, ports, group, samePol.trans pol, sameObjs.trans objs⟩
  simp [State.laneUp, phy, streams n lt]

/-- Settles O32: the ports and the group by the branches of their start, the lanes by what the front ends report. -/
theorem rangingGroupStartUp : Obligations.RangingGroupStartUp := by
  intro s dt o u
  refine ⟨fun waits => congrArg (finish s) (State.rangingStart_waits waits), fun on starting cool dead => ?_,
    fun on starting cool xtal pll supply keys sound good => ?_⟩
  · obtain ⟨t, act, facts⟩ := State.rangingStart_fails (o := o) on starting cool (dead.imp_right .inl)
    exact ⟨_, congrArg (finish s) act, facts⟩
  · obtain ⟨t, act, origin, chan, lanes, ports, group, pol, objs⟩ := State.rangingStart_runs on starting cool xtal pll supply keys sound good
    exact ⟨_, congrArg (finish s) act, origin, chan, lanes, ports, group, by simp [State.sampleAt, origin], pol, objs⟩

end Sys2Proof.Machine
end

section
/-! SUPPORT. What an answer leaves in a client's record, and the statements on the step, on answers, on the event queue and on the store of objects. -/

namespace Sys2Proof.Machine
open Sys2Proof

/-! ## Clients' records -/

/-- The records of the clients with a client's record replaced. -/
def putClient (l : List ClientCtx) (x : ClientCtx) : List ClientCtx :=
  if l.any (fun y => y.c == x.c) then l.map (fun y => if y.c == x.c then x else y) else l ++ [x]

/-- The dictionary server's records with a client's record replaced. -/
def Dict.put (d : Dict) (x : ClientCtx) : Dict := { d with clients := putClient d.clients x }

theorem State.setCtx_eq (s : State) (x : ClientCtx) : s.setCtx x = { s with dict := s.dict.put x } := rfl

theorem any_putClient (l : List ClientCtx) (x : ClientCtx) : (putClient l x).any (fun y => y.c == x.c) = true := by
  unfold putClient
  split
  · next known =>
    obtain ⟨y, mem, e⟩ := List.any_eq_true.mp known
    exact List.any_eq_true.mpr ⟨x, List.mem_map.mpr ⟨y, mem, if_pos e⟩, by simp⟩
  · simp

/-- Of two records put for one client the second stays. -/
theorem putClient_putClient (l : List ClientCtx) {x y : ClientCtx} (h : y.c = x.c) : putClient (putClient l x) y = putClient l y := by
  conv_lhs => rw [putClient, if_pos (h ▸ any_putClient l x)]
  unfold putClient
  simp only [h]
  split
  · rw [List.map_map]
    refine List.map_congr_left fun z _ => ?_
    by_cases e : z.c = x.c <;> simp [e]
  · next unknown =>
    have others : l.map (fun z => if z.c == x.c then y else z) = l :=
      (List.map_congr_left fun z mem => if_neg fun e => unknown (List.any_eq_true.mpr ⟨z, mem, e⟩)).trans (List.map_id _)
    rw [List.map_append, others]
    simp

theorem Dict.put_put (d : Dict) {x y : ClientCtx} (h : y.c = x.c) : (d.put x).put y = d.put y := by
  simp only [Dict.put, putClient_putClient d.clients h]

/-- What an answer given at a time leaves in its client's record (R43, R73, R318). -/
def ClientCtx.answered (x : ClientCtx) (k ab : Nat) (d : Bytes) (late : Bool) (now : Nat) : ClientCtx :=
  { x with
    reply := some { key := k, abort := ab, data := d }
    keyOutcome := if k = 0x372006 && late then ab else x.keyOutcome
    ctr := if x.st = 2 && late then (x.ctr + 1) % 2 ^ 32 else x.ctr
    lastUse := now }

/-- The dictionary server's records with an outcome counted (R46). -/
def Dict.counted (d : Dict) (ab : Nat) : Dict :=
  { d with
    completed := if ab = 0 then satAdd 32 d.completed 1 else d.completed
    aborts := if ab = 0 then d.aborts else satAdd 32 d.aborts 1 }

/-- An answer is kept in the client's record and counted. -/
theorem State.answer_eq (s : State) (c : Client) (k ab : Nat) (d : Bytes) (late : Bool) :
    s.answer c k ab d late = { s with dict := (s.dict.put ((s.ctx c).answered k ab d late s.now)).counted ab } := rfl

@[simp] theorem State.ctx_answer (s : State) (c : Client) (k ab : Nat) (d : Bytes) (late : Bool) :
    (s.answer c k ab d late).ctx c = (s.ctx c).answered k ab d late s.now :=
  State.ctx_setCtx_of s _ c (s.ctx_c c)

theorem State.ctx_answer_other (s : State) {c e : Client} (k ab : Nat) (d : Bytes) (late : Bool) (h : e ≠ c) :
    (s.answer c k ab d late).ctx e = s.ctx e :=
  State.ctx_setCtx_other s _ e (fun same => h (same.trans (s.ctx_c c)))

/-- A record that is already the client's own plays no part before its answer. -/
theorem State.answer_setCtx_ctx (s : State) (c : Client) (k ab : Nat) (d : Bytes) (late : Bool) :
    (s.setCtx (s.ctx c)).answer c k ab d late = s.answer c k ab d late := by
  have own : (s.setCtx (s.ctx c)).ctx c = s.ctx c := State.ctx_setCtx_of s _ c (s.ctx_c c)
  have twice : (s.dict.put (s.ctx c)).put ((s.ctx c).answered k ab d late s.now) = s.dict.put ((s.ctx c).answered k ab d late s.now) :=
    s.dict.put_put rfl
  rw [State.answer_eq, own]
  exact congrArg (fun d : Dict => { s with dict := d.counted ab }) twice

/-- Settles O6: an answer is one record replaced, and one counter moved. -/
theorem answerIsKeptAndCounted : Obligations.AnswerIsKeptAndCounted := by
  intro s c k ab d late t
  have own : t.ctx c = (s.ctx c).answered k ab d late s.now := s.ctx_answer c k ab d late
  rw [own]
  refine ⟨rfl, rfl, rfl, rfl, ?_, rfl, rfl, rfl, rfl, fun e other => s.ctx_answer_other k ab d late other, rfl⟩
  simp [ClientCtx.answered]

/-- Settles O1, by the two cases of the queue. -/
theorem stepRunsTheFrontCommand : Obligations.StepRunsTheFrontCommand := by
  constructor
  · intro i r s front
    unfold step
    rw [front]
  · intro s idle
    refine ⟨s.settle, ?_, rfl⟩
    unfold step
    rw [idle]

/-! ## The event queue (R74) -/

/-- The entry that a unit raises now. -/
def State.eventOf (s : State) (uid code p : Nat) : Event :=
  { code := code, unit := raiser uid code, param := p % 2 ^ 32, ms := s.ms % 2 ^ 32 }

/-- EVENTS_LOST, as it enters when the lost count leaves 0 (R76). -/
def State.lostEvent (s : State) : Event := { code := 0x1105, unit := 0x24, param := 1, ms := s.ms % 2 ^ 32 }

theorem State.emit_off {s : State} (off : s.powered = false) (uid code p : Nat) : s.emit uid code p = s := by
  simp [State.emit, off]

/-- The journal's record of an event (R9). -/
def Event.inJournal (e : Event) (s : State) : State := s.record 0x0020 (e.bytes ++ [0, 0, 0, 0])

@[simp] theorem Event.inJournal_evq (e : Event) (s : State) : (e.inJournal s).evq = s.evq := rfl
@[simp] theorem Event.inJournal_evLost (e : Event) (s : State) : (e.inJournal s).evLost = s.evLost := rfl

/-- An event that takes no lost count away from 0 enters alone. -/
theorem State.emit_alone {s : State} {uid code p : Nat} (on : s.powered = true)
    (h : s.evLost = 0 → (s.pushEvent (s.eventOf uid code p)).evLost = 0) :
    s.emit uid code p = (s.eventOf uid code p).inJournal (s.pushEvent (s.eventOf uid code p)) := by
  unfold State.emit
  rw [if_neg (by simp [on])]
  refine if_neg ?_
  show ¬(decide (s.evLost = 0) && (s.pushEvent (s.eventOf uid code p)).evLost != 0) = true
  simpa using h

/-- The event that takes the lost count away from 0 enters, and EVENTS_LOST after it. -/
theorem State.emit_with_lost {s : State} {uid code p : Nat} (on : s.powered = true) (none_ : s.evLost = 0)
    (one : (s.pushEvent (s.eventOf uid code p)).evLost = 1) :
    s.emit uid code p = s.lostEvent.inJournal
      (((s.eventOf uid code p).inJournal (s.pushEvent (s.eventOf uid code p))).pushEvent s.lostEvent) := by
  have first : (decide (s.evLost = 0) && (s.pushEvent (s.eventOf uid code p)).evLost != 0) = true := by
    rw [none_, one]
    rfl
  have count : ∀ n, n = 1 → ({ code := 0x1105, unit := 0x24, param := n, ms := s.ms % 2 ^ 32 } : Event) = s.lostEvent := by
    rintro _ rfl
    rfl
  have entry := count _ one
  unfold State.emit
  rw [if_neg (by simp [on])]
  refine (if_pos first).trans ?_
  rw [← entry]
  rfl

/-- The queue with room takes an event as its newest entry. -/
theorem State.emit_room {s : State} (on : s.powered = true) (room : s.evq.length < 64) (uid code p : Nat) :
    (s.emit uid code p).evq = s.evq ++ [s.eventOf uid code p] ∧ (s.emit uid code p).evLost = s.evLost := by
  have push := s.pushEvent_room (s.eventOf uid code p) room
  rw [State.emit_alone on (by rw [push]; exact id), push]
  exact ⟨rfl, rfl⟩

/-- The full queue that has lost events loses its oldest entry. -/
theorem State.emit_full {s : State} (on : s.powered = true) (full : s.evq.length = 64) (was : 0 < s.evLost) (uid code p : Nat) :
    (s.emit uid code p).evq = s.evq.drop 1 ++ [s.eventOf uid code p] ∧ (s.emit uid code p).evLost = min (s.evLost + 1) (2 ^ 16 - 1) := by
  rw [State.emit_alone on (fun zero => absurd zero (Nat.ne_of_gt was)), s.pushEvent_full (s.eventOf uid code p) (Nat.le_of_eq full.symm)]
  exact ⟨rfl, rfl⟩

/-- The full queue that has lost none loses two entries: for the event, and for EVENTS_LOST. -/
theorem State.emit_first_lost {s : State} (on : s.powered = true) (full : s.evq.length = 64) (none_ : s.evLost = 0) (uid code p : Nat) :
    (s.emit uid code p).evLost = 2 ∧ (s.emit uid code p).evq = s.evq.drop 2 ++ [s.eventOf uid code p, s.lostEvent] := by
  have push := s.pushEvent_full (s.eventOf uid code p) (Nat.le_of_eq full.symm)
  have one : (s.pushEvent (s.eventOf uid code p)).evLost = 1 := by rw [push, none_]; rfl
  have queue : (s.pushEvent (s.eventOf uid code p)).evq = s.evq.drop 1 ++ [s.eventOf uid code p] := by rw [push]
  rw [State.emit_with_lost on none_ one, State.pushEvent_full _ _ (by simp [queue, full])]
  refine ⟨by simp [one, satAdd], ?_⟩
  simp only [Event.inJournal_evq, queue]
  rw [List.drop_append_of_le_length (by simp [full]), List.drop_drop, List.append_assoc]
  rfl

theorem State.emit_bound (s : State) (uid code p : Nat) (h : s.evq.length ≤ 64) : (s.emit uid code p).evq.length ≤ 64 := by
  cases on : s.powered with
  | false => rw [State.emit_off on]; exact h
  | true =>
    by_cases room : s.evq.length < 64
    · rw [(State.emit_room on room uid code p).1, List.length_append, List.length_singleton]
      exact room
    · have full : s.evq.length = 64 := by omega
      by_cases none_ : s.evLost = 0
      · rw [(State.emit_first_lost on full none_ uid code p).2]
        simp [full]
      · rw [(State.emit_full on full (Nat.pos_of_ne_zero none_) uid code p).1]
        simp [full]

/-! ## The objects of the event queue -/

theorem leBytes_leNat (b : Bytes) : leBytes b.length (leNat b) = b := by
  induction b with
  | nil => rfl
  | cons x r ih =>
    have lt := x.isLt
    have low : BitVec.ofNat 8 (x.toNat + 256 * leNat r) = x := by
      apply BitVec.eq_of_toNat_eq
      simp only [BitVec.toNat_ofNat]
      omega
    have high : (x.toNat + 256 * leNat r) / 256 = leNat r := by omega
    simp only [leNat, List.length_cons, leBytes, low, high, ih]

@[simp] theorem Event.bytes_length (e : Event) : e.bytes.length = 12 := by simp [Event.bytes, leBytes_length]

/-- The oldest entry as object 0x1181:01 reads it (R74). -/
theorem State.presentBytes_event (s : State) (c : Client) :
    s.presentBytes c 0x1181 1 = leBytes 12 (leNat ((s.evq.head?.map (·.bytes)).getD [])) := rfl

/-- A read of the oldest entry removes it. -/
theorem State.readObject_event (s : State) (c : Client) :
    s.readObject c 0x1181 1 = ({ s with evq := s.evq.drop 1 }, (abOk, s.presentBytes c 0x1181 1)) := rfl

/-- Settles O8: the queue by its room and its lost count, its objects by the read and the way of the write. -/
theorem eventQueueLosesItsOldest : Obligations.EventQueueLosesItsOldest := by
  refine ⟨fun s uid code p => ?_, fun s dt c => ⟨fun acc => ?_, fun acc => ?_⟩⟩
  · exact ⟨fun off => State.emit_off off uid code p, fun on room => State.emit_room on room uid code p,
      fun on full was => State.emit_full on full was uid code p, fun on full none_ => State.emit_first_lost on full none_ uid code p,
      s.emit_bound uid code p⟩
  · refine congrArg (finish s) ((asksRead_gives acc).trans ?_)
    rw [State.readObject_event, State.presentBytes_event]
    refine congrArg (fun b => State.answer _ c _ abOk b true) ?_
    cases (s.turn dt).evq with
    | nil => rfl
    | cons e r => exact e.bytes_length ▸ leBytes_leNat e.bytes
  · exact congrArg (finish s)
      (asksWrite_acts { act := okAct (fun s => { s with evLost := 0 }) } rfl acc (by decide) (by decide) rfl (by simp) rfl)

/-! ## The store of objects -/

theorem key_inj {ix jx a b : Nat} (ha : a < 256) (hb : b < 256) (h : key jx b = key ix a) : (jx, b) = (ix, a) := by
  unfold key at h
  simp only [Prod.mk.injEq]
  omega

theorem State.setObj_objs_sorted {s : State} (h : kvSorted s.objs = true) (ix sub v : Nat) : kvSorted (s.setObj ix sub v).objs = true := by
  unfold State.setObj
  split
  · exact h
  · split
    · exact h
    · exact kvSorted_kvSet _ _ _ _ h

theorem State.setObj_rr_sorted {s : State} (h : kvSorted s.rr.objs = true) (ix sub v : Nat) : kvSorted (s.setObj ix sub v).rr.objs = true := by
  unfold State.setObj
  split
  · exact h
  · split
    · exact kvSorted_kvSet _ _ _ _ h
    · exact h

theorem State.setObj_rest (s : State) (ix sub v : Nat) :
    { s.setObj ix sub v with objs := s.objs, rr := { (s.setObj ix sub v).rr with objs := s.rr.objs } } = s := by
  unfold State.setObj
  split
  · rfl
  · split <;> rfl

/-- An object reads from ReRAM or RAM by its kind (R372). -/
theorem State.obj_of_find (s : State) {ix sub : Nat} {d : ObjDef} (find : objFind ix sub = some d) :
    s.obj ix sub = kvGet d.dflt (if d.pers then s.rr.objs else s.objs) (key ix sub) := by
  unfold State.obj
  rw [find]
  dsimp only
  split <;> rfl

theorem State.setObj_of_find (s : State) {ix sub : Nat} {d : ObjDef} (find : objFind ix sub = some d) (v : Nat) :
    s.setObj ix sub v =
      if d.pers then { s with rr := { s.rr with objs := kvSet d.dflt s.rr.objs (key ix sub) v } }
      else { s with objs := kvSet d.dflt s.objs (key ix sub) v } := by
  unfold State.setObj
  rw [find]

theorem State.obj_setObj_same (s : State) {ix sub : Nat} {d : ObjDef} (find : objFind ix sub = some d) (v : Nat) :
    (s.setObj ix sub v).obj ix sub = v := by
  rw [State.obj_of_find _ find, State.setObj_of_find s find]
  by_cases pers : d.pers = true
  · rw [if_pos pers, if_pos pers]
    exact kvGet_kvSet_same _ _ _ _
  · rw [if_neg pers, if_neg pers]
    exact kvGet_kvSet_same _ _ _ _

/-- A store reads the same under every other key once an object is stored. -/
theorem State.setObj_stores_other (s : State) {ix sub k : Nat} (v e : Nat) (apart : k ≠ key ix sub) :
    kvGet e (s.setObj ix sub v).objs k = kvGet e s.objs k ∧ kvGet e (s.setObj ix sub v).rr.objs k = kvGet e s.rr.objs k := by
  have other : ∀ (d : Nat) (l : Objs), kvGet e (kvSet d l (key ix sub) v) k = kvGet e l k := by
    intro d l
    unfold kvSet
    split
    · exact kvGet_kvDel_other e l _ k apart
    · exact kvGet_kvPut_other e l _ k v apart
  unfold State.setObj
  split
  · exact ⟨rfl, rfl⟩
  · split
    · exact ⟨rfl, other _ _⟩
    · exact ⟨other _ _, rfl⟩

theorem State.obj_setObj_other (s : State) {ix sub jx b : Nat} (v : Nat) (hs : sub < 256) (hb : b < 256) (other : (jx, b) ≠ (ix, sub)) :
    (s.setObj ix sub v).obj jx b = s.obj jx b := by
  have apart : key jx b ≠ key ix sub := fun same => other (key_inj hs hb same)
  unfold State.obj
  split
  · rfl
  · next d _ =>
    obtain ⟨ram, reram⟩ := s.setObj_stores_other v d.dflt apart
    rw [ram, reram]

/-- Settles O9: an object is read from the store that it is written to, and keys tell the objects apart. -/
theorem objectStoreReadsBackWhatWasWritten : Obligations.ObjectStoreReadsBackWhatWasWritten := by
  refine ⟨fun s ix sub v known => ?_, fun ix sub d find => ?_⟩
  · obtain ⟨d, find⟩ := Option.isSome_iff_exists.mp known
    exact ⟨fun ok => State.setObj_objs_sorted ok ix sub v, fun ok => State.setObj_rr_sorted ok ix sub v, State.obj_setObj_same s find v,
      fun jx b hs hb other => State.obj_setObj_other s v hs hb other, s.setObj_rest ix sub v⟩
  · rw [State.obj_of_find _ find]
    split <;> rfl

end Sys2Proof.Machine
end

section
/-! SUPPORT. Plain writes of objects (R55): the store at once, the wait for the commit, the commit, and the fence. -/

namespace Sys2Proof.Machine
open Sys2Proof

/-! ## Plain writes -/

/-- The objects that wait in their own way, or for no fence, are not persistent. -/
theorem objFind_own_waits {ix sub : Nat} {d : ObjDef} (find : objFind ix sub = some d) (pers : d.pers = true) :
    ¬(ix = 0x3020 ∧ sub = 4) ∧ ¬(ix = 0x3720 ∧ sub = 6) := by
  have volatile : ∀ k ∈ [(0x3020, 4), (0x3720, 6)], ∀ e ∈ objFind k.1 k.2, e.pers = false := by decide +kernel
  constructor <;> rintro ⟨rfl, rfl⟩
  · exact Bool.noConfusion (pers.symm.trans (volatile (0x3020, 4) (by simp) d find))
  · exact Bool.noConfusion (pers.symm.trans (volatile (0x3720, 6) (by simp) d find))

theorem plainWay_persistent {ix sub : Nat} {d : ObjDef} (find : objFind ix sub = some d) (pers : d.pers = true) (c : Client) (data : Bytes) :
    plainWay c ix sub data = { nv := true, late := true, act := fun s => s.persistentWrite ix sub data } := by
  simp [plainWay, find, pers]

theorem plainWay_volatile {ix sub : Nat} {d : ObjDef} (find : objFind ix sub = some d) (pers : d.pers = false) (c : Client) (data : Bytes) :
    plainWay c ix sub data = { act := fun s => s.volatileWrite c ix sub data } := by
  simp [plainWay, find, pers]

section
variable (s : State) {c : Client} {ix sub : Nat} {data : Bytes} {d : ObjDef} (way : wayOf c ix sub data = plainWay c ix sub data)
  (find : objFind ix sub = some d) (counters : ix ≠ 0x3811)
include way find counters

/-- A plain write of a persistent object waits for its commit. -/
theorem State.beginWrite_persistent (pers : d.pers = true) :
    s.beginWrite c ix sub data (wayOf c ix sub data) = s.waitCommit c (key ix sub) data := by
  obtain ⟨window, keyOp⟩ := objFind_own_waits find pers
  rw [way, plainWay_persistent find pers]
  unfold State.beginWrite
  rw [if_neg window, if_neg counters, if_neg (fun h => keyOp ⟨h.1, h.2.1⟩)]
  exact if_pos rfl

/-- A plain write of a volatile object with nothing of its own to do stores the value and is answered. -/
theorem State.beginWrite_volatile (pers : d.pers = false)
    (own : ix ∉ [0x1110, 0x2C08, 0x3020, 0x3702, 0x3720, 0x3A20, 0x3410, 0x3411, 0x3510, 0x3511]) (timers : ¬(0x4510 ≤ ix ∧ ix ≤ 0x4517)) :
    s.beginWrite c ix sub data (wayOf c ix sub data) = ((s.touchIx ix).setObj ix sub (leNat data)).done c ix sub := by
  simp only [List.mem_cons, List.not_mem_nil, or_false, not_or] at own
  obtain ⟨session, row, window, slot, keyOp, export_, cipherJob, cipherKey, pkJob, pkKey⟩ := own
  have stores : s.volatileWrite c ix sub data = ((s.touchIx ix).setObj ix sub (leNat data), abOk) := by
    unfold State.volatileWrite
    dsimp only
    rw [if_neg session, if_neg (by simp [perClient, row, window, slot, keyOp, export_]), if_neg keyOp, if_neg (by simp [cipherJob, cipherKey]),
      if_neg (by simp [pkJob, pkKey]), if_neg (fun h => timers ⟨h.1, h.2.1⟩), if_neg (fun h => timers ⟨h.1, h.2.1⟩)]
  rw [way, plainWay_volatile find pers]
  unfold State.beginWrite
  rw [if_neg (fun h => window h.1), if_neg counters, if_neg (fun h => keyOp h.1), startWay_now rfl (by simp) rfl]
  show (s.volatileWrite c ix sub data).1.answer c (key ix sub) (s.volatileWrite c ix sub data).2 [] true = _
  rw [stores]
  rfl

end

/-! ## The commit of a persistent object's value -/

/-- What touches neither the store of objects, in RAM and ReRAM, nor the dictionary server. -/
structure KeepsObjects (s t : State) : Prop where
  objs : t.objs = s.objs
  rrObjs : t.rr.objs = s.rr.objs
  dict : t.dict = s.dict

theorem KeepsObjects.refl (s : State) : KeepsObjects s s := ⟨rfl, rfl, rfl⟩

theorem KeepsObjects.trans {s t u : State} (h : KeepsObjects s t) (g : KeepsObjects t u) : KeepsObjects s u :=
  ⟨g.objs.trans h.objs, g.rrObjs.trans h.rrObjs, g.dict.trans h.dict⟩

theorem KeepsObjects.ctx {s t : State} (h : KeepsObjects s t) (c : Client) : t.ctx c = s.ctx c := by
  simp [State.ctx, h.dict]

theorem KeepsObjects.emitIf {s t : State} (h : KeepsObjects s t) {b : Bool} {u code p : Nat} : KeepsObjects s (t.emitIf b u code p) :=
  h.trans ⟨by simp, by simp, by simp⟩

theorem KeepsObjects.snapshot (s : State) (set lo hi : Nat) (b : Bool) (u code p : Nat) : KeepsObjects s (s.snapshot set lo hi b u code p) :=
  ⟨by simp, by simp, by simp⟩

theorem KeepsObjects.bellValid (s : State) (v : Bool) : KeepsObjects s (s.bellValid v) := by
  unfold State.bellValid
  refine .emitIf ?_
  exact ⟨rfl, rfl, rfl⟩

theorem KeepsObjects.bellListen (s : State) : KeepsObjects s s.bellListen := (KeepsObjects.bellValid s false).trans ⟨rfl, rfl, rfl⟩

theorem KeepsObjects.bellReconf (s : State) : KeepsObjects s s.bellReconf := by
  have conf : KeepsObjects s s.bellTakeConf := .snapshot ..
  unfold State.bellReconf
  dsimp only
  split_ifs
  · exact .refl s
  · exact conf.trans ((KeepsObjects.bellValid _ false).trans ⟨rfl, rfl, rfl⟩)
  · exact conf.trans (.bellListen _)
  · exact conf

theorem KeepsObjects.recWrite (s : State) (a k len : Nat) : KeepsObjects s (s.recWrite a k len) := by
  refine ⟨rfl, ?_, rfl⟩
  unfold State.recWrite ReRam.setArea
  dsimp only
  split_ifs <;> rfl

/-- The commit of a value stores it in ReRAM and leaves the store in RAM and the dictionary server as they are. -/
theorem State.commitObj_persistent (s : State) {ix sub : Nat} {d : ObjDef} (find : objFind ix sub = some d) (pers : d.pers = true) (v : Nat) :
    (s.commitObj ix sub v).rr.objs = kvSet d.dflt s.rr.objs (key ix sub) v ∧ (s.commitObj ix sub v).objs = s.objs ∧ (s.commitObj ix sub v).dict = s.dict := by
  have keeps := KeepsObjects.recWrite s (areaOf ix) (key ix sub) (recLen d v)
  have act : s.commitObj ix sub v = (s.recWrite (areaOf ix) (key ix sub) (recLen d v)).setObj ix sub v := by
    unfold State.commitObj
    rw [find]
  rw [act]
  generalize s.recWrite (areaOf ix) (key ix sub) (recLen d v) = t at keeps
  rw [State.setObj_of_find t find, if_pos pers]
  exact ⟨by rw [← keeps.rrObjs], keeps.objs, keeps.dict⟩

/-- The commit of a plain persistent write, the certificate's length aside (R55, R150, R304, R442). -/
theorem State.persistentWrite_stores (s : State) {ix sub : Nat} {d : ObjDef} (find : objFind ix sub = some d) (pers : d.pers = true)
    (certificate : ix ≠ 0x3740 ∨ sub ≠ 2) (data : Bytes) :
    ∃ t, s.persistentWrite ix sub data = (t, abOk) ∧ t.rr.objs = kvSet d.dflt s.rr.objs (key ix sub) (leNat data) ∧ t.objs = s.objs ∧ t.dict = s.dict := by
  obtain ⟨reram, ram, dict⟩ := (s.touchIx ix).commitObj_persistent find pers (leNat data)
  have keeps : ∃ t, s.persistentWrite ix sub data = (t, abOk) ∧ KeepsObjects ((s.touchIx ix).commitObj ix sub (leNat data)) t := by
    unfold State.persistentWrite
    dsimp only
    rw [if_neg (fun h => certificate.elim (absurd h.1) (absurd h.2))]
    refine ⟨_, rfl, ?_⟩
    split
    · exact (KeepsObjects.emitIf (.refl _)).trans (.bellReconf _)
    · exact .emitIf (.refl _)
  obtain ⟨t, act, same⟩ := keeps
  exact ⟨t, act, same.rrObjs.trans reram, same.objs.trans ram, same.dict.trans dict⟩

/-! ## The commands of waiting writes -/

section
variable {u : State} {c : Client} {x : Commit} (waits : u.dict.commits.find? (fun y => y.c == c) = some x)
include waits

/-- With the fence up nothing commits but an increment. -/
theorem State.persistentCommit_fenced (fence : u.fenced = true) (counters : x.key / 256 ≠ 0x3811) : u.persistentCommit c = u := by
  unfold State.persistentCommit
  rw [waits]
  dsimp only
  rw [if_neg counters, if_pos fence]
  exact ite_self _

/-- With no fence up a plain write commits and is answered. -/
theorem State.persistentCommit_plain (on : u.powered = true) (free : u.fenced = false) (counters : x.key / 256 ≠ 0x3811)
    (window : x.key / 256 ≠ 0x3020) {d : ObjDef} (find : objFind (x.key / 256) (x.key % 256) = some d) (pers : d.pers = true)
    (way : wayOf c (x.key / 256) (x.key % 256) x.data = plainWay c (x.key / 256) (x.key % 256) x.data) :
    u.persistentCommit c =
      (({ u with dict := { u.dict with commits := u.dict.commits.erase x } } : State).persistentWrite (x.key / 256) (x.key % 256) x.data).1.answer c x.key
        (({ u with dict := { u.dict with commits := u.dict.commits.erase x } } : State).persistentWrite (x.key / 256) (x.key % 256) x.data).2 [] true := by
  unfold State.persistentCommit
  rw [waits]
  dsimp only
  rw [if_neg (by simp [on]), if_neg counters, if_neg (by simp [free]), if_neg window, way, plainWay_persistent find pers]
  exact if_pos rfl

/-- A write that has waited 100 ms for the fence is dropped. -/
theorem State.nvFenced_drops (on : u.powered = true) (fence : u.fenced = true) (late : x.at_ + 100000000 ≤ u.now) (counters : x.key / 256 ≠ 0x3811) :
    u.nvFenced c = ({ u with dict := { u.dict with commits := u.dict.commits.erase x } } : State).answer c x.key abFenced [] true := by
  unfold State.nvFenced
  rw [waits]
  dsimp only
  have late : ¬u.now < x.at_ + 100 * msNs := Nat.not_lt.mpr late
  rw [if_neg (by simp [on, fence, counters, late]), if_neg counters]

theorem State.nvFenced_waits (h : u.fenced = false ∨ u.now < x.at_ + 100000000) : u.nvFenced c = u := by
  unfold State.nvFenced
  rw [waits]
  refine if_pos ?_
  obtain free | early := h
  · simp [free]
  · have early : u.now < x.at_ + 100 * msNs := early
    simp [early]

end

/-- Settles O17: a plain write is one store or one wait, and a wait ends by its commit or by its drop. -/
theorem persistentWritesCommitOrAreFenced : Obligations.PersistentWritesCommitOrAreFenced := by
  intro s dt c u
  refine ⟨fun ix sub data d acc way find counters => ⟨fun pers => ?_, fun pers own timers => ?_⟩, fun x waits on counters window => ⟨?_, ?_, ?_, ?_⟩⟩
  · exact congrArg (finish s) ((asksWrite_begins acc).trans (u.beginWrite_persistent way find counters pers))
  · exact congrArg (finish s) ((asksWrite_begins acc).trans (u.beginWrite_volatile way find counters pers own timers))
  · exact fun fence => congrArg (finish s) (State.persistentCommit_fenced waits fence counters)
  · intro d free find pers way certificate
    have act := State.persistentCommit_plain waits on free counters window find pers way
    obtain ⟨t, stores, reram, ram, dict⟩ :=
      ({ u with dict := { u.dict with commits := u.dict.commits.erase x } } : State).persistentWrite_stores find pers certificate x.data
    rw [stores] at act
    have same : key (x.key / 256) (x.key % 256) = x.key := Nat.div_add_mod' x.key 256
    refine ⟨_, congrArg (finish s) act, t.ctx_answer_reply c x.key abOk [] true, ?_, ram, ?_⟩
    · rw [same] at reram
      exact reram
    · exact congrArg Dict.commits dict
  · exact fun fence late => congrArg (finish s) (State.nvFenced_drops waits on fence late counters)
  · exact fun h => congrArg (finish s) (State.nvFenced_waits waits h)

end Sys2Proof.Machine
end

section
/-! SUPPORT. The host port: what a transaction shifts, request frames, and reads and writes of whole objects (R48 to R58), with the time-outs of
streams and read snapshots (R69, R72). -/

namespace Sys2Proof.Machine
open Sys2Proof

/-! ## Transactions -/

/-- The new-data flags follow in the flags and the values seen alone (R58). -/
theorem State.fastFlags_eq (s : State) : ∃ seen new, s.fastFlags = { s with host := { s.host with seen := seen, newData := new } } := by
  refine List.foldlRecOn (motive := fun t : State => ∃ seen new, t = { s with host := { s.host with seen := seen, newData := new } }) s.host.map _
    ⟨s.host.seen, s.host.newData, rfl⟩ ?_
  rintro t ⟨seen, new, rfl⟩ e -
  dsimp only
  split
  · exact ⟨seen, new, rfl⟩
  · exact ⟨_, _, rfl⟩

section
variable {u : State} {ws : List Word} (some_ : ws ≠ []) (on : u.powered = true)
include some_

/-- A transaction begins with the status word and zeros. -/
theorem State.hostBegin_miso : (u.hostBegin ws).host.miso = BitVec.ofNat 16 u.hostStatus :: List.replicate (ws.length - 1) 0 := by
  have long : ws.length = ws.length - 1 + 1 := (Nat.succ_pred_eq_of_pos (List.length_pos_iff.mpr some_)).symm
  show (BitVec.ofNat 16 u.hostStatus :: List.replicate (ws.length - 1) (0 : Word)).take ws.length = _
  exact List.take_of_length_le (by simp; omega)

/-- A transaction of the row's own opcode while the control domain runs. -/
theorem State.transaction_mine {mine : Bool} (is : mine = true) (on : u.powered = true) (act : State → State) :
    u.transaction ws mine act = act (u.fastFlags.hostBegin ws) := by
  simp [State.transaction, some_, is, on]

end

/-- With no response waiting zeros go out, and nothing is consumed (R52). -/
theorem State.hostTake_none {s : State} (none_ : s.host.avail = false) (n : Nat) :
    s.hostTake n = { s with host := { s.host with miso := BitVec.ofNat 16 s.hostStatus :: List.replicate n 0 } } := by
  unfold State.hostTake
  simp [none_]

/-- A response clocked with its CRC word is consumed, and zeros follow it. -/
theorem State.hostTake_whole {s : State} {n : Nat} (waits : s.host.avail = true) (whole : s.host.resp.length ≤ n) :
    s.hostTake n = { s with host := { s.host with
      miso := BitVec.ofNat 16 s.hostStatus :: (s.host.resp ++ List.replicate (n - s.host.resp.length) 0), avail := false, busy := false } } := by
  unfold State.hostTake
  simp [waits, whole, List.take_of_length_le whole]

/-- A response clocked in part stays whole. -/
theorem State.hostTake_part {s : State} {n : Nat} (waits : s.host.avail = true) (part : n < s.host.resp.length) :
    s.hostTake n = { s with host := { s.host with miso := BitVec.ofNat 16 s.hostStatus :: s.host.resp.take n } } := by
  unfold State.hostTake
  simp [waits, Nat.not_le.mpr part, Nat.sub_eq_zero_of_le (Nat.le_of_lt part)]

/-! ## Reads leave the port and the clients' records alone -/

/-- What touches neither the host port nor the dictionary server. -/
structure KeepsPort (s t : State) : Prop where
  host : t.host = s.host
  dict : t.dict = s.dict

theorem KeepsPort.refl (s : State) : KeepsPort s s := ⟨rfl, rfl⟩

theorem KeepsPort.trans {s t u : State} (h : KeepsPort s t) (g : KeepsPort t u) : KeepsPort s u := ⟨g.host.trans h.host, g.dict.trans h.dict⟩

theorem KeepsPort.ctx {s t : State} (h : KeepsPort s t) (c : Client) : t.ctx c = s.ctx c := by
  simp [State.ctx, h.dict]

theorem KeepsPort.setCtl (s : State) (bus : Nat) (x : CanCtl) : KeepsPort s (s.setCtl bus x) := by
  unfold State.setCtl
  split <;> exact ⟨rfl, rfl⟩

theorem KeepsPort.cipherRead (s : State) (c : Client) (out : Bool) : KeepsPort s (s.cipherRead c out) := by
  unfold State.cipherRead
  split_ifs <;> exact ⟨rfl, rfl⟩

theorem KeepsPort.pkRead (s : State) (c : Client) (out : Bool) : KeepsPort s (s.pkRead c out) := by
  unfold State.pkRead
  split_ifs <;> exact ⟨rfl, rfl⟩

theorem KeepsPort.readEffect (s : State) (c : Client) (ix sub : Nat) : KeepsPort s (s.readEffect c ix sub) := by
  unfold State.readEffect
  split
  · exact ⟨rfl, rfl⟩
  · split
    · exact ⟨rfl, rfl⟩
    · split
      · split
        · exact .setCtl s _ _
        · exact .refl s
      · split
        · split
          · exact .setCtl s _ _
          · exact .refl s
        · split
          · split
            · exact ⟨rfl, rfl⟩
            · exact .refl s
          · split
            · exact .cipherRead s c _
            · split
              · exact .pkRead s c _
              · exact .refl s

theorem KeepsPort.draw {s t : State} {ch n : Nat} {b : Bytes} (h : s.draw ch n = some (t, b)) : KeepsPort s t := by
  unfold State.draw at h
  dsimp only at h
  split at h
  · cases h
  · cases h; exact ⟨rfl, rfl⟩

theorem KeepsPort.randomRead (s : State) : KeepsPort s s.randomRead.1 := by
  unfold State.randomRead
  split
  · exact .refl s
  · split
    · next drawn => exact (KeepsPort.draw drawn).trans ⟨rfl, rfl⟩
    · exact .refl s

theorem KeepsPort.tagBadRead (s : State) (bank ptr n : Nat) : KeepsPort s (s.tagBadRead bank ptr n) := by
  unfold State.tagBadRead
  split
  · exact .refl s
  · exact List.foldlRecOn (motive := KeepsPort s) _ _ ⟨rfl, rfl⟩ fun t h u _ => h.trans ⟨by simp, by simp⟩

theorem KeepsPort.windowRead (s : State) (c : Client) : KeepsPort s (s.windowRead c).1 := by
  unfold State.windowRead
  dsimp only
  split_ifs
  · exact .refl s
  · exact .refl s
  · exact .tagBadRead s _ _ _
  · exact .refl s

theorem KeepsPort.readObject (s : State) (c : Client) (ix sub : Nat) : KeepsPort s (s.readObject c ix sub).1 := by
  unfold State.readObject
  split_ifs
  · exact .refl s
  · exact .randomRead s
  · exact .windowRead s c
  · exact .readEffect s c ix sub

/-! ## The fast window -/

/-- The response, the request and the flags of the port as clocking words of the fast window leaves them. -/
structure KeepsResponse (s t : State) : Prop where
  avail : t.host.avail = s.host.avail
  resp : t.host.resp = s.host.resp
  lastReq : t.host.lastReq = s.host.lastReq

theorem KeepsResponse.refl (s : State) : KeepsResponse s s := ⟨rfl, rfl, rfl⟩

theorem KeepsResponse.trans {s t u : State} (h : KeepsResponse s t) (g : KeepsResponse t u) : KeepsResponse s u :=
  ⟨g.avail.trans h.avail, g.resp.trans h.resp, g.lastReq.trans h.lastReq⟩

theorem KeepsPort.response {s t : State} (h : KeepsPort s t) : KeepsResponse s t := ⟨by rw [h.host], by rw [h.host], by rw [h.host]⟩

theorem KeepsResponse.fastWord (s : State) (a : Nat) : KeepsResponse s (s.fastWord a).1 := by
  unfold State.fastWord
  dsimp only
  split
  · exact .refl s
  · split
    · exact .refl s
    · split
      · exact .refl s
      · split
        · exact (KeepsPort.readEffect s .host _ _).response.trans ⟨rfl, rfl, rfl⟩
        · exact .refl s

theorem KeepsResponse.fastRun (n : Nat) (s : State) (a : Nat) : KeepsResponse s (s.fastRun n a).1 := by
  induction n generalizing s a with
  | zero => exact .refl s
  | succ n ih => exact (KeepsResponse.fastWord s (a % 256)).trans (ih _ _)

/-- Settles O14: the flags follow, the transaction begins, and the act of the row's opcode says what goes out. -/
theorem hostTransactionsShiftStatusAndWords : Obligations.HostTransactionsShiftStatusAndWords := by
  intro s dt ws some_ u v word0 on
  obtain ⟨seen, new, flags⟩ := u.fastFlags_eq
  have miso : v.host.miso = word0 :: List.replicate (ws.length - 1) 0 := State.hostBegin_miso some_
  have status : BitVec.ofNat 16 v.hostStatus = word0 := rfl
  have port : { v with host := u.host } = u ∧ v.host.resp = u.host.resp ∧ v.host.avail = u.host.avail ∧ v.host.busy = u.host.busy ∧
      v.host.lastReq = u.host.lastReq := by
    show { u.fastFlags.hostBegin ws with host := u.host } = u ∧ u.fastFlags.host.resp = u.host.resp ∧ u.fastFlags.host.avail = u.host.avail ∧
      u.fastFlags.host.busy = u.host.busy ∧ u.fastFlags.host.lastReq = u.host.lastReq
    rw [flags]
    exact ⟨rfl, rfl, rfl, rfl, rfl⟩
  obtain ⟨rest, resp, avail, busy, lastReq⟩ := port
  have run : ∀ {mine : Bool} (act : State → State), mine = true → u.transaction ws mine act = act v :=
    fun act is => State.transaction_mine some_ is on act
  refine ⟨miso, rest, resp, avail, busy, lastReq, fun op => ?_, fun op => ?_, fun op none_ => ?_, fun op waits whole => ?_,
    fun op waits part => ?_, fun op => ?_⟩
  · exact congrArg (finish s) (run _ (by simp [op]))
  · exact congrArg (finish s) (run _ (by simp [op]))
  · refine congrArg (finish s) ((run _ (by simp [op])).trans ?_)
    rw [State.hostTake_none (avail.trans none_), status, ← miso]
  · refine congrArg (finish s) ((run _ (by simp [op])).trans ?_)
    rw [State.hostTake_whole (avail.trans waits) (by rw [resp]; exact whole), status, resp]
  · refine congrArg (finish s) ((run _ (by simp [op])).trans ?_)
    rw [State.hostTake_part (avail.trans waits) (by rw [resp]; exact part), status, resp]
  · have keeps := KeepsResponse.fastRun (ws.length - 1) v (wordAt ws 0 % 256)
    exact ⟨_, congrArg (finish s) (run _ (by simp [op])), rfl, keeps.avail.trans avail, keeps.resp.trans resp, keeps.lastReq.trans lastReq, rfl⟩

end Sys2Proof.Machine
end

section
/-! SUPPORT. Request frames of the host port (R51), and the time-outs of streams and read snapshots (R69, R72). -/

namespace Sys2Proof.Machine
open Sys2Proof

/-! ## Request frames -/

/-- A response names the outcome in its second word (R52). -/
theorem State.hostPut_outcome (s : State) (fr : List Word) (ab : Nat) (data : Bytes) (flags off : Nat) (tag : Bytes) (keep : Bool) :
    (s.hostPut fr ab data flags off tag keep).host.resp[1]? = some (BitVec.ofNat 16 ab) := by
  unfold State.hostPut
  dsimp only
  simp

theorem State.fastFlags_dict (s : State) : s.fastFlags.dict = s.dict := by
  obtain ⟨_, _, flags⟩ := s.fastFlags_eq
  rw [flags]

theorem State.fastFlags_objs (s : State) : s.fastFlags.objs = s.objs := by
  obtain ⟨_, _, flags⟩ := s.fastFlags_eq
  rw [flags]

theorem State.fastFlags_rr (s : State) : s.fastFlags.rr = s.rr := by
  obtain ⟨_, _, flags⟩ := s.fastFlags_eq
  rw [flags]

section
variable {s : State} {ws : List Word}

/-- A frame that arrives while READY is 0 or ends before its CRC word changes nothing. -/
theorem State.hostFrame_discarded (h : s.hostReady = false ∨ ws.length < s.frameWords ws) : s.hostFrame ws = s :=
  if_pos (by simpa using h)

variable (ready : s.hostReady = true) (whole : s.frameWords ws ≤ ws.length)
include ready whole

theorem State.hostFrame_badCrc (bad : hostCrc (ws.take (s.frameWords ws - 1)) ≠ nth 0 ws (s.frameWords ws - 1)) :
    s.hostFrame ws = { s with host := { s.host with crcErr := true, crcErrs := satAdd 32 s.host.crcErrs 1 } } := by
  unfold State.hostFrame
  dsimp only
  rw [if_neg (by simp [ready, whole]), if_pos bad]

theorem State.hostFrame_good (good : hostCrc (ws.take (s.frameWords ws - 1)) = nth 0 ws (s.frameWords ws - 1)) :
    s.hostFrame ws =
      ({ s with host := { s.host with crcErr := false, accepted := satAdd 32 s.host.accepted 1 } } : State).hostRequest (ws.take (s.frameWords ws)) := by
  unfold State.hostFrame
  dsimp only
  rw [if_neg (by simp [ready, whole]), if_neg (not_not.mpr good)]

end

section
variable {s : State} {fr : List Word}

/-- The last executed request is not executed again. -/
theorem State.hostRequest_repeat (same : s.host.lastReq = fr) : s.hostRequest fr =
    { s with host := { s.host with resp := s.host.lastResp, avail := true, busy := true, repeated := satAdd 32 s.host.repeated 1 } } := if_pos same

variable (other : s.host.lastReq ≠ fr)
include other

/-- A request that reuses the last tag with other content gets SEQUENCE. -/
theorem State.hostRequest_reuse (some_ : s.host.lastReq ≠ []) (tag : wordAt s.host.lastReq 0 % 256 = wordAt fr 0 % 256) : s.hostRequest fr =
    { s.hostPut fr abSequence [] 0 (if hostOp fr = 1 then wideAt fr 3 else wideAt fr 5) [] false with
      dict := { s.dict with aborts := satAdd 32 s.dict.aborts 1 } } := by
  unfold State.hostRequest
  dsimp only
  rw [if_neg other, if_pos ⟨some_, tag⟩]
  rfl

/-- Every other request is executed. -/
theorem State.hostRequest_new (new : s.host.lastReq = [] ∨ wordAt s.host.lastReq 0 % 256 ≠ wordAt fr 0 % 256) :
    let ran : State := ({ s with host := { s.host with lastReq := fr, cur := fr, busy := true } } : State).setCtx { s.ctx .host with
      reply := none, lastUse := s.now, readSnap := (s.ctx .host).readSnap.map (fun sn => { sn with last := s.now }) }
    s.hostRequest fr = if hostOp fr = 1 then ran.hostRead fr else ran.hostWrite fr := by
  have fresh : ¬(s.host.lastReq ≠ [] ∧ wordAt s.host.lastReq 0 % 256 = wordAt fr 0 % 256) := by tauto
  unfold State.hostRequest
  dsimp only
  rw [if_neg other, if_neg fresh]

end

/-- Settles O15: the frame by READY, its length and its CRC, the request by its tag and content. -/
theorem requestFramesAreAcceptedOrDiscarded : Obligations.RequestFramesAreAcceptedOrDiscarded := by
  intro s dt ws some_ u v n fr acc ran on op i
  have run : exec i s = finish s (v.hostFrame ws) := by
    by_cases read : hostOp ws = 1
    · have is : i = .reqRead dt ws := if_pos read
      rw [is]
      exact congrArg (finish s) (State.transaction_mine some_ (by simp [read]) on _)
    · have is : i = .reqWrite dt ws := if_neg read
      have write := op.resolve_left read
      rw [is]
      exact congrArg (finish s) (State.transaction_mine some_ (by simp [write]) on _)
  refine ⟨fun h => ?_, fun ready whole bad => ?_, fun ready whole good => ?_⟩
  · rw [run, State.hostFrame_discarded h]
  · rw [run, State.hostFrame_badCrc ready whole bad]
    rfl
  · have asks : exec i s = finish s (acc.hostRequest fr) := by
      rw [run, State.hostFrame_good ready whole good]
      rfl
    rw [asks]
    refine ⟨fun same => ?_, fun other some_ tag => ?_, fun other new => ?_⟩
    · exact congrArg (finish s) (State.hostRequest_repeat (s := acc) same)
    · rw [State.hostRequest_reuse (s := acc) other some_ tag]
      have clients : v.dict.clients = u.dict.clients := congrArg Dict.clients u.fastFlags_dict
      have commits : v.dict.commits = u.dict.commits := congrArg Dict.commits u.fastFlags_dict
      exact ⟨_, rfl, rfl, State.hostPut_outcome acc fr abSequence [] 0 _ [] false, rfl, rfl, u.fastFlags_objs, u.fastFlags_rr, clients, commits⟩
    · rw [State.hostRequest_new (s := acc) other new]
      exact ⟨fun read => congrArg (finish s) (if_pos read), fun write => congrArg (finish s) (if_neg write)⟩

/-! ## Time-outs -/

section
variable {s : State} (on : s.powered = true)
include on

/-- A stream that nobody has read from for the time of 0x5010:02 closes, and not before. -/
theorem State.streamIdle_open {st : Stream} (stream : s.dict.stream = some st) : s.streamIdle =
    if st.last + s.obj 0x5010 2 * secNs ≤ s.now then
      ({ s with dict := { s.dict with stream := none } } : State).setCtx { s.ctx st.c with expState := 0 }
    else s := by
  unfold State.streamIdle
  rw [stream]
  by_cases late : st.last + s.obj 0x5010 2 * secNs ≤ s.now
  · rw [if_pos late]
    exact if_pos (by simp [on, late])
  · rw [if_neg late]
    exact if_neg (by simp [late])

/-- A read snapshot of a silent client is released after the same time, and not before. -/
theorem State.snapTimeout_held {c : Client} {sn : ReadSnap} (held : (s.ctx c).readSnap = some sn) : s.snapTimeout c =
    if sn.last + s.obj 0x5010 2 * secNs ≤ s.now then s.setCtx { s.ctx c with readSnap := none } else s := by
  have any : ∀ f : ReadSnap → Bool, (s.ctx c).readSnap.any f = f sn := fun f => by rw [held, Option.any_some]
  by_cases late : sn.last + s.obj 0x5010 2 * secNs ≤ s.now
  · rw [if_pos late]
    exact if_pos (by simp only [any, on, late, decide_true, Bool.and_self])
  · rw [if_neg late]
    exact if_neg (by simp only [any, late, decide_false, Bool.and_false, Bool.false_eq_true, not_false_eq_true])

end

theorem State.streamIdle_none {s : State} (none_ : s.dict.stream = none) : s.streamIdle = s := by
  unfold State.streamIdle
  rw [none_]

theorem State.snapTimeout_none {s : State} {c : Client} (none_ : (s.ctx c).readSnap = none) : s.snapTimeout c = s :=
  if_neg (by simp [none_])

/-- Settles O21: both time-outs act by one comparison of times. -/
theorem streamsAndSnapshotsTimeOut : Obligations.StreamsAndSnapshotsTimeOut := by
  intro s dt u on
  refine ⟨fun st stream => ⟨fun late => ?_, fun early => ?_⟩, fun none_ => congrArg (finish s) (State.streamIdle_none none_),
    fun c sn held => ⟨fun late => ?_, fun early => ?_⟩, fun c none_ => congrArg (finish s) (State.snapTimeout_none none_)⟩
  · exact congrArg (finish s) ((State.streamIdle_open on stream).trans (if_pos late))
  · exact congrArg (finish s) ((State.streamIdle_open on stream).trans (if_neg (Nat.not_le.mpr early)))
  · exact congrArg (finish s) ((State.snapTimeout_held on held).trans (if_pos late))
  · exact congrArg (finish s) ((State.snapTimeout_held on held).trans (if_neg (Nat.not_le.mpr early)))

end Sys2Proof.Machine
end

section
/-! SUPPORT. Reads and writes of whole objects over the host port (R39, R52, R56). -/

namespace Sys2Proof.Machine
open Sys2Proof

/-! ## Reads -/

theorem ClientCtx.readTag_untagged {x : ClientCtx} (h : x.tagged = false) (n ix sub : Nat) (data : Bytes) : x.readTag n ix sub data = [] := by
  simp [ClientCtx.readTag, h]

theorem State.tagDown_untagged {s : State} {c : Client} (h : (s.ctx c).tagged = false) (ix : Nat) : s.tagDown c ix = false := by
  simp [State.tagDown, h]

/-- The words of a response without a tag to a request of an opcode and a tag (R52). -/
theorem State.hostPut_resp (s : State) (fr : List Word) (ab : Nat) (data : Bytes) (flags off : Nat) (keep : Bool) :
    (s.hostPut fr ab data flags off [] keep).host.resp =
      let body : List Word := [BitVec.ofNat 16 (wordAt fr 0 / 4096 * 4096 + wordAt fr 0 % 256), BitVec.ofNat 16 ab, BitVec.ofNat 16 data.length,
        BitVec.ofNat 16 flags, BitVec.ofNat 16 off, BitVec.ofNat 16 (off / 65536)] ++ hostWords data
      body ++ [hostCrc body] := by
  have none_ : hostWords [] = [] := rfl
  unfold State.hostPut
  simp only [none_, List.append_nil]

theorem wordAt_opcode {fr : List Word} {op : Nat} (h : hostOp fr = op) (lt : op < 16) : wordAt fr 0 / 4096 = op := by
  cases fr with
  | nil => simp only [hostOp] at h; omega
  | cons w r => exact h

/-- The last window of a read in a session that does not tag. -/
theorem State.hostWindow_last {s : State} (untagged : (s.ctx .host).tagged = false) (fr : List Word) (ix sub off : Nat) (whole piece : Bytes) (flags : Nat) :
    s.hostWindow fr ix sub off whole piece true flags =
      (s.answer .host (key ix sub) abOk piece true).hostPut fr abOk piece (flags + respLast) off [] true := by
  unfold State.hostWindow
  rw [if_pos rfl, ClientCtx.readTag_untagged untagged]
  rfl

theorem slice_whole {n : Nat} {b : Bytes} (h : b.length ≤ n) : slice 0 n b = b := List.take_of_length_le h

/-- A read at offset 0 of an object no longer than the window, by a host that holds no snapshot and tags nothing. -/
theorem State.hostRead_whole {v t : State} {fr : List Word} {data : Bytes} (start : wideAt fr 3 = 0)
    (access : v.checkAccess .host false (wordAt fr 1) (wordAt fr 2 / 256) 0 = abOk)
    (untagged : (v.ctx .host).tagged = false) (held : (v.ctx .host).readSnap = none) (stream : wordAt fr 1 ≠ 0x3A21 ∨ wordAt fr 2 / 256 ≠ 1)
    (value : v.readObject .host (wordAt fr 1) (wordAt fr 2 / 256) = (t, (abOk, data))) (fits : data.length ≤ v.window) :
    v.hostRead fr =
      ((t.setCtx (v.ctx .host)).answer .host (key (wordAt fr 1) (wordAt fr 2 / 256)) abOk data true).hostPut fr abOk data respLast 0 [] true := by
  have reads : v.hostValue (wordAt fr 1) (wordAt fr 2 / 256) 0 = (t, (abOk, data)) := by
    unfold State.hostValue
    rw [held]
    exact value
  have keeps : t.ctx .host = v.ctx .host := by
    have port := KeepsPort.readObject v .host (wordAt fr 1) (wordAt fr 2 / 256)
    rw [value] at port
    exact port.ctx .host
  have access : ¬v.checkAccess .host false (wordAt fr 1) (wordAt fr 2 / 256) 0 ≠ 0 := not_not.mpr access
  have own : { v.ctx .host with readSnap := none } = v.ctx .host := by rw [← held]
  have same : ((t.setCtx (v.ctx .host)).ctx .host).tagged = false := by
    rw [State.ctx_setCtx_of t _ .host (v.ctx_c .host)]
    exact untagged
  have small : decide (v.window < data.length) = false := decide_eq_false (Nat.not_lt.mpr fits)
  have last : decide (data.length ≤ 0 + v.window) = true := decide_eq_true (by rwa [Nat.zero_add])
  unfold State.hostRead
  dsimp only
  rw [start, reads, if_neg access, if_neg (by simp [State.tagDown_untagged untagged]), if_neg (fun h => stream.elim (absurd h.1) (absurd h.2)),
    if_neg (Nat.not_lt_zero _), if_neg (by simp), small, last, keeps, held]
  simp only [Bool.false_and, Bool.false_eq_true, if_false, Option.any_none, own]
  rw [State.hostWindow_last same, slice_whole fits]
  rfl

/-- A read that a check turns down is answered with the check's code. -/
theorem State.hostRead_refused {v : State} {fr : List Word} (access : v.checkAccess .host false (wordAt fr 1) (wordAt fr 2 / 256) 0 ≠ abOk) :
    v.hostRead fr = v.hostAbort fr (key (wordAt fr 1) (wordAt fr 2 / 256)) (v.checkAccess .host false (wordAt fr 1) (wordAt fr 2 / 256) 0) (wideAt fr 3) :=
  if_pos access

/-! ## Writes -/

/-- A chain of checks answers OK only past its first check. -/
theorem passes_check {p : Prop} [Decidable p] {a b : Nat} (h : (if p then a else b) = abOk) (refuses : a ≠ abOk) : ¬p ∧ b = abOk := by
  by_cases c : p
  · rw [if_pos c] at h
    exact absurd h refuses
  · rw [if_neg c] at h
    exact ⟨c, h⟩

/-- A write of the host that passes the checks of its access is not barred from its role (R38). -/
theorem State.not_barred_of_checkAccess {s : State} {ix sub v : Nat} (h : s.checkAccess .host true ix sub v = abOk) :
    s.writeBarred (s.role .host) ix sub v = false := by
  unfold State.checkAccess at h
  dsimp only at h
  obtain ⟨up, h⟩ : ¬(s.dictDown .host ix ≠ 0) ∧ _ = abOk := by
    by_cases down : s.dictDown .host ix ≠ 0
    · rw [if_pos down] at h
      exact absurd h down
    · rw [if_neg down] at h
      exact ⟨down, h⟩
  obtain ⟨-, h⟩ := passes_check h (by decide)
  obtain ⟨-, h⟩ := passes_check h (by decide)
  obtain ⟨-, h⟩ := passes_check h (by decide)
  obtain ⟨-, h⟩ := passes_check h (by decide)
  obtain ⟨-, h⟩ := passes_check h (by decide)
  obtain ⟨free, -⟩ := passes_check h (by decide)
  simpa using free

theorem checkAccess_of_checkForm {s : State} {c : Client} {ix sub v len : Nat} (h : s.checkForm c ix sub v len = abOk) :
    s.checkAccess c true ix sub v = abOk := by
  by_contra down
  have down : s.checkAccess c true ix sub v ≠ 0 := down
  unfold State.checkForm at h
  dsimp only at h
  rw [if_pos down] at h
  exact down h

theorem checkForm_of_pieceCause {s : State} {fr : List Word} {piece : Bytes} (start : wideAt fr 5 = 0) (h : s.pieceCause fr piece = abOk) :
    s.checkForm .host (wordAt fr 1) (wordAt fr 2 / 256) (leNat piece) (wideAt fr 3) = abOk := by
  by_contra down
  have down : s.checkForm .host (wordAt fr 1) (wordAt fr 2 / 256) (leNat piece) (wideAt fr 3) ≠ 0 := down
  unfold State.pieceCause at h
  dsimp only at h
  rw [start, if_pos rfl, if_pos down] at h
  exact down h

/-- A value that passes check 4 of R39 on the way in and check 11 is taken whole. -/
theorem State.valueCause_host {s : State} {ix sub v : Nat} (free : s.writeBarred (s.role .host) ix sub v = false) (value : valueOk ix sub v = true) :
    s.valueCause .host ix sub v = 0 := by
  simp [State.valueCause, free, value, abOk]

section
variable {v : State} {fr : List Word} (stage : v.ctx .host = { v.ctx .host with stage := none })
include stage

/-- A piece that a check turns down is answered with the check's code. -/
theorem State.hostWrite_refused (down : v.pieceCause fr (hostBytes (wordAt fr 7) (fr.drop 8)) ≠ abOk) :
    v.hostWrite fr = v.answer .host (key (wordAt fr 1) (wordAt fr 2 / 256)) (v.pieceCause fr (hostBytes (wordAt fr 7) (fr.drop 8))) [] false := by
  rw [← State.answer_setCtx_ctx, stage]
  exact if_pos down

/-- A first piece that is the whole value goes on to the store, where the session does not tag. -/
theorem State.hostWrite_whole (start : wideAt fr 5 = 0) (whole : wordAt fr 7 = wideAt fr 3) (untagged : (v.ctx .host).tagged = false)
    (ok : v.pieceCause fr (hostBytes (wordAt fr 7) (fr.drop 8)) = abOk)
    (value : valueOk (wordAt fr 1) (wordAt fr 2 / 256) (leNat (hostBytes (wordAt fr 7) (fr.drop 8))) = true) :
    v.hostWrite fr = (v.setCtx (v.ctx .host)).beginWrite .host (wordAt fr 1) (wordAt fr 2 / 256) (hostBytes (wordAt fr 7) (fr.drop 8))
      (wayOf .host (wordAt fr 1) (wordAt fr 2 / 256) (hostBytes (wordAt fr 7) (fr.drop 8))) := by
  have free := State.not_barred_of_checkAccess (checkAccess_of_checkForm (checkForm_of_pieceCause start ok))
  have ok : ¬v.pieceCause fr (hostBytes (wordAt fr 7) (fr.drop 8)) ≠ 0 := not_not.mpr ok
  have last : lastPiece fr = true := by simp [lastPiece, start, whole]
  have own : (v.setCtx (v.ctx .host)).ctx .host = v.ctx .host := State.ctx_setCtx_of _ _ _ (v.ctx_c .host)
  have role : (v.setCtx (v.ctx .host)).role .host = v.role .host := by simp only [State.role, own]
  have taken := State.valueCause_host (s := v.setCtx (v.ctx .host)) (by rw [role]; exact free) value
  unfold State.hostWrite
  dsimp only
  rw [← stage, if_neg ok, if_pos last, start, if_pos rfl, List.nil_append]
  unfold State.hostWhole
  dsimp only
  rw [own, untagged, State.tagDown_untagged (own.symm ▸ untagged)]
  simp only [Bool.false_and, Bool.false_eq_true, if_false, Bool.not_true]
  rw [taken, if_neg (not_not.mpr rfl)]

end

/-- The answer of a plain write of an object of the dictionary, over a record that is the client's own. -/
theorem State.plain_done_setCtx (s : State) (c : Client) {ix sub : Nat} {d : ObjDef} (find : objFind ix sub = some d) (v : Nat) :
    (((s.setCtx (s.ctx c)).touchIx ix).setObj ix sub v).done c ix sub = ((s.touchIx ix).setObj ix sub v).done c ix sub := by
  have keeps : ((s.touchIx ix).setObj ix sub v).ctx c = s.ctx c := by
    rw [State.setObj_of_find _ find]
    split_ifs <;> rfl
  have commutes : ((s.setCtx (s.ctx c)).touchIx ix).setObj ix sub v = ((s.touchIx ix).setObj ix sub v).setCtx (s.ctx c) := by
    rw [State.setObj_of_find _ find, State.setObj_of_find _ find]
    split_ifs <;> rfl
  rw [commutes, ← keeps]
  exact State.answer_setCtx_ctx _ c _ _ _ _

/-- Settles O16: reads and writes follow the chain of their checks, and a write in one piece goes to the store as it came. -/
theorem hostReadsAndWritesOfWholeObjects : Obligations.HostReadsAndWritesOfWholeObjects := by
  intro v fr ix sub untagged fresh
  have held : (v.ctx .host).readSnap = none := congrArg ClientCtx.readSnap fresh
  have unstaged : (v.ctx .host).stage = none := congrArg ClientCtx.stage fresh
  have stage : v.ctx .host = { v.ctx .host with stage := none } := by rw [← unstaged]
  refine ⟨?reads, ?refusedRead, ?writes⟩
  case reads =>
    intro data op start access stream value fits _ body
    have reads : v.readObject .host (wordAt fr 1) (wordAt fr 2 / 256) = ((v.readObject .host ix sub).1, (abOk, data)) := Prod.ext rfl value
    rw [State.hostRead_whole start access untagged held stream reads fits, State.hostPut_resp, wordAt_opcode op (by decide)]
    exact ⟨rfl, rfl, rfl⟩
  case refusedRead =>
    intro down
    rw [State.hostRead_refused down]
    exact ⟨State.hostPut_outcome .., rfl, rfl⟩
  case writes =>
    intro _ start whole _ data
    refine ⟨State.hostWrite_refused stage, fun ok value way => ⟨?_, ?_⟩⟩
    · intro d find pers counters
      rw [State.hostWrite_whole stage start whole untagged ok value]
      exact State.beginWrite_persistent _ way find counters pers
    · intro d find pers own timers
      simp only [List.mem_cons, List.not_mem_nil, or_false, not_or] at own
      rw [State.hostWrite_whole stage start whole untagged ok value]
      refine (State.beginWrite_volatile _ way find (by tauto) pers (by simp; tauto) timers).trans ?_
      exact State.plain_done_setCtx v .host find _

end Sys2Proof.Machine
end

section
/-! SUPPORT. How role sessions open, close and run out of time (R38, R40 to R45, R506). -/

namespace Sys2Proof.Machine
open Sys2Proof

/-! ## Closing -/

/-- A state in which a client's row is FREE, its session record NONE, and all else of the client's own at its default (R44, R506). -/
def State.closed (s : State) (c : Client) : State := (((s.ctx c).row.elim s s.dropRow).setCtx (s.ctx c).none_).clientReset c

/-- What ends an open session, and raises SESSION_CLOSED. -/
theorem State.sessionClose_open {s : State} {c : Client} (open_ : (s.ctx c).st = 2) (cause : Nat) :
    s.sessionClose c cause = (s.closed c).emit 0x24 0x1102 (cause + 256 * channelOf c) := by
  unfold State.sessionClose
  dsimp only
  rw [if_neg (not_not.mpr open_)]
  unfold State.closed
  cases (s.ctx c).row <;> rfl

theorem State.ctx_clientReset (s : State) (c : Client) : (s.clientReset c).ctx c = (s.ctx c).fresh :=
  State.ctx_setCtx_of s _ c (s.ctx_c c)

theorem State.ctx_closed (s : State) (c : Client) : (s.closed c).ctx c = (s.ctx c).none_.fresh := by
  unfold State.closed
  rw [State.ctx_clientReset, State.ctx_setCtx_of _ (s.ctx c).none_ c (s.ctx_c c)]

theorem State.clientReset_holders (s : State) (c : Client) :
    (s.clientReset c).cipher.holder ≠ some c ∧ (s.clientReset c).pk.holder ≠ some c := by
  have free : ∀ h : Option Client, (if h == some c then none else h) ≠ some c := by
    intro h
    by_cases own : h = some c
    · simp [own]
    · simp [own]
  exact ⟨free _, free _⟩

theorem State.row_dropRow (s : State) (n : Nat) : ((s.dropRow n).row n).st = 0 := by
  simp [State.dropRow, State.setRow, State.row]

theorem State.row_closed {s : State} {c : Client} {n : Nat} (held : (s.ctx c).row = some n) : ((s.closed c).row n).st = 0 := by
  unfold State.closed
  rw [held]
  exact s.row_dropRow n

/-- What a closing leaves alone: the objects in RAM and ReRAM, the waiting commits, the event queue and the power. -/
theorem State.closed_keeps (s : State) (c : Client) :
    (s.closed c).objs = s.objs ∧ (s.closed c).rr = s.rr ∧ (s.closed c).dict.commits = s.dict.commits ∧ (s.closed c).evq = s.evq ∧
      (s.closed c).powered = s.powered ∧ (s.closed c).ms = s.ms := by
  unfold State.closed
  cases (s.ctx c).row <;> exact ⟨rfl, rfl, rfl, rfl, rfl, rfl⟩

/-- A session of client c, open in u, has ended in t for a cause: the statement's words of it. -/
def SessionEnded (u : State) (c : Client) (cause : Nat) (t : State) : Prop :=
  (t.ctx c).st = 0 ∧ (t.ctx c).role = 0 ∧ (t.ctx c).ctr = 0 ∧ (t.ctx c).key = [] ∧ (t.ctx c).row = none ∧
    (t.ctx c).vals = [] ∧ t.cipher.holder ≠ some c ∧ t.pk.holder ≠ some c ∧ (∀ n, (u.ctx c).row = some n → (t.row n).st = 0) ∧
    (u.evq.length < 64 → t.evq = u.evq ++ [{ code := 0x1102, unit := 0x24, param := (cause + 256 * channelOf c) % 2 ^ 32, ms := u.ms % 2 ^ 32 }]) ∧
    t.rr.objs = u.rr.objs

theorem State.ctx_sessionClose {s : State} {c : Client} (open_ : (s.ctx c).st = 2) (cause : Nat) :
    (s.sessionClose c cause).ctx c = (s.ctx c).none_.fresh := by
  rw [State.sessionClose_open open_, State.ctx, State.emit_dict]
  exact s.ctx_closed c

theorem State.sessionClose_ends {u : State} {c : Client} (on : u.powered = true) (open_ : (u.ctx c).st = 2) (cause : Nat) :
    SessionEnded u c cause (u.sessionClose c cause) := by
  obtain ⟨-, rr, -, evq, powered, ms⟩ := u.closed_keeps c
  obtain ⟨cipher, pk⟩ := State.clientReset_holders (((u.ctx c).row.elim u u.dropRow).setCtx (u.ctx c).none_) c
  unfold SessionEnded
  rw [State.ctx_sessionClose open_, State.sessionClose_open open_]
  refine ⟨rfl, rfl, rfl, rfl, rfl, rfl, ?_, ?_, ?_, ?_, ?_⟩
  · rw [State.emit_cipher]; exact cipher
  · rw [State.emit_pk]; exact pk
  · intro n held
    rw [State.row, State.emit_cx]
    exact State.row_closed held
  · intro room
    rw [(State.emit_room (powered.trans on) (evq ▸ room) ..).1, evq]
    simp only [State.eventOf, ms]
    rfl
  · rw [State.emit_rr_objs, rr]

/-- The answer to the close leaves the session ended. -/
theorem SessionEnded.answer {u t : State} {c : Client} {cause : Nat} (h : SessionEnded u c cause t) (k ab : Nat) (d : Bytes) (late : Bool) :
    SessionEnded u c cause (t.answer c k ab d late) := by
  obtain ⟨st, role, ctr, key, row, vals, rest⟩ := h
  unfold SessionEnded
  rw [State.ctx_answer]
  refine ⟨st, role, ?_, key, row, vals, rest⟩
  simp [ClientCtx.answered, st, ctr]

/-- The commands still queued play no part. -/
theorem SessionEnded.finished {u t : State} {c : Client} {cause : Nat} (h : SessionEnded u c cause t) (q : List Instr) :
    SessionEnded u c cause { t with pending := q } := h

/-! ## Time-outs -/

section
variable {u : State} {c : Client}

theorem State.openTimeout_late (on : u.powered = true) (opening : (u.ctx c).st = 1) (late : (u.ctx c).openedAt + 10000000000 ≤ u.now) :
    u.openTimeout c = u.setCtx { (u.ctx c).none_ with lapsed := true } := by
  have late : (u.ctx c).openedAt + 10 * secNs ≤ u.now := late
  unfold State.openTimeout
  simp only [on, opening, late, beq_self_eq_true, decide_true, Bool.and_self, if_true]
  rfl

theorem State.openTimeout_early (h : (u.ctx c).st ≠ 1 ∨ u.now < (u.ctx c).openedAt + 10000000000) : u.openTimeout c = u := by
  have h : (u.ctx c).st ≠ 1 ∨ ¬((u.ctx c).openedAt + 10 * secNs ≤ u.now) := h.imp id Nat.not_le.mpr
  unfold State.openTimeout
  refine if_neg fun all => ?_
  simp only [Bool.and_eq_true, beq_iff_eq, decide_eq_true_eq] at all
  exact h.elim (absurd all.1.2) (absurd all.2)

theorem State.idleTimeout_late (on : u.powered = true) (open_ : (u.ctx c).st = 2) (late : (u.ctx c).lastUse + u.idleLimit c * 1000000000 ≤ u.now) :
    u.idleTimeout c = u.sessionClose c 2 := by
  have late : (u.ctx c).lastUse + u.idleLimit c * secNs ≤ u.now := late
  unfold State.idleTimeout
  simp only [on, open_, late, beq_self_eq_true, decide_true, Bool.and_self, if_true]

theorem State.idleTimeout_early (h : (u.ctx c).st ≠ 2 ∨ u.now < (u.ctx c).lastUse + u.idleLimit c * 1000000000) : u.idleTimeout c = u := by
  have h : (u.ctx c).st ≠ 2 ∨ ¬((u.ctx c).lastUse + u.idleLimit c * secNs ≤ u.now) := h.imp id Nat.not_le.mpr
  unfold State.idleTimeout
  refine if_neg fun all => ?_
  simp only [Bool.and_eq_true, beq_iff_eq, decide_eq_true_eq] at all
  exact h.elim (absurd all.1.2) (absurd all.2)

theorem State.holdOffEnd_late (late : (u.ctx c).holdUntil ≤ u.now) : u.holdOffEnd c = u.setCtx { u.ctx c with holdUntil := 0 } := if_pos late

theorem State.holdOffEnd_early (early : u.now < (u.ctx c).holdUntil) : u.holdOffEnd c = u := if_neg (Nat.not_le.mpr early)

theorem State.whenOn_on (on : u.powered = true) (f : State → State) : u.whenOn f = f u := if_pos on

/-- An accepted close acts at once. -/
theorem asksWrite_close (acc : Accepts u c 0x1110 8 [1]) :
    u.asksWrite c 0x1110 8 [1] = (u.closeWrite c).1.answer c (key 0x1110 8) (u.closeWrite c).2 [] true :=
  asksWrite_acts { act := fun s => s.closeWrite c } rfl acc (by decide) (by decide) rfl (by simp) rfl

end

/-- Settles O19: both ends of a session are one closing, and each time-out is one comparison with its clock. -/
theorem sessionsEndAndTimeOut : Obligations.SessionsEndAndTimeOut := by
  intro s dt c u on ended
  refine ⟨?openLate, ?openEarly, ?close, ?idleLate, ?idleEarly, ?holdOver, ?holdOn⟩
  case openLate => exact fun opening late => congrArg (finish s) (State.openTimeout_late on opening late)
  case openEarly => exact fun early => congrArg (finish s) (State.openTimeout_early early)
  case close =>
    intro acc open_
    have closes : u.closeWrite c = (u.sessionClose c 1, abOk) := if_pos open_
    have act := asksWrite_close acc
    rw [closes] at act
    have reply : (((u.sessionClose c 1).answer c (key 0x1110 8) abOk [] true).ctx c).reply.map (·.abort) = some abOk := by
      rw [State.ctx_answer]
      rfl
    exact ⟨_, congrArg (finish s) act, ((State.sessionClose_ends on open_ 1).answer _ _ _ _).finished _, reply⟩
  case idleLate =>
    intro open_ late
    exact ⟨_, congrArg (finish s) (State.idleTimeout_late on open_ late), (State.sessionClose_ends on open_ 2).finished _⟩
  case idleEarly => exact fun early => congrArg (finish s) (State.idleTimeout_early early)
  case holdOver => exact fun late => congrArg (finish s) ((State.whenOn_on on _).trans (State.holdOffEnd_late late))
  case holdOn => exact fun early => congrArg (finish s) ((State.whenOn_on on _).trans (State.holdOffEnd_early early))

end Sys2Proof.Machine
end

section
/-! SUPPORT. How role sessions open: the role write and the proof (R38, R40 to R42). -/

namespace Sys2Proof.Machine
open Sys2Proof

/-! ## The role write -/

/-- The way of a role write. -/
def roleWay (c : Client) (code : Nat) : Way :=
  { ch := fun s => s.roleChannel code, need := fun s => s.roleNeed c code, act := fun s => s.roleWrite c code }

theorem wayOf_role (c : Client) (data : Bytes) : wayOf c 0x1110 1 data = roleWay c (leNat data) := rfl

section
variable {u : State} {c : Client}

theorem State.roleWrite_refused {code : Nat} (h : u.roleCause c code ≠ 0) : u.roleWrite c code = (u, u.roleCause c code) := if_pos h

theorem State.roleCause_factory (h : u.rr.lifecycle ≠ lcFactory) : u.roleCause c roleF = abRole := if_pos ⟨rfl, h⟩

/-- A role write that is refused waits for no random bytes. -/
theorem asksWrite_role_refused {data : Bytes} (acc : Accepts u c 0x1110 1 data) (h : u.roleCause c (leNat data) ≠ 0) :
    u.asksWrite c 0x1110 1 data = u.aborted c 0x1110 1 (u.roleCause c (leNat data)) := by
  have act := asksWrite_acts (roleWay c (leNat data)) (wayOf_role c data) acc (by decide) (by decide) rfl (fun nv => Bool.noConfusion nv) (if_pos h)
  rw [show (roleWay c (leNat data)).act u = (u, u.roleCause c (leNat data)) from State.roleWrite_refused h] at act
  exact act

/-- The bytes that a channel has to give, and the generator's records alone, change with a draw. -/
theorem State.draw_some {ch n : Nat} (runs : u.rngStopped ch = false) (has : u.rngWaits ch n = false) :
    ∃ r, u.draw ch n = some ({ u with rng := r }, (u.rngBuf ch).take n) := by
  unfold State.draw
  rw [runs, has]
  exact ⟨_, rfl⟩

/-- A role write of H that no rule refuses. -/
theorem State.roleCause_host (closed : (u.ctx c).st ≠ 2) (held : (u.ctx c).holdUntil ≤ u.now) (room : u.sessionsOpen < 32) (trust : u.trustLost = false) :
    u.roleCause c roleH = 0 := by
  unfold State.roleCause
  dsimp only
  rw [if_neg (fun h => absurd h.1 (by decide)), if_neg closed, if_neg (Nat.not_lt.mpr held), if_neg (Nat.not_le.mpr room), trust]
  rfl

/-- The record of an opening for role H (R40 step 1). -/
def ClientCtx.opening (x : ClientCtx) (nonce : Bytes) (now : Nat) : ClientCtx :=
  { x.none_ with st := 1, role := roleH, devNonce := nonce, openedAt := now }

/-- The role write of H: the device nonce is drawn, and the opening begins. -/
theorem State.roleWrite_host (free : u.roleCause c roleH = 0) (runs : u.rngStopped 2 = false) (has : u.rngWaits 2 16 = false) :
    ∃ r, u.roleWrite c roleH = (({ u with rng := r } : State).setCtx ((u.ctx c).opening ((u.rngBuf 2).take 16) u.now), abOk) := by
  obtain ⟨r, drawn⟩ := State.draw_some runs has
  refine ⟨r, ?_⟩
  unfold State.roleWrite
  dsimp only
  rw [free, drawn, if_neg (not_not.mpr rfl)]
  rfl

/-- A role write of H that finds its 16 bytes acts at once, and begins an opening. -/
theorem asksWrite_role_host (acc : Accepts u c 0x1110 1 [1]) (free : u.roleCause c roleH = 0) (runs : u.rngStopped 2 = false)
    (has : u.rngWaits 2 16 = false) :
    ∃ t, u.asksWrite c 0x1110 1 [1] = t ∧ t.ctx c = ((u.ctx c).opening ((u.rngBuf 2).take 16) u.now).answered (key 0x1110 1) abOk [] true u.now ∧
      t.rr = u.rr ∧ t.cx = u.cx ∧ t.evq = u.evq := by
  obtain ⟨r, act⟩ := State.roleWrite_host free runs has
  have channel : (roleWay c roleH).ch u = 2 := rfl
  have need : (roleWay c roleH).need u = 16 := by
    show u.roleNeed c roleH = 16
    unfold State.roleNeed
    rw [free]
    rfl
  have begins : u.beginWrite c 0x1110 1 [1] (roleWay c roleH) = u.runWay c (key 0x1110 1) [1] (roleWay c roleH) := rfl
  rw [asksWrite_begins acc, wayOf_role, show leNat [1] = roleH from rfl, begins]
  unfold State.runWay
  rw [channel, need, runs, has, show (roleWay c roleH).act u = _ from act]
  refine ⟨_, rfl, ?_, rfl, rfl, rfl⟩
  refine (State.ctx_answer _ c _ _ _ _).trans ?_
  rw [State.ctx_setCtx_of _ _ c ?_]
  · rfl
  · exact u.ctx_c c

/-! ## The proof -/

/-- An accepted proof acts at once. -/
theorem asksWrite_proof {proof : Bytes} (acc : Accepts u c 0x1110 7 proof) :
    u.asksWrite c 0x1110 7 proof = (u.proofWrite c proof).1.answer c (key 0x1110 7) (u.proofWrite c proof).2 [] true :=
  asksWrite_acts { act := fun s => s.proofWrite c proof } rfl acc (by decide) (by decide) rfl (by simp) rfl

theorem State.proofWrite_unasked {proof : Bytes} (none_ : (u.ctx c).st ≠ 1) :
    u.proofWrite c proof = (u, if (u.ctx c).lapsed then abTimeout else abSequence) := if_pos none_

theorem State.proofWrite_late {proof : Bytes} (opening : (u.ctx c).st = 1) (late : (u.ctx c).openedAt + 10000000000 < u.now) :
    u.proofWrite c proof = (u.setCtx { (u.ctx c).none_ with lapsed := true }, abTimeout) := by
  have late : (u.ctx c).openedAt + 10 * secNs < u.now := late
  unfold State.proofWrite
  dsimp only
  rw [if_neg (not_not.mpr opening), if_pos late]
  rfl

section
variable {proof : Bytes} (opening : (u.ctx c).st = 1) (inTime : u.now ≤ (u.ctx c).openedAt + 10000000000) (host : (u.ctx c).role = roleH)
  (engine : u.cipherOk = true) (trust : u.trustLost = false)

/-- The record of a session that has opened (R40, R42): its record is fresh, and it holds a row. -/
def ClientCtx.opened (x : ClientCtx) (k : Bytes) (n now : Nat) : ClientCtx :=
  { x.fresh with st := 2, ctr := 0, key := k, revoked := false, tagFails := 0, row := some n, lastUse := now, devPriv := 0 }

/-- The proof of H verifies where it is the CMAC of the message under the host pairing key (R41). -/
theorem State.proofCause_host {x : ClientCtx} (host : x.role = roleH) (paired : (u.slot 1).ty ≠ 0) :
    u.proofCause x proof = if proof = padTo 96 (cmac (u.slot 1).key x.proofMessage) then 0 else 7 := by
  unfold State.proofCause
  rw [if_pos host]
  by_cases same : proof = padTo 96 (cmac (u.slot 1).key x.proofMessage)
  · simp [← same, paired]
  · simp [same, Ne.symm same]

theorem State.sessionRoot_host {x : ClientCtx} (host : x.role = roleH) (paired : (u.slot 1).ty ≠ 0) : u.sessionRoot x = some (u.slot 1).key := by
  unfold State.sessionRoot
  rw [if_pos host, if_neg paired]

theorem State.takeService_some {kind quota n : Nat} {id : Bytes} (room : u.countRows (fun r => r.kind == kind) < quota) (free : u.freeRow = some n) :
    u.takeService kind quota id = some (u.setRow n { st := 5, kind := kind, id := padTo 8 id, seen := u.ms % 2 ^ 32 }, n) := by
  unfold State.takeService
  rw [if_neg (Nat.not_le.mpr room), free]
  rfl

include opening inTime host engine trust

/-- A proof of H that does not verify. -/
theorem State.proofWrite_bad (wrong : u.proofCause (u.ctx c) proof = 7) : u.proofWrite c proof = (u.proofFailed c 7, abAuthFail) := by
  have inTime : ¬(u.ctx c).openedAt + 10 * secNs < u.now := Nat.not_lt.mpr inTime
  unfold State.proofWrite
  dsimp only
  rw [if_neg (not_not.mpr opening), if_neg inTime, if_pos host, engine, trust, if_neg (by decide), wrong]
  rfl

/-- A proof of H that verifies, with a row to be had. -/
theorem State.proofWrite_good {n : Nat} {k : Bytes} (right : u.proofCause (u.ctx c) proof = 0) (root : u.sessionRoot (u.ctx c) = some k)
    (room : u.sessionsOpen < 32) (free : u.freeRow = some n) :
    ∃ t, u.proofWrite c proof = (t, abOk) ∧ t.ctx c = (u.ctx c).opened ((u.ctx c).sessionKey k) n u.now ∧ t.dict.opened = satAdd 32 u.dict.opened 1 := by
  have inTime : ¬(u.ctx c).openedAt + 10 * secNs < u.now := Nat.not_lt.mpr inTime
  unfold State.proofWrite
  dsimp only
  rw [if_neg (not_not.mpr opening), if_neg inTime, if_pos host, engine, trust, if_neg (by decide), right, root, if_pos room,
    State.takeService_some room free]
  simp only [if_pos host]
  refine ⟨_, rfl, ?_, ?_⟩
  · rw [State.dictEvent, State.ctx, State.emit_dict]
    refine (State.ctx_setCtx_of _ _ c ?_).trans ?_
    · exact State.ctx_c _ c
    · rw [State.ctx_clientReset]
      rfl
  · rw [State.dictEvent, State.emit_dict]
    rfl

end

/-- What a proof of H that does not verify leaves (R40, R44). -/
theorem State.ctx_proofFailed (host : (u.ctx c).role = roleH) (cause : Nat) :
    (u.proofFailed c cause).ctx c = { (u.ctx c).none_ with holdUntil := u.now + 2000000000 } ∧ (u.proofFailed c cause).cx = u.cx := by
  unfold State.proofFailed State.dictEvent
  dsimp only
  rw [if_pos host]
  refine ⟨?_, State.emit_cx ..⟩
  rw [State.ctx, State.emit_dict]
  exact State.ctx_setCtx_of u _ c (u.ctx_c c)

/-- The answer to a proof of H that opens a session, as its client's record holds it. -/
theorem opened_answered {x : ClientCtx} (own : x.c = c) (host : x.role = roleH) (k : Bytes) (n now later : Nat) :
    let y := (x.opened (x.sessionKey k) n now).answered (key 0x1110 7) abOk [] true later
    y.st = 2 ∧ y.role = roleH ∧ y.ctr = 1 ∧ y.key = kdf k (ascii "BDP-SESSION") ([byte (channelOf c), 1] ++ x.devNonce ++ x.cliNonce) 128 ∧
      y.row = some n := by
  refine ⟨rfl, host, rfl, ?_, rfl⟩
  show x.sessionKey k = _
  rw [ClientCtx.sessionKey, own, host]
  rfl

end

/-- Settles O18: the role write by its causes, the proof by the branches before its check, and H's proof by the check. -/
theorem roleSessionsOpenWithAProof : Obligations.RoleSessionsOpenWithAProof := by
  intro s dt c u
  refine ⟨?factory, ?host, fun proof acc => ⟨?unasked, ?late, ?checked⟩⟩
  case factory =>
    rintro code acc rfl factory
    have code : leNat (leBytes 1 roleF) = roleF := rfl
    have cause : u.roleCause c (leNat (leBytes 1 roleF)) = abRole := code ▸ State.roleCause_factory factory
    have act := asksWrite_role_refused acc (cause ▸ (by decide))
    rw [cause] at act
    exact congrArg (finish s) act
  case host =>
    intro acc closed held room trust runs has
    obtain ⟨t, act, own, rest⟩ := asksWrite_role_host acc (State.roleCause_host closed held room trust) runs has
    have opens : (t.ctx c).st = 1 ∧ (t.ctx c).role = roleH ∧ (t.ctx c).devNonce = (u.rngBuf 2).take 16 ∧ (t.ctx c).openedAt = u.now ∧
        (t.ctx c).reply = some { key := key 0x1110 1, abort := abOk, data := [] } := by
      rw [own]
      exact ⟨rfl, rfl, rfl, rfl, rfl⟩
    obtain ⟨st, role, nonce, at_, reply⟩ := opens
    exact ⟨{ t with pending := s.pending }, congrArg (finish s) act, st, role, nonce, at_, reply, rest⟩
  case unasked =>
    intro none_
    have act := asksWrite_proof acc
    rw [State.proofWrite_unasked none_] at act
    exact congrArg (finish s) act
  case late =>
    intro opening late
    have act := asksWrite_proof acc
    rw [State.proofWrite_late opening late] at act
    exact congrArg (finish s) act
  case checked =>
    intro opening inTime host engine trust paired
    have act := asksWrite_proof acc
    have check := State.proofCause_host (u := u) (proof := proof) host paired
    constructor
    · intro right room free
      obtain ⟨n, free⟩ := Option.ne_none_iff_exists'.mp free
      obtain ⟨t, write, own, opened⟩ := State.proofWrite_good opening inTime host engine trust (check.trans (if_pos right))
        (State.sessionRoot_host host paired) room free
      rw [write] at act
      obtain ⟨st, role, ctr, key_, row⟩ := opened_answered (u.ctx_c c) host (u.slot 1).key n u.now t.now
      rw [← own, ← State.ctx_answer] at st role ctr key_ row
      exact ⟨{ t.answer c (key 0x1110 7) abOk [] true with pending := s.pending }, congrArg (finish s) act, st, role, ctr, key_, row.trans free.symm, opened⟩
    · intro wrong
      have failed := State.ctx_proofFailed host 7
      rw [State.proofWrite_bad opening inTime host engine trust (check.trans (if_neg wrong))] at act
      generalize u.proofFailed c 7 = t at act failed
      obtain ⟨own, cx⟩ := failed
      have answered : ((t.answer c (key 0x1110 7) abAuthFail [] true).ctx c).st = 0 ∧
          ((t.answer c (key 0x1110 7) abAuthFail [] true).ctx c).holdUntil = u.now + 2000000000 := by
        rw [State.ctx_answer, own]
        exact ⟨rfl, rfl⟩
      have reply : ((t.answer c (key 0x1110 7) abAuthFail [] true).ctx c).reply = some { key := key 0x1110 7, abort := abAuthFail, data := [] } := by
        rw [State.ctx_answer]
        rfl
      exact ⟨{ t.answer c (key 0x1110 7) abAuthFail [] true with pending := s.pending }, congrArg (finish s) act, answered.1, answered.2, reply, cx⟩

end Sys2Proof.Machine
end

section
/-! SUPPORT. Frames of BDP as they meet a channel, what an abort leaves, and the ends of a transfer that is displaced or late (R67, R68). -/

namespace Sys2Proof.Machine
open Sys2Proof

/-! ## What a frame, an answer and a closing leave of the stored values -/

/-- What touches neither the store of objects, in RAM and ReRAM, nor the writes that wait for their commit. -/
structure KeepsValues (s t : State) : Prop where
  objs : t.objs = s.objs
  rrObjs : t.rr.objs = s.rr.objs
  commits : t.dict.commits = s.dict.commits

theorem KeepsValues.refl (s : State) : KeepsValues s s := ⟨rfl, rfl, rfl⟩

theorem KeepsValues.trans {s t u : State} (h : KeepsValues s t) (g : KeepsValues t u) : KeepsValues s u :=
  ⟨g.objs.trans h.objs, g.rrObjs.trans h.rrObjs, g.commits.trans h.commits⟩

theorem KeepsValues.emit {s t : State} (h : KeepsValues s t) (u code p : Nat) : KeepsValues s (t.emit u code p) :=
  h.trans ⟨by simp, by simp, by simp⟩

theorem KeepsObjects.values {s t : State} (h : KeepsObjects s t) : KeepsValues s t := ⟨h.objs, h.rrObjs, by rw [h.dict]⟩

theorem KeepsObjects.canQueue (s : State) (bus : Nat) (f : DevFrame) : KeepsObjects s (s.canQueue bus f) := by
  unfold State.canQueue State.setCtl
  split_ifs <;> exact ⟨rfl, rfl, rfl⟩

theorem KeepsValues.bdpSend (s : State) (bus ch : Nat) (fd short : Bool) (b : Bytes) : KeepsValues s (s.bdpSend bus ch fd short b) := by
  have queue : ∀ f, KeepsValues s (s.canQueue bus f) := fun f => (KeepsObjects.canQueue s bus f).values
  unfold State.bdpSend
  dsimp only
  split
  · exact queue _
  · exact (queue _).trans ⟨rfl, rfl, rfl⟩

/-- A frame sent on a channel with no transfer leaves the client's record. -/
theorem State.ctx_bdpSend {s : State} {bus ch : Nat} (none_ : (s.ctx (.can bus ch)).xfer = none) (fd short : Bool) (b : Bytes) :
    (s.bdpSend bus ch fd short b).ctx (.can bus ch) = s.ctx (.can bus ch) := by
  have queue : ∀ f, (s.canQueue bus f).ctx (.can bus ch) = s.ctx (.can bus ch) := fun f => (KeepsObjects.canQueue s bus f).ctx _
  unfold State.bdpSend
  dsimp only
  rw [queue, none_]
  exact queue _

/-- A client's frame moves its clocks alone, which the dictionary server's records hold. -/
theorem State.bdpTouch_eq (s : State) (c : Client) : ∃ d : Dict, s.bdpTouch c = { s with dict := d } ∧ d.commits = s.dict.commits := by
  obtain ⟨d, session, commits⟩ : ∃ d : Dict, (if (s.ctx c).st = 2 then s.setCtx { s.ctx c with lastUse := s.now } else s) = { s with dict := d } ∧
      d.commits = s.dict.commits := by
    split_ifs
    · exact ⟨_, rfl, rfl⟩
    · exact ⟨_, rfl, rfl⟩
  unfold State.bdpTouch
  dsimp only
  rw [session]
  split
  · split_ifs
    · exact ⟨_, rfl, commits⟩
    · exact ⟨_, rfl, commits⟩
  · exact ⟨_, rfl, commits⟩

theorem KeepsValues.bdpTouch (s : State) (c : Client) : KeepsValues s (s.bdpTouch c) := by
  obtain ⟨d, touch, commits⟩ := s.bdpTouch_eq c
  rw [touch]
  exact ⟨rfl, rfl, commits⟩

theorem KeepsValues.bdpAbort (s : State) (bus ch : Nat) (fd : Bool) (k code : Nat) (late : Bool) : KeepsValues s (s.bdpAbort bus ch fd k code late) :=
  (show KeepsValues s ((s.xferDrop (.can bus ch)).answer (.can bus ch) k code [] late) from ⟨rfl, rfl, rfl⟩).trans (.bdpSend ..)

theorem State.ctx_xferDrop (s : State) (c : Client) : (s.xferDrop c).ctx c = { s.ctx c with xfer := none } := State.ctx_setCtx_of s _ c (s.ctx_c c)

/-- The device's abort leaves the channel without a transfer, and its client with the answer. -/
theorem State.ctx_bdpAbort (s : State) (bus ch : Nat) (fd : Bool) (k code : Nat) (late : Bool) :
    (s.bdpAbort bus ch fd k code late).ctx (.can bus ch) =
      ({ s.ctx (.can bus ch) with xfer := none } : ClientCtx).answered k code [] late s.now := by
  have own : ((s.xferDrop (.can bus ch)).answer (.can bus ch) k code [] late).ctx (.can bus ch) =
      ({ s.ctx (.can bus ch) with xfer := none } : ClientCtx).answered k code [] late s.now := by
    rw [State.ctx_answer, State.ctx_xferDrop]
    rfl
  exact (State.ctx_bdpSend (by rw [own]; rfl) ..).trans own

/-! ## How a frame meets its channel -/

section
variable {v : State} {bus ch : Nat} {fr : Bytes} {fd : Bool} (form : v.bdpForm bus fr fd false = true)
include form

/-- An initiate is served by its kind, whatever the channel does. -/
theorem State.bdpFrame_initiate (kind : v.bdpKind bus ch fr ∈ [BdpKind.expedited, .segWrite, .blkWrite, .read, .blkRead]) :
    v.bdpFrame bus ch fr fd = (v.bdpTouch (.can bus ch)).bdpInitiate bus ch fr fd (v.bdpKind bus ch fr) := by
  have formed : ¬(!v.bdpForm bus fr fd false) = true := by simp [form]
  unfold State.bdpFrame
  generalize v.bdpKind bus ch fr = k at kind
  simp only [List.mem_cons, List.not_mem_nil, or_false] at kind
  rcases kind with rfl | rfl | rfl | rfl | rfl <;> exact if_neg formed

/-- A frame in a transfer of its own format is served by its kind. -/
theorem State.bdpFrame_inXfer {t : Xfer} (kind : v.bdpKind bus ch fr ∈ [BdpKind.readRequest, .readAck, .readEndAck, .writeEnd, .abort])
    (xfer : ((v.bdpTouch (.can bus ch)).ctx (.can bus ch)).xfer = some t) (same : t.fd = fd) :
    v.bdpFrame bus ch fr fd = (v.bdpTouch (.can bus ch)).bdpInXfer bus ch fr t (v.bdpKind bus ch fr) := by
  have formed : ¬(!v.bdpForm bus fr fd false) = true := by simp [form]
  have served : ∀ k, k ∈ [BdpKind.readRequest, .readAck, .readEndAck, .writeEnd, .abort] → v.bdpKind bus ch fr = k →
      v.bdpFrame bus ch fr fd = (v.bdpTouch (.can bus ch)).bdpInXfer bus ch fr t k := by
    intro k mem is
    simp only [List.mem_cons, List.not_mem_nil, or_false] at mem
    unfold State.bdpFrame
    dsimp only
    rw [is]
    rcases mem with rfl | rfl | rfl | rfl | rfl <;> exact (if_neg formed).trans (by rw [xfer]; exact if_pos same)
  exact served _ kind rfl

end

/-- An initiate on a channel with a transfer ends that transfer first (R68). -/
theorem State.bdpInitiate_displaces {s : State} {bus ch : Nat} {t : Xfer} (xfer : (s.ctx (.can bus ch)).xfer = some t) (fr : Bytes) (fd : Bool) (k : BdpKind) :
    s.bdpInitiate bus ch fr fd k =
      ((s.dropPending (.can bus ch)).bdpAbort bus ch t.fd t.key abSequence false).bdpInitiate bus ch fr fd k := by
  have free : (((s.dropPending (.can bus ch)).bdpAbort bus ch t.fd t.key abSequence false).ctx (.can bus ch)).xfer = none := by
    rw [State.ctx_bdpAbort]
    rfl
  unfold State.bdpInitiate
  simp only [xfer, free]

/-! ## A missing frame -/

section
variable {u : State} {bus ch : Nat}

theorem State.bdpTimeout_none (none_ : (u.ctx (.can bus ch)).xfer = none) : u.bdpTimeout bus ch = u := by
  unfold State.bdpTimeout
  dsimp only
  rw [none_]

/-- A transfer whose next frame is late ends with TIMEOUT, and not before; a write that waits for its commit is not late. -/
theorem State.bdpTimeout_some {t : Xfer} (xfer : (u.ctx (.can bus ch)).xfer = some t) :
    u.bdpTimeout bus ch =
      if u.powered = true ∧ t.commit = false ∧ t.last + u.bdpConf bus 4 * msNs ≤ u.now then
        let a := u.bdpAbort bus ch t.fd t.key abTimeout false
        ({ a with dict := { a.dict with segTimeouts := satAdd 32 a.dict.segTimeouts 1 } } : State).emit 0x24 0x1104 (256 * t.key + channelOf (.can bus ch))
      else u := by
  unfold State.bdpTimeout
  dsimp only
  rw [xfer]
  dsimp only
  by_cases due : u.powered = true ∧ t.commit = false ∧ t.last + u.bdpConf bus 4 * msNs ≤ u.now
  · rw [if_pos due]
    obtain ⟨on, commit, late⟩ := due
    exact if_pos (by simp only [on, commit, late, Bool.not_false, decide_true, Bool.and_self])
  · rw [if_neg due]
    refine if_neg fun all => due ?_
    simp only [Bool.and_eq_true, Bool.not_eq_true', decide_eq_true_eq] at all
    exact ⟨all.1.1, all.1.2, all.2⟩

end

/-- Settles O26: a displaced transfer leaves a channel with none, and a late one ends by one comparison with its clock. -/
theorem bdpTransfersAreDisplacedAndTimeOut : Obligations.BdpTransfersAreDisplacedAndTimeOut := by
  constructor
  · intro v bus ch fr fd t c b kind form xfer d
    refine ⟨?_, (State.bdpFrame_initiate form kind).trans (State.bdpInitiate_displaces xfer ..)⟩
    rw [State.ctx_bdpAbort]
    rfl
  · intro s dt bus ch u c
    refine ⟨fun none_ => congrArg (finish s) (State.bdpTimeout_none none_), fun t xfer => ⟨fun early => ?_, fun on commit late => ?_⟩⟩
    · have early : ¬(u.powered = true ∧ t.commit = false ∧ t.last + u.bdpConf bus 4 * msNs ≤ u.now) := by
        rintro ⟨-, commit, late⟩
        exact early.elim (fun waits => Bool.noConfusion (waits.symm.trans commit)) (fun before => absurd late (Nat.not_le.mpr before))
      exact congrArg (finish s) ((State.bdpTimeout_some xfer).trans (if_neg early))
    · exact congrArg (finish s) ((State.bdpTimeout_some xfer).trans (if_pos ⟨on, commit, late⟩))

end Sys2Proof.Machine
end

section
/-! SUPPORT. The end frame of a write over BDP, and the client's abort (R39, R43, R64, R68). -/

namespace Sys2Proof.Machine
open Sys2Proof

/-! ## The tag check -/

/-- A frame that has no need to be short carries a whole tag of 7 bytes (R60, R64). -/
theorem slice_tag_length {v : State} {bus : Nat} {fr : Bytes} {fd : Bool} (form : v.bdpForm bus fr fd false = true) : (slice 1 7 fr).length = 7 := by
  have whole : fr.length = 8 ∨ fr.length = 64 := by
    unfold State.bdpForm at form
    cases fd <;> simp_all
  simp only [slice, List.length_take, List.length_drop]
  omega

section
variable {s : State} {c : Client} {ix sub : Nat} {data tag : Bytes}

theorem State.tagCheck_good (good : ((s.ctx c).tagOver 1 ix sub data).take tag.length = tag) : s.tagCheck c ix sub data tag = (s, true) :=
  if_pos (by simpa using good)

theorem KeepsValues.sessionClose (s : State) (c : Client) (cause : Nat) : KeepsValues s (s.sessionClose c cause) := by
  by_cases open_ : (s.ctx c).st = 2
  · obtain ⟨objs, rr, commits, -⟩ := s.closed_keeps c
    rw [State.sessionClose_open open_]
    have closed : KeepsValues s (s.closed c) := ⟨objs, by rw [rr], commits⟩
    exact closed.emit _ _ _
  · rw [show s.sessionClose c cause = s from if_pos open_]
    exact .refl s

/-- A tag failure of a client, as its record and 0x1101's counter hold it (R44, R46, R76). -/
def State.tagFailed (s : State) (c : Client) : State :=
  let s1 := s.setCtx { s.ctx c with tagFails := (s.ctx c).tagFails + 1 }
  ({ s1 with dict := { s1.dict with tagFails := satAdd 32 s1.dict.tagFails 1 } } : State).emit 0x24 0x1103 (2 + 256 * channelOf c)

theorem KeepsValues.tagFailed (s : State) (c : Client) : KeepsValues s (s.tagFailed c) := by
  unfold State.tagFailed
  refine KeepsValues.emit ?_ _ _ _
  exact ⟨rfl, rfl, rfl⟩

/-- A tag that does not verify is refused and counted, and the third closes the session. -/
theorem State.tagCheck_bad (bad : ((s.ctx c).tagOver 1 ix sub data).take tag.length ≠ tag) :
    s.tagCheck c ix sub data tag = (if 2 ≤ (s.ctx c).tagFails then (s.tagFailed c).sessionClose c 3 else s.tagFailed c, false) :=
  if_neg (by simpa using bad)

theorem KeepsValues.tagCheck_bad (bad : ((s.ctx c).tagOver 1 ix sub data).take tag.length ≠ tag) :
    KeepsValues s (s.tagCheck c ix sub data tag).1 := by
  rw [State.tagCheck_bad bad]
  dsimp only
  split_ifs
  · exact (KeepsValues.tagFailed s c).trans (.sessionClose ..)
  · exact .tagFailed s c

end

/-! ## The end frame -/

section
variable {s : State} {bus ch : Nat} {fr : Bytes} {t : Xfer} (write : t.kind = .segWrite ∨ t.kind = .blkWrite)
include write

theorem State.bdpWriteEnd_length (bad : t.ended = false ∨ (fr.getD 0 0).toNat % 8 ≠ unusedOf t.fd t.total) :
    s.bdpWriteEnd bus ch fr t = s.bdpAbort bus ch t.fd t.key abLength false := by
  unfold State.bdpWriteEnd
  dsimp only
  rw [if_neg (by tauto), if_pos (by simpa using bad)]

/-- An end frame whose data are whole goes on to the tag, and to check 11. -/
theorem State.bdpWriteEnd_tagged (ended : t.ended = true) (unused : (fr.getD 0 0).toNat % 8 = unusedOf t.fd t.total)
    (up : s.tagDown (.can bus ch) (t.key / 256) = false) (tagged : (s.ctx (.can bus ch)).tagged = true) (own : t.key / 256 ≠ 0x1110) :
    s.bdpWriteEnd bus ch fr t =
      let r := s.tagCheck (.can bus ch) (t.key / 256) (t.key % 256) t.data (slice 1 7 fr)
      if !r.2 then r.1.bdpAbort bus ch t.fd t.key abAuthFail false
      else
        let cause := r.1.valueCause (.can bus ch) (t.key / 256) (t.key % 256) (leNat t.data)
        if cause ≠ 0 then r.1.bdpAbort bus ch t.fd t.key cause true else r.1.bdpCommit (.can bus ch) t (t.key / 256) (t.key % 256) := by
  unfold State.bdpWriteEnd
  dsimp only
  have tags : (t.key / 256 != 0x1110) = true := by simpa using own
  rw [if_neg (by tauto), if_neg (fun h => h.elim (by simp [ended]) (absurd unused)), up, tagged, tags, if_neg Bool.false_ne_true]
  rfl

end

/-- What a client's dropped work leaves: the frames that wait, the values, and the other clients' writes (R68). -/
theorem State.dropPending_keeps (s : State) (c : Client) :
    (s.dropPending c).can0 = s.can0 ∧ (s.dropPending c).can1 = s.can1 ∧ (s.dropPending c).objs = s.objs ∧ (s.dropPending c).rr = s.rr ∧
      (s.dropPending c).dict.commits = s.dict.commits.filter (fun x => x.c != c) := by
  unfold State.dropPending State.incDrop
  split <;> exact ⟨rfl, rfl, rfl, rfl, rfl⟩

/-- Settles O24: the end frame by its checks in their order, the abort by what it drops. -/
theorem bdpWritesCommitAfterTheirTag : Obligations.BdpWritesCommitAfterTheirTag := by
  intro v bus ch fr fd t c b ix sub form xfer same commit
  subst same
  have touch := KeepsValues.bdpTouch v c
  constructor
  case left =>
    intro kind write
    have frame : v.bdpFrame bus ch fr t.fd = b.bdpWriteEnd bus ch fr t := by
      rw [State.bdpFrame_inXfer form (by simp [kind]) xfer rfl, kind]
      exact if_neg (by simp [commit])
    rw [frame]
    refine ⟨State.bdpWriteEnd_length write, fun ended unused up tagged own => ?_⟩
    have length := slice_tag_length form
    rw [State.bdpWriteEnd_tagged write ended unused up tagged own]
    constructor
    · intro bad
      have bad : ((b.ctx c).tagOver 1 ix sub t.data).take (slice 1 7 fr).length ≠ slice 1 7 fr := length.symm ▸ bad
      have keeps := KeepsValues.tagCheck_bad bad
      have fails : (b.tagCheck c ix sub t.data (slice 1 7 fr)).2 = false := by rw [State.tagCheck_bad bad]
      dsimp only
      rw [fails, Bool.not_false, if_pos rfl]
      obtain ⟨objs, rrObjs, commits⟩ := (touch.trans keeps).trans (.bdpAbort _ bus ch t.fd t.key abAuthFail false)
      refine ⟨objs, rrObjs, commits, ?_⟩
      rw [State.ctx_bdpAbort]
      exact ⟨rfl, rfl⟩
    · intro good value
      have value : ¬b.valueCause c ix sub (leNat t.data) ≠ 0 := not_not.mpr value
      rw [State.tagCheck_good (length.symm ▸ good)]
      exact if_neg value
  case right =>
    intro kind
    have frame : v.bdpFrame bus ch fr t.fd = (b.dropPending c).xferDrop c := by
      rw [State.bdpFrame_inXfer form (by simp [kind]) xfer rfl, kind]
      rfl
    obtain ⟨d, is, -⟩ := v.bdpTouch_eq c
    have is : b = { v with dict := d } := is
    obtain ⟨can0, can1, objs, rr, commits⟩ := b.dropPending_keeps c
    rw [frame]
    refine ⟨by rw [State.ctx_xferDrop], can0.trans (by rw [is]), can1.trans (by rw [is]), ?_, objs.trans (by rw [is]), rr.trans (by rw [is])⟩
    intro x mem own
    have mem : x ∈ b.dict.commits.filter (fun y => y.c != c) := commits ▸ mem
    simp [own] at mem

end Sys2Proof.Machine
end

section
/-! SUPPORT. Reads over BDP: expedited, segmented and in blocks (R61, R63 to R66, R69). -/

namespace Sys2Proof.Machine
open Sys2Proof

/-! ## The initiate -/

/-- A read initiate on a channel with no transfer is served as it came. -/
theorem State.bdpInitiate_read {s : State} {bus ch : Nat} (none_ : (s.ctx (.can bus ch)).xfer = none) (fr : Bytes) (fd block : Bool) :
    s.bdpInitiate bus ch fr fd (if block then .blkRead else .read) =
      s.bdpReadInit bus ch fr fd block (leNat (slice 1 2 fr)) (fr.getD 3 0).toNat := by
  unfold State.bdpInitiate
  simp only [none_]
  cases block <;> rfl

section
variable {s : State} {bus ch ix sub : Nat} {fr : Bytes} {fd block : Bool}

theorem State.bdpReadInit_refused (down : s.checkAccess (.can bus ch) false ix sub 0 ≠ abOk) :
    s.bdpReadInit bus ch fr fd block ix sub = s.bdpAbort bus ch fd (key ix sub) (s.checkAccess (.can bus ch) false ix sub 0) false := if_pos down

variable {data : Bytes} (access : s.checkAccess (.can bus ch) false ix sub 0 = abOk) (value : (s.bdpValue (.can bus ch) ix sub).2 = (abOk, data))
include access value

/-- A value of 1 to 4 bytes goes whole into its answer. -/
theorem State.bdpReadInit_short (some_ : 1 ≤ data.length) (short : data.length ≤ 4) :
    s.bdpReadInit bus ch fr fd block ix sub =
      ((s.bdpValue (.can bus ch) ix sub).1.answer (.can bus ch) (key ix sub) abOk data true).bdpSend bus ch fd false
        (bdpHead (0x40 + (4 - data.length)) (key ix sub) ++ data) := by
  have access : ¬s.checkAccess (.can bus ch) false ix sub 0 ≠ 0 := not_not.mpr access
  unfold State.bdpReadInit
  dsimp only
  rw [if_neg access, value, if_neg (not_not.mpr rfl), if_pos ⟨some_, short⟩]

/-- The transfer of a longer value. -/
def readXfer (block fd : Bool) (k blk now : Nat) (data : Bytes) : Xfer :=
  { kind := if block then .blkRead else .segRead, key := k, total := data.length, data := data, blk := if block then blk else 0, fd := fd, last := now }

/-- A longer value begins a transfer, and a block read goes on with its first block. -/
theorem State.bdpReadInit_long (long : 4 < data.length) (up : s.tagDown (.can bus ch) ix = false)
    (size : block = true → 1 ≤ (fr.getD 4 0).toNat ∧ (fr.getD 4 0).toNat ≤ 127) :
    s.bdpReadInit bus ch fr fd block ix sub =
      let t := readXfer block fd (key ix sub) (fr.getD 4 0).toNat s.now data
      let s1 := ((s.bdpValue (.can bus ch) ix sub).1.xferStart (.can bus ch) t).bdpSend bus ch fd false
        (bdpHead (if block then 0x48 else 0x44) (key ix sub) ++ leBytes 4 data.length)
      if block then s1.bdpBlock bus ch ((s1.ctx (.can bus ch)).xfer.getD t) else s1 := by
  have access : ¬s.checkAccess (.can bus ch) false ix sub 0 ≠ 0 := not_not.mpr access
  have fits : ¬((block = true) ∧ ((fr.getD 4 0).toNat = 0 ∨ 127 < (fr.getD 4 0).toNat)) := by
    rintro ⟨is, bad⟩
    have := size is
    omega
  unfold State.bdpReadInit
  dsimp only
  rw [if_neg access, value, if_neg (not_not.mpr rfl), if_neg (fun h => absurd h.2 (Nat.not_le.mpr long)), up, if_neg Bool.false_ne_true, if_neg fits]
  rfl

end

/-! ## Segments and acknowledgements -/

section
variable {s : State} {bus ch : Nat} {fr : Bytes} {t : Xfer}

theorem State.bdpReadSeg_toggle (bad : bit (fr.getD 0 0).toNat 4 ≠ t.toggle) :
    s.bdpReadSeg bus ch fr t = s.bdpAbort bus ch t.fd t.key abSequence false := if_pos (.inr bad)

/-- A segment of the expected toggle is cut from the value, and the last one is followed by the end frame. -/
theorem State.bdpReadSeg_next (kind : t.kind = .segRead) (good : bit (fr.getD 0 0).toNat 4 = t.toggle) :
    s.bdpReadSeg bus ch fr t =
      let data := slice t.done (segBytes t.fd) t.data
      let t1 : Xfer := { t with done := t.done + data.length, toggle := !t.toggle }
      let last := decide (t.total ≤ t.done + segBytes t.fd)
      let sent := (s.xferSet (.can bus ch) t1).bdpSend bus ch t.fd last
        (byte (16 * b2n (bit (fr.getD 0 0).toNat 4) + 2 * (if t.fd then 0 else 7 - data.length) + b2n last) :: data)
      if last = true then (sent.bdpReadEnd bus ch t1).bdpReadDone (.can bus ch) t1 else sent :=
  if_neg (fun h => h.elim (absurd kind) (absurd good))

/-- The bytes of a block read that are through with an acknowledgement of segments (R66). -/
def readDone (t : Xfer) (good : Nat) : Nat := min t.total (t.done + good * segBytes t.fd)

/-- An acknowledgement of segments sent ends the data, or asks for the next block. -/
theorem State.bdpReadAck_sent (kind : t.kind = .blkRead) (open_ : t.ended = false) (sent : (fr.getD 1 0).toNat ≤ t.seq) :
    s.bdpReadAck bus ch fr t =
      if readDone t (fr.getD 1 0).toNat = t.total ∧ (fr.getD 1 0).toNat ≠ 0 then s.bdpReadEnd bus ch { t with done := readDone t (fr.getD 1 0).toNat }
      else if (fr.getD 2 0).toNat = 0 ∨ 127 < (fr.getD 2 0).toNat then s.bdpAbort bus ch t.fd t.key abRange false
      else s.bdpBlock bus ch { t with done := readDone t (fr.getD 1 0).toNat, blk := (fr.getD 2 0).toNat } := by
  have sequence : ¬(t.kind ≠ .blkRead ∨ t.ended = true ∨ t.seq < (fr.getD 1 0).toNat) := by
    rintro (other | ended | more)
    · exact other kind
    · exact Bool.noConfusion (open_.symm.trans ended)
    · exact Nat.not_lt.mpr sent more
  exact if_neg sequence

end

/-- Settles O25: an initiate by its checks and the value's length, and each later frame by its branch. -/
theorem bdpReadsSendTheValueRead : Obligations.BdpReadsSendTheValueRead := by
  intro v bus ch fr fd c b ix sub k b0 form
  refine ⟨fun none_ block kind => ?initiate, fun t xfer same commit => ?inXfer⟩
  case initiate =>
    have frame : v.bdpFrame bus ch fr fd = b.bdpReadInit bus ch fr fd block ix sub := by
      rw [State.bdpFrame_initiate form (by rw [kind]; cases block <;> decide), kind]
      exact State.bdpInitiate_read none_ fr fd block
    rw [frame]
    refine ⟨State.bdpReadInit_refused, fun data access value => ⟨?_, ?_, ?_⟩⟩
    · exact State.bdpReadInit_short access value
    · rintro long up rfl
      exact State.bdpReadInit_long access value long up (fun h => Bool.noConfusion h)
    · rintro long up rfl low high
      exact State.bdpReadInit_long access value long up (fun _ => ⟨low, high⟩)
  case inXfer =>
    subst same
    have going : ¬t.commit = true := by simp [commit]
    have frame : ∀ kind, v.bdpKind bus ch fr = kind → kind ∈ [BdpKind.readRequest, .readAck, .readEndAck, .writeEnd, .abort] →
        v.bdpFrame bus ch fr t.fd = b.bdpInXfer bus ch fr t kind := by
      rintro kind is mem
      rw [State.bdpFrame_inXfer form (is ▸ mem) xfer rfl, is]
    refine ⟨fun kind read => ?segment, fun kind read open_ sent some_ => ?ack, fun kind => ?endAck⟩
    case segment =>
      have frame : v.bdpFrame bus ch fr t.fd = b.bdpReadSeg bus ch fr t := (frame _ kind (by decide)).trans (if_neg going)
      rw [frame]
      exact ⟨State.bdpReadSeg_toggle, State.bdpReadSeg_next read⟩
    case ack =>
      have frame : v.bdpFrame bus ch fr t.fd = b.bdpReadAck bus ch fr t := (frame _ kind (by decide)).trans (if_neg going)
      rw [frame, State.bdpReadAck_sent read open_ sent]
      refine ⟨fun all => if_pos ⟨all, by omega⟩, fun less low high => ?_⟩
      rw [if_neg (fun h => absurd h.1 (Nat.ne_of_lt less)), if_neg (by omega)]
      rfl
    case endAck =>
      have frame : v.bdpFrame bus ch fr t.fd = b.bdpReadEndAck bus ch t := (frame _ kind (by decide)).trans (if_neg going)
      rw [frame]
      refine ⟨fun read ended => if_pos ⟨read, ended⟩, fun other => if_neg fun h => ?_⟩
      exact other.elim (absurd h.1) (fun open_ => Bool.noConfusion (open_.symm.trans h.2))

end Sys2Proof.Machine
end

section
/-! SUPPORT. Wake inputs and Rooster's group polls (R91 to R99). -/

namespace Sys2Proof.Machine
open Sys2Proof

section
variable {v : State} {p : Poll} {cause : Nat}

/-! ## The mute (R96) -/

/-- The mute's end is said where there was one, and the count of hits starts again. -/
@[simp] theorem State.muteOff_rooster (v : State) : v.muteOff.aon.rooster = { v.aon.rooster with muted := false, hits := 0 } := by
  unfold State.muteOff
  rw [State.emitIf_aon]

theorem State.muteTimeout_late (muted : v.aon.rooster.muted = true) (late : v.aon.rooster.muteAt + 3600000000000 ≤ v.aon.clock) :
    v.muteTimeout = ({ v with aon := { v.aon with rooster := { v.aon.rooster with muted := false, hits := 0 } } } : State).emit 0x03 0x2005
      (v.aon.rooster.hits % 256) := by
  have late : v.aon.rooster.muteAt + 60 * 60 * secNs ≤ v.aon.clock := late
  have ends : v.muteTimeout = v.muteOff := if_pos (by rw [muted, Bool.true_and]; exact decide_eq_true late)
  rw [ends, State.muteOff, State.emitIf, if_pos muted]

theorem State.muteTimeout_early (h : v.aon.rooster.muted = false ∨ v.aon.clock < v.aon.rooster.muteAt + 3600000000000) : v.muteTimeout = v := by
  have h : v.aon.rooster.muted = false ∨ v.aon.clock < v.aon.rooster.muteAt + 60 * 60 * secNs := h
  refine if_neg fun due => ?_
  obtain ⟨muted, late⟩ := Bool.and_eq_true_iff.mp due
  obtain unmuted | early := h
  · exact Bool.noConfusion (unmuted.symm.trans muted)
  · exact absurd (of_decide_eq_true late) (Nat.not_le.mpr early)

/-! ## Wakes by cause and mode (R98, R99) -/

theorem State.wake_rails (off : 2 ≤ v.aon.mode) : v.wake cause = v.resetTo 9 cause := if_pos off

/-- In the ACTIVE mode with no parking under way there is nothing to bring back and nothing to abandon. -/
theorem State.wake_active (active : v.aon.mode = 0) (idle : v.sup.parkStep = 0) (on : v.powered = true) :
    v.wake cause = if cause ≤ 3 then (v.wakeSaid cause).demand else v.wakeSaid cause := by
  have ungated : v.ungate = v := if_neg (by rw [active]; decide)
  have kept : v.parkAbandon = v := if_pos idle
  unfold State.wake
  rw [if_neg (by rw [active]; decide), ungated, kept]
  dsimp only
  rw [on]
  rfl

theorem State.rfOnce_outside (closed : v.inAnswerWindow = false) : v.rfOnce = v.muteOff.wake 3 := by
  unfold State.rfOnce
  rw [closed]
  cases v.aon.rooster.poll <;> rfl

theorem State.rfOnce_muted (opened : v.inAnswerWindow = true) (poll : v.aon.rooster.poll = some p) (group : p.presence = false)
    (muted : v.aon.rooster.muted = true) : v.rfOnce = v.pollHit := by
  unfold State.rfOnce
  rw [opened, poll]
  dsimp only
  rw [group, muted]
  rfl

/-- A low level counts while CAN_STB is high; bus 0 wakes with cause 4 where bit 2 enables it. -/
theorem State.canWake_bus0 (v : State) (levels : List Bool) :
    v.canWake 0 levels =
      let r := v.aon.can0In.run (levels.map (fun x => !x && v.canStb))
      let t : State := { v with aon := { v.aon with can0In := r.1 } }
      if bit (v.obj 0x2030 1) 2 then times (fun x => x.muteOff.wake 4) r.2 t else t := rfl

/-- Bus 1 wakes with cause 5 where bit 3 enables it. -/
theorem State.canWake_bus1 (v : State) (levels : List Bool) :
    v.canWake 1 levels =
      let r := v.aon.can1In.run (levels.map (fun x => !x && v.canStb))
      let t : State := { v with aon := { v.aon with can1In := r.1 } }
      if bit (v.obj 0x2030 1) 3 then times (fun x => x.muteOff.wake 5) r.2 t else t := rfl

/-! ## The end of a poll and of its answer window (R89, R91) -/

theorem State.groupPollEnd_early (poll : v.aon.rooster.poll = some p) (early : v.aon.clock < p.start + 14336000) : v.groupPollEnd = v := by
  unfold State.groupPollEnd
  rw [poll]
  exact if_pos early

theorem State.groupPollEnd_over (poll : v.aon.rooster.poll = some p) (past : p.start + 14336000 ≤ v.aon.clock) :
    v.groupPollEnd = { v with aon := { v.aon with rooster := { v.aon.rooster with poll := some { p with start := v.aon.clock - 14336000 } } } } := by
  unfold State.groupPollEnd
  rw [poll]
  exact if_neg (Nat.not_lt.mpr past)

theorem State.answerEnd_early (poll : v.aon.rooster.poll = some p) (early : v.aon.clock < p.start + 14336000 + v.obj 0x2030 3 * 1000) :
    v.answerEnd = v := by
  unfold State.answerEnd
  rw [poll]
  exact if_pos early

theorem State.answerEnd_over (poll : v.aon.rooster.poll = some p) (past : p.start + 14336000 + v.obj 0x2030 3 * 1000 ≤ v.aon.clock) :
    v.answerEnd = { v with aon := { v.aon with rooster := { v.aon.rooster with poll := none } } } := by
  unfold State.answerEnd
  rw [poll]
  exact if_neg (Nat.not_lt.mpr past)

/-- A poll whose window is still open has not ended, a presence poll neither. -/
theorem State.windowOver_early (poll : v.aon.rooster.poll = some p) (early : v.aon.clock < p.start + 14336000 + v.obj 0x2030 3 * 1000) :
    v.windowOver = v := by
  unfold State.windowOver
  have still : (v.aon.rooster.poll.any (fun p => p.presence) && v.aon.rooster.poll.isNone) = false := by
    rw [poll, Option.isNone_some, Bool.and_false]
  rw [State.answerEnd_early poll early]
  exact if_neg (ne_true_of_eq_false still)

/-- The end of a group poll's window tells policy nothing. -/
theorem State.windowOver_group (poll : v.aon.rooster.poll = some p) (past : p.start + 14336000 + v.obj 0x2030 3 * 1000 ≤ v.aon.clock)
    (group : p.presence = false) : v.windowOver = { v with aon := { v.aon with rooster := { v.aon.rooster with poll := none } } } := by
  unfold State.windowOver
  have quiet : v.aon.rooster.poll.any (fun p => p.presence) = false := by rw [poll, Option.any_some, group]
  rw [State.answerEnd_over poll past, quiet]
  rfl

/-! ## A poll that is due (R93, R94) -/

/-- A state with another Rooster. -/
def State.withRooster (v : State) (r : Rooster) : State := { v with aon := { v.aon with rooster := r } }

/-- The sequencer sends by the mode and its own state, whatever Rooster holds. -/
theorem State.lfSends_withRooster (v : State) (r : Rooster) : (v.withRooster r).lfSends = v.lfSends := rfl

theorem State.pollDue_early
    (h : v.aon.rooster.st = 0 ∨ 4 < v.aon.rooster.st ∨ v.aon.clock < v.aon.rooster.lastPoll + pollInterval v.aon.rooster.st) : v.pollDue = v :=
  if_pos (by simpa [or_assoc] using h)

/-- The configuration taken at a poll is not what its bits say (R86, R109). -/
theorem State.pollBits_lfSnapshot (v : State) : v.lfSnapshot.pollBits = v.pollBits := by
  simp only [State.pollBits, State.obj, State.lfSnapshot, State.snapshot_sup, State.snapshot_objs, State.snapshot_rr_objs]

theorem State.obj_withRooster (v : State) (r : Rooster) (ix sub : Nat) : (v.withRooster r).obj ix sub = v.obj ix sub := rfl

theorem State.pollBits_withRooster (v : State) (r : Rooster) : (v.withRooster r).pollBits = v.pollBits := by
  unfold State.pollBits
  rw [State.obj_withRooster]
  rfl

/-- A group poll goes out on the poll antennas of the configuration that it takes, and is counted on top of n. -/
def State.pollSent (v : State) (n : Nat) : State :=
  let t := v.lfSnapshot.sendPoll (v.lfSnapshot.antSet (v.lfSnapshot.conf 0x2010 0x2010 3)) false
  t.withRooster { t.aon.rooster with polls := satAdd 32 n 1 }

/-- A poll's record holds its start and its bits; the rest is what the snapshot of the configuration leaves. -/
theorem State.pollSent_spec (v : State) (n : Nat) :
    ∃ p : Poll, p.start = v.aon.clock ∧ p.presence = false ∧ p.bits = v.pollBits ∧
      (v.pollSent n).aon.rooster = { v.aon.rooster with poll := some p, polls := min (n + 1) (2 ^ 32 - 1) } ∧
      (v.pollSent n).lf.tele = v.lf.tele ∧ (v.pollSent n).objs = v.objs ∧ (v.pollSent n).rr.objs = v.rr.objs ∧ (v.pollSent n).pol = v.pol := by
  have aon : v.lfSnapshot.aon = v.aon := State.snapshot_aon ..
  have tele : v.lfSnapshot.lf.tele = v.lf.tele := congrArg Lf.tele (State.snapshot_lf ..)
  have objs : v.lfSnapshot.objs = v.objs := State.snapshot_objs ..
  have rrObjs : v.lfSnapshot.rr.objs = v.rr.objs := State.snapshot_rr_objs ..
  have pol : v.lfSnapshot.pol = v.pol := State.snapshot_pol ..
  let p : Poll :=
    { start := v.lfSnapshot.aon.clock, ants := v.lfSnapshot.antSet (v.lfSnapshot.conf 0x2010 0x2010 3), presence := false, bits := v.lfSnapshot.pollBits }
  have rooster : (v.pollSent n).aon.rooster = { v.lfSnapshot.aon.rooster with poll := some p, polls := min (n + 1) (2 ^ 32 - 1) } := rfl
  exact ⟨p, congrArg Aon.clock aon, rfl, v.pollBits_lfSnapshot, by rw [rooster, aon], tele, objs, rrObjs, pol⟩

/-- What a due poll comes to once the last poll has moved on to the time e of its grid. The time stays a variable in the lemmas below, so that checking
them never reckons with the grid's division. -/
def State.pollAt (v : State) (e : Nat) : State :=
  let w := v.withRooster { v.aon.rooster with lastPoll := e }
  if !w.lfSends then w
  else if w.lf.tele.isSome then w.withRooster { w.aon.rooster with skipped := satAdd 32 v.aon.rooster.skipped 1 }
  else w.pollSent v.aon.rooster.polls

section
variable {e : Nat}

theorem State.pollAt_mute (no : v.lfSends = false) : v.pollAt e = v.withRooster { v.aon.rooster with lastPoll := e } :=
  if_pos (by rw [State.lfSends_withRooster, no]; rfl)

theorem State.pollAt_skipped {g : Rooster} (grid : { v.aon.rooster with lastPoll := e } = g) (sends : v.lfSends = true)
    (busy : v.lf.tele.isSome = true) : v.pollAt e = v.withRooster { g with skipped := min (v.aon.rooster.skipped + 1) (2 ^ 32 - 1) } := by
  subst grid
  exact (if_neg (by rw [State.lfSends_withRooster, sends]; decide)).trans (if_pos busy)

theorem State.pollAt_sent (sends : v.lfSends = true) (free : v.lf.tele = none) :
    ∃ t p, v.pollAt e = t ∧ t.aon.rooster.poll = some p ∧ p.start = v.aon.clock ∧ p.presence = false ∧ p.bits = v.pollBits ∧
      t.aon.rooster.lastPoll = e ∧ t.aon.rooster.polls = min (v.aon.rooster.polls + 1) (2 ^ 32 - 1) ∧ t.aon.rooster.st = v.aon.rooster.st ∧
      t.aon.rooster.skipped = v.aon.rooster.skipped ∧ t.lf.tele = none ∧ t.objs = v.objs ∧ t.rr.objs = v.rr.objs ∧ t.pol = v.pol := by
  let w := v.withRooster { v.aon.rooster with lastPoll := e }
  have idle : w.lf.tele.isSome = false := congrArg Option.isSome free
  have sent : v.pollAt e = w.pollSent v.aon.rooster.polls :=
    (if_neg (by rw [State.lfSends_withRooster, sends]; decide)).trans (if_neg (by rw [idle]; decide))
  obtain ⟨p, start, group, bits, rooster, tele, objs, rrObjs, pol⟩ := w.pollSent_spec v.aon.rooster.polls
  replace rooster : (w.pollSent v.aon.rooster.polls).aon.rooster =
      { v.aon.rooster with lastPoll := e, poll := some p, polls := min (v.aon.rooster.polls + 1) (2 ^ 32 - 1) } := rooster
  exact ⟨_, p, sent, by rw [rooster], start, group, bits.trans (v.pollBits_withRooster _), by rw [rooster], by rw [rooster], by rw [rooster], by rw [rooster],
    tele.trans free, objs, rrObjs, pol⟩

end

/-- The last poll moved on along the grid of the phase's interval. -/
def Rooster.gridTime (r : Rooster) (clock : Nat) : Nat := r.lastPoll + (clock - r.lastPoll) / pollInterval r.st * pollInterval r.st

section
variable (first : 1 ≤ v.aon.rooster.st) (last : v.aon.rooster.st ≤ 4)
  (due : v.aon.rooster.lastPoll + pollInterval v.aon.rooster.st ≤ v.aon.clock)
include first last due

theorem State.pollDue_late : v.pollDue = v.pollAt (v.aon.rooster.gridTime v.aon.clock) := by
  refine if_neg fun h => ?_
  simp only [Bool.or_eq_true, decide_eq_true_eq] at h
  omega

theorem State.pollDue_sent (sends : v.lfSends = true) (free : v.lf.tele = none) :
    ∃ t p, v.pollDue = t ∧ t.aon.rooster.poll = some p ∧ p.start = v.aon.clock ∧ p.presence = false ∧ p.bits = v.pollBits ∧
      t.aon.rooster.lastPoll = v.aon.rooster.gridTime v.aon.clock ∧ t.aon.rooster.polls = min (v.aon.rooster.polls + 1) (2 ^ 32 - 1) ∧
      t.aon.rooster.st = v.aon.rooster.st ∧ t.aon.rooster.skipped = v.aon.rooster.skipped ∧ t.lf.tele = none ∧ t.objs = v.objs ∧
      t.rr.objs = v.rr.objs ∧ t.pol = v.pol := by
  rw [State.pollDue_late first last due]
  exact State.pollAt_sent sends free

variable {g : Rooster} (grid : { v.aon.rooster with lastPoll := v.aon.rooster.gridTime v.aon.clock } = g)
include grid

theorem State.pollDue_mute (no : v.lfSends = false) : v.pollDue = v.withRooster g := by
  rw [State.pollDue_late first last due, State.pollAt_mute no, grid]

theorem State.pollDue_skipped (sends : v.lfSends = true) (busy : v.lf.tele.isSome = true) :
    v.pollDue = v.withRooster { g with skipped := min (v.aon.rooster.skipped + 1) (2 ^ 32 - 1) } := by
  rw [State.pollDue_late first last due]
  exact State.pollAt_skipped grid sends busy

end
end

/-- Settles O27: the filters by the definition of each input, the causes by what a wake does in each mode. -/
theorem wakesActByCause : Obligations.WakesActByCause := by
  intro s dt levels u
  refine ⟨rfl, rfl, congrArg (finish s) (u.canWake_bus0 levels), congrArg (finish s) (u.canWake_bus1 levels),
    fun v => ⟨State.rfOnce_outside, ?_, rfl, ?_⟩, fun v cause => ⟨State.wake_rails, State.wake_active⟩⟩
  · rintro opened ⟨p, poll, group⟩ muted
    exact State.rfOnce_muted opened poll group muted
  · rw [State.muteOff_rooster]
    exact ⟨rfl, rfl⟩

/-- Settles O28: each row by whether its instant has come, and a poll that is due by whether the sequencer can send and is free. -/
theorem roosterPollsOnItsGrid : Obligations.RoosterPollsOnItsGrid := by
  intro s dt u r
  refine ⟨⟨rfl, rfl, rfl, rfl⟩, fun early => congrArg (finish s) (State.pollDue_early early), fun first last due => ?_, fun p poll => ?_,
    fun muted late => congrArg (finish s) (State.muteTimeout_late muted late), fun early => congrArg (finish s) (State.muteTimeout_early early)⟩
  · intro grid
    refine ⟨fun no => congrArg (finish s) (State.pollDue_mute (g := grid) first last due rfl no),
      fun sends busy => congrArg (finish s) (State.pollDue_skipped (g := grid) first last due rfl sends busy), fun sends free => ?_⟩
    obtain ⟨t, p, sent, facts⟩ := State.pollDue_sent first last due sends free
    exact ⟨_, p, congrArg (finish s) sent, facts⟩
  · exact ⟨fun early => congrArg (finish s) (State.groupPollEnd_early poll early), fun past => congrArg (finish s) (State.groupPollEnd_over poll past),
      fun early => congrArg (finish s) (State.windowOver_early poll early),
      fun past group => congrArg (finish s) (State.windowOver_group poll past group)⟩

end Sys2Proof.Machine
end

section
/-! SUPPORT. Full telegrams: the demand, the telegram and its epoch, the tones and the reply window (R86 to R103, R164, R174). -/

namespace Sys2Proof.Machine
open Sys2Proof

/-! ## What is read through the units and the snapshots -/

/-- Unit states are read from the stored ones and from the supervisor alone (R16). -/
theorem State.stateGo_congr {s t : State} (us : t.us = s.us) (sup : t.sup = s.sup) : ∀ f v, t.stateGo f v = s.stateGo f v
  | 0, v => State.ownState_congr us sup v
  | f + 1, v => by
    have below : t.stateGo f = s.stateGo f := funext (State.stateGo_congr us sup f)
    rw [State.stateGo, State.stateGo, below, State.ownState_congr us sup, sup]

theorem KeepsUnits.serving {s t : State} (h : KeepsUnits s t) (v : Nat) : t.serving v = s.serving v := by
  rw [State.serving, State.serving, State.unitState, State.unitState, State.stateGo_congr h.us h.sup]

theorem KeepsUnits.obj {s t : State} (h : KeepsUnits s t) (ix sub : Nat) : t.obj ix sub = s.obj ix sub := by
  rw [State.obj, State.obj, h.objs, h.rrObjs]

/-- What leaves the field controller, the context table, time, mode and generator alone, and every snapshot but those of some sets. -/
structure KeepsField (sets : List Nat) (s t : State) : Prop extends KeepsUnits s t where
  lf : t.lf = s.lf
  cx : t.cx = s.cx
  now : t.now = s.now
  aon : t.aon = s.aon
  rng : t.rng = s.rng
  snaps : ∀ k, k ∉ sets → kvGet? t.snaps k = kvGet? s.snaps k

section
variable {sets : List Nat} {s t u : State}

theorem KeepsField.refl (s : State) : KeepsField sets s s := ⟨.refl s, rfl, rfl, rfl, rfl, rfl, fun _ _ => rfl⟩

theorem KeepsField.trans (h : KeepsField sets s t) (g : KeepsField sets t u) : KeepsField sets s u :=
  ⟨h.toKeepsUnits.trans g.toKeepsUnits, g.lf.trans h.lf, g.cx.trans h.cx, g.now.trans h.now, g.aon.trans h.aon, g.rng.trans h.rng,
    fun k out => (g.snaps k out).trans (h.snaps k out)⟩

theorem KeepsField.foldl {α : Type} {f : State → α → State} (h : ∀ s a, KeepsField sets s (f s a)) (l : List α) (s : State) :
    KeepsField sets s (l.foldl f s) := by
  induction l generalizing s with
  | nil => exact .refl s
  | cons a r ih => exact (h s a).trans (ih _)

/-- The ranging side may change. -/
theorem KeepsField.phy (s : State) (p : Phy) : KeepsField sets s { s with phy := p } :=
  ⟨⟨⟨rfl, rfl, rfl, rfl, rfl⟩, rfl⟩, rfl, rfl, rfl, rfl, rfl, fun _ _ => rfl⟩

theorem KeepsField.emit (s : State) (uid code p : Nat) : KeepsField sets s (s.emit uid code p) :=
  ⟨.emit (.refl s), State.emit_lf .., State.emit_cx .., State.emit_now .., State.emit_aon .., State.emit_rng .., fun k _ => by rw [State.emit_snaps]⟩

theorem KeepsField.emitIf (s : State) (b : Bool) (uid code p : Nat) : KeepsField sets s (s.emitIf b uid code p) := by
  cases b
  · exact .refl s
  · exact .emit s uid code p

theorem State.snapshot_snaps_other (s : State) {set k : Nat} (lo hi : Nat) (b : Bool) (uid code p : Nat) (other : k ≠ set) :
    kvGet? (s.snapshot set lo hi b uid code p).snaps k = kvGet? s.snaps k := by
  unfold State.snapshot
  split
  · exact kvGet?_kvPut_other _ _ _ _ other
  · split
    · rfl
    · rw [State.emit_snaps]
      rfl

theorem KeepsField.snapshot (s : State) {set : Nat} (lo hi : Nat) (b : Bool) (uid code p : Nat) (mem : set ∈ sets) :
    KeepsField sets s (s.snapshot set lo hi b uid code p) :=
  ⟨.snapshot s .., State.snapshot_lf .., State.snapshot_cx .., State.snapshot_now .., State.snapshot_aon .., State.snapshot_rng ..,
    fun _ out => s.snapshot_snaps_other lo hi b uid code p fun e => out (e ▸ mem)⟩

/-- A configuration whose snapshot stays reads as before (R22). -/
theorem KeepsField.conf (h : KeepsField sets s t) {set : Nat} (out : set ∉ sets) (ix sub : Nat) : t.conf set ix sub = s.conf set ix sub := by
  rw [State.conf, State.conf, h.snaps set out, h.obj]

theorem KeepsField.powered (h : KeepsField sets s t) : t.powered = s.powered := by rw [State.powered, State.powered, h.aon, h.sup]

/-- The rate limit and the gap of R101 are reckoned from the starts, the last close and the configuration in force. -/
theorem KeepsField.deferMs (h : KeepsField sets s t) (out : 0x2010 ∉ sets) : t.deferMs = s.deferMs := by
  rw [State.deferMs, State.deferMs, h.lf, h.now, h.conf out]

theorem KeepsField.teleMay (h : KeepsField sets s t) (out : 0x2010 ∉ sets) : t.teleMay = s.teleMay := by
  rw [State.teleMay, State.teleMay, h.powered, h.deferMs out, h.serving, h.ownState, h.lf, h.sup, h.aon]

theorem KeepsField.rngStopped (h : KeepsField sets s t) (ch : Nat) : t.rngStopped ch = s.rngStopped ch := by
  rw [State.rngStopped, State.rngStopped, h.rng]

theorem KeepsField.rngBuf (h : KeepsField sets s t) (ch : Nat) : t.rngBuf ch = s.rngBuf ch := by
  rw [State.rngBuf, State.rngBuf, h.rng]

theorem KeepsField.rngWaits (h : KeepsField sets s t) (out : 0x3630 ∉ sets) (ch n : Nat) : t.rngWaits ch n = s.rngWaits ch n := by
  rw [State.rngWaits, State.rngWaits, State.rngInjecting, State.rngInjecting, h.conf out, h.lifecycle, h.rngBuf]

theorem KeepsField.setTimer (s : State) (n : Nat) (x : Timer) : KeepsField sets s (s.setTimer n x) :=
  ⟨⟨⟨rfl, rfl, rfl, rfl, rfl⟩, rfl⟩, rfl, rfl, rfl, rfl, rfl, fun _ _ => rfl⟩

/-- A capture moves timers, and may say that one overran (R383). -/
theorem KeepsField.captureAll (s : State) (src : Nat) : KeepsField sets s (s.captureAll src) := by
  refine .foldl (fun t n => ?_) _ s
  split
  · unfold State.captureNow State.captureAt
    exact (KeepsField.setTimer t n _).trans (.emitIf _ _ _ _ _)
  · exact .refl t

end

/-! ## What is taken before a telegram (R22, R126) -/

/-- The sets whose snapshots the ranging group and the context table take at a telegram. -/
def roundSets : List Nat := [0x2401, 0x2601, 0x2441, 0x24C3, 0x2C03]

theorem KeepsField.phySnapshots (s : State) : KeepsField roundSets s s.phySnapshots := by
  unfold State.phySnapshots
  extract_lets s1 s2 s3
  have taken : KeepsField roundSets s s3 :=
    (((KeepsField.snapshot s _ _ _ _ _ _ (by decide)).trans (.snapshot s1 _ _ _ _ _ _ (by decide))).trans (.snapshot s2 _ _ _ _ _ _ (by decide))).trans
      (.snapshot _ _ _ _ _ _ _ (by decide))
  cases s.newPower s3 with
  | nil => exact taken
  | cons x l => exact taken.trans (.phy s3 _)

theorem KeepsField.feIssue (s : State) (l : List FeTxn) : KeepsField roundSets s (s.feIssue l) := by
  unfold State.feIssue
  split <;> exact .phy s _

theorem KeepsField.chooseChannel (s : State) : KeepsField roundSets s s.chooseChannel := by
  unfold State.chooseChannel
  extract_lets s0 q adaptive old p
  split
  · exact .phySnapshots s
  · exact (((KeepsField.phySnapshots s).trans (.phy s0 p)).trans (.feIssue _ _)).trans (.emit _ _ _ _)

/-- The channel and the context table's configuration leave alone what decides over the telegram. -/
theorem KeepsField.telegramPrelude (s : State) : KeepsField roundSets s s.chooseChannel.cxSnapshot :=
  (KeepsField.chooseChannel s).trans (.snapshot _ _ _ _ _ _ _ (by decide))

/-! ## The start of a telegram (R86, R101, R103) -/

/-- The telegram that starts now with a slot count code and a nonce, in a state s (R86, R164). -/
structure StartsNow (s : State) (code : Nat) (q : Telegram) : Prop where
  start : q.start = s.now
  nonce : q.nonce = (s.rngBuf 7).take 8
  counter : q.counter = (s.lf.counter + 1) % 256
  params : q.params = 8192 * code + 2048 * s.lf.toneStep + q.counter
  slots : q.slots = 8 * 2 ^ code
  tones : q.tones = 0
  window : q.window = false

/-- A nonce comes from channel 7 while the trust pair serves (R103). -/
theorem State.freshNonce_drawn {s : State} (on : s.powered = true) (trust : s.serving 0x20 = true) (runs : s.rngStopped 7 = false)
    (has : s.rngWaits 7 8 = false) :
    ∃ t, s.freshNonce = some (t, (s.rngBuf 7).take 8) ∧ t.now = s.now ∧ t.lf = s.lf ∧ t.cx = s.cx ∧ t.pol = s.pol := by
  obtain ⟨r, drawn⟩ := State.draw_some runs has
  exact ⟨_, (if_pos (by rw [on, trust]; rfl)).trans drawn, rfl, rfl, rfl, rfl⟩

theorem powered_of_teleMay {s : State} (may : s.teleMay = true) : s.powered = true := by
  unfold State.teleMay at may
  simp only [Bool.and_eq_true] at may
  tauto

theorem tele_of_teleMay {s : State} (may : s.teleMay = true) : s.lf.tele.isNone = true := by
  unfold State.teleMay at may
  simp only [Bool.and_eq_true] at may
  tauto

section
variable {s : State} (may : s.teleMay = true) (trust : s.serving 0x20 = true) (runs : s.rngStopped 7 = false) (has : s.rngWaits 7 8 = false)
include may trust runs has

/-- A telegram starts: it serves every demand that waits, and counts. -/
theorem State.telegramStart_runs (code : Nat) :
    ∃ t q, s.telegramStart code = t ∧ StartsNow s code q ∧ t.lf.tele = some q ∧ t.lf.waiting = 0 ∧ t.lf.counter = q.counter ∧
      t.lf.telegrams = min (s.lf.telegrams + 1) (2 ^ 32 - 1) ∧ t.cx = s.cx ∧ t.pol = s.pol := by
  have taken : KeepsField [0x2010] s s.lfSnapshot := .snapshot s _ _ _ _ _ _ (by decide)
  obtain ⟨b, fresh, now, lf, cx, pol⟩ := State.freshNonce_drawn (taken.powered.trans (powered_of_teleMay may)) ((taken.serving _).trans trust)
    ((taken.rngStopped 7).trans runs) ((taken.rngWaits (by decide) 7 8).trans has)
  rw [taken.rngBuf] at fresh
  replace lf : b.lf = s.lf := lf.trans taken.lf
  unfold State.telegramStart
  rw [if_neg (by rw [may]; decide), fresh]
  dsimp -zeta only
  extract_lets counter params ch ants q lf0 l aon0 rooster0 a
  have kept := KeepsField.captureAll (sets := []) { b with lf := l, aon := a } 4
  refine ⟨_, q, rfl, ⟨now.trans taken.now, rfl, ?_, ?_, rfl, rfl, rfl⟩, congrArg Lf.tele kept.lf, congrArg Lf.waiting kept.lf, congrArg Lf.counter kept.lf,
    (congrArg Lf.telegrams kept.lf).trans ?_, kept.cx.trans (cx.trans taken.cx), kept.pol.trans (pol.trans taken.pol)⟩
  · show (b.lf.counter + 1) % 256 = _
    rw [lf]
  · show 8192 * code + 2048 * b.lf.toneStep + counter = _
    rw [lf]
  · show satAdd 32 b.lf.telegrams 1 = _
    rw [lf]
    rfl

end

/-- What is taken before a telegram does not change how it starts. -/
theorem StartsNow.of_kept {sets : List Nat} {s t : State} {code : Nat} {q : Telegram} (kept : KeepsField sets s t) (h : StartsNow t code q) :
    StartsNow s code q :=
  ⟨h.start.trans kept.now, h.nonce.trans (by rw [kept.rngBuf]), h.counter.trans (by rw [kept.lf]), h.params.trans (by rw [kept.lf]), h.slots, h.tones,
    h.window⟩

/-- The epoch that a telegram begins holds its start, its nonce and its parameters, and no row changes (R174). -/
theorem State.epochBegin_spec (s : State) (q : Telegram) (code : Nat) :
    ∃ e : Epoch, (s.epochBegin q code).cx.ep = some e ∧ e.start = q.start ∧ e.nonce = q.nonce ∧ e.counter = q.counter ∧ e.params = q.params ∧
      (s.epochBegin q code).cx.slotCode = code ∧ (s.epochBegin q code).cx.rows = s.cx.rows ∧ (s.epochBegin q code).lf = s.lf ∧
      (s.epochBegin q code).pol = s.pol := ⟨_, rfl, rfl, rfl, rfl, rfl, rfl, rfl, rfl, rfl⟩

section
variable {s : State}

theorem State.telegram_waits (no : s.teleMay = false) : s.telegram = s := if_pos (by rw [no]; rfl)

/-- A telegram that may start, and finds its nonce, starts with its epoch. -/
theorem State.telegram_runs (may : s.teleMay = true) (trust : s.serving 0x20 = true) (runs : s.rngStopped 7 = false) (has : s.rngWaits 7 8 = false) :
    ∃ t q e, s.telegram = t ∧ t.lf.tele = some q ∧ StartsNow s t.cx.slotCode q ∧ t.lf.waiting = 0 ∧ t.lf.counter = q.counter ∧
      t.lf.telegrams = min (s.lf.telegrams + 1) (2 ^ 32 - 1) ∧ t.cx.ep = some e ∧ e.start = q.start ∧ e.nonce = q.nonce ∧ e.counter = q.counter ∧
      e.params = q.params ∧ t.cx.rows = s.cx.rows ∧ t.pol = s.pol := by
  have kept := KeepsField.telegramPrelude s
  have mayStill : s.chooseChannel.cxSnapshot.teleMay = true := (kept.teleMay (by decide)).trans may
  have prelude : s.telegram = _ := if_neg (by rw [may]; decide)
  dsimp only at prelude
  generalize s.chooseChannel.cxSnapshot = b at kept mayStill prelude
  obtain ⟨t, q, run, starts, tele, waiting, counter, telegrams, cx, pol⟩ := State.telegramStart_runs mayStill ((kept.serving _).trans trust)
    ((kept.rngStopped 7).trans runs) ((kept.rngWaits (by decide) 7 8).trans has) b.slotCode
  have began : s.telegram = t.epochBegin q b.slotCode := by
    rw [prelude, run, tele]
    exact if_pos (tele_of_teleMay mayStill)
  obtain ⟨e, ep, start, nonce, count, params, code, rows, lf, samePol⟩ := t.epochBegin_spec q b.slotCode
  refine ⟨_, q, e, began, ?_, ?_, ?_, ?_, ?_, ep, start, nonce, count, params, ?_, samePol.trans (pol.trans kept.pol)⟩
  · rw [lf, tele]
  · rw [code]
    exact starts.of_kept kept
  · rw [lf, waiting]
  · rw [lf, counter]
  · rw [lf, telegrams, kept.lf]
  · rw [rows, cx, kept.cx]

/-! ## The demand (R100, R101) -/

theorem State.conf_withLf (s : State) (l : Lf) (set ix sub : Nat) : ({ s with lf := l } : State).conf set ix sub = s.conf set ix sub := rfl

theorem State.deferMs_waiting (s : State) (n : Nat) : ({ s with lf := { s.lf with waiting := n } } : State).deferMs = s.deferMs := by
  rw [State.deferMs, State.deferMs, State.conf_withLf]

/-- A demand with no telegram in progress and no limit in the way only waits. -/
theorem State.demand_unlimited (free : s.lf.tele = none) (now : s.deferMs = 0) :
    s.demand = { s with lf := { s.lf with waiting := min 255 (s.lf.waiting + 1) } } := by
  unfold State.demand
  rw [if_neg (by rw [free]; decide)]
  extract_lets old s1
  have still : s1.deferMs = 0 := (s.deferMs_waiting _).trans now
  rw [still]
  rfl

theorem asksWrite_telegram {c : Client} (acc : Accepts s c 0x2022 1 [1]) : s.asksWrite c 0x2022 1 [1] = s.demand.done c 0x2022 1 :=
  asksWrite_acts { act := okAct State.demand } rfl acc (by decide) (by decide) rfl (by simp) rfl

/-! ## The tones and the reply window (R88, R89, R164) -/

section
variable {q : Telegram} (tele : s.lf.tele = some q)
include tele

theorem State.toneNext_early (h : 6 ≤ q.tones ∨ s.now < q.start + 40000000 + q.tones * 1000000) : s.toneNext = s := by
  have h : 6 ≤ q.tones ∨ s.now < q.start + 40 * msNs + q.tones * msNs := h
  unfold State.toneNext
  rw [tele]
  exact if_pos (by simpa using h)

/-- A tone that begins counts, and moves the field controller alone. -/
theorem State.toneNext_due (left : q.tones < 6) (due : q.start + 40000000 + q.tones * 1000000 ≤ s.now) :
    ∃ l : Lf, s.toneNext = { s with lf := l } ∧ l.tele = some { q with tones := q.tones + 1 } := by
  have due : q.start + 40 * msNs + q.tones * msNs ≤ s.now := due
  unfold State.toneNext
  rw [tele]
  dsimp -zeta only
  rw [if_neg (by simpa using ⟨left, due⟩)]
  exact ⟨_, rfl, rfl⟩

theorem State.replyOpen_early (h : q.tones < 6 ∨ s.now < q.start + 46000000) : s.replyOpen = s := by
  have h : q.tones < 6 ∨ s.now < q.start + 46 * msNs := h
  unfold State.replyOpen
  rw [tele]
  exact if_pos (by simp only [Bool.or_eq_true, decide_eq_true_eq]; tauto)

variable (closed : q.window = false)
include closed

theorem State.windowOpen_early (h : q.tones < 6 ∨ s.now < q.start + 46000000) : s.windowOpen = s := by
  unfold State.windowOpen
  rw [State.replyOpen_early tele h]
  dsimp only
  rw [tele]
  exact if_neg (by simp [closed])

theorem State.replyOpen_due (all : 6 ≤ q.tones) (due : q.start + 46000000 ≤ s.now) :
    s.replyOpen = { s with lf := { s.lf with tele := some { q with window := true } } } := by
  have due : q.start + 46 * msNs ≤ s.now := due
  unfold State.replyOpen
  rw [tele]
  exact if_neg (by simp [closed, all, due])

end

/-- A gain moves the front ends alone, and no window. -/
theorem State.setGain_phy (s : State) (g : Nat) : ∃ p : Phy, s.setGain g = { s with phy := p } ∧ p.window = s.phy.window := by
  unfold State.setGain
  split
  · exact ⟨s.phy, rfl, rfl⟩
  · exact ⟨_, rfl, rfl⟩

/-- The reply window opens; the ranging group receives the telegram's slots where it can range. -/
theorem State.windowOpen_due {q : Telegram} (tele : s.lf.tele = some q) (closed : q.window = false) (all : 6 ≤ q.tones)
    (due : q.start + 46000000 ≤ s.now) :
    ∃ t, s.windowOpen = t ∧ t.lf.tele = some { q with window := true } ∧ t.cx.rows = s.cx.rows ∧
      (s.rangingOk = true → t.cx.win = some { peer := false, start := q.start + 46000000, slots := q.slots } ∧ t.phy.window = true) ∧
      (s.rangingOk = false → t.cx = s.cx ∧ t.phy = s.phy) := by
  have opened := State.replyOpen_due tele closed all due
  unfold State.windowOpen
  rw [opened, tele]
  extract_lets old s1
  have shown : s1.lf.tele = some { q with window := true } := rfl
  rw [shown]
  dsimp -zeta only
  extract_lets s2
  have same : s1.rangingOk = s.rangingOk := rfl
  cases ranges : s.rangingOk with
  | false =>
    rw [if_neg (by simp [same, ranges])]
    exact ⟨s1, rfl, rfl, rfl, fun h => Bool.noConfusion h, fun _ => ⟨rfl, rfl⟩⟩
  | true =>
    rw [if_pos (by simp [same, ranges, closed])]
    obtain ⟨p, gain, window⟩ := s2.setGain_phy (s2.slotGain false q.slots 0 q.nonce)
    exact ⟨_, gain, rfl, rfl, fun _ => ⟨rfl, window⟩, fun h => Bool.noConfusion h⟩

end

/-- Settles O30: the demand by its act, the telegram by what may start it, tones and window by their instants. -/
theorem fullTelegramsRunToTheirReplyWindow : Obligations.FullTelegramsRunToTheirReplyWindow := by
  intro s dt u
  refine ⟨fun c acc free now => ?_, fun no => congrArg (finish s) (State.telegram_waits no), fun may trust runs has => ?_, fun q tele => ?_⟩
  · have run : exec (.requestTelegram dt c) s = finish s (u.demand.done c 0x2022 1) := congrArg (finish s) (asksWrite_telegram acc)
    rw [run, State.demand_unlimited free now]
  · obtain ⟨t, q, e, run, tele, starts, rest⟩ := State.telegram_runs may trust runs has
    obtain ⟨start, nonce, counter, params, slots, tones, window⟩ := starts
    exact ⟨_, q, e, congrArg (finish s) run, tele, start, nonce, counter, params, slots, tones, window, rest⟩
  · refine ⟨fun early => congrArg (finish s) (State.toneNext_early tele early), fun left due => ?_,
      fun closed early => congrArg (finish s) (State.windowOpen_early tele closed early), fun closed all due => ?_⟩
    · obtain ⟨l, run, next⟩ := State.toneNext_due tele left due
      exact ⟨_, congrArg (finish s) run, next, rfl⟩
    · obtain ⟨t, run, facts⟩ := State.windowOpen_due tele closed all due
      exact ⟨_, congrArg (finish s) run, facts⟩

end Sys2Proof.Machine
end

section
/-! SUPPORT. How many chips the fields of a frame have (R128 to R136). -/

namespace Sys2Proof.Machine
open Sys2Proof

/-! ## Lists that are made piece by piece -/

/-- Pieces of one length. -/
theorem flatMap_length_const {α β : Type} {f : α → List β} {n : Nat} (h : ∀ a, (f a).length = n) (l : List α) :
    (l.flatMap f).length = n * l.length := by
  induction l with
  | nil => rfl
  | cons a r ih => rw [List.flatMap_cons, List.length_append, h, ih, List.length_cons, Nat.mul_succ, Nat.add_comm]

/-- A fold that carries a list and adds n members to it at each step. -/
theorem foldl_snd_length {α β γ : Type} {step : β × List γ → α → β × List γ} {n : Nat} (h : ∀ q a, (step q a).2.length = q.2.length + n)
    (l : List α) (q : β × List γ) : (l.foldl step q).2.length = q.2.length + n * l.length := by
  induction l generalizing q with
  | nil => rfl
  | cons a r ih => rw [List.foldl_cons, ih, h, List.length_cons, Nat.mul_succ]; omega

/-- Runs of n, the last of them maybe shorter. -/
theorem chunks_length {α : Type} {n : Nat} (pos : 0 < n) (f : Nat) (l : List α) (room : l.length < f) :
    (chunks f n l).length = (l.length + (n - 1)) / n := by
  induction f generalizing l with
  | zero => exact absurd room (Nat.not_lt_zero _)
  | succ f ih =>
    cases l with
    | nil => exact (Nat.div_eq_of_lt (by simp only [List.length_nil]; omega)).symm
    | cons a r =>
      have rest : ((a :: r).drop n).length < f := by simp only [List.length_drop, List.length_cons] at room ⊢; omega
      have cut : chunks (f + 1) n (a :: r) = (a :: r).take n :: chunks f n ((a :: r).drop n) := if_neg Bool.false_ne_true
      rw [cut, List.length_cons, ih _ rest, ← Nat.add_div_right _ pos, List.length_drop, List.length_cons]
      by_cases whole : n ≤ r.length + 1
      · congr 1; omega
      · rw [Nat.sub_eq_zero_of_le (by omega), Nat.div_eq_of_lt_le (k := 1) (by omega) (by omega), Nat.div_eq_of_lt_le (k := 1) (by omega) (by omega)]

/-! ## Preamble, SFD and ranging sequence (R129 to R131) -/

theorem preambleGo_length (f : Nat) (l : List Bool) : (preambleGo f l).length = l.length + f := by
  induction f generalizing l with
  | zero => rfl
  | succ f ih => rw [preambleGo, ih, List.length_append, List.length_singleton]; omega

theorem preambleCode_length : preambleCode.length = 127 := by
  rw [preambleCode, List.length_map, preambleGo_length, List.length_replicate]

theorem symbolChips_length (w : Int) : (symbolChips w).length = 508 := by
  rw [symbolChips, flatMap_length_const (n := 4) (fun _ => rfl), preambleCode_length]

theorem sfdCode_length (b : Bool) : (sfdCode b).length = 8 := by cases b <;> rfl

theorem rangingChips_length (key iv : Bytes) : (rangingChips key iv).length = 17920 := by
  have half (l : List Bool) : (l.flatMap fun b => [if b then (-1 : Int) else 1, 0, 0, 0]).length = 4 * l.length :=
    flatMap_length_const (n := 4) (fun _ => rfl) l
  simp only [rangingChips, List.length_append, List.length_replicate, half, List.length_take, List.length_drop, rangingBits_length]
  rfl

/-! ## Header and payload (R132 to R135) -/

/-- Each of the encoder's bits and of its six tail bits gives two coded bits. -/
theorem convEncode_length (l : List Bool) : (convEncode l).length = 2 * (l.length + 6) := by
  rw [convEncode, foldl_snd_length (n := 2) fun q _ => by rw [List.length_append]; rfl]
  rw [List.length_nil, Nat.zero_add, List.length_append, List.length_replicate]

/-- A pilot follows every 15 coded bits, and a last group with fewer. -/
theorem withPilots_length (l : List Bool) : (withPilots l).length = l.length + (l.length + 14) / 15 := by
  have groups (g : List (List Bool)) : (g.flatMap fun x => x ++ [false]).length = g.flatten.length + g.length := by
    induction g with
    | nil => rfl
    | cons x r ih =>
      simp only [List.flatMap_cons, List.flatten_cons, List.length_append, List.length_cons, List.length_nil, ih]
      omega
  rw [withPilots, groups, chunks_flatten _ _ _ (by decide) (Nat.lt_succ_self _), chunks_length (by decide) _ _ (Nat.lt_succ_self _)]

theorem headerBits_length (len version : Nat) : (headerBits len version).length = 24 := bitsOf_length _

theorem payloadBits_length (p : Bytes) : (payloadBits p).length = 8 * (p.length + 2) := by
  rw [payloadBits, bitsOf_length, List.length_append, beBytes_length]

/-- A payload's coded bits are as many as R133 counts. -/
theorem payloadCoded_length (p : Bytes) : (convEncode (payloadBits p)).length = codedLen p.length := by
  rw [convEncode_length, payloadBits_length, codedLen]; omega

theorem dataChips_length (k : Nat) (coded : Bool) : (dataChips k coded).length = 64 := by
  rw [dataChips, List.length_append, List.length_map, List.length_range, List.length_replicate]

/-! ## The whole frame (R136) -/

/-- A frame has as many chips as the model reckons with where it plans slots. -/
theorem frameChips_length (f : TxFrame) : (frameChips f).length = frameLen f.sfdB f.payload.length := by
  have header : (withPilots (convEncode (headerBits f.payload.length 1))).length = 64 := by
    rw [withPilots_length, convEncode_length, headerBits_length]
  have payload : (withPilots (convEncode (payloadBits f.payload))).length = codedLen f.payload.length + (codedLen f.payload.length + 14) / 15 := by
    rw [withPilots_length, payloadCoded_length]
  have chips (l : List (Bool × Nat)) : (l.flatMap fun q => dataChips q.2 q.1).length = 64 * l.length :=
    flatMap_length_const (fun q => dataChips_length q.2 q.1) l
  have preamble : ((List.range 64).flatMap fun _ => symbolChips 1).length = 32512 :=
    flatMap_length_const (fun _ => symbolChips_length 1) _
  have sfd : ((sfdCode f.sfdB).flatMap symbolChips).length = 4064 := by
    rw [flatMap_length_const symbolChips_length, sfdCode_length]
  have sequence : (if f.sfdB then rangingChips f.key f.iv else []).length = if f.sfdB then 17920 else 0 := by
    rw [apply_ite List.length, rangingChips_length]; rfl
  have data : (if f.payload.isEmpty then ([] : List Bool) else withPilots (convEncode (payloadBits f.payload))).length =
      if f.payload.length = 0 then 0 else codedLen f.payload.length + (codedLen f.payload.length + 14) / 15 := by
    rw [apply_ite List.length, payload]
    exact if_congr List.isEmpty_iff_length_eq_zero rfl rfl
  rw [frameChips, frameLen, List.length_append, List.length_append, List.length_append, preamble, sfd, sequence, chips, List.length_zipIdx,
    List.length_append, header, data, Nat.mul_add, mul_ite, Nat.mul_zero]
  omega

/-- Settles O37: the chips field by field, and the slot's bounds by the formula. -/
theorem frameLengthsFollowTheirFields : Obligations.FrameLengthsFollowTheirFields := by
  refine ⟨fun f => ?_, by decide, by decide⟩
  intro d
  have payload : (if f.payload.length = 0 then 0 else 64 * (d + (d + 14) / 15)) = 64 * (d + (d + 14) / 15) * (if f.payload = [] then 0 else 1) := by
    rw [mul_ite, Nat.mul_zero, Nat.mul_one]
    exact if_congr List.length_eq_zero_iff rfl rfl
  rw [frameChips_length, frameLen, ← payload, mul_ite, Nat.mul_zero, Nat.mul_one]
  rfl

end Sys2Proof.Machine
end

section
/-! SUPPORT. Detection, the time-out for the SFD, and the end of a reception (R137, R138, R143). -/

namespace Sys2Proof.Machine
open Sys2Proof

section
variable {s : State} {lane phase ctx : Nat} {power : Int} {f : FrameObs} {key : Bool}

/-- Where the peer role does not listen, a reception step runs in the window as it stands (R196). -/
theorem State.withPeerWindow_silent (h : s.peerListens = false) (step : State → State) : s.withPeerWindow step = step s :=
  if_neg (by rw [h]; exact Bool.false_ne_true)

/-! ## Detection (R138) -/

/-- Beyond the ranging side, a detection is at most noted in the reply window. -/
theorem State.detect_keeps (s : State) (lane phase : Nat) (power : Int) :
    ∃ w, s.detect lane phase power = { s.preamble lane phase power with cx := { (s.preamble lane phase power).cx with win := w } } := by
  unfold State.detect
  extract_lets strong s1
  split
  · split
    · exact ⟨_, rfl⟩
    · extract_lets k
      split
      · exact ⟨_, rfl⟩
      · extract_lets d
        split <;> exact ⟨_, rfl⟩
  · exact ⟨_, rfl⟩

/-- A lane hears a power: ranging can run, a window is open, and the lane serves with more than 12 dB over its floor (R138). -/
def State.Hears (s : State) (lane : Nat) (power : Int) : Prop :=
  s.rangingOk = true ∧ s.phy.window = true ∧ lane < 3 ∧ s.laneUp lane = true ∧ nth 0 s.phy.floors lane + 48 < power

theorem State.not_hears
    (h : s.rangingOk = false ∨ s.phy.window = false ∨ 3 ≤ lane ∨ s.laneUp lane = false ∨ power ≤ nth 0 s.phy.floors lane + 48) :
    ¬s.Hears lane power := by
  rintro ⟨ok, window, serves, up, strong⟩
  obtain h | h | h | h | h := h
  · exact Bool.noConfusion (h.symm.trans ok)
  · exact Bool.noConfusion (h.symm.trans window)
  · exact absurd serves (Nat.not_lt.mpr h)
  · exact Bool.noConfusion (h.symm.trans up)
  · exact absurd strong (Int.not_lt.mpr h)

theorem State.preamble_heard (h : s.Hears lane power) (idle : s.phy.rx = none) :
    s.preamble lane phase power = { s with phy := { s.phy with
      rx := some { lane := lane, phase := phase % 508, at_ := s.now }, detected := satAdd 32 s.phy.detected 1,
      lanes := s.phy.lanes.map (fun x => { x with lost := false }) } } := by
  obtain ⟨ok, window, serves, up, strong⟩ := h
  exact if_pos (by simp [ok, window, idle, serves, up, strong])

theorem State.preamble_unheard (h : ¬s.Hears lane power) : s.preamble lane phase power = s :=
  if_neg fun heard => by
    simp only [Bool.and_eq_true, decide_eq_true_eq] at heard
    obtain ⟨⟨⟨⟨⟨ok, window⟩, -⟩, serves⟩, up⟩, strong⟩ := heard
    exact h ⟨ok, window, serves, up, strong⟩

/-- What is not heard leaves the reply window as it is, too. -/
theorem State.detect_unheard (h : ¬s.Hears lane power) : s.detect lane phase power = s := by
  unfold State.detect
  rw [State.preamble_unheard h]
  extract_lets strong
  have weak : strong = false := by
    rw [← Bool.not_eq_true]
    intro heard
    simp only [strong, Bool.and_eq_true, decide_eq_true_eq] at heard
    obtain ⟨⟨⟨⟨ok, window⟩, serves⟩, up⟩, power⟩ := heard
    exact h ⟨ok, window, serves, up, power⟩
  split
  · exact if_pos (by rw [weak]; rfl)
  · rfl

/-! ## The time-out for the SFD (R138) -/

theorem State.sfdTimeout_idle (idle : s.phy.rx = none) : s.sfdTimeout = s := by rw [State.sfdTimeout, idle]

theorem State.sfdTimeout_early {r : Rx} (rx : s.phy.rx = some r) (early : s.now < r.at_ + 65128) : s.sfdTimeout = s := by
  rw [State.sfdTimeout, rx]
  exact if_pos early

theorem State.sfdTimeout_late {r : Rx} (rx : s.phy.rx = some r) (late : r.at_ + 65128 ≤ s.now) :
    s.sfdTimeout = { s with phy := { s.phy with rx := none, sfdTimeouts := satAdd 32 s.phy.sfdTimeouts 1 } } := by
  rw [State.sfdTimeout, rx]
  exact if_neg (Nat.not_lt.mpr late)

/-! ## A frame that has come to its end (R137, R143) -/

/-- A slot that has heard its frame is noted in the round in progress alone (R185). -/
theorem State.slotHeard_keeps (s : State) : ∃ r, s.slotHeard = { s with cx := { s.cx with round := r } } := by
  unfold State.slotHeard
  split
  · exact ⟨_, rfl⟩
  · split
    · split
      · exact ⟨_, rfl⟩
      · exact ⟨_, rfl⟩
    · exact ⟨_, rfl⟩

/-- The ranging side once a frame has been correlated, before its checks. -/
def State.correlatedPhy (s : State) (f : FrameObs) : Phy :=
  { s.phy with rx := none, correlated := satAdd 32 s.phy.correlated 1, sfdB := satAdd 32 s.phy.sfdB (b2n f.sfdB) }

/-- The carrier lies inside the acquisition range, and the loop followed the residual (R143). -/
def Tracked (f : FrameObs) (chan : Nat) : Prop := carrierOk f.carrier chan = true ∧ f.residual = false

theorem Tracked.not_lost {chan : Nat} (h : Tracked f chan) : ¬(!carrierOk f.carrier chan || f.residual) = true := by
  obtain ⟨carrier, residual⟩ := h
  rw [carrier, residual]
  decide

/-- A frame that passed every check with payload p, as the ranging side q keeps it (R137). -/
structure Delivers (s : State) (f : FrameObs) (p : Bytes) (q : Phy) : Prop where
  frame : ∃ d, q.delivered = some d ∧ d.payload = p ∧ d.sfdB = f.sfdB ∧ d.at_ = s.now ∧ d.co = clockOffset f.carrier s.phy.chan
  payLen : q.payLen = (headerOf f.header).1
  frameChan : q.frameChan = s.phy.chan
  payFails : q.payFails = s.phy.payFails
  hdrFails : q.hdrFails = s.phy.hdrFails

section
variable (rx : s.phy.rx.isSome = true) (ok : s.rangingOk = true)
include rx ok

/-- Whatever its checks come to, the reception is over and counted, and the context table is untouched. -/
theorem State.frameDelivery_correlated : (s.frameDelivery f key ctx).phy.rx = none ∧
    (s.frameDelivery f key ctx).phy.correlated = satAdd 32 s.phy.correlated 1 ∧ (s.frameDelivery f key ctx).cx = s.cx := by
  obtain ⟨r, rx⟩ := Option.isSome_iff_exists.mp rx
  rw [State.frameDelivery, rx, ok]
  dsimp only
  split
  · next stopped => exact absurd stopped Bool.false_ne_true
  · split
    · simp only [State.emit_phy, State.emit_cx, and_self]
    · split
      · exact ⟨rfl, rfl, rfl⟩
      · split
        · exact ⟨rfl, rfl, rfl⟩
        · split
          · exact ⟨rfl, rfl, rfl⟩
          · simp only [State.emitIf_phy, State.emitIf_cx, and_self]

theorem State.frameDelivery_untracked (lost : ¬Tracked f s.phy.chan) :
    (s.frameDelivery f key ctx).phy = { s.correlatedPhy f with trackLost := satAdd 32 s.phy.trackLost 1 } := by
  obtain ⟨r, rx⟩ := Option.isSome_iff_exists.mp rx
  have fails : (!carrierOk f.carrier s.phy.chan || f.residual) = true := by
    rw [← Bool.not_eq_false, Bool.or_eq_false_iff, Bool.not_eq_false']
    exact lost
  rw [State.frameDelivery, rx, ok]
  exact congrArg State.phy ((if_neg Bool.false_ne_true).trans (if_pos fails)) |>.trans (State.emit_phy ..)

section
variable (clear : Tracked f s.phy.chan)
include clear

theorem State.frameDelivery_badHeader (bad : (headerOf f.header).2 = some 1) :
    (s.frameDelivery f key ctx).phy = { s.correlatedPhy f with hdrFails := satAdd 32 s.phy.hdrFails 1 } := by
  obtain ⟨r, rx⟩ := Option.isSome_iff_exists.mp rx
  rw [State.frameDelivery, rx, ok]
  exact congrArg State.phy ((if_neg Bool.false_ne_true).trans ((if_neg clear.not_lost).trans (if_pos bad)))

theorem State.frameDelivery_badVersion (bad : (headerOf f.header).2 = some 2) :
    (s.frameDelivery f key ctx).phy = { s.correlatedPhy f with verRejects := satAdd 32 s.phy.verRejects 1 } := by
  obtain ⟨r, rx⟩ := Option.isSome_iff_exists.mp rx
  rw [State.frameDelivery, rx, ok]
  refine congrArg State.phy ((if_neg Bool.false_ne_true).trans ((if_neg clear.not_lost).trans ((if_neg ?_).trans (if_pos bad))))
  rw [bad]
  decide

section
variable (good : (headerOf f.header).2 = none)
include good

theorem State.frameDelivery_badPayload (bad : payloadOf f.payload (headerOf f.header).1 = none) :
    (s.frameDelivery f key ctx).phy = { s.correlatedPhy f with payFails := satAdd 32 s.phy.payFails 1 } := by
  obtain ⟨r, rx⟩ := Option.isSome_iff_exists.mp rx
  rw [State.frameDelivery, rx, ok]
  dsimp only
  rw [bad]
  refine congrArg State.phy ((if_neg Bool.false_ne_true).trans ((if_neg clear.not_lost).trans ((if_neg ?_).trans (if_neg ?_)))) <;> rw [good] <;> decide

theorem State.frameDelivery_delivers {p : Bytes} (read : payloadOf f.payload (headerOf f.header).1 = some p) :
    Delivers s f p (s.frameDelivery f key ctx).phy := by
  obtain ⟨r, rx⟩ := Option.isSome_iff_exists.mp rx
  rw [State.frameDelivery, rx, ok]
  dsimp only
  rw [read, if_neg (by decide), if_neg clear.not_lost, if_neg (by rw [good]; decide), if_neg (by rw [good]; decide)]
  simp only [State.emitIf_phy]
  exact ⟨⟨_, rfl, rfl, rfl, rfl, rfl⟩, rfl, rfl, rfl, rfl⟩

end

end

end

end

/-- The row delivers the frame that is expected in the slot or window, and notes the slot (R137, R185). -/
theorem exec_frameDelivery {dt : Nat} {f : FrameObs} {s : State} (silent : (s.turn dt).peerListens = false)
    (rx : (s.turn dt).phy.rx.isSome = true) :
    ∃ t key ctx, exec (.frameDelivery dt f) s = .next t ∧ t.phy = ((s.turn dt).frameDelivery f key ctx).phy ∧
      t.cx.rows = ((s.turn dt).frameDelivery f key ctx).cx.rows := by
  have run : exec (.frameDelivery dt f) s =
      finish s ((s.turn dt).frameDelivery f (s.turn dt).expected.1 (s.turn dt).expected.2).slotHeard :=
    congrArg (finish s) ((State.withPeerWindow_silent silent _).trans (if_pos rx))
  obtain ⟨round, heard⟩ := State.slotHeard_keeps ((s.turn dt).frameDelivery f (s.turn dt).expected.1 (s.turn dt).expected.2)
  rw [heard] at run
  exact ⟨_, (s.turn dt).expected.1, (s.turn dt).expected.2, run, rfl, rfl⟩

/-- Settles O34: detection by whether the lane hears, the time-out by one comparison, the frame by the first check that fails. -/
theorem framesAreDetectedAndDecoded : Obligations.FramesAreDetectedAndDecoded := by
  intro s dt u silent
  have detects (lane phase : Nat) (power : Int) : exec (.preambleDetection dt lane phase power) s = finish s (u.detect lane phase power) :=
    congrArg (finish s) (State.withPeerWindow_silent silent _)
  have times : exec (.sfdTimeout dt) s = finish s u.sfdTimeout := congrArg (finish s) (State.withPeerWindow_silent silent _)
  refine ⟨fun lane phase power => ⟨fun out => ?_, fun ok window idle serves up strong => ?_⟩, fun idle => ?_, fun r rx => ⟨fun early => ?_, fun late => ?_⟩,
    fun f idle => ?_, fun f rx ok => ?_⟩
  · rw [detects, State.detect_unheard (State.not_hears out)]
  · obtain ⟨w, keeps⟩ := u.detect_keeps lane phase power
    rw [State.preamble_heard ⟨ok, window, serves, up, strong⟩ idle] at keeps
    rw [detects, keeps]
    exact ⟨_, _, rfl, rfl, rfl, rfl, rfl, rfl, rfl, rfl, rfl⟩
  · rw [times, State.sfdTimeout_idle idle]
  · rw [times, State.sfdTimeout_early rx early]
  · rw [times, State.sfdTimeout_late rx late]
    rfl
  · exact congrArg (finish s) ((State.withPeerWindow_silent silent _).trans (if_neg (by rw [idle]; decide)))
  · obtain ⟨t, key, ctx, run, phy, rows⟩ := exec_frameDelivery (f := f) silent rx
    obtain ⟨ended, counted, context⟩ := State.frameDelivery_correlated (f := f) (key := key) (ctx := ctx) rx ok
    refine ⟨t, run, by rw [phy, ended], by rw [phy, counted]; rfl, by rw [rows, context], ?_⟩
    rw [phy]
    refine ⟨fun lost => ?_, fun clear bad => ?_, fun clear bad => ?_, fun clear good bad => ?_, fun p clear good read => ?_⟩
    · rw [State.frameDelivery_untracked rx ok lost]
      exact ⟨rfl, rfl⟩
    · rw [State.frameDelivery_badHeader rx ok clear bad]
      exact ⟨rfl, rfl⟩
    · rw [State.frameDelivery_badVersion rx ok clear bad]
      exact ⟨rfl, rfl⟩
    · rw [State.frameDelivery_badPayload rx ok clear good bad]
      exact ⟨rfl, rfl⟩
    · obtain ⟨⟨d, delivered, payload, kind, time, co⟩, len, chan, pay, hdr⟩ := State.frameDelivery_delivers (key := key) (ctx := ctx) rx ok clear good read
      exact ⟨d, delivered, payload, kind, time, co, len, chan, pay, hdr⟩

end Sys2Proof.Machine
end

section
/-! SUPPORT. The rows of the context table: what is read after a row is set or found FREE, and what position bins, invalid replies and
the end of a session leave alone (R168 to R171, R185). -/

namespace Sys2Proof.Machine
open Sys2Proof

/-! ## Rows -/

theorem State.row_congr {s t : State} (h : t.cx.rows = s.cx.rows) (i : Nat) : t.row i = s.row i := by rw [State.row, State.row, h]

theorem State.row_setRow_same (s : State) (n : Nat) {r : Row} (listed : r.st ≠ 0) : (s.setRow n r).row n = r := by
  rw [State.row, State.setRow, if_neg listed, kvGet_kvPut_same]

theorem State.row_setRow_other (s : State) {n i : Nat} (r : Row) (other : i ≠ n) : (s.setRow n r).row i = s.row i := by
  rw [State.row, State.setRow, State.row]
  dsimp only
  split
  · exact kvGet_kvDel_other _ _ _ _ other
  · exact kvGet_kvPut_other _ _ _ _ _ other

theorem State.row_of_mem {s : State} {e : Nat × Row} (h : e ∈ s.rows) : s.row e.1 = e.2 := by
  have held : kvGet? s.cx.rows e.1 = some e.2 := eq_of_beq (List.mem_filter.mp h).2
  rw [State.row, kvGet, held, Option.getD_some]

theorem State.row_of_freeRow {s : State} {n : Nat} (h : s.freeRow = some n) : s.row n = {} := by
  have none_ : kvGet? s.cx.rows n = none := Option.isNone_iff_eq_none.mp (List.find?_some h :)
  rw [State.row, kvGet, none_, Option.getD_none]

/-! ## Position bins (R169) -/

theorem State.binCount_cx (s : State) (b : Nat) : ∃ l, (s.binCount b).cx = { s.cx with bins := l } := by
  unfold State.binCount
  extract_lets w l
  split
  · next c s1 p many =>
    have emptied : s1.cx = { s.cx with bins := kvDel s.cx.bins b } := State.emit_cx ..
    split <;> exact ⟨_, emptied⟩
  · exact ⟨_, rfl⟩

/-! ## Invalid replies (R168) -/

/-- A pass that keeps what it holds or takes the present member's value ends with what it began with, or with a member's value. -/
theorem foldl_picks {α β : Type} {f : Option β → α → Option β} {g : α → β} (h : ∀ b a q, f b a = some q → b = some q ∨ q = g a)
    (l : List α) (b : Option β) {q : β} (last : l.foldl f b = some q) : b = some q ∨ ∃ a ∈ l, q = g a := by
  induction l generalizing b with
  | nil => exact .inl last
  | cons a r ih =>
    obtain held | ⟨c, mem, taken⟩ := ih (f b a) last
    · exact (h b a q held).imp_right fun taken => ⟨a, List.mem_cons_self, taken⟩
    · exact .inr ⟨c, List.mem_cons_of_mem a mem, taken⟩

theorem State.shadow_of_mem {s : State} {e : Nat × Row} (h : e ∈ s.rows.filter (fun e => e.2.st == 4)) : (s.row e.1).st = 4 := by
  obtain ⟨mem, shadow⟩ := List.mem_filter.mp h
  rw [State.row_of_mem mem]
  exact eq_of_beq shadow

/-- An invalid reply is noted in a row that is FREE or a SHADOW. -/
theorem State.shadowRow_spare {s : State} {id : Bytes} {n : Nat} (h : s.shadowRow id = some n) : (s.row n).st = 0 ∨ (s.row n).st = 4 := by
  unfold State.shadowRow at h
  extract_lets shadows at h
  split at h
  · next e found =>
    cases h
    exact .inr (State.shadow_of_mem (List.mem_of_find?_eq_some found))
  · next oldest _ none_ =>
    have old : oldest = some n → (s.row n).st = 4 := by
      intro held
      obtain ⟨q, last, rfl⟩ := Option.map_eq_some_iff.mp held
      obtain no | ⟨e, mem, rfl⟩ := foldl_picks (g := fun e => (e.1, e.2.seen)) (by
        intro b e q taken
        split at taken
        · split at taken
          · exact .inr (Option.some_inj.mp taken.symm)
          · exact .inl taken
        · exact .inr (Option.some_inj.mp taken.symm)) _ _ last
      · cases no
      · exact State.shadow_of_mem mem
    split at h
    · split at h
      · next m free =>
        cases h
        exact .inl (by rw [State.row_of_freeRow free])
      · exact .inr (old h)
    · exact .inr (old h)

theorem State.replyInvalid_counts (s : State) (id : Bytes) (cause bin : Nat) :
    (s.replyInvalid id cause bin).cx.invalid = min (s.cx.invalid + 1) (2 ^ 32 - 1) := by
  unfold State.replyInvalid
  extract_lets c s1 s2
  obtain ⟨l, binned⟩ := s2.binCount_cx bin
  have kept : s2.cx.invalid = s1.cx.invalid := by
    simp only [s2]
    split
    · rw [State.emit_cx]
      rfl
    · rw [State.emit_cx]
  rw [binned]
  exact kept

/-- An invalid reply touches only FREE and SHADOW rows. -/
theorem State.replyInvalid_row (s : State) (id : Bytes) (cause bin : Nat) {i : Nat} (used : (s.row i).st ≠ 0) (own : (s.row i).st ≠ 4) :
    (s.replyInvalid id cause bin).row i = s.row i := by
  unfold State.replyInvalid
  extract_lets c s1 s2
  obtain ⟨l, binned⟩ := s2.binCount_cx bin
  have kept : s2.row i = s.row i := by
    simp only [s2]
    split
    · next n spare =>
      have other : i ≠ n := by
        rintro rfl
        obtain free | shadow := State.shadowRow_spare spare
        · exact used free
        · exact own shadow
      exact (State.row_congr (congrArg Ctx.rows (State.emit_cx ..)) i).trans (s1.row_setRow_other _ other)
    · exact State.row_congr (congrArg Ctx.rows (State.emit_cx ..)) i
  exact (State.row_congr (by rw [binned]) i).trans kept

/-! ## The end of a session (R185) -/

/-- What the end of the session in row n leaves of a state: the row returns to KNOWN where it was ACTIVE, and no other row, the ranging side and the
stored objects do not change. -/
structure SessionEnds (s : State) (n : Nat) (t : State) : Prop where
  known : (s.row n).st = 3 → (t.row n).st = 1
  others : ∀ i, i ≠ n → t.row i = s.row i
  phy : t.phy = s.phy
  objs : t.rr.objs = s.rr.objs

theorem State.sessionEnd_ends (s : State) (n cause : Nat) : SessionEnds s n (s.sessionEnd n cause) := by
  unfold State.sessionEnd
  extract_lets r
  split
  · next idle => exact ⟨fun active => absurd active idle, fun _ _ => rfl, rfl, rfl⟩
  · next s1 cut rd c s2 active =>
    have same (i : Nat) : (s2.emit 0x07 0x2C02 (n + 256 * cause)).row i = s1.row i := State.row_congr (congrArg Ctx.rows (State.emit_cx ..)) i
    exact ⟨fun _ => by rw [same, s.row_setRow_same n Nat.one_ne_zero], fun i other => (same i).trans (s.row_setRow_other _ other), State.emit_phy ..,
      State.emit_rr_objs ..⟩

end Sys2Proof.Machine
end

section
/-! SUPPORT. Replies in an open window: the first check that fails, and the row that waits with a reply's MAC check (R166 to R168, R171). -/

namespace Sys2Proof.Machine
open Sys2Proof

/-- The state that has taken the delivered frame of slot k of its reply window (R166). -/
def State.replyTaken (s : State) (w : ReplyWin) (k : Nat) : State :=
  { s with phy := { s.phy with delivered := none }, cx := { s.cx with win := some { w with good := w.good ++ [k] } } }

/-- The state that counts the frame taken as a reply (R166). -/
def State.replyCounted (s : State) (w : ReplyWin) (k : Nat) : State :=
  let v := s.replyTaken w k
  { v with cx := { v.cx with delivered := min (v.cx.delivered + 1) (2 ^ 32 - 1) } }

/-- A payload that has the kind, version and length of a REPLY (R162). -/
def ReplyForm (p : Bytes) : Prop := p.getD 0 0 = 0x11 ∧ p.getD 1 0 = 0x01 ∧ p.length = 56

/-- The cause of the first of checks 1 to 5 that a reply fails, 0 where it passes them all (R167). -/
def State.replyCause (s : State) (w : ReplyWin) (e : Epoch) (k : Nat) (p : Bytes) : Nat :=
  let id := slice 2 8 p
  if (p.getD 18 0).toNat ≠ e.counter then 1
  else if replySlot id e.nonce w.slots ≠ k then 2
  else match s.pairEntry id with
    | none => 3
    | some q => if idKind id ≠ (if w.peer then 2 else 1) then 3 else if q.2 ≠ 1 then 4 else if w.valid.contains id then 5 else 0

theorem replyForm_not (p : Bytes) : (!(p.getD 0 0 == 0x11 && p.getD 1 0 == 0x01 && p.length == 56)) = true ↔ ¬ReplyForm p := by
  simp only [ReplyForm, Bool.not_eq_true', ← Bool.not_eq_true, Bool.and_eq_true, beq_iff_eq, and_assoc]

section
variable {s : State} {w : ReplyWin} {e : Epoch} {k : Nat} {p : Bytes}

theorem State.replyCause_stale (wrong : (p.getD 18 0).toNat ≠ e.counter) : s.replyCause w e k p = 1 := if_pos wrong

variable (counter : (p.getD 18 0).toNat = e.counter)
include counter

theorem State.replyCause_wrongSlot (wrong : replySlot (slice 2 8 p) e.nonce w.slots ≠ k) : s.replyCause w e k p = 2 :=
  (if_neg (not_not.mpr counter)).trans (if_pos wrong)

variable (slot : replySlot (slice 2 8 p) e.nonce w.slots = k)
include slot

theorem State.replyCause_unknown (none_ : s.pairEntry (slice 2 8 p) = none) : s.replyCause w e k p = 3 := by
  refine (if_neg (not_not.mpr counter)).trans ((if_neg (not_not.mpr slot)).trans ?_)
  rw [none_]

section
variable {q : Nat × Nat} (entry : s.pairEntry (slice 2 8 p) = some q)
include entry

/-- Checks 3 to 5 of an ID that has an entry. -/
theorem State.replyCause_listed :
    s.replyCause w e k p = if idKind (slice 2 8 p) ≠ (if w.peer then 2 else 1) then 3 else if q.2 ≠ 1 then 4 else
      if w.valid.contains (slice 2 8 p) then 5 else 0 := by
  refine (if_neg (not_not.mpr counter)).trans ((if_neg (not_not.mpr slot)).trans ?_)
  rw [entry]

variable (own : idKind (slice 2 8 p) = if w.peer then 2 else 1)
include own

theorem State.replyCause_revoked (revoked : q.2 ≠ 1) : s.replyCause w e k p = 4 :=
  (State.replyCause_listed counter slot entry).trans ((if_neg (not_not.mpr own)).trans (if_pos revoked))

/-- Check 5 of an ID that is paired. -/
theorem State.replyCause_paired (paired : q.2 = 1) : s.replyCause w e k p = if w.valid.contains (slice 2 8 p) then 5 else 0 :=
  (State.replyCause_listed counter slot entry).trans ((if_neg (not_not.mpr own)).trans (if_neg (not_not.mpr paired)))

end

end

/-- The search for the row in which an ID is KNOWN, PENDING or ACTIVE. -/
def State.rowOfId (s : State) (id : Bytes) : Option Nat := s.findRow (fun r => r.id == id && (r.st == 1 || r.st == 2 || r.st == 3))

/-- How a state x comes to hold the row of an ID whose MAC check waits, and the row that the check notes (R171): a session keeps its row, a KNOWN row
becomes PENDING, a new ID takes the lowest FREE row, and none where no row is FREE. -/
inductive PendingRow (x : State) (id : Bytes) : State → Option Nat → Prop where
  | active (n : Nat) : x.rowOfId id = some n → PendingRow x id x none
  | known (n : Nat) : x.rowOfId id = some n → (x.row n).st ≠ 3 → PendingRow x id (x.setRow n { x.row n with st := 2 }) (some n)
  | taken (n : Nat) : x.rowOfId id = none → x.freeRow = some n →
      PendingRow x id (x.setRow n { st := 2, kind := idKind id, id := id, seen := x.ms % 2 ^ 32 }) (some n)
  | full : x.rowOfId id = none → x.freeRow = none → PendingRow x id x none

section
variable {x t : State} {id : Bytes} {n : Option Nat} (h : PendingRow x id t n)
include h

/-- Only rows move. -/
theorem PendingRow.rows_only : ∃ l, t = { x with cx := { x.cx with rows := l } } := by
  cases h <;> exact ⟨_, rfl⟩

/-- A row that holds a session stays as it is. -/
theorem PendingRow.row_active {i : Nat} (active : (x.row i).st = 3) : t.row i = x.row i := by
  cases h with
  | active | full => rfl
  | known n _ idle => exact x.row_setRow_other _ fun same => idle (same ▸ active)
  | taken n _ free =>
    refine x.row_setRow_other _ fun same => ?_
    rw [same, State.row_of_freeRow free] at active
    exact absurd active (by decide)

/-- An ID without a row becomes PENDING in the lowest FREE one. -/
theorem PendingRow.row_taken (new : x.rowOfId id = none) {i : Nat} (free : x.freeRow = some i) :
    n = some i ∧ (t.row i).st = 2 ∧ (t.row i).id = id ∧ (t.row i).kind = idKind id := by
  cases h with
  | active _ own | known _ own => exact absurd (new.symm.trans own) (by simp)
  | full _ none_ => exact absurd (free.symm.trans none_) (by simp)
  | taken m _ free' =>
    obtain rfl : i = m := Option.some_inj.mp (free.symm.trans free')
    rw [x.row_setRow_same i (Nat.succ_ne_zero 1)]
    exact ⟨rfl, rfl, rfl, rfl⟩

end

/-- The negated guard of a frame that is taken, at a state in service. -/
theorem serving_not {s : State} {v : Nat} (on : s.powered = true) (serves : s.serving v = true) : ¬(!(s.powered && s.serving v)) = true := by
  rw [on, serves]
  decide

/-- What comes of a reply that counts as delivered in a state x, where a cause is the first check it fails or 0 (R167, R168, R171). -/
inductive ReplyOutcome (x : State) (p : Bytes) (bin cause : Nat) : State → Prop where
  | refused : cause ≠ 0 → ReplyOutcome x p bin cause (x.replyInvalid (slice 2 8 p) cause bin)
  | untrusted : cause = 0 → x.trustKeys = false → ReplyOutcome x p bin cause x
  | waits {t : State} {m : MacWait} : cause = 0 → x.trustKeys = true → PendingRow x (slice 2 8 p) t m.row → m.reply = p → m.bin = bin →
      ReplyOutcome x p bin cause (t.pushMac m)

section
variable {x t : State} {p : Bytes} {bin cause : Nat} (h : ReplyOutcome x p bin cause t)
include h

theorem ReplyOutcome.invalid {c : Nat} (first : cause = c) (fails : c ≠ 0) : t = x.replyInvalid (slice 2 8 p) c bin := by
  subst first
  cases h with
  | refused => rfl
  | untrusted passes | waits passes => exact absurd passes fails

theorem ReplyOutcome.waiting (passes : cause = 0) (trust : x.trustKeys = true) :
    ∃ y m, t = y.pushMac m ∧ PendingRow x (slice 2 8 p) y m.row ∧ m.reply = p ∧ m.bin = bin := by
  cases h with
  | refused fails => exact absurd passes fails
  | untrusted _ lost => exact absurd (trust.symm.trans lost) (by decide)
  | waits _ _ row reply bin => exact ⟨_, _, rfl, row, reply, bin⟩

end

theorem State.reply_idle {s : State} (h : s.phy.delivered = none ∨ s.cx.win = none) : s.reply = s := by
  unfold State.reply
  split
  · next d w heard win => simp [heard, win] at h
  · rfl

section
variable {s : State} {d : DFrame} {w : ReplyWin} (heard : s.phy.delivered = some d) (win : s.cx.win = some w) (on : s.powered = true)
  (serves : s.serving 0x07 = true)
include heard win on serves

/-- A frame of a slot with a second detection gives nothing (R166). -/
theorem State.reply_collided (twice : w.twice.contains (s.frameSlot w d) = true) : s.reply = s.replyTaken w (s.frameSlot w d) := by
  unfold State.reply
  rw [heard, win]
  exact (if_neg (serving_not on serves)).trans (if_pos twice)

section
variable (once : w.twice.contains (s.frameSlot w d) = false)
include once

/-- A frame of another kind, version or length is only counted (R166). -/
theorem State.reply_malformed (bad : ¬ReplyForm d.payload) :
    s.reply = { s.replyTaken w (s.frameSlot w d) with cx := { (s.replyTaken w (s.frameSlot w d)).cx with
      discarded := min ((s.replyTaken w (s.frameSlot w d)).cx.discarded + 1) (2 ^ 32 - 1) } } := by
  unfold State.reply
  rw [heard, win]
  exact (if_neg (serving_not on serves)).trans ((if_neg (ne_true_of_eq_false once)).trans (if_pos ((replyForm_not _).mpr bad)))

/-- A reply counts as delivered, and the first failed check or the wait for its MAC check follows. -/
theorem State.reply_outcome (form : ReplyForm d.payload) {e : Epoch} (epoch : s.epochOf w.peer = some e) :
    ReplyOutcome (s.replyCounted w (s.frameSlot w d)) d.payload ((s.replyCounted w (s.frameSlot w d)).frameBin d.lanes)
      (s.replyCause w e (s.frameSlot w d) d.payload) s.reply := by
  unfold State.reply
  rw [heard, win]
  dsimp -zeta only
  extract_lets idle s0 k taken s1 p counted s2 id bin was gain
  have serving : ¬(!(s0.powered && s0.serving 0x07)) = true := serving_not on serves
  have current : s2.epochOf w.peer = some e := epoch
  have apart : ¬w.twice.contains k = true := ne_true_of_eq_false once
  rw [if_neg serving, if_neg apart, if_neg fun bad => (replyForm_not p).mp bad form, current]
  change ReplyOutcome s2 p bin (s2.replyCause w e k p) _
  clear_value s2 bin p was gain k
  dsimp only
  clear heard win on serves once form epoch serving current s0 s1 taken counted idle
  split
  · next wrong =>
    rw [State.replyCause_stale wrong]
    exact .refused (by decide)
  next counter =>
  replace counter := not_not.mp counter
  split
  · next wrong =>
    rw [State.replyCause_wrongSlot counter wrong]
    exact .refused (by decide)
  next slot =>
  replace slot := not_not.mp slot
  split
  · next none_ =>
    rw [State.replyCause_unknown counter slot none_]
    exact .refused (by decide)
  next q paired =>
  rw [State.replyCause_listed counter slot paired]
  by_cases other : idKind id ≠ if w.peer then 2 else 1
  · rw [if_pos other, if_pos other]
    exact .refused (by decide)
  rw [if_neg other, if_neg other]
  split
  · exact .refused (by decide)
  split
  · exact .refused (by decide)
  split
  · next lost => exact .untrusted rfl (by simpa using lost)
  next trust =>
  replace trust : s2.trustKeys = true := by simpa using trust
  split
  · next n own =>
    split
    · exact .waits rfl trust (.active n own) rfl rfl
    · next idle => exact .waits rfl trust (.known n own idle) rfl rfl
  · next none_ =>
    split
    · next n free => exact .waits rfl trust (.taken n none_ free) rfl rfl
    · next full => exact .waits rfl trust (.full none_ full) rfl rfl

end

end

/-- Settles O38: the frame by its slot and form, the reply by the first check that fails, and its row by what the ID holds. -/
theorem repliesPassTheirChecksInOrder : Obligations.RepliesPassTheirChecksInOrder := by
  refine ⟨fun s dt => ?_, fun s id cause bin => ⟨s.replyInvalid_counts id cause bin, fun i used => s.replyInvalid_row id cause bin (by omega) (by omega)⟩⟩
  intro u
  have run : exec (.reply dt) s = finish s u.reply := rfl
  rw [run]
  clear_value u
  refine ⟨fun idle => congrArg (finish s) (State.reply_idle idle), fun d w heard win on serves => ?_⟩
  intro k p id v x bin form
  refine ⟨fun twice => congrArg (finish s) (State.reply_collided heard win on serves twice),
    fun once bad => congrArg (finish s) (State.reply_malformed heard win on serves once bad), fun e once ok epoch => ?_⟩
  have outcome := State.reply_outcome heard win on serves once ok epoch
  have refused {cause : Nat} (first : u.replyCause w e k p = cause) (fails : cause ≠ 0) : finish s u.reply = finish s (x.replyInvalid id cause bin) :=
    congrArg (finish s) (outcome.invalid first fails)
  refine ⟨fun wrong => refused (State.replyCause_stale wrong) (by decide),
    fun counter wrong => refused (State.replyCause_wrongSlot counter wrong) (by decide), fun counter slot =>
    ⟨fun none_ => refused (State.replyCause_unknown counter slot none_) (by decide), fun n st entry => ?_⟩⟩
  intro kind
  refine ⟨fun other => refused ((State.replyCause_listed counter slot entry).trans (if_pos other)) (by decide),
    fun own revoked => refused (State.replyCause_revoked counter slot entry own revoked) (by decide),
    fun own paired again => refused ((State.replyCause_paired counter slot entry own paired).trans (if_pos again)) (by decide),
    fun own paired first trust => ?_⟩
  have passes : u.replyCause w e k p = 0 := (State.replyCause_paired counter slot entry own paired).trans (if_neg (ne_true_of_eq_false first))
  obtain ⟨t, m, run, row, reply, binned⟩ := outcome.waiting passes trust
  obtain ⟨l, rows⟩ := row.rows_only
  refine ⟨_, { m with queued := decide ((t.cx.macs.filter (·.queued)).length < 64) }, congrArg (finish s) run, ?_⟩
  subst rows
  refine ⟨rfl, reply, binned, rfl, rfl, rfl, rfl, rfl, fun i active => row.row_active active, fun new i free => ?_⟩
  obtain ⟨n, st, id, kind⟩ := row.row_taken new free
  exact ⟨n, st, id, kind.trans own⟩

end Sys2Proof.Machine
end

section
/-! SUPPORT. Rounds: when one starts and which sessions it lists, what each of its slots sends or receives, and when it ends (R175 to R180, R195). -/

namespace Sys2Proof.Machine
open Sys2Proof

/-! ## The start of a round (R174 to R177) -/

theorem takeDistinct_length (n : Nat) (l : List (Nat × Row)) (seen : List Nat) : (takeDistinct n l seen).length ≤ n := by
  induction l generalizing n seen with
  | nil => cases n <;> exact Nat.zero_le _
  | cons q r ih =>
    cases n with
    | zero => exact Nat.zero_le _
    | succ n =>
      unfold takeDistinct
      split
      · exact ih (n + 1) seen
      · exact Nat.succ_le_succ (ih n _)

theorem govSessions_le (level : Nat) : govSessions level ≤ 32 := by
  unfold govSessions
  split_ifs <;> decide

/-- A round lists no more sessions than its configuration allows, and never more than 32 (R177, R245). -/
theorem State.roundRows_length (s : State) (peer : Bool) (e : Epoch) (start : Nat) :
    (s.roundRows peer e start).length ≤ min 32 (s.conf 0x2C03 0x2C03 4) := by
  have listed : (s.roundRows peer e start).length ≤ min (s.conf 0x2C03 0x2C03 4) (govSessions s.pol.gov) := takeDistinct_length _ _ _
  have governed := govSessions_le s.pol.gov
  omega

theorem State.locSnapshot_cx (s : State) : s.locSnapshot.cx = s.cx := by
  unfold State.locSnapshot
  extract_lets s1 m c
  have snap : s1.cx = s.cx := State.snapshot_cx ..
  split
  · exact snap
  · split
    · exact (State.emit_cx ..).trans snap
    · exact (State.emit_cx ..).trans snap

/-- The snapshots that a round takes before it starts (R22). -/
def State.roundSnapshots (s : State) : State := s.phySnapshots.cxSnapshot.locSnapshot

theorem State.roundSnapshots_cx (s : State) : s.roundSnapshots.cx = s.cx :=
  (State.locSnapshot_cx _).trans ((State.snapshot_cx ..).trans (KeepsField.phySnapshots s).cx)

theorem State.epochOf_setEpoch (s : State) (peer : Bool) (e : Option Epoch) : (s.setEpoch peer e).epochOf peer = e := by
  cases peer <;> rfl

/-- A pass that sets rows moves rows alone. -/
theorem State.foldl_setRow (f : State → Nat × Row → Row) (l : List (Nat × Row)) (s : State) :
    ∃ m, l.foldl (fun t q => t.setRow q.1 (f t q)) s = { s with cx := { s.cx with rows := m } } := by
  induction l generalizing s with
  | nil => exact ⟨_, rfl⟩
  | cons q r ih =>
    obtain ⟨m, rest⟩ := ih (s.setRow q.1 (f s q))
    exact ⟨m, rest⟩

/-- The start of the slot of a round's grid in which a time lies, from the round's due time. -/
def roundStartAt (due now : Nat) : Nat := due + (now - due) / 400000 * 400000

theorem roundStartAt_next {due now : Nat} (past : due ≤ now) : now < roundStartAt due now + 400000 := by
  unfold roundStartAt
  omega

/-- The round r, started in a state b that has taken its snapshots, in the state t that it leaves (R175 to R177). -/
structure RoundBegins (b : State) (peer : Bool) (e : Epoch) (start : Nat) (t : State) (r : Round) : Prop where
  round : t.cx.round = some r
  number : r.number = e.next
  at_ : r.start = start
  own : r.peer = peer
  begun : r.begun = 0
  krd : r.krd = e.krd
  full : r.full = true ↔ e.next = 0 ∨ b.pol.pend ≠ []
  rows : r.ss.map (·.row) = (b.roundRows peer e start).map (·.1)
  running : t.phy.round = true
  epoch : ∃ e', t.epochOf peer = some e' ∧ e'.next = e.next + 1

/-- The guard of a round that may start: it is due, nothing is in its way, and what it needs serves. -/
theorem State.roundMayStart {s : State} {e : Epoch} {due : Nat} (past : due ≤ s.now) (idle : s.cx.round = none) (owes : s.owesTractor = false)
    (key : e.krd ≠ []) (ranges : s.rangingOk = true) (serves : s.serving 0x07 = true) (trust : s.trustKeys = true) :
    ¬(decide (s.now < due) || s.cx.round.isSome || s.owesTractor || e.krd.isEmpty || !(s.rangingOk && s.serving 0x07 && s.trustKeys)) = true := by
  simp [past, idle, owes, key, ranges, serves, trust]

section
variable {s : State} {peer : Bool}

theorem State.roundFor_none (none_ : s.epochOf peer = none) : s.roundFor peer = s := by
  unfold State.roundFor
  rw [none_]

section
variable {e : Epoch} (epoch : s.epochOf peer = some e)
include epoch

theorem State.roundFor_waits (h : e.due = none ∨ e.krd = [] ∨ s.cx.round.isSome = true ∨ s.owesTractor = true ∨ ∃ d, e.due = some d ∧ s.now < d) :
    s.roundFor peer = s := by
  unfold State.roundFor
  rw [epoch]
  dsimp -zeta only
  cases due : e.due with
  | none => rfl
  | some d =>
    refine if_pos ?_
    rw [due] at h
    rcases h with h | h | h | h | ⟨_, h, early⟩
    · cases h
    · simp [h]
    · simp [h]
    · simp [h]
    · cases h
      simp [early]

section
variable {due : Nat} (dueAt : e.due = some due) (past : due ≤ s.now) (idle : s.cx.round = none) (owes : s.owesTractor = false) (key : e.krd ≠ [])
  (ranges : s.rangingOk = true) (serves : s.serving 0x07 = true) (trust : s.trustKeys = true)
include dueAt past idle owes key ranges serves trust

/-- A round that is due and finds no session moves the due time on, past the present time (R177). -/
theorem State.roundFor_empty (none_ : s.roundSnapshots.roundRows peer e (roundStartAt due s.now) = []) :
    ∃ d p, s.now < d ∧ s.roundFor peer = s.roundSnapshots.setEpoch peer (some { e with due := some d, prevAt := p }) := by
  unfold State.roundFor
  rw [epoch]
  dsimp -zeta only
  rw [dueAt]
  dsimp -zeta only
  rw [if_neg (State.roundMayStart past idle owes key ranges serves trust)]
  extract_lets s1 start l n full gap nextAt last
  replace none_ : n = 0 := congrArg List.length none_
  have later : s.now < nextAt := by
    have grid : s.now < start + 400000 := roundStartAt_next past
    have slot : 1 ≤ gap := by
      simp only [gap, none_, if_true, roundGap]
      exact Nat.le_max_right _ _
    calc s.now < start + 1 * slotNs := grid
      _ ≤ nextAt := Nat.add_le_add_left (Nat.mul_le_mul_right _ slot) _
  exact ⟨_, _, later, if_pos none_⟩

/-- A round that is due and finds sessions starts with them (R177). -/
theorem State.roundFor_begins (some_ : s.roundSnapshots.roundRows peer e (roundStartAt due s.now) ≠ []) :
    ∃ r, RoundBegins s.roundSnapshots peer e (roundStartAt due s.now) (s.roundFor peer) r := by
  unfold State.roundFor
  rw [epoch]
  dsimp -zeta only
  rw [dueAt]
  dsimp -zeta only
  rw [if_neg (State.roundMayStart past idle owes key ranges serves trust)]
  extract_lets s1 start l n full gap nextAt last ss r s2 s3
  have found : ¬n = 0 := fun h => some_ (List.eq_nil_of_length_eq_zero h)
  obtain ⟨m, marked⟩ : ∃ m, s3 = { s2 with cx := { s2.cx with rows := m } } :=
    State.foldl_setRow (fun t q => { t.row q.1 with listed := start }) l s2
  have epochs : s3.epochOf peer = s2.epochOf peer := by
    rw [marked, State.epochOf, State.epochOf]
  have next : s2.epochOf peer = some { e with next := e.next + 1, prevAt := start, due := if last then none else some nextAt } :=
    State.epochOf_setEpoch s1 peer _
  have pending : r.full = (e.next == 0 || s.roundSnapshots.decisionPending) := rfl
  have rows : r.ss.map (·.row) = l.map (·.1) := (List.map_map ..).trans rfl
  rw [if_neg found]
  clear_value s3
  refine ⟨r, rfl, rfl, rfl, rfl, rfl, rfl, ?_, rows, rfl, ?_⟩
  · rw [pending, Bool.or_eq_true, beq_iff_eq, State.decisionPending, Bool.not_eq_true', List.isEmpty_eq_false_iff]
  · exact ⟨_, epochs.trans next, rfl⟩

end
end
end

/-- Without a peer epoch only a token round starts (R177). -/
theorem State.roundStart_token {s : State} (noPeer : (s.roundFor false).cx.pep = none) : s.roundStart = s.roundFor false := by
  unfold State.roundStart
  dsimp only
  split
  · rfl
  · exact State.roundFor_none (peer := true) noPeer

section
variable {s : State} {e : Epoch} {due : Nat} (epoch : s.cx.ep = some e) (dueAt : e.due = some due) (past : due ≤ s.now)
  (idle : s.cx.round = none) (owes : s.owesTractor = false) (key : e.krd ≠ []) (ranges : s.rangingOk = true) (serves : s.serving 0x07 = true)
  (trust : s.trustKeys = true)
include epoch dueAt past idle owes key ranges serves trust

theorem State.roundStart_empty (noPeer : s.cx.pep = none) (none_ : s.roundSnapshots.roundRows false e (roundStartAt due s.now) = []) :
    ∃ t e', s.roundStart = t ∧ t.cx.round = none ∧ t.cx.ep = some e' ∧ e'.next = e.next ∧ (∃ d, e'.due = some d ∧ s.now < d) ∧ t.cx.rows = s.cx.rows := by
  obtain ⟨d, p, later, run⟩ := State.roundFor_empty (peer := false) epoch dueAt past idle owes key ranges serves trust none_
  have cx := s.roundSnapshots_cx
  generalize s.roundSnapshots = b at run cx
  have only : s.roundStart = s.roundFor false := State.roundStart_token (by rw [run]; exact (congrArg Ctx.pep cx).trans noPeer)
  exact ⟨_, _, only.trans run, (congrArg Ctx.round cx).trans idle, rfl, rfl, ⟨d, rfl, later⟩, (congrArg Ctx.rows cx : b.cx.rows = s.cx.rows)⟩

theorem State.roundStart_begins (some_ : s.roundSnapshots.roundRows false e (roundStartAt due s.now) ≠ []) :
    ∃ r, RoundBegins s.roundSnapshots false e (roundStartAt due s.now) s.roundStart r := by
  obtain ⟨r, begins⟩ := State.roundFor_begins (peer := false) epoch dueAt past idle owes key ranges serves trust some_
  have first : s.roundStart = s.roundFor false := if_pos (by rw [begins.round]; rfl)
  exact ⟨r, first ▸ begins⟩

end

/-! ## The slots of a round (R175, R176, R179, R180) -/

theorem State.setGain_keeps (s : State) (g : Nat) : (s.setGain g).cx = s.cx ∧ (s.setGain g).phy.tx = s.phy.tx := by
  unfold State.setGain
  split <;> exact ⟨rfl, rfl⟩

/-- In t the device sends a payload in the present slot of a round: with SFD_B, under the round key, its first chip 20 us after the slot's start. -/
def RoundSends (s : State) (r : Round) (payload : Bytes) (t : State) : Prop :=
  ∃ f, t.phy.tx = some f ∧ f.sfdB = true ∧ f.key = r.krd ∧ f.payload = payload ∧ f.idx = s.slotIdx r r.begun ∧ t.phy.window = false

/-- The present slot of the round r begins in a state s and leaves t with the round q: slot 0 sends the POLL, slot N + 1 the FINAL, and the others
listen. -/
structure SlotBegins (s : State) (r : Round) (t : State) (q : Round) : Prop where
  round : t.cx.round = some q
  begun : q.begun = r.begun + 1
  number : q.number = r.number
  rows : t.cx.rows = s.cx.rows
  poll : r.begun = 0 → RoundSends s r (q.poll s.vehicleBytes) t
  final : r.begun = r.ss.length + 1 → RoundSends s r (q.final s.vehicleBytes) t
  listens : r.begun ≠ 0 → r.begun ≠ r.ss.length + 1 → t.phy.window = true ∧ t.phy.tx = s.phy.tx

section
variable {s : State} {r : Round}

theorem State.roundSlot_waits (h : roundSlots r.ss.length r.full ≤ r.begun ∨ s.now < r.start + r.begun * 400000) : s.roundSlot r = s :=
  if_pos ((Bool.or_eq_true _ _).mpr (h.imp decide_eq_true decide_eq_true))

theorem State.roundSlot_begins (more : r.begun < roundSlots r.ss.length r.full) (due : r.start + r.begun * 400000 ≤ s.now)
    (ranges : s.rangingOk = true) : ∃ q, SlotBegins s r (s.roundSlot r) q := by
  unfold State.roundSlot
  extract_lets k n silent s0 stamp off pollSs pollRound pollState sent finalSs finalRound finalState sent' g heard listens window
  have runs : ¬(decide (roundSlots n r.full ≤ k) || decide (s.now < r.start + k * slotNs)) = true := by
    rw [Bool.or_eq_true, decide_eq_true_eq, decide_eq_true_eq, not_or, Nat.not_le, Nat.not_lt]
    exact ⟨more, due⟩
  have rangesNow : ¬(!s0.rangingOk) = true := by
    rw [show s0.rangingOk = true from ranges]
    decide
  rw [if_neg runs, if_neg rangesNow]
  by_cases first : k = 0
  · rw [if_pos first]
    exact ⟨pollRound, rfl, congrArg (· + 1) first.symm, rfl, rfl, fun _ => ⟨_, rfl, rfl, rfl, rfl, congrArg (s.slotIdx r) first.symm, rfl⟩,
      fun last => absurd (first.symm.trans last) (Nat.succ_ne_zero _).symm, fun other => absurd first other⟩
  rw [if_neg first]
  by_cases last : k = n + 1
  · rw [if_pos last]
    exact ⟨finalRound, rfl, rfl, rfl, rfl, fun now => absurd now first, fun _ => ⟨_, rfl, rfl, rfl, rfl, rfl, rfl⟩, fun _ other => absurd last other⟩
  rw [if_neg last]
  obtain ⟨cx, tx⟩ := s0.setGain_keeps (s0.gainFor (some g))
  exact ⟨{ r with begun := k + 1 }, rfl, rfl, rfl, (congrArg Ctx.rows cx : heard.cx.rows = s0.cx.rows), fun now => absurd now first,
    fun now => absurd now last, fun _ _ => ⟨rfl, tx⟩⟩

theorem State.roundDone_waits (round : s.cx.round = some r)
    (h : r.begun < roundSlots r.ss.length r.full ∨ s.now < r.start + roundSlots r.ss.length r.full * 400000) : s.roundDone = s := by
  have runs : s.roundEnd = (s, none) := by
    unfold State.roundEnd
    rw [round]
    exact if_pos ((Bool.or_eq_true _ _).mpr (h.imp decide_eq_true decide_eq_true))
  rw [State.roundDone, runs]

end

/-! ## Coupling (R195) -/

theorem State.couplingTimeout_early {s : State} (h : s.cx.coupled = false ∨ s.now < s.cx.coupleAt + 10 ^ 10) : s.couplingTimeout = s := by
  refine if_neg ?_
  rw [Bool.and_eq_true, decide_eq_true_eq]
  rintro ⟨coupled, past⟩
  obtain h | h := h
  · exact Bool.noConfusion (h.symm.trans coupled)
  · exact absurd h (Nat.not_lt.mpr past)

theorem State.couplingTimeout_due {s : State} (coupled : s.cx.coupled = true) (past : s.cx.coupleAt + 10 ^ 10 ≤ s.now) :
    s.couplingTimeout = ({ s with cx := { s.cx with coupled := false, coupleRun := 0, peerId := List.replicate 8 0 } } : State).emit 0x07 0x2C08
      (256 * s.cx.coupleRow) :=
  if_pos ((Bool.and_eq_true _ _).mpr ⟨coupled, decide_eq_true past⟩)

/-- Settles O41: the round's start by its due time and its sessions, each slot by its place, the round's end and the coupled state by their times. -/
theorem roundsRunInTheirSlots : Obligations.RoundsRunInTheirSlots := by
  intro s dt u
  have start : exec (.roundStart dt) s = finish s u.roundStart := rfl
  have slot : exec (.slotStart dt) s = finish s u.slotStart := rfl
  have done : exec (.roundEnd dt) s = finish s u.roundDone := rfl
  have timeout : exec (.couplingTimeout dt) s = finish s u.couplingTimeout := rfl
  rw [start, slot, done, timeout]
  clear_value u
  refine ⟨fun e epoch noPeer h => ?_, fun e due epoch noPeer dueAt past idle owes key ranges serves trust => ⟨fun none_ => ?_, fun some_ => ?_⟩,
    fun r round => ?_, fun h => congrArg (finish s) (State.couplingTimeout_early h),
    fun coupled past => congrArg (finish s) (State.couplingTimeout_due coupled past)⟩
  · have waits : u.roundFor false = u := State.roundFor_waits (peer := false) epoch h
    exact congrArg (finish s) ((State.roundStart_token (by rw [waits]; exact noPeer)).trans waits)
  · obtain ⟨t, e', run, facts⟩ := State.roundStart_empty epoch dueAt past idle owes key ranges serves trust noPeer none_
    exact ⟨_, e', congrArg (finish s) run, facts⟩
  · obtain ⟨r, begins⟩ := State.roundStart_begins epoch dueAt past idle owes key ranges serves trust some_
    have sessions : r.ss.length ≤ min 32 (u.roundSnapshots.conf 0x2C03 0x2C03 4) := by
      rw [← List.length_map (f := Listed.row), begins.rows, List.length_map]
      exact State.roundRows_length ..
    exact ⟨_, r, rfl, begins.round, begins.number, begins.at_, begins.own, begins.begun, begins.krd, begins.full, begins.rows, sessions, begins.running,
      begins.epoch⟩
  · intro n slots first
    have slot : u.slotStart = u.roundSlot r := by
      unfold State.slotStart
      rw [round]
    refine ⟨fun h => congrArg (finish s) (slot.trans (State.roundSlot_waits h)), fun more due ranges => ?_,
      fun h => congrArg (finish s) (State.roundDone_waits round h)⟩
    obtain ⟨q, begins⟩ := State.roundSlot_begins more due ranges
    exact ⟨_, q, congrArg (finish s) slot, begins.round, begins.begun, begins.number, begins.rows, begins.poll, begins.final, begins.listens⟩

end Sys2Proof.Machine
end

section
/-! SUPPORT. The frames of a round's slots: RESP and REPORT against the slot that takes them (R178, R181, R182, R185, R193). -/

namespace Sys2Proof.Machine
open Sys2Proof

/-- The words of R182 for a frame p that matches the slot of the listed session l in round r: kind, round number, handle and MAC. -/
def FrameMatches (s : State) (r : Round) (l : Listed) (report : Bool) (p : Bytes) : Prop :=
  (p.getD 0 0).toNat = (if report then 0x24 else 0x22) ∧ beNat (slice 2 4 p) = r.number ∧ beNat (slice 6 2 p) = l.handle ∧
    (cmac (s.row l.row).kmac (ascii (if report then "CHN-REPT" else "CHN-RESP") ++ s.vehicleBytes ++ l.id ++ p.take 22)).take 8 = slice 22 8 p

theorem frameMatches_iff (s : State) (r : Round) (l : Listed) (report : Bool) (p : Bytes) :
    ((p.getD 0 0).toNat == (if report then 0x24 else 0x22) && beNat (slice 2 4 p) == r.number && beNat (slice 6 2 p) == l.handle &&
      tokenMac (s.row l.row).kmac s.vehicleBytes l.id (ascii (if report then "CHN-REPT" else "CHN-RESP")) p == slice 22 8 p) = true ↔
    FrameMatches s r l report p := by
  simp only [FrameMatches, tokenMac, Bool.and_eq_true, beq_iff_eq, and_assoc]

/-- What a failure of a MAC in the slot of row n leaves: the failure and the row's invalid count, the round as it was, and no other row touched (R193). -/
structure SlotFails (s : State) (n : Nat) (t : State) : Prop where
  round : t.cx.round = s.cx.round
  macFails : t.cx.macFails = min (s.cx.macFails + 1) (2 ^ 32 - 1)
  row : t.row n = { s.row n with invalid := min ((s.row n).invalid + 1) (2 ^ 16 - 1) }
  others : ∀ j, j ≠ n → t.row j = s.row j

theorem State.slotFailure_mac {s : State} {n : Nat} (active : (s.row n).st = 3) (d : DFrame) : SlotFails s n (s.slotFailure n d true) := by
  unfold State.slotFailure
  extract_lets r s1 c s2
  obtain ⟨l, binned⟩ := s2.binCount_cx (s2.frameBin d.lanes)
  have rows (j : Nat) : (s2.binCount (s2.frameBin d.lanes)).row j = s1.row j := State.row_congr (by rw [binned]; rfl) j
  refine ⟨by rw [binned]; rfl, by rw [binned]; rfl, ?_, fun j other => (rows j).trans (s.row_setRow_other _ other)⟩
  exact (rows n).trans (s.row_setRow_same n (by rw [active]; decide))

theorem State.setListed_listed (s : State) {r : Round} {i : Nat} {l : Listed} (session : r.ss[i]? = some l) (x : Listed) :
    ∃ q, (s.setListed r i x).cx.round = some q ∧ q.ss[i]? = some x := by
  obtain ⟨inside, -⟩ := List.getElem?_eq_some_iff.mp session
  exact ⟨_, rfl, List.getElem?_set_self inside⟩

/-- The state that has taken the delivered frame. -/
def State.frameTaken (s : State) : State := { s with phy := { s.phy with delivered := none } }

/-- What a listed session's data note of a frame that its slot delivers: the slot of a RESP has heard one (R185). -/
def Listed.noted (l : Listed) (report : Bool) : RespData := { l.cur with heard := l.cur.heard || !report }

/-- The listed session with the lanes' reports and the clock offset of its RESP, and with what the previous round is known by (R186, R189). -/
def Listed.responded (l : Listed) (d : DFrame) (prev : Option RespData) : Listed :=
  { l with cur := { l.noted false with resp := true, lanes := d.lanes, co := d.co }, prev := prev }

/-- The row of a listed session after its RESP (R124, R185). -/
def State.rowSeen (s : State) (l : Listed) (d : DFrame) : Row :=
  { s.row l.row with missed := 0, seen := s.ms % 2 ^ 32, gain := gainAfter (s.row l.row).gain d.lanes }

/-- What comes of the frame d in the slot of the listed session l, at place i of round r, in a state s that has taken it (R178, R182, R186, R193). -/
inductive SlotOutcome (s : State) (d : DFrame) (r : Round) (i : Nat) (l : Listed) (report : Bool) : State → Prop where
  | discarded : listedKind d.payload = false → SlotOutcome s d r i l report
      { s.setListed r i { l with cur := l.noted report } with cx := { (s.setListed r i { l with cur := l.noted report }).cx with
        discarded := satAdd 32 s.cx.discarded 1 } }
  | dead : listedKind d.payload = true → l.void = true ∨ (s.row l.row).st ≠ 3 ∨ (s.row l.row).kmac = [] →
      SlotOutcome s d r i l report (s.setListed r i { l with cur := l.noted report })
  | failed : listedKind d.payload = true → ¬FrameMatches s r l report d.payload → SlotOutcome s d r i l report
      ((s.setListed r i { l with cur := { l.noted report with macFail := true } }).slotFailure l.row d true)
  | reported : listedKind d.payload = true → report = true → FrameMatches s r l report d.payload →
      SlotOutcome s d r i l report (s.setListed r i { l with cur := withReport (l.noted report) d.payload false })
  | responded {prev : Option RespData} : listedKind d.payload = true → report = false → FrameMatches s r l report d.payload →
      d.lanes.any laneFails = false → SlotOutcome s d r i l report ((s.setListed r i (l.responded d prev)).setRow l.row (s.rowSeen l d))
  | doubted {prev : Option RespData} : listedKind d.payload = true → report = false → FrameMatches s r l report d.payload →
      d.lanes.any laneFails = true →
      SlotOutcome s d r i l report (((s.setListed r i (l.responded d prev)).setRow l.row (s.rowSeen l d)).slotFailure l.row d false)

section
variable {s : State} {want : Bool}

theorem State.takeSlot_idle (h : s.phy.delivered = none ∨ s.cx.round = none) : s.takeSlot want = s := by
  unfold State.takeSlot
  split
  · next d r heard round => simp [heard, round] at h
  · rfl

variable {d : DFrame} {r : Round} (heard : s.phy.delivered = some d) (round : s.cx.round = some r)
include heard round

theorem State.takeSlot_deaf (deaf : r.listening = none) : s.takeSlot want = s.frameTaken := by
  unfold State.takeSlot
  rw [heard, round]
  dsimp only
  rw [deaf]
  rfl

theorem State.takeSlot_other {i : Nat} (other : r.listening = some (i, !want)) : s.takeSlot want = s := by
  unfold State.takeSlot
  rw [heard, round]
  dsimp only
  rw [other]
  exact if_pos (by cases want <;> rfl)

/-- The row of the present slot takes the frame. -/
theorem State.takeSlot_outcome {i : Nat} {l : Listed} (own : r.listening = some (i, want)) (session : r.ss[i]? = some l) :
    SlotOutcome s.frameTaken d r i l want (s.takeSlot want) := by
  unfold State.takeSlot
  rw [heard, round]
  dsimp -zeta only
  rw [own]
  dsimp -zeta only
  rw [if_neg (by simp), session]
  dsimp -zeta only
  extract_lets quiet s0 p row kind heardNow cur base c label ok c1 prev s1 old s2
  change SlotOutcome s0 d r i l want _
  by_cases strange : listedKind p = false
  · rw [if_pos (by rw [strange]; rfl)]
    exact .discarded strange
  rw [if_neg (by simpa using strange)]
  replace strange : listedKind p = true := by simpa using strange
  split
  · next dead => exact .dead strange (by simpa [or_assoc] using dead)
  have checks : ok = true ↔ FrameMatches s0 r l want p := frameMatches_iff s0 r l want p
  split
  · next bad => exact .failed strange fun good => absurd (checks.mpr good) (by simpa using bad)
  next good =>
  replace good := checks.mp (by simpa using good)
  split
  · next report => exact .reported strange report good
  next resp =>
  obtain rfl : want = false := by simpa using resp
  split
  · next doubt => exact .doubted (prev := prev) strange rfl good doubt
  · next clear => exact .responded (prev := prev) strange rfl good (by simpa using clear)

end

section
variable {s t : State} {d : DFrame} {r : Round} {i : Nat} {l : Listed} {report : Bool} (h : SlotOutcome s d r i l report t)
include h

theorem SlotOutcome.discards (strange : listedKind d.payload = false) :
    t.cx.discarded = min (s.cx.discarded + 1) (2 ^ 32 - 1) ∧ t.cx.rows = s.cx.rows ∧ t.cx.macFails = s.cx.macFails := by
  cases h with
  | discarded => exact ⟨rfl, rfl, rfl⟩
  | dead listed | failed listed | reported listed | responded listed | doubted listed => exact absurd (listed.symm.trans strange) (by decide)

section
variable (session : r.ss[i]? = some l) (listed : listedKind d.payload = true) (live : l.void = false) (active : (s.row l.row).st = 3)
  (key : (s.row l.row).kmac ≠ [])
include session listed live active key

/-- A frame that does not match its slot is a MAC failure of the listed session, which keeps what it had (R193). -/
theorem SlotOutcome.fails (bad : ¬FrameMatches s r l report d.payload) : ∃ q x, t.cx.round = some q ∧ q.ss[i]? = some x ∧ x.cur.macFail = true ∧
    x.cur.resp = l.cur.resp ∧ x.cur.report = l.cur.report ∧ t.cx.macFails = min (s.cx.macFails + 1) (2 ^ 32 - 1) ∧
    t.row l.row = { s.row l.row with invalid := min ((s.row l.row).invalid + 1) (2 ^ 16 - 1) } ∧ ∀ j, j ≠ l.row → t.row j = s.row j := by
  cases h with
  | discarded strange => exact absurd (listed.symm.trans strange) (by decide)
  | dead _ dead => simp [live, active, key] at dead
  | reported _ _ good | responded _ _ good | doubted _ _ good => exact absurd good bad
  | failed =>
    obtain ⟨q, round, held⟩ := s.setListed_listed session { l with cur := { l.noted report with macFail := true } }
    obtain ⟨kept, macFails, row, others⟩ := State.slotFailure_mac (s := s.setListed r i { l with cur := { l.noted report with macFail := true } }) active d
    exact ⟨q, _, kept.trans round, held, rfl, rfl, rfl, macFails, row, others⟩

/-- A RESP that matches its slot is kept, and its row has been heard (R185, R186). -/
theorem SlotOutcome.responds (good : FrameMatches s r l report d.payload) (resp : report = false) (clear : d.lanes.any laneFails = false) :
    ∃ q x, t.cx.round = some q ∧ q.ss[i]? = some x ∧ x.cur.resp = true ∧ x.cur.lanes = d.lanes ∧ x.cur.co = d.co ∧ t.row l.row = s.rowSeen l d ∧
      t.cx.macFails = s.cx.macFails ∧ ∀ j, j ≠ l.row → t.row j = s.row j := by
  cases h with
  | discarded strange => exact absurd (listed.symm.trans strange) (by decide)
  | dead _ dead => simp [live, active, key] at dead
  | failed _ bad => exact absurd good bad
  | reported _ rep => exact absurd (resp.symm.trans rep) (by decide)
  | doubted _ _ _ doubt => exact absurd (clear.symm.trans doubt) (by decide)
  | @responded prev =>
    obtain ⟨q, round, held⟩ := s.setListed_listed session (l.responded d prev)
    have listedRow : (s.rowSeen l d).st ≠ 0 := by
      show (s.row l.row).st ≠ 0
      rw [active]
      decide
    exact ⟨q, _, round, held, rfl, rfl, rfl, State.row_setRow_same _ _ listedRow, rfl, fun j other => State.row_setRow_other _ _ other⟩

/-- A REPORT that matches its slot gives the token's values, and changes no row (R181). -/
theorem SlotOutcome.reports (good : FrameMatches s r l report d.payload) (rep : report = true) :
    ∃ q x, t.cx.round = some q ∧ q.ss[i]? = some x ∧ x.cur = withReport (l.noted report) d.payload false ∧ t.cx.rows = s.cx.rows := by
  cases h with
  | discarded strange => exact absurd (listed.symm.trans strange) (by decide)
  | dead _ dead => simp [live, active, key] at dead
  | failed _ bad => exact absurd good bad
  | responded _ resp | doubted _ resp => exact absurd (resp.symm.trans rep) (by decide)
  | reported =>
    obtain ⟨q, round, held⟩ := s.setListed_listed session { l with cur := withReport (l.noted report) d.payload false }
    exact ⟨q, _, round, held, rfl, rfl⟩

end

end

/-- The two rows of the slot frames are one function of whether a REPORT is wanted. -/
theorem exec_slotFrame (s : State) (dt : Nat) (report : Bool) :
    exec (if report then .report dt else .resp dt) s = finish s ((s.turn dt).takeSlot report) := by
  cases report <;> rfl

/-- Settles O42: the slot by its listening session, the frame by what comes of it there. -/
theorem framesOfASlotMeetTheirChecks : Obligations.FramesOfASlotMeetTheirChecks := by
  intro s dt rep u cmd
  have run : exec cmd s = finish s (u.takeSlot rep) := exec_slotFrame s dt rep
  rw [run]
  refine ⟨fun idle => congrArg (finish s) (State.takeSlot_idle idle), fun d r heard round =>
    ⟨fun deaf => congrArg (finish s) (State.takeSlot_deaf heard round deaf),
    fun i other => congrArg (finish s) (State.takeSlot_other heard round other), fun i l own session => ?_⟩⟩
  intro p row ok
  have outcome := State.takeSlot_outcome heard round own session
  refine ⟨fun strange => ⟨_, rfl, outcome.discards strange⟩, fun listed live active key => ⟨fun bad => ?_, fun good resp clear => ?_, fun good rep => ?_⟩⟩
  · obtain ⟨q, x, round, held, macFail, resp, report, fails, row, others⟩ := outcome.fails session listed live active key bad
    have invalid := congrArg Row.invalid row
    have missed := congrArg Row.missed row
    have st := congrArg Row.st row
    exact ⟨_, q, x, rfl, round, held, macFail, resp, report, fails, invalid, missed, st.trans active, others⟩
  · obtain ⟨q, x, round, held, got, lanes, co, row, fails, others⟩ := outcome.responds session listed live active key good resp clear
    have missed := congrArg Row.missed row
    have seen := congrArg Row.seen row
    have invalid := congrArg Row.invalid row
    exact ⟨_, q, x, rfl, round, held, got, lanes, co, missed, seen, invalid, fails, others⟩
  · obtain ⟨q, x, round, held, cur, rows⟩ := outcome.reports session listed live active key good rep
    exact ⟨_, q, x, rfl, round, held, by rw [cur]; rfl, by rw [cur]; rfl, by rw [cur]; rfl, by rw [cur]; rfl, by rw [cur]; rfl, rows⟩

end Sys2Proof.Machine
end

section
/-! SUPPORT. The tractor's challenge to peers, and the peer's answer to one (R162 to R164, R194, R196). -/

namespace Sys2Proof.Machine
open Sys2Proof

/-- Bytes that are drawn change the generator's records alone (R324). -/
theorem State.draw_rng {s t : State} {ch n : Nat} {b : Bytes} (h : s.draw ch n = some (t, b)) : ∃ g, t = { s with rng := g } := by
  unfold State.draw at h
  dsimp only at h
  split at h
  · cases h
  · cases h
    exact ⟨_, rfl⟩

theorem State.cxSnapshot_keeps (s : State) : KeepsField [0x2C03] s s.cxSnapshot ∧ s.cxSnapshot.vehicleBytes = s.vehicleBytes :=
  ⟨.snapshot s _ _ _ _ _ _ (by decide), congrArg (leBytes 8) (State.snapshot_rr_vehicleId ..)⟩

/-! ## The challenge (R194) -/

section
variable {s : State}

theorem State.peerChallenge_waits
    (h : s.obj 0x2C30 1 ≠ 1 ∨ ∃ t, s.cx.challengedAt = some t ∧ s.now < t + s.conf 0x2C03 0x2C30 2 * 10 ^ 9) : s.peerChallenge = s := by
  unfold State.peerChallenge
  extract_lets period due
  refine if_pos ?_
  obtain off | ⟨t, last, early⟩ := h
  · simp [off]
  · have wait : due = false := by
      simp only [due, last]
      exact decide_eq_false (Nat.not_le.mpr early)
    simp [wait]

/-- The challenge sent by a state s with its nonce, in the state t, with what it begins and opens (R194). -/
structure Challenges (s : State) (nonce : Bytes) (counter code : Nat) (t : State) (f : TxFrame) (e : Epoch) (w : ReplyWin) : Prop where
  tx : t.phy.tx = some f
  sfdB : f.sfdB = false
  key : f.key = []
  payload : f.payload = [0x12, 0x01] ++ s.vehicleBytes ++ nonce ++ [byte counter] ++ beBytes 2 (8192 * code + counter) ++ [0]
  pep : t.cx.pep = some e
  nonce_ : e.nonce = nonce
  counter_ : e.counter = counter
  due : e.due = none
  ep : t.cx.ep = s.cx.ep
  peerCounter : t.cx.peerCounter = counter
  win : t.cx.win = some w
  peer : w.peer = true
  slots : w.slots = 8 * 2 ^ code
  start : w.start = s.now + 135705 + 1000000
  window : t.phy.window = true
  challengedAt : t.cx.challengedAt = some s.now

theorem State.peerChallenge_sends {v : State} {nonce : Bytes} (enabled : s.obj 0x2C30 1 = 1) (first : s.cx.challengedAt = none)
    (ranges : s.rangingOk = true) (serves : s.serving 0x07 = true) (trust : s.trustKeys = true) (idle : s.cx.round = none) (checked : s.cx.macs = [])
    (closed : s.phy.window = false) (drawn : s.cxSnapshot.draw 7 8 = some (v, nonce)) :
    ∃ f e w, Challenges s nonce ((v.cx.peerCounter + 1) % 256) (v.conf 0x2C03 0x2C04 1) s.peerChallenge f e w := by
  obtain ⟨kept, vid⟩ := s.cxSnapshot_keeps
  obtain ⟨g, rfl⟩ := State.draw_rng drawn
  have now := kept.now
  have cx := kept.cx
  unfold State.peerChallenge
  extract_lets period due
  have may : ¬(!(s.obj 0x2C30 1 == 1 && due && s.rangingOk && s.serving 0x07 && s.trustKeys && s.cx.round.isNone && s.cx.macs.isEmpty &&
      !s.phy.window)) = true := by
    simp [enabled, due, first, ranges, serves, trust, idle, checked, closed]
  rw [if_neg may, drawn]
  generalize s.cxSnapshot = b at *
  have ep : b.cx.ep = s.cx.ep := congrArg Ctx.ep cx
  exact ⟨_, _, _, rfl, rfl, rfl, by rw [← vid]; rfl, rfl, rfl, rfl, rfl, ep, rfl, rfl, rfl, rfl, by rw [← now], rfl, by rw [← now]⟩

end

theorem byte_toNat (b : Byte) : byte b.toNat = b := (BitVec.ofNat_toNat 8 b).trans (BitVec.setWidth_eq b)

/-! ## The answer (R162 to R164, R196) -/

/-- The guard of a challenge that the peer role takes. -/
theorem State.takesChallenge {s : State} {p : Bytes} (kind : p.getD 0 0 = 0x12) (role : s.obj 0x2C30 7 = 1) (idle : s.cx.round = none) :
    ¬(!(p.getD 0 0 == 0x12 && s.obj 0x2C30 7 == 1 && s.cx.round.isNone)) = true := by
  rw [kind, role, idle]
  decide

theorem challengeFormed {p : Bytes} (length : p.length = 22) (version : p.getD 1 0 = 0x01) : ¬(!(p.length == 22 && p.getD 1 0 == 0x01)) = true := by
  rw [length, version]
  decide

/-- What a REPLY to a tractor x's challenge p begins with, with the peer's nonce (R162, R163). -/
def peerReplyHead (x : Tractor) (p nonce : Bytes) : Bytes := [0x11, 0x01] ++ x.id ++ nonce ++ [p.getD 18 0, 0] ++ List.replicate 18 0 ++ [0x20, 0]

/-- The slot of the REPLY to a tractor's challenge (R164). -/
def peerReplySlot (x : Tractor) (p : Bytes) : Nat := crc16 (x.id ++ slice 10 8 p) % (8 * 2 ^ (beNat (slice 19 2 p) / 8192 % 4))

/-- The answer to the challenge d of tractor pairing j in row n of a state s, in the state t, with the session that it starts (R162 to R164, R196). -/
structure AnswersChallenge (s : State) (d : DFrame) (j : Nat) (x : Tractor) (n : Nat) (nonce : Bytes) (t : State) (f : TxFrame) (q : PeerSession) : Prop where
  tx : t.phy.tx = some f
  sfdB : f.sfdB = false
  payload : f.payload = peerReplyHead x d.payload nonce ++
    cmac x.ktok (replyMessage x.vid 0 (slice 10 8 d.payload) (beNat (slice 19 2 d.payload)) (peerReplyHead x d.payload nonce))
  idx : f.idx = (d.idx + 2 ^ 48 - refChip d.sfdB + 67744 + 509184 + peerReplySlot x d.payload * 199680) % 2 ^ 48
  peer : t.cx.peer = some q
  row : q.row = n
  tractor : q.tractor = j
  pollAt : q.pollAt = s.now
  active : (t.row n).st = 3
  kind : (t.row n).kind = 3
  id : (t.row n).id = x.vid
  handle : (t.row n).handle = q.handle
  others : ∀ i, i ≠ n → t.row i = s.row i

section
variable {s : State}

theorem State.challengeReceived_silent (h : s.phy.delivered = none) : s.challengeReceived = s := by rw [State.challengeReceived, h]

variable {d : DFrame} (heard : s.phy.delivered = some d)
include heard

theorem State.challengeReceived_other (h : d.payload.getD 0 0 ≠ 0x12 ∨ s.obj 0x2C30 7 ≠ 1 ∨ s.cx.round.isSome = true) : s.challengeReceived = s := by
  rw [State.challengeReceived, heard]
  refine if_pos ?_
  obtain h | h | h := h
  · simp only [beq_eq_false_iff_ne.mpr h, Bool.false_and, Bool.not_false]
  · simp only [beq_eq_false_iff_ne.mpr h, Bool.and_false, Bool.false_and, Bool.not_false]
  · simp only [Option.isNone_eq_false_iff.mpr h, Bool.and_false, Bool.not_false]

section
variable (kind : d.payload.getD 0 0 = 0x12) (role : s.obj 0x2C30 7 = 1) (idle : s.cx.round = none)
include kind role idle

theorem State.challengeReceived_malformed (bad : d.payload.length ≠ 22 ∨ d.payload.getD 1 0 ≠ 0x01) :
    s.challengeReceived = { s.frameTaken with cx := { s.frameTaken.cx with discarded := min (s.cx.discarded + 1) (2 ^ 32 - 1) } } := by
  have strange : (!(d.payload.length == 22 && d.payload.getD 1 0 == 0x01)) = true := by
    simpa only [Bool.not_eq_true', Bool.and_eq_false_iff, beq_eq_false_iff_ne] using bad
  rw [State.challengeReceived, heard]
  exact (if_neg (State.takesChallenge kind role idle)).trans (if_pos strange)

section
variable (length : d.payload.length = 22) (version : d.payload.getD 1 0 = 0x01)
include length version

theorem State.challengeReceived_unknown (none_ : s.tractorOf (slice 2 8 d.payload) = none) : s.challengeReceived = s.frameTaken := by
  unfold State.challengeReceived
  rw [heard]
  dsimp -zeta only
  extract_lets p quiet s0
  rw [if_neg (State.takesChallenge kind role idle), if_neg (challengeFormed length version), show s0.tractorOf (slice 2 8 p) = none from none_]
  rfl

theorem State.challengeReceived_answers {j n : Nat} {x : Tractor} {z : State} {nonce : Bytes} (known : s.tractorOf (slice 2 8 d.payload) = some (j, x))
    (place : s.tractorRow (slice 2 8 d.payload) = some n) (drawn : s.frameTaken.draw 7 8 = some (z, nonce)) (trust : s.trustKeys = true)
    (ranges : s.rangingOk = true) (serves : s.serving 0x07 = true) (free : s.cx.peer = none) :
    ∃ f q, AnswersChallenge s d j x n nonce s.challengeReceived f q := by
  obtain ⟨g, rfl⟩ := State.draw_rng drawn
  unfold State.challengeReceived
  rw [heard]
  dsimp -zeta only
  extract_lets p quiet s0 c params counter vn
  rw [if_neg (State.takesChallenge kind role idle), if_neg (challengeFormed length version), show s0.tractorOf (slice 2 8 p) = some (j, x) from known,
    show s0.tractorRow (slice 2 8 p) = some n from place, show s0.draw 7 8 = some (_, nonce) from drawn]
  dsimp -zeta only
  extract_lets x' head mac k idx keys h handle s2 ps old r f s3 phy cx
  have may : ¬(!(({ s.frameTaken with rng := g } : State).trustKeys && ({ s.frameTaken with rng := g } : State).rangingOk &&
      ({ s.frameTaken with rng := g } : State).serving 0x07)) = true := by
    rw [show ({ s.frameTaken with rng := g } : State).trustKeys = true from trust,
      show ({ s.frameTaken with rng := g } : State).rangingOk = true from ranges, show ({ s.frameTaken with rng := g } : State).serving 0x07 = true from serves]
    decide
  rw [if_neg may]
  have same : s2 = { s.frameTaken with rng := g } := by
    show (match s.cx.peer with | some q => _ | none => _) = _
    rw [free]
  have rows (i : Nat) : (({ s3 with cx := { cx with peer := some ps }, phy := { phy with tx := some f } } : State).emit 0x07 0x2C01 (n + 768)).row i = s3.row i :=
    State.row_congr (congrArg Ctx.rows (State.emit_cx ..)) i
  have own : s3.row n = r := s2.row_setRow_same n (Nat.succ_ne_zero 2)
  have others (i : Nat) (other : i ≠ n) : s3.row i = s.row i := (s2.row_setRow_other r other).trans (by rw [same]; rfl)
  have heads : head = peerReplyHead x d.payload nonce := by
    show [0x11, 0x01] ++ x.id ++ nonce ++ [byte (p.getD 18 0).toNat, 0] ++ List.replicate 18 0 ++ [0x20, 0] = _
    rw [byte_toNat]
    rfl
  have pollAt : s2.now = s.now := by
    rw [same]
    rfl
  refine ⟨f, ps, by rw [State.emit_phy], rfl, ?_, rfl, by rw [State.emit_cx], rfl, rfl, pollAt, ?_, ?_, ?_, ?_, fun i other => (rows i).trans (others i other)⟩
  · show head ++ cmac x.ktok (replyMessage x.vid 0 vn params head) = _
    rw [heads]
  all_goals
    rw [rows, own]

end
end
end

/-- Settles O45: the challenge by when it may be sent, the answer by what the challenge is and whose. -/
theorem peerChallengesAreSentAndAnswered : Obligations.PeerChallengesAreSentAndAnswered := by
  intro s dt u
  have challenge : exec (.peerChallenge dt) s = finish s u.peerChallenge := rfl
  have received : exec (.peerChallengeReceived dt) s = finish s u.challengeReceived := rfl
  rw [challenge, received]
  clear_value u
  refine ⟨fun h => congrArg (finish s) (State.peerChallenge_waits h), fun v nonce enabled first ranges serves trust idle checked closed drawn => ?_,
    fun silent => congrArg (finish s) (State.challengeReceived_silent silent), fun d heard => ?_⟩
  · obtain ⟨f, e, w, sent⟩ := State.peerChallenge_sends enabled first ranges serves trust idle checked closed drawn
    exact ⟨_, f, e, w, rfl, sent.tx, sent.sfdB, sent.key, sent.payload, sent.pep, sent.nonce_, sent.counter_, sent.due, sent.ep, sent.peerCounter, sent.win,
      sent.peer, sent.slots, sent.start, sent.window, sent.challengedAt⟩
  · intro p v
    refine ⟨fun h => congrArg (finish s) (State.challengeReceived_other heard h), fun kind role idle =>
      ⟨fun bad => congrArg (finish s) (State.challengeReceived_malformed heard kind role idle bad),
        fun length version none_ => congrArg (finish s) (State.challengeReceived_unknown heard kind role idle length version none_), ?_⟩⟩
    intro j x n z nonce length version known place drawn trust ranges serves free params head mac k
    obtain ⟨f, q, answer⟩ := State.challengeReceived_answers heard kind role idle length version known place drawn trust ranges serves free
    exact ⟨_, f, q, rfl, answer.tx, answer.sfdB, answer.payload, answer.idx, answer.peer, answer.row, answer.tractor, answer.pollAt, answer.active, answer.kind,
      answer.id, answer.handle, answer.others⟩

end Sys2Proof.Machine
end

section
/-! SUPPORT. POLL and FINAL in the peer role, and how its session ends (R184, R185, R196, R197). -/

namespace Sys2Proof.Machine
open Sys2Proof

/-! ## The end of the peer's session -/

/-- The end of the peer's session in a state s, in the state t that it leaves (R185). -/
structure PeerEnds (s : State) (n : Nat) (t : State) : Prop extends SessionEnds s n t where
  peer : t.cx.peer = none

theorem State.peerEnd_ends (s : State) (q : PeerSession) (cause : Nat) : PeerEnds s q.row (s.peerEnd q cause) := by
  obtain ⟨known, others, phy, objs⟩ := s.sessionEnd_ends q.row cause
  exact ⟨⟨known, others, phy, objs⟩, rfl⟩

theorem State.peerTimeout_idle {s : State} (none_ : s.cx.peer = none) : s.peerTimeout = s := by rw [State.peerTimeout, none_]

section
variable {s : State} {q : PeerSession} (session : s.cx.peer = some q)
include session

theorem State.peerTimeout_early (early : s.now < q.pollAt + max 6000000000 (3 * q.gap)) : s.peerTimeout = s := by
  rw [State.peerTimeout, session]
  exact if_neg (Nat.not_le.mpr early)

theorem State.peerTimeout_past (past : q.pollAt + max 6000000000 (3 * q.gap) ≤ s.now) : s.peerTimeout = s.peerEnd q 2 := by
  rw [State.peerTimeout, session]
  exact if_pos past

end

/-! ## Frames of the tractor -/

/-- The state that has taken the delivered frame, and has counted it where its kind or length is not listed (R178). -/
def State.peerTaken (s : State) (p : Bytes) : State := s.frameTaken.unlisted p

/-- What is taken with a frame leaves all else of the peer role's state as it is. -/
theorem State.peerTaken_eq (s : State) (p : Bytes) : ∃ n, s.peerTaken p = { s.frameTaken with cx := { s.cx with discarded := n } } := by
  unfold State.peerTaken State.unlisted
  split <;> exact ⟨_, rfl⟩

theorem State.peerTaken_keeps (s : State) (p : Bytes) :
    (s.peerTaken p).cx.rows = s.cx.rows ∧ (s.peerTaken p).phy.tx = s.phy.tx ∧ (s.peerTaken p).now = s.now := by
  obtain ⟨n, taken⟩ := s.peerTaken_eq p
  rw [taken]
  exact ⟨rfl, rfl, rfl⟩

/-- The pairing of the peer's session with its tractor. -/
def State.tractorFor (s : State) (q : PeerSession) : Tractor := kvGet {} s.rr.tractors q.tractor

theorem State.peerTaken_tractor (s : State) (p : Bytes) (q : PeerSession) : (s.peerTaken p).tractorFor q = s.tractorFor q := by
  obtain ⟨n, taken⟩ := s.peerTaken_eq p
  rw [taken]
  rfl

/-- A frame that is listed and passes the peer's checks under a label (R184). -/
def PeerPasses (s : State) (q : PeerSession) (label : String) (d : DFrame) : Prop :=
  listedKind d.payload = true ∧ q.passes (s.tractorFor q).vid (ascii label) d = true

theorem peerPasses_not (s : State) (q : PeerSession) (label : String) (d : DFrame) :
    (!(listedKind d.payload && q.passes ((s.peerTaken d.payload).tractorFor q).vid (ascii label) d)) = true ↔ ¬PeerPasses s q label d := by
  rw [s.peerTaken_tractor, Bool.not_eq_true', ← Bool.not_eq_true, Bool.and_eq_true, PeerPasses]

theorem State.pollReceived_idle {s : State} (h : s.phy.delivered = none ∨ s.cx.peer = none) : s.pollReceived = s := by
  unfold State.pollReceived
  split
  · next d q heard session => simp [heard, session] at h
  · rfl

theorem State.finalReceived_idle {s : State} (h : s.phy.delivered = none ∨ s.cx.peer = none) : s.finalReceived = s := by
  unfold State.finalReceived
  split
  · next d q heard session => simp [heard, session] at h
  · rfl

/-- A frame of another kind, or one in a round of the device's own, is not the peer role's. -/
theorem notPeerFrame {kind own : Byte} {round : Option Round} (h : round.isSome = true ∨ kind ≠ own) : (!(kind == own && round.isNone)) = true := by
  obtain busy | other := h
  · rw [Option.isNone_eq_false_iff.mpr busy, Bool.and_false]
    rfl
  · rw [beq_eq_false_iff_ne.mpr other]
    rfl

theorem peerFrame {kind own : Byte} {round : Option Round} (idle : round = none) (same : kind = own) : ¬(!(kind == own && round.isNone)) = true := by
  rw [same, idle, beq_self_eq_true]
  decide

/-- The handles that a POLL lists (R179). -/
def pollHandles (p : Bytes) : List Nat := (List.range (p.getD 6 0).toNat).map (fun i => beNat (slice (8 + 2 * i) 2 p))

/-- The round number of a POLL or FINAL (R179, R180). -/
def roundNumber (p : Bytes) : Nat := beNat (slice 2 4 p)

/-- The place, from 1, of a session in the list of a POLL whose round number it has not used; 0 where it has none (R184). -/
def PeerSession.placeIn (q : PeerSession) (p : Bytes) : Nat :=
  match (pollHandles p).findIdx? (· == q.handle) with
  | some i => if q.any && roundNumber p ≤ q.number then 0 else i + 1
  | none => 0

/-- The POLL d, served in a state s with the session q in a place of its list, leaves t with the session q1; f is the RESP that a listed session sends in
its slot (R183, R184). -/
structure PollServed (s : State) (d : DFrame) (q : PeerSession) (place : Nat) (t : State) (q1 : PeerSession) (f : TxFrame) : Prop where
  peer : t.cx.peer = some q1
  rows : t.cx.rows = s.cx.rows
  tx : t.phy.tx = if place = 0 then s.phy.tx else some f
  failed : q1.failed = 0
  pollAt : q1.pollAt = s.now
  number : q1.number = roundNumber d.payload
  any : q1.any = true
  answered : q1.answered = if place = 0 then q.answered else q.answered + 1
  owed : place = 0 → q1.owed = false
  sfdB : f.sfdB = true
  key : f.key = q.krng
  iv : f.iv = [0x22] ++ beBytes 4 (roundNumber d.payload) ++ beBytes 2 q.handle ++ [0, 0, 0, 0, 0]
  length : f.payload.length = 30
  idx : f.idx = ((d.idx + 2 ^ 48 - 37088 - 9984) % 2 ^ 48 + place * 199680 + 9984) % 2 ^ 48

/-- The peer role's RESP and REPORT have the 30 bytes of R181. -/
theorem PeerSession.frame_length (q : PeerSession) (x : Tractor) (kind : Nat) (valid pollOk finalOk : Bool) (v : Nat × (Nat × (Int × Nat))) :
    (q.frame x kind valid pollOk finalOk v).length = 30 := by
  simp [PeerSession.frame, tokenMac, beBytes_length, cmac_length]

section
variable {s : State} {d : DFrame} {q : PeerSession} (heard : s.phy.delivered = some d) (session : s.cx.peer = some q)
include heard session

theorem State.pollReceived_other (h : s.cx.round.isSome = true ∨ d.payload.getD 0 0 ≠ 0x21) : s.pollReceived = s := by
  rw [State.pollReceived, heard, session]
  exact if_pos (notPeerFrame h)

theorem State.finalReceived_other (h : s.cx.round.isSome = true ∨ d.payload.getD 0 0 ≠ 0x23) : s.finalReceived = s := by
  rw [State.finalReceived, heard, session]
  exact if_pos (notPeerFrame h)

section
variable (idle : s.cx.round = none)
include idle

/-- A POLL that fails its checks ends the session where it is the third in a row, and is counted otherwise (R184). -/
theorem State.pollReceived_fails (poll : d.payload.getD 0 0 = 0x21) (bad : ¬PeerPasses s q "CHN-POLL" d) :
    s.pollReceived = if q.failed = 2 then (s.peerTaken d.payload).peerEnd q 2 else
      { s.peerTaken d.payload with cx := { (s.peerTaken d.payload).cx with peer := some { q with failed := q.failed + 1 } } } := by
  rw [State.pollReceived, heard, session]
  exact (if_neg (peerFrame idle poll)).trans (if_pos ((peerPasses_not s q "CHN-POLL" d).mpr bad))

/-- A POLL that passes clears the failures, starts the timeout again and is answered in the place that it lists (R184, R196). -/
theorem State.pollReceived_passes (poll : d.payload.getD 0 0 = 0x21) (good : PeerPasses s q "CHN-POLL" d) :
    ∃ q1 f, PollServed s d q (q.placeIn d.payload) s.pollReceived q1 f := by
  unfold State.pollReceived
  rw [heard, session]
  dsimp -zeta only
  extract_lets p quiet s0 x n number fl c hs place slotIdx t2 idx t3 full q1 prev resp f phy
  have passes : ¬(!(listedKind p && q.passes x.vid (ascii "CHN-POLL") d)) = true := fun fails => (peerPasses_not s q "CHN-POLL" d).mp fails good
  rw [if_neg (peerFrame idle poll), if_neg passes]
  obtain ⟨rows, tx, now⟩ : s0.cx.rows = s.cx.rows ∧ s0.phy.tx = s.phy.tx ∧ s0.now = s.now := s.peerTaken_keeps d.payload
  clear_value s0
  refine ⟨q1, f, rfl, rows, ?_, rfl, now, rfl, rfl, rfl, ?_, rfl, rfl, rfl, q1.frame_length .., rfl⟩
  · show (if place = 0 then s0.phy.tx else some f) = _
    rw [tx]
    rfl
  · intro none_
    show (full && place != 0) = false
    rw [show place = 0 from none_]
    exact Bool.and_false _

/-- A FINAL of another round, or one that fails its checks, is only taken (R184). -/
theorem State.finalReceived_fails (final : d.payload.getD 0 0 = 0x23) (bad : ¬(PeerPasses s q "CHN-FINL" d ∧ roundNumber d.payload = q.number)) :
    s.finalReceived = s.peerTaken d.payload := by
  have fails : (!(listedKind d.payload && q.passes ((s.peerTaken d.payload).tractorFor q).vid (ascii "CHN-FINL") d &&
      beNat (slice 2 4 d.payload) == q.number)) = true := by
    rw [Bool.not_eq_true', ← Bool.not_eq_true, Bool.and_eq_true, beq_iff_eq, s.peerTaken_tractor, Bool.and_eq_true]
    exact bad
  rw [State.finalReceived, heard, session]
  exact (if_neg (peerFrame idle final)).trans (if_pos fails)

/-- A FINAL that passes for the round in hand gives the gap to the next, where it does not end the session (R180, R184). -/
theorem State.finalReceived_passes (final : d.payload.getD 0 0 = 0x23) (good : PeerPasses s q "CHN-FINL" d) (number : roundNumber d.payload = q.number)
    (goesOn : q.ends = false) (noEnd : bit (d.payload.getD 1 0).toNat 6 = false) :
    ∃ q1, s.finalReceived.cx.peer = some q1 ∧ q1.gap = (beNat (slice 6 2 d.payload) + q.n + 1) * 400000 ∧ q1.number = q.number ∧
      s.finalReceived.cx.rows = s.cx.rows ∧ s.finalReceived.phy.tx = s.phy.tx := by
  unfold State.finalReceived
  rw [heard, session]
  dsimp -zeta only
  extract_lets p quiet s0 x m t6 v gap q1 c
  have passes : ¬(!(listedKind p && q.passes x.vid (ascii "CHN-FINL") d && beNat (slice 2 4 p) == q.number)) = true := by
    rw [Bool.not_eq_true', Bool.not_eq_false, Bool.and_eq_true, beq_iff_eq, Bool.and_eq_true]
    obtain ⟨listed, checks⟩ := good
    rw [← s.peerTaken_tractor d.payload q] at checks
    exact ⟨⟨listed, checks⟩, number⟩
  have stays : ¬((q.ends || bit (p.getD 1 0).toNat 6) && !q.owed) = true := by
    rw [goesOn, noEnd]
    exact Bool.false_ne_true
  obtain ⟨rows, tx, -⟩ : s0.cx.rows = s.cx.rows ∧ s0.phy.tx = s.phy.tx ∧ s0.now = s.now := s.peerTaken_keeps d.payload
  rw [if_neg (peerFrame idle final), if_neg passes, if_neg stays]
  exact ⟨_, rfl, rfl, rfl, rows, tx⟩

end

end

/-- The place of a POLL's list in which a session stands, where the round number has not been used. -/
theorem PeerSession.placeIn_listed {q : PeerSession} {p : Bytes} {i : Nat} (place : (pollHandles p).findIdx? (· == q.handle) = some i)
    (new : q.any = false ∨ q.number < roundNumber p) : q.placeIn p = i + 1 := by
  have fresh : ¬(q.any && decide (roundNumber p ≤ q.number)) = true := by
    rw [Bool.and_eq_true, decide_eq_true_eq]
    rintro ⟨any, used⟩
    obtain none_ | later := new
    · exact Bool.noConfusion (none_.symm.trans any)
    · exact absurd used (Nat.not_le.mpr later)
  rw [PeerSession.placeIn, place]
  exact if_neg fresh

theorem PeerSession.placeIn_unlisted {q : PeerSession} {p : Bytes} (h : q.handle ∉ pollHandles p ∨ (q.any = true ∧ roundNumber p ≤ q.number)) :
    q.placeIn p = 0 := by
  unfold PeerSession.placeIn
  obtain absent | used := h
  · have none_ : (pollHandles p).findIdx? (· == q.handle) = none :=
      List.findIdx?_eq_none_iff.mpr fun h mem => beq_eq_false_iff_ne.mpr fun same => absent (same ▸ mem)
    rw [none_]
  · split
    · exact if_pos (by simpa using used)
    · rfl

/-- Settles O46: the session's end by its time, POLL and FINAL by whether they pass, and the RESP by the session's place in the list. -/
theorem peersAnswerPollsOfTheirTractor : Obligations.PeersAnswerPollsOfTheirTractor := by
  intro s dt u
  have poll : exec (.pollReceived dt) s = finish s u.pollReceived := rfl
  have final : exec (.finalReceived dt) s = finish s u.finalReceived := rfl
  have timeout : exec (.peerSessionTimeout dt) s = finish s u.peerTimeout := rfl
  rw [poll, final, timeout]
  clear_value u
  refine ⟨fun h => ⟨congrArg (finish s) (State.pollReceived_idle h), congrArg (finish s) (State.finalReceived_idle h)⟩,
    fun none_ => congrArg (finish s) (State.peerTimeout_idle none_), fun q session => ⟨fun early => congrArg (finish s) (State.peerTimeout_early session early),
      fun past => ?_, fun d heard => ?_⟩⟩
  · have ends := u.peerEnd_ends q 2
    exact ⟨_, congrArg (finish s) (State.peerTimeout_past session past), ends.peer, ends.known, ends.others, ends.objs⟩
  intro p x v number
  refine ⟨fun h => congrArg (finish s) (State.pollReceived_other heard session h), fun h => congrArg (finish s) (State.finalReceived_other heard session h),
    fun idle poll => ?_, fun idle final => ?_⟩
  · intro passed hs
    refine ⟨fun bad third => ?_, fun bad more => ?_, fun good h => ?_, fun good i place new => ?_⟩
    · have run := (State.pollReceived_fails heard session idle poll bad).trans (if_pos third)
      have ends := (u.peerTaken p).peerEnd_ends q 2
      obtain ⟨rows, tx, -⟩ := u.peerTaken_keeps p
      generalize (u.peerTaken p).peerEnd q 2 = t at run ends
      have known := ends.known
      rw [State.row_congr rows] at known
      exact ⟨_, congrArg (finish s) run, ends.peer, (congrArg Phy.tx ends.phy).trans tx, known⟩
    · exact congrArg (finish s) ((State.pollReceived_fails heard session idle poll bad).trans (if_neg more))
    · obtain ⟨q1, f, served⟩ := State.pollReceived_passes heard session idle poll good
      rw [PeerSession.placeIn_unlisted h] at served
      exact ⟨_, q1, rfl, served.tx, served.peer, served.failed, served.pollAt, served.answered, served.owed rfl⟩
    · obtain ⟨q1, f, served⟩ := State.pollReceived_passes heard session idle poll good
      rw [PeerSession.placeIn_listed place new] at served
      exact ⟨_, q1, f, rfl, served.peer, served.failed, served.pollAt, served.number, served.any, served.answered, served.tx, served.sfdB, served.key, served.iv,
        served.length, served.idx, served.rows⟩
  · intro passed
    refine ⟨fun bad => congrArg (finish s) (State.finalReceived_fails heard session idle final fun ⟨⟨listed, passes⟩, same⟩ =>
      bad ⟨listed, passes, same⟩),
      fun good goesOn noEnd => ?_⟩
    obtain ⟨listed, passes, same⟩ := good
    obtain ⟨q1, facts⟩ := State.finalReceived_passes heard session idle final ⟨listed, passes⟩ same goesOn noEnd
    exact ⟨_, q1, rfl, facts⟩

end Sys2Proof.Machine
end

section
/-! SUPPORT. Outcomes, their messages and the driver's binding: what each makes of policy's record (R235, R236, R240). -/

namespace Sys2Proof.Machine
open Sys2Proof

/-! ## Messages and outcomes (R235, R236) -/

theorem KeepsUnits.canQueue (s : State) (bus : Nat) (f : DevFrame) : KeepsUnits s (s.canQueue bus f) := by
  unfold State.canQueue
  split
  · exact .refl s
  · exact .setCtl s _ _

@[simp] theorem State.releaseQueue_pol (s : State) (data : Bytes) : (s.releaseQueue data).pol = s.pol := by
  refine (KeepsUnits.foldl (fun t b => ?_) _ s).pol
  split
  · exact .canQueue t _ _
  · exact .refl t

@[simp] theorem State.outSnapshot_pol (s : State) : s.outSnapshot.pol = s.pol := State.snapshot_pol ..

/-- A release message is counted where it is sent, and leaves all else of policy's record. -/
theorem State.sendRelease_pol (s : State) (out cause cls zone flags : Nat) (id : Bytes) :
    ∃ n, (s.sendRelease out cause cls zone flags id).pol = { s.pol with messages := n } := by
  unfold State.sendRelease
  split
  · exact ⟨s.pol.messages, rfl⟩
  · exact ⟨_, State.releaseQueue_pol _ _⟩

/-- A release message that can be signed is sent and counted. -/
theorem State.sendRelease_signed {s : State} (on : s.powered = true) (keys : s.trustKeys = true) (held : (s.slot 12).ty ≠ 0)
    (out cause cls zone flags : Nat) (id : Bytes) :
    (s.sendRelease out cause cls zone flags id).pol = { s.pol with messages := (s.pol.messages + 1) % 2 ^ 32 } := by
  unfold State.sendRelease
  rw [if_neg (by simp [on, keys, held])]
  exact State.releaseQueue_pol _ _

theorem State.outcome_pol (s : State) (out cause cls zone row row2 flags src : Nat) (id : Bytes) :
    ∃ n, (s.outcome out cause cls zone row row2 flags src id).pol = { s.pol with
      outcome := out, cause := cause, cls := cls, zone := zone, row := row, row2 := row2, flags := flags ||| s.stateFlags,
      decMs := s.ms % 2 ^ 32, src := src, messages := n } := by
  unfold State.outcome
  exact State.sendRelease_pol _ ..

/-! ## The driver's binding (R240) -/

@[simp] theorem State.bind_pol (s : State) (d1 d2 cls zone flags row out : Nat) : (s.bind d1 d2 cls zone flags row out).pol = { s.pol with
    driver := d1, driver2 := d2, bindFlags := flags, bound := true, boundRow := row, ambiguous := bit flags 1, rebind := none } := by
  unfold State.bind
  rw [State.emit_pol]
  rfl

theorem State.unbind_unbound {s : State} (free : s.pol.bound = false) (cause : Nat) : s.unbind cause = s := if_pos (by rw [free]; rfl)

theorem State.unbind_pol {s : State} (held : s.pol.bound = true) (cause : Nat) : (s.unbind cause).pol = { s.pol with
    driver := 0, driver2 := 0, bindFlags := 0, bound := false, boundRow := 0xFF, ambiguous := false, rebind := none } := by
  unfold State.unbind
  rw [if_neg (by rw [held]; decide), State.emit_pol]
  rfl

@[simp] theorem State.unbind_sup (s : State) (cause : Nat) : (s.unbind cause).sup = s.sup := by
  unfold State.unbind
  split
  · rfl
  · rw [State.emit_sup]
    rfl

/-- The end of a binding leaves all of policy's record but the binding. -/
theorem State.unbind_binding (s : State) (cause : Nat) : ∃ d d2 f r a b, (s.unbind cause).pol = { s.pol with
    driver := d, driver2 := d2, bindFlags := f, bound := false, boundRow := r, ambiguous := a, rebind := b } := by
  by_cases held : s.pol.bound = true
  · exact ⟨_, _, _, _, _, _, State.unbind_pol held cause⟩
  · have free : s.pol.bound = false := Bool.eq_false_iff.mpr held
    rw [State.unbind_unbound free]
    exact ⟨_, _, _, _, _, _, by rw [← free]⟩

/-! ## The end of a release or latch (R229, R231) -/

theorem State.endRelease_locked {s : State} (locked : s.pol.out = 0) : s.endRelease = s := if_pos locked

/-- What the end of a release or latch, in a state s, makes of policy's record. -/
theorem State.endRelease_pol {s : State} (stands : s.pol.out ≠ 0) : ∃ w f d n, s.endRelease.pol = { s.pol with
    out := 0, latch := none, partners := [], validTill := s.now, waveEnd := w, outcome := ocEnded, cause := 0, cls := s.pol.relCls,
    zone := s.pol.relZone, row := s.pol.relRow, row2 := 0xFF, flags := f, decMs := d, messages := n } := by
  unfold State.endRelease
  rw [if_neg stands]
  extract_lets old p s1
  have ends : s1.pol = p := State.emit_pol ..
  obtain ⟨n, said⟩ := s1.outcome_pol ocEnded 0 s.pol.relCls s.pol.relZone s.pol.relRow 0xFF (s.pol.relFlags &&& 0x3E) s.pol.src (s.pol.partners.headD noId)
  rw [ends] at said
  exact ⟨_, _, _, n, said⟩

end Sys2Proof.Machine
end

section
/-! SUPPORT. Renewal, end and messages of a release, and the outputs' readback (R229, R230, R234, R236). -/

namespace Sys2Proof.Machine
open Sys2Proof

variable {s : State}

/-- The last of the instants k apart from a first one on is less than k ago. -/
theorem lt_last_add {first now k : Nat} (some_ : 0 < k) (past : first ≤ now) : now < first + (now - first) / k * k + k := by
  have := Nat.lt_div_mul_add (a := now - first) some_
  omega

/-! ## Renewal (R230) -/

/-- A release may be renewed: the level is not LF_ONLY, the outputs have no fault, and a deciding token's last result in a start zone qualified
within 1,500 ms. -/
def State.Renewable (s : State) : Prop :=
  s.loc.level ≠ 3 ∧ s.outputBad = false ∧ ∃ id ∈ s.pol.partners, ∃ e ∈ s.pol.startAt, e.1 = id ∧ e.2.1 = true ∧ s.now ≤ e.2.2 + 1500 * msNs

/-- The decision of renewal, as the model takes it. -/
theorem State.renewable_iff (s : State) : (s.loc.level != 3 && !s.outputBad && s.pol.partners.any (fun id =>
    s.pol.startAt.any (fun e => e.1 == id && e.2.1 && decide (s.now ≤ e.2.2 + 1500 * msNs)))) = true ↔ s.Renewable := by
  simp [State.Renewable, and_assoc]

theorem State.renewal_waits (h : s.pol.out ≠ 1 ∨ s.now < s.pol.renewAt + 500 * msNs ∨ s.policyServes = false) : s.renewal = s :=
  if_pos (by simpa [or_assoc] using h)

theorem State.renewal_due (stands : s.pol.out = 1) (due : s.pol.renewAt + 500 * msNs ≤ s.now) (serves : s.policyServes = true) :
    s.renewal.pol.out = 1 ∧ s.now < s.renewal.pol.renewAt + 500 * msNs ∧ (s.Renewable → s.renewal.pol.validTill = s.now + 2000 * msNs) ∧
      (¬s.Renewable → s.renewal.pol.validTill = s.pol.validTill) := by
  unfold State.renewal
  extract_lets p ok
  have runs : ok = true ↔ s.Renewable := s.renewable_iff
  rw [if_neg (by simp [p, stands, serves, due])]
  exact ⟨stands, lt_last_add (by decide) (Nat.le_of_add_right_le due), fun may => if_pos (runs.mpr may), fun not => if_neg (mt runs.mp not)⟩

/-! ## The end (R229, R231) -/

theorem State.releaseOver_waits (h : s.pol.out ≠ 1 ∨ s.now < s.pol.endAt) : s.releaseOver = s := if_neg (by simpa [or_iff_not_imp_left] using h)

theorem State.releaseOver_ends (stands : s.pol.out = 1) (past : s.pol.endAt ≤ s.now) : s.releaseOver = s.endRelease :=
  if_pos (by simp [stands, past])

theorem State.latchEnd_waits (h : s.pol.out ≠ 2 ∨ s.pol.engine = true ∨ s.now < s.dist.lastPulse.getD 0 + 2 * secNs) : s.latchEnd = s :=
  if_neg (by simpa [or_iff_not_imp_left] using h)

theorem State.latchEnd_ends (latched : s.pol.out = 2) (stopped : s.pol.engine = false) (still : s.dist.lastPulse.getD 0 + 2 * secNs ≤ s.now) :
    s.latchEnd = (s.unbind 1).endRelease :=
  if_pos (by simpa [latched, stopped] using still)

/-- The end of a latch whose driver is unbound. -/
theorem State.endRelease_unbound (stands : s.pol.out ≠ 0) (cause : Nat) : (s.unbind cause).endRelease.pol.out = 0 ∧
    (s.unbind cause).endRelease.pol.latch = none ∧ (s.unbind cause).endRelease.pol.outcome = ocEnded ∧ (s.unbind cause).endRelease.pol.bound = false := by
  obtain ⟨_, _, _, _, _, _, unbound⟩ := s.unbind_binding cause
  obtain ⟨w, f, d, n, ended⟩ := State.endRelease_pol (s := s.unbind cause) (by rw [unbound]; exact stands)
  rw [ended, unbound]
  exact ⟨rfl, rfl, rfl, rfl⟩

/-! ## Repeated messages (R236) -/

theorem State.releaseMessage_waits (h : s.pol.out = 0 ∨ s.now < s.pol.msgAt + 500 * msNs) : s.releaseMessage = s :=
  if_pos (by simpa using h)

theorem State.trustLost_congr {t : State} (sup : t.sup = s.sup) : t.trustLost = s.trustLost := by
  rw [State.trustLost, State.trustLost, State.lasting, State.lasting, sup]

theorem State.trustKeys_congr {t : State} (us : t.us = s.us) (sup : t.sup = s.sup) : t.trustKeys = s.trustKeys := by
  rw [State.trustKeys, State.trustKeys, State.trustLost_congr sup, State.cipherOk, State.cipherOk, State.serving,
    State.serving, State.unitState, State.unitState, State.stateGo_congr us sup]

/-- Whether a message can be signed and sent does not depend on policy's record. -/
theorem State.sendRelease_withPol (on : s.powered = true) (keys : s.trustKeys = true) (held : (s.slot 12).ty ≠ 0) (p : Pol)
    (out cause cls zone flags : Nat) (id : Bytes) : (({ s with pol := p } : State).sendRelease out cause cls zone flags id).pol =
      { p with messages := (p.messages + 1) % 2 ^ 32 } :=
  State.sendRelease_signed (s := { s with pol := p }) on ((State.trustKeys_congr rfl rfl).trans keys) held ..

theorem State.releaseMessage_due (on : s.powered = true) (keys : s.trustKeys = true) (held : (s.slot 12).ty ≠ 0) (stands : s.pol.out ≠ 0)
    (due : s.pol.msgAt + 500 * msNs ≤ s.now) : ∃ k, s.now < k + 500 * msNs ∧
      s.releaseMessage.pol = { s.pol with msgAt := k, messages := (s.pol.messages + 1) % 2 ^ 32 } := by
  unfold State.releaseMessage
  dsimp only
  rw [if_neg (by simpa [stands] using due), State.sendRelease_withPol on keys held]
  exact ⟨_, lt_last_add (by decide) (Nat.le_of_add_right_le due), rfl⟩

/-- A record takes an increment of counter 4 at most (R363). -/
theorem State.counter_record (s : State) (ty : Nat) (body : Bytes) {n : Nat} (other : n ≠ 4) : (s.record ty body).counter n = s.counter n := by
  unfold State.record State.counter
  dsimp only
  split
  · rw [bumpCounter, kvGet_kvPut_other _ _ _ _ _ other]
  · rfl

theorem State.counter_pushEvent (s : State) (e : Event) (n : Nat) : (s.pushEvent e).counter n = s.counter n := by
  unfold State.pushEvent
  split <;> rfl

theorem State.counter_emit (s : State) (uid code p : Nat) {n : Nat} (other : n ≠ 4) : (s.emit uid code p).counter n = s.counter n := by
  unfold State.emit
  extract_lets e s1 x
  have one : s1.counter n = s.counter n := (State.counter_record _ _ _ other).trans (State.counter_pushEvent s e n)
  split
  · rfl
  · split
    · exact (State.counter_record _ _ _ other).trans ((State.counter_pushEvent s1 x n).trans one)
    · exact one

theorem State.counter_outSnapshot (s : State) {n : Nat} (other : n ≠ 4) : s.outSnapshot.counter n = s.counter n := by
  unfold State.outSnapshot State.snapshot
  dsimp only
  split
  · rfl
  · split
    · rfl
    · exact State.counter_emit _ _ _ _ other

theorem State.trustLostMessage_waits (h : s.sup.vehicleLost = true ∨ ∃ l, s.pol.lostAt = some l ∧ s.now < l + secNs) :
    s.trustLostMessage = s := by
  unfold State.trustLostMessage
  extract_lets due
  refine if_pos ?_
  obtain lost | ⟨l, last, early⟩ := h
  · simp [lost]
  · have waits : due = false := by simpa [due, last] using early
    simp [waits]

theorem State.validity_congr {t : State} (out : t.pol.out = s.pol.out) (till : t.pol.validTill = s.pol.validTill) (now : t.now = s.now) :
    t.validity = s.validity := by
  rw [State.validity, State.validity, out, till, now]

/-- The bytes of the message of a lost trust pair (R235): no zone and no token, and zeros for the signature. -/
theorem State.releaseBytes_lost (s : State) (flags validity n : Nat) : s.releaseBytes ocTrustLost 0 0 0 flags noId validity n false =
    [7, byte flags, 0, 0] ++ leBytes 4 (s.counter 1 % 2 ^ 32) ++ leBytes 4 n ++ List.replicate 8 0 ++ leBytes 2 validity ++ List.replicate 10 0 := by
  unfold State.releaseBytes
  have id : padTo 8 noId = List.replicate 8 0 := by decide
  have code : (byte ocTrustLost : Byte) = 7 := by decide
  have zero : byte 0 = 0 := by decide
  have tail : [(0 : Byte), 0] ++ List.replicate 8 0 = List.replicate 10 0 := by decide
  simp only [id, code, zero, ite_self, Bool.false_eq_true, if_false, ← tail, List.append_assoc]

/-- The state from which the message of a lost trust pair is sent. -/
def State.lossSaid (s : State) : State :=
  { s.outSnapshot with pol := { s.pol with messages := (s.pol.messages + 1) % 2 ^ 32, lostAt := some s.now } }

/-- The first message since the trust pair was lost: unsigned, with its bytes written out (R235). -/
theorem State.trustLostMessage_first (on : s.powered = true) (up : s.sup.vehicleLost = false) (first : s.pol.lostAt = none) (lost : s.trustLost = true) :
    s.trustLostMessage = s.lossSaid.releaseQueue ([7, byte s.stateFlags, 0, 0] ++ leBytes 4 (s.counter 1 % 2 ^ 32) ++
      leBytes 4 ((s.pol.messages + 1) % 2 ^ 32) ++ List.replicate 8 0 ++ leBytes 2 s.validity ++ List.replicate 10 0) := by
  have sent : s.trustLostMessage = s.lossSaid.releaseQueue (s.lossSaid.releaseBytes ocTrustLost 0 0 0 s.stateFlags noId s.lossSaid.validity
      ((s.pol.messages + 1) % 2 ^ 32) false) := if_neg (by simp [on, up, first, lost])
  have count : s.lossSaid.counter 1 = s.counter 1 := s.counter_outSnapshot (by decide)
  have valid : s.lossSaid.validity = s.validity := State.validity_congr rfl rfl (State.snapshot_now ..)
  rw [sent, State.releaseBytes_lost, count, valid]

/-! ## The readback (R234) -/

theorem State.readback_early {a b : Bool} (early : s.now < s.pol.readAt + 500000) : s.readback a b = s := if_pos (by simp [early])

/-- The mismatches in a row of a ball that had n, once its level is read. -/
def mismatches (level want : Bool) (n : Nat) : Nat := if level == want then 0 else min 2 (n + 1)

theorem mismatches_met {level want : Bool} (met : level = want) (n : Nat) : mismatches level want n = 0 := if_pos (by simpa using met)

theorem mismatches_missed {level want : Bool} (missed : level ≠ want) (n : Nat) : mismatches level want n = min 2 (n + 1) :=
  if_neg (by simpa using missed)

/-- Policy's record after a comparison that left m mismatches in a row of SE_A and SE_B. -/
def Pol.compared (p : Pol) (now : Nat) (m : Nat × Nat) : Pol :=
  let run := if m.1 = 0 && m.2 = 0 then min 100 (p.matches_ + 1) else 0
  { p with readAt := now, mis := m, matches_ := run, faultMask := if run = 100 then 0 else p.faultMask }

/-- An output fault of some balls begins: it is counted, raised and charged. -/
def State.outputFault (s : State) (bad : Nat) : State :=
  ({ s with pol := { s.pol with faultMask := bad, outFaults := satAdd 32 s.pol.outFaults 1 } }.emit 0x06 0x2A02 bad).charge 0x13 0x06 0x2A02

theorem State.outputFault_pol (s : State) (bad : Nat) :
    (s.outputFault bad).pol = { s.pol with faultMask := bad, outFaults := satAdd 32 s.pol.outFaults 1 } := by
  unfold State.outputFault
  rw [State.charge_pol, State.emit_pol]

/-- The mismatches in a row of both balls, once their levels are read. -/
def State.readMisses (s : State) (a b : Bool) : Nat × Nat :=
  (mismatches a s.outputLevels.1 s.pol.mis.1, mismatches b s.outputLevels.2 s.pol.mis.2)

/-- The state in which the comparison has been noted. -/
def State.compared (s : State) (m : Nat × Nat) : State := { s with pol := s.pol.compared s.now m }

section
variable {a b : Bool} (on : s.powered = true) (up : s.ownState 0x06 ≠ stStarting) (due : s.pol.readAt + 500000 ≤ s.now)
include on up due

theorem State.readback_due {m : Nat × Nat} (misses : s.readMisses a b = m) : s.readback a b =
    let bad := b2n (m.1 == 2) + 2 * b2n (m.2 == 2)
    let t := (s.compared m).outputFault bad
    if bad = 0 || s.pol.faultMask != 0 then s.compared m else if t.pol.out = 1 then t.endRelease else t := by
  subst misses
  exact if_neg (by simp [on, up, due])

theorem State.readback_matches (ma : a = s.outputLevels.1) (mb : b = s.outputLevels.2) : (s.readback a b).pol = { s.pol with
    readAt := s.now, mis := (0, 0), matches_ := min 100 (s.pol.matches_ + 1), faultMask := if 99 ≤ s.pol.matches_ then 0 else s.pol.faultMask } := by
  have misses : s.readMisses a b = (0, 0) := Prod.ext (mismatches_met ma _) (mismatches_met mb _)
  have full : min 100 (s.pol.matches_ + 1) = 100 ↔ 99 ≤ s.pol.matches_ := by omega
  rw [State.readback_due on up due misses]
  simp [State.compared, Pol.compared, b2n, full]

/-- One mismatch of SE_A is no fault yet. -/
theorem State.readback_first (ma : a ≠ s.outputLevels.1) (mb : b = s.outputLevels.2) (none_ : s.pol.mis.1 = 0) : (s.readback a b).pol = { s.pol with
    readAt := s.now, mis := (1, 0), matches_ := 0 } := by
  have misses : s.readMisses a b = (1, 0) := Prod.ext ((mismatches_missed ma _).trans (by rw [none_]; rfl)) (mismatches_met mb _)
  rw [State.readback_due on up due misses]
  rfl

/-- The second mismatch of SE_A in a row is a fault, and ends a release but not a latch. -/
theorem State.readback_faults (ma : a ≠ s.outputLevels.1) (mb : b = s.outputLevels.2) (some_ : 1 ≤ s.pol.mis.1) (sound : s.pol.faultMask = 0) :
    (s.readback a b).pol.faultMask = 1 ∧ (s.readback a b).pol.outFaults = satAdd 32 s.pol.outFaults 1 ∧
      (s.readback a b).pol.out = if s.pol.out = 1 then 0 else s.pol.out := by
  have misses : s.readMisses a b = (2, 0) := Prod.ext ((mismatches_missed ma _).trans (by omega)) (mismatches_met mb _)
  have pol := (s.compared (2, 0)).outputFault_pol 1
  have run : s.readback a b = if ((s.compared (2, 0)).outputFault 1).pol.out = 1 then ((s.compared (2, 0)).outputFault 1).endRelease
      else (s.compared (2, 0)).outputFault 1 :=
    (State.readback_due on up due misses).trans (if_neg (by rw [sound]; decide))
  rw [run]
  generalize (s.compared (2, 0)).outputFault 1 = t at pol
  have out : t.pol.out = s.pol.out := by
    rw [pol]
    rfl
  rw [out]
  by_cases released : s.pol.out = 1
  · obtain ⟨w, f, d, n, ended⟩ := State.endRelease_pol (s := t) (by omega)
    rw [if_pos released, if_pos released, ended, pol]
    exact ⟨rfl, rfl, rfl⟩
  · rw [if_neg released, if_neg released, pol]
    exact ⟨rfl, rfl, rfl⟩

end

end Sys2Proof.Machine
end

section
/-! SUPPORT. The engine state: what its report makes of a release or latch, and the latch that resumes after a reset (R231, R239, R240, R249). -/

namespace Sys2Proof.Machine
open Sys2Proof

/-! ## The outputs' configuration and the object of the engine state (R22, R239) -/

theorem kvGet?_append {α : Type} (l r : List (Nat × α)) (k : Nat) : kvGet? (l ++ r) k = (kvGet? l k).or (kvGet? r k) := by
  induction l with
  | nil => rfl
  | cons e l ih =>
    rw [List.cons_append, kvGet?, kvGet?]
    split
    · rfl
    · exact ih

/-- A filter on keys leaves what is read under a key that passes it, and nothing under one that does not. -/
theorem kvGet?_filter {α : Type} (p : Nat → Bool) (l : List (Nat × α)) (k : Nat) :
    kvGet? (l.filter (fun e => p e.1)) k = if p k then kvGet? l k else none := by
  induction l with
  | nil => simp [kvGet?]
  | cons e l ih =>
    obtain ⟨j, v⟩ := e
    rw [List.filter_cons, kvGet?]
    by_cases same : k = j
    · subst same
      by_cases passes : p k = true
      · simp [passes, kvGet?]
      · simp [passes, ih]
    · rw [if_neg same, ← ih]
      split
      · rw [kvGet?, if_neg same]
      · rfl

theorem kvGet?_kvSet_other {α : Type} [DecidableEq α] (d : α) (l : List (Nat × α)) {k j : Nat} (v : α) (h : j ≠ k) :
    kvGet? (kvSet d l k v) j = kvGet? l j := by
  unfold kvSet
  split
  · exact kvGet?_kvDel_other l k j h
  · exact kvGet?_kvPut_other l k j v h

/-- A copy of the stored objects reads the same under every key under which the stores do. -/
theorem State.kvGet?_snapRange_congr {s t : State} {k : Nat} (reram : kvGet? t.rr.objs k = kvGet? s.rr.objs k) (ram : kvGet? t.objs k = kvGet? s.objs k)
    (lo hi : Nat) : kvGet? (t.snapRange lo hi) k = kvGet? (s.snapRange lo hi) k := by
  have read := fun l : Objs => kvGet?_filter (fun j => decide (lo * 256 ≤ j) && decide (j < (hi + 1) * 256)) l k
  rw [State.snapRange, State.snapRange, kvGet?_append, kvGet?_append, read, read, read, read, reram, ram]

/-- The identifier of the outputs' messages collides with none of those that they and the dictionary use (R253). -/
def State.outConsistent (s : State) : Bool :=
  s.obj 0x2A10 1 != s.obj 0x2A21 1 && s.obj 0x2A10 1 != s.obj 0x2A22 2 && !s.inBdpRange (s.obj 0x2A10 1)

/-- The configuration that the outputs take is the present one where it is consistent, else the one in force (R22, R23). -/
theorem State.outNow_eq (s : State) (ix sub : Nat) : s.outNow ix sub =
    if s.outConsistent then snapVal (s.snapRange 0x2A10 0x2A22) ix sub else s.conf 0x2A10 ix sub := by
  have snap : s.outSnapshot = s.snapshot 0x2A10 0x2A10 0x2A22 s.outConsistent 0x06 0x2A05 (256 * 0x2A10 + 1) := rfl
  rw [State.outNow, State.outConf, snap, State.snapshot]
  split
  · rw [State.conf]
    dsimp only
    rw [kvGet?_kvPut_same]
  · split
    · rfl
    · exact (KeepsField.emit (sets := []) _ _ _ _).conf (by decide) ix sub

/-- The report of the engine state by the host is no part of the source of the engine state (R239). -/
theorem State.outNow_setObj_engine (s : State) (v : Nat) : (s.setObj 0x2A22 5 v).outNow 0x2A22 1 = s.outNow 0x2A22 1 := by
  have obj {ix sub : Nat} (fits : sub < 256) (other : (ix, sub) ≠ (0x2A22, 5)) : (s.setObj 0x2A22 5 v).obj ix sub = s.obj ix sub :=
    State.obj_setObj_other s v (by decide) fits other
  have same : (s.setObj 0x2A22 5 v).outConsistent = s.outConsistent := by
    simp only [State.outConsistent, State.inBdpRange, List.any_cons, List.any_nil]
    rw [obj (by decide) (by decide), obj (by decide) (by decide), obj (by decide) (by decide), obj (by decide) (by decide), obj (by decide) (by decide)]
  have ram : kvGet? (s.setObj 0x2A22 5 v).objs (key 0x2A22 1) = kvGet? s.objs (key 0x2A22 1) := kvGet?_kvSet_other _ _ _ (by decide)
  have copy : snapVal ((s.setObj 0x2A22 5 v).snapRange 0x2A10 0x2A22) 0x2A22 1 = snapVal (s.snapRange 0x2A10 0x2A22) 0x2A22 1 := by
    rw [snapVal, snapVal, kvGet, kvGet, State.kvGet?_snapRange_congr (s := s) (t := s.setObj 0x2A22 5 v) rfl ram]
  have conf : (s.setObj 0x2A22 5 v).conf 0x2A10 0x2A22 1 = s.conf 0x2A10 0x2A22 1 := by
    rw [State.conf, State.conf, State.setObj_snaps, obj (by decide) (by decide)]
  rw [State.outNow_eq, State.outNow_eq, same, copy, conf]

variable {s : State}

/-! ## Rooster under the engine state (R92, R227) -/

theorem KeepsUnits.muteOff (s : State) : KeepsUnits s s.muteOff := by
  unfold State.muteOff
  refine .emitIf ?_
  exact ⟨⟨rfl, rfl, rfl, rfl, rfl⟩, rfl⟩

theorem KeepsUnits.setToneStep (s : State) (n : Nat) : KeepsUnits s (s.setToneStep n) := by
  unfold State.setToneStep
  refine .emitIf ?_
  exact ⟨⟨rfl, rfl, rfl, rfl, rfl⟩, rfl⟩

theorem KeepsUnits.roosterLock (s : State) : KeepsUnits s s.roosterLock :=
  have begins : KeepsUnits s { s with aon := { s.aon with rooster := { s.aon.rooster with st := 1, base := 0, lockAt := s.aon.clock, lastPoll := s.aon.clock } } } :=
    ⟨⟨rfl, rfl, rfl, rfl, rfl⟩, rfl⟩
  (begins.trans (.muteOff _)).trans (.setToneStep _ 0)

theorem KeepsUnits.roosterUnlock (s : State) : KeepsUnits s s.roosterUnlock :=
  have begins : KeepsUnits s { s with aon := { s.aon with rooster := { s.aon.rooster with st := 0, base := 0 } } } := ⟨⟨rfl, rfl, rfl, rfl, rfl⟩, rfl⟩
  (begins.trans (.muteOff _)).trans (.setToneStep _ 0)

theorem State.roosterUnlock_now (s : State) : s.roosterUnlock.now = s.now := by
  unfold State.roosterUnlock State.setToneStep State.muteOff
  simp

theorem State.roosterRest_keeps (s : State) :
    (∃ due, s.roosterRest.pol = { s.pol with lockDue := due }) ∧ s.roosterRest.now = s.now ∧ s.roosterRest.sup = s.sup := by
  unfold State.roosterRest
  split
  · exact ⟨⟨_, rfl⟩, rfl, rfl⟩
  · exact ⟨⟨_, rfl⟩, s.roosterUnlock_now, (KeepsUnits.roosterUnlock s).sup⟩

/-! ## A release becomes LATCHED (R231, R240) -/

/-- The outputs become LATCHED with p as policy's record: it is said, the driver is bound, and the outcome is LATCHED. -/
def State.latchAs (s : State) (p : Pol) (d1 d2 cls zone flags row row2 src : Nat) (id : Bytes) : State :=
  ((({ s with pol := p } : State).emit 0x06 0x2A01 2).bind d1 d2 cls zone flags row ocLatched).outcome ocLatched 0 cls zone row row2 flags src id

theorem State.latchAs_pol (s : State) (p : Pol) (d1 d2 cls zone flags row row2 src : Nat) (id : Bytes) : ∃ f d n,
    (s.latchAs p d1 d2 cls zone flags row row2 src id).pol = { p with
      driver := d1, driver2 := d2, bindFlags := flags, bound := true, boundRow := row, ambiguous := bit flags 1, rebind := none, outcome := ocLatched,
      cause := 0, cls := cls, zone := zone, row := row, row2 := row2, flags := f, decMs := d, src := src, messages := n } := by
  unfold State.latchAs
  obtain ⟨n, said⟩ := ((({ s with pol := p } : State).emit 0x06 0x2A01 2).bind d1 d2 cls zone flags row ocLatched).outcome_pol ocLatched 0 cls zone row row2
    flags src id
  rw [State.bind_pol, State.emit_pol] at said
  exact ⟨_, _, n, said⟩

/-- A release that policy's record p held has become LATCHED in the record q, and its driver is bound. -/
structure Latches (p q : Pol) : Prop where
  out : q.out = 2
  latch : ∃ x, q.latch = some x ∧ x.driver = leNat (p.partners.headD noId) ∧ q.driver = x.driver
  bound : q.bound = true
  outcome : q.outcome = ocLatched

/-- What is reported of the engine in a record p stands in q as well. -/
structure KeepsReport (p q : Pol) : Prop where
  engine : q.engine = p.engine
  engAt : q.engAt = p.engAt
  stale : q.stale = p.stale
  door : q.door = p.door

theorem KeepsReport.refl (p : Pol) : KeepsReport p p := ⟨rfl, rfl, rfl, rfl⟩

theorem KeepsReport.trans {p q r : Pol} (h : KeepsReport p q) (g : KeepsReport q r) : KeepsReport p r :=
  ⟨g.engine.trans h.engine, g.engAt.trans h.engAt, g.stale.trans h.stale, g.door.trans h.door⟩

theorem State.latchNow_latches (s : State) : Latches s.pol s.latchNow.pol ∧ KeepsReport s.pol s.latchNow.pol := by
  have latch : s.latchNow = s.latchAs _ _ _ _ _ _ _ _ _ _ := rfl
  obtain ⟨f, d, n, pol⟩ := s.latchAs_pol _ _ _ _ _ _ _ _ _ _
  rw [latch, pol]
  exact ⟨⟨rfl, ⟨_, rfl, rfl, rfl⟩, rfl, rfl⟩, ⟨rfl, rfl, rfl, rfl⟩⟩

theorem KeepsReport.endRelease (s : State) : KeepsReport s.pol s.endRelease.pol := by
  by_cases locked : s.pol.out = 0
  · rw [State.endRelease_locked locked]
    exact .refl _
  · obtain ⟨w, f, d, n, pol⟩ := State.endRelease_pol locked
    rw [pol]
    exact ⟨rfl, rfl, rfl, rfl⟩

theorem KeepsReport.unbind (s : State) (cause : Nat) : KeepsReport s.pol (s.unbind cause).pol := by
  obtain ⟨_, _, _, _, _, _, pol⟩ := s.unbind_binding cause
  rw [pol]
  exact ⟨rfl, rfl, rfl, rfl⟩

/-! ## The report (R92, R227, R231, R239) -/

/-- The state in which the engine is known to run, and Rooster rests. -/
def State.engineStarts (s : State) : State := ({ s with pol := { s.pol with engineKnown := true, engine := true } } : State).roosterRest

theorem State.engineStarts_keeps (s : State) : (∃ due, s.engineStarts.pol = { s.pol with engineKnown := true, engine := true, lockDue := due }) ∧
    s.engineStarts.now = s.now ∧ s.engineStarts.trustLost = s.trustLost := by
  obtain ⟨⟨due, pol⟩, now, sup⟩ := State.roosterRest_keeps { s with pol := { s.pol with engineKnown := true, engine := true } }
  refine ⟨⟨due, pol⟩, now, ?_⟩
  have sup : s.engineStarts.sup = s.sup := sup
  exact State.trustLost_congr sup

/-- A release that still stands, with trust in service: what a running engine latches. -/
def State.latchable (s : State) : Bool := s.pol.out = 1 && decide (s.now < s.pol.endAt) && !s.trustLost

theorem State.latchable_iff (s : State) : s.latchable = true ↔ s.pol.out = 1 ∧ s.now < s.pol.endAt ∧ s.trustLost = false := by
  simp [State.latchable, and_assoc]

theorem State.engineStarts_latchable (s : State) : s.engineStarts.latchable = s.latchable := by
  obtain ⟨⟨due, pol⟩, now, trust⟩ := s.engineStarts_keeps
  rw [State.latchable, pol, now, trust]
  rfl

theorem State.engineState_true (s : State) : s.engineState true = if s.pol.engine then { s with pol := { s.pol with engineKnown := true } }
    else if s.engineStarts.latchable then s.engineStarts.latchNow else s.engineStarts := rfl

/-- A lock instant that waited for the engine's stop comes (R227). -/
def State.lockWaited (s : State) : State :=
  if s.pol.lockDue && s.pol.locked then { s.roosterLock with pol := { s.roosterLock.pol with lockDue := false } } else s

theorem State.lockWaited_keeps (s : State) : (∃ due, s.lockWaited.pol = { s.pol with lockDue := due }) ∧ s.lockWaited.sup = s.sup := by
  unfold State.lockWaited
  split
  · have keeps := KeepsUnits.roosterLock s
    exact ⟨⟨false, by rw [keeps.pol]⟩, keeps.sup⟩
  · exact ⟨⟨_, rfl⟩, rfl⟩

/-- The state in which the engine is known to stand, and a stop has unbound the driver. -/
def State.engineUnbinds (s : State) : State :=
  let t : State := { s with pol := { s.pol with engineKnown := true, engine := false } }
  if s.pol.engine then t.unbind 1 else t

/-- The engine of a record p stands in the record q, and its stop has unbound the driver. -/
structure EngineStops (p q : Pol) : Prop where
  engine : q.engine = false
  bound : p.engine = true → q.bound = false
  out : q.out = p.out
  engAt : q.engAt = p.engAt
  stale : q.stale = p.stale
  door : q.door = p.door

theorem State.engineUnbinds_stops (s : State) : EngineStops s.pol s.engineUnbinds.pol ∧ s.engineUnbinds.sup = s.sup := by
  unfold State.engineUnbinds
  dsimp only
  split
  · obtain ⟨_, _, _, _, _, _, pol⟩ := State.unbind_binding { s with pol := { s.pol with engineKnown := true, engine := false } } 1
    rw [pol]
    exact ⟨⟨rfl, fun _ => rfl, rfl, rfl, rfl, rfl⟩, State.unbind_sup _ _⟩
  · next standing => exact ⟨⟨rfl, fun running => absurd running standing, rfl, rfl, rfl, rfl⟩, rfl⟩

theorem State.engineStops_stops (s : State) : EngineStops s.pol s.engineUnbinds.lockWaited.pol ∧ s.engineUnbinds.lockWaited.trustLost = s.trustLost := by
  obtain ⟨⟨due, pol⟩, kept⟩ := s.engineUnbinds.lockWaited_keeps
  obtain ⟨⟨engine, bound, out, engAt, stale, door⟩, sup⟩ := s.engineUnbinds_stops
  refine ⟨?_, State.trustLost_congr (kept.trans sup)⟩
  rw [pol]
  exact ⟨engine, bound, out, engAt, stale, door⟩

theorem State.engineState_false (s : State) : s.engineState false =
    let t := s.engineUnbinds.lockWaited
    if t.pol.out = 2 && t.trustLost then t.endRelease else t := rfl

/-- A stop of the engine leaves a release, and a latch with trust in service. -/
theorem State.engineState_stops (h : s.pol.out ≠ 2 ∨ s.trustLost = false) : s.engineState false = s.engineUnbinds.lockWaited := by
  obtain ⟨stops, trust⟩ := s.engineStops_stops
  rw [State.engineState_false]
  refine if_neg ?_
  rw [stops.out, trust]
  simpa [or_iff_not_imp_left] using h

/-- A report of the engine state is taken, whatever it makes of release and latch. -/
theorem State.engineState_reports (s : State) (v : Bool) : KeepsReport { s.pol with engine := v } (s.engineState v).pol := by
  cases v with
  | true =>
    rw [State.engineState_true]
    obtain ⟨⟨due, pol⟩, -, -⟩ := s.engineStarts_keeps
    have starts : KeepsReport { s.pol with engine := true } s.engineStarts.pol := by
      rw [pol]
      exact ⟨rfl, rfl, rfl, rfl⟩
    split
    · next running => exact ⟨running, rfl, rfl, rfl⟩
    · split
      · exact starts.trans s.engineStarts.latchNow_latches.2
      · exact starts
  | false =>
    rw [State.engineState_false]
    obtain ⟨⟨engine, -, -, engAt, stale, door⟩, -⟩ := s.engineStops_stops
    have stops : KeepsReport { s.pol with engine := false } s.engineUnbinds.lockWaited.pol := ⟨engine, engAt, stale, door⟩
    dsimp only
    split
    · exact stops.trans (.endRelease _)
    · exact stops

theorem State.engineState_latches (stopped : s.pol.engine = false) (may : s.latchable = true) :
    Latches s.pol (s.engineState true).pol ∧ (s.engineState true).pol.engine = true := by
  obtain ⟨⟨due, pol⟩, -, -⟩ := s.engineStarts_keeps
  rw [State.engineState_true, if_neg (by rw [stopped]; decide), if_pos (s.engineStarts_latchable.trans may)]
  have latched := s.engineStarts.latchNow_latches
  rw [pol] at latched
  obtain ⟨⟨out, latch, bound, outcome⟩, report⟩ := latched
  exact ⟨⟨out, latch, bound, outcome⟩, report.engine⟩

theorem State.engineState_leaves (stopped : s.pol.engine = false) (not : s.latchable = false) :
    ∃ due, (s.engineState true).pol = { s.pol with engineKnown := true, engine := true, lockDue := due } := by
  rw [State.engineState_true, if_neg (by rw [stopped]; decide), if_neg (by rw [s.engineStarts_latchable, not]; decide)]
  exact s.engineStarts_keeps.1

/-! ## The report by the host (R239) -/

theorem State.latchable_setObj (s : State) (ix sub v : Nat) : (s.setObj ix sub v).latchable = s.latchable := by
  rw [State.latchable, State.latchable, State.trustLost_congr (s.setObj_sup ix sub v), State.setObj_pol, State.setObj_now]

section
variable {u : State} {c : Client} (host : u.outNow 0x2A22 1 = 0)
include host

/-- An accepted write of the engine state under source 0 is a report of it. -/
theorem asksWrite_engine {v : Byte} (acc : Accepts u c 0x2A22 5 [v]) :
    u.asksWrite c 0x2A22 5 [v] = ((u.setObj 0x2A22 5 (leNat [v])).engineState (leNat [v] == 1)).done c 0x2A22 5 := by
  have act := asksWrite_acts (wayOf c 0x2A22 5 [v]) rfl acc (by decide) (by decide) rfl (fun reram => absurd reram Bool.false_ne_true) rfl
  have report : (wayOf c 0x2A22 5 [v]).act u = ((u.setObj 0x2A22 5 (leNat [v])).engineState (leNat [v] == 1), abOk) :=
    congrArg (·, abOk) (if_pos ((u.outNow_setObj_engine _).trans host))
  rw [report] at act
  exact act

theorem asksWrite_engineRuns (acc : Accepts u c 0x2A22 5 [1]) (stopped : u.pol.engine = false) :
    (u.latchable = true → Latches u.pol (u.asksWrite c 0x2A22 5 [1]).pol ∧ (u.asksWrite c 0x2A22 5 [1]).pol.engine = true) ∧
    (u.latchable = false → ∃ due, (u.asksWrite c 0x2A22 5 [1]).pol = { u.pol with engineKnown := true, engine := true, lockDue := due }) := by
  rw [asksWrite_engine host acc, State.done, State.answer_pol]
  have pol := u.setObj_pol 0x2A22 5 (leNat [1])
  have may := u.latchable_setObj 0x2A22 5 (leNat [1])
  generalize u.setObj 0x2A22 5 (leNat [1]) = t at pol may
  rw [← pol, ← may]
  exact ⟨State.engineState_latches (pol ▸ stopped), State.engineState_leaves (pol ▸ stopped)⟩

theorem asksWrite_engineStands (acc : Accepts u c 0x2A22 5 [0]) (h : u.pol.out ≠ 2 ∨ u.trustLost = false) :
    EngineStops u.pol (u.asksWrite c 0x2A22 5 [0]).pol := by
  rw [asksWrite_engine host acc, State.done, State.answer_pol]
  have pol := u.setObj_pol 0x2A22 5 (leNat [0])
  have trust := State.trustLost_congr (u.setObj_sup 0x2A22 5 (leNat [0]))
  generalize u.setObj 0x2A22 5 (leNat [0]) = t at pol trust
  rw [← pol, ← trust] at h
  rw [← pol, show t.engineState (leNat [0] == 1) = t.engineUnbinds.lockWaited from State.engineState_stops h]
  exact t.engineStops_stops.1

end

/-! ## The engine-state frame (R239) -/

theorem State.engineFrame_other {f : CanFrame} (h : s.outNow 0x2A22 1 ≠ 1 ∨ f.data.length ≤ s.outNow 0x2A22 3 / 8 % 8) : s.engineFrame f = s := by
  refine if_pos ?_
  obtain source | short := h
  · simp [source]
  · simp [short]

theorem State.engineFrame_reports {f : CanFrame} (hears : s.outputsHear = true) (source : s.outNow 0x2A22 1 = 1) (base : f.ide = false)
    (data : f.rtr = false) (own : f.id = s.outNow 0x2A22 2) (long : s.outNow 0x2A22 3 / 8 % 8 < f.data.length) :
    KeepsReport { s.pol with
      engine := bit (f.data.getD (s.outNow 0x2A22 3 / 8 % 8) 0).toNat (s.outNow 0x2A22 3 % 8), engAt := s.now, stale := false,
      door := bit (f.data.getD 1 0).toNat 0 } (s.engineFrame f).pol := by
  unfold State.engineFrame
  dsimp only
  rw [if_neg (by simp [hears, source, base, data, own, long])]
  obtain ⟨engine, engAt, stale, door⟩ := State.engineState_reports { s.outSnapshot with pol := { s.outSnapshot.pol with
    engAt := s.now, stale := false, door := bit (f.data.getD 1 0).toNat 0 } } (bit (f.data.getD (s.outNow 0x2A22 3 / 8 % 8) 0).toNat (s.outNow 0x2A22 3 % 8))
  exact ⟨engine, engAt, stale, door⟩

theorem State.engineStale_waits (h : s.pol.stale = true ∨ s.now ≤ s.pol.engAt + s.outNow 0x2A22 4 * msNs) : s.engineStale = s := by
  refine if_neg ?_
  obtain said | soon := h
  · simp [said]
  · simp [soon]

theorem State.engineStale_due (new : s.pol.stale = false) (hears : s.outputsHear = true) (source : s.outNow 0x2A22 1 = 1)
    (late : s.pol.engAt + s.outNow 0x2A22 4 * msNs < s.now) : s.engineStale =
      ({ s with pol := { s.pol with stale := true } } : State).emit 0x06 0x2A04 (min ((s.now - s.pol.engAt) / msNs) 65535) :=
  if_pos (by simp [new, hears, source, late])

/-! ## A stored latch after a reset (R249) -/

/-- The flags of a latch that has resumed: it is LATCHED (bit 0), from a record (bit 5). -/
def Latch.resumedFlags (x : Latch) : Nat := (x.flags ||| 1) ||| 32

/-- Policy's record in which a stored latch stands again. -/
def Latch.resumedIn (x : Latch) (p : Pol) (now : Nat) : Pol :=
  { p with
    resume := false, out := 2, waveAt := now, msgAt := now, relFlags := x.resumedFlags, relCls := x.cls, relZone := x.zone, relRow := 0xFF,
    partners := [leBytes 8 x.driver], latch := some { x with flags := x.resumedFlags } }

section
variable {k : Nat} {x : Latch} (step6 : s.sup.step6 = some k) (stored : s.pol.resume = true) (latch : s.pol.latch = some x) (serves : s.policyServes = true)
include step6 stored latch serves

theorem State.latchResume_waits (unknown : s.pol.engineKnown = false) (soon : s.now ≤ k + 1000 * msNs) : s.latchResume = s := by
  rw [State.latchResume, step6, stored, latch]
  simp [serves, unknown, soon]

theorem State.latchResume_resumes (known : s.pol.engineKnown = true) (runs : s.pol.engine = true) (soon : s.now ≤ k + 1000 * msNs) :
    s.latchResume.pol.out = 2 ∧ s.latchResume.pol.resume = false ∧ s.latchResume.pol.outcome = ocLatched ∧ bit s.latchResume.pol.relFlags 5 = true ∧
      s.latchResume.pol.driver = x.driver ∧ s.latchResume.pol.bound = true := by
  have resumes : s.latchResume = s.latchAs (x.resumedIn s.pol s.now) x.driver x.driver2 x.cls x.zone x.resumedFlags 0xFF 0xFF 0 (leBytes 8 x.driver) := by
    rw [State.latchResume, step6, stored, latch]
    dsimp only
    rw [if_neg (by simp [serves]), if_pos (by simp [known, runs, soon])]
    rfl
  have resumed : bit x.resumedFlags 5 = true := by
    rw [Latch.resumedFlags, bit, Nat.testBit_or, show Nat.testBit 32 5 = true by decide, Bool.or_true]
  obtain ⟨f, d, n, pol⟩ := s.latchAs_pol (x.resumedIn s.pol s.now) x.driver x.driver2 x.cls x.zone x.resumedFlags 0xFF 0xFF 0 (leBytes 8 x.driver)
  rw [resumes, pol]
  exact ⟨rfl, rfl, rfl, resumed, rfl, rfl⟩

theorem State.latchResume_clears (late : k + 1000 * msNs < s.now) :
    s.latchResume.pol = { s.pol with resume := false, latch := none } := by
  rw [State.latchResume, step6, stored, latch]
  simp [serves, late]

end

end Sys2Proof.Machine
end

section
/-! Renewal, latch and end of a release: what each row does, from the lemmas above. -/

namespace Sys2Proof.Machine
open Sys2Proof

/-- Settles O48: each row is one comparison with its clock, and the engine's report latches a release that is still latchable and no other. -/
theorem releasesLatchAndRunOut : Obligations.ReleasesLatchAndRunOut := by
  intro s dt u p on
  have row (f : State → State) : finish s (u.whenOn f) = finish s (f u) := congrArg (finish s) (State.whenOn_on on f)
  have renewal : exec (.releaseRenewal dt) s = finish s u.renewal := row _
  have ended : exec (.releaseEnded dt) s = finish s u.releaseOver := row _
  have latchEnd : exec (.latchEnd dt) s = finish s u.latchEnd := row _
  have message : exec (.releaseMessage dt) s = finish s u.releaseMessage := row _
  have lost : exec (.trustLostMessage dt) s = finish s u.trustLostMessage := row _
  have resume : exec (.latchResume dt) s = finish s u.latchResume := row _
  have runs (c : Client) : exec (.engineRunning dt c 1) s = finish s (u.asksWrite c 0x2A22 5 [1]) := rfl
  have stands (c : Client) : exec (.engineRunning dt c 0) s = finish s (u.asksWrite c 0x2A22 5 [0]) := rfl
  have frame (bus : Nat) (f : CanFrame) : exec (.engineStateFrame dt bus f) s =
    finish s (if f.id = u.outNow 0x2A22 2 then u.frameIn bus f false else u) := rfl
  have stale : exec (.engineStateStale dt) s = finish s u.engineStale := rfl
  have readback (a b : Bool) : exec (.outputReadback dt a b) s = finish s (u.readback a b) := rfl
  rw [renewal, ended, latchEnd, message, lost, resume, stale]
  simp only [runs, stands, frame, readback]
  have pol : p = u.pol := rfl
  clear_value p u
  subst pol
  refine ⟨?renewWaits, ?renewDue, ?endWaits, ?ends, ?runs, ?stops, ?frame, ?report, ?latchWaits, ?latchEnds, ?stale, ?readback, ?sayWaits, ?say, ?lossWaits, ?loss,
    ?resume⟩
  case renewWaits => exact fun h => congrArg (finish s) (State.renewal_waits h)
  case renewDue =>
    intro stands due serves
    exact ⟨_, rfl, State.renewal_due stands due serves⟩
  case endWaits => exact fun h => congrArg (finish s) (State.releaseOver_waits h)
  case ends =>
    intro stands past
    obtain ⟨w, f, d, n, pol⟩ := State.endRelease_pol (s := u) (by omega)
    rw [State.releaseOver_ends stands past]
    refine ⟨_, rfl, ?_⟩
    rw [pol]
    exact ⟨rfl, rfl, rfl, rfl, rfl, rfl⟩
  case runs =>
    intro c acc host stopped
    obtain ⟨latches, leaves⟩ := asksWrite_engineRuns host acc stopped
    refine ⟨fun stands before trust => ?_, fun h => ?_⟩
    · obtain ⟨⟨out, ⟨x, latch, driver, binds⟩, bound, outcome⟩, engine⟩ := latches (u.latchable_iff.mpr ⟨stands, before, trust⟩)
      exact ⟨_, x, rfl, engine, out, latch, driver, binds, bound, outcome⟩
    · have not : u.latchable = false := Bool.eq_false_iff.mpr fun may => by
        obtain ⟨stands, before, trust⟩ := u.latchable_iff.mp may
        obtain other | past | lost := h
        · exact other stands
        · exact absurd before (Nat.not_lt.mpr past)
        · exact absurd (trust.symm.trans lost) (by decide)
      obtain ⟨due, pol⟩ := leaves not
      refine ⟨_, rfl, ?_⟩
      rw [pol]
      exact ⟨rfl, rfl, rfl, rfl⟩
  case stops =>
    intro c acc host h
    obtain ⟨engine, bound, out, -, -, -⟩ := asksWrite_engineStands host acc h
    exact ⟨_, rfl, engine, out, bound⟩
  case frame =>
    intro bus f
    exact ⟨fun other => congrArg (finish s) (if_neg other), fun own hears => congrArg (finish s) ((if_pos own).trans (if_neg (by simp [on, hears])))⟩
  case report =>
    intro v f
    refine ⟨State.engineFrame_other, fun hears source base data own long => ?_⟩
    obtain ⟨engine, engAt, stale, door⟩ := State.engineFrame_reports hears source base data own long
    exact ⟨engine, engAt, stale, door⟩
  case latchWaits => exact fun h => congrArg (finish s) (State.latchEnd_waits h)
  case latchEnds =>
    intro latched stopped still
    rw [State.latchEnd_ends latched stopped still]
    exact ⟨_, rfl, State.endRelease_unbound (by omega) 1⟩
  case stale =>
    exact ⟨fun h => congrArg (finish s) (State.engineStale_waits h), fun new hears source late => congrArg (finish s) (State.engineStale_due new hears source late)⟩
  case readback =>
    intro a b
    refine ⟨fun early => congrArg (finish s) (State.readback_early early), fun due up => ⟨fun ma mb => ?_, fun ma mb none_ => ?_, fun ma mb some_ sound => ?_⟩⟩
    · refine ⟨_, rfl, ?_⟩
      rw [State.readback_matches on up due ma mb]
      exact ⟨rfl, rfl, rfl, rfl⟩
    · refine ⟨_, rfl, ?_⟩
      rw [State.readback_first on up due ma mb none_]
      exact ⟨rfl, rfl, rfl, rfl⟩
    · exact ⟨_, rfl, State.readback_faults on up due ma mb some_ sound⟩
  case sayWaits => exact fun h => congrArg (finish s) (State.releaseMessage_waits h)
  case say =>
    intro stands due keys held
    obtain ⟨k, next, pol⟩ := State.releaseMessage_due on keys held (by omega) due
    refine ⟨_, rfl, ?_⟩
    rw [pol]
    exact ⟨rfl, next, rfl, rfl⟩
  case lossWaits => exact fun h => congrArg (finish s) (State.trustLostMessage_waits h)
  case loss => exact fun up first lost => congrArg (finish s) (State.trustLostMessage_first on up first lost)
  case resume =>
    intro k x step6 stored latch serves
    refine ⟨fun known runs soon => ⟨_, rfl, State.latchResume_resumes step6 stored latch serves known runs soon⟩, fun late => ⟨_, rfl, ?_⟩,
      fun unknown soon => congrArg (finish s) (State.latchResume_waits step6 stored latch serves unknown soon)⟩
    rw [State.latchResume_clears step6 stored latch serves late]
    exact ⟨rfl, rfl, rfl⟩

end Sys2Proof.Machine
end

section
/-! SUPPORT. The UHF path of the vehicle tag: what reaches a command, what a state change leaves, and the inventory round (R257, R264, R279, R287). -/

namespace Sys2Proof.Machine
open Sys2Proof

/-! ## What a command of the path finds (R287) -/

/-- The UHF field is present, and no reply is given yet, in the state v of a tag that has taken its configuration. -/
def State.uhfField (v : State) : State := { v with tagd := { v.tagd with uhf := true, uhfOut := [] } }

/-- The state in which a command finds a tag that serves the path: it is counted, and flag S1 has had its persistence. -/
def State.uhfMet (v : State) : State := v.uhfField.fieldCmd.s1Decay

section
variable {u v : State} {f : State → State}

theorem State.onUhf_silent (h : u.tagd.on = false ∨ u.rr.tag.killed = true) : u.onUhf f = u := by
  refine if_pos ?_
  rcases h with off | killed
  · simp [State.tagServes, off]
  · simp [State.tagServes, killed]

theorem State.onUhf_serving (serves : u.tagServes = true) (snap : u.tagSnapshot = v) :
    u.onUhf f = if v.tagConf 0x3010 1 = 0 ∨ v.tagd.job.isSome = true then v.uhfField else f v.uhfMet := by
  have answers : ¬(!u.tagServes) = true := by simp [serves]
  subst snap
  refine (if_neg answers).trans (if_congr ?_ rfl rfl)
  rw [Bool.or_eq_true, decide_eq_true_eq]
  rfl

/-- A command whose path is disabled, or that comes while a write is under way, has no more effect than its field. -/
theorem State.onUhf_disturbed (serves : u.tagServes = true) (snap : u.tagSnapshot = v) (h : v.tagConf 0x3010 1 = 0 ∨ v.tagd.job.isSome = true) :
    u.onUhf f = v.uhfField := (State.onUhf_serving serves snap).trans (if_pos h)

theorem State.onUhf_met (serves : u.tagServes = true) (snap : u.tagSnapshot = v) (on : v.tagConf 0x3010 1 ≠ 0) (idle : v.tagd.job = none) :
    u.onUhf f = f v.uhfMet := (State.onUhf_serving serves snap).trans (if_neg (by simp [on, idle]))

end

/-- The configuration that the tag takes changes neither its own record nor time (R287). -/
theorem State.tagSnapshot_keeps (u : State) : u.tagSnapshot.tagd = u.tagd ∧ u.tagSnapshot.aon = u.aon := by
  unfold State.tagSnapshot
  dsimp only
  split <;> exact ⟨State.snapshot_tagd .., State.snapshot_aon ..⟩

@[simp] theorem State.fieldCmd_tagd (s : State) : s.fieldCmd.tagd = s.tagd := by
  unfold State.fieldCmd
  split <;> rfl

@[simp] theorem State.fieldCmd_aon (s : State) : s.fieldCmd.aon = s.aon := by
  unfold State.fieldCmd
  split <;> rfl

/-- The fall-back of S1 changes no more of the tag's record than the flags. -/
theorem State.s1Decay_eq (s : State) : ∃ n l, s.s1Decay = { s with free := n, tagd := { s.tagd with flags := l } } ∧ nth false l 0 = nth false s.tagd.flags 0 := by
  unfold State.s1Decay
  dsimp only
  split
  · exact ⟨_, _, rfl, by simp [setAt, nth]⟩
  · exact ⟨_, _, rfl, rfl⟩

/-- A command is met with no reply given, no write under way and no time passed. -/
theorem State.uhfMet_begins {v : State} (idle : v.tagd.job = none) :
    v.uhfMet.tagd.uhfOut = [] ∧ v.uhfMet.tagd.job = none ∧ v.uhfMet.aon = v.aon := by
  obtain ⟨n, l, met, -⟩ := v.uhfField.fieldCmd.s1Decay_eq
  have met : v.uhfMet = _ := met
  rw [met]
  refine ⟨?_, ?_, ?_⟩
  · exact congrArg TagDom.uhfOut (State.fieldCmd_tagd v.uhfField)
  · exact (congrArg TagDom.job (State.fieldCmd_tagd v.uhfField)).trans idle
  · exact State.fieldCmd_aon v.uhfField

/-! ## Sessions and state changes (R264, R279) -/

@[simp] theorem State.sessDrop_tagd (s : State) (x : Option (Option Nat)) : (s.sessDrop x).tagd = s.tagd := by
  unfold State.sessDrop
  split <;> rfl

@[simp] theorem State.sessDrop_rr (s : State) (x : Option (Option Nat)) : (s.sessDrop x).rr = s.rr := by
  unfold State.sessDrop
  split <;> rfl

@[simp] theorem State.uhfSessEnd_tagd (s : State) : s.uhfSessEnd.tagd = { s.tagd with uhfSess := none, uhfEnf := false } := by
  unfold State.uhfSessEnd
  dsimp only
  rw [State.sessDrop_tagd]

@[simp] theorem State.uhfSessEnd_rr (s : State) : s.uhfSessEnd.rr = s.rr := s.sessDrop_rr _

/-- A state change forgets a half of the kill password, and ends the session where the tag leaves the access state. -/
@[simp] theorem State.uhfTo_tagd (s : State) (x : UhfState) : (s.uhfTo x).tagd = { s.tagd with
    st := x, half := none, uhfSess := if s.tagd.st = .secured ∧ x ≠ .secured then none else s.tagd.uhfSess,
    uhfEnf := if s.tagd.st = .secured ∧ x ≠ .secured then false else s.tagd.uhfEnf } := by
  unfold State.uhfTo
  by_cases leaves : s.tagd.st = .secured ∧ x ≠ .secured
  · simp [leaves]
  · have stays : (decide (s.tagd.st = .secured) && x != .secured) = false := by simpa using leaves
    simp [stays, leaves]

@[simp] theorem State.uhfTo_rr (s : State) (x : UhfState) : (s.uhfTo x).rr = s.rr := by
  unfold State.uhfTo
  split
  · exact s.uhfSessEnd_rr
  · rfl

@[simp] theorem State.uhfSay_tagd (s : State) (l : List Bool) : (s.uhfSay l).tagd = { s.tagd with uhfOut := l } := rfl
@[simp] theorem State.uhfSay_rr (s : State) (l : List Bool) : (s.uhfSay l).rr = s.rr := rfl
@[simp] theorem State.flip_flags (s : State) (i : Nat) : (s.flip i).tagd.flags = setAt s.tagd.flags i (!nth false s.tagd.flags i) := rfl

/-! ## Select -/

/-- The flags after a Select whose mask matched or not (R264). -/
def selectedFlags (q : SelectCmd) (matched : Bool) (l : List Bool) : List Bool :=
  let asserted := setAt l q.target (q.target == 4)
  let deasserted := setAt l q.target (q.target != 4)
  let inverted := setAt l q.target (!nth false l q.target)
  let a := q.action % 8
  if matched then (if a ≤ 1 then asserted else if a = 3 then inverted else if a = 4 || a = 5 then deasserted else l)
  else (if a = 0 || a = 2 then deasserted else if a = 4 || a = 6 then asserted else if a = 7 then inverted else l)

/-- A Select makes the tag ready and changes no more than the flags. -/
theorem State.uhfSelect_spec (s : State) {q : SelectCmd} (target : q.target ≤ 4) (bank : q.bank ≠ 0) :
    (s.uhfSelect q).tagd.st = .ready ∧ (s.uhfSelect q).tagd.uhfOut = s.tagd.uhfOut ∧ (s.uhfSelect q).rr = s.rr ∧
      (s.uhfSelect q).tagd.flags = selectedFlags q (s.selMatches q) s.tagd.flags := by
  have same : (s.uhfTo .ready).selMatches q = s.selMatches q := by
    unfold State.selMatches
    rw [State.uhfTo_rr]
  have known : (decide (4 < q.target) || decide (q.bank = 0)) = false := by simp [bank, target]
  unfold State.uhfSelect selectedFlags
  rw [known, if_neg Bool.false_ne_true]
  dsimp only
  rw [same]
  split_ifs <;> simp [State.setFlag, State.flip]

/-! ## Slots (R264) -/

/-- A tag that has counted its slot replies in slot 0 with the RN16 it holds, and arbitrates in any other; the round stays. -/
structure MeetsSlot (s t : State) : Prop where
  slot : t.tagd.slot = s.tagd.slot
  q : t.tagd.q = s.tagd.q
  session : t.tagd.session = s.tagd.session
  flags : t.tagd.flags = s.tagd.flags
  zero : s.tagd.slot = 0 → t.tagd.st = .reply ∧ t.tagd.uhfOut = wbits t.tagd.rn
  other : s.tagd.slot ≠ 0 → t.tagd.st = .arbitrate ∧ t.tagd.uhfOut = s.tagd.uhfOut

theorem State.uhfSlot_meets (s : State) : MeetsSlot s s.uhfSlot := by
  unfold State.uhfSlot
  by_cases zero : s.tagd.slot = 0
  · rw [if_pos zero]
    constructor <;> simp [State.tagBits, zero]
  · rw [if_neg zero]
    constructor <;> simp [zero]

/-- A slot is drawn from 2^Q, and met. -/
theorem State.uhfDraw_meets (s : State) : ∃ t : State, MeetsSlot t s.uhfDraw ∧ t.tagd.slot < 2 ^ s.tagd.q ∧
    t.tagd = { s.tagd with slot := t.tagd.slot } :=
  ⟨_, State.uhfSlot_meets _, Nat.mod_lt _ (Nat.two_pow_pos _), rfl⟩

/-! ## The commands of a round (R264) -/

section
variable {w : State}

/-- Only a command after an acknowledgement inverts the session's flag. -/
theorem State.uhfLeave_before (h : w.tagd.st ≠ .acknowledged) (g : w.tagd.st ≠ .secured) : w.uhfLeave = w := if_neg (by simp [h, g])

theorem State.uhfLeave_after (h : w.tagd.st = .acknowledged ∨ w.tagd.st = .secured) : w.uhfLeave = w.flip w.tagd.session := if_pos (by simpa using h)

/-- What of a Query a tag takes part in: its Sel and the flag of its session. -/
def State.queried (w : State) (qc : QueryCmd) : Prop :=
  (qc.sel < 2 ∨ (qc.sel = 3 ↔ nth false w.tagd.flags 4 = true)) ∧ nth false w.tagd.flags qc.session = qc.target

theorem State.queried_iff (w : State) (qc : QueryCmd) : w.queried qc ↔
    ((decide (qc.sel < 2) || (qc.sel == 3) == nth false w.tagd.flags 4) && nth false w.tagd.flags qc.session == qc.target) = true := by
  unfold State.queried
  have sl : ((qc.sel == 3) == nth false w.tagd.flags 4) = true ↔ (qc.sel = 3 ↔ nth false w.tagd.flags 4 = true) := by
    rw [beq_iff_eq, Bool.eq_iff_iff, beq_iff_eq]
  rw [Bool.and_eq_true, Bool.or_eq_true, decide_eq_true_eq, sl, beq_iff_eq]

/-- The round of a Query begins: its session, and its Q. -/
def State.joins (w : State) (qc : QueryCmd) : State :=
  { w.uhfTo .ready with tagd := { (w.uhfTo .ready).tagd with session := qc.session, q := qc.q % 16 } }

/-- A Query in a session: of the tag as the session's flag leaves it, the round is joined or only noted. -/
theorem State.uhfQuery_of_session {qc : QueryCmd} (session : qc.session < 4) {v : State}
    (left : (if qc.session = w.tagd.session then w.uhfLeave else w) = v) :
    (v.queried qc → w.uhfQuery qc = (v.joins qc).uhfDraw) ∧
    (¬v.queried qc → w.uhfQuery qc = { v.uhfTo .ready with tagd := { (v.uhfTo .ready).tagd with session := qc.session } }) := by
  unfold State.uhfQuery
  rw [Nat.mod_eq_of_lt session, left]
  exact ⟨fun mine => if_pos ((v.queried_iff qc).mp mine), fun other => if_neg fun mine => other ((v.queried_iff qc).mpr mine)⟩

theorem State.uhfQuery_flags {qc : QueryCmd} (session : qc.session < 4) {v : State}
    (left : (if qc.session = w.tagd.session then w.uhfLeave else w) = v) : (w.uhfQuery qc).tagd.flags = v.tagd.flags := by
  obtain ⟨join, note⟩ := State.uhfQuery_of_session session left
  by_cases mine : v.queried qc
  · rw [join mine]
    obtain ⟨t, meets, -, drawn⟩ := (v.joins qc).uhfDraw_meets
    rw [meets.flags, drawn]
    simp [State.joins]
  · rw [note mine]
    simp

/-- A Query before an acknowledgement draws a slot where the tag takes part, and makes it ready where not. -/
theorem State.uhfQuery_before (h : w.tagd.st ≠ .acknowledged) (g : w.tagd.st ≠ .secured) (silent : w.tagd.uhfOut = []) {qc : QueryCmd}
    (session : qc.session < 4) (q : qc.q < 16) :
    (w.uhfQuery qc).tagd.session = qc.session ∧ (w.uhfQuery qc).tagd.flags = w.tagd.flags ∧
      (¬w.queried qc → (w.uhfQuery qc).tagd.st = .ready ∧ (w.uhfQuery qc).tagd.uhfOut = []) ∧
      (w.queried qc → let t := (w.uhfQuery qc).tagd
        t.q = qc.q ∧ t.slot < 2 ^ qc.q ∧ (t.slot = 0 → t.st = .reply ∧ t.uhfOut = wbits t.rn) ∧ (t.slot ≠ 0 → t.st = .arbitrate ∧ t.uhfOut = [])) := by
  have left : (if qc.session = w.tagd.session then w.uhfLeave else w) = w := by rw [State.uhfLeave_before h g, ite_self]
  obtain ⟨join, note⟩ := State.uhfQuery_of_session session left
  refine ⟨?_, State.uhfQuery_flags session left, fun other => ?_, fun mine => ?_⟩
  · by_cases mine : w.queried qc
    · rw [join mine]
      obtain ⟨t, meets, -, drawn⟩ := (w.joins qc).uhfDraw_meets
      rw [meets.session, drawn]
      rfl
    · rw [note mine]
  · rw [note other]
    simp [silent]
  · rw [join mine]
    obtain ⟨t, meets, small, drawn⟩ := (w.joins qc).uhfDraw_meets
    have wide : (w.joins qc).tagd.q = qc.q := Nat.mod_eq_of_lt q
    rw [wide] at small
    have quiet : t.tagd.uhfOut = [] := by
      rw [drawn]
      simp [State.joins, silent]
    have width : t.tagd.q = qc.q := by
      rw [drawn]
      exact wide
    refine ⟨meets.q.trans width, meets.slot ▸ small, fun zero => meets.zero (meets.slot ▸ zero), fun other => ?_⟩
    exact quiet ▸ meets.other (meets.slot ▸ other)

/-- A QueryRep or QueryAdjust of another session, and of a tag that is ready, has no effect. -/
theorem State.uhfRep_ignored {session : Nat} (h : session ≠ w.tagd.session ∨ w.tagd.st = .ready) : w.uhfRep session = w := by
  unfold State.uhfRep
  rcases h with other | ready
  · rw [if_pos other]
  · rw [ready]
    exact ite_self w

theorem State.uhfAdjust_ignored {session : Nat} (h : session ≠ w.tagd.session ∨ w.tagd.st = .ready) (upDn : Nat) : w.uhfAdjust session upDn = w := by
  unfold State.uhfAdjust
  rcases h with other | ready
  · rw [if_pos (by simp [other])]
  · rw [ready]
    exact ite_self w

/-- After an acknowledgement a command of the session ends the tag's part in the round. -/
theorem State.uhfRep_after (h : w.tagd.st = .acknowledged ∨ w.tagd.st = .secured) : w.uhfRep w.tagd.session = w.uhfLeave.uhfTo .ready := by
  unfold State.uhfRep
  rw [if_neg (not_not_intro rfl)]
  rcases h with st | st <;> rw [st]

/-- The UpDn codes that the standard knows. -/
theorem State.uhfAdjust_known {upDn : Nat} (code : upDn = 0 ∨ upDn = 3 ∨ upDn = 6) :
    (decide (w.tagd.session ≠ w.tagd.session) || !(upDn == 0 || upDn == 3 || upDn == 6)) = false := by
  rcases code with rfl | rfl | rfl <;> simp

theorem State.uhfAdjust_after (h : w.tagd.st = .acknowledged ∨ w.tagd.st = .secured) {upDn : Nat} (code : upDn = 0 ∨ upDn = 3 ∨ upDn = 6) :
    w.uhfAdjust w.tagd.session upDn = w.uhfLeave.uhfTo .ready := by
  unfold State.uhfAdjust
  rw [State.uhfAdjust_known code, if_neg Bool.false_ne_true]
  rcases h with st | st <;> rw [st]

/-- What the end of a tag's part in the round leaves. -/
theorem State.uhfLeave_ready (h : w.tagd.st = .acknowledged ∨ w.tagd.st = .secured) :
    (w.uhfLeave.uhfTo .ready).tagd.st = .ready ∧
      (w.uhfLeave.uhfTo .ready).tagd.uhfSess = (if w.tagd.st = .secured then none else w.tagd.uhfSess) ∧
      (w.uhfLeave.uhfTo .ready).tagd.flags = setAt w.tagd.flags w.tagd.session (!nth false w.tagd.flags w.tagd.session) := by
  rw [State.uhfLeave_after h]
  simp [State.flip, State.setFlag]

theorem State.uhfRep_reply (st : w.tagd.st = .reply) :
    (w.uhfRep w.tagd.session).tagd.st = .arbitrate ∧ (w.uhfRep w.tagd.session).tagd.slot = 0x7FFF := by
  unfold State.uhfRep
  rw [if_neg (not_not_intro rfl), st]
  simp

/-- QueryRep counts the slot down; a slot that was 0 wraps (R264). -/
theorem State.uhfRep_arbitrate (st : w.tagd.st = .arbitrate) (silent : w.tagd.uhfOut = []) : let t := (w.uhfRep w.tagd.session).tagd
    t.slot = (if w.tagd.slot = 0 then 0x7FFF else w.tagd.slot - 1) ∧ (w.tagd.slot = 1 → t.st = .reply ∧ t.uhfOut = wbits t.rn) ∧
      (w.tagd.slot ≠ 1 → t.st = .arbitrate ∧ t.uhfOut = []) := by
  have counts : w.uhfRep w.tagd.session =
      ({ w with tagd := { w.tagd with slot := if w.tagd.slot = 0 then 0x7FFF else w.tagd.slot - 1 } } : State).uhfSlot := by
    unfold State.uhfRep
    rw [if_neg (not_not_intro rfl), st]
  have meets := State.uhfSlot_meets { w with tagd := { w.tagd with slot := if w.tagd.slot = 0 then 0x7FFF else w.tagd.slot - 1 } }
  rw [counts]
  refine ⟨meets.slot, fun one => meets.zero ?_, fun more => silent ▸ meets.other ?_⟩
  · simp [one]
  · dsimp only
    split <;> omega

/-- QueryAdjust draws anew with Q up, down or as it was (R264). -/
theorem State.uhfAdjust_draws (h : w.tagd.st = .reply ∨ w.tagd.st = .arbitrate) {upDn : Nat} (code : upDn = 0 ∨ upDn = 3 ∨ upDn = 6) :
    let t := (w.uhfAdjust w.tagd.session upDn).tagd
    t.q = (if upDn = 6 then min 15 (w.tagd.q + 1) else if upDn = 3 then w.tagd.q - 1 else w.tagd.q) ∧ t.slot < 2 ^ t.q ∧
      (t.slot = 0 → t.st = .reply) ∧ (t.slot ≠ 0 → t.st = .arbitrate) := by
  have draws : w.uhfAdjust w.tagd.session upDn =
      ({ w with tagd := { w.tagd with q := if upDn = 6 then min 15 (w.tagd.q + 1) else if upDn = 3 then w.tagd.q - 1 else w.tagd.q } } : State).uhfDraw := by
    unfold State.uhfAdjust
    rw [State.uhfAdjust_known code, if_neg Bool.false_ne_true]
    rcases h with st | st <;> rw [st]
  rw [draws]
  obtain ⟨t, meets, small, drawn⟩ := State.uhfDraw_meets
    { w with tagd := { w.tagd with q := if upDn = 6 then min 15 (w.tagd.q + 1) else if upDn = 3 then w.tagd.q - 1 else w.tagd.q } }
  have width := meets.q.trans (congrArg TagDom.q drawn)
  refine ⟨width, ?_, fun zero => (meets.zero (meets.slot ▸ zero)).1, fun other => (meets.other (meets.slot ▸ other)).1⟩
  rw [meets.slot, width]
  exact small

/-! ## Acknowledgement and the access state (R264, R259) -/

theorem State.uhfAck_reply (st : w.tagd.st = .reply) (silent : w.tagd.uhfOut = []) (rn : Word) :
    (rn ≠ w.tagd.rn → (w.uhfAck rn).tagd.st = .arbitrate ∧ (w.uhfAck rn).tagd.uhfOut = []) ∧
    (rn = w.tagd.rn → (w.uhfAck rn).tagd.st = .acknowledged ∧
      (w.uhfAck rn).tagd.uhfOut = withCrc (bitsOf (beBytes 2 w.rr.tag.pcWord ++ bytesOf w.rr.tag.uiiWords))) := by
  unfold State.uhfAck
  rw [st]
  dsimp only
  constructor
  · intro wrong
    rw [if_neg wrong]
    simp [silent]
  · intro right
    rw [if_pos right]
    simp

theorem State.uhfReady_waits (st : w.tagd.st = .ready) (rn : Word) : w.uhfAck rn = w ∧ w.uhfNak = w ∧ w.uhfReqRn rn = w := by
  unfold State.uhfAck State.uhfReqRn
  rw [st]
  exact ⟨rfl, if_pos st, rfl⟩

theorem State.uhfNak_arbitrates (st : w.tagd.st ≠ .ready) : w.uhfNak.tagd.st = .arbitrate ∧ w.uhfNak.rr = w.rr := by
  have falls : w.uhfNak = w.uhfTo .arbitrate := if_neg st
  rw [falls, State.uhfTo_tagd, State.uhfTo_rr]
  exact ⟨rfl, rfl⟩

/-- A reader session opens: the tag's record and its memory stay (R279). -/
theorem State.sessOpen_keeps (s : State) (path : Nat) : (s.sessOpen path).1.tagd = s.tagd ∧ (s.sessOpen path).1.rr.tag = s.rr.tag := by
  unfold State.sessOpen
  split
  · exact ⟨rfl, rfl⟩
  · split
    · next t n taken =>
      unfold State.takeService at taken
      split at taken
      · cases taken
      · obtain ⟨k, -, row⟩ := Option.map_eq_some_iff.mp taken
        obtain ⟨rfl, rfl⟩ := Prod.mk.inj row
        exact ⟨State.emit_tagd .., State.emit_rr_tag ..⟩
    · exact ⟨State.emit_tagd .., State.emit_rr_tag ..⟩

theorem State.uhfReqRn_wrong (st : w.tagd.st = .acknowledged) {rn : Word} (wrong : rn ≠ w.tagd.rn) : w.uhfReqRn rn = w := by
  unfold State.uhfReqRn
  rw [st]
  exact if_neg wrong

theorem State.uhfReqRn_right (st : w.tagd.st = .acknowledged) : let t := w.uhfReqRn w.tagd.rn
    t.tagd.st = .secured ∧ t.tagd.uhfOut = withCrc (wbits t.tagd.handle) ∧ t.tagd.flags = w.tagd.flags ∧ t.rr.tag = w.rr.tag := by
  unfold State.uhfReqRn
  rw [st]
  dsimp only
  rw [if_pos rfl]
  obtain ⟨tagd, memory⟩ := (w.tagBits 16).1.sessOpen_keeps 1
  have flags := congrArg TagDom.flags tagd
  exact ⟨rfl, rfl, flags, memory⟩

end

/-- Settles O50: what reaches a command is said once, and each command goes by the state in which it finds the tag. -/
theorem uhfInventoryRuns : Obligations.UhfInventoryRuns := by
  intro s dt q qc session upDn rn bits u cmds
  have turn : s.turn dt = u := rfl
  clear_value u
  intro v
  have snap : u.tagSnapshot = v := rfl
  clear_value v
  intro v1 w
  have alike {t : State} (h : ∀ f, u.onUhf f = t) : ∀ i ∈ cmds, exec i s = finish s t := by
    intro i mem
    simp only [cmds, List.mem_cons, List.not_mem_nil, or_false] at mem
    rw [← turn] at h
    rcases mem with rfl | rfl | rfl | rfl | rfl | rfl | rfl | rfl <;> exact congrArg (finish s) (h _)
  refine ⟨fun h => alike fun f => State.onUhf_silent h, fun serves h => alike fun f => State.onUhf_disturbed serves snap h, fun serves on idle => ?_⟩
  have run (f : State → State) : finish s ((s.turn dt).onUhf f) = finish s (f w) :=
    congrArg (finish s) ((congrArg (State.onUhf · f) turn).trans (State.onUhf_met serves snap on idle))
  obtain ⟨silent, -, -⟩ : w.tagd.uhfOut = [] ∧ _ := State.uhfMet_begins idle
  clear_value w
  have same {f : State → State} (noEffect : f w = w) : finish s ((s.turn dt).onUhf f) = finish s w := (run f).trans (congrArg (finish s) noEffect)
  refine ⟨run id, fun target bank => ⟨_, run (·.uhfSelect q), ?select⟩, fun h g session q => ⟨_, run (·.uhfQuery qc), ?query⟩,
    fun st session own => ⟨_, run (·.uhfQuery qc), ?requery⟩, fun h => ⟨same (State.uhfRep_ignored h), same (State.uhfAdjust_ignored h upDn)⟩, ?after,
    fun own st => ⟨_, run (·.uhfRep session), ?rep⟩, fun own st => ⟨_, run (·.uhfRep session), ?count⟩,
    fun own st code => ⟨_, run (·.uhfAdjust session upDn), ?adjust⟩, fun st => ⟨_, run (·.uhfAck rn), ?ack⟩, ?ready, fun st => ⟨_, run (·.uhfNak), ?nak⟩,
    fun st wrong => same (State.uhfReqRn_wrong st wrong), fun st right => ⟨_, run (·.uhfReqRn rn), ?reqRn⟩⟩
  case select =>
    obtain ⟨st, out, rr, flags⟩ := w.uhfSelect_spec target bank
    refine ⟨st, out.trans silent, congrArg ReRam.tag rr, ?_⟩
    dsimp only
    rw [flags]
    unfold selectedFlags
    refine ⟨?_, ?_, ?_, ?_, ?_, ?_, ?_, ?_⟩
    · rintro matched (a | a) <;> simp [matched, a]
    · rintro matched (a | a) <;> simp [matched, a]
    · intro matched a; simp [matched, a]
    · rintro matched (a | a | a) <;> simp [matched, a]
    · rintro missed (a | a) <;> simp [missed, a]
    · rintro missed (a | a) <;> simp [missed, a]
    · intro missed a; simp [missed, a]
    · rintro missed (a | a | a) <;> simp [missed, a]
  case query => exact State.uhfQuery_before h g silent session q
  case requery =>
    have left : (if qc.session = w.tagd.session then w.uhfLeave else w) = w.flip w.tagd.session := by rw [if_pos own, State.uhfLeave_after (.inl st)]
    exact State.uhfQuery_flags session left
  case after =>
    rintro rfl st code i (rfl | rfl)
    · exact ⟨_, run (·.uhfRep w.tagd.session), State.uhfRep_after st ▸ State.uhfLeave_ready st⟩
    · exact ⟨_, run (·.uhfAdjust w.tagd.session upDn), State.uhfAdjust_after st code ▸ State.uhfLeave_ready st⟩
  case rep => exact own ▸ State.uhfRep_reply st
  case count => exact own ▸ State.uhfRep_arbitrate st silent
  case adjust => exact own ▸ State.uhfAdjust_draws st code
  case ack => exact State.uhfAck_reply st silent rn
  case ready =>
    intro st
    obtain ⟨ack, nak, reqRn⟩ := State.uhfReady_waits st rn
    exact ⟨same ack, same nak, same reqRn⟩
  case nak =>
    obtain ⟨falls, rr⟩ := State.uhfNak_arbitrates st
    exact ⟨falls, congrArg ReRam.tag rr⟩
  case reqRn => exact right ▸ State.uhfReqRn_right st

end Sys2Proof.Machine
end

section
/-! SUPPORT. Access commands of a secured tag: reads, writes as they begin, the kill and the lock (R259, R264 to R267, R270 to R273, R280 to R282). -/

namespace Sys2Proof.Machine
open Sys2Proof

/-! ## Replies and refusals (R265) -/

/-- The error reply of a tag with handle h. -/
def uhfErrorBits (h : Word) (code : Nat) : List Bool := withCrc (true :: bitsOf [byte code] ++ wbits h)

/-- The success reply of a tag with handle h. -/
def uhfGoodBits (h : Word) (l : List Word) : List Bool := withCrc (false :: l.flatMap wbits ++ wbits h)

theorem State.uhfError_eq (s : State) (code : Nat) : s.uhfError code = s.uhfSay (uhfErrorBits s.tagd.handle code) := rfl

@[simp] theorem State.uhfOk_tagd (s : State) (l : List Word) : (s.uhfOk l).tagd = { s.tagd with uhfOut := uhfGoodBits s.tagd.handle l } := rfl
@[simp] theorem State.uhfOk_rr (s : State) (l : List Word) : (s.uhfOk l).rr = s.rr := rfl

@[simp] theorem State.tagRefuse_tagd (s : State) (code bank : Nat) :
    (s.tagRefuse code bank).tagd = { s.tagd with uhfOut := uhfErrorBits s.tagd.handle code } := by
  unfold State.tagRefuse
  dsimp only
  rw [apply_ite State.tagd, State.charge_tagd, State.emit_tagd, ite_self, apply_ite State.tagd, ite_self]
  rfl

@[simp] theorem State.tagRefuse_rr_tag (s : State) (code bank : Nat) : (s.tagRefuse code bank).rr.tag = s.rr.tag := by
  unfold State.tagRefuse
  dsimp only
  rw [apply_ite (fun t : State => t.rr.tag), State.charge_rr_tag, State.emit_rr_tag, ite_self, apply_ite (fun t : State => t.rr.tag), ite_self]
  rfl

/-- A read of Enforcement words is noted for the session; reply and memory stay (R279). -/
theorem State.enfRead_keeps (s : State) (path : Nat) : (s.enfRead path).rr.tag = s.rr.tag ∧ (s.enfRead path).tagd.uhfOut = s.tagd.uhfOut := by
  unfold State.enfRead
  dsimp only
  by_cases noted : ((if path = 1 then s.tagd.uhfEnf else s.tagd.hfEnf) || !s.tagApp) = true
  · rw [if_pos noted]
    exact ⟨rfl, rfl⟩
  · rw [if_neg noted, State.emit_rr_tag, State.emit_tagd]
    refine ⟨rfl, ?_⟩
    dsimp only
    split <;> rfl

@[simp] theorem State.tagBadRead_tagd (s : State) (bank ptr n : Nat) : (s.tagBadRead bank ptr n).tagd = s.tagd := by
  have each (l : List Nat) (t : State) : (l.foldl (fun (t : State) u =>
      let t1 : State := { t with nv := { t.nv with uncorrectable := satAdd 32 t.nv.uncorrectable 1 } }
      ((t1.emit 0x0D 0x3809 (Config.tagCell u % 2 ^ 19)).charge 0x19 0x0D 0x3809).charge 0x14 0x08 0x3809) t).tagd = t.tagd := by
    induction l generalizing t with
    | nil => rfl
    | cons a l ih =>
      rw [List.foldl_cons, ih]
      simp
  unfold State.tagBadRead
  split
  · rfl
  · rw [each, State.stick_tagd]

theorem State.uhfAccess_secured {w : State} (st : w.tagd.st = .secured) (f : State → State) : w.uhfAccess w.tagd.handle f = f w := by
  unfold State.uhfAccess
  rw [st]
  exact if_pos rfl

/-! ## Read and TV_SUMMARY (R264 to R266) -/

section
variable {w : State} {bank ptr count b a : Nat}

theorem State.uhfRead_reserved (reserved : bank = 0) : w.uhfRead bank ptr count = w.uhfError 4 := if_pos reserved

section
variable (named : bank ≠ 0) (some_ : 1 ≤ count)
include named some_

theorem State.uhfRead_outside (outside : uhfBank bank ptr count = none) : w.uhfRead bank ptr count = w.uhfError 3 := by
  have counted : ¬count = 0 := Nat.ne_of_gt some_
  unfold State.uhfRead
  rw [if_neg named, if_neg (by simp [counted]), if_neg counted]
  dsimp only
  rw [Nat.max_eq_left some_, outside]

theorem State.uhfRead_inside (inside : uhfBank bank ptr count = some (b, a)) : w.uhfRead bank ptr count =
    if w.rr.tag.hurt b a count then (w.tagBadRead b a count).uhfError 0x0F
    else if b = 4 then (w.uhfOk (w.rr.tag.words b a count)).enfRead 1 else w.uhfOk (w.rr.tag.words b a count) := by
  have counted : ¬count = 0 := Nat.ne_of_gt some_
  unfold State.uhfRead
  rw [if_neg named, if_neg (by simp [counted]), if_neg counted]
  dsimp only
  rw [Nat.max_eq_left some_, inside]

theorem State.uhfRead_hurt (inside : uhfBank bank ptr count = some (b, a)) (hurt : w.rr.tag.hurt b a count = true) :
    w.uhfRead bank ptr count = (w.tagBadRead b a count).uhfSay (uhfErrorBits w.tagd.handle 0x0F) := by
  rw [State.uhfRead_inside named some_ inside, if_pos hurt, State.uhfError_eq, State.tagBadRead_tagd]

theorem State.uhfRead_words (inside : uhfBank bank ptr count = some (b, a)) (whole : w.rr.tag.hurt b a count = false) :
    (w.uhfRead bank ptr count).tagd.uhfOut = uhfGoodBits w.tagd.handle (w.rr.tag.words b a count) ∧ (w.uhfRead bank ptr count).rr.tag = w.rr.tag := by
  rw [State.uhfRead_inside named some_ inside, if_neg (by simp [whole])]
  split
  · obtain ⟨memory, out⟩ := (w.uhfOk (w.rr.tag.words b a count)).enfRead_keeps 1
    exact ⟨out, memory⟩
  · exact ⟨rfl, rfl⟩

end

theorem State.tvSummary_outside (outside : 128 < ptr + count) : w.tvSummary ptr count = w.uhfError 3 := if_pos outside

/-- The words of TV_SUMMARY (R266): status, counter, and words of the newest slot. -/
def TagMem.summaryWords (m : TagMem) (ptr count : Nat) : List Word :=
  [BitVec.ofNat 16 m.status, BitVec.ofNat 16 (m.counter % 65536)] ++ (match m.newest with
    | some k => m.words 4 (0x400 + 0x80 * k + ptr) count
    | none => List.replicate count 0)

theorem State.tvSummary_words (inside : ptr + count ≤ 128) : (w.tvSummary ptr count).rr.tag = w.rr.tag ∧
    (w.tvSummary ptr count).tagd.uhfOut = uhfGoodBits w.tagd.handle (w.rr.tag.summaryWords ptr count) := by
  have read : w.tvSummary ptr count = (w.uhfOk (w.rr.tag.summaryWords ptr count)).enfRead 1 := if_neg (Nat.not_lt.mpr inside)
  rw [read]
  exact State.enfRead_keeps _ 1

end

/-! ## Write and BlockWrite as they begin (R265, R270 to R273) -/

/-- The reserve check passes with VTAG at V_TAG_WR and no fence up (R271). -/
theorem State.reserveOk_readVtag (w : State) (mv : Nat) : (w.readVtag mv).reserveOk = true ↔ 2700 ≤ mv ∧ w.fenced = false := by
  rw [State.reserveOk, Bool.and_eq_true, decide_eq_true_eq, Bool.not_eq_true']
  rfl

theorem State.reserveOk_fails {w : State} {mv : Nat} (weak : mv < 2700 ∨ w.fenced = true) : ¬(w.readVtag mv).reserveOk = true := by
  rw [State.reserveOk_readVtag]
  rintro ⟨high, down⟩
  rcases weak with low | up
  · omega
  · simp [up] at down

theorem uhfBank_reserved {bank : Nat} (reserved : bank = 0) (ptr n : Nat) : uhfBank bank ptr n = none := by
  rw [reserved]
  rfl

/-- A command that has read VTAG as mv and given the reply l, with tag memory and the write under way as they were. -/
structure Replies (w : State) (mv : Nat) (l : List Bool) (t : State) : Prop where
  memory : t.rr.tag = w.rr.tag
  vtag : t.tagd.vtag = mv
  job : t.tagd.job = w.tagd.job
  out : t.tagd.uhfOut = l

theorem Replies.refuse (w : State) (mv code bank : Nat) : Replies w mv (uhfErrorBits w.tagd.handle code) ((w.readVtag mv).tagRefuse code bank) := by
  constructor <;> simp [State.readVtag]

section
variable {w : State} {kind : TagJobKind} {bank ptr mv b a : Nat} {data : List Word}

theorem State.uhfWrite_outside (outside : uhfBank bank ptr data.length = none) :
    Replies w mv (uhfErrorBits w.tagd.handle (if bank = 0 then 4 else 3)) (w.uhfWrite kind bank ptr data mv) := by
  unfold State.uhfWrite
  rw [outside]
  exact .refuse w mv _ _

/-- The record that a write would leave, by which a repeated one is known (R273). -/
def State.lastWrite (w : State) (ptr : Nat) (data : List Word) : LastWrite :=
  { handle := w.tagd.handle, ptr := ptr, count := data.length, crc := crc16 (bytesOf data) }

/-- The write that begins, for its words at address a of bank b. -/
def State.writeJob (w : State) (kind : TagJobKind) (b a : Nat) (data : List Word) : TagJob :=
  { kind := kind, bank := b, ptr := a, words := data, handle := w.tagd.handle, due := w.aon.clock + w.programNs (unitsIn a data.length + 1), at_ := w.now }

theorem State.writeJob_due (some_ : 1 ≤ data.length) : (w.writeJob kind b a data).due =
    w.aon.clock + 24000 * ((a + data.length - 1) / 8 + 1 - a / 8 + 1 + b2n w.nv.run.isSome) := by
  unfold State.writeJob State.programNs unitsIn
  rw [if_neg (Nat.ne_of_gt some_)]

/-- A write that the tag has begun: the reply follows its last program. -/
def State.writeBegun (w : State) (mv : Nat) (j : TagJob) : State :=
  { w.readVtag mv with tagd := { (w.readVtag mv).tagd with job := some j } }

section
variable (named : bank ≠ 0) (inside : uhfBank bank ptr data.length = some (b, a))
include named inside

theorem State.writeCause_inside : (w.readVtag mv).writeCause bank ptr data.length = if b = 2 ∨ b = 4 ∨ w.fieldLocked b = true then 4 else 0 := by
  unfold State.writeCause
  rw [if_neg named, inside]
  refine if_congr ?_ rfl rfl
  rw [Bool.or_eq_true, Bool.or_eq_true, decide_eq_true_eq, decide_eq_true_eq, or_assoc]
  rfl

theorem State.uhfWrite_locked (locked : b = 2 ∨ b = 4 ∨ w.fieldLocked b = true) :
    Replies w mv (uhfErrorBits w.tagd.handle 4) (w.uhfWrite kind bank ptr data mv) := by
  unfold State.uhfWrite
  dsimp only
  rw [State.writeCause_inside named inside, if_pos locked, inside]
  exact .refuse w mv 4 _

theorem State.uhfWrite_open (free : ¬(b = 2 ∨ b = 4 ∨ w.fieldLocked b = true)) : w.uhfWrite kind bank ptr data mv =
    if (w.rr.tag.commit b).last = some (w.lastWrite ptr data) then
      ({ w.readVtag mv with tag := { w.tag with absorbed := if w.powered then satAdd 32 w.tag.absorbed 1 else w.tag.absorbed } } : State).uhfOk []
    else if !(w.readVtag mv).reserveOk then (w.readVtag mv).tagRefuse 0x0B (evBank bank ptr)
    else w.writeBegun mv (w.writeJob kind b a data) := by
  unfold State.uhfWrite
  dsimp only
  rw [State.writeCause_inside named inside, if_neg free, inside]
  exact if_neg (not_not_intro rfl)

theorem State.uhfWrite_again (free : ¬(b = 2 ∨ b = 4 ∨ w.fieldLocked b = true)) (again : (w.rr.tag.commit b).last = some (w.lastWrite ptr data)) :
    Replies w mv (uhfGoodBits w.tagd.handle []) (w.uhfWrite kind bank ptr data mv) := by
  rw [State.uhfWrite_open named inside free, if_pos again]
  exact ⟨rfl, rfl, rfl, rfl⟩

theorem State.uhfWrite_weak (free : ¬(b = 2 ∨ b = 4 ∨ w.fieldLocked b = true)) (new : (w.rr.tag.commit b).last ≠ some (w.lastWrite ptr data))
    (weak : ¬(w.readVtag mv).reserveOk = true) : Replies w mv (uhfErrorBits w.tagd.handle 0x0B) (w.uhfWrite kind bank ptr data mv) := by
  rw [State.uhfWrite_open named inside free, if_neg new, if_pos (by simpa using weak)]
  exact .refuse w mv 0x0B _

theorem State.uhfWrite_begins (free : ¬(b = 2 ∨ b = 4 ∨ w.fieldLocked b = true)) (new : (w.rr.tag.commit b).last ≠ some (w.lastWrite ptr data))
    (ready : (w.readVtag mv).reserveOk = true) : w.uhfWrite kind bank ptr data mv = w.writeBegun mv (w.writeJob kind b a data) := by
  rw [State.uhfWrite_open named inside free, if_neg new, if_neg (by simp [ready])]

end

/-- No write changes memory before its commit (R270). -/
theorem State.uhfWrite_keeps (w : State) (kind : TagJobKind) (bank ptr mv : Nat) (data : List Word) :
    (w.uhfWrite kind bank ptr data mv).rr.tag = w.rr.tag ∧ (w.uhfWrite kind bank ptr data mv).tagd.vtag = mv := by
  cases inside : uhfBank bank ptr data.length with
  | none =>
    exact ⟨(State.uhfWrite_outside inside).memory, (State.uhfWrite_outside inside).vtag⟩
  | some x =>
    have named : bank ≠ 0 := by
      rintro rfl
      cases inside
    by_cases locked : x.1 = 2 ∨ x.1 = 4 ∨ w.fieldLocked x.1 = true
    · exact ⟨(State.uhfWrite_locked named inside locked).memory, (State.uhfWrite_locked named inside locked).vtag⟩
    · rw [State.uhfWrite_open named inside locked]
      split
      · exact ⟨rfl, rfl⟩
      · split
        · exact ⟨(Replies.refuse w mv _ _).memory, (Replies.refuse w mv _ _).vtag⟩
        · exact ⟨rfl, rfl⟩

end

/-! ## Kill (R265, R281, R282) -/

@[simp] theorem State.hfSessEnd_tagd (s : State) : s.hfSessEnd.tagd = { s.tagd with hfSess := none, hfEnf := false, chain := [] } := by
  unfold State.hfSessEnd
  dsimp only
  rw [State.sessDrop_tagd]

@[simp] theorem State.hfSessEnd_rr (s : State) : s.hfSessEnd.rr = s.rr := s.sessDrop_rr _

/-- What the kill leaves of memory and of the reply. -/
theorem State.killTag_spec (s : State) (path : Nat) :
    (s.killTag path).rr.tag = { s.rr.tag with killed := true } ∧ (s.killTag path).tagd.harv = false ∧ (s.killTag path).tagd.uhfOut = s.tagd.uhfOut := by
  unfold State.killTag
  dsimp only
  rw [State.emit_rr_tag, State.emit_tagd, apply_ite State.rr, apply_ite State.tagd]
  simp

/-- The state in which the second half of the kill password is judged: VTAG is read, and the first half is spent. -/
def State.halfSpent (w : State) (mv : Nat) : State := { w.readVtag mv with tagd := { (w.readVtag mv).tagd with half := none } }

section
variable {w : State} {recom mv : Nat} {half h : Word}

theorem State.uhfKill_recom (bad : recom ≠ 0) : w.uhfKill recom half mv = (w.readVtag mv).uhfError 1 := if_pos bad

section
variable (recomZero : recom = 0)
include recomZero

theorem State.uhfKill_zero (zero : w.rr.tag.canKill = false) : w.uhfKill recom half mv = (w.readVtag mv).uhfError 0 := by
  unfold State.uhfKill
  rw [if_neg (not_not_intro recomZero)]
  exact if_pos (congrArg (!·) zero)

variable (can : w.rr.tag.canKill = true)
include can

theorem State.uhfKill_first (first : w.tagd.half = none) : w.uhfKill recom half mv =
    ({ w.readVtag mv with tagd := { (w.readVtag mv).tagd with half := some half } } : State).uhfSay (withCrc (wbits w.tagd.handle)) := by
  have able : ¬(!(w.readVtag mv).rr.tag.canKill) = true := by simpa [State.readVtag] using can
  have none_ : (w.readVtag mv).tagd.half = none := first
  unfold State.uhfKill
  rw [if_neg (not_not_intro recomZero), if_neg able, none_]
  rfl

theorem State.uhfKill_second (second : w.tagd.half = some h) : w.uhfKill recom half mv =
    if bytesOf [h, half] ≠ w.rr.tag.killPw then (w.halfSpent mv).uhfTo .arbitrate
    else if !(w.readVtag mv).reserveOk then (w.halfSpent mv).tagRefuse 0x0B 0 else ((w.halfSpent mv).uhfOk []).killTag 1 := by
  have able : ¬(!(w.readVtag mv).rr.tag.canKill) = true := by simpa [State.readVtag] using can
  have some_ : (w.readVtag mv).tagd.half = some h := second
  unfold State.uhfKill
  rw [if_neg (not_not_intro recomZero), if_neg able, some_]
  rfl

theorem State.uhfKill_wrong (second : w.tagd.half = some h) (wrong : bytesOf [h, half] ≠ w.rr.tag.killPw) :
    (w.uhfKill recom half mv).rr.tag = w.rr.tag ∧ (w.uhfKill recom half mv).tagd.st = .arbitrate := by
  rw [State.uhfKill_second recomZero can second, if_pos wrong, State.uhfTo_rr, State.uhfTo_tagd]
  exact ⟨rfl, rfl⟩

variable (second : w.tagd.half = some h) (right : bytesOf [h, half] = w.rr.tag.killPw)
include second right

theorem State.uhfKill_weak (weak : ¬(w.readVtag mv).reserveOk = true) :
    (w.uhfKill recom half mv).rr.tag = w.rr.tag ∧ (w.uhfKill recom half mv).tagd.uhfOut = uhfErrorBits w.tagd.handle 0x0B := by
  rw [State.uhfKill_second recomZero can second, if_neg (not_not_intro right), if_pos (by simpa using weak), State.tagRefuse_rr_tag, State.tagRefuse_tagd]
  exact ⟨rfl, rfl⟩

theorem State.uhfKill_kills (ready : (w.readVtag mv).reserveOk = true) :
    (w.uhfKill recom half mv).rr.tag = { w.rr.tag with killed := true } ∧ (w.uhfKill recom half mv).tagd.harv = false ∧
      (w.uhfKill recom half mv).tagd.uhfOut = uhfGoodBits w.tagd.handle [] := by
  rw [State.uhfKill_second recomZero can second, if_neg (not_not_intro right), if_neg (by simp [ready])]
  exact State.killTag_spec _ 1

end
end

/-! ## Lock (R267) -/

section
variable {w : State}

theorem State.uhfLock_barred (barred : w.tagConf 0x3021 3 = 0) (mask action : Nat) : w.uhfLock mask action = w.tagRefuse 4 0 := if_pos barred

/-- No permalock is taken: the last field of mask and action is that of User. -/
theorem State.uhfLock_permalock {mask action : Nat} (masked : mask % 2 = 1) (set_ : action % 2 = 1) : w.uhfLock mask action = w.tagRefuse 4 0 := by
  unfold State.uhfLock
  split
  · rfl
  · refine if_pos ?_
    rw [Bool.or_eq_true]
    left
    rw [List.any_eq_true]
    refine ⟨4, by decide, ?_⟩
    have odd (n : Nat) (h : n % 2 = 1) : bit (n / 4 ^ (4 - 4) % 4) 0 = true := by
      simp [bit, Nat.testBit_zero]
      omega
    simp only [odd mask masked, odd action set_, Bool.and_self]

/-- The lock bits after a Lock of User (R267): bit 0 is set or cleared by the last but one bit of the action. -/
def userLocked (locks action : Nat) : Nat := if bit (action / 4 ^ 0 % 4) 1 then locks ||| 2 ^ 0 else locks &&& (3 ^^^ 2 ^ 0)

/-- A permitted Lock of User alone. -/
theorem State.uhfLock_user (permit : w.tagConf 0x3021 3 ≠ 0) (action : Nat) : w.uhfLock 2 action =
    if userLocked w.rr.tag.locks action == w.rr.tag.locks then w.uhfOk []
    else { w.uhfOk [] with rr := { w.rr with tag := { w.rr.tag.seal1 3 none with locks := userLocked w.rr.tag.locks action } } } :=
  if_neg permit

theorem State.uhfLock_user_spec (permit : w.tagConf 0x3021 3 ≠ 0) (action : Nat) :
    (w.uhfLock 2 action).tagd.uhfOut = uhfGoodBits w.tagd.handle [] ∧
      (w.uhfLock 2 action).rr.tag.locks = userLocked w.rr.tag.locks action ∧ (w.uhfLock 2 action).rr.tag.user = w.rr.tag.user := by
  rw [State.uhfLock_user permit]
  split
  · next same => exact ⟨rfl, (beq_iff_eq.mp same).symm, rfl⟩
  · exact ⟨rfl, rfl, rfl⟩

/-- Bit 1, of UII, stays. -/
theorem bit_userLocked (locks : Nat) : bit (userLocked locks 2) 0 = true ∧ bit (userLocked locks 0) 0 = false ∧ bit (userLocked locks 0) 1 = bit locks 1 := by
  have set_ : userLocked locks 2 = locks ||| 1 := rfl
  have cleared : userLocked locks 0 = locks &&& 2 := rfl
  rw [set_, cleared]
  have two : Nat.testBit 2 1 = true := by decide
  exact ⟨by simp [bit], by simp [bit], by simp [bit, two]⟩

end

end Sys2Proof.Machine
end

section
/-! SUPPORT. How writes land in tag memory, the power of the tag engine, and HARV (R256, R257, R270 to R272, R282, R284). -/

namespace Sys2Proof.Machine
open Sys2Proof

/-! ## Words of the User bank (R259, R270) -/

theorem TagMem.word_user (m : TagMem) (a : Nat) : m.word 3 a = kvGet 0xFFFF m.user a := rfl

/-- A word of the User bank changes no more than that bank. -/
theorem TagMem.setWord_keeps (m : TagMem) (a : Nat) (x : Word) : ∃ l, m.setWord 3 a x = { m with user := l } := ⟨_, rfl⟩

/-- A pass of words over the User bank changes no more than that bank. -/
theorem TagMem.foldl_setWord_keeps (ptr : Nat) (q : List (Word × Nat)) (m : TagMem) :
    ∃ l, q.foldl (fun (x : TagMem) e => x.setWord 3 (ptr + e.2) e.1) m = { m with user := l } := by
  induction q generalizing m with
  | nil => exact ⟨_, rfl⟩
  | cons e q ih =>
    obtain ⟨l, set_⟩ := ih (m.setWord 3 (ptr + e.2) e.1)
    obtain ⟨r, one⟩ := m.setWord_keeps (ptr + e.2) e.1
    rw [List.foldl_cons, set_, one]
    exact ⟨l, rfl⟩

/-- The words from address ptr + k read back after a pass, and all others are as before. -/
theorem TagMem.foldl_setWord_user (ptr : Nat) (l : List Word) (k : Nat) (m : TagMem) (a : Nat) :
    kvGet 0xFFFF ((l.zipIdx k).foldl (fun (x : TagMem) e => x.setWord 3 (ptr + e.2) e.1) m).user a =
      if ptr + k ≤ a ∧ a < ptr + k + l.length then nth 0 l (a - (ptr + k)) else kvGet 0xFFFF m.user a := by
  induction l generalizing k m with
  | nil => rw [if_neg (by simp only [List.length_nil]; omega)]; rfl
  | cons x l ih =>
    rw [List.zipIdx_cons, List.foldl_cons, ih, m.setWord_user, List.length_cons]
    by_cases first : a = ptr + k
    · rw [if_neg (by omega), if_pos first, if_pos (by omega), first, Nat.sub_self]
      rfl
    · by_cases later : ptr + (k + 1) ≤ a ∧ a < ptr + (k + 1) + l.length
      · have step : a - (ptr + k) = a - (ptr + (k + 1)) + 1 := by omega
        rw [if_pos later, if_pos (by omega), step]
        rfl
      · rw [if_neg later, if_neg first, if_neg (by omega)]

/-- What a write of the User bank leaves of memory, of whichever side it is: its words, and all else as it was but the write's own marks. -/
theorem TagMem.land_user (m : TagMem) {j : TagJob} (user : j.bank = 3) (field : Bool) :
    (m.land j field).user = (m.setWords 3 j.ptr j.words).user ∧ (m.land j field).slots = m.slots ∧ (m.land j field).uii = m.uii ∧
      (m.land j field).killed = m.killed ∧ (m.land j field).killPw = m.killPw := by
  obtain ⟨l, set_⟩ := TagMem.foldl_setWord_keeps j.ptr j.words.zipIdx m
  have only : (m.setWords 3 j.ptr j.words).slots = m.slots ∧ (m.setWords 3 j.ptr j.words).uii = m.uii ∧
      (m.setWords 3 j.ptr j.words).killed = m.killed ∧ (m.setWords 3 j.ptr j.words).killPw = m.killPw := by
    unfold TagMem.setWords
    rw [set_]
    exact ⟨rfl, rfl, rfl, rfl⟩
  unfold TagMem.land
  rw [user]
  cases field <;> exact ⟨rfl, only⟩

/-- The words of a write of the User bank read back, and no other word of the bank changes (R270). -/
theorem TagMem.land_word (m : TagMem) {j : TagJob} (user : j.bank = 3) (field : Bool) (a : Nat) : (m.land j field).word 3 a =
    if j.ptr ≤ a ∧ a < j.ptr + j.words.length then nth 0 j.words (a - j.ptr) else m.word 3 a := by
  rw [TagMem.word_user, TagMem.word_user, (m.land_user user field).1]
  exact TagMem.foldl_setWord_user j.ptr j.words 0 m a

/-! ## TAG_COMMIT (R270, R272, R275) -/

section
variable {u : State} {j : TagJob} {r : List TagJob}

theorem State.tagCommit_idle (none_ : u.tagd.job = none) (empty : u.tag.jobs = []) : u.tagCommit = u := by
  unfold State.tagCommit
  rw [none_, empty]

theorem State.tagCommit_early (job : u.tagd.job = some j) (early : u.aon.clock < j.due) : u.tagCommit = u := by
  unfold State.tagCommit
  rw [job]
  exact if_neg (Nat.not_le.mpr early)

/-- Memory and the tag's record apart, the tag application is what it is by units, supervision and mode (R279, R285). -/
theorem State.tagApp_congr {s t : State} (us : t.us = s.us) (sup : t.sup = s.sup) (aon : t.aon = s.aon) : t.tagApp = s.tagApp := by
  rw [State.tagApp, State.tagApp, State.serving, State.serving, State.unitState, State.unitState, State.stateGo_congr us sup, State.powered,
    State.powered, sup, aon]

/-- A field write lands without the tag application: no event tells of it. -/
theorem State.fieldLand_silent (silent : u.tagApp = false) (reply : Bool) :
    (u.fieldLand j reply).tagd.job = none ∧ (u.fieldLand j reply).rr.tag = u.rr.tag.land j true := by
  let s1 : State := { u with rr := { u.rr with tag := u.rr.tag.land j true }, tagd := { u.tagd with job := none } }
  have unheard (s : State) (us : s.us = u.us) (sup : s.sup = u.sup) (aon : s.aon = u.aon) : ¬s.tagApp = true := by
    rw [State.tagApp_congr us sup aon, silent]
    exact Bool.false_ne_true
  have lands : u.fieldLand j reply = if reply then s1.uhfOk [] else s1 := by
    cases reply <;> exact if_neg (unheard _ rfl rfl rfl)
  rw [lands]
  cases reply <;> exact ⟨rfl, rfl⟩

theorem State.tagCommit_field (job : u.tagd.job = some j) (due : j.due ≤ u.aon.clock) : u.tagCommit = u.fieldLand j u.tagServes := by
  unfold State.tagCommit
  rw [job]
  exact if_pos due

/-- The oldest host write lands while no field write is under way and no fence is up. -/
theorem State.tagCommit_host (none_ : u.tagd.job = none) (jobs : u.tag.jobs = j :: r) (due : j.due ≤ u.aon.clock) (free : u.fenced = false) :
    u.tagCommit.tag.jobs = r ∧ u.tagCommit.rr.tag = u.rr.tag.land j false := by
  have lands : u.tagCommit = ({ u with tag := { u.tag with jobs := r } } : State).hostLand j := by
    unfold State.tagCommit
    rw [none_, jobs]
    exact if_pos (by simp [due, free])
  rw [lands]
  unfold State.hostLand
  dsimp only
  split <;> exact ⟨rfl, rfl⟩

end

/-! ## Power (R256, R257, R272, R282) -/

section
variable {u : State} {mv : Nat}

theorem State.tagOn_waits (h : u.tagd.on = true ∨ mv < 1700) : u.tagOn mv = u := by
  refine if_pos ?_
  rw [Bool.or_eq_true, decide_eq_true_eq]
  exact h

theorem State.tagOn_starts (off : u.tagd.on = false) (up : 1700 ≤ mv) : let t := u.tagOn mv
    t.tagd.on = true ∧ t.tagd.vtag = mv ∧ t.tagd.st = .ready ∧ t.tagd.hst = .idle ∧ nth false t.tagd.flags 0 = false ∧ t.rr = u.rr := by
  have rises : ¬(u.tagd.on || decide (mv < vTagOn)) = true := by
    rw [off, Bool.false_or, decide_eq_true_eq]
    exact Nat.not_lt.mpr up
  have starts : ∃ t : State, u.tagOn mv = t.s1Decay ∧ t.tagd.on = true ∧ t.tagd.vtag = mv ∧ t.tagd.st = .ready ∧ t.tagd.hst = .idle ∧
      nth false t.tagd.flags 0 = false ∧ t.rr = u.rr := ⟨_, if_neg rises, rfl, rfl, rfl, rfl, rfl, rfl⟩
  obtain ⟨t, starts, on, vtag, st, hst, s0, rr⟩ := starts
  obtain ⟨n, l, decayed, first⟩ := t.s1Decay_eq
  rw [starts, decayed]
  exact ⟨on, vtag, st, hst, first.trans s0, rr⟩

theorem State.tagOff_waits (h : u.tagd.on = false ∨ 1550 ≤ mv) : u.tagOff mv = u := by
  refine if_pos ?_
  rw [Bool.or_eq_true, Bool.not_eq_true', decide_eq_true_eq]
  exact h

/-- Below V_TAG_OFF all tag activity stops. With no kill under way memory is as it was, all words of a cut BlockWrite old (R272). -/
theorem State.tagOff_stops (on : u.tagd.on = true) (low : mv < 1550) (alive : u.tagd.killAt = none)
    (h : u.tagd.job = none ∨ ∃ j, u.tagd.job = some j ∧ u.aon.clock < j.due ∧ j.kind = .fieldBlock) : let t := u.tagOff mv
    t.tagd.on = false ∧ t.tagd.job = none ∧ t.tagd.harv = false ∧ t.rr.tag.user = u.rr.tag.user ∧ t.rr.tag.uii = u.rr.tag.uii ∧
      t.rr.tag.killed = u.rr.tag.killed := by
  have falls : ¬(!u.tagd.on || decide (vTagOff ≤ mv)) = true := by
    rw [on, Bool.not_true, Bool.false_or, decide_eq_true_eq]
    exact Nat.not_le.mpr low
  unfold State.tagOff
  rw [if_neg falls]
  rcases h with none_ | ⟨j, job, early, block⟩
  · rw [none_]
    simp [none_, alive]
  · rw [job]
    dsimp only
    rw [if_neg (Nat.not_le.mpr early)]
    unfold State.tagTorn
    rw [block]
    simp [alive]

end

/-! ## HARV (R284) -/

section
variable {u : State} {mv : Nat}

theorem State.harvOn_waits (h : mv ≤ 2800 ∨ u.harvMay = false) : u.harvOn mv = u := by
  refine if_neg ?_
  rw [Bool.and_eq_true, decide_eq_true_eq]
  rintro ⟨high, may⟩
  rcases h with low | not_
  · exact absurd high (Nat.not_lt.mpr low)
  · exact Bool.false_ne_true (not_.symm.trans may)

theorem State.harvOn_drives (high : 2800 < mv) (may : u.harvMay = true) : u.harvOn mv = { u with tagd := { u.tagd with vtag := mv, harv := true } } :=
  if_pos (by simp [vTagHon, high, may])

theorem State.harvLow_waits (h : 2750 ≤ mv) : u.harvLow mv = u := if_neg (Nat.not_lt.mpr h)

theorem State.harvLow_stops (low : mv < 2750) : u.harvLow mv = { u with tagd := { u.tagd with vtag := mv, harv := false } } := if_pos low

theorem State.harvOverload_waits (off : u.tagd.harv = false) : u.harvOverload = u := if_pos (by simp [off])

theorem State.harvOverload_pauses (on : u.tagd.harv = true) (up : u.powered = true) : let t := u.harvOverload
    t.tagd.harv = false ∧ t.tagd.harvOff = some (u.aon.clock + 100000000) ∧ t.tag.overloads = min (u.tag.overloads + 1) (2 ^ 32 - 1) ∧
      t.rr.tag = u.rr.tag := by
  unfold State.harvOverload
  rw [if_neg (by simp [on]), if_pos up]
  simp [up, satAdd, msNs]

theorem State.harvRetry_waits (h : ∀ k, u.tagd.harvOff = some k → u.aon.clock < k) : u.harvRetry = u := by
  refine if_neg ?_
  cases off : u.tagd.harvOff with
  | none => exact Bool.false_ne_true
  | some k => simpa using h k off

theorem State.harvRetry_due {k : Nat} (off : u.tagd.harvOff = some k) (due : k ≤ u.aon.clock) : let t := u.harvRetry
    t.tagd.harvOff = none ∧ (t.tagd.harv = true → 2800 < u.tagd.vtag) ∧ t.rr.tag = u.rr.tag := by
  unfold State.harvRetry
  rw [if_pos (by simp [off, due])]
  refine ⟨rfl, fun drives => ?_, rfl⟩
  exact of_decide_eq_true (Bool.and_eq_true_iff.mp drives).1

end

/-! ## The statement -/

section
variable {s w : State} {dt : Nat} (run : ∀ f : State → State, finish s ((s.turn dt).onUhf (State.uhfAccess · w.tagd.handle f)) = finish s (f w))
include run

/-- A Write, or a BlockWrite with its count, is what its words and bank make of it. -/
theorem exec_write_met {bank ptr mv : Nat} {data : List Word} (some_ : 1 ≤ data.length) (few : data.length ≤ 16) {i : Instr}
    (is : i = .blockWrite dt bank ptr data.length data w.tagd.handle mv ∨ (∃ x, data = [x] ∧ i = .write dt bank ptr x w.tagd.handle mv)) :
    ∃ kind, exec i s = finish s (w.uhfWrite kind bank ptr data mv) := by
  rcases is with rfl | ⟨x, rfl, rfl⟩
  · have taken : ¬(data.length = 0 ∨ 16 < data.length ∨ data.length ≠ data.length) := by omega
    exact ⟨.fieldBlock, (run _).trans (congrArg (finish s) (if_neg taken))⟩
  · exact ⟨.fieldWord, run _⟩

end

/-- Settles O51: a command of a secured tag with its handle acts on the state that it finds, by the lemma of its case; so do the other rows. -/
theorem fieldAccessAndWritesLand : Obligations.FieldAccessAndWritesLand := by
  refine ⟨fun s dt handle => ?access, fun s dt => ?memory⟩
  case access =>
    intro u
    have turn : s.turn dt = u := rfl
    clear_value u
    intro v
    have snap : u.tagSnapshot = v := rfl
    have time : v.aon = u.aon := u.tagSnapshot_keeps.2
    clear_value v
    intro v1 w err good serves on idle
    obtain ⟨silent, free, same⟩ : w.tagd.uhfOut = [] ∧ w.tagd.job = none ∧ w.aon = v.aon := State.uhfMet_begins idle
    have met (f : State → State) : finish s ((s.turn dt).onUhf f) = finish s (f w) :=
      congrArg (finish s) ((congrArg (State.onUhf · f) turn).trans (State.onUhf_met serves snap on idle))
    rw [time] at same
    clear_value w
    rintro st rfl
    have run (f : State → State) : finish s ((s.turn dt).onUhf (State.uhfAccess · w.tagd.handle f)) = finish s (f w) :=
      (met _).trans (congrArg (finish s) (State.uhfAccess_secured st f))
    have does {f : State → State} {t : State} (is : f w = t) : finish s ((s.turn dt).onUhf (State.uhfAccess · w.tagd.handle f)) = finish s t :=
      (run f).trans (congrArg (finish s) is)
    refine ⟨?read, run _, ?summary, ?write, ?count, ?kill, ?lock⟩
    case read =>
      intro bank ptr count some_
      refine ⟨fun reserved => does (State.uhfRead_reserved reserved), fun named outside => does (State.uhfRead_outside named some_ outside),
        fun b a named inside hurt => does (State.uhfRead_hurt named some_ inside hurt), fun b a named inside whole => ⟨_, run _, ?_⟩⟩
      exact State.uhfRead_words named some_ inside whole
    case summary =>
      intro ptr count
      exact ⟨fun outside => does (State.tvSummary_outside outside), fun inside => ⟨_, run _, State.tvSummary_words inside⟩⟩
    case write =>
      intro bank ptr mv data some_ few i is lw
      obtain ⟨kind, means⟩ := exec_write_met run some_ few is
      obtain ⟨memory, vtag⟩ := w.uhfWrite_keeps kind bank ptr mv data
      have replied {l : List Bool} (h : Replies w mv l (w.uhfWrite kind bank ptr data mv)) :
          (w.uhfWrite kind bank ptr data mv).tagd.job = none ∧ (w.uhfWrite kind bank ptr data mv).tagd.uhfOut = l := ⟨h.job.trans free, h.out⟩
      refine ⟨_, means, memory, vtag, fun reserved => ?_, fun named outside => ?_, fun b a named inside =>
        ⟨fun locked => replied (State.uhfWrite_locked named inside locked), fun notTid notEnf unlocked => ?_⟩⟩
      · have refused := State.uhfWrite_outside (w := w) (kind := kind) (mv := mv) (data := data) (uhfBank_reserved reserved ptr data.length)
        rw [if_pos reserved] at refused
        exact replied refused
      · have refused := State.uhfWrite_outside (w := w) (kind := kind) (mv := mv) outside
        rw [if_neg named] at refused
        exact replied refused
      · have open_ : ¬(b = 2 ∨ b = 4 ∨ w.fieldLocked b = true) := by simp [notTid, notEnf, unlocked]
        refine ⟨fun again => replied (State.uhfWrite_again named inside open_ again), fun new weak => replied (State.uhfWrite_weak named inside open_ new ?_),
          fun new high down => ⟨w.writeJob kind b a data, ?_⟩⟩
        · exact State.reserveOk_fails weak
        · have ready : (w.readVtag mv).reserveOk = true := (w.reserveOk_readVtag mv).mpr ⟨high, down⟩
          have begun : (w.uhfWrite kind bank ptr data mv).tagd = _ := congrArg State.tagd (State.uhfWrite_begins named inside open_ new ready)
          have due := State.writeJob_due (w := w) (kind := kind) (b := b) (a := a) some_
          rw [same] at due
          exact ⟨congrArg TagDom.job begun, rfl, rfl, rfl, rfl, due, (congrArg TagDom.uhfOut begun).trans silent⟩
    case count =>
      intro bank ptr count mv data bad
      refine ⟨_, does (if_pos (bad.imp_right .inl)), State.tagRefuse_rr_tag .., ?_, ?_⟩
      · exact (congrArg TagDom.job (State.tagRefuse_tagd ..)).trans free
      · exact congrArg TagDom.uhfOut (State.tagRefuse_tagd w 0 _)
    case kill =>
      intro recom mv half
      refine ⟨_, run (·.uhfKill recom half mv), fun bad => ?_, fun zero none_ => ?_, fun zero can first => ?_, fun h zero can second => ⟨fun wrong => ?_,
        fun right weak => ?_, fun right high down => ?_⟩⟩
      · have refused := State.uhfKill_recom (w := w) (mv := mv) (half := half) bad
        exact ⟨congrArg (·.rr.tag) refused, congrArg (·.tagd.uhfOut) refused⟩
      · have refused := State.uhfKill_zero (mv := mv) (half := half) zero none_
        exact ⟨congrArg (·.rr.tag) refused, congrArg (·.tagd.uhfOut) refused⟩
      · have waits := State.uhfKill_first (mv := mv) (half := half) zero can first
        exact ⟨congrArg (·.rr.tag) waits, congrArg (·.tagd.half) waits, congrArg (·.tagd.uhfOut) waits⟩
      · exact State.uhfKill_wrong zero can second wrong
      · exact State.uhfKill_weak zero can second right (State.reserveOk_fails weak)
      · obtain ⟨memory, harv, out⟩ := State.uhfKill_kills zero can second right ((w.reserveOk_readVtag mv).mpr ⟨high, down⟩)
        have user := congrArg TagMem.user memory
        exact ⟨congrArg TagMem.killed memory, harv, user, out⟩
    case lock =>
      intro mask action
      have refused (is : w.uhfLock mask action = w.tagRefuse 4 0) :
          (w.uhfLock mask action).rr.tag = w.rr.tag ∧ (w.uhfLock mask action).tagd.uhfOut = uhfErrorBits w.tagd.handle 4 := by
        rw [is, State.tagRefuse_rr_tag, State.tagRefuse_tagd]
        exact ⟨rfl, rfl⟩
      refine ⟨_, run (·.uhfLock mask action), fun barred => refused (State.uhfLock_barred barred mask action),
        fun masked set_ => refused (State.uhfLock_permalock masked set_), fun permit own => ?_, fun permit own set_ => ?_, fun permit own clear => ?_⟩
      · subst own
        exact (State.uhfLock_user_spec permit action).1
      · subst own set_
        obtain ⟨-, locks, user⟩ := State.uhfLock_user_spec permit 2
        exact ⟨(congrArg (bit · 0) locks).trans (bit_userLocked _).1, user⟩
      · subst own clear
        obtain ⟨-, locks, -⟩ := State.uhfLock_user_spec permit 0
        obtain ⟨-, cleared, kept⟩ := bit_userLocked w.rr.tag.locks
        exact ⟨(congrArg (bit · 0) locks).trans cleared, (congrArg (bit · 1) locks).trans kept⟩
  case memory =>
    intro u
    have turn : s.turn dt = u := rfl
    clear_value u
    have does {f : State → State} {t : State} (is : f u = t) : finish s (f (s.turn dt)) = finish s t := by rw [turn, is]
    have runs (f : State → State) : finish s (f (s.turn dt)) = finish s (f u) := does rfl
    refine ⟨fun none_ empty => does (State.tagCommit_idle none_ empty), fun j job early => does (State.tagCommit_early job early),
      fun j job due silent => ⟨_, does (State.tagCommit_field job due), State.fieldLand_silent silent _⟩,
      fun j r none_ jobs due free => ⟨_, runs State.tagCommit, State.tagCommit_host none_ jobs due free⟩, ?land, ?power,
      fun off => does (State.harvOverload_waits off), fun drives up => ⟨_, runs State.harvOverload, State.harvOverload_pauses drives up⟩,
      fun none_ => does (State.harvRetry_waits (by simp [none_])), fun k off => ⟨fun early => does (State.harvRetry_waits ?early),
        fun due => ⟨_, runs State.harvRetry, State.harvRetry_due off due⟩⟩⟩
    case land =>
      intro m j field user sorted
      obtain ⟨words, rest⟩ := m.land_user user field
      refine ⟨words ▸ m.setWords_sorted 3 _ _ sorted, fun i written => ?_, fun a outside => ?_, rest⟩
      · rw [m.land_word user, if_pos (by omega), Nat.add_sub_cancel_left]
      · rw [m.land_word user, if_neg (by omega)]
    case power =>
      intro mv
      have onDoes {t : State} (is : u.tagOn mv = t) := does (f := (·.tagOn mv)) is
      have offDoes {t : State} (is : u.tagOff mv = t) := does (f := (·.tagOff mv)) is
      have highDoes {t : State} (is : u.harvOn mv = t) := does (f := (·.harvOn mv)) is
      have lowDoes {t : State} (is : u.harvLow mv = t) := does (f := (·.harvLow mv)) is
      exact ⟨fun h => onDoes (State.tagOn_waits h), fun off up => ⟨_, onDoes rfl, State.tagOn_starts off up⟩, fun h => offDoes (State.tagOff_waits h),
        fun on low alive h => ⟨_, offDoes rfl, State.tagOff_stops on low alive h⟩, fun h => highDoes (State.harvOn_waits h),
        fun high may => highDoes (State.harvOn_drives high may), fun h => lowDoes (State.harvLow_waits h), fun low => lowDoes (State.harvLow_stops low)⟩
    case early =>
      intro n pause
      rw [off] at pause
      cases pause
      exact early

end Sys2Proof.Machine
end

section
/-! SUPPORT. The key slots: what a slot reads as, what enters and leaves it, and what an accepted key operation comes to (R289 to R300). -/

namespace Sys2Proof.Machine
open Sys2Proof

/-! ## What a slot reads as (R292, R300) -/

/-- What leaves the key slots, the lifecycle and the write fence alone. -/
structure KeepsKeys (s t : State) : Prop where
  slots : t.rr.slots = s.rr.slots
  vol : t.ks.vol = s.ks.vol
  zeroizes : t.ks.zeroizes = s.ks.zeroizes
  marks : t.aon.marks = s.aon.marks
  lifecycle : t.rr.lifecycle = s.rr.lifecycle
  fence : t.nv.fence = s.nv.fence

theorem KeepsKeys.refl (s : State) : KeepsKeys s s := ⟨rfl, rfl, rfl, rfl, rfl, rfl⟩

theorem KeepsKeys.trans {s t u : State} (h : KeepsKeys s t) (g : KeepsKeys t u) : KeepsKeys s u :=
  ⟨g.slots.trans h.slots, g.vol.trans h.vol, g.zeroizes.trans h.zeroizes, g.marks.trans h.marks, g.lifecycle.trans h.lifecycle, g.fence.trans h.fence⟩

theorem KeepsKeys.foldl {α : Type} {f : State → α → State} (h : ∀ s a, KeepsKeys s (f s a)) (l : List α) (s : State) : KeepsKeys s (l.foldl f s) := by
  induction l generalizing s with
  | nil => exact .refl s
  | cons a r ih => exact (h s a).trans (ih _)

theorem KeepsKeys.emit {s t : State} (h : KeepsKeys s t) {u code p : Nat} : KeepsKeys s (t.emit u code p) :=
  h.trans ⟨by simp, by simp, by simp, by simp, by simp, by simp⟩

theorem KeepsKeys.emitIf {s t : State} (h : KeepsKeys s t) {b : Bool} {u code p : Nat} : KeepsKeys s (t.emitIf b u code p) := by
  cases b
  · exact h
  · exact h.emit

theorem KeepsKeys.ran (s : State) (n : Nat) : KeepsKeys s (s.ran n) := ⟨rfl, rfl, rfl, rfl, rfl, rfl⟩

theorem KeepsKeys.withRng (s : State) (r : Rng) : KeepsKeys s { s with rng := r } := ⟨rfl, rfl, rfl, rfl, rfl, rfl⟩

theorem KeepsKeys.backing {s t : State} (h : KeepsKeys s t) (n : Nat) : t.backing n = s.backing n := by rw [State.backing, State.backing, h.slots]

theorem KeepsKeys.marksOf {s t : State} (h : KeepsKeys s t) (n : Nat) : t.marksOf n = s.marksOf n := by rw [State.marksOf, State.marksOf, h.marks]

theorem State.slot_congr {s t : State} {n : Nat} (backing : t.backing n = s.backing n) (marks : t.marksOf n = s.marksOf n)
    (vol : kvGet? t.ks.vol n = kvGet? s.ks.vol n) : t.slot n = s.slot n := by
  unfold State.slot
  rw [backing, marks, vol]

theorem KeepsKeys.slot {s t : State} (h : KeepsKeys s t) (n : Nat) : t.slot n = s.slot n :=
  State.slot_congr (h.backing n) (h.marksOf n) (by rw [h.vol])

/-- A zeroized slot is EMPTY, and every mark counts for a generation (R300). -/
theorem State.slot_marked {s : State} {n : Nat} (marked : s.marksOf n ≠ 0) : s.slot n = { gen := min genMax ((s.backing n).gen + s.marksOf n) } :=
  if_pos marked

theorem State.slot_persistent {s : State} {n : Nat} (free : s.marksOf n = 0) (pers : (s.backing n).pers = true) : s.slot n = s.backing n := by
  unfold State.slot
  dsimp only
  rw [if_neg (not_not.mpr free), if_pos pers]

theorem State.slot_volatile {s : State} {n : Nat} {v : Slot} (free : s.marksOf n = 0) (pers : (s.backing n).pers = false) (held : kvGet? s.ks.vol n = some v) :
    s.slot n = { v with gen := (s.backing n).gen } := by
  unfold State.slot
  dsimp only
  rw [if_neg (not_not.mpr free), pers, held]
  rfl

theorem State.slot_empty {s : State} {n : Nat} (free : s.marksOf n = 0) (pers : (s.backing n).pers = false) (none_ : kvGet? s.ks.vol n = none) :
    s.slot n = { gen := (s.backing n).gen } := by
  unfold State.slot
  dsimp only
  rw [if_neg (not_not.mpr free), pers, none_]
  rfl

/-! ## What enters and leaves a slot (R292, R298) -/

@[simp] theorem State.recWrite_rr_slots (s : State) (a k len : Nat) : (s.recWrite a k len).rr.slots = s.rr.slots := by
  unfold State.recWrite ReRam.setArea
  dsimp only
  split_ifs <;> rfl

@[simp] theorem State.recWrite_rr_lifecycle (s : State) (a k len : Nat) : (s.recWrite a k len).rr.lifecycle = s.rr.lifecycle := by
  unfold State.recWrite ReRam.setArea
  dsimp only
  split_ifs <;> rfl

theorem KeepsKeys.recWrite (s : State) (a k len : Nat) : KeepsKeys s (s.recWrite a k len) :=
  ⟨s.recWrite_rr_slots a k len, rfl, rfl, rfl, s.recWrite_rr_lifecycle a k len, rfl⟩

@[simp] theorem State.backing_putBacking (s : State) (n : Nat) (b : Slot) : (s.putBacking n b).backing n = b := kvGet_kvPut_same _ _ _ _

theorem State.backing_putBacking_other (s : State) {n m : Nat} (b : Slot) (other : m ≠ n) : (s.putBacking n b).backing m = s.backing m :=
  (kvGet_kvPut_other _ _ _ _ _ other).trans (congrArg (kvGet {} · m) (s.recWrite_rr_slots ..))

/-- A slot takes a content, and no other slot and not the lifecycle changes. -/
structure SlotTakes (s : State) (n : Nat) (x : Slot) (t : State) : Prop where
  own : t.slot n = x
  others : ∀ m, m ≠ n → t.slot m = s.slot m
  lifecycle : t.rr.lifecycle = s.rr.lifecycle

theorem KeepsKeys.takes {s t u : State} {n : Nat} {x : Slot} (g : KeepsKeys t u) (h : SlotTakes s n x t) : SlotTakes s n x u :=
  ⟨(g.slot n).trans h.own, fun m other => (g.slot m).trans (h.others m other), g.lifecycle.trans h.lifecycle⟩

theorem KeepsKeys.of_takes {s t u : State} {n : Nat} {x : Slot} (g : KeepsKeys s t) (h : SlotTakes t n x u) : SlotTakes s n x u :=
  ⟨h.own, fun m other => (h.others m other).trans (g.slot m), h.lifecycle.trans g.lifecycle⟩

/-- A backing record commits, with a register of volatile keys that differs in its slot alone. -/
def State.putSlot (s : State) (n : Nat) (b : Slot) (l : List (Nat × Slot)) : State :=
  { s.putBacking n b with ks := { (s.putBacking n b).ks with vol := l } }

section
variable {s : State} {n : Nat} (b : Slot) {l : List (Nat × Slot)} (others : ∀ m, m ≠ n → kvGet? l m = kvGet? s.ks.vol m)
include others

theorem State.putSlot_takes {x : Slot} (own : (s.putSlot n b l).slot n = x) : SlotTakes s n x (s.putSlot n b l) :=
  ⟨own, fun m other => State.slot_congr (s.backing_putBacking_other b other) rfl (others m other), s.recWrite_rr_lifecycle ..⟩

variable (free : s.marksOf n = 0)
include free

theorem State.putSlot_persistent (pers : b.pers = true) : SlotTakes s n b (s.putSlot n b l) := by
  have own : (s.putSlot n b l).backing n = b := s.backing_putBacking n b
  exact State.putSlot_takes b others ((State.slot_persistent (s := s.putSlot n b l) free (by rw [own, pers])).trans own)

theorem State.putSlot_volatile (pers : b.pers = false) {v : Slot} (held : kvGet? l n = some v) : SlotTakes s n { v with gen := b.gen } (s.putSlot n b l) := by
  have own : (s.putSlot n b l).backing n = b := s.backing_putBacking n b
  refine State.putSlot_takes b others ((State.slot_volatile (s := s.putSlot n b l) free (by rw [own, pers]) held).trans ?_)
  rw [own]

theorem State.putSlot_empty (pers : b.pers = false) (none_ : kvGet? l n = none) : SlotTakes s n { gen := b.gen } (s.putSlot n b l) := by
  have own : (s.putSlot n b l).backing n = b := s.backing_putBacking n b
  refine State.putSlot_takes b others ((State.slot_empty (s := s.putSlot n b l) free (by rw [own, pers]) none_).trans ?_)
  rw [own]

end

theorem State.putKey_eq (s : State) (n : Nat) (x : Slot) : s.putKey n x =
    (s.putSlot n (if x.pers then { x with gen := (s.slot n).gen + 1 } else { gen := (s.slot n).gen + 1, ty := x.ty })
      (if x.pers then kvDel s.ks.vol n else kvPut s.ks.vol n { x with gen := (s.slot n).gen + 1 })).emit 0x0C 0x3701
        (n + 256 * x.origin + 65536 * (((s.slot n).gen + 1) % 65536)) := rfl

/-- A key enters a slot under the next generation. -/
theorem State.putKey_takes (s : State) {n : Nat} (free : s.marksOf n = 0) (x : Slot) : SlotTakes s n { x with gen := (s.slot n).gen + 1 } (s.putKey n x) := by
  rw [s.putKey_eq]
  refine (KeepsKeys.refl _).emit.takes ?_
  by_cases pers : x.pers = true
  · simp only [if_pos pers]
    exact State.putSlot_persistent _ (fun m other => kvGet?_kvDel_other _ _ _ other) free pers
  · simp only [if_neg pers]
    exact State.putSlot_volatile { gen := (s.slot n).gen + 1, ty := x.ty } (fun m other => kvGet?_kvPut_other _ _ _ _ other) free rfl
      (v := { x with gen := (s.slot n).gen + 1 }) (kvGet?_kvPut_same _ _ _)

/-- An erase leaves the next generation (R298). -/
theorem State.eraseKey_takes (s : State) {n : Nat} (free : s.marksOf n = 0) : SlotTakes s n { gen := (s.slot n).gen + 1 } (s.eraseKey n) := by
  have erased : s.eraseKey n = (s.putSlot n { gen := (s.slot n).gen + 1 } (kvDel s.ks.vol n)).emit 0x0C 0x3702 (n + 256) := rfl
  rw [erased]
  refine (KeepsKeys.refl _).emit.takes ?_
  exact State.putSlot_empty { gen := (s.slot n).gen + 1 } (fun m other => kvGet?_kvDel_other _ _ _ other) free rfl (kvGet?_kvDel_same _ _)

/-! ## Zeroizes (R299, R300) -/

theorem KeepsKeys.cipherRevoke (s : State) (n : Nat) : KeepsKeys s (s.cipherRevoke n) := by
  unfold State.cipherRevoke
  split
  · exact .refl s
  · refine .emit ?_
    exact ⟨rfl, rfl, rfl, rfl, rfl, rfl⟩

theorem KeepsKeys.pkEnd (s : State) (code gen : Nat) (sig dig : Bytes) : KeepsKeys s (s.pkEnd code gen sig dig) := by
  refine .emit ?_
  exact ⟨rfl, rfl, rfl, rfl, rfl, rfl⟩

theorem KeepsKeys.pkRevoke (s : State) (n : Nat) : KeepsKeys s (s.pkRevoke n).1 := by
  unfold State.pkRevoke
  split
  · exact .refl s
  · split
    · exact .pkEnd ..
    · exact .refl s

theorem KeepsKeys.counterRefuse (s : State) (n : Nat) : KeepsKeys s (s.counterRefuse n) := by
  unfold State.counterRefuse
  dsimp only
  split
  · exact .refl s
  · refine .emit ?_
    exact ⟨rfl, rfl, rfl, rfl, rfl, rfl⟩

/-- An increment waits in the pending counts where the fence is up, and asks for a program operation where it is down. -/
theorem KeepsKeys.increment (s : State) (n k : Nat) : KeepsKeys s (s.increment n k) := by
  unfold State.increment
  split
  · exact .counterRefuse s n
  · split
    · exact ⟨rfl, rfl, rfl, rfl, rfl, rfl⟩
    · next down =>
      have none_ : s.nv.fence = none := by simpa [State.fenced] using down
      unfold State.nvRequest
      simp only [none_]
      exact ⟨rfl, rfl, rfl, rfl, rfl, none_.symm⟩

theorem KeepsKeys.addPulses (s : State) (n : Nat) : KeepsKeys s (s.addPulses n) := by
  unfold State.addPulses
  dsimp only
  split_ifs
  · exact .refl s
  · exact ⟨rfl, rfl, rfl, rfl, rfl, rfl⟩
  · exact .counterRefuse s 0
  · refine .trans ?_ (.increment ..)
    exact ⟨rfl, rfl, rfl, rfl, rfl, rfl⟩

theorem KeepsKeys.toPulses (s : State) : KeepsKeys s s.toPulses := by
  unfold State.toPulses
  split
  · exact .refl s
  · refine .trans ?_ (.addPulses ..)
    exact ⟨rfl, rfl, rfl, rfl, rfl, rfl⟩

theorem KeepsKeys.sessionEnd (s : State) (n cause : Nat) : KeepsKeys s (s.sessionEnd n cause) := by
  unfold State.sessionEnd
  dsimp only
  split
  · exact .refl s
  · refine .emit ?_
    exact ⟨rfl, rfl, rfl, rfl, rfl, rfl⟩

theorem KeepsKeys.endSessions (s : State) (p : Row → Bool) (cause : Nat) : KeepsKeys s (s.endSessions p cause) := by
  refine .foldl (fun t e => ?_) _ s
  split
  · exact .sessionEnd ..
  · exact .refl t

theorem KeepsKeys.ctxRevoke (s : State) (n : Nat) : KeepsKeys s (s.ctxRevoke n) := by
  unfold State.ctxRevoke
  dsimp only
  split_ifs
  · exact .refl s
  all_goals exact .trans (.endSessions ..) ⟨rfl, rfl, rfl, rfl, rfl, rfl⟩

theorem KeepsKeys.revokeWorking (s : State) (n : Nat) : KeepsKeys s (s.revokeWorking n) := by
  unfold State.revokeWorking
  split_ifs
  · exact ⟨rfl, rfl, rfl, rfl, rfl, rfl⟩
  · exact .refl s
  · unfold State.linkTo
    refine (KeepsKeys.toPulses s).trans (.emitIf ?_)
    exact ⟨rfl, rfl, rfl, rfl, rfl, rfl⟩
  · exact .ctxRevoke s n

/-- What a zeroize does to the slots themselves: a mark, and the register of a volatile key cleared. -/
def State.markZeroized (s : State) (n : Nat) : State :=
  { s with
    aon := { s.aon with marks := s.aon.marks ++ [n] }
    ks := { s.ks with vol := kvDel s.ks.vol n, zeroizes := satAdd 32 s.ks.zeroizes 1 } }

theorem State.backing_markZeroized (s : State) (n m : Nat) : (s.markZeroized n).backing m = s.backing m := rfl

theorem KeepsKeys.markZeroized {s t : State} (h : KeepsKeys s t) (n : Nat) : KeepsKeys (s.markZeroized n) (t.markZeroized n) :=
  ⟨h.slots, congrArg (kvDel · n) h.vol, congrArg (satAdd 32 · 1) h.zeroizes, congrArg (· ++ [n]) h.marks, h.lifecycle, h.fence⟩

/-- The jobs and working keys that a zeroize revokes are no part of the slots. -/
theorem State.zeroizeSlot_marks (s : State) (n kind : Nat) : KeepsKeys (s.markZeroized n) (s.zeroizeSlot n kind) := by
  have jobs : KeepsKeys s ((s.coresOn n).foldl (fun (t : State) k => t.cipherRevoke k) (s.pkRevoke n).1) :=
    (KeepsKeys.pkRevoke s n).trans (.foldl (fun t k => .cipherRevoke t k) _ _)
  exact (jobs.markZeroized n).trans (KeepsKeys.revokeWorking _ n).emit.emitIf

theorem State.marksOf_markZeroized (s : State) (n m : Nat) : (s.markZeroized n).marksOf m = s.marksOf m + if n = m then 1 else 0 := by
  by_cases same : n = m <;> simp [State.marksOf, State.markZeroized, same]

/-- A zeroize empties its slot under one more generation and leaves the other slots, the fence and the lifecycle. -/
theorem State.zeroizeSlot_takes (s : State) (n kind : Nat) :
    SlotTakes s n { gen := min genMax ((s.backing n).gen + (s.marksOf n + 1)) } (s.zeroizeSlot n kind) := by
  refine (s.zeroizeSlot_marks n kind).takes ⟨?_, fun m other => ?_, rfl⟩
  · have count : (s.markZeroized n).marksOf n = s.marksOf n + 1 := by rw [s.marksOf_markZeroized, if_pos rfl]
    rw [State.slot_marked (count ▸ Nat.succ_ne_zero _), count, s.backing_markZeroized]
  · have count : (s.markZeroized n).marksOf m = s.marksOf m := by rw [s.marksOf_markZeroized, if_neg (Ne.symm other), Nat.add_zero]
    exact State.slot_congr (s.backing_markZeroized n m) count (kvGet?_kvDel_other s.ks.vol n m other)

theorem State.foldl_zeroizeSlot (kind : Nat) (l : List Nat) (s : State) (m : Nat) :
    (l.foldl (fun (t : State) n => t.zeroizeSlot n kind) s).backing m = s.backing m ∧
      (l.foldl (fun (t : State) n => t.zeroizeSlot n kind) s).marksOf m = s.marksOf m + l.count m := by
  induction l generalizing s with
  | nil => exact ⟨rfl, rfl⟩
  | cons n r ih =>
    obtain ⟨backing, marks⟩ := ih (s.zeroizeSlot n kind)
    have one := s.zeroizeSlot_marks n kind
    refine ⟨backing.trans (one.backing m), marks.trans ?_⟩
    rw [one.marksOf, s.marksOf_markZeroized, List.count_cons]
    simp only [beq_iff_eq]
    omega

theorem State.zeroizeEvery_slot (s : State) {m : Nat} (lt : m < 64) : s.zeroizeEvery.slot m = { gen := min genMax ((s.backing m).gen + (s.marksOf m + 1)) } := by
  obtain ⟨backing, marks⟩ := State.foldl_zeroizeSlot 3 (List.range 64) s m
  have once : (List.range 64).count m = 1 := List.count_eq_one_of_mem List.nodup_range (List.mem_range.mpr lt)
  rw [once] at marks
  unfold State.zeroizeEvery
  rw [State.slot_marked (by rw [marks]; exact Nat.succ_ne_zero _), backing, marks]

end Sys2Proof.Machine
end

section
/-! SUPPORT. Key operations: what a write of an operation code begins, and what each operation does to its slot (R289 to R300, R318). -/

namespace Sys2Proof.Machine
open Sys2Proof

/-! ## The write of an operation code -/

/-- The way of a key operation. -/
def keyWay (c : Client) (code : Nat) : Way :=
  { nv := decide (code ≠ 4 ∧ code ≠ 6), need := fun s => if code = 2 then s.generateNeed c else 0, act := fun s => s.keyOp c code }

theorem wayOf_keyOp (c : Client) (data : Bytes) : wayOf c 0x3720 6 data = keyWay c (leNat data) := rfl

/-- The slot that an operation record asks for, with a key from an origin, before its generation (R294). -/
def KeyAsk.content (a : KeyAsk) (origin : Nat) (k : Bytes) : Slot := { ty := a.ty, usage := a.usage, pers := a.pers, origin := origin, key := k }

section
variable {u : State} {c : Client}

/-- An operation that may act runs its way: the zeroizes at any time, the others with the fence down, or on a slot whose increase has not committed. -/
theorem asksWrite_keyOp {code : Nat} {data : Bytes} (acc : Accepts u c 0x3720 6 data) (value : leNat data = code)
    (may : code = 4 ∨ code = 6 ∨ u.fenced = false ∨ u.keyStale c code = true) :
    u.asksWrite c 0x3720 6 data = u.runWay c (key 0x3720 6) data (keyWay c code) := by
  subst value
  rw [asksWrite_begins acc, wayOf_keyOp]
  unfold State.beginWrite
  rw [if_neg (by decide), if_neg (by decide)]
  split
  · rfl
  · next fresh =>
    unfold State.startWay
    refine if_neg ?_
    obtain zeroize | all | down | stale := may
    · simp [keyWay, zeroize]
    · simp [keyWay, all]
    · simp [keyWay, down]
    · exact absurd ⟨rfl, rfl, stale⟩ fresh

/-- An operation that draws no random bytes acts at once and is answered. -/
theorem State.runWay_acts {k : Nat} {data : Bytes} {w : Way} (need : w.need u = 0) : u.runWay c k data w = (w.act u).1.answer c k (w.act u).2 [] true :=
  if_pos need

theorem asksWrite_keyOp_acts {code : Nat} {data : Bytes} (acc : Accepts u c 0x3720 6 data) (value : leNat data = code)
    (may : code = 4 ∨ code = 6 ∨ u.fenced = false ∨ u.keyStale c code = true) (draws : code = 2 → u.generateNeed c = 0) :
    u.asksWrite c 0x3720 6 data = (u.keyOp c code).1.answer c (key 0x3720 6) (u.keyOp c code).2 [] true := by
  rw [asksWrite_keyOp acc value may]
  refine State.runWay_acts ?_
  show (if code = 2 then u.generateNeed c else 0) = 0
  split
  · next generate => exact draws generate
  · rfl

/-! ## The refusals -/

theorem State.keyWriteCause_stale (stale : u.ks.stale.contains (u.keyAsk c).slot = true) : u.keyWriteCause c (u.keyAsk c) ≠ 0 := by
  unfold State.keyWriteCause
  split_ifs <;> decide

theorem State.generateCause_of_write {a : KeyAsk} (cause : u.keyWriteCause c a ≠ 0) : u.generateCause c a ≠ 0 := by
  unfold State.generateCause
  dsimp only
  split
  · decide
  · exact cause

theorem State.generateCause_passes {a : KeyAsk} (free : u.generateCause c a = 0) : u.keyWriteCause c a = 0 ∧ u.rngStopped 6 = false := by
  have free : u.generateCause c a = abOk := free
  unfold State.generateCause at free
  obtain ⟨-, free⟩ := passes_check free (by decide)
  split at free
  · next refused => exact absurd free refused
  · next passes =>
    obtain ⟨runs, -⟩ := passes_check free (by decide)
    simp only [Bool.or_eq_true, not_or, Bool.not_eq_true] at runs
    exact ⟨not_not.mp passes, runs.1⟩

/-- A type that suits a slot has a length (R290). -/
theorem keyBytes_of_suits {n ty : Nat} (suits : typeSuits n ty = true) : (keyBytes ty).getD 0 ≠ 0 := by
  have type : ty = 1 ∨ ty = 2 ∨ ty = 3 ∨ (0x10 ≤ ty ∧ ty ≤ 0x15) := by
    unfold typeSuits at suits
    split at suits
    · next f fixed =>
      have suits : ty = f.1 := by simpa using suits
      unfold slotFixed at fixed
      split_ifs at fixed <;> cases fixed <;> simp [suits]
    · split at suits
      · simp only [Bool.or_eq_true, beq_iff_eq] at suits
        omega
      · simp only [Bool.and_eq_true, decide_eq_true_eq] at suits
        omega
  obtain rfl | rfl | rfl | ⟨lo, hi⟩ := type
  · decide
  · decide
  · decide
  · interval_cases ty <;> decide

theorem State.suits_of_keyWriteCause {a : KeyAsk} (free : u.keyWriteCause c a = 0) : typeSuits a.slot a.ty = true := by
  have free : u.keyWriteCause c a = abOk := free
  unfold State.keyWriteCause at free
  obtain ⟨-, free⟩ := passes_check free (by decide)
  obtain ⟨suits, -⟩ := passes_check free (by decide)
  simp only [Bool.or_eq_true, not_or, Bool.not_eq_eq_eq_not] at suits
  simpa using suits.1

/-! ## IMPORT and IMPORT_PLAIN (R294, R295) -/

/-- What the wrapped key of a client opens to under the key of slot 0 (R295). -/
def State.importText (u : State) (c : Client) : Option Bytes :=
  gcmDec (u.slot 0).key ((u.wrapped c).take 12) (importAad (u.keyAsk c)) (slice 12 48 (u.wrapped c)) (slice 60 16 (u.wrapped c))

/-- What an import does with what its wrapped key opens to (R295). -/
def State.importOpened (u : State) (c : Client) : Option Bytes → State × Nat
  | none => ({ u.ran 0 with cipher := { (u.ran 0).cipher with authFails := satAdd 32 (u.ran 0).cipher.authFails 1 } }, abAuthFail)
  | some p =>
    match plainKey (u.keyAsk c).ty p with
    | none => (u.ran 0, abRange)
    | some k => ((u.ran 0).putKey (u.keyAsk c).slot ((u.keyAsk c).content 2 k), abOk)

theorem State.keyImport_refused (refused : u.keyWriteCause c (u.keyAsk c) ≠ 0) : u.keyImport c = (u, u.keyWriteCause c (u.keyAsk c)) := if_pos refused

section
variable (free : u.keyWriteCause c (u.keyAsk c) = 0)
include free

theorem State.keyImport_unavailable (down : u.trustLost = true ∨ u.serving 0x09 = false) : u.keyImport c = (u, abUnavail) := by
  unfold State.keyImport
  dsimp only
  rw [if_neg (not_not.mpr free), if_pos]
  obtain lost | stopped := down
  · simp [lost]
  · simp [State.cipherOk, stopped]

section
variable (trust : u.trustLost = false) (cipher : u.serving 0x09 = true)
include trust cipher

theorem State.keyImport_no_wrapping_key (empty : (u.slot 0).ty = 0) : u.keyImport c = (u, abAuthFail) := by
  unfold State.keyImport
  dsimp only
  rw [if_neg (not_not.mpr free), if_neg (by simp [trust, State.cipherOk, cipher]), if_pos empty]

variable (keyed : (u.slot 0).ty ≠ 0)
include keyed

theorem State.keyImport_keyed : u.keyImport c = u.importOpened c (u.importText c) := by
  unfold State.keyImport
  dsimp only
  rw [if_neg (not_not.mpr free), if_neg (by simp [trust, State.cipherOk, cipher]), if_neg keyed]
  rfl

theorem State.keyImport_unopened (bad : u.importText c = none) :
    u.keyImport c = ({ u.ran 0 with cipher := { (u.ran 0).cipher with authFails := satAdd 32 u.cipher.authFails 1 } }, abAuthFail) := by
  rw [State.keyImport_keyed free trust cipher keyed, bad]
  rfl

theorem State.keyImport_range {p : Bytes} (opens : u.importText c = some p) (bad : plainKey (u.keyAsk c).ty p = none) : u.keyImport c = (u.ran 0, abRange) := by
  rw [State.keyImport_keyed free trust cipher keyed, opens, State.importOpened, bad]

theorem State.keyImport_stores {p k : Bytes} (opens : u.importText c = some p) (good : plainKey (u.keyAsk c).ty p = some k) :
    u.keyImport c = ((u.ran 0).putKey (u.keyAsk c).slot ((u.keyAsk c).content 2 k), abOk) := by
  rw [State.keyImport_keyed free trust cipher keyed, opens, State.importOpened, good]

end

end

theorem State.importPlain_role (barred : u.rr.lifecycle ≠ lcFactory ∨ u.role c ≠ roleF) : u.importPlain c = (u, abRole) := if_pos (by simpa using barred)

section
variable (factory : u.rr.lifecycle = lcFactory) (role : u.role c = roleF)
include factory role

theorem State.importPlain_refused (refused : u.keyWriteCause c (u.keyAsk c) ≠ 0) : u.importPlain c = (u, u.keyWriteCause c (u.keyAsk c)) := by
  unfold State.importPlain
  dsimp only
  rw [if_neg (by simp [factory, role]), if_pos refused]

variable (free : u.keyWriteCause c (u.keyAsk c) = 0)
include free

theorem State.importPlain_range (bad : plainKey (u.keyAsk c).ty (slice 12 48 (u.wrapped c)) = none) : u.importPlain c = (u, abRange) := by
  unfold State.importPlain
  dsimp only
  rw [if_neg (by simp [factory, role]), if_neg (not_not.mpr free), bad]

theorem State.importPlain_stores {k : Bytes} (good : plainKey (u.keyAsk c).ty (slice 12 48 (u.wrapped c)) = some k) : u.importPlain c =
    (u.putKey (u.keyAsk c).slot ((u.keyAsk c).content 3 k), abOk) := by
  unfold State.importPlain
  dsimp only
  rw [if_neg (by simp [factory, role]), if_neg (not_not.mpr free), good]
  rfl

end

/-! ## GENERATE (R294, R327) -/

theorem State.generate_refused (refused : u.generateCause c (u.keyAsk c) ≠ 0) :
    u.generateNeed c = 0 ∧ u.generate c = (u, u.generateCause c (u.keyAsk c)) := ⟨if_pos refused, if_pos refused⟩

section
variable (free : u.generateCause c (u.keyAsk c) = 0)
include free

/-- A GENERATE that no rule refuses needs the bytes of its type. -/
theorem State.generateNeed_eq : u.generateNeed c = (keyBytes (u.keyAsk c).ty).getD 0 ∧ u.generateNeed c ≠ 0 := by
  have need : u.generateNeed c = (keyBytes (u.keyAsk c).ty).getD 0 := if_neg (not_not.mpr free)
  exact ⟨need, need ▸ keyBytes_of_suits (State.suits_of_keyWriteCause (State.generateCause_passes free).1)⟩

theorem State.generate_waits (short : u.rngWaits 6 ((keyBytes (u.keyAsk c).ty).getD 0) = true) (k : Nat) (data : Bytes) :
    u.runWay c k data (keyWay c 2) =
      { u with rng := { u.rng with waits := u.rng.waits ++ [{ ch := 6, need := (keyBytes (u.keyAsk c).ty).getD 0, c := c, key := k, data := data }] } } := by
  obtain ⟨need, some_⟩ := State.generateNeed_eq free
  have own : (keyWay c 2).need u = u.generateNeed c := rfl
  have channel : (keyWay c 2).ch u = 6 := rfl
  unfold State.runWay
  rw [own, channel, if_neg some_, (State.generateCause_passes free).2, need, short]
  rfl

/-- With enough bytes the key is made of the oldest of channel 6. -/
theorem State.generate_stores (has : u.rngWaits 6 ((keyBytes (u.keyAsk c).ty).getD 0) = false) (k : Nat) (data : Bytes) :
    ∃ r, u.runWay c k data (keyWay c 2) = (({ u with rng := r } : State).putKey (u.keyAsk c).slot
      ((u.keyAsk c).content 1 (randomKey (u.keyAsk c).ty ((u.rngBuf 6).take ((keyBytes (u.keyAsk c).ty).getD 0))))).answer c k abOk [] true := by
  obtain ⟨need, some_⟩ := State.generateNeed_eq free
  obtain ⟨-, runs⟩ := State.generateCause_passes free
  obtain ⟨r, drawn⟩ := State.draw_some runs has
  have own : (keyWay c 2).need u = u.generateNeed c := rfl
  have channel : (keyWay c 2).ch u = 6 := rfl
  have acts : (keyWay c 2).act u = u.generate c := rfl
  have makes : u.generate c = (({ u with rng := r } : State).putKey (u.keyAsk c).slot
      ((u.keyAsk c).content 1 (randomKey (u.keyAsk c).ty ((u.rngBuf 6).take ((keyBytes (u.keyAsk c).ty).getD 0)))), abOk) := by
    unfold State.generate
    dsimp only
    rw [if_neg (not_not.mpr free), drawn]
    rfl
  refine ⟨r, ?_⟩
  unfold State.runWay
  rw [own, channel, if_neg some_, runs, need, has, acts, makes]
  rfl

end

/-! ## ERASE and the zeroizes (R298, R299) -/

theorem State.erase_role (barred : u.mayErase c (u.keyAsk c).slot = false) : u.erase c = (u, abRole) := if_pos (by rw [barred]; rfl)

theorem State.erase_retired (may : u.mayErase c (u.keyAsk c).slot = true) (retired : u.retired (u.keyAsk c).slot = true) : u.erase c = (u, abRange) := by
  unfold State.erase
  dsimp only
  rw [if_neg (by simp [may]), if_pos retired]

theorem State.erase_empties (may : u.mayErase c (u.keyAsk c).slot = true) (live : u.retired (u.keyAsk c).slot = false) :
    u.erase c = (u.eraseKey (u.keyAsk c).slot, abOk) := by
  unfold State.erase
  dsimp only
  rw [if_neg (by simp [may]), if_neg (by simp [live])]

theorem State.zeroizeNow_role (barred : u.mayErase c (u.keyAsk c).slot = false) : u.zeroizeNow c = (u, abRole) := if_pos (by rw [barred]; rfl)

theorem State.zeroizeNow_empties (may : u.mayErase c (u.keyAsk c).slot = true) : u.zeroizeNow c = (u.zeroizeSlot (u.keyAsk c).slot 2, abOk) :=
  if_neg (by rw [may]; exact Bool.false_ne_true)

theorem State.zeroizeAll_role (barred : u.role c ≠ roleF) : u.zeroizeAll c = (u, abRole) := if_pos (by simpa using barred)

theorem State.zeroizeAll_empties (role : u.role c = roleF) : ∃ v, u.zeroizeAll c = (v, abOk) ∧
    ∀ m, m < 64 → v.slot m = { gen := min genMax ((u.backing m).gen + (u.marksOf m + 1)) } :=
  ⟨u.zeroizeEvery, if_neg (by simp [role]), fun _ lt => u.zeroizeEvery_slot lt⟩

/-! ## SLOT_SELECT (R318) -/

theorem leNat_leBytes_one {m : Nat} (lt : m < 256) : leNat (leBytes 1 m) = m := by
  simp [leBytes, leNat, Nat.mod_eq_of_lt lt]

/-- A selection gives its client a snapshot of the slot, and nothing of the slots changes. -/
theorem asksWrite_slotSelect {m : Nat} (lt : m < 64) (acc : Accepts u c 0x3702 1 (leBytes 1 m)) : ∃ t, u.asksWrite c 0x3702 1 (leBytes 1 m) = t ∧
    KeepsKeys u t ∧ (t.ctx c).slotMs = u.ms % 2 ^ 32 ∧ (t.ctx c).slotVals = u.slotObjects m := by
  have act := asksWrite_acts { act := okAct (fun s => (s.setCval c 0x3702 1 (leNat (leBytes 1 m))).slotSelect c (leNat (leBytes 1 m))) } rfl acc
    (by decide) (by decide) rfl (fun nv => Bool.noConfusion nv) rfl
  rw [leNat_leBytes_one (by omega)] at act
  let x : ClientCtx := ((u.setCval c 0x3702 1 m).setCval c 0x3702 1 m).ctx c
  have selected : ((u.setCval c 0x3702 1 m).slotSelect c m).ctx c = { x with slotMs := u.ms % 2 ^ 32, slotVals := u.slotObjects m } :=
    State.ctx_setCtx_of _ _ c (State.ctx_c _ c)
  refine ⟨_, act, ⟨rfl, rfl, rfl, rfl, rfl, rfl⟩, ?_, ?_⟩
  · exact (congrArg ClientCtx.slotMs (State.ctx_answer _ c _ _ _ _)).trans (congrArg ClientCtx.slotMs selected)
  · exact (congrArg ClientCtx.slotVals (State.ctx_answer _ c _ _ _ _)).trans (congrArg ClientCtx.slotVals selected)

end

end Sys2Proof.Machine
end

section
/-! SUPPORT. Anchors, the certificate of the summary signing key, and the statement on key operations (R302, R304). -/

namespace Sys2Proof.Machine
open Sys2Proof

/-! ## The commit of a value and the key slots -/

@[simp] theorem State.recWrite_rr_tag (s : State) (a k len : Nat) : (s.recWrite a k len).rr.tag = s.rr.tag := by
  unfold State.recWrite ReRam.setArea
  dsimp only
  split_ifs <;> rfl

theorem State.obj_congr {s t : State} {ix sub : Nat} (ram : t.objs = s.objs) (reram : t.rr.objs = s.rr.objs) : t.obj ix sub = s.obj ix sub := by
  rw [State.obj, State.obj, ram, reram]

/-- The commit of a value stores it as a write of it would, and leaves the key slots and tag memory. -/
theorem State.commitObj_spec (s : State) (ix sub v : Nat) :
    (s.commitObj ix sub v).objs = (s.setObj ix sub v).objs ∧ (s.commitObj ix sub v).rr.objs = (s.setObj ix sub v).rr.objs ∧
      (s.commitObj ix sub v).rr.slots = s.rr.slots ∧ (s.commitObj ix sub v).rr.tag = s.rr.tag := by
  cases find : objFind ix sub with
  | none =>
    have same : s.commitObj ix sub v = s := by rw [State.commitObj, find]
    have stored : s.setObj ix sub v = s := by rw [State.setObj, find]
    exact ⟨by rw [same, stored], by rw [same, stored], by rw [same], by rw [same]⟩
  | some d =>
    have act : s.commitObj ix sub v = (s.recWrite (areaOf ix) (key ix sub) (recLen d v)).setObj ix sub v := by rw [State.commitObj, find]
    have objs := (KeepsObjects.recWrite s (areaOf ix) (key ix sub) (recLen d v)).rrObjs
    rw [act, State.setObj_of_find _ find, State.setObj_of_find _ find]
    split
    · exact ⟨rfl, congrArg (kvSet d.dflt · (key ix sub) v) objs, s.recWrite_rr_slots .., s.recWrite_rr_tag ..⟩
    · exact ⟨rfl, objs, s.recWrite_rr_slots .., s.recWrite_rr_tag ..⟩

/-! ## Anchors (R302) -/

section
variable {u : State} {c : Client} {r : Bytes}

/-- An anchor that may sign anchor changes has signed the record of a change to an entry that exists. -/
def State.anchorGood (u : State) (r : Bytes) : Prop :=
  let k := u.anchor (r.getD 109 0).toNat
  (r.getD 0 0).toNat < 8 ∧ (r.getD 109 0).toNat < 8 ∧ anchorMask (slice 1 108 r) < 32 ∧ bit (anchorMask k) 4 = true ∧ 1 ≤ anchorAlg k ∧ anchorAlg k ≤ 3 ∧
    (verifyWith (algType (anchorAlg k)) (anchorPub k) (ascii "KV-ANCHR" ++ serialBytes ++ [r.getD 0 0] ++ slice 1 108 r) false
      (slice 110 (algSig (anchorAlg k)) r) == some true) = true

theorem State.anchorChange_unavailable (down : u.serving 0x0A = false) : u.anchorChange r = (u, abUnavail) := by
  unfold State.anchorChange
  rw [State.pkOk, down]
  rfl

theorem State.anchorChange_unsigned (up : u.serving 0x0A = true) (bad : ¬u.anchorGood r) : u.anchorChange r = (u, abAuthFail) := by
  unfold State.anchorChange
  rw [State.pkOk, up]
  dsimp only
  rw [if_neg (by simp), if_neg]
  intro good
  simp only [Bool.and_eq_true, decide_eq_true_eq] at good
  obtain ⟨⟨⟨⟨⟨⟨entry, signer⟩, mask⟩, may⟩, low⟩, high⟩, signed⟩ := good
  exact bad ⟨entry, signer, mask, may, low, high, signed⟩

theorem State.anchorChange_signed (up : u.serving 0x0A = true) (good : u.anchorGood r) : u.anchorChange r =
    ((u.commitObj 0x3730 ((r.getD 0 0).toNat + 1) (leNat (slice 1 108 r))).emit 0x0C 0x3705 (r.getD 0 0).toNat, abOk) := by
  obtain ⟨entry, signer, mask, may, low, high, signed⟩ := good
  unfold State.anchorChange
  rw [State.pkOk, up]
  dsimp only
  rw [if_neg (by simp), if_pos]
  simp only [Bool.and_eq_true, decide_eq_true_eq]
  exact ⟨⟨⟨⟨⟨⟨entry, signer⟩, mask⟩, may⟩, low⟩, high⟩, signed⟩

theorem State.anchorChange_stores (up : u.serving 0x0A = true) (good : u.anchorGood r) : (u.anchorChange r).2 = abOk ∧
    (u.anchorChange r).1.rr.objs = (u.setObj 0x3730 ((r.getD 0 0).toNat + 1) (leNat (slice 1 108 r))).rr.objs ∧ (u.anchorChange r).1.rr.slots = u.rr.slots := by
  obtain ⟨-, objs, slots, -⟩ := u.commitObj_spec 0x3730 ((r.getD 0 0).toNat + 1) (leNat (slice 1 108 r))
  rw [State.anchorChange_signed up good]
  exact ⟨rfl, (State.emit_rr_objs ..).trans objs, (State.emit_rr_slots ..).trans slots⟩

theorem asksWrite_anchorChange (acc : Accepts u c 0x3731 1 r) (down : u.fenced = false) :
    u.asksWrite c 0x3731 1 r = (u.anchorChange r).1.answer c (key 0x3731 1) (u.anchorChange r).2 [] true :=
  asksWrite_acts { nv := true, act := fun s => s.anchorChange r } rfl acc (by decide) (by decide) rfl (fun _ => down) rfl

end

/-! ## The certificate of the summary signing key (R304) -/

section
variable {u : State} {c : Client} {b : Bytes}

theorem State.summaryCertificate_unavailable (down : u.trustLost = true ∨ u.serving 0x0A = false) : u.summaryCertificate b = (u, abUnavail) := by
  refine if_pos ?_
  obtain lost | stopped := down
  · simp [lost]
  · simp [State.pkOk, stopped]

section
variable (trust : u.trustLost = false) (up : u.serving 0x0A = true)
include trust up

theorem State.summaryCertificate_refused (bad : u.summaryCertOk b = false) : u.summaryCertificate b = (u, abRange) := by
  unfold State.summaryCertificate
  rw [if_neg (by simp [trust, State.pkOk, up]), if_neg (by simp [bad])]

theorem State.summaryCertificate_taken (good : u.summaryCertOk b = true) : u.summaryCertificate b = ((u.commitObj 0x3740 1 (leNat b)).certCopy, abOk) := by
  unfold State.summaryCertificate
  rw [if_neg (by simp [trust, State.pkOk, up]), if_pos good]

end

theorem asksWrite_summaryCertificate (acc : Accepts u c 0x3740 1 b) (down : u.fenced = false) :
    u.asksWrite c 0x3740 1 b = (u.summaryCertificate b).1.answer c (key 0x3740 1) (u.summaryCertificate b).2 [] true :=
  asksWrite_acts { nv := true, act := fun s => s.summaryCertificate b } rfl acc (by decide) (by decide) rfl (fun _ => down) rfl

/-- A copy of the certificate leaves the store of objects and the key slots. -/
theorem State.certCopy_keeps (s : State) : s.certCopy.rr.objs = s.rr.objs ∧ s.certCopy.rr.slots = s.rr.slots := by
  unfold State.certCopy
  dsimp only
  split_ifs <;> simp

/-- A certificate no shorter than the length of the copy goes to the tag. -/
theorem State.certCopy_copies {s : State} (fits : s.obj 0x3740 2 ≤ certLength (s.objBytes 2030 0x3740 1)) :
    s.certCopy.rr.tag.cert = (s.objBytes 2030 0x3740 1).take (s.obj 0x3740 2) := by
  unfold State.certCopy
  dsimp only
  rw [if_pos fits]
  split
  · next same => exact same
  · rfl

theorem State.certCopy_short {s : State} (short : certLength (s.objBytes 2030 0x3740 1) < s.obj 0x3740 2) : s.certCopy.rr.tag = s.rr.tag := by
  unfold State.certCopy
  dsimp only
  rw [if_neg (Nat.not_le.mpr short)]
  exact State.snapshot_rr_tag ..

/-- A committed certificate of the object's length reads back, and the length of its copy is as before. -/
theorem State.commitObj_certificate (u : State) {b : Bytes} (length : b.length = 2030) :
    (u.commitObj 0x3740 1 (leNat b)).objBytes 2030 0x3740 1 = b ∧ (u.commitObj 0x3740 1 (leNat b)).obj 0x3740 2 = u.obj 0x3740 2 := by
  obtain ⟨ram, reram, -, -⟩ := u.commitObj_spec 0x3740 1 (leNat b)
  have reads (sub : Nat) := State.obj_congr (ix := 0x3740) (sub := sub) ram reram
  obtain ⟨d, find⟩ := Option.isSome_iff_exists.mp (by decide +kernel : (objFind 0x3740 1).isSome = true)
  refine ⟨?_, (reads 2).trans (u.obj_setObj_other _ (by decide) (by decide) (by decide))⟩
  rw [State.objBytes, reads 1, u.obj_setObj_same find, ← length]
  exact leBytes_leNat b

/-- An accepted certificate has the length of its object (R36). -/
theorem length_of_accepts_certificate (acc : Accepts u c 0x3740 1 b) : b.length = 2030 := by
  obtain ⟨-, checks⟩ := acc
  have form : u.checkForm c 0x3740 1 (leNat b) b.length = abOk := by
    unfold State.checkWrite at checks
    dsimp only at checks
    split at checks
    · exact checks
    · next passes => exact not_not.mp passes
  have length : lenOf 0x3740 1 = some 2030 := by decide +kernel
  unfold State.checkForm at form
  dsimp only at form
  split at form
  · next refused => exact absurd form refused
  · obtain ⟨-, form⟩ := passes_check form (by decide)
    obtain ⟨fits, -⟩ := passes_check form (by decide)
    rw [length, Bool.or_eq_true, not_or] at fits
    have fits : ¬(2030 != b.length) = true := fits.1
    exact (by simpa using fits : 2030 = b.length).symm

end

/-! ## The statement -/

theorem State.keyOutcome_answered (t : State) (c : Client) (ab : Nat) (q : List Instr) :
    (({ t.answer c (key 0x3720 6) ab [] true with pending := q } : State).ctx c).keyOutcome = ab :=
  congrArg ClientCtx.keyOutcome (t.ctx_answer c (key 0x3720 6) ab [] true)

/-- A slot that has taken its content shows it once the operation is answered, with the outcome 0. -/
theorem SlotTakes.answered {u t : State} {n : Nat} {x : Slot} (h : SlotTakes u n x t) (c : Client) (q : List Instr) :
    let v : State := { t.answer c (key 0x3720 6) abOk [] true with pending := q }
    v.slot n = x ∧ (∀ m, m ≠ n → v.slot m = u.slot m) ∧ (v.ctx c).keyOutcome = 0 ∧ v.rr.lifecycle = u.rr.lifecycle :=
  ⟨h.own, h.others, t.keyOutcome_answered c abOk q, h.lifecycle⟩

/-- Settles O53: each operation is one answer to what it makes of its slot, each credential by the check that decides it. -/
theorem keyOperationsChangeSlots : Obligations.KeyOperationsChangeSlots := by
  intro s dt c u
  have turn : s.turn dt = u := rfl
  clear_value u
  intro a n op no cause won blank
  have begins {code : Nat} (acc : op code) {t : State} (is : u.asksWrite c 0x3720 6 [byte code] = t) :
      finish s ((s.turn dt).asksWrite c 0x3720 6 [byte code]) = finish s t := by rw [turn, is]
  have acts {code : Nat} (acc : op code) (value : leNat [byte code] = code) (may : code = 4 ∨ code = 6 ∨ u.fenced = false ∨ u.keyStale c code = true)
      (draws : code ≠ 2) {r : State × Nat} (is : u.keyOp c code = r) :
      finish s ((s.turn dt).asksWrite c 0x3720 6 [byte code]) = finish s (r.1.answer c (key 0x3720 6) r.2 [] true) :=
    begins acc (is ▸ asksWrite_keyOp_acts acc value may (fun h => absurd h draws))
  have put {t : State} (kept : KeepsKeys u t) (free : u.marksOf n = 0) (origin : Nat) (k : Bytes) :
      SlotTakes u n { blank with ty := a.ty, usage := a.usage, pers := a.pers, origin := origin, key := k } (t.putKey n (a.content origin k)) := by
    have takes := t.putKey_takes ((kept.marksOf n).trans free) (a.content origin k)
    rw [kept.slot n] at takes
    exact kept.of_takes takes
  refine ⟨fun down free => ⟨?wrapped, ?generate, ?erase, ?plain⟩, ?stale, ?now, ?all, ?select, ?anchor, ?certificate⟩
  case wrapped =>
    intro acc w p
    have does {r : State × Nat} (is : u.keyImport c = r) : exec (.keyImport dt c) s = finish s (r.1.answer c (key 0x3720 6) r.2 [] true) :=
      acts acc rfl (.inr (.inr (.inl down))) (by decide) is
    refine ⟨fun refused => does (State.keyImport_refused refused), fun passes away => does (State.keyImport_unavailable passes away),
      fun passes trust cipher empty => does (State.keyImport_no_wrapping_key passes trust cipher empty), fun passes trust cipher keyed =>
        ⟨fun bad => ⟨_, does (State.keyImport_unopened passes trust cipher keyed bad), ?_, (KeepsKeys.ran u 0).slot, rfl⟩,
          fun x opens bad => ⟨_, does (State.keyImport_range passes trust cipher keyed opens bad), ?_, (KeepsKeys.ran u 0).slot⟩,
          fun x k opens good => ⟨_, does (State.keyImport_stores passes trust cipher keyed opens good), (put (.ran u 0) free 2 k).answered c _⟩⟩⟩
    · exact State.keyOutcome_answered ..
    · exact State.keyOutcome_answered ..
  case generate =>
    intro acc why len
    have runs {t : State} (is : u.runWay c (key 0x3720 6) [byte 2] (keyWay c 2) = t) : exec (.generate dt c) s = finish s t :=
      begins acc (is ▸ asksWrite_keyOp acc rfl (.inr (.inr (.inl down))))
    refine ⟨fun refused => ?_, fun passes short => runs (State.generate_waits passes short _ _), fun passes has => ?_⟩
    · obtain ⟨need, is⟩ := State.generate_refused refused
      refine (runs (State.runWay_acts (w := keyWay c 2) need)).trans ?_
      rw [show (keyWay c 2).act u = _ from is]
      rfl
    · obtain ⟨r, is⟩ := State.generate_stores passes has (key 0x3720 6) [byte 2]
      exact ⟨_, runs is, (put (.withRng u r) free 1 _).answered c _⟩
  case erase =>
    intro acc
    have does {r : State × Nat} (is : u.erase c = r) : exec (.erase dt c) s = finish s (r.1.answer c (key 0x3720 6) r.2 [] true) :=
      acts acc rfl (.inr (.inr (.inl down))) (by decide) is
    exact ⟨fun barred => does (State.erase_role barred), fun may retired => does (State.erase_retired may retired),
      fun may live => ⟨_, does (State.erase_empties may live), (u.eraseKey_takes free).answered c _⟩⟩
  case plain =>
    intro acc
    have does {r : State × Nat} (is : u.importPlain c = r) : exec (.importPlain dt c) s = finish s (r.1.answer c (key 0x3720 6) r.2 [] true) :=
      acts acc rfl (.inr (.inr (.inl down))) (by decide) is
    exact ⟨fun barred => does (State.importPlain_role barred), fun factory role => ⟨fun refused => does (State.importPlain_refused factory role refused),
      fun passes bad => does (State.importPlain_range factory role passes bad),
      fun k passes good => ⟨_, does (State.importPlain_stores factory role passes good), (put (.refl u) free 3 k).answered c _⟩⟩⟩
  case stale =>
    intro stale fence
    have refused : cause ≠ 0 := State.keyWriteCause_stale stale
    have generates : u.generateCause c a ≠ 0 := State.generateCause_of_write refused
    have is (code : Nat) (h : (code == 1 || code == 2 || code == 5) = true) : u.keyStale c code = true := by rw [State.keyStale, h]; exact stale
    refine ⟨fun acc => acts acc rfl (.inr (.inr (.inr (is 1 rfl)))) (by decide) (State.keyImport_refused refused), fun acc => begins acc ?_, refused, generates⟩
    · obtain ⟨need, gives⟩ := State.generate_refused generates
      rw [asksWrite_keyOp_acts (code := 2) acc rfl (.inr (.inr (.inr (is 2 rfl)))) (fun _ => need), show u.keyOp c 2 = _ from gives]
      rfl
  case now =>
    intro acc
    have does {r : State × Nat} (is : u.zeroizeNow c = r) : exec (.zeroizeNow dt c) s = finish s (r.1.answer c (key 0x3720 6) r.2 [] true) :=
      acts acc rfl (.inl rfl) (by decide) is
    have kept := u.zeroizeSlot_marks n 2
    exact ⟨fun barred => does (State.zeroizeNow_role barred), fun may => ⟨_, does (State.zeroizeNow_empties may),
      (u.zeroizeSlot_takes n 2).answered c _, kept.zeroizes, kept.fence⟩⟩
  case all =>
    intro acc
    have does {r : State × Nat} (is : u.zeroizeAll c = r) : exec (.zeroizeAll dt c) s = finish s (r.1.answer c (key 0x3720 6) r.2 [] true) :=
      acts acc rfl (.inr (.inl rfl)) (by decide) is
    refine ⟨fun barred => does (State.zeroizeAll_role barred), fun role => ?_⟩
    obtain ⟨v, empties, slots⟩ := State.zeroizeAll_empties role
    exact ⟨_, does empties, v.keyOutcome_answered c abOk s.pending, slots⟩
  case select =>
    intro m lt acc
    obtain ⟨t, is, kept, time, vals⟩ := asksWrite_slotSelect lt acc
    have run : finish s ((s.turn dt).asksWrite c 0x3702 1 (leBytes 1 m)) = finish s t := by rw [turn, is]
    refine ⟨_, run, kept.slot, ?_⟩
    intro x sub
    have reads (i : Nat) : sub i = kvGet 0 (u.slotObjects m) (key 0x3710 i) := congrArg (kvGet 0 · (key 0x3710 i)) vals
    exact ⟨time, reads 1, reads 2, reads 3, reads 4, reads 5, reads 6, reads 7, reads 8, reads 9⟩
  case anchor =>
    intro r acc down e j entry k signed good
    have does {q : State × Nat} (is : u.anchorChange r = q) : exec (.anchorChange dt c r) s = finish s (q.1.answer c (key 0x3731 1) q.2 [] true) := by
      show finish s ((s.turn dt).asksWrite c 0x3731 1 r) = _
      rw [turn, asksWrite_anchorChange acc down, is]
    exact ⟨fun away => does (State.anchorChange_unavailable away), fun up bad => does (State.anchorChange_unsigned up bad),
      fun up ok => ⟨_, does rfl, (State.anchorChange_stores up ok).2⟩⟩
  case certificate =>
    intro b acc down
    have does {q : State × Nat} (is : u.summaryCertificate b = q) : exec (.summaryCertificate dt c b) s = finish s (q.1.answer c (key 0x3740 1) q.2 [] true) := by
      show finish s ((s.turn dt).asksWrite c 0x3740 1 b) = _
      rw [turn, asksWrite_summaryCertificate acc down, is]
    obtain ⟨-, objs, slots, tag⟩ := u.commitObj_spec 0x3740 1 (leNat b)
    obtain ⟨value, length⟩ := u.commitObj_certificate (length_of_accepts_certificate acc)
    obtain ⟨objs', slots'⟩ := (u.commitObj 0x3740 1 (leNat b)).certCopy_keeps
    refine ⟨fun away => does (State.summaryCertificate_unavailable away), fun trust up bad => does (State.summaryCertificate_refused trust up bad),
      fun trust up good => ⟨_, does (State.summaryCertificate_taken trust up good), objs'.trans objs, slots'.trans slots, fun _ fits => ?_, fun _ short => ?_⟩⟩
    · have copied := State.certCopy_copies (s := u.commitObj 0x3740 1 (leNat b)) (by rw [value, length]; exact fits)
      rw [value, length] at copied
      exact copied
    · have same := State.certCopy_short (s := u.commitObj 0x3740 1 (leNat b)) (by rw [value, length]; exact short)
      exact congrArg TagMem.cert (same.trans tag)

end Sys2Proof.Machine
end

section
/-! SUPPORT. The end of an injected test pattern (R334), and the statement on host jobs and the generator. -/

namespace Sys2Proof.Machine
open Sys2Proof

/-! ## TEST_PATTERN with code 0 (R334) -/

theorem kvGet?_none_of_apart {α : Type} {l : List (Nat × α)} {k : Nat} (apart : ∀ e ∈ l, e.1 ≠ k) : kvGet? l k = none := by
  induction l with
  | nil => rfl
  | cons e r ih =>
    obtain ⟨own, rest⟩ := List.forall_mem_cons.mp apart
    exact (if_neg (Ne.symm own)).trans (ih rest)

/-- The pattern's code is kept in RAM, and 0 where none is listed. -/
theorem objFind_pattern : (objFind 0x3630 1).map (fun d => (d.dflt, d.pers)) = some (0, false) := by decide +kernel

theorem State.setObj_pattern (s : State) (v : Nat) : s.setObj 0x3630 1 v = { s with objs := kvSet 0 s.objs (key 0x3630 1) v } := by
  obtain ⟨d, find, kind⟩ := Option.map_eq_some_iff.mp objFind_pattern
  obtain ⟨dflt, pers⟩ := Prod.mk.inj kind
  rw [State.setObj_of_find s find, pers, dflt]
  rfl

/-- A snapshot of the pattern's set taken with code 0 ends the injection, unless the ReRAM store holds a value of the code. -/
theorem State.snapRange_pattern {s : State} (reram : ∀ e ∈ s.rr.objs, e.1 ≠ key 0x3630 1) (off : ∀ e ∈ s.objs, e.1 ≠ key 0x3630 1) :
    snapVal (s.snapRange 0x3630 0x3630) 0x3630 1 = 0 := by
  have none_ : kvGet? (s.snapRange 0x3630 0x3630) (key 0x3630 1) = none := by
    refine kvGet?_none_of_apart fun e mem => ?_
    obtain inReram | inRam := List.mem_append.mp mem
    · exact reram e (List.mem_of_mem_filter inReram)
    · exact off e (List.mem_of_mem_filter inRam)
  obtain ⟨d, find, kind⟩ := Option.map_eq_some_iff.mp objFind_pattern
  rw [snapVal, kvGet, none_, find]
  exact (Prod.mk.inj kind).1

/-- Where the ReRAM store holds no value of the code, code 0 ends the injection and the sources start up. -/
theorem State.testPattern_off {u : State} (none_ : ∀ e ∈ u.rr.objs, e.1 ≠ key 0x3630 1) (injects : u.rngInjecting = true) :
    (u.testPattern 1 0).rng = { u.rng.restartAll u.now false with st := 0 } := by
  unfold State.testPattern
  extract_lets s0 s1 s2
  have first : s0.rng = u.rng ∧ s0.now = u.now ∧ s0.rr.objs = u.rr.objs := by
    simp only [s0]
    split <;> simp
  obtain ⟨rng, now, reram⟩ := first
  have code : s1.objs = kvDel s0.objs (key 0x3630 1) := congrArg State.objs (s0.setObj_pattern 0)
  have zero : s1.obj 0x3630 1 = 0 := by
    obtain ⟨d, find, -⟩ := Option.map_eq_some_iff.mp objFind_pattern
    exact s0.obj_setObj_same find 0
  have snap : s2 = { s1 with snaps := kvPut s1.snaps 0x3630 (s1.snapRange 0x3630 0x3630), refused := s1.refused.filter (· != 0x3630) } := by
    simp only [s2, zero]
    rfl
  have stored : s1 = ({ s0 with objs := kvSet 0 s0.objs (key 0x3630 1) 0 } : State).touched 0x3630 := congrArg (State.touched · 0x3630) (s0.setObj_pattern 0)
  have ended : s2.conf 0x3630 0x3630 1 = 0 := by
    rw [snap, State.conf]
    simp only [kvGet?_kvPut_same]
    refine State.snapRange_pattern ?_ ?_
    · rw [stored]
      exact reram ▸ none_
    · rw [code]
      intro e mem
      simpa using (List.mem_filter.mp mem).2
  have silent : s2.rngInjecting = false := by rw [State.rngInjecting, ended]; rfl
  rw [injects, silent]
  have same : s2.rng = u.rng ∧ s2.now = u.now := by
    rw [snap, stored]
    exact ⟨rng, now⟩
  show ({ s2.rng.restartAll s2.now false with st := 0 } : Rng) = _
  rw [same.1, same.2]

/-- A part in FACTORY with pattern 1 injected and its host port in a session of role F. Its ReRAM store too holds a value of the pattern's object
0x3630:01, which is kept in RAM (R372): a state that is plain data, and that no store of an object leads to. -/
def patternInBothStores : State :=
  { State.reset with
    us := [(0x24, stRunning)]
    sup := { State.reset.sup with held := false }
    dict := { State.reset.dict with clients := [{ c := .host, st := 2, role := roleF }] }
    objs := [(key 0x3630 1, 1)]
    rr := { State.reset.rr with objs := [(key 0x3630 1, 1)] }
    rng := { State.reset.rng with startBlock := false } }

theorem exec_testPattern_rng {dt p : Nat} {c : Client} {s t : State} (runs : exec (.testPattern dt c p) s = .next t) :
    t.rng = ((s.turn dt).asksWrite c 0x3630 1 (leBytes 1 p)).rng := by
  cases runs
  rfl

/-- The snapshot of the pattern's set reads the value in ReRAM, so the write of code 0 ends no injection and the sources do not restart. -/
theorem patternInBothStores_stays : (patternInBothStores.turn 0).rngInjecting = true ∧ Accepts (patternInBothStores.turn 0) .host 0x3630 1 (leBytes 1 0) ∧
    (((patternInBothStores.turn 0).asksWrite .host 0x3630 1 (leBytes 1 0)).rng.startBlock = false) := by decide +kernel

/-- Refutes O54: where the ReRAM store holds a value of 0x3630:01, an object kept in RAM, code 0 of TEST_PATTERN leaves the pattern injected, and
the sources do not restart. -/
theorem not_jobsRunOnTheirEngines : ¬ Obligations.JobsRunOnTheirEngines := by
  intro h
  obtain ⟨injects, accepted, stays⟩ := patternInBothStores_stays
  obtain ⟨-, -, -, -, -, -, -, -, -, -, -, -, -, -, -, -, -, pattern⟩ := h patternInBothStores 0 .host
  obtain ⟨t, runs, -, -, -, restarts⟩ := pattern 0 (by decide) accepted
  have restarted : t.rng.startBlock = true := (restarts rfl injects).1
  rw [exec_testPattern_rng runs, stays] at restarted
  exact Bool.false_ne_true restarted

end Sys2Proof.Machine
end

section
/-! SUPPORT. The timer set: what each operation makes of a timer and leaves of the others (R378 to R385). -/

namespace Sys2Proof.Machine
open Sys2Proof

/-! ## What a number of bytes reads back as -/

theorem leNat_leBytes (n v : Nat) : leNat (leBytes n v) = v % 256 ^ n := by
  induction n generalizing v with
  | zero => simp [leBytes, leNat, Nat.mod_one]
  | succ n ih =>
    rw [leBytes, leNat, ih, BitVec.toNat_ofNat, Nat.pow_succ' (m := 256)]
    exact Nat.mod_mul.symm

theorem satAdd_twice (w a : Nat) : satAdd w (satAdd w a 1) 1 = min (a + 2) (2 ^ w - 1) := by
  unfold satAdd
  omega

/-! ## Counts, captures and linked actions of a timer -/

/-- A capture of a timer's count at a peripheral clock (R383, R384). -/
def Timer.captured (t : Timer) (clk : Nat) : Timer :=
  { t.promote clk with capture := (t.promote clk).count clk, new := true, overrun := (t.promote clk).overrun || (t.promote clk).new }

/-- A timer after one match of its own: MATCH and the match count (R378). -/
def Timer.matched (t : Timer) : Timer := { t with mtch := true, matches_ := satAdd 32 t.matches_ 1 }

/-- A timer's count after a match in a mode (R378). -/
def Timer.afterMatch (t : Timer) (mode clk : Nat) : Timer :=
  if !t.running then t
  else if mode = 1 then { t with hold := t.count clk, base := 0, from_ := t.tickAt clk + 2 ^ t.p, matchedAt := none }
  else if mode = 2 then { t with running := false, base := t.count clk }
  else { t with matchedAt := some (t.tickAt clk) }

/-- An overflow goes on from what the count shows, and drops the wrap (R379). -/
def Timer.overflowed (t : Timer) (clk : Nat) : Timer :=
  { t with base := t.count clk, from_ := t.tickAt clk, ovf := true, ovfs := satAdd 32 t.ovfs 1 }

/-- A command on a timer at a peripheral clock, with its prescaler and its compare reload (R381). -/
def Timer.commanded (t : Timer) (code clk p cmp : Nat) : Timer :=
  if code = 1 then t.start clk p else if code = 2 then t.stop clk else if code = 3 then t.reset clk p else t.restartAt clk p cmp

/-- The linked reset, stop and start of the action bits, in that order (R382). -/
def Timer.obeys (t : Timer) (acts clk p : Nat) : Timer :=
  let t2 := if bit acts 2 then t.reset clk p else t
  let t3 := if bit acts 1 then t2.stop clk else t2
  if bit acts 0 then t3.start clk p else t3

/-- What a match of its master at a peripheral clock makes of a timer with a capture source and a prescaler (R382, R383). -/
def Timer.linked (t : Timer) (src clk p : Nat) : Timer :=
  let t0 := if src = 5 then t.captured clk else t
  let t1 := if bit t.actions 3 then t0.captured (clk + 1) else t0
  t1.obeys t.actions (clk + 1) p

section
variable (t : Timer) (clk : Nat)

theorem Timer.promote_eq : ∃ v b q, t.promote clk = { t with capture := v, new := b, pend := q } := by
  unfold Timer.promote
  split
  · split
    · exact ⟨_, _, _, rfl⟩
    · exact ⟨t.capture, t.new, t.pend, rfl⟩
  · exact ⟨t.capture, t.new, t.pend, rfl⟩

theorem Timer.promote_waited {x y : Nat} (waits : t.pend = some (x, y)) (past : y < clk) :
    (t.promote clk).capture = x ∧ (t.promote clk).new = true ∧ (t.promote clk).pend = none := by
  simp [Timer.promote, waits, past]

theorem Timer.promote_none (none_ : t.pend = none) : t.promote clk = t := by
  simp [Timer.promote, none_]

theorem Timer.captured_eq : ∃ o q,
    t.captured clk = { t with capture := t.count clk, new := true, overrun := o, pend := q } ∧ o = (t.overrun || (t.promote clk).new) := by
  obtain ⟨v, b, q, same⟩ := t.promote_eq clk
  refine ⟨t.overrun || (t.promote clk).new, q, ?_, rfl⟩
  unfold Timer.captured
  rw [same]
  rfl

/-- The captures of a link touch the capture register alone, and one by the action bit takes the count of its clock. -/
theorem Timer.linked_eq (src p : Nat) : ∃ v b o q,
    t.linked src clk p = ({ t with capture := v, new := b, overrun := o, pend := q } : Timer).obeys t.actions (clk + 1) p ∧
      (bit t.actions 3 = true → b = true ∧ v = t.count (clk + 1)) := by
  have first : ∃ v b o q, (if src = 5 then t.captured clk else t) = { t with capture := v, new := b, overrun := o, pend := q } := by
    split
    · obtain ⟨o, q, same, -⟩ := t.captured_eq clk
      exact ⟨_, _, o, q, same⟩
    · exact ⟨t.capture, t.new, t.overrun, t.pend, rfl⟩
  obtain ⟨v, b, o, q, same⟩ := first
  unfold Timer.linked
  dsimp only
  rw [same]
  split
  · obtain ⟨o, q, taken, -⟩ := ({ t with capture := v, new := b, overrun := o, pend := q } : Timer).captured_eq (clk + 1)
    exact ⟨_, _, o, q, congrArg (Timer.obeys · t.actions (clk + 1) p) taken, fun _ => ⟨rfl, rfl⟩⟩
  · next off => exact ⟨v, b, o, q, rfl, fun on => absurd on off⟩

/-- The actions leave flags, counters and registers of a timer alone. -/
theorem Timer.obeys_keeps (acts p : Nat) : (t.obeys acts clk p).mtch = t.mtch ∧ (t.obeys acts clk p).matches_ = t.matches_ ∧
    (t.obeys acts clk p).cmp = t.cmp ∧ (t.obeys acts clk p).new = t.new ∧ (t.obeys acts clk p).capture = t.capture := by
  unfold Timer.obeys
  dsimp only
  split_ifs <;> exact ⟨rfl, rfl, rfl, rfl, rfl⟩

theorem Timer.linked_keeps (src p : Nat) :
    (t.linked src clk p).mtch = t.mtch ∧ (t.linked src clk p).matches_ = t.matches_ ∧ (t.linked src clk p).cmp = t.cmp := by
  obtain ⟨v, b, o, q, same, -⟩ := t.linked_eq clk src p
  obtain ⟨mtch, times, cmp, -, -⟩ := ({ t with capture := v, new := b, overrun := o, pend := q } : Timer).obeys_keeps (clk + 1) t.actions p
  rw [same]
  exact ⟨mtch, times, cmp⟩

theorem Timer.linked_captures (src p : Nat) (on : bit t.actions 3 = true) :
    (t.linked src clk p).new = true ∧ (t.linked src clk p).capture = t.count (clk + 1) := by
  obtain ⟨v, b, o, q, same, taken⟩ := t.linked_eq clk src p
  obtain ⟨-, -, -, new, capture⟩ := ({ t with capture := v, new := b, overrun := o, pend := q } : Timer).obeys_keeps (clk + 1) t.actions p
  rw [same]
  exact ⟨new.trans (taken on).1, capture.trans (taken on).2⟩

theorem Timer.count_eq_zero {t : Timer} {clk : Nat} (here : t.from_ = clk) (small : t.base = 0) : t.count clk = 0 := by
  simp [Timer.count, Timer.raw, Timer.ticks, here, small]

/-- A reset of the action bits stands at 0 in its own clock, whether a stop or a start follows it there. -/
theorem Timer.obeys_resets {acts : Nat} (p : Nat) (on : bit acts 2 = true) : (t.obeys acts clk p).count clk = 0 := by
  have stop (x : Timer) (none_ : x.count clk = 0) : (x.stop clk).count clk = 0 := Timer.count_eq_zero rfl none_
  have start (x : Timer) (none_ : x.count clk = 0) : (x.start clk p).count clk = 0 := Timer.count_eq_zero rfl none_
  have zero : (t.reset clk p).count clk = 0 := Timer.count_eq_zero rfl rfl
  unfold Timer.obeys
  rw [if_pos on]
  dsimp only
  split_ifs
  · exact start _ (stop _ zero)
  · exact start _ zero
  · exact stop _ zero
  · exact zero

theorem Timer.linked_resets (src p : Nat) (on : bit t.actions 2 = true) : (t.linked src clk p).count (clk + 1) = 0 := by
  obtain ⟨v, b, o, q, same, -⟩ := t.linked_eq clk src p
  rw [same]
  exact Timer.obeys_resets _ _ p on

theorem Timer.linked_starts (src p : Nat) (on : bit t.actions 0 = true) : (t.linked src clk p).running = true := by
  obtain ⟨v, b, o, q, same, -⟩ := t.linked_eq clk src p
  rw [same]
  exact congrArg Timer.running (if_pos on)

theorem Timer.linked_stops (src p : Nat) (off : bit t.actions 0 = false) (on : bit t.actions 1 = true) : (t.linked src clk p).running = false := by
  obtain ⟨v, b, o, q, same, -⟩ := t.linked_eq clk src p
  rw [same]
  simp [Timer.obeys, off, on, Timer.stop]

/-! ## The count after a match and after an overflow -/

theorem Timer.lt_nextTick : clk < t.tickAt clk + 2 ^ t.p := by
  have below : clk - t.from_ < t.ticks clk * 2 ^ t.p + 2 ^ t.p := Nat.lt_div_mul_add (Nat.two_pow_pos t.p)
  unfold Timer.tickAt
  omega

/-- No tick has passed since the tick that the count shown came with. -/
theorem Timer.ticks_tickAt : (clk - t.tickAt clk) / 2 ^ t.p = 0 :=
  Nat.div_eq_of_lt (by have := t.lt_nextTick clk; have := Nat.two_pow_pos t.p; omega)

section
variable (mode : Nat)

theorem Timer.afterMatch_keeps : (t.afterMatch mode clk).mtch = t.mtch ∧ (t.afterMatch mode clk).matches_ = t.matches_ ∧
    (t.afterMatch mode clk).cmp = t.cmp := by
  unfold Timer.afterMatch
  split_ifs <;> exact ⟨rfl, rfl, rfl⟩

/-- The count shown in the clock of a match is the one that matched, in every mode. -/
theorem Timer.afterMatch_count : (t.afterMatch mode clk).count clk = t.count clk := by
  unfold Timer.afterMatch
  split_ifs with runs periodic oneShot
  · rfl
  · have runs : t.running = true := by simpa using runs
    have held : ({ t with hold := t.count clk, base := 0, from_ := t.tickAt clk + 2 ^ t.p, matchedAt := none } : Timer).raw clk = t.count clk := by
      simp [Timer.raw, runs, t.lt_nextTick clk]
    rw [Timer.count, held]
    exact Nat.mod_mod ..
  · exact Nat.mod_mod ..
  · rfl

end

theorem Timer.afterMatch_free : (t.afterMatch 0 clk).running = t.running ∧ (t.afterMatch 0 clk).base = t.base ∧
    (t.afterMatch 0 clk).from_ = t.from_ := by
  cases runs : t.running <;> simp [Timer.afterMatch, runs]

/-- A PERIODIC timer takes 0 at the tick after its match (R378). -/
theorem Timer.afterMatch_periodic (runs : t.running = true) : (t.afterMatch 1 clk).running = true ∧
    (t.afterMatch 1 clk).count (t.tickAt clk + 2 ^ t.p) = 0 := by
  have act : t.afterMatch 1 clk = { t with hold := t.count clk, base := 0, from_ := t.tickAt clk + 2 ^ t.p, matchedAt := none } := by
    simp [Timer.afterMatch, runs]
  rw [act]
  exact ⟨runs, Timer.count_eq_zero rfl rfl⟩

theorem Timer.afterMatch_oneShot : (t.afterMatch 2 clk).running = false := by
  cases runs : t.running <;> simp [Timer.afterMatch, runs]

theorem Timer.overflowed_count (runs : t.running = true) : (t.overflowed clk).count clk = t.count clk := by
  by_cases early : clk < t.from_
  · have here : t.tickAt clk = t.from_ := by simp [Timer.tickAt, Timer.ticks, Nat.sub_eq_zero_of_le early.le]
    simp [Timer.count, Timer.raw, Timer.overflowed, runs, here, early]
  · have past : ¬clk < t.tickAt clk := by
      have : t.ticks clk * 2 ^ t.p ≤ clk - t.from_ := Nat.div_mul_le_self ..
      unfold Timer.tickAt
      omega
    have shown : (t.overflowed clk).raw clk = t.count clk := by
      have none_ : (t.overflowed clk).ticks clk = 0 := t.ticks_tickAt clk
      rw [Timer.raw, none_]
      simp [Timer.overflowed, runs, past]
    rw [Timer.count, shown]
    exact Nat.mod_mod ..

end

/-! ## Operations on one timer of the state -/

theorem KeepsField.pclk {sets : List Nat} {s t : State} (h : KeepsField sets s t) : t.pclk = s.pclk := by rw [State.pclk, State.pclk, h.now]

theorem KeepsField.timerMode {sets : List Nat} {s t : State} (h : KeepsField sets s t) (n : Nat) : t.timerMode n = s.timerMode n := by
  rw [State.timerMode, State.timerMode, h.obj]

/-- What moves timer n alone, and at most says so with events. -/
structure OnTimer (n : Nat) (s t : State) : Prop extends KeepsField [] s t where
  others : ∀ j, j ≠ n → t.timer j = s.timer j

section
variable {n : Nat} {s t u : State}

theorem OnTimer.refl (n : Nat) (s : State) : OnTimer n s s := ⟨.refl s, fun _ _ => rfl⟩

theorem OnTimer.trans (h : OnTimer n s t) (g : OnTimer n t u) : OnTimer n s u :=
  ⟨h.toKeepsField.trans g.toKeepsField, fun j other => (g.others j other).trans (h.others j other)⟩

theorem OnTimer.setTimer (n : Nat) (s : State) (x : Timer) : OnTimer n s (s.setTimer n x) :=
  ⟨.setTimer s n x, fun _ other => s.timer_setTimer_other x other⟩

@[simp] theorem State.timer_emit (s : State) (uid code p j : Nat) : (s.emit uid code p).timer j = s.timer j := by simp [State.timer]

@[simp] theorem State.timer_emitIf (s : State) (b : Bool) (uid code p j : Nat) : (s.emitIf b uid code p).timer j = s.timer j := by simp [State.timer]

theorem OnTimer.emit (n : Nat) (s : State) (uid code p : Nat) : OnTimer n s (s.emit uid code p) :=
  ⟨.emit s uid code p, fun j _ => s.timer_emit uid code p j⟩

theorem OnTimer.emitIf (n : Nat) (s : State) (b : Bool) (uid code p : Nat) : OnTimer n s (s.emitIf b uid code p) :=
  ⟨.emitIf s b uid code p, fun j _ => s.timer_emitIf b uid code p j⟩

variable (s) (n)

/-- An event of a timer touches what limits the events of that timer alone (R385). -/
theorem State.timerEvent_on (code param : Nat) (enabled : Bool) : OnTimer n s (s.timerEvent n code param enabled) ∧
    ∃ e w l, (s.timerEvent n code param enabled).timer n = { s.timer n with evTimes := e, withheld := w, limitedAt := l } := by
  unfold State.timerEvent
  extract_lets t recent w due
  split
  · exact ⟨.refl n s, t.evTimes, t.withheld, t.limitedAt, rfl⟩
  · split
    · exact ⟨(OnTimer.setTimer n s _).trans (.emit n _ _ _ _), _, _, _, (State.timer_emit ..).trans (State.timer_setTimer_same ..)⟩
    · split
      · exact ⟨(OnTimer.setTimer n s _).trans (.emit n _ _ _ _), _, _, _, (State.timer_emit ..).trans (State.timer_setTimer_same ..)⟩
      · exact ⟨.setTimer n s _, _, _, _, State.timer_setTimer_same ..⟩

theorem State.captureAt_on (clk : Nat) : OnTimer n s (s.captureAt n clk) ∧ (s.captureAt n clk).timer n = (s.timer n).captured clk :=
  ⟨(OnTimer.setTimer n s _).trans (.emitIf n _ _ _ _ _), (State.timer_emitIf ..).trans (State.timer_setTimer_same ..)⟩

theorem State.captureLatch_on : OnTimer n s (s.captureLatch n) ∧ (s.captureLatch n).timer n =
    { s.timer n with pend := some ((s.timer n).count s.pclk, s.pclk), overrun := (s.timer n).overrun || (s.timer n).pend.isSome } :=
  ⟨(OnTimer.setTimer n s _).trans (.emitIf n _ _ _ _ _), (State.timer_emitIf ..).trans (State.timer_setTimer_same ..)⟩

/-- What a match of timer n makes of a timer j, t, by its link in force (R382). -/
def State.linkTimer (s : State) (n j : Nat) (t : Timer) : Timer :=
  if t.master = n then t.linked (s.obj (0x4510 + j) 6) s.pclk (s.obj (0x4510 + j) 2) else t

theorem State.captureIf_on (p : Prop) [Decidable p] (clk : Nat) : OnTimer n s (if p then s.captureAt n clk else s) ∧
    (if p then s.captureAt n clk else s).timer n = if p then (s.timer n).captured clk else s.timer n := by
  split
  · exact s.captureAt_on n clk
  · exact ⟨.refl n s, rfl⟩

theorem State.linkAct_on (j : Nat) : OnTimer j s (s.linkAct n j) ∧ (s.linkAct n j).timer j = s.linkTimer n j (s.timer j) := by
  unfold State.linkAct State.linkTimer
  extract_lets t p clk s0 s1 t1 t2 t3 t4
  by_cases linked : t.master = n
  · obtain ⟨on0, timer0⟩ := s.captureIf_on j (s.obj (0x4510 + j) 6 = 5) s.pclk
    obtain ⟨on1, timer1⟩ := s0.captureIf_on j (bit t.actions 3 = true) clk
    rw [if_neg (not_not.mpr linked), if_pos linked]
    refine ⟨(on0.trans on1).trans (.setTimer j s1 t4), (State.timer_setTimer_same ..).trans ?_⟩
    have captured : t1 = if bit t.actions 3 then (if s.obj (0x4510 + j) 6 = 5 then t.captured s.pclk else t).captured clk
        else if s.obj (0x4510 + j) 6 = 5 then t.captured s.pclk else t := timer1.trans (by rw [show s0.timer j = _ from timer0])
    exact congrArg (Timer.obeys · t.actions clk p) captured
  · rw [if_pos linked, if_neg linked]
    exact ⟨.refl j s, rfl⟩

theorem State.timerCmd_on (code : Nat) : OnTimer n s (s.timerCmd n code) ∧
    (s.timerCmd n code).timer n = (s.timer n).commanded code s.pclk (s.obj (0x4510 + n) 2) (s.obj (0x4510 + n) 0xE) := by
  unfold State.timerCmd Timer.commanded
  dsimp only
  split_ifs <;> exact ⟨.setTimer n s _, State.timer_setTimer_same ..⟩

theorem State.afterMatch_on : OnTimer n s (s.afterMatch n) ∧ (s.afterMatch n).timer n = (s.timer n).afterMatch (s.timerMode n) s.pclk := by
  unfold State.afterMatch Timer.afterMatch
  dsimp only
  split_ifs
  · exact ⟨.refl n s, rfl⟩
  all_goals exact ⟨.setTimer n s _, State.timer_setTimer_same ..⟩

end

/-- A pass that moves each timer it meets, and no other, by what the pass leaves as it is. -/
theorem foldl_onTimer {f : State → Nat → State} {g : Nat → Timer → Timer} {s0 : State}
    (one : ∀ s j, KeepsField [] s0 s → OnTimer j s (f s j) ∧ (f s j).timer j = g j (s.timer j)) {l : List Nat} (once : l.Nodup) {s : State}
    (same : KeepsField [] s0 s) : KeepsField [] s0 (l.foldl f s) ∧ ∀ j, (l.foldl f s).timer j = if j ∈ l then g j (s.timer j) else s.timer j := by
  induction l generalizing s with
  | nil => exact ⟨same, fun _ => rfl⟩
  | cons i r ih =>
    obtain ⟨fresh, once⟩ := List.nodup_cons.mp once
    obtain ⟨on, moved⟩ := one s i same
    obtain ⟨keeps, timers⟩ := ih once (same.trans on.toKeepsField)
    refine ⟨keeps, fun j => (timers j).trans ?_⟩
    by_cases here : j = i
    · subst here
      rw [if_neg fresh, if_pos List.mem_cons_self, moved]
    · simp [here, on.others j here]

section
variable (s : State) (n : Nat)

/-- The linked actions of a match, on every timer in turn (R382). -/
def State.linkAll (s : State) (n : Nat) : State := (List.range 8).foldl (fun u j => u.linkAct n j) s

/-- The links of a match move each timer as its own link says. -/
theorem State.linkAll_timers : KeepsField [] s (s.linkAll n) ∧
    ∀ j, (s.linkAll n).timer j = if j < 8 then s.linkTimer n j (s.timer j) else s.timer j := by
  have one (u : State) (j : Nat) (same : KeepsField [] s u) : OnTimer j u (u.linkAct n j) ∧ (u.linkAct n j).timer j = s.linkTimer n j (u.timer j) := by
    have link : s.linkTimer n j = u.linkTimer n j := by
      funext t
      rw [State.linkTimer, State.linkTimer, same.obj, same.obj, same.pclk]
    exact link ▸ u.linkAct_on n j
  simpa only [List.mem_range, State.linkAll] using foldl_onTimer one List.nodup_range (.refl s)

theorem State.linkTimer_unlinked {t : Timer} (j : Nat) (free : t.master ≠ n) : s.linkTimer n j t = t := if_neg free

theorem State.linkTimer_linked {t : Timer} (j : Nat) (own : t.master = n) :
    s.linkTimer n j t = t.linked (s.obj (0x4510 + j) 6) s.pclk (s.obj (0x4510 + j) 2) := if_pos own

theorem State.linkTimer_keeps (j : Nat) (t : Timer) :
    (s.linkTimer n j t).mtch = t.mtch ∧ (s.linkTimer n j t).matches_ = t.matches_ ∧ (s.linkTimer n j t).cmp = t.cmp := by
  unfold State.linkTimer
  split
  · exact t.linked_keeps ..
  · exact ⟨rfl, rfl, rfl⟩

theorem State.matchOnce_says : ∃ param, s.matchOnce n =
    ((s.setTimer n (s.timer n).matched).linkAll n).timerEvent n 0x4401 param (bit (s.obj (0x4510 + n) 0x01) 2) := by
  unfold State.matchOnce State.linkAll Timer.matched
  exact ⟨_, rfl⟩

/-- A match moves its own timer by MATCH, the match count, a link to itself and what limits its events, and every other by its link (R378, R382). -/
theorem State.matchOnce_timers (lt : n < 8) : KeepsField [] s (s.matchOnce n) ∧
    (∃ e w l, (s.matchOnce n).timer n = { s.linkTimer n n (s.timer n).matched with evTimes := e, withheld := w, limitedAt := l }) ∧
    ∀ j, j ≠ n → (s.matchOnce n).timer j = if j < 8 then s.linkTimer n j (s.timer j) else s.timer j := by
  have set_ : OnTimer n s (s.setTimer n (s.timer n).matched) := .setTimer n s _
  obtain ⟨keeps, timers⟩ := (s.setTimer n (s.timer n).matched).linkAll_timers n
  obtain ⟨param, act⟩ := s.matchOnce_says n
  obtain ⟨on, e, w, l, event⟩ := ((s.setTimer n (s.timer n).matched).linkAll n).timerEvent_on n 0x4401 param (bit (s.obj (0x4510 + n) 0x01) 2)
  rw [act]
  refine ⟨set_.toKeepsField.trans (keeps.trans on.toKeepsField), ⟨e, w, l, event.trans ?_⟩, fun j other => ?_⟩
  · rw [timers n, if_pos lt, State.timer_setTimer_same]
    rfl
  · refine (on.others j other).trans ((timers j).trans ?_)
    rw [set_.others j other]
    rfl

/-- No timer has the timer for its link master. -/
def State.Unlinked (s : State) (n : Nat) : Prop := ∀ j, j < 8 → (s.timer j).master ≠ n

theorem State.matchOnce_counts (lt : n < 8) : ((s.matchOnce n).timer n).mtch = true ∧
    ((s.matchOnce n).timer n).matches_ = satAdd 32 (s.timer n).matches_ 1 ∧ ((s.matchOnce n).timer n).cmp = (s.timer n).cmp := by
  obtain ⟨-, ⟨e, w, l, same⟩, -⟩ := s.matchOnce_timers n lt
  rw [same]
  exact s.linkTimer_keeps n n (s.timer n).matched

/-- With no link to it a match moves its own timer alone. -/
theorem State.matchOnce_unlinked (lt : n < 8) (free : s.Unlinked n) : OnTimer n s (s.matchOnce n) ∧
    ∃ e w l, (s.matchOnce n).timer n = { (s.timer n).matched with evTimes := e, withheld := w, limitedAt := l } := by
  obtain ⟨keeps, ⟨e, w, l, same⟩, timers⟩ := s.matchOnce_timers n lt
  rw [s.linkTimer_unlinked n n (show (s.timer n).matched.master ≠ n from free n lt)] at same
  refine ⟨⟨keeps, fun j other => (timers j other).trans ?_⟩, e, w, l, same⟩
  split
  · next small => exact s.linkTimer_unlinked n j (free j small)
  · rfl

theorem State.matchOnce_free (lt : n < 8) (free : s.Unlinked n) : (s.matchOnce n).Unlinked n := by
  obtain ⟨on, e, w, l, same⟩ := s.matchOnce_unlinked n lt free
  intro j small
  by_cases here : j = n
  · rw [here, same]
    exact free n lt
  · rw [on.others j here]
    exact free j small

/-- A match and what its mode makes of the count. -/
theorem State.match_counts (lt : n < 8) : (((s.matchOnce n).afterMatch n).timer n).mtch = true ∧
    (((s.matchOnce n).afterMatch n).timer n).matches_ = satAdd 32 (s.timer n).matches_ 1 ∧
    (((s.matchOnce n).afterMatch n).timer n).cmp = (s.timer n).cmp := by
  obtain ⟨mtch, times, cmp⟩ := s.matchOnce_counts n lt
  obtain ⟨mtch', times', cmp'⟩ := ((s.matchOnce n).timer n).afterMatch_keeps (s.matchOnce n).pclk ((s.matchOnce n).timerMode n)
  rw [((s.matchOnce n).afterMatch_on n).2]
  exact ⟨mtch'.trans mtch, times'.trans times, cmp'.trans cmp⟩

theorem State.match_unlinked (lt : n < 8) (free : s.Unlinked n) : OnTimer n s ((s.matchOnce n).afterMatch n) ∧
    ∃ e w l, ((s.matchOnce n).afterMatch n).timer n =
      ({ (s.timer n).matched with evTimes := e, withheld := w, limitedAt := l } : Timer).afterMatch (s.timerMode n) s.pclk := by
  obtain ⟨on, e, w, l, same⟩ := s.matchOnce_unlinked n lt free
  obtain ⟨after, moved⟩ := (s.matchOnce n).afterMatch_on n
  exact ⟨on.trans after, e, w, l, by rw [moved, same, on.timerMode, on.pclk]⟩

theorem State.match_count (lt : n < 8) (free : s.Unlinked n) :
    (((s.matchOnce n).afterMatch n).timer n).count s.pclk = (s.timer n).count s.pclk := by
  obtain ⟨-, e, w, l, same⟩ := s.match_unlinked n lt free
  rw [same]
  exact Timer.afterMatch_count ..

/-- A match takes a timer that is linked to it in the next clock (R382). -/
theorem State.match_linked {j : Nat} (lt : n < 8) (small : j < 8) (other : j ≠ n) (own : (s.timer j).master = n) :
    ((s.matchOnce n).afterMatch n).timer j = (s.timer j).linked (s.obj (0x4510 + j) 6) s.pclk (s.obj (0x4510 + j) 2) := by
  obtain ⟨-, -, timers⟩ := s.matchOnce_timers n lt
  rw [((s.matchOnce n).afterMatch_on n).1.others j other, timers j other, if_pos small, s.linkTimer_linked n j own]

/-! ## Ticks: match and overflow (R378, R379) -/

/-- A tick brings the timer to its compare value, and has not been matched yet. -/
def State.Hits (s : State) (n : Nat) : Prop :=
  (s.timer n).running = true ∧ (s.timer n).from_ ≤ s.pclk ∧ (s.timer n).count s.pclk = (s.timer n).cmp ∧
    (s.timer n).matchedAt ≠ some ((s.timer n).tickAt s.pclk)

theorem State.tickMatch_none (no : ¬s.Hits n) : s.tickMatch n = s :=
  if_neg (by simpa [State.Hits, and_assoc] using no)

theorem State.tickMatch_hit (hit : s.Hits n) : s.tickMatch n = (s.matchOnce n).afterMatch n :=
  if_pos (by simpa [State.Hits, and_assoc] using hit)

theorem State.timerOverflow_none (no : ¬((s.timer n).running = true ∧ 2 ^ 32 ≤ (s.timer n).raw s.pclk)) : s.timerOverflow n = s :=
  if_neg (by simpa using no)

theorem State.timerOverflow_past (past : (s.timer n).running = true ∧ 2 ^ 32 ≤ (s.timer n).raw s.pclk) : OnTimer n s (s.timerOverflow n) ∧
    ∃ e w l, (s.timerOverflow n).timer n = { (s.timer n).overflowed s.pclk with evTimes := e, withheld := w, limitedAt := l } := by
  have act : s.timerOverflow n =
      (s.setTimer n ((s.timer n).overflowed s.pclk)).timerEvent n 0x4402 n (bit (s.obj (0x4510 + n) 0x01) 3) := if_pos (by simpa using past)
  obtain ⟨on, e, w, l, same⟩ := (s.setTimer n ((s.timer n).overflowed s.pclk)).timerEvent_on n 0x4402 n (bit (s.obj (0x4510 + n) 0x01) 3)
  rw [act]
  rw [State.timer_setTimer_same] at same
  exact ⟨(OnTimer.setTimer n s _).trans on, e, w, l, same⟩

/-! ## Compare writes (R380) -/

/-- A write of another value than the count holds gives no match. -/
theorem State.compareWrite_differs {v : Nat} (tick : Bool) (differs : (s.timer n).count s.pclk ≠ v) :
    OnTimer n s (s.compareWrite n v tick) ∧ (s.compareWrite n v tick).timer n = { s.timer n with cmp := v } := by
  rw [show s.compareWrite n v tick = s.setTimer n { s.timer n with cmp := v } from if_pos (by simpa using differs)]
  exact ⟨.setTimer n s _, State.timer_setTimer_same ..⟩

/-- A compare write in the clock of a tick gives the match of the tick before its own. -/
def State.compareTick (s : State) (n v : Nat) (tick : Bool) : State :=
  if tick = true ∧ (s.timer n).running = true then (s.setTimer n { s.timer n with cmp := v }).matchOnce n
  else s.setTimer n { s.timer n with cmp := v }

theorem State.compareWrite_equals {v : Nat} (tick : Bool) (equals : (s.timer n).count s.pclk = v) :
    s.compareWrite n v tick = ((s.compareTick n v tick).matchOnce n).afterMatch n := by
  unfold State.compareWrite State.compareTick
  dsimp only
  rw [if_neg (by simp [equals])]
  by_cases twice : tick = true ∧ (s.timer n).running = true
  · rw [if_pos (by simpa using twice), if_pos twice]
  · rw [if_neg (by simpa using twice), if_neg twice]

theorem State.compareTick_counts {v : Nat} (lt : n < 8) (tick : Bool) : ((s.compareTick n v tick).timer n).cmp = v ∧
    satAdd 32 ((s.compareTick n v tick).timer n).matches_ 1 =
      min ((s.timer n).matches_ + if tick = true ∧ (s.timer n).running = true then 2 else 1) (2 ^ 32 - 1) := by
  unfold State.compareTick
  split
  · obtain ⟨-, times, cmp⟩ := (s.setTimer n { s.timer n with cmp := v }).matchOnce_counts n lt
    rw [State.timer_setTimer_same] at times cmp
    rw [times, cmp]
    exact ⟨rfl, satAdd_twice ..⟩
  · rw [State.timer_setTimer_same]
    exact ⟨rfl, rfl⟩

theorem State.compareTick_unlinked (v : Nat) (tick : Bool) (lt : n < 8) (free : s.Unlinked n) : OnTimer n s (s.compareTick n v tick) ∧
    (s.compareTick n v tick).Unlinked n ∧ ((s.compareTick n v tick).timer n).count s.pclk = (s.timer n).count s.pclk := by
  have set_ : OnTimer n s (s.setTimer n { s.timer n with cmp := v }) := .setTimer n s _
  have free : (s.setTimer n { s.timer n with cmp := v }).Unlinked n := by
    intro j small
    by_cases here : j = n
    · rw [here, State.timer_setTimer_same]
      exact free n lt
    · rw [set_.others j here]
      exact free j small
  unfold State.compareTick
  split
  · obtain ⟨on, e, w, l, same⟩ := State.matchOnce_unlinked _ n lt free
    refine ⟨set_.trans on, State.matchOnce_free _ n lt free, ?_⟩
    rw [same, State.timer_setTimer_same]
    rfl
  · refine ⟨set_, free, ?_⟩
    rw [State.timer_setTimer_same]
    rfl

/-- A write of the value that the count holds matches (R380). -/
theorem State.compareWrite_matches {v : Nat} (tick : Bool) (lt : n < 8) (equals : (s.timer n).count s.pclk = v) :
    ((s.compareWrite n v tick).timer n).cmp = v ∧ ((s.compareWrite n v tick).timer n).mtch = true ∧ ((s.compareWrite n v tick).timer n).matches_ =
      min ((s.timer n).matches_ + if tick = true ∧ (s.timer n).running = true then 2 else 1) (2 ^ 32 - 1) := by
  obtain ⟨cmp, times⟩ := s.compareTick_counts n lt tick
  obtain ⟨mtch, times', cmp'⟩ := (s.compareTick n v tick).match_counts n lt
  rw [s.compareWrite_equals n tick equals]
  exact ⟨cmp'.trans cmp, mtch, times'.trans times⟩

theorem State.compareWrite_unlinked {v : Nat} (tick : Bool) (lt : n < 8) (equals : (s.timer n).count s.pclk = v) (free : s.Unlinked n) :
    OnTimer n s (s.compareWrite n v tick) ∧ ((s.compareWrite n v tick).timer n).count s.pclk = v := by
  obtain ⟨on, free, count⟩ := s.compareTick_unlinked n v tick lt free
  have shown := (s.compareTick n v tick).match_count n lt free
  rw [on.pclk] at shown
  rw [s.compareWrite_equals n tick equals]
  exact ⟨on.trans (State.match_unlinked _ n lt free).1, shown.trans (count.trans equals)⟩

/-! ## Groups (R382) -/

/-- A group object takes its command to the timers of the mask among T0 to T4, and to no other. -/
theorem State.groupCmd_taken {m : Nat} (code : Nat) (known : m < 32) : ∃ t, s.groupCmd code m = (t, abOk) ∧
    ∀ j, t.timer j = if j < 5 ∧ bit m j = true then (s.timer j).commanded code s.pclk (s.obj (0x4510 + j) 2) (s.obj (0x4510 + j) 0xE) else s.timer j := by
  have one (u : State) (j : Nat) (same : KeepsField [] s u) : OnTimer j u (if bit m j then u.timerCmd j code else u) ∧
      (if bit m j then u.timerCmd j code else u).timer j =
        if bit m j then (u.timer j).commanded code s.pclk (s.obj (0x4510 + j) 2) (s.obj (0x4510 + j) 0xE) else u.timer j := by
    split
    · rw [← same.obj, ← same.obj, ← same.pclk]
      exact u.timerCmd_on j code
    · exact ⟨.refl j u, rfl⟩
  obtain ⟨-, timers⟩ := foldl_onTimer
    (g := fun j t => if bit m j then t.commanded code s.pclk (s.obj (0x4510 + j) 2) (s.obj (0x4510 + j) 0xE) else t) one
    (l := List.range 5) List.nodup_range (.refl s)
  refine ⟨_, if_neg (Nat.not_le.mpr known), fun j => (timers j).trans ?_⟩
  simp only [List.mem_range, ite_and]

theorem State.groupCmd_unknown {m : Nat} (code : Nat) (unknown : 32 ≤ m) : s.groupCmd code m = (s, abRole) := if_pos unknown

end

/-! ## Writes of the timers' commanding objects (R39, R409) -/

section
variable {u : State} {c : Client} {n : Nat} {data : Bytes}

theorem timerIx_of_lt (lt : n < 8) : timerIx n = 0x4510 + n := if_pos lt

theorem unitOfBase_timer (lt : n < 8) : unitOfBase (0x4510 + n) = none :=
  (by decide : ∀ k < 8, unitOfBase (0x4510 + k) = none) n lt

theorem wayWith_timer {sub : Nat} (lt : n < 8) (mem : sub = 4 ∨ sub = 8 ∨ sub = 0xB ∨ sub = 0xF) (bad : List Nat) (tick : Bool) :
    wayWith c (0x4510 + n) sub data bad tick = { act := okAct (fun s => s.timerWrite n sub (leNat data) tick) } := by
  have way : wayBus c (0x4510 + n) sub data bad tick = some { act := okAct (fun s => s.timerWrite (0x4510 + n - 0x4510) sub (leNat data) tick) } := by
    unfold wayBus
    dsimp only
    rw [if_neg (by omega), if_neg (by omega), if_neg (by omega), if_pos ⟨by omega, by omega, mem⟩]
  unfold wayWith
  rw [unitOfBase_timer lt]
  dsimp only
  rw [if_neg (by omega), if_neg (by omega), if_neg (by omega), way, Nat.add_sub_cancel_left]
  rfl

/-- An accepted write of a timer's commanding object acts at once and is answered. -/
theorem asked_timerWrite {sub : Nat} (lt : n < 8) (mem : sub = 4 ∨ sub = 8 ∨ sub = 0xB ∨ sub = 0xF) (acc : Accepts u c (0x4510 + n) sub data)
    (tick : Bool) : u.asked c (fun t => t.writeWith c (timerIx n) sub data (wayWith c (timerIx n) sub data [] tick)) =
      (u.timerWrite n sub (leNat data) tick).done c (0x4510 + n) sub := by
  obtain ⟨asks, ok⟩ := acc
  have ok : u.checkWrite c (0x4510 + n) sub data = 0 := ok
  rw [timerIx_of_lt lt, asked_asks asks, wayWith_timer lt mem]
  unfold State.writeWith State.beginWrite
  dsimp only
  rw [if_neg (not_not.mpr ok), if_neg (by omega), if_neg (by omega), if_neg (by omega)]
  exact startWay_now rfl (fun nv => Bool.noConfusion nv) rfl

theorem asksWrite_timer {sub : Nat} (lt : n < 8) (mem : sub = 4 ∨ sub = 8 ∨ sub = 0xB ∨ sub = 0xF) (acc : Accepts u c (0x4510 + n) sub data) :
    u.asksWrite c (timerIx n) sub data = (u.timerWrite n sub (leNat data) false).done c (0x4510 + n) sub :=
  asked_timerWrite lt mem acc false

theorem asksWrite_timerCmd {code : Byte} (lt : n < 8) (acc : Accepts u c (0x4510 + n) 0xB [code]) :
    u.asksWrite c (timerIx n) 0xB [code] = (u.timerCmd n code.toNat).done c (0x4510 + n) 0xB :=
  asksWrite_timer lt (.inr (.inr (.inl rfl))) acc

theorem asksWrite_group {g m : Nat} (lt : m < 256) (acc : Accepts u c 0x4501 g (leBytes 1 m)) :
    u.asksWrite c 0x4501 g (leBytes 1 m) = (u.groupCmd g m).1.answer c (key 0x4501 g) (u.groupCmd g m).2 [] true := by
  have act := asksWrite_acts { act := fun s => s.groupCmd g (leNat (leBytes 1 m)) } rfl acc (by omega) (by decide) rfl (fun nv => Bool.noConfusion nv) rfl
  rwa [leNat_leBytes_one lt] at act

end

/-! ## Capture sources (R383, R384) -/

section
variable {u : State} {n : Nat}

theorem State.captureSource_none (latch : Bool) (lt : n < 8) (no : u.obj (0x4510 + n) 6 = 0 ∨ 6 ≤ u.obj (0x4510 + n) 6) :
    u.captureSource n latch = u := by
  refine if_neg ?_
  rw [timerIx_of_lt lt]
  omega

theorem State.captureSource_fires (latch : Bool) (lt : n < 8) (first : 1 ≤ u.obj (0x4510 + n) 6) (last : u.obj (0x4510 + n) 6 ≤ 5) :
    u.captureSource n latch = if latch then u.captureLatch n else u.captureNow n := by
  refine if_pos ?_
  rw [timerIx_of_lt lt]
  exact ⟨lt, first, last⟩

/-- A capture takes the count, sets NEW, over an unread value OVERRUN, and leaves the count and the other timers as they are. -/
theorem State.captureNow_takes {t : State} (timer : t.timer = (u.captureNow n).timer) : (t.timer n).capture = (u.timer n).count u.pclk ∧
    (t.timer n).new = true ∧ (t.timer n).overrun = ((u.timer n).overrun || ((u.timer n).promote u.pclk).new) ∧
    (t.timer n).running = (u.timer n).running ∧ (t.timer n).count u.pclk = (u.timer n).count u.pclk ∧ ∀ j, j ≠ n → t.timer j = u.timer j := by
  obtain ⟨on, took⟩ := u.captureAt_on n u.pclk
  obtain ⟨o, q, same, overran⟩ := (u.timer n).captured_eq u.pclk
  rw [timer, State.captureNow, took, same]
  exact ⟨rfl, rfl, overran, rfl, rfl, on.others⟩

end

/-- What the mode of an unlinked timer makes of its match (R378). -/
theorem State.match_mode (u : State) {n : Nat} (lt : n < 8) (free : u.Unlinked n) (runs : (u.timer n).running = true) :
    let t := ((u.matchOnce n).afterMatch n).timer n
    (u.timerMode n = 1 → t.running = true ∧ t.count ((u.timer n).tickAt u.pclk + 2 ^ (u.timer n).p) = 0) ∧
      (u.timerMode n = 2 → t.running = false) ∧
      (u.timerMode n = 0 → t.running = true ∧ t.base = (u.timer n).base ∧ t.from_ = (u.timer n).from_) := by
  intro t
  obtain ⟨-, e, w, l, same⟩ := u.match_unlinked n lt free
  have same : t = _ := same
  refine ⟨fun periodic => ?_, fun oneShot => ?_, fun mode => ?_⟩
  · rw [same, periodic]
    exact Timer.afterMatch_periodic _ _ runs
  · rw [same, oneShot]
    exact Timer.afterMatch_oneShot ..
  · rw [same, mode]
    obtain ⟨still, base, from_⟩ := ({ (u.timer n).matched with evTimes := e, withheld := w, limitedAt := l } : Timer).afterMatch_free u.pclk
    exact ⟨still.trans runs, base, from_⟩

theorem Timer.commanded_group (t : Timer) {g : Nat} (first : 1 ≤ g) (last : g ≤ 3) (clk p cmp : Nat) :
    t.commanded g clk p cmp = if g = 1 then t.start clk p else if g = 2 then t.stop clk else t.reset clk p := by
  obtain rfl | rfl | rfl : g = 1 ∨ g = 2 ∨ g = 3 := by omega
  all_goals rfl

/-! ## What the commands make of the state -/

section
variable (s : State) {dt n : Nat} {c : Client} (lt : n < 8)

theorem exec_group {g : Nat} (m : Nat) (first : 1 ≤ g) (last : g ≤ 3) :
    exec (if g = 1 then .groupStart dt c m else if g = 2 then .groupStop dt c m else .groupReset dt c m) s =
      finish s ((s.turn dt).asksWrite c 0x4501 g (leBytes 1 m)) := by
  obtain rfl | rfl | rfl : g = 1 ∨ g = 2 ∨ g = 3 := by omega
  all_goals rfl

theorem exec_capture (latch : Bool) (on : (s.turn dt).powered = true) :
    exec (.capture dt n latch) s = finish s ((s.turn dt).captureSource n latch) := congrArg (finish s) (if_pos on)

include lt

theorem exec_timerMatch (on : (s.turn dt).powered = true) : exec (.timerMatch dt n) s = finish s ((s.turn dt).tickMatch n) :=
  congrArg (finish s) ((if_pos on).trans (if_pos lt))

theorem exec_timerOverflow (on : (s.turn dt).powered = true) : exec (.timerOverflow dt n) s = finish s ((s.turn dt).timerOverflow n) :=
  congrArg (finish s) ((if_pos on).trans (if_pos lt))

theorem exec_compare {v : Nat} (tick : Bool) (small : v < 2 ^ 32) (acc : Accepts (s.turn dt) c (0x4510 + n) 4 (leBytes 4 v)) :
    exec (.compare dt c n v tick) s = finish s (((s.turn dt).compareWrite n v tick).done c (0x4510 + n) 4) := by
  have act : _ = ((s.turn dt).compareWrite n (leNat (leBytes 4 v)) tick).done c (0x4510 + n) 4 := asked_timerWrite lt (.inl rfl) acc tick
  rw [leNat_leBytes, Nat.mod_eq_of_lt (show v < 256 ^ 4 from small)] at act
  exact congrArg (finish s) act

theorem exec_captureTrigger (acc : Accepts (s.turn dt) c (0x4510 + n) 0xF [1]) : exec (.captureTrigger dt c n) s =
    finish s ((if (s.turn dt).obj (0x4510 + n) 6 = 6 then (s.turn dt).captureNow n else s.turn dt).done c (0x4510 + n) 0xF) :=
  congrArg (finish s) (asksWrite_timer lt (.inr (.inr (.inr rfl))) acc)

theorem exec_timerClear {m : Nat} (small : m < 256) (acc : Accepts (s.turn dt) c (0x4510 + n) 8 (leBytes 1 m)) :
    exec (.timerClear dt c n m) s = finish s (((s.turn dt).timerClear n m).done c (0x4510 + n) 8) := by
  have act : _ = ((s.turn dt).timerClear n (leNat (leBytes 1 m))).done c (0x4510 + n) 8 := asksWrite_timer lt (.inr (.inl rfl)) acc
  rw [leNat_leBytes_one small] at act
  exact congrArg (finish s) act

end

/-- A command ends with the timers of what it has made of the state. -/
theorem finish_timers (s w : State) : ∃ t, finish s w = .next t ∧ t.timer = w.timer := ⟨_, rfl, rfl⟩

theorem finish_done_timers (s w : State) (c : Client) (ix sub : Nat) : ∃ t, finish s (w.done c ix sub) = .next t ∧ t.timer = w.timer :=
  ⟨_, rfl, rfl⟩

/-- Settles O56: a match by its mode and its links, every other operation by what it makes of its one timer. -/
theorem timersMatchCaptureAndObey : Obligations.TimersMatchCaptureAndObey := by
  intro s dt n c u k ix p z alone others lt on
  have frame {t w : State} (timer : t.timer = w.timer) (moves : OnTimer n u w) : others t :=
    fun j other => (congrFun timer j).trans (moves.others j other)
  have commands {code : Byte} (acc : Accepts u c ix 0xB [code]) : ∃ t, finish s (u.asksWrite c (timerIx n) 0xB [code]) = .next t ∧ others t ∧
      t.timer n = k.commanded code.toNat z p (u.obj ix 0xE) := by
    obtain ⟨moves, same⟩ := u.timerCmd_on n code.toNat
    obtain ⟨t, is, timer⟩ := finish_done_timers s (u.timerCmd n code.toNat) c ix 0xB
    exact ⟨t, (congrArg (finish s) (asksWrite_timerCmd lt acc)).trans is, frame timer moves, (congrFun timer n).trans same⟩
  refine ⟨⟨fun no => ?_, fun hit => ?_⟩, ⟨fun no => ?_, fun past => ?_⟩, fun v tick small acc => ?_,
    commands, commands, commands, commands, fun g m first last small acc => ?_,
    ⟨fun latch no => ?_, fun first last => ⟨?_, ?_⟩, fun acc => ⟨fun chosen => ?_, fun no => ?_⟩,
      fun x y waits past => k.promote_waited z waits past, fun none_ => k.promote_none z none_⟩, fun m small acc => ?_⟩
  · exact (exec_timerMatch s lt on).trans (congrArg (finish s) (u.tickMatch_none n no))
  · obtain ⟨mtch, times, -⟩ := u.match_counts n lt
    obtain ⟨t, is, timer⟩ := finish_timers s ((u.matchOnce n).afterMatch n)
    refine ⟨t, ((exec_timerMatch s lt on).trans (congrArg (finish s) (u.tickMatch_hit n hit))).trans is, ?_⟩
    rw [timer]
    refine ⟨mtch, times, fun free => ?_, fun j small other own => ?_⟩
    · obtain ⟨runs, -, equal, -⟩ := hit
      exact ⟨frame timer (u.match_unlinked n lt free).1, (u.match_count n lt free).trans equal, u.match_mode lt free runs⟩
    · rw [u.match_linked n lt small other own]
      intro l m
      exact ⟨l.linked_starts z _ _, l.linked_stops z _ _, l.linked_resets z _ _, l.linked_captures z _ _, (l.linked_keeps z _ _).2.1⟩
  · exact (exec_timerOverflow s lt on).trans (congrArg (finish s) (u.timerOverflow_none n no))
  · obtain ⟨moves, e, w, l, same⟩ := u.timerOverflow_past n past
    obtain ⟨t, is, timer⟩ := finish_timers s (u.timerOverflow n)
    refine ⟨t, (exec_timerOverflow s lt on).trans is, ?_⟩
    rw [timer, same]
    exact ⟨rfl, rfl, past.1, k.overflowed_count z past.1, rfl, frame timer moves⟩
  · obtain ⟨t, is, timer⟩ := finish_done_timers s (u.compareWrite n v tick) c ix 4
    refine ⟨t, (exec_compare s lt tick small acc).trans is, ?_⟩
    rw [timer]
    by_cases equal : k.count z = v
    · obtain ⟨cmp, mtch, times⟩ := u.compareWrite_matches n tick lt equal
      refine ⟨cmp, fun other => absurd equal other, fun _ => ⟨mtch, times, fun free => ?_⟩⟩
      obtain ⟨moves, count⟩ := u.compareWrite_unlinked n tick lt equal free
      exact ⟨frame timer moves, count⟩
    · obtain ⟨moves, same⟩ := u.compareWrite_differs n tick equal
      rw [same]
      exact ⟨rfl, fun _ => ⟨frame timer moves, rfl, rfl, rfl, rfl⟩, fun is => absurd is equal⟩
  · intro i
    have run : exec i s = _ := (exec_group s m first last).trans (congrArg (finish s) (asksWrite_group small acc))
    refine ⟨fun unknown => ?_, fun known => ?_⟩
    · rw [run, u.groupCmd_unknown g unknown]
      rfl
    · obtain ⟨w, taken, timers⟩ := u.groupCmd_taken g known
      obtain ⟨t, is, timer⟩ := finish_done_timers s w c 0x4501 g
      rw [taken] at run
      refine ⟨t, run.trans is, ?_⟩
      rw [timer, timers, k.commanded_group first last]
      exact ⟨fun out => if_neg (by simp [out]), fun few mem => if_pos ⟨few, mem⟩⟩
  · exact (exec_capture s latch on).trans (congrArg (finish s) (u.captureSource_none latch lt no))
  · obtain ⟨t, is, timer⟩ := finish_timers s (u.captureNow n)
    exact ⟨t, ((exec_capture s false on).trans (congrArg (finish s) (u.captureSource_fires false lt first last))).trans is, State.captureNow_takes timer⟩
  · obtain ⟨moves, same⟩ := u.captureLatch_on n
    obtain ⟨t, is, timer⟩ := finish_timers s (u.captureLatch n)
    refine ⟨t, ((exec_capture s true on).trans (congrArg (finish s) (u.captureSource_fires true lt first last))).trans is, ?_⟩
    rw [timer, same]
    exact ⟨rfl, rfl, rfl, rfl, frame timer moves⟩
  · have run := exec_captureTrigger s lt acc
    rw [if_pos chosen] at run
    obtain ⟨t, is, timer⟩ := finish_done_timers s (u.captureNow n) c ix 0xF
    exact ⟨t, run.trans is, State.captureNow_takes timer⟩
  · have run := exec_captureTrigger s lt acc
    rwa [if_neg no] at run
  · obtain ⟨t, is, timer⟩ := finish_done_timers s (u.timerClear n m) c ix 8
    exact ⟨t, (exec_timerClear s lt small acc).trans is, frame timer (.setTimer n u _), (congrFun timer n).trans (u.timer_setTimer_same n _)⟩

end Sys2Proof.Machine
end


section
/-! SUPPORT. A controller of the state, requests and aborts of host buffers, and the next frame (R415, R419, R421 to R424). -/

namespace Sys2Proof.Machine
open Sys2Proof

/-! ## A controller of the state -/

theorem State.ctl_congr {s t : State} (can0 : t.can0 = s.can0) (can1 : t.can1 = s.can1) (bus : Nat) : t.ctl bus = s.ctl bus := by
  rw [State.ctl, State.ctl, can0, can1]

section
variable (s : State) (bus : Nat)

@[simp] theorem State.ctl_setCtl (x : CanCtl) : (s.setCtl bus x).ctl bus = x := by
  unfold State.setCtl State.ctl
  split <;> rfl

@[simp] theorem State.ctl_emit (uid code p : Nat) : (s.emit uid code p).ctl bus = s.ctl bus := State.ctl_congr (State.emit_can0 ..) (State.emit_can1 ..) bus

@[simp] theorem State.ctl_emitIf (b : Bool) (uid code p : Nat) : (s.emitIf b uid code p).ctl bus = s.ctl bus :=
  State.ctl_congr (State.emitIf_can0 ..) (State.emitIf_can1 ..) bus

@[simp] theorem State.ctl_charge (n uid code : Nat) : (s.charge n uid code).ctl bus = s.ctl bus :=
  State.ctl_congr (State.charge_can0 ..) (State.charge_can1 ..) bus

@[simp] theorem State.ctl_setUnit (uid st : Nat) : (s.setUnit uid st).ctl bus = s.ctl bus := rfl

@[simp] theorem State.ctl_txEvent (on b : Nat) : (s.txEvent on b).ctl bus = s.ctl bus := State.ctl_emitIf ..

end

/-- A property of one controller that a change of any controller leaves alone. -/
theorem State.ctl_setCtl_field {α : Type} (s : State) (other bus : Nat) {x : CanCtl} (field : CanCtl → α) (same : field x = field (s.ctl other)) :
    field ((s.setCtl other x).ctl bus) = field (s.ctl bus) := by
  unfold State.setCtl
  unfold State.ctl at same ⊢
  split_ifs at same ⊢
  exacts [same, rfl, rfl, same]

/-- What leaves the controllers alone as well. -/
structure KeepsCan (s t : State) : Prop extends KeepsField [] s t where
  can0 : t.can0 = s.can0
  can1 : t.can1 = s.can1

section
variable {s t u : State}

theorem KeepsField.setCtl (s : State) (bus : Nat) (x : CanCtl) : KeepsField [] s (s.setCtl bus x) := by
  unfold State.setCtl
  split <;> exact ⟨⟨⟨rfl, rfl, rfl, rfl, rfl⟩, rfl⟩, rfl, rfl, rfl, rfl, rfl, fun _ _ => rfl⟩

theorem KeepsField.canObj (h : KeepsField [] s t) (bus ix sub : Nat) : t.canObj bus ix sub = s.canObj bus ix sub := by
  unfold State.canObj
  dsimp only
  rw [h.conf List.not_mem_nil, h.obj]

theorem KeepsField.bellObj (h : KeepsField [] s t) (sub : Nat) : t.bellObj sub = s.bellObj sub := h.conf List.not_mem_nil _ _

theorem KeepsCan.refl (s : State) : KeepsCan s s := ⟨.refl s, rfl, rfl⟩

theorem KeepsCan.trans (h : KeepsCan s t) (g : KeepsCan t u) : KeepsCan s u :=
  ⟨h.toKeepsField.trans g.toKeepsField, g.can0.trans h.can0, g.can1.trans h.can1⟩

theorem KeepsCan.ctl (h : KeepsCan s t) (bus : Nat) : t.ctl bus = s.ctl bus := State.ctl_congr h.can0 h.can1 bus

theorem KeepsCan.emit (h : KeepsCan s t) {uid code p : Nat} : KeepsCan s (t.emit uid code p) :=
  h.trans ⟨.emit t uid code p, State.emit_can0 .., State.emit_can1 ..⟩

theorem KeepsCan.emitIf (h : KeepsCan s t) {b : Bool} {uid code p : Nat} : KeepsCan s (t.emitIf b uid code p) :=
  h.trans ⟨.emitIf t b uid code p, State.emitIf_can0 .., State.emitIf_can1 ..⟩

theorem KeepsCan.withBell (h : KeepsCan s t) (b : Bell) : KeepsCan s { t with bell := b } :=
  h.trans ⟨⟨⟨⟨rfl, rfl, rfl, rfl, rfl⟩, rfl⟩, rfl, rfl, rfl, rfl, rfl, fun _ _ => rfl⟩, rfl, rfl⟩

theorem KeepsCan.setTimer (h : KeepsCan s t) (n : Nat) (x : Timer) : KeepsCan s (t.setTimer n x) :=
  h.trans ⟨.setTimer t n x, rfl, rfl⟩

/-- A reference instant is kept by timers (R432). -/
theorem KeepsCan.bellCapture (s : State) (clk : Nat) : KeepsCan s (s.bellCapture clk) := by
  have capture (t : State) (n : Nat) (h : KeepsCan s t) : KeepsCan s (t.captureAt n clk) := (h.setTimer n _).emitIf
  have pass (l : List Nat) (t : State) (h : KeepsCan s t) :
      KeepsCan s (l.foldl (fun (t : State) n => if t.obj (0x4510 + n) 0x06 = 3 then t.captureAt n clk else t) t) := by
    induction l generalizing t with
    | nil => exact h
    | cons n r ih =>
      refine ih _ ?_
      dsimp only
      split
      · exact capture t n h
      · exact h
  exact pass _ _ ((capture s 7 (.refl s)).setTimer 7 _)

end

/-! ## Requests and aborts of host buffers (R415, R422 to R424) -/

section
variable {s : State} {bus b : Nat}

/-- What a request makes of its buffer (R424). -/
def State.requested (s : State) (bus b : Nat) : TxBuf :=
  let fl := s.obj (0x4110 + b + 0x100 * bus) 2
  { (s.ctl bus).buf b with
    st := if s.canModeSends bus then 1 else 5, result := 0, fr := s.bufFrame bus b, oneShot := bit fl 4, event := bit fl 3, abortLate := false }

/-- A form of frame that does not exist (R424). -/
def State.FormBad (s : State) (bus b : Nat) : Prop :=
  let ix := 0x4110 + b + 0x100 * bus
  let fl := s.obj ix 2
  (bit fl 7 = false ∧ bit fl 6 = true) ∨ (bit fl 5 = true ∧ bit fl 7 = true) ∨ 2 ^ 30 ≤ s.obj ix 1 ∨ (bit fl 7 = true ∧ s.canFd bus = false)

theorem State.formBad_iff (s : State) (bus b : Nat) : s.FormBad bus b ↔
    ((!bit (s.obj (0x4110 + b + 0x100 * bus) 2) 7 && bit (s.obj (0x4110 + b + 0x100 * bus) 2) 6) ||
      (bit (s.obj (0x4110 + b + 0x100 * bus) 2) 5 && bit (s.obj (0x4110 + b + 0x100 * bus) 2) 7) ||
      decide (2 ^ 30 ≤ s.obj (0x4110 + b + 0x100 * bus) 1) || (bit (s.obj (0x4110 + b + 0x100 * bus) 2) 7 && !s.canFd bus)) = true := by
  simp [State.FormBad, or_assoc]

theorem State.txRequest_busy (h : ((s.ctl bus).buf b).st = 1 ∨ ((s.ctl bus).buf b).st = 2) : s.txRequest bus b = (s, abBusy) :=
  if_pos (by simpa using h)

theorem State.txRequest_bad (idle : ¬(((s.ctl bus).buf b).st = 1 ∨ ((s.ctl bus).buf b).st = 2)) (bad : s.FormBad bus b) :
    s.txRequest bus b = (s, abRange) := by
  unfold State.txRequest
  dsimp only
  rw [if_neg (by simpa using idle), if_pos ((s.formBad_iff bus b).mp bad)]

theorem State.txRequest_good (idle : ¬(((s.ctl bus).buf b).st = 1 ∨ ((s.ctl bus).buf b).st = 2)) (good : ¬s.FormBad bus b) :
    ∃ t, s.txRequest bus b = (t, abOk) ∧ t.ctl bus = (s.ctl bus).setBuf b (s.requested bus b) := by
  unfold State.txRequest State.requested
  dsimp only
  rw [if_neg (by simpa using idle), if_neg (mt (s.formBad_iff bus b).mpr good)]
  split
  · exact ⟨_, rfl, State.ctl_setCtl ..⟩
  · exact ⟨_, rfl, (State.ctl_txEvent ..).trans (State.ctl_setCtl ..)⟩

theorem State.txAbort_idle (idle : ¬(((s.ctl bus).buf b).st = 1 ∨ ((s.ctl bus).buf b).st = 2)) : s.txAbort bus b = s := by
  obtain ⟨waits, sends⟩ := not_or.mp idle
  exact (if_neg waits).trans (if_neg sends)

theorem State.txAbort_waiting (waits : ((s.ctl bus).buf b).st = 1) :
    (s.txAbort bus b).ctl bus = (s.ctl bus).setBuf b { (s.ctl bus).buf b with st := 4 } := by
  rw [show s.txAbort bus b = _ from if_pos waits]
  simp

theorem State.txAbort_sending (sends : ((s.ctl bus).buf b).st = 2) :
    (s.txAbort bus b).ctl bus = (s.ctl bus).setBuf b { (s.ctl bus).buf b with abortLate := true } := by
  rw [show s.txAbort bus b = _ from (if_neg (by omega)).trans (if_pos sends)]
  exact State.ctl_setCtl ..

end

/-! ## The next frame (R421) -/

/-- The best source is one of those with a frame, and none ranks below it. -/
theorem bestSource_least {l : List (Option Nat × CanFrame)} (some_ : l ≠ []) :
    ∃ q, bestSource l = some q ∧ q ∈ l ∧ ∀ r ∈ l, canRank q.2 ≤ canRank r.2 := by
  induction l with
  | nil => exact absurd rfl some_
  | cons q r ih =>
    by_cases rest : r = []
    · subst rest
      exact ⟨q, rfl, List.mem_singleton_self q, by simp⟩
    · obtain ⟨p, is, mem, least⟩ := ih rest
      have act : bestSource (q :: r) = if canRank p.2 < canRank q.2 then some p else some q := by rw [bestSource, is]
      by_cases better : canRank p.2 < canRank q.2
      · refine ⟨p, act.trans (if_pos better), List.mem_cons_of_mem q mem, fun e h => ?_⟩
        obtain rfl | h := List.mem_cons.mp h
        · exact better.le
        · exact least e h
      · refine ⟨q, act.trans (if_neg better), List.mem_cons_self, fun e h => ?_⟩
        obtain rfl | h := List.mem_cons.mp h
        · exact le_rfl
        · exact (Nat.le_of_not_lt better).trans (least e h)

section
variable {s : State} {bus : Nat}

/-- The source that the priority mode chooses (R421). -/
def State.chosenSource (s : State) (bus : Nat) : Option (Option Nat × CanFrame) :=
  if s.canObj bus 0x4101 0x0F = 0 then bestSource (s.ctl bus).sources else (s.ctl bus).sources.head?

theorem State.chosenSource_none (none_ : (s.ctl bus).sources = []) : s.chosenSource bus = none := by
  unfold State.chosenSource
  rw [none_]
  split <;> rfl

theorem State.chosenSource_some (some_ : (s.ctl bus).sources ≠ []) : ∃ q, s.chosenSource bus = some q ∧ q ∈ (s.ctl bus).sources ∧
    (s.canObj bus 0x4101 0xF = 0 → ∀ r ∈ (s.ctl bus).sources, canRank q.2 ≤ canRank r.2) ∧
    (s.canObj bus 0x4101 0xF ≠ 0 → (s.ctl bus).sources.head? = some q) := by
  unfold State.chosenSource
  split
  · next mode =>
    obtain ⟨q, is, mem, least⟩ := bestSource_least some_
    exact ⟨q, is, mem, fun _ => least, fun other => absurd mode other⟩
  · next mode =>
    obtain ⟨q, r, is⟩ := List.exists_cons_of_ne_nil some_
    rw [is]
    exact ⟨q, rfl, List.mem_cons_self, fun other => absurd other mode, fun _ => rfl⟩

theorem State.txChoice_none (h : (s.ctl bus).cur ≠ none ∨ s.canSends bus = false ∨ (s.ctl bus).sources = []) : s.txChoice bus = s := by
  unfold State.txChoice
  dsimp only
  split
  · rfl
  · next free =>
    have free : (s.ctl bus).cur = none ∧ s.canSends bus = true := by simpa using free
    have empty : (s.ctl bus).sources = [] := by simpa [free] using h
    rw [show (if s.canObj bus 0x4101 0x0F = 0 then _ else _) = none from State.chosenSource_none empty]

/-- A frame as it starts on the bus (R419, R421). -/
def State.started (s : State) (bus : Nat) (q : Option Nat × CanFrame) : CurTx :=
  { buf := q.1, fr := { q.2 with brs := q.2.brs && !(s.ctl bus).clkRc, esi := (s.ctl bus).st == 3 }, start := s.now }

theorem State.txChoice_starts (free : (s.ctl bus).cur = none) (sends : s.canSends bus = true) {q : Option Nat × CanFrame}
    (chosen : s.chosenSource bus = some q) : ((s.txChoice bus).ctl bus).cur = some (s.started bus q) ∧
      (∀ b, q.1 = some b → ((s.txChoice bus).ctl bus).bufs = setAt (s.ctl bus).bufs b { (s.ctl bus).buf b with st := 2 }) ∧
      (q.1 = none → ((s.txChoice bus).ctl bus).bufs = (s.ctl bus).bufs) := by
  unfold State.txChoice
  dsimp only
  rw [if_neg (by simp [free, sends]), show (if s.canObj bus 0x4101 0x0F = 0 then _ else _) = _ from chosen]
  obtain ⟨b, f⟩ := q
  cases b with
  | none => simp [State.started]
  | some b =>
    simp only [State.ctl_setCtl]
    exact ⟨rfl, fun _ is => Option.some.inj is ▸ rfl, fun no => absurd no (Option.some_ne_none b)⟩

end

end Sys2Proof.Machine
end


section
/-! SUPPORT. Error counts, the end of a frame, reception, recovery and the RC clock of a controller (R413, R419 to R422, R426 to R430, R439). -/

namespace Sys2Proof.Machine
open Sys2Proof

/-! ## Error counters (R413, R430) -/

section
variable {s : State} {bus tec rxErr : Nat}

/-- A transmit count of 256 takes a controller that is on the bus to bus-off. -/
def CanCtl.GoesOff (x : CanCtl) (tec : Nat) : Prop := 256 ≤ tec ∧ (x.st = 2 ∨ x.st = 3)

/-- Below bus-off the counts are stored, and the error state follows them. -/
theorem State.canCounts_counts (stays : ¬(s.ctl bus).GoesOff tec) : (s.canCounts bus tec rxErr).ctl bus =
    { s.ctl bus with
      tec := min tec 256, rxErr := min rxErr 255
      st := if (s.ctl bus).st = 2 ∨ (s.ctl bus).st = 3 then errState tec rxErr else (s.ctl bus).st } := by
  unfold State.canCounts
  dsimp only
  rw [if_neg (by simpa [CanCtl.GoesOff] using stays)]
  simp

/-- A pass that changes host buffers alone. -/
theorem foldl_bufs {f : CanCtl → Nat → CanCtl} (each : ∀ y b, ∃ l, f y b = { y with bufs := l }) (l : List Nat) (y : CanCtl) :
    ∃ bufs, l.foldl f y = { y with bufs := bufs } := by
  induction l generalizing y with
  | nil => exact ⟨y.bufs, rfl⟩
  | cons b r ih =>
    obtain ⟨one, first⟩ := each y b
    rw [List.foldl_cons, first]
    exact ih _

theorem State.ctl_foldl_txEvent (l : List Nat) (p : Nat → Bool) (v : State) :
    (l.foldl (fun (v : State) b => if p b then v.txEvent bus b else v) v).ctl bus = v.ctl bus := by
  induction l generalizing v with
  | nil => rfl
  | cons b r ih =>
    refine (ih _).trans ?_
    dsimp only
    split
    · exact State.ctl_txEvent ..
    · rfl

/-- At bus-off host buffers wait again or fail, and nothing is sent (R430). -/
theorem State.canCounts_off (off : (s.ctl bus).GoesOff tec) : ∃ bufs, (s.canCounts bus tec rxErr).ctl bus =
    { s.ctl bus with
      st := 4, tec := 256, rxErr := rxErr, busOffs := satAdd 32 (s.ctl bus).busOffs 1, offAt := s.now, cur := none, bufs := bufs } := by
  unfold State.canCounts
  extract_lets x u x1 x2 s0 s1
  have kept : s1.ctl bus = x2 := (State.ctl_foldl_txEvent _ _ s0).trans ((State.ctl_setUnit ..).trans (State.ctl_setCtl ..))
  rw [if_pos (by simpa [CanCtl.GoesOff] using off), State.ctl_charge, State.ctl_emit, kept]
  refine foldl_bufs (fun y b => ?_) _ x1
  dsimp only
  split
  · exact ⟨_, rfl⟩
  · split
    · exact ⟨_, rfl⟩
    · exact ⟨y.bufs, rfl⟩

/-- What neither the counts nor a bus-off touch, but for the frame on the bus, which a bus-off ends. -/
theorem State.canCounts_keeps (s : State) (bus tec rxErr : Nat) :
    ((s.ctl bus).cur = none → ((s.canCounts bus tec rxErr).ctl bus).cur = none) ∧ ((s.canCounts bus tec rxErr).ctl bus).sent = (s.ctl bus).sent ∧
      ((s.canCounts bus tec rxErr).ctl bus).errors = (s.ctl bus).errors := by
  by_cases off : (s.ctl bus).GoesOff tec
  · obtain ⟨bufs, is⟩ := State.canCounts_off (rxErr := rxErr) off
    rw [is]
    exact ⟨fun _ => rfl, rfl, rfl⟩
  · rw [State.canCounts_counts off]
    exact ⟨id, rfl, rfl⟩

theorem CanCtl.not_goesOff {x : CanCtl} (below : tec < 256) : ¬x.GoesOff tec := fun off => absurd off.1 (Nat.not_le.mpr below)

end

/-! ## The end of a frame (R421 to R423) -/

/-- A host buffer whose frame lost arbitration or met an error (R422, R423). -/
def TxBuf.unsent (y : TxBuf) (flag : Nat) : TxBuf :=
  if y.abortLate then { y with st := 4 } else if y.oneShot then { y with st := 5, result := flag } else { y with st := 1 }

/-- A host buffer whose frame has been sent (R422, R423). -/
def TxBuf.wasSent (y : TxBuf) (start : Nat) : TxBuf := { y with st := 3, sendTime := start, result := if y.abortLate then 4 else 0 }

/-- A controller whose frame has ended unsent, with what that makes of the frame's buffer and says of it. -/
def State.putUnsent (s : State) (bus b flag : Nat) (x : CanCtl) : State :=
  let y := x.buf b
  if y.abortLate then (s.setCtl bus (x.setBuf b { y with st := 4 })).txEvent bus b
  else if y.oneShot then (s.setCtl bus (x.setBuf b { y with st := 5, result := flag })).txEvent bus b
  else s.setCtl bus (x.setBuf b { y with st := 1 })

theorem State.putUnsent_spec (s : State) (bus b flag : Nat) (x : CanCtl) :
    (s.putUnsent bus b flag x).ctl bus = x.setBuf b ((x.buf b).unsent flag) ∧ (s.putUnsent bus b flag x).now = s.now := by
  have now (y : CanCtl) : (s.setCtl bus y).now = s.now := (KeepsField.setCtl s bus y).now
  unfold State.putUnsent TxBuf.unsent
  extract_lets y
  split
  · exact ⟨(State.ctl_txEvent ..).trans (State.ctl_setCtl ..), (State.emitIf_now ..).trans (now _)⟩
  · split
    · exact ⟨(State.ctl_txEvent ..).trans (State.ctl_setCtl ..), (State.emitIf_now ..).trans (now _)⟩
    · exact ⟨State.ctl_setCtl .., now _⟩

/-- The transmit count after an error in a frame sent. -/
def CanCtl.tecAfter (x : CanCtl) (e : Nat) : Nat := if x.st = 3 ∧ e % 8 = 3 then x.tec else x.tec + 8

section
variable {s : State} {bus b : Nat} {k : CurTx} (cur : (s.ctl bus).cur = some k)

theorem State.frameEnds_idle (idle : (s.ctl bus).cur = none) (o : FrameOutcome) : s.frameEnds bus o = s := by
  unfold State.frameEnds State.frameEnd
  dsimp only
  rw [idle]

include cur

/-- Only the end of a frame of the device slot can be more than the end of a frame. -/
theorem State.frameEnds_host (buf : k.buf = some b) (o : FrameOutcome) : s.frameEnds bus o = s.frameEnd bus o := by
  unfold State.frameEnds
  dsimp only
  rw [cur]
  split
  · next is _ =>
    rw [if_neg (by rw [← Option.some.inj is, buf]; simp)]
  · rfl

theorem State.frameEnd_sent (buf : k.buf = some b) (tdc : Nat) : ∃ (v : State) (n : Nat),
    s.frameEnd bus (.sent tdc) = v.canCounts bus ((s.ctl bus).tec - 1) (s.ctl bus).rxErr ∧ v.ctl bus = { s.ctl bus with
      cur := none, sent := satAdd 32 (s.ctl bus).sent 1, tdc := n, bufs := setAt (s.ctl bus).bufs b (((s.ctl bus).buf b).wasSent k.start) } := by
  unfold State.frameEnd
  dsimp only
  rw [cur]
  dsimp only
  rw [buf]
  exact ⟨_, _, rfl, (State.ctl_txEvent ..).trans (State.ctl_setCtl ..)⟩

/-- What the end of a frame of a host buffer makes of its controller, once the frame is sent. -/
theorem State.frameEnd_sent_ctl (buf : k.buf = some b) (tdc : Nat) :
    let y := (s.frameEnd bus (.sent tdc)).ctl bus
    y.cur = none ∧ y.sent = satAdd 32 (s.ctl bus).sent 1 ∧
      ((s.ctl bus).tec ≤ 256 → y.bufs = setAt (s.ctl bus).bufs b (((s.ctl bus).buf b).wasSent k.start)) := by
  obtain ⟨v, n, act, ctl⟩ := State.frameEnd_sent cur buf tdc
  obtain ⟨keepsCur, sent, -⟩ := v.canCounts_keeps bus ((s.ctl bus).tec - 1) (s.ctl bus).rxErr
  rw [ctl] at keepsCur sent
  rw [act]
  refine ⟨keepsCur rfl, sent, fun small => ?_⟩
  rw [State.canCounts_counts (CanCtl.not_goesOff (by omega)), ctl]

/-- The same once the frame has lost arbitration. -/
theorem State.frameEnd_lost_ctl (buf : k.buf = some b) :
    let y := (s.frameEnd bus .lostArbitration).ctl bus
    y.cur = none ∧ y.arbLost = satAdd 32 (s.ctl bus).arbLost 1 ∧ y.tec = (s.ctl bus).tec ∧
      y.bufs = setAt (s.ctl bus).bufs b (((s.ctl bus).buf b).unsent 2) := by
  have act : s.frameEnd bus .lostArbitration = s.putUnsent bus b 2 { s.ctl bus with cur := none, arbLost := satAdd 32 (s.ctl bus).arbLost 1 } := by
    unfold State.frameEnd
    dsimp only
    rw [cur]
    dsimp only
    rw [buf]
    rfl
  rw [act, (State.putUnsent_spec ..).1]
  exact ⟨rfl, rfl, rfl, rfl⟩

theorem State.frameEnd_error (buf : k.buf = some b) (e : Nat) (ph : Bool) :
    ∃ v : State, s.frameEnd bus (.error e ph) = v.canCounts bus ((s.ctl bus).tecAfter e) (s.ctl bus).rxErr ∧ v.now = s.now ∧
      v.ctl bus = { s.ctl bus with
        cur := none, errors := satAdd 32 (s.ctl bus).errors 1, lastErr := e % 8 + 128 * b2n ph
        bufs := setAt (s.ctl bus).bufs b (((s.ctl bus).buf b).unsent 1) } := by
  refine ⟨s.putUnsent bus b 1 { s.ctl bus with cur := none, errors := satAdd 32 (s.ctl bus).errors 1, lastErr := e % 8 + 128 * b2n ph }, ?_,
    (State.putUnsent_spec ..).2, (State.putUnsent_spec ..).1⟩
  unfold State.frameEnd
  dsimp only
  rw [cur]
  dsimp only
  rw [buf]
  rfl

/-- The same once the frame has met an error: the error counts, and a transmit count of 256 is a bus-off (R430). -/
theorem State.frameEnd_error_ctl (buf : k.buf = some b) (e : Nat) (ph : Bool) :
    let y := (s.frameEnd bus (.error e ph)).ctl bus
    let d := (s.ctl bus).tecAfter e
    y.cur = none ∧ y.errors = satAdd 32 (s.ctl bus).errors 1 ∧
      (d < 256 → y.tec = d ∧ y.bufs = setAt (s.ctl bus).bufs b (((s.ctl bus).buf b).unsent 1)) ∧
      (256 ≤ d → (s.ctl bus).st = 2 ∨ (s.ctl bus).st = 3 → y.st = 4 ∧ y.tec = 256 ∧ y.offAt = s.now) := by
  obtain ⟨v, act, now, ctl⟩ := State.frameEnd_error cur buf e ph
  obtain ⟨keepsCur, -, errors⟩ := v.canCounts_keeps bus ((s.ctl bus).tecAfter e) (s.ctl bus).rxErr
  rw [ctl] at keepsCur errors
  rw [act]
  refine ⟨keepsCur rfl, errors, fun below => ?_, fun past part => ?_⟩
  · rw [State.canCounts_counts (CanCtl.not_goesOff below), ctl]
    exact ⟨Nat.min_eq_left below.le, rfl⟩
  · obtain ⟨bufs, off⟩ := State.canCounts_off (s := v) (bus := bus) (rxErr := (s.ctl bus).rxErr) ⟨past, by rw [ctl]; exact part⟩
    rw [off]
    exact ⟨rfl, rfl, now⟩

end

/-! ## The end of a frame of the device slot (R420, R434) -/

theorem CanCtl.queueFrame_eq (x : CanCtl) (f : DevFrame) : ∃ q w, x.queueFrame f = { x with queue := q, waiting := w } := by
  unfold CanCtl.queueFrame
  split
  · split
    · exact ⟨_, _, rfl⟩
    · exact ⟨_, _, rfl⟩
  · exact ⟨_, _, rfl⟩
  · split
    · exact ⟨_, _, rfl⟩
    · exact ⟨_, _, rfl⟩

theorem CanCtl.refill_cur (x : CanCtl) : x.refill.cur = x.cur := by
  unfold CanCtl.refill
  split
  · rfl
  · split <;> rfl

theorem State.canQueue_cur (s : State) (other bus : Nat) (f : DevFrame) : ((s.canQueue other f).ctl bus).cur = (s.ctl bus).cur := by
  unfold State.canQueue
  split
  · rfl
  · obtain ⟨q, w, is⟩ := (s.ctl other).queueFrame_eq f
    exact State.ctl_setCtl_field s other bus CanCtl.cur (by rw [is])

theorem State.bellSent_cur (s : State) (epoch : Bool) (start bus : Nat) : ((s.bellSent epoch start).ctl bus).cur = (s.ctl bus).cur := by
  have captured : KeepsCan s (s.bellCapture (clkAt start)) := .bellCapture s _
  unfold State.bellSent
  extract_lets s0 n b s1
  have noted : s1.ctl bus = s.ctl bus := (captured.withBell _).ctl bus
  split
  · rw [captured.ctl]
  · split
    · rw [State.canQueue_cur, noted]
    · rw [noted]

section
variable {s : State} {bus : Nat} {k : CurTx} (cur : (s.ctl bus).cur = some k)

include cur

theorem State.frameEnd_device (buf : k.buf = none) (o : FrameOutcome) : ((s.frameEnd bus o).ctl bus).cur = none := by
  unfold State.frameEnd
  dsimp only
  rw [cur]
  dsimp only
  rw [buf]
  cases o with
  | sent tdc =>
    refine (State.canCounts_keeps ..).1 ?_
    rw [State.ctl_setCtl]
    exact CanCtl.refill_cur _
  | lostArbitration =>
    dsimp only
    rw [State.ctl_setCtl]
  | error e ph =>
    refine (State.canCounts_keeps ..).1 ?_
    rw [State.ctl_setCtl]

theorem State.frameEnds_device (buf : k.buf = none) (o : FrameOutcome) : ((s.frameEnds bus o).ctl bus).cur = none := by
  have ended : ((s.frameEnd bus o).ctl bus).cur = none := State.frameEnd_device cur buf o
  unfold State.frameEnds
  dsimp only
  split
  · split
    · exact (State.bellSent_cur ..).trans ended
    · exact ended
  · exact ended

end

/-! ## Reception (R426 to R429) -/

theorem RxRec.bytes_length (r : RxRec) : r.bytes.length = 80 := by
  simp [RxRec.bytes, padTo, leBytes_length]
  omega

section
variable {s : State} {bus : Nat}

/-- A frame received without error before its place is found: it is counted, and the receive error count falls. -/
def State.heard (s : State) (bus : Nat) : State :=
  let x := s.ctl bus
  let s0 := if 127 < x.rxErr then { s with free := s.free + 1 } else s
  (s0.setCtl bus { x with rxd := satAdd 32 x.rxd 1 }).canCounts bus x.tec (if 127 < x.rxErr then 119 + Config.recAfter s.free % 9 else x.rxErr - 1)

theorem State.heard_ctl (below : (s.ctl bus).tec < 256) : ∃ st rxErr, (s.heard bus).ctl bus =
    { s.ctl bus with rxd := satAdd 32 (s.ctl bus).rxd 1, st := st, rxErr := rxErr } := by
  unfold State.heard
  extract_lets x s0
  rw [State.canCounts_counts (CanCtl.not_goesOff below), State.ctl_setCtl, Nat.min_eq_left below.le]
  exact ⟨_, _, rfl⟩

/-- The record of a frame that filter k accepts (R427). -/
def State.recordOf (s : State) (bus : Nat) (f : CanFrame) (k : Nat) : RxRec :=
  { fr := f, hp := s.canObj bus 0x4122 (k + 1) % 4 == 1, filter := k, at_ := s.now }

/-- A record where its filter's setting places it (R426). -/
def State.place (s : State) (bus d : Nat) (r : RxRec) (latchClock : Bool) : State :=
  if d = 0 then s.fifoPut bus r else if d = 1 then s.hpPut bus r latchClock else s

/-- The first host filter that accepts a frame (R426). -/
def State.firstFilter (s : State) (bus : Nat) (f : CanFrame) : Option Nat := (List.range 32).find? (fun k => s.filterTakes bus k f)

variable {f : CanFrame} {g : Bool}

theorem State.canDeliver_unfiltered (none_ : s.firstFilter bus f = none) : (s.canDeliver bus f g).ctl bus =
    { (s.heard bus).ctl bus with unfiltered := satAdd 32 (s.ctl bus).unfiltered 1 } := by
  unfold State.canDeliver
  rw [show (List.range 32).find? _ = none from none_]
  exact State.ctl_setCtl ..

theorem State.canDeliver_filtered {k : Nat} (some_ : s.firstFilter bus f = some k) : s.canDeliver bus f g =
    (s.heard bus).place bus (s.canObj bus 0x4122 (k + 1) % 4) (s.recordOf bus f k) g := by
  unfold State.canDeliver
  rw [show (List.range 32).find? _ = some k from some_]
  rfl

theorem State.fifoPut_room {r : RxRec} (room : (s.ctl bus).fifo.length < 32) :
    (s.fifoPut bus r).ctl bus = { s.ctl bus with fifo := (s.ctl bus).fifo ++ [r], dropping := false } := by
  rw [show s.fifoPut bus r = _ from if_pos room]
  exact State.ctl_setCtl ..

theorem State.fifoPut_full {r : RxRec} (full : 32 ≤ (s.ctl bus).fifo.length) :
    (s.fifoPut bus r).ctl bus = { s.ctl bus with drops := satAdd 32 (s.ctl bus).drops 1, dropping := true } := by
  rw [show s.fifoPut bus r = _ from if_neg (Nat.not_lt.mpr full)]
  exact (State.ctl_emitIf ..).trans (State.ctl_setCtl ..)

theorem CanCtl.hpPromote_none {x : CanCtl} (none_ : x.hpPend = none) (now : Nat) : x.hpPromote now = x := by
  unfold CanCtl.hpPromote
  rw [none_]

theorem CanCtl.hpPromote_eq (x : CanCtl) (now : Nat) : ∃ h n p l, x.hpPromote now = { x with hp := h, hpNew := n, hpPend := p, hpLatch := l } := by
  unfold CanCtl.hpPromote
  split
  · split
    · exact ⟨_, _, _, _, rfl⟩
    · exact ⟨_, _, _, _, rfl⟩
  · exact ⟨_, _, _, _, rfl⟩

/-- A frame for the high-priority buffer outside the clock of a latch (R429). -/
theorem State.hpPut_now {r : RxRec} : ∃ n, (s.hpPut bus r false).ctl bus =
    { (s.ctl bus).hpPromote s.now with
      hp := some r, hpNew := true, hpCount := n, hpOver := ((s.ctl bus).hpPromote s.now).hpOver || ((s.ctl bus).hpPromote s.now).hpNew } :=
  ⟨_, (State.ctl_emitIf ..).trans (State.ctl_setCtl ..)⟩

/-- One in the clock of a latch goes to the pending holder (R429). -/
theorem State.hpPut_latched {r : RxRec} : ∃ n l, (s.hpPut bus r true).ctl bus =
    { (s.ctl bus).hpPromote s.now with
      hpPend := some r, hpLatch := l, hpCount := n, hpOver := ((s.ctl bus).hpPromote s.now).hpOver || ((s.ctl bus).hpPromote s.now).hpPend.isSome } :=
  ⟨_, _, State.ctl_setCtl ..⟩

/-- Where a record is placed changes neither what has been counted as received nor the transmit side. -/
theorem State.place_keeps (s : State) (bus d : Nat) (r : RxRec) (latchClock : Bool) :
    ((s.place bus d r latchClock).ctl bus).rxd = (s.ctl bus).rxd ∧ ((s.place bus d r latchClock).ctl bus).bufs = (s.ctl bus).bufs ∧
      ((s.place bus d r latchClock).ctl bus).tec = (s.ctl bus).tec := by
  unfold State.place
  split
  · by_cases room : (s.ctl bus).fifo.length < 32
    · rw [State.fifoPut_room room]
      exact ⟨rfl, rfl, rfl⟩
    · rw [State.fifoPut_full (Nat.not_lt.mp room)]
      exact ⟨rfl, rfl, rfl⟩
  · split
    · obtain ⟨h, n, p, l, promoted⟩ := (s.ctl bus).hpPromote_eq s.now
      cases latchClock with
      | false =>
        obtain ⟨m, is⟩ := State.hpPut_now (s := s) (bus := bus) (r := r)
        rw [is, promoted]
        exact ⟨rfl, rfl, rfl⟩
      | true =>
        obtain ⟨m, t, is⟩ := State.hpPut_latched (s := s) (bus := bus) (r := r)
        rw [is, promoted]
        exact ⟨rfl, rfl, rfl⟩
    · exact ⟨rfl, rfl, rfl⟩

end

/-! ## Errors received, recovery and the RC clock (R419, R430, R439) -/

section
variable {s : State} {bus : Nat}

theorem canUnit_of_lt (lt : bus < 2) : canUnit bus = 0x2E + bus := by
  obtain rfl | rfl : bus = 0 ∨ bus = 1 := by omega
  all_goals rfl

/-- A controller that is on the bus and hears its frames (R413). -/
def CanCtl.Hears (x : CanCtl) : Prop := x.st = 2 ∨ x.st = 3 ∨ x.st = 6

theorem State.canHears_iff (s : State) (bus : Nat) : s.canHears bus = true ↔ (s.ctl bus).Hears := by
  simp [State.canHears, CanCtl.Hears, or_assoc]

theorem State.canRxError_deaf (deaf : ¬(s.ctl bus).Hears) (e : Nat) (ph : Bool) : s.canRxError bus e ph = s :=
  if_neg (mt (s.canHears_iff bus).mp deaf)

theorem State.canRxError_heard (hears : (s.ctl bus).Hears) (e : Nat) (ph : Bool) (below : (s.ctl bus).tec < 256) :
    let y := (s.canRxError bus e ph).ctl bus
    y.errors = satAdd 32 (s.ctl bus).errors 1 ∧ y.lastErr = e % 8 + 128 * b2n ph ∧ y.rxErr = min ((s.ctl bus).rxErr + 1) 255 ∧
      y.tec = (s.ctl bus).tec := by
  rw [show s.canRxError bus e ph = _ from if_pos ((s.canHears_iff bus).mpr hears)]
  dsimp only
  rw [State.canCounts_counts (CanCtl.not_goesOff below), State.ctl_setCtl]
  exact ⟨rfl, rfl, rfl, Nat.min_eq_left below.le⟩

/-- The delay of an automatic recovery has run (R430). -/
def State.RecoveryDue (s : State) (bus : Nat) : Prop :=
  (s.ctl bus).st = 4 ∧ s.canObj bus 0x4101 0x10 = 0 ∧
    (s.ctl bus).offAt + s.canObj bus 0x4101 0x11 * 1000000 + (if s.lasting (0x1C + bus) then 10000000000 else 0) ≤ s.now

theorem State.recoveryDelay_due (due : s.RecoveryDue bus) : s.recoveryDelay bus = s.setCtl bus { s.ctl bus with st := 5 } := by
  obtain ⟨off, auto, past⟩ := due
  refine if_pos ?_
  simp only [Bool.and_eq_true, decide_eq_true_eq, beq_iff_eq, ← Nat.add_assoc]
  exact ⟨⟨off, auto⟩, past⟩

theorem State.recoveryDelay_early (early : ¬s.RecoveryDue bus) : s.recoveryDelay bus = s :=
  if_neg fun due => by
    simp only [Bool.and_eq_true, decide_eq_true_eq, beq_iff_eq, ← Nat.add_assoc] at due
    obtain ⟨⟨off, auto⟩, past⟩ := due
    exact early ⟨off, auto, past⟩

theorem State.recover_may (may : (s.ctl bus).st = 4 ∧ s.canObj bus 0x4101 0x10 = 1) :
    s.recover bus = (s.setCtl bus { s.ctl bus with st := 5 }, abOk) := if_pos (by simpa using may)

theorem State.recover_not (no : ¬((s.ctl bus).st = 4 ∧ s.canObj bus 0x4101 0x10 = 1)) : s.recover bus = (s, abSequence) :=
  if_neg (by simpa using no)

/-- What a controller's unit reports once it is set, with the vehicle pair. -/
theorem State.ownState_setCtl_setUnit (lt : bus < 2) (up : s.sup.vehicleLost = false) (x : CanCtl) (st : Nat) :
    ((s.setCtl bus x).setUnit (canUnit bus) st).ownState (0x2E + bus) = st := by
  have up : (s.setCtl bus x).sup.vehicleLost = false := by rw [(KeepsField.setCtl s bus x).sup, up]
  rw [State.ownState_setUnit up, canUnit_of_lt lt, if_pos rfl]

theorem State.busRecovered_other (other : (s.ctl bus).st ≠ 5) : s.busRecovered bus = s := if_neg other

theorem State.busRecovered_runs (lt : bus < 2) (recovers : (s.ctl bus).st = 5) :
    (s.busRecovered bus).ctl bus = { s.ctl bus with st := 2, tec := 0, rxErr := 0 } ∧
      (s.sup.vehicleLost = false → (s.busRecovered bus).ownState (0x2E + bus) = stRunning) := by
  rw [show s.busRecovered bus = _ from if_pos recovers]
  exact ⟨(State.ctl_emit ..).trans (State.ctl_setCtl ..),
    fun up => ((KeepsUnits.refl _).emit.ownState _).trans (State.ownState_setCtl_setUnit lt up _ _)⟩

theorem State.canIntegrated_other (other : (s.ctl bus).st ≠ 1) : s.canIntegrated bus = s := if_neg other

theorem State.canIntegrated_runs (lt : bus < 2) (integrates : (s.ctl bus).st = 1) :
    (s.canIntegrated bus).ctl bus =
        { s.ctl bus with st := if s.canObj bus 0x4101 2 = 2 ∨ (s.ctl bus).rcRestricted = true then 6 else 2 } ∧
      (s.sup.vehicleLost = false → (s.canIntegrated bus).ownState (0x2E + bus) = stRunning) := by
  rw [show s.canIntegrated bus = _ from if_pos integrates]
  refine ⟨(State.ctl_setUnit ..).trans ((State.ctl_setCtl ..).trans ?_), fun up => State.ownState_setCtl_setUnit lt up _ _⟩
  simp

/-- The clock of a controller is the present one, or the controller takes no part (R419). -/
def State.ClockStays (s : State) (bus : Nat) : Prop :=
  s.ownState (0x2E + bus) = stStopped ∨ s.ownState (0x2E + bus) = stOff ∨ (s.ctl bus).clkRc = s.sup.rc

theorem State.canClock_stays (lt : bus < 2) (stays : s.ClockStays bus) : s.canClock bus = s := by
  refine if_pos ?_
  rw [canUnit_of_lt lt]
  simpa [State.ClockStays, or_assoc] using stays

theorem State.canClock_moves (lt : bus < 2) (moves : ¬s.ClockStays bus) :
    let y := (s.canClock bus).ctl bus
    y.clkRc = s.sup.rc ∧ y.rcRestricted = (s.sup.rc && !s.rcTolerant bus) ∧
      (s.sup.rc = true → s.rcTolerant bus = false → (s.ctl bus).st = 2 ∨ (s.ctl bus).st = 3 → y.st = 6) ∧
      y.bufs = (s.ctl bus).bufs ∧ y.queue = (s.ctl bus).queue := by
  unfold State.canClock
  dsimp only
  rw [if_neg (by rw [canUnit_of_lt lt]; simpa [State.ClockStays, or_assoc] using moves)]
  cases rc : s.sup.rc with
  | true =>
    rw [if_pos rfl, State.ctl_emit, State.ctl_setCtl]
    exact ⟨rfl, rfl, fun _ intolerant part => if_pos (by simpa [intolerant] using part), rfl, rfl⟩
  | false =>
    rw [if_neg Bool.false_ne_true, State.ctl_emit, State.ctl_setCtl]
    exact ⟨rfl, rfl, fun on => Bool.noConfusion on, rfl, rfl⟩

end

end Sys2Proof.Machine
end


section
/-! SUPPORT. The Bellwether as master and as slave (R433 to R438). -/

namespace Sys2Proof.Machine
open Sys2Proof

/-! ## What the Bellwether's operations make of its record -/

section
variable (s : State)

theorem State.bellValid_bell (v : Bool) : (s.bellValid v).bell = { s.bell with valid := v } := State.emitIf_bell ..

theorem KeepsCan.bellValid (v : Bool) : KeepsCan s (s.bellValid v) := ((KeepsCan.refl s).withBell _).emitIf

theorem State.bellStep_bell (us : Int) : (s.bellStep us).bell = { s.bell with steps := satAdd 32 s.bell.steps 1 } := State.emit_bell ..

theorem KeepsCan.bellStep (us : Int) : KeepsCan s (s.bellStep us) := ((KeepsCan.refl s).withBell _).emit

theorem State.bellValid_if (b : Bool) : (if b then s.bellValid true else s).bell = { s.bell with valid := b || s.bell.valid } := by
  cases b
  · rfl
  · exact s.bellValid_bell true

theorem State.bellStep_if (b : Bool) (us : Int) : ∃ n, (if b then s.bellStep us else s).bell = { s.bell with steps := n } := by
  cases b
  · exact ⟨_, rfl⟩
  · exact ⟨_, s.bellStep_bell us⟩

/-- The Bellwether's record as it begins to listen (R436 to R438). -/
def Bell.listening (b : Bell) (rc : Bool) (now : Nat) : Bell :=
  { b with
    valid := false, st := if rc then 4 else 1, outstanding := false, first := true, inst := none, pair := none, lastPair := none, rate := none
    refAt := now }

theorem State.bellListen_bell : s.bellListen.bell = s.bell.listening s.sup.rc s.now := by
  unfold State.bellListen
  dsimp only
  rw [s.bellValid_bell]
  rfl

theorem State.bellYield_bell (other : Nat) : (s.bellYield other).bell = s.bell.listening s.sup.rc s.now :=
  (State.emit_bell ..).trans s.bellListen_bell

/-! ## The master's references (R434) -/

/-- Following GNSS UTC moves the master's base, and may count a step. -/
theorem State.bellSlew_spec : KeepsCan s s.bellSlew ∧ ∃ m n, s.bellSlew.bell = { s.bell with mBase := m, steps := n } := by
  unfold State.bellSlew
  extract_lets clk nt diff b most adj
  split
  · exact ⟨.refl s, _, _, rfl⟩
  · split
    · exact ⟨((KeepsCan.refl s).withBell _).trans (.bellStep _ diff), _, _, State.bellStep_bell ..⟩
    · exact ⟨(KeepsCan.refl s).withBell _, _, _, rfl⟩

/-- A reference frame is due (R434). -/
def State.RefDue : Prop := s.bell.st = 3 ∧ s.bell.sentAt + s.bellObj 4 * 1000000 ≤ s.now ∧ s.serving 0x30 = true

/-- The state that a due reference frame starts from: the time follows GNSS UTC, and a reference not sent is dropped. -/
def State.refReady : State :=
  let x := s.bellSlew.ctl s.bellBus
  s.bellSlew.setCtl s.bellBus
    (if s.bell.outstanding then { x with queue := dropFirst x.deviceBusy (fun g => g.cls == .bellwether && !g.epoch) x.queue } else x)

end

theorem State.refDue_iff (s : State) : (!(s.bell.st == 3 && decide (s.bell.sentAt + s.bellPeriod ≤ s.now) && s.serving 0x30)) = true ↔ ¬s.RefDue := by
  simp only [State.RefDue, Bool.not_eq_true', ← Bool.not_eq_true, Bool.and_eq_true, decide_eq_true_eq, beq_iff_eq, and_assoc]
  rfl

theorem State.canSends_congr {s t : State} {bus : Nat} (h : KeepsField [] s t) (rc : (t.ctl bus).rcRestricted = (s.ctl bus).rcRestricted)
    (st : (t.ctl bus).st = (s.ctl bus).st) : t.canSends bus = s.canSends bus := by
  unfold State.canSends
  dsimp only
  rw [h.canObj, h.sup, rc, st]

theorem State.refReady_spec (s : State) : KeepsField [] s s.refReady ∧ s.refReady.bell = s.bellSlew.bell ∧ ∃ q, s.refReady.ctl s.bellBus =
    { s.ctl s.bellBus with queue := q } ∧ ((s.ctl s.bellBus).queue = [] → q = []) := by
  obtain ⟨slew, -⟩ := s.bellSlew_spec
  refine ⟨slew.toKeepsField.trans (.setCtl ..), ?_, ?_⟩
  · unfold State.refReady State.setCtl
    dsimp only
    split <;> rfl
  · unfold State.refReady
    dsimp only
    rw [State.ctl_setCtl, slew.ctl]
    split
    · exact ⟨_, rfl, fun empty => by rw [empty]; rfl⟩
    · exact ⟨_, rfl, id⟩

section
variable {s : State}

theorem State.bellRef_early (early : ¬s.RefDue) : s.bellRef = s := if_pos (s.refDue_iff.mpr early)

theorem State.refReady_canSends : s.refReady.canSends s.bellBus = s.canSends s.bellBus := by
  obtain ⟨kept, -, q, ctl, -⟩ := s.refReady_spec
  exact State.canSends_congr kept (by rw [ctl]) (by rw [ctl])

/-- A master that cannot send sets FIRST (R434, R438). -/
theorem State.bellRef_mute (due : s.RefDue) (mute : s.canSends s.bellBus = false) :
    s.bellRef.bell.first = true ∧ s.bellRef.bell.inst = none ∧ s.bellRef.bell.sentAt = s.now ∧ s.bellRef.bell.seq = s.bell.seq := by
  obtain ⟨-, ready, -⟩ := s.refReady_spec
  obtain ⟨-, b, n, slewed⟩ := s.bellSlew_spec
  have act : s.bellRef = { s.refReady with bell := { s.refReady.bell with first := true, outstanding := false, inst := none, sentAt := s.now } } := by
    refine (if_neg (mt s.refDue_iff.mp (not_not.mpr due))).trans ?_
    show (if s.refReady.canSends s.bellBus = true then _ else _) = _
    rw [s.refReady_canSends, mute]
    rfl
  rw [act]
  exact ⟨rfl, rfl, rfl, by rw [ready, slewed]⟩

/-- The reference that a master requests carries FIRST after the role was taken, after one not sent, and without an instant. -/
def State.refFirst (s : State) : Bool := s.bell.first || s.bell.outstanding || s.bell.inst.isNone

/-- The instant, in network time, that a requested reference tells (R433). -/
def State.refTime (s : State) : Nat :=
  match s.refReady.bell.inst with
  | some l => s.netAt l
  | none => 0

/-- The reference frame that a master requests (R433, R434). -/
def State.dueRef (s : State) : DevFrame := { cls := .bellwether, fr := s.refReady.refFrame ((s.bell.seq + 1) % 64) s.refFirst s.refTime }

theorem State.canQueue_sends {bus : Nat} (sends : s.canSends bus = true) (d : DevFrame) :
    s.canQueue bus d = s.setCtl bus ((s.ctl bus).queueFrame d) := by
  have parts : ((s.canObj bus 0x4101 0x02 == 0 || s.canObj bus 0x4101 0x02 == 3) = true ∧ (s.ctl bus).rcRestricted = false) ∧ s.sup.vehicleLost = false := by
    simp only [State.canSends, Bool.and_eq_true, Bool.not_eq_true'] at sends
    exact ⟨sends.1.1, sends.2⟩
  obtain ⟨⟨mode, rc⟩, up⟩ := parts
  refine if_neg ?_
  unfold State.canModeSends
  dsimp only
  rw [up, mode, rc]
  decide

theorem CanCtl.queueFrame_empty {x : CanCtl} {d : DevFrame} (bell : d.cls = .bellwether) (empty : x.queue = []) : (x.queueFrame d).queue = [d] := by
  unfold CanCtl.queueFrame
  rw [bell]
  dsimp only
  rw [if_pos (by simp [CanCtl.classCount, empty]), empty]
  unfold queueInsert
  cases x.deviceBusy <;> rfl

theorem State.refFrame_first_byte (s : State) {seq : Nat} (lt : seq < 64) (first : Bool) (m : Nat) : ((s.refFrame seq first m).data.getD 0 0).toNat = 64 + seq := by
  show (byte (64 + seq)).toNat = 64 + seq
  simp [byte]
  omega

theorem State.bellRef_sends (due : s.RefDue) (sends : s.canSends s.bellBus = true) :
    let t := s.refReady.canQueue s.bellBus s.dueRef
    s.bellRef = { t with bell :=
      { t.bell with seq := (s.bell.seq + 1) % 64, outstanding := true, first := s.refFirst, sentAt := s.now, utc := s.timeSource == 1 } } := by
  obtain ⟨-, bell, -⟩ := s.refReady_spec
  obtain ⟨-, b, n, slewed⟩ := s.bellSlew_spec
  have first : (s.refReady.bell.first || s.refReady.bell.outstanding || s.refReady.bell.inst.isNone) = s.refFirst := by
    rw [bell, slewed]
    rfl
  have seq : s.refReady.bell.seq = s.bell.seq := by rw [bell, slewed]
  unfold State.dueRef
  dsimp only
  rw [← first, ← seq]
  refine (if_neg (mt s.refDue_iff.mp (not_not.mpr due))).trans ?_
  exact if_pos (s.refReady_canSends.trans sends)

/-- A master that can send requests its next reference, which is the one frame of an empty queue (R434). -/
theorem State.bellRef_requests (due : s.RefDue) (sends : s.canSends s.bellBus = true) :
    let t := s.bellRef
    t.bell.seq = (s.bell.seq + 1) % 64 ∧ t.bell.outstanding = true ∧ t.bell.sentAt = s.now ∧ t.bell.first = s.refFirst ∧
      ((s.ctl s.bellBus).queue = [] → (t.ctl s.bellBus).queue = [s.dueRef]) := by
  obtain ⟨-, -, q, ctl, empties⟩ := s.refReady_spec
  rw [State.bellRef_sends due sends]
  refine ⟨rfl, rfl, rfl, rfl, fun empty => ?_⟩
  have queued : (s.refReady.canQueue s.bellBus s.dueRef).ctl s.bellBus = (s.refReady.ctl s.bellBus).queueFrame s.dueRef := by
    rw [State.canQueue_sends (s.refReady_canSends.trans sends), State.ctl_setCtl]
  exact (congrArg CanCtl.queue queued).trans (CanCtl.queueFrame_empty rfl (by rw [ctl]; exact empties empty))

/-- The frame that is requested is a REF of eight bytes on the base identifier, with its sequence (R433). -/
theorem State.dueRef_spec (s : State) : s.dueRef.cls = .bellwether ∧ s.dueRef.epoch = false ∧ s.dueRef.fr.id = s.bellObj 3 ∧ s.dueRef.fr.dlc = 8 ∧
    (s.dueRef.fr.data.getD 0 0).toNat = 64 + (s.bell.seq + 1) % 64 :=
  ⟨rfl, rfl, s.refReady_spec.1.bellObj 3, rfl, s.refReady.refFrame_first_byte (Nat.mod_lt _ (by decide)) s.refFirst s.refTime⟩

end

/-! ## References of another node (R435 to R437) -/

section
variable (s : State)

/-- A pair that follows the latest one within 200 ppm of the crystal's rate (R435). -/
def GoodPair (a0 m0 a m : Nat) : Prop :=
  a0 < a ∧ ((((m - m0) * 384 : Nat) : Int) - (((a - a0) * 5 : Nat) : Int)).natAbs * 1000000 ≤ 200 * ((a - a0) * 5)

theorem goodPair_iff (a0 m0 a m : Nat) : (!rateOk (m - m0) (a - a0) || decide (a ≤ a0)) = true ↔ ¬GoodPair a0 m0 a m := by
  simp [rateOk, GoodPair]
  omega

variable {s} {a m a0 m0 : Nat}

theorem State.bellPair_first (none_ : s.bell.lastPair = none) :
    s.bellPair a m = { s with bell := { s.bell with pair := some (a, m), lastPair := some (a, m) } } := by
  unfold State.bellPair
  dsimp only
  rw [none_]

theorem State.bellPair_bad (some_ : s.bell.lastPair = some (a0, m0)) (bad : ¬GoodPair a0 m0 a m) :
    s.bellPair a m = { s with bell := { s.bell with rejected := satAdd 32 s.bell.rejected 1, lastPair := some (a, m) } } := by
  unfold State.bellPair
  dsimp only
  rw [some_]
  exact if_pos ((goodPair_iff ..).mpr bad)

/-- A good pair gives the rate, and with an EPOCH the network time is valid (R435, R436). -/
theorem State.bellPair_good (some_ : s.bell.lastPair = some (a0, m0)) (good : GoodPair a0 m0 a m) : ∃ fl n, (s.bellPair a m).bell =
    { s.bell with
      pair := some (a, m), lastPair := some (a, m), rate := some (m - m0, a - a0), floor := fl, steps := n
      st := if s.bell.high.isSome then 2 else s.bell.st, valid := s.bell.high.isSome || s.bell.valid } := by
  unfold State.bellPair
  extract_lets b pred far fl
  rw [show b.lastPair = _ from some_]
  dsimp -zeta only
  rw [if_neg (mt (goodPair_iff ..).mp (not_not.mpr good))]
  extract_lets b1 s1 s2
  obtain ⟨n, stepped⟩ := s1.bellStep_if far (m - pred)
  exact ⟨fl, n, (State.bellValid_if ..).trans (congrArg (fun b : Bell => { b with valid := s.bell.high.isSome || b.valid }) stepped)⟩

/-- What the record says of the latest reference of another node. -/
structure SameReference (b c : Bell) : Prop where
  refs : c.refs = b.refs
  refAt : c.refAt = b.refAt
  seen : c.seen = b.seen
  inst : c.inst = b.inst
  seq : c.seq = b.seq
  utc : c.utc = b.utc

theorem SameReference.trans {b c d : Bell} (h : SameReference b c) (g : SameReference c d) : SameReference b d :=
  ⟨g.refs.trans h.refs, g.refAt.trans h.refAt, g.seen.trans h.seen, g.inst.trans h.inst, g.seq.trans h.seq, g.utc.trans h.utc⟩

theorem State.bellPair_same (s : State) (a m : Nat) : SameReference s.bell (s.bellPair a m).bell := by
  cases last : s.bell.lastPair with
  | none =>
    rw [State.bellPair_first last]
    exact ⟨rfl, rfl, rfl, rfl, rfl, rfl⟩
  | some p =>
    by_cases good : GoodPair p.1 p.2 a m
    · obtain ⟨fl, n, is⟩ := State.bellPair_good last good
      rw [is]
      exact ⟨rfl, rfl, rfl, rfl, rfl, rfl⟩
    · rw [State.bellPair_bad last good]
      exact ⟨rfl, rfl, rfl, rfl, rfl, rfl⟩

/-- The record once a reference of another node is noted. -/
def Bell.noted (b : Bell) (f : CanFrame) (now : Nat) : Bell :=
  { b with seen := (f.data.getD 1 0).toNat % 16, refs := satAdd 32 b.refs 1, refAt := now }

/-- The state once a reference of another node is noted. -/
def State.refNoted (s : State) (f : CanFrame) : State := { s.bellCapture s.pclk with bell := s.bell.noted f s.now }

theorem State.refNoted_keeps (s : State) (f : CanFrame) : KeepsCan s (s.refNoted f) := (KeepsCan.bellCapture s _).withBell _

/-- A reference met by a master: one of a priority number as low makes it listen, after a conflict with an extra delay (R437). -/
theorem State.bellRefRx_master (s : State) (f : CanFrame) (d : Nat) (master : s.bell.st = 3) :
    let prio := (f.data.getD 1 0).toNat % 16
    let listens := (s.bell.noted f s.now).listening s.sup.rc s.now
    (s.bellRefRx f d).bell =
      if prio < s.bellObj 5 then listens
      else if prio = s.bellObj 5 then { listens with extra := s.bellPeriod * d / 65536 } else s.bell.noted f s.now := by
  intro prio listens
  have kept := s.refNoted_keeps f
  have yields : ((s.refNoted f).bellYield prio).bell = listens := by
    rw [State.bellYield_bell, kept.sup, kept.now]
    rfl
  have act : s.bellRefRx f d = if prio < s.bellObj 5 then (s.refNoted f).bellYield prio else if prio = s.bellObj 5 then
      ({ ((s.refNoted f).bellYield prio).emit 0x30 0x4305 prio with bell :=
        { (((s.refNoted f).bellYield prio).emit 0x30 0x4305 prio).bell with extra := s.bellPeriod * d / 65536 } } : State).charge 0x1E 0x30 0x4305
      else s.refNoted f := if_pos master
  rw [act]
  split
  · exact yields
  · split
    · rw [State.charge_bell, State.emit_bell, yields]
    · rfl

/-- A conflict or a better priority makes a master on the crystal listen (R437). -/
theorem State.bellRefRx_yields (s : State) (f : CanFrame) (d : Nat) (master : s.bell.st = 3) :
    let prio := (f.data.getD 1 0).toNat % 16
    let w := (s.bellRefRx f d).bell
    (w.refs = satAdd 32 s.bell.refs 1 ∧ w.refAt = s.now ∧ w.seen = prio) ∧
      (s.sup.rc = false → w.st = (if prio ≤ s.bellObj 5 then 1 else 3) ∧ (prio = s.bellObj 5 → w.extra = s.bellObj 4 * 1000000 * d / 65536)) := by
  intro prio w
  have listens (crystal : s.sup.rc = false) (low : prio ≤ s.bellObj 5) :
      ((s.bell.noted f s.now).listening s.sup.rc s.now).st = if prio ≤ s.bellObj 5 then 1 else 3 := by
    rw [crystal, if_pos low]
    rfl
  rw [show w = _ from s.bellRefRx_master f d master]
  split
  · next lower => exact ⟨⟨rfl, rfl, rfl⟩, fun crystal => ⟨listens crystal lower.le, fun same => absurd same lower.ne⟩⟩
  · split
    · next same => exact ⟨⟨rfl, rfl, rfl⟩, fun crystal => ⟨listens crystal same.le, fun _ => rfl⟩⟩
    · next above other =>
      exact ⟨⟨rfl, rfl, rfl⟩, fun _ => ⟨(show s.bell.st = _ from master).trans (if_neg (by omega)).symm, fun same => absurd same other⟩⟩

/-- A reference met by a slave gives its instant, and with the one before it a pair (R435). -/
theorem State.bellRefRx_slave (s : State) (f : CanFrame) (d : Nat) (slave : s.bell.st ≠ 3) : SameReference
    { s.bell.noted f s.now with
      inst := some s.pclk, seq := (f.data.getD 0 0).toNat % 64, utc := bit (f.data.getD 1 0).toNat 7 } (s.bellRefRx f d).bell := by
  unfold State.bellRefRx
  extract_lets _ b0 b1 seq prio m48 own s0 _ s1 _ _ b high paired s2 s3
  have moved : s3 = s2 ∨ ∃ l m, s3 = s2.bellPair l m := by
    dsimp only [s3]
    split
    · exact .inr ⟨_, _, rfl⟩
    · exact .inl rfl
  have same : SameReference s2.bell s3.bell := by
    obtain same | ⟨l, m, pair⟩ := moved
    · rw [same]
      exact ⟨rfl, rfl, rfl, rfl, rfl, rfl⟩
    · rw [pair]
      exact s2.bellPair_same l m
  refine SameReference.trans (c := s2.bell) ⟨rfl, rfl, rfl, rfl, rfl, rfl⟩ ?_
  rw [if_neg (show ¬s1.bell.st = 3 from slave)]
  split
  · exact same
  · exact same

/-- A pair of the record once an EPOCH tells the high bits (R435): the first EPOCH completes it. -/
def Bell.lifted (b : Bell) (h : Nat) (q : Option (Nat × Nat)) : Option (Nat × Nat) :=
  if b.high.isSome then q else q.map (fun p => (p.1, p.2 % 2 ^ 48 + 2 ^ 48 * h))

/-- The state once the high bits of an EPOCH are noted. -/
def State.epochNoted (s : State) (h : Nat) : State :=
  { s.bellCapture s.pclk with bell :=
    { s.bell with
      high := some h, pair := s.bell.lifted h s.bell.pair, lastPair := s.bell.lifted h s.bell.lastPair
      st := if s.bell.rate.isSome then 2 else s.bell.st } }

/-- An EPOCH met by a slave (R435, R436). -/
theorem State.bellEpochRx_slave (s : State) (f : CanFrame) (slave : s.bell.st ≠ 3) : ∃ pair last, (s.bellEpochRx f).bell =
    { s.bell with
      high := some (leNat (slice 2 2 f.data)), pair := pair, lastPair := last
      st := if s.bell.rate.isSome then 2 else s.bell.st, valid := s.bell.rate.isSome || s.bell.valid } := by
  have act : s.bellEpochRx f = if s.bell.rate.isSome then (s.epochNoted (leNat (slice 2 2 f.data))).bellValid true
      else s.epochNoted (leNat (slice 2 2 f.data)) := if_neg slave
  rw [act]
  exact ⟨_, _, State.bellValid_if ..⟩

/-! ## The role and the time-out (R436, R437) -/

/-- The role is due (R437). -/
def State.RoleDue (s : State) : Prop :=
  s.bellObj 1 = 2 ∧ s.bell.slaveOnly = false ∧ (s.bell.st = 1 ∨ s.bell.st = 2) ∧ s.serving 0x30 = true ∧
    s.bell.refAt + (3 + s.bellObj 5) * (s.bellObj 4 * 1000000) + s.bell.extra ≤ s.now

theorem State.roleDue_iff (s : State) : (s.bellObj 0x01 == 2 && !s.bell.slaveOnly && (s.bell.st == 1 || s.bell.st == 2) && s.serving 0x30 &&
    decide (s.bell.refAt + (3 + s.bellObj 0x05) * s.bellPeriod + s.bell.extra ≤ s.now)) = true ↔ s.RoleDue := by
  simp only [State.RoleDue, Bool.and_eq_true, Bool.or_eq_true, Bool.not_eq_true', decide_eq_true_eq, beq_iff_eq, and_assoc]
  rfl

theorem State.bellTake_early (early : ¬s.RoleDue) : s.bellTake = s := if_neg (mt s.roleDue_iff.mp early)

theorem State.bellTake_due (due : s.RoleDue) : s.bellTake.bell =
    { s.bell with
      st := 3, valid := true, inst := none, first := true, outstanding := false, extra := 0, sinceEpoch := 0, utc := s.timeSource == 1, sentAt := 0
      mBase := (s.pclk, if s.bell.valid then s.netTime else if s.timeSource = 1 ∨ s.timeSource = 2 then s.utcMs * 1000 else 0) } := by
  refine (congrArg State.bell (if_pos (s.roleDue_iff.mpr due))).trans ((State.bellValid_bell ..).trans ?_)
  rw [State.emit_bell]
  simp

/-- The references have stopped (R436). -/
def State.RefsLate (s : State) : Prop := s.bell.st = 2 ∧ s.bell.refAt + s.bellObj 6 * (s.bellObj 4 * 1000000) < s.now

theorem State.refsLate_iff (s : State) : (s.bell.st == 2 && decide (s.bell.refAt + s.bellObj 0x06 * s.bellPeriod < s.now)) = true ↔ s.RefsLate := by
  simp only [State.RefsLate, Bool.and_eq_true, decide_eq_true_eq, beq_iff_eq]
  rfl

theorem State.bellTimeout_early (early : ¬s.RefsLate) : s.bellTimeout = s := if_neg (mt s.refsLate_iff.mp early)

theorem State.bellTimeout_late (late : s.RefsLate) : s.bellTimeout.bell =
    { s.bell with valid := false, st := 1, inst := none, pair := none, lastPair := none, rate := none } := by
  refine (congrArg State.bell (if_pos (s.refsLate_iff.mpr late))).trans ?_
  dsimp only
  rw [State.bellValid_bell]

end

end Sys2Proof.Machine
end


section
/-! SUPPORT. What the commands of the CAN unit and the Bellwether make of the state, and the statement on them. -/

namespace Sys2Proof.Machine
open Sys2Proof

/-! ## Requests to the controllers' objects (R39, R441) -/

section
variable {u : State} {c : Client} {bus b : Nat} (lt : bus < 2)

theorem lt_two_cases {n : Nat} (lt : n < 2) : n = 0 ∨ n = 1 := by omega

include lt

theorem asksWrite_bufCommand {code : Byte} (small : b < 3) (acc : Accepts u c (0x4110 + b + 0x100 * bus) 5 [code]) :
    u.asksWrite c (bufIx bus b) 5 [code] =
      (u.bufCommand bus b (leNat [code])).1.answer c (key (0x4110 + b + 0x100 * bus) 5) (u.bufCommand bus b (leNat [code])).2 [] true := by
  obtain rfl | rfl | rfl : b = 0 ∨ b = 1 ∨ b = 2 := by omega
  all_goals obtain rfl | rfl := lt_two_cases lt
  all_goals exact asksWrite_acts { act := fun s => s.bufCommand _ _ (leNat [code]) } rfl acc (by decide) (by decide) rfl (fun nv => Bool.noConfusion nv) rfl

theorem asksWrite_clearOverrun (acc : Accepts u c (0x4131 + 0x100 * bus) 3 [1]) :
    u.asksWrite c (busIx 0x4131 bus) 3 [1] = (u.clearOverrun bus).done c (0x4131 + 0x100 * bus) 3 := by
  obtain rfl | rfl := lt_two_cases lt
  all_goals exact asksWrite_acts { act := okAct (fun s => s.clearOverrun _) } rfl acc (by decide) (by decide) rfl (fun nv => Bool.noConfusion nv) rfl

theorem asksWrite_recover (acc : Accepts u c (0x4102 + 0x100 * bus) 6 [1]) :
    u.asksWrite c (busIx 0x4102 bus) 6 [1] = (u.recover bus).1.answer c (key (0x4102 + 0x100 * bus) 6) (u.recover bus).2 [] true := by
  obtain rfl | rfl := lt_two_cases lt
  all_goals exact asksWrite_acts { act := fun s => s.recover _ } rfl acc (by decide) (by decide) rfl (fun nv => Bool.noConfusion nv) rfl

/-- A record that a read gives is the one kept, or zeros (R428, R429). -/
def recordBytes (r : Option RxRec) : Bytes := leBytes 80 (leNat ((r.map (·.bytes)).getD []))

omit lt in
theorem recordBytes_none : recordBytes none = List.replicate 80 0 := rfl

omit lt in
theorem recordBytes_some (r : RxRec) : recordBytes (some r) = r.bytes := by
  have whole : leBytes r.bytes.length (leNat r.bytes) = r.bytes := leBytes_leNat r.bytes
  rwa [r.bytes_length] at whole

theorem asksRead_nextRecord (acc : AcceptsRead u c (0x4130 + 0x100 * bus) 3) : u.asksRead c (busIx 0x4130 bus) 3 =
    (u.nextRecord bus).answer c (key (0x4130 + 0x100 * bus) 3) abOk (recordBytes (u.ctl bus).fifo.head?) true := by
  obtain rfl | rfl := lt_two_cases lt
  all_goals exact asksRead_gives acc

theorem asksRead_hpRecord (acc : AcceptsRead u c (0x4131 + 0x100 * bus) 2) : u.asksRead c (busIx 0x4131 bus) 2 =
    (u.hpRead bus).answer c (key (0x4131 + 0x100 * bus) 2) abOk (recordBytes ((u.ctl bus).hpPromote u.now).hp) true := by
  obtain rfl | rfl := lt_two_cases lt
  all_goals exact asksRead_gives acc

end

/-! ## What the commands make of the state -/

theorem State.onBus_runs {u : State} {bus : Nat} (on : u.powered = true) (lt : bus < 2) (f : State → State) : u.onBus bus f = f u :=
  (if_pos lt).trans (if_pos on)

theorem State.frameIn_deaf {u : State} {bus : Nat} (deaf : ¬(u.ctl bus).Hears) (f : CanFrame) (g : Bool) : u.frameIn bus f g = u :=
  if_pos (by simp [mt (u.canHears_iff bus).mp deaf])

theorem State.frameIn_hears {u : State} {bus : Nat} (on : u.powered = true) (hears : u.canHears bus = true) (f : CanFrame) (g : Bool) :
    u.frameIn bus f g = ((((u.canDeliver bus f g).requestFrame bus f).engineFrame f).bellRx bus f).bdpRx bus f :=
  if_neg (by simp [on, hears])

theorem State.canHears_of_bellTakes {u : State} {f : CanFrame} {kind : Nat} (takes : u.bellTakes f kind = true) : u.canHears u.bellBus = true := by
  simp only [State.bellTakes, Bool.and_eq_true] at takes
  tauto

/-- A command ends with the controllers and the Bellwether of what it has made of the state. -/
theorem next_can {o : Out} {s w : State} (run : o = finish s w) : ∃ t, o = .next t ∧ w.ctl = t.ctl ∧ w.bell = t.bell := ⟨_, run, rfl, rfl⟩

/-- So does a command that a client asked for, and its client has the answer. -/
theorem finish_answer_can (s w : State) (c : Client) (k ab : Nat) (data : Bytes) : ∃ t, finish s (w.answer c k ab data true) = .next t ∧
    t.ctl = w.ctl ∧ (t.ctx c).reply = some { key := k, abort := ab, data := data } :=
  ⟨_, rfl, rfl, congrArg ClientCtx.reply (w.ctx_answer c k ab data true)⟩

section
variable (s : State) {dt bus b : Nat} {c : Client} (on : (s.turn dt).powered = true) (lt : bus < 2)

include lt

theorem exec_txRequest (small : b < 3) (acc : Accepts (s.turn dt) c (0x4110 + b + 0x100 * bus) 5 [1]) : exec (.txRequest dt c bus b) s =
    finish s (((s.turn dt).txRequest bus b).1.answer c (key (0x4110 + b + 0x100 * bus) 5) ((s.turn dt).txRequest bus b).2 [] true) :=
  congrArg (finish s) (asksWrite_bufCommand lt small acc)

theorem exec_txAbort (small : b < 3) (acc : Accepts (s.turn dt) c (0x4110 + b + 0x100 * bus) 5 [2]) : exec (.txAbort dt c bus b) s =
    finish s (((s.turn dt).txAbort bus b).done c (0x4110 + b + 0x100 * bus) 5) :=
  congrArg (finish s) (asksWrite_bufCommand lt small acc)

include on

theorem exec_txChoice : exec (.txChoice dt bus) s = finish s ((s.turn dt).txChoice bus) := congrArg (finish s) (State.onBus_runs on lt _)

theorem exec_frameEnd (o : FrameOutcome) : exec (.frameEnd dt bus o) s = finish s ((s.turn dt).frameEnds bus o) :=
  congrArg (finish s) (State.onBus_runs on lt _)

theorem exec_frameEnd_host {k : CurTx} (cur : ((s.turn dt).ctl bus).cur = some k) (buf : k.buf = some b) (o : FrameOutcome) :
    exec (.frameEnd dt bus o) s = finish s ((s.turn dt).frameEnd bus o) :=
  (exec_frameEnd s on lt o).trans (congrArg (finish s) (State.frameEnds_host cur buf o))

theorem exec_canReceiveError (e : Nat) (ph : Bool) : exec (.canReceiveError dt bus e ph) s = finish s ((s.turn dt).canRxError bus e ph) :=
  congrArg (finish s) (State.onBus_runs on lt _)

theorem exec_recoveryDelay : exec (.recoveryDelay dt bus) s = finish s ((s.turn dt).recoveryDelay bus) :=
  congrArg (finish s) (State.onBus_runs on lt _)

theorem exec_busRecovered : exec (.busRecovered dt bus) s = finish s ((s.turn dt).busRecovered bus) :=
  congrArg (finish s) (State.onBus_runs on lt _)

theorem exec_integrated : exec (.integrated dt bus) s = finish s ((s.turn dt).canIntegrated bus) :=
  congrArg (finish s) (State.onBus_runs on lt _)

theorem exec_canClockRc : exec (.canClockRc dt bus) s = finish s ((s.turn dt).canClock bus) :=
  congrArg (finish s) (State.onBus_runs on lt _)

end

section
variable (s : State) {dt : Nat} (on : (s.turn dt).powered = true)

include on

theorem exec_ref : exec (.ref dt) s = finish s (s.turn dt).bellRef := congrArg (finish s) (if_pos on)

theorem exec_masterTaken : exec (.masterTaken dt) s = finish s (s.turn dt).bellTake := congrArg (finish s) (if_pos on)

theorem exec_refTimeout : exec (.refTimeout dt) s = finish s (s.turn dt).bellTimeout := congrArg (finish s) (if_pos on)

/-- A frame that the Bellwether takes goes to every other reader of the bus as well (R425). -/
theorem finish_bellTakes (f : CanFrame) (kind : Nat) :
    finish s (if (s.turn dt).bellTakes f kind then (s.turn dt).frameIn (s.turn dt).bellBus f false else s.turn dt) =
      let u := s.turn dt
      let b := u.bellBus
      if u.bellTakes f kind then finish s (((((u.canDeliver b f false).requestFrame b f).engineFrame f).bellRx b f).bdpRx b f) else finish s u := by
  dsimp only
  split
  · next takes => rw [State.frameIn_hears on (State.canHears_of_bellTakes takes)]
  · rfl

end

/-! ## Where a received frame goes (R426, R428, R429) -/

section
variable {s : State} {bus k : Nat} {f : CanFrame} {g : Bool} (below : (s.ctl bus).tec < 256)

include below

/-- Every frame received is counted, and the transmit side stays. -/
theorem State.canDeliver_keeps : ((s.canDeliver bus f g).ctl bus).rxd = satAdd 32 (s.ctl bus).rxd 1 ∧
    ((s.canDeliver bus f g).ctl bus).bufs = (s.ctl bus).bufs ∧ ((s.canDeliver bus f g).ctl bus).tec = (s.ctl bus).tec := by
  obtain ⟨st, rxErr, heard⟩ := State.heard_ctl below
  cases filter : s.firstFilter bus f with
  | none =>
    rw [State.canDeliver_unfiltered filter, heard]
    exact ⟨rfl, rfl, rfl⟩
  | some k =>
    obtain ⟨rxd, bufs, tec⟩ := (s.heard bus).place_keeps bus (s.canObj bus 0x4122 (k + 1) % 4) (s.recordOf bus f k) g
    rw [State.canDeliver_filtered filter, rxd, bufs, tec, heard]
    exact ⟨rfl, rfl, rfl⟩

theorem State.canDeliver_nowhere (none_ : s.firstFilter bus f = none) : ((s.canDeliver bus f g).ctl bus).fifo = (s.ctl bus).fifo ∧
    ((s.canDeliver bus f g).ctl bus).hp = (s.ctl bus).hp ∧ ((s.canDeliver bus f g).ctl bus).unfiltered = satAdd 32 (s.ctl bus).unfiltered 1 := by
  obtain ⟨st, rxErr, heard⟩ := State.heard_ctl below
  rw [State.canDeliver_unfiltered none_, heard]
  exact ⟨rfl, rfl, rfl⟩

variable (some_ : s.firstFilter bus f = some k)

include some_

theorem State.canDeliver_fifo (fifo : s.canObj bus 0x4122 (k + 1) % 4 = 0) :
    ((s.ctl bus).fifo.length < 32 → ((s.canDeliver bus f g).ctl bus).fifo = (s.ctl bus).fifo ++ [s.recordOf bus f k] ∧
      ((s.canDeliver bus f g).ctl bus).hp = (s.ctl bus).hp) ∧
    (32 ≤ (s.ctl bus).fifo.length → ((s.canDeliver bus f g).ctl bus).fifo = (s.ctl bus).fifo ∧
      ((s.canDeliver bus f g).ctl bus).drops = satAdd 32 (s.ctl bus).drops 1) := by
  obtain ⟨st, rxErr, heard⟩ := State.heard_ctl below
  have same : ((s.heard bus).ctl bus).fifo = (s.ctl bus).fifo := by rw [heard]
  have act : s.canDeliver bus f g = (s.heard bus).fifoPut bus (s.recordOf bus f k) := (State.canDeliver_filtered some_).trans (if_pos fifo)
  rw [act]
  refine ⟨fun room => ?_, fun full => ?_⟩
  · rw [State.fifoPut_room (by rwa [same]), heard]
    exact ⟨rfl, rfl⟩
  · rw [State.fifoPut_full (by rwa [same]), heard]
    exact ⟨rfl, rfl⟩

omit below in
theorem State.canDeliver_hp (high : s.canObj bus 0x4122 (k + 1) % 4 = 1) :
    s.canDeliver bus f g = (s.heard bus).hpPut bus (s.recordOf bus f k) g :=
  (State.canDeliver_filtered some_).trans ((if_neg (by omega)).trans (if_pos high))

theorem State.canDeliver_hp_now (high : s.canObj bus 0x4122 (k + 1) % 4 = 1) (now : g = false) :
    let w := (s.canDeliver bus f g).ctl bus
    w.hp = some (s.recordOf bus f k) ∧ w.hpNew = true ∧ w.fifo = (s.ctl bus).fifo ∧
      ((s.ctl bus).hpPend = none → (s.ctl bus).hpNew = true → w.hpOver = true) := by
  subst now
  obtain ⟨st, rxErr, heard⟩ := State.heard_ctl below
  obtain ⟨h, n, p, l, promoted⟩ := ((s.heard bus).ctl bus).hpPromote_eq (s.heard bus).now
  obtain ⟨m, put⟩ := State.hpPut_now (s := s.heard bus) (bus := bus) (r := s.recordOf bus f k)
  rw [State.canDeliver_hp some_ high, put]
  refine ⟨rfl, rfl, ?_, fun none_ new => ?_⟩
  · rw [promoted, heard]
  · rw [CanCtl.hpPromote_none (by rw [heard]; exact none_), heard]
    simp [new]

theorem State.canDeliver_hp_latched (high : s.canObj bus 0x4122 (k + 1) % 4 = 1) (latched : g = true) (none_ : (s.ctl bus).hpPend = none) :
    let w := (s.canDeliver bus f g).ctl bus
    w.hpPend = some (s.recordOf bus f k) ∧ w.hp = (s.ctl bus).hp ∧ w.hpNew = (s.ctl bus).hpNew ∧ w.fifo = (s.ctl bus).fifo := by
  subst latched
  obtain ⟨st, rxErr, heard⟩ := State.heard_ctl below
  obtain ⟨m, l, put⟩ := State.hpPut_latched (s := s.heard bus) (bus := bus) (r := s.recordOf bus f k)
  rw [State.canDeliver_hp some_ high, put, CanCtl.hpPromote_none (by rw [heard]; exact none_), heard]
  exact ⟨rfl, rfl, rfl, rfl⟩

theorem State.canDeliver_dropped (other : 2 ≤ s.canObj bus 0x4122 (k + 1) % 4) :
    ((s.canDeliver bus f g).ctl bus).fifo = (s.ctl bus).fifo ∧ ((s.canDeliver bus f g).ctl bus).hp = (s.ctl bus).hp := by
  obtain ⟨st, rxErr, heard⟩ := State.heard_ctl below
  have act : s.canDeliver bus f g = s.heard bus := (State.canDeliver_filtered some_).trans ((if_neg (by omega)).trans (if_neg (by omega)))
  rw [act, heard]
  exact ⟨rfl, rfl⟩

end

/-- Settles O58: each command by what it makes of its controller or of the Bellwether's record. -/
theorem controllersAndTimeMasterRun : Obligations.ControllersAndTimeMasterRun := by
  intro s dt bus c u x l at_ put on lt
  refine ⟨fun b small => ?_, fun h => ?_, fun free sends some_ => ?_, fun idle o => ?_, fun k b cur buf => ?_, fun k cur buf o => ?_, ?_, ?_, fun acc => ?_,
    fun acc => ?_, fun acc => ?_, ?_, fun acc => ?_, fun other => ?_, fun recovers => ?_, fun other => ?_, fun integrates => ?_, ?_, ?_, fun f => ?_,
    fun v f d => ?_, fun v a m a0 m0 last => ?_, fun v f slave => ?_, ?_, ?_⟩
  · intro ix fl y bad
    refine ⟨fun acc => ⟨fun busy => ?_, fun n1 n2 form => ?_, fun n1 n2 form => ?_⟩, fun acc => ⟨fun n1 n2 => ?_, fun waits => ?_, fun sends => ?_⟩⟩
    · have run := exec_txRequest s lt small acc
      rwa [State.txRequest_busy busy] at run
    · have run := exec_txRequest s lt small acc
      rwa [State.txRequest_bad (not_or.mpr ⟨n1, n2⟩) form] at run
    · obtain ⟨w, taken, ctl⟩ := State.txRequest_good (s := u) (bus := bus) (b := b) (not_or.mpr ⟨n1, n2⟩) form
      have run := exec_txRequest s lt small acc
      rw [taken] at run
      obtain ⟨t, is, same, -⟩ := finish_answer_can s w c (key ix 5) abOk []
      exact ⟨t, run.trans is, congrArg CanCtl.bufs ((congrFun same bus).trans ctl)⟩
    · have run := exec_txAbort s lt small acc
      rwa [State.txAbort_idle (not_or.mpr ⟨n1, n2⟩)] at run
    · obtain ⟨t, is, same, -⟩ := finish_answer_can s (u.txAbort bus b) c (key ix 5) abOk []
      exact ⟨t, (exec_txAbort s lt small acc).trans is, congrArg CanCtl.bufs ((congrFun same bus).trans (State.txAbort_waiting waits))⟩
    · obtain ⟨t, is, same, -⟩ := finish_answer_can s (u.txAbort bus b) c (key ix 5) abOk []
      exact ⟨t, (exec_txAbort s lt small acc).trans is, congrArg CanCtl.bufs ((congrFun same bus).trans (State.txAbort_sending sends))⟩
  · exact (exec_txChoice s on lt).trans (congrArg (finish s) (State.txChoice_none h))
  · obtain ⟨q, chosen, mem, rank, first⟩ := State.chosenSource_some some_
    obtain ⟨cur, host, device⟩ := State.txChoice_starts free sends chosen
    obtain ⟨t, is, ctl, -⟩ := next_can (exec_txChoice s on lt)
    rw [ctl] at cur host device
    exact ⟨t, q, is, mem, cur, rank, first, host, device⟩
  · exact (exec_frameEnd s on lt o).trans (congrArg (finish s) (State.frameEnds_idle idle o))
  · intro y
    have ends (o : FrameOutcome) := next_can (exec_frameEnd_host s on lt cur buf o)
    refine ⟨fun tdc => ?_, ?_, fun e ph => ?_⟩
    · obtain ⟨t, is, ctl, -⟩ := ends (.sent tdc)
      have spec := State.frameEnd_sent_ctl cur buf tdc
      rw [ctl] at spec
      exact ⟨t, is, spec⟩
    · obtain ⟨t, is, ctl, -⟩ := ends .lostArbitration
      have spec := State.frameEnd_lost_ctl cur buf
      rw [ctl] at spec
      exact ⟨t, is, spec⟩
    · obtain ⟨t, is, ctl, -⟩ := ends (.error e ph)
      have spec := State.frameEnd_error_ctl cur buf e ph
      rw [ctl] at spec
      exact ⟨t, is, spec⟩
  · exact ⟨_, exec_frameEnd s on lt o, State.frameEnds_device cur buf o⟩
  · intro hears
    refine ⟨fun deaf => ⟨fun f g => congrArg (finish s) (State.frameIn_deaf deaf f g), fun e ph => ?_⟩, fun hear => ⟨fun f g => ?_, fun e ph below => ?_⟩⟩
    · exact (exec_canReceiveError s on lt e ph).trans (congrArg (finish s) (State.canRxError_deaf deaf e ph))
    · exact congrArg (finish s) (State.frameIn_hears on ((u.canHears_iff bus).mpr hear) f g)
    · exact ⟨_, exec_canReceiveError s on lt e ph, State.canRxError_heard hear e ph below⟩
  · intro v f g y w r below
    obtain ⟨rxd, bufs, tec⟩ := State.canDeliver_keeps (f := f) (g := g) below
    exact ⟨rxd, bufs, tec, State.canDeliver_nowhere below, fun k some_ =>
      ⟨fun fifo => (State.canDeliver_fifo below some_ fifo).1, fun fifo => (State.canDeliver_fifo below some_ fifo).2,
        State.canDeliver_hp_now below some_, State.canDeliver_hp_latched below some_, State.canDeliver_dropped below some_⟩⟩
  · obtain ⟨t, is, ctl, reply⟩ := finish_answer_can s (u.nextRecord bus) c (key (0x4130 + 0x100 * bus) 3) abOk (recordBytes x.fifo.head?)
    refine ⟨t, _, (congrArg (finish s) (asksRead_nextRecord lt acc)).trans is, ?_, reply, rfl, ?_⟩
    · exact congrArg CanCtl.fifo ((congrFun ctl bus).trans (State.ctl_setCtl ..))
    · cases x.fifo with
      | nil => exact recordBytes_none
      | cons r _ => exact recordBytes_some r
  · intro y
    obtain ⟨t, is, ctl, reply⟩ := finish_answer_can s (u.hpRead bus) c (key (0x4131 + 0x100 * bus) 2) abOk (recordBytes y.hp)
    have read : t.ctl bus = { y with hpNew := false } := (congrFun ctl bus).trans (State.ctl_setCtl ..)
    refine ⟨t, _, (congrArg (finish s) (asksRead_hpRecord lt acc)).trans is, by rw [read], by rw [read], by rw [read], reply, rfl, ?_⟩
    cases y.hp with
    | none => exact recordBytes_none
    | some r => exact recordBytes_some r
  · exact congrArg (finish s) (asksWrite_clearOverrun lt acc)
  · intro due
    exact ⟨fun d => (exec_recoveryDelay s on lt).trans (congrArg (finish s) (State.recoveryDelay_due d)),
      fun early => (exec_recoveryDelay s on lt).trans (congrArg (finish s) (State.recoveryDelay_early early))⟩
  · intro may
    have run : exec (.recover dt c bus) s = _ := congrArg (finish s) (asksWrite_recover lt acc)
    exact ⟨fun m => by rwa [State.recover_may m] at run, fun no => by rwa [State.recover_not no] at run⟩
  · exact (exec_busRecovered s on lt).trans (congrArg (finish s) (State.busRecovered_other other))
  · exact ⟨_, exec_busRecovered s on lt, State.busRecovered_runs lt recovers⟩
  · exact (exec_integrated s on lt).trans (congrArg (finish s) (State.canIntegrated_other other))
  · exact ⟨_, exec_integrated s on lt, State.canIntegrated_runs lt integrates⟩
  · intro idle
    exact ⟨fun stays => (exec_canClockRc s on lt).trans (congrArg (finish s) (State.canClock_stays lt stays)),
      fun moves => ⟨_, exec_canClockRc s on lt, State.canClock_moves lt moves⟩⟩
  · intro due
    have run := exec_ref s on
    refine ⟨fun early => run.trans (congrArg (finish s) (State.bellRef_early early)), fun d mute => ⟨_, run, State.bellRef_mute d mute⟩, fun d sends => ?_⟩
    obtain ⟨seq, outstanding, sentAt, first, queue⟩ := State.bellRef_requests d sends
    obtain ⟨t, is, ctl, bell⟩ := next_can run
    refine ⟨t, is, ?_⟩
    rw [← ctl, ← bell]
    exact ⟨seq, outstanding, sentAt, first, fun empty => ⟨u.dueRef, queue empty, u.dueRef_spec⟩⟩
  · exact ⟨finish_bellTakes s on f 1, finish_bellTakes s on f 2⟩
  · intro w prio own
    by_cases master : v.bell.st = 3
    · obtain ⟨⟨refs, refAt, seen⟩, yields⟩ := v.bellRefRx_yields f d master
      exact ⟨refs, refAt, seen, fun _ => yields, fun slave => absurd master slave⟩
    · have same := v.bellRefRx_slave f d master
      exact ⟨same.refs, same.refAt, same.seen, fun is => absurd is master, fun _ => ⟨same.inst, same.seq, same.utc⟩⟩
  · intro w good
    by_cases g : good
    · obtain ⟨fl, n, is⟩ := State.bellPair_good last g
      rw [show w.bell = _ from is]
      refine ⟨rfl, fun _ => ⟨rfl, rfl, fun high => ?_⟩, fun bad => absurd g bad⟩
      simp [high]
    · rw [show w = _ from State.bellPair_bad last g]
      exact ⟨rfl, fun is => absurd is g, fun _ => ⟨rfl, rfl, rfl⟩⟩
  · obtain ⟨pair, last, is⟩ := v.bellEpochRx_slave f slave
    intro w
    rw [show w.bell = _ from is]
    exact ⟨rfl, fun rate => by simp [rate], fun none_ => by simp [none_]⟩
  · intro p due
    refine ⟨fun early => (exec_masterTaken s on).trans (congrArg (finish s) (State.bellTake_early early)), fun d => ?_⟩
    have is := State.bellTake_due d
    exact ⟨_, exec_masterTaken s on, congrArg Bell.st is, congrArg Bell.valid is, congrArg Bell.first is, congrArg Bell.mBase is⟩
  · intro due
    refine ⟨fun early => (exec_refTimeout s on).trans (congrArg (finish s) (State.bellTimeout_early early)), fun d => ?_⟩
    have is := State.bellTimeout_late d
    exact ⟨_, exec_refTimeout s on, congrArg Bell.st is, congrArg Bell.valid is, congrArg Bell.rate is⟩

end Sys2Proof.Machine
end


section
/-! SUPPORT. The lifecycle record under the operations of the store, the timers and the CAN unit: none of them writes it (R470). -/

namespace Sys2Proof.Machine
open Sys2Proof

/-! ## Branches and repetitions -/

@[simp] theorem ite_rr_lifecycle (p : Prop) [Decidable p] (a b : State) :
    (if p then a else b).rr.lifecycle = if p then a.rr.lifecycle else b.rr.lifecycle :=
  apply_ite (·.rr.lifecycle) p a b

@[simp] theorem ite_fst_rr_lifecycle {α : Type} (p : Prop) [Decidable p] (a b : State × α) :
    (if p then a else b).1.rr.lifecycle = if p then a.1.rr.lifecycle else b.1.rr.lifecycle :=
  apply_ite (·.1.rr.lifecycle) p a b

@[simp] theorem ReRam.ite_lifecycle (p : Prop) [Decidable p] (a b : ReRam) : (if p then a else b).lifecycle = if p then a.lifecycle else b.lifecycle :=
  apply_ite _ p a b

/-- Both branches of a choice keep the record; for choices whose branches are shown one by one. -/
theorem keeps_ite {p : Prop} [Decidable p] {a b : State} {l : Nat} (ha : a.rr.lifecycle = l) (hb : b.rr.lifecycle = l) :
    (if p then a else b).rr.lifecycle = l := by
  split
  · exact ha
  · exact hb

theorem keeps_ite_fst {α : Type} {p : Prop} [Decidable p] {a b : State × α} {l : Nat} (ha : a.1.rr.lifecycle = l) (hb : b.1.rr.lifecycle = l) :
    (if p then a else b).1.rr.lifecycle = l := by
  split
  · exact ha
  · exact hb

theorem foldl_rr_lifecycle {α : Type} {f : State → α → State} (h : ∀ t x, (f t x).rr.lifecycle = t.rr.lifecycle) (l : List α) (s : State) :
    (l.foldl f s).rr.lifecycle = s.rr.lifecycle := by
  induction l generalizing s with
  | nil => rfl
  | cons x l ih => exact (ih _).trans (h s x)

theorem times_rr_lifecycle {f : State → State} (h : ∀ t, (f t).rr.lifecycle = t.rr.lifecycle) (n : Nat) (s : State) :
    (times f n s).rr.lifecycle = s.rr.lifecycle := by
  induction n generalizing s with
  | zero => rfl
  | succ n ih => exact (ih _).trans (h s)

@[simp] theorem ReRam.setArea_lifecycle (r : ReRam) (n : Nat) (x : Area) : (r.setArea n x).lifecycle = r.lifecycle := by simp [ReRam.setArea]

@[simp] theorem ReRam.setBank_lifecycle (r : ReRam) (n : Nat) (b : FwBank) : (r.setBank n b).lifecycle = r.lifecycle := by simp [ReRam.setBank]

/-! ## The ReRAM store -/

@[simp] theorem State.commitObj_rr_lifecycle (s : State) (ix sub v : Nat) : (s.commitObj ix sub v).rr.lifecycle = s.rr.lifecycle := by
  unfold State.commitObj
  split <;> simp

@[simp] theorem State.remap_rr_lifecycle (s : State) (o : NvOp) : (s.remap o).rr.lifecycle = s.rr.lifecycle := by
  unfold State.remap
  (repeat' split) <;> simp

@[simp] theorem State.counterStore_rr_lifecycle (s : State) (c amount : Nat) : (s.counterStore c amount).rr.lifecycle = s.rr.lifecycle := by
  simp [State.counterStore]

@[simp] theorem State.counterRefuse_rr_lifecycle (s : State) (c : Nat) : (s.counterRefuse c).rr.lifecycle = s.rr.lifecycle := by
  simp [State.counterRefuse]

@[simp] theorem State.pendAdd_rr_lifecycle (s : State) (c amount : Nat) : (s.pendAdd c amount).rr.lifecycle = s.rr.lifecycle := rfl

@[simp] theorem State.increment_rr_lifecycle (s : State) (c amount : Nat) : (s.increment c amount).rr.lifecycle = s.rr.lifecycle := by
  simp [State.increment]

@[simp] theorem State.nvEffect_rr_lifecycle (s : State) (o : NvOp) : (s.nvEffect o).rr.lifecycle = s.rr.lifecycle := by
  unfold State.nvEffect
  split <;> simp

@[simp] theorem State.fenceSay_rr_lifecycle (s : State) : s.fenceSay.rr.lifecycle = s.rr.lifecycle := by
  unfold State.fenceSay
  split <;> simp

@[simp] theorem State.programComplete_rr_lifecycle (s : State) (failed : Nat) : (s.programComplete failed).rr.lifecycle = s.rr.lifecycle := by
  unfold State.programComplete
  split <;> simp

@[simp] theorem State.fenceRise_rr_lifecycle (s : State) (rail mv : Nat) : (s.fenceRise rail mv).rr.lifecycle = s.rr.lifecycle := by
  unfold State.fenceRise
  (repeat' split) <;> simp

@[simp] theorem State.storePending_rr_lifecycle (s : State) : s.storePending.rr.lifecycle = s.rr.lifecycle := by
  simp +contextual [State.storePending, foldl_rr_lifecycle]

@[simp] theorem State.fenceLift_rr_lifecycle (s : State) : s.fenceLift.rr.lifecycle = s.rr.lifecycle := by
  unfold State.fenceLift
  split <;> simp

@[simp] theorem State.compactHeld_rr_lifecycle (s : State) : s.compactHeld.rr.lifecycle = s.rr.lifecycle := by simp [State.compactHeld]

/-! ## Timers -/

@[simp] theorem State.setTimer_rr_lifecycle (s : State) (n : Nat) (t : Timer) : (s.setTimer n t).rr.lifecycle = s.rr.lifecycle := rfl

@[simp] theorem State.timersStart_rr_lifecycle (s : State) : s.timersStart.rr.lifecycle = s.rr.lifecycle := rfl

@[simp] theorem State.timerEvent_rr_lifecycle (s : State) (n code param : Nat) (enabled : Bool) :
    (s.timerEvent n code param enabled).rr.lifecycle = s.rr.lifecycle := by
  simp [State.timerEvent]

@[simp] theorem State.captureAt_rr_lifecycle (s : State) (n clk : Nat) : (s.captureAt n clk).rr.lifecycle = s.rr.lifecycle := by
  simp [State.captureAt]

@[simp] theorem State.captureNow_rr_lifecycle (s : State) (n : Nat) : (s.captureNow n).rr.lifecycle = s.rr.lifecycle := by simp [State.captureNow]

@[simp] theorem State.captureLatch_rr_lifecycle (s : State) (n : Nat) : (s.captureLatch n).rr.lifecycle = s.rr.lifecycle := by
  simp [State.captureLatch]

@[simp] theorem State.linkAct_rr_lifecycle (s : State) (n j : Nat) : (s.linkAct n j).rr.lifecycle = s.rr.lifecycle := by simp [State.linkAct]

@[simp] theorem State.matchOnce_rr_lifecycle (s : State) (n : Nat) : (s.matchOnce n).rr.lifecycle = s.rr.lifecycle := by
  simp +contextual [State.matchOnce, foldl_rr_lifecycle]

@[simp] theorem State.afterMatch_rr_lifecycle (s : State) (n : Nat) : (s.afterMatch n).rr.lifecycle = s.rr.lifecycle := by simp [State.afterMatch]

@[simp] theorem State.tickMatch_rr_lifecycle (s : State) (n : Nat) : (s.tickMatch n).rr.lifecycle = s.rr.lifecycle := by simp [State.tickMatch]

@[simp] theorem State.timerOverflow_rr_lifecycle (s : State) (n : Nat) : (s.timerOverflow n).rr.lifecycle = s.rr.lifecycle := by
  simp [State.timerOverflow]

@[simp] theorem State.compareWrite_rr_lifecycle (s : State) (n v : Nat) (tickClock : Bool) :
    (s.compareWrite n v tickClock).rr.lifecycle = s.rr.lifecycle := by
  simp [State.compareWrite]

@[simp] theorem State.timerCmd_rr_lifecycle (s : State) (n code : Nat) : (s.timerCmd n code).rr.lifecycle = s.rr.lifecycle := by simp [State.timerCmd]

@[simp] theorem State.groupCmd_rr_lifecycle (s : State) (code mask : Nat) : (s.groupCmd code mask).1.rr.lifecycle = s.rr.lifecycle := by
  simp +contextual [State.groupCmd, foldl_rr_lifecycle]

@[simp] theorem State.linkSnapshot_rr_lifecycle (s : State) (n k : Nat) : (s.linkSnapshot n k).rr.lifecycle = s.rr.lifecycle := by
  unfold State.linkSnapshot
  split
  · simp
  · exact foldl_rr_lifecycle (fun t j => t.setTimer_rr_lifecycle ..) _ s

@[simp] theorem State.countWrite_rr_lifecycle (s : State) (n v : Nat) : (s.countWrite n v).1.rr.lifecycle = s.rr.lifecycle := by
  simp [State.countWrite]

@[simp] theorem State.timerClear_rr_lifecycle (s : State) (n mask : Nat) : (s.timerClear n mask).rr.lifecycle = s.rr.lifecycle := rfl

@[simp] theorem State.captureRead_rr_lifecycle (s : State) (n : Nat) : (s.captureRead n).rr.lifecycle = s.rr.lifecycle := rfl

@[simp] theorem State.captureAll_rr_lifecycle (s : State) (srcCode : Nat) : (s.captureAll srcCode).rr.lifecycle = s.rr.lifecycle := by
  simp +contextual [State.captureAll, foldl_rr_lifecycle]

/-! ## CAN controllers -/

@[simp] theorem State.setCtl_rr_lifecycle (s : State) (bus : Nat) (x : CanCtl) : (s.setCtl bus x).rr.lifecycle = s.rr.lifecycle := by
  simp [State.setCtl]

@[simp] theorem State.canQueue_rr_lifecycle (s : State) (bus : Nat) (f : DevFrame) : (s.canQueue bus f).rr.lifecycle = s.rr.lifecycle := by
  simp [State.canQueue]

@[simp] theorem State.txEvent_rr_lifecycle (s : State) (bus b : Nat) : (s.txEvent bus b).rr.lifecycle = s.rr.lifecycle := by simp [State.txEvent]

@[simp] theorem State.txRequest_rr_lifecycle (s : State) (bus b : Nat) : (s.txRequest bus b).1.rr.lifecycle = s.rr.lifecycle := by
  simp [State.txRequest]

@[simp] theorem State.txAbort_rr_lifecycle (s : State) (bus b : Nat) : (s.txAbort bus b).rr.lifecycle = s.rr.lifecycle := by simp [State.txAbort]

@[simp] theorem State.txChoice_rr_lifecycle (s : State) (bus : Nat) : (s.txChoice bus).rr.lifecycle = s.rr.lifecycle := by
  fun_cases State.txChoice <;> simp

@[simp] theorem State.canCounts_rr_lifecycle (s : State) (bus tec rec : Nat) : (s.canCounts bus tec rec).rr.lifecycle = s.rr.lifecycle := by
  simp +contextual [State.canCounts, foldl_rr_lifecycle]

@[simp] theorem State.frameEnd_rr_lifecycle (s : State) (bus : Nat) (o : FrameOutcome) : (s.frameEnd bus o).rr.lifecycle = s.rr.lifecycle := by
  unfold State.frameEnd
  dsimp only
  (repeat' split) <;> simp

@[simp] theorem State.fifoPut_rr_lifecycle (s : State) (bus : Nat) (r : RxRec) : (s.fifoPut bus r).rr.lifecycle = s.rr.lifecycle := by
  simp [State.fifoPut]

@[simp] theorem State.hpPut_rr_lifecycle (s : State) (bus : Nat) (r : RxRec) (latchClock : Bool) :
    (s.hpPut bus r latchClock).rr.lifecycle = s.rr.lifecycle := by
  simp [State.hpPut]

@[simp] theorem State.canDeliver_rr_lifecycle (s : State) (bus : Nat) (f : CanFrame) (latchClock : Bool) :
    (s.canDeliver bus f latchClock).rr.lifecycle = s.rr.lifecycle := by
  unfold State.canDeliver
  split <;> simp

@[simp] theorem State.canRxError_rr_lifecycle (s : State) (bus code : Nat) (dataPhase : Bool) :
    (s.canRxError bus code dataPhase).rr.lifecycle = s.rr.lifecycle := by
  simp [State.canRxError]

@[simp] theorem State.recoveryDelay_rr_lifecycle (s : State) (bus : Nat) : (s.recoveryDelay bus).rr.lifecycle = s.rr.lifecycle := by
  simp [State.recoveryDelay]

@[simp] theorem State.recover_rr_lifecycle (s : State) (bus : Nat) : (s.recover bus).1.rr.lifecycle = s.rr.lifecycle := by simp [State.recover]

@[simp] theorem State.busRecovered_rr_lifecycle (s : State) (bus : Nat) : (s.busRecovered bus).rr.lifecycle = s.rr.lifecycle := by
  simp [State.busRecovered]

@[simp] theorem State.canIntegrated_rr_lifecycle (s : State) (bus : Nat) : (s.canIntegrated bus).rr.lifecycle = s.rr.lifecycle := by
  simp [State.canIntegrated]

@[simp] theorem State.canClock_rr_lifecycle (s : State) (bus : Nat) : (s.canClock bus).rr.lifecycle = s.rr.lifecycle := by simp [State.canClock]

@[simp] theorem State.canStart_rr_lifecycle (s : State) (bus : Nat) : (s.canStart bus).rr.lifecycle = s.rr.lifecycle := by simp [State.canStart]

@[simp] theorem State.canStop_rr_lifecycle (s : State) (bus : Nat) : (s.canStop bus).rr.lifecycle = s.rr.lifecycle := by simp [State.canStop]

/-! ## The Bellwether -/

@[simp] theorem State.bellValid_rr_lifecycle (s : State) (v : Bool) : (s.bellValid v).rr.lifecycle = s.rr.lifecycle := by simp [State.bellValid]

@[simp] theorem State.bellStep_rr_lifecycle (s : State) (us : ℤ) : (s.bellStep us).rr.lifecycle = s.rr.lifecycle := by simp [State.bellStep]

@[simp] theorem State.bellTakeConf_rr_lifecycle (s : State) : s.bellTakeConf.rr.lifecycle = s.rr.lifecycle := by simp [State.bellTakeConf]

@[simp] theorem State.bellStart_rr_lifecycle (s : State) : s.bellStart.rr.lifecycle = s.rr.lifecycle := by simp [State.bellStart]

@[simp] theorem State.bellListen_rr_lifecycle (s : State) : s.bellListen.rr.lifecycle = s.rr.lifecycle := by simp [State.bellListen]

@[simp] theorem State.bellReconf_rr_lifecycle (s : State) : s.bellReconf.rr.lifecycle = s.rr.lifecycle := by simp [State.bellReconf]

@[simp] theorem State.bellCapture_rr_lifecycle (s : State) (clk : Nat) : (s.bellCapture clk).rr.lifecycle = s.rr.lifecycle := by
  simp +contextual [State.bellCapture, foldl_rr_lifecycle]

@[simp] theorem State.bellClockLost_rr_lifecycle (s : State) : s.bellClockLost.rr.lifecycle = s.rr.lifecycle := by simp [State.bellClockLost]

@[simp] theorem State.bellSlew_rr_lifecycle (s : State) : s.bellSlew.rr.lifecycle = s.rr.lifecycle := by simp [State.bellSlew]

@[simp] theorem State.bellRef_rr_lifecycle (s : State) : s.bellRef.rr.lifecycle = s.rr.lifecycle := by simp [State.bellRef]

@[simp] theorem State.bellSent_rr_lifecycle (s : State) (epoch : Bool) (start : Nat) : (s.bellSent epoch start).rr.lifecycle = s.rr.lifecycle := by
  simp [State.bellSent]

@[simp] theorem State.bellYield_rr_lifecycle (s : State) (other : Nat) : (s.bellYield other).rr.lifecycle = s.rr.lifecycle := by
  simp [State.bellYield]

@[simp] theorem State.bellPair_rr_lifecycle (s : State) (l m : Nat) : (s.bellPair l m).rr.lifecycle = s.rr.lifecycle := by
  simp [State.bellPair]; split <;> simp

@[simp] theorem State.bellRefRx_rr_lifecycle (s : State) (f : CanFrame) (drawn : Nat) : (s.bellRefRx f drawn).rr.lifecycle = s.rr.lifecycle := by
  simp [State.bellRefRx]; split <;> simp

@[simp] theorem State.bellEpochRx_rr_lifecycle (s : State) (f : CanFrame) : (s.bellEpochRx f).rr.lifecycle = s.rr.lifecycle := by
  simp [State.bellEpochRx]

@[simp] theorem State.bellTake_rr_lifecycle (s : State) : s.bellTake.rr.lifecycle = s.rr.lifecycle := by simp [State.bellTake]

@[simp] theorem State.bellTimeout_rr_lifecycle (s : State) : s.bellTimeout.rr.lifecycle = s.rr.lifecycle := by simp [State.bellTimeout]

end Sys2Proof.Machine
end


section
/-! SUPPORT. The lifecycle record under the operations of the generator, the engines, the journal and the distance timebase: none
writes it (R470). -/

namespace Sys2Proof.Machine
open Sys2Proof

/-! ## The random number generator -/

theorem State.draw_rr_lifecycle {s t : State} {ch n : Nat} {b : Bytes} (h : s.draw ch n = some (t, b)) : t.rr.lifecycle = s.rr.lifecycle := by
  unfold State.draw at h
  split at h
  · cases h
  · cases h
    rfl

@[simp] theorem State.rngFailWaits_rr_lifecycle (s : State) (n : Nat) : (s.rngFailWaits n).rr.lifecycle = s.rr.lifecycle := by
  unfold State.rngFailWaits
  exact foldl_rr_lifecycle (fun t w => by rw [State.answer_rr]) _ _

@[simp] theorem State.rngFail_rr_lifecycle (s : State) (code src : Nat) : (s.rngFail code src).rr.lifecycle = s.rr.lifecycle := by
  simp [State.rngFail]

@[simp] theorem State.rngOffer_rr_lifecycle (s : State) (bytes : Bytes) : (s.rngOffer bytes).rr.lifecycle = s.rr.lifecycle := rfl

@[simp] theorem State.rngBlock_rr_lifecycle (s : State) (b : RawBlock) : (s.rngBlock b).rr.lifecycle = s.rr.lifecycle := by simp [State.rngBlock]

@[simp] theorem State.rngRestarted_rr_lifecycle (s : State) : s.rngRestarted.rr.lifecycle = s.rr.lifecycle := by simp [State.rngRestarted]

@[simp] theorem State.randomRead_rr_lifecycle (s : State) : s.randomRead.1.rr.lifecycle = s.rr.lifecycle := by
  unfold State.randomRead
  repeat' split
  · rfl
  · next h => have kept := State.draw_rr_lifecycle h; exact kept
  · rfl

@[simp] theorem State.rngStartUp_rr_lifecycle (s : State) : s.rngStartUp.rr.lifecycle = s.rr.lifecycle := rfl

@[simp] theorem State.testPattern_rr_lifecycle (s : State) (sub v : Nat) : (s.testPattern sub v).rr.lifecycle = s.rr.lifecycle := by
  simp [State.testPattern]

/-! ## Key slots -/

@[simp] theorem State.ran_rr_lifecycle (s : State) (n : Nat) : (s.ran n).rr.lifecycle = s.rr.lifecycle := rfl

@[simp] theorem State.putBacking_rr_lifecycle (s : State) (n : Nat) (b : Slot) : (s.putBacking n b).rr.lifecycle = s.rr.lifecycle := rfl

@[simp] theorem State.putKey_rr_lifecycle (s : State) (n : Nat) (x : Slot) : (s.putKey n x).rr.lifecycle = s.rr.lifecycle := by simp [State.putKey]

@[simp] theorem State.eraseKey_rr_lifecycle (s : State) (n : Nat) : (s.eraseKey n).rr.lifecycle = s.rr.lifecycle := by simp [State.eraseKey]

@[simp] theorem State.applyMarks_rr_lifecycle (s : State) : s.applyMarks.rr.lifecycle = s.rr.lifecycle := by
  unfold State.applyMarks
  split
  · rfl
  · exact foldl_rr_lifecycle (fun t n => t.putBacking_rr_lifecycle n _) _ s

@[simp] theorem State.applyStale_rr_lifecycle (s : State) : s.applyStale.rr.lifecycle = s.rr.lifecycle := by
  unfold State.applyStale
  split
  · rfl
  · exact foldl_rr_lifecycle (fun t n => t.putBacking_rr_lifecycle n _) _ s

@[simp] theorem State.keyCorrupt_rr_lifecycle (s : State) (n : Nat) : (s.keyCorrupt n).rr.lifecycle = s.rr.lifecycle := by simp [State.keyCorrupt]

@[simp] theorem State.keyStart_rr_lifecycle (s : State) (fails : List Nat) : (s.keyStart fails).rr.lifecycle = s.rr.lifecycle := by
  simp +contextual [State.keyStart, foldl_rr_lifecycle]

/-! ## Credentials -/

@[simp] theorem State.anchorChange_rr_lifecycle (s : State) (r : Bytes) : (s.anchorChange r).1.rr.lifecycle = s.rr.lifecycle := by
  simp [State.anchorChange]

/-! ## The cipher engine -/

@[simp] theorem State.cipherHold_rr_lifecycle (s : State) (c : Client) : (s.cipherHold c).1.rr.lifecycle = s.rr.lifecycle := by
  unfold State.cipherHold
  split <;> simp

@[simp] theorem State.cipherRefuse_rr_lifecycle (s : State) (code : Nat) : (s.cipherRefuse code).rr.lifecycle = s.rr.lifecycle := by
  simp [State.cipherRefuse]

@[simp] theorem State.cipherSubmit_rr_lifecycle (s : State) (c : Client) : (s.cipherSubmit c).1.rr.lifecycle = s.rr.lifecycle := by
  unfold State.cipherSubmit
  split <;> simp

@[simp] theorem State.cipherJobStart_rr_lifecycle (s : State) : s.cipherJobStart.rr.lifecycle = s.rr.lifecycle := by
  unfold State.cipherJobStart
  split <;> simp

@[simp] theorem State.cipherState_rr_lifecycle (s : State) : s.cipherState.rr.lifecycle = s.rr.lifecycle := by simp [State.cipherState]

@[simp] theorem State.coreFault_rr_lifecycle (s : State) (n : Nat) : (s.coreFault n).rr.lifecycle = s.rr.lifecycle := by simp [State.coreFault]

@[simp] theorem State.cipherJobDone_rr_lifecycle (s : State) (n : Nat) (fault : Bool) : (s.cipherJobDone n fault).rr.lifecycle = s.rr.lifecycle := by
  unfold State.cipherJobDone
  split <;> simp

@[simp] theorem State.cipherRevoke_rr_lifecycle (s : State) (n : Nat) : (s.cipherRevoke n).rr.lifecycle = s.rr.lifecycle := by
  unfold State.cipherRevoke
  split <;> simp

@[simp] theorem State.cipherRead_rr_lifecycle (s : State) (c : Client) (out : Bool) : (s.cipherRead c out).rr.lifecycle = s.rr.lifecycle := by
  simp [State.cipherRead]

@[simp] theorem State.cipherTimeout_rr_lifecycle (s : State) : s.cipherTimeout.rr.lifecycle = s.rr.lifecycle := by simp [State.cipherTimeout]

@[simp] theorem State.cipherStart_rr_lifecycle (s : State) (fails : List Nat) : (s.cipherStart fails).rr.lifecycle = s.rr.lifecycle := by
  simp +contextual [State.cipherStart, foldl_rr_lifecycle]

/-! ## The public-key engine -/

@[simp] theorem State.pkHold_rr_lifecycle (s : State) (c : Client) : (s.pkHold c).1.rr.lifecycle = s.rr.lifecycle := by
  unfold State.pkHold
  split <;> simp

@[simp] theorem State.pkEnd_rr_lifecycle (s : State) (code gen : Nat) (sig dig : Bytes) : (s.pkEnd code gen sig dig).rr.lifecycle = s.rr.lifecycle := by
  simp [State.pkEnd]

@[simp] theorem State.pkSubmit_rr_lifecycle (s : State) (c : Client) : (s.pkSubmit c).1.rr.lifecycle = s.rr.lifecycle := by
  unfold State.pkSubmit
  split <;> simp

@[simp] theorem State.pkJobStart_rr_lifecycle (s : State) : s.pkJobStart.rr.lifecycle = s.rr.lifecycle := by
  unfold State.pkJobStart
  split <;> simp

@[simp] theorem State.hashPart_rr_lifecycle (s : State) (j : PkJob) : (s.hashPart j).rr.lifecycle = s.rr.lifecycle := by simp [State.hashPart]

theorem State.nonceExtra_rr_lifecycle {s t : State} {ty : Nat} {b : Bytes} (h : s.nonceExtra ty = some (t, b)) : t.rr.lifecycle = s.rr.lifecycle := by
  unfold State.nonceExtra at h
  split at h
  · cases h; rfl
  · exact State.draw_rr_lifecycle h

@[simp] theorem State.ecdhWrite_rr_lifecycle (s : State) (r : PkRun) : (s.ecdhWrite r).rr.lifecycle = s.rr.lifecycle := by
  unfold State.ecdhWrite
  split <;> simp

@[simp] theorem State.pkJobDone_rr_lifecycle (s : State) (f : Bool) : (s.pkJobDone f).rr.lifecycle = s.rr.lifecycle := by
  unfold State.pkJobDone
  split
  · rfl
  · next r _ =>
    extract_lets j done
    have done_keeps : ∀ t : State, (done t).rr.lifecycle = t.rr.lifecycle := fun t => rfl
    refine keeps_ite (State.hashPart_rr_lifecycle ..) ?_
    split
    · split <;> exact (State.pkEnd_rr_lifecycle ..)
    · refine keeps_ite (keeps_ite rfl (State.ecdhWrite_rr_lifecycle ..)) ?_
      split
      · rfl
      · next q drawn =>
        have kept : q.1.rr.lifecycle = s.rr.lifecycle := (State.nonceExtra_rr_lifecycle drawn :)
        refine keeps_ite ?_ ((State.pkEnd_rr_lifecycle ..).trans kept)
        simp [kept]

@[simp] theorem State.pkRevoke_rr_lifecycle (s : State) (slot : Nat) : (s.pkRevoke slot).1.rr.lifecycle = s.rr.lifecycle := by
  unfold State.pkRevoke
  split <;> simp

@[simp] theorem State.pkRead_rr_lifecycle (s : State) (c : Client) (out : Bool) : (s.pkRead c out).rr.lifecycle = s.rr.lifecycle := by
  simp [State.pkRead]

@[simp] theorem State.pkTimeout_rr_lifecycle (s : State) : s.pkTimeout.rr.lifecycle = s.rr.lifecycle := by simp [State.pkTimeout]

theorem State.ownSign_rr_lifecycle {s t : State} {n : Nat} {m b : Bytes} (h : s.ownSign n m = some (t, b)) : t.rr.lifecycle = s.rr.lifecycle := by
  unfold State.ownSign at h
  dsimp only at h
  split at h
  · cases h
  · split at h
    · cases h
    · next q drawn =>
      cases h
      have kept : q.1.rr.lifecycle = s.rr.lifecycle := State.nonceExtra_rr_lifecycle drawn
      exact (State.ran_rr_lifecycle q.1 n).trans kept

@[simp] theorem State.pkStart_rr_lifecycle (s : State) (kat : Bool) : (s.pkStart kat).rr.lifecycle = s.rr.lifecycle := rfl

/-! ## The journal -/

@[simp] theorem State.takeSeq_rr_lifecycle (s : State) : s.takeSeq.rr.lifecycle = s.rr.lifecycle := rfl

@[simp] theorem State.eraseStart_rr_lifecycle (s : State) : s.eraseStart.rr.lifecycle = s.rr.lifecycle := by
  simp only [State.eraseStart]
  split <;> simp

@[simp] theorem State.programStart_rr_lifecycle (s : State) : s.programStart.rr.lifecycle = s.rr.lifecycle := rfl

@[simp] theorem State.openBlock_rr_lifecycle (s : State) (l : Nat) : (s.openBlock l).rr.lifecycle = s.rr.lifecycle := rfl

@[simp] theorem State.formatEnd_rr_lifecycle (s : State) : s.formatEnd.rr.lifecycle = s.rr.lifecycle := rfl

@[simp] theorem State.formatNext_rr_lifecycle (s : State) (l : Nat) : (s.formatNext l).rr.lifecycle = s.rr.lifecycle := by simp [State.formatNext]

@[simp] theorem State.journalPump_rr_lifecycle (s : State) : s.journalPump.rr.lifecycle = s.rr.lifecycle := by simp [State.journalPump]

@[simp] theorem State.mediumFault_rr_lifecycle (s : State) (cause : Nat) : (s.mediumFault cause).rr.lifecycle = s.rr.lifecycle := by
  simp [State.mediumFault]

@[simp] theorem State.retireBlock_rr_lifecycle (s : State) (l : Nat) : (s.retireBlock l).rr.lifecycle = s.rr.lifecycle := by simp [State.retireBlock]

@[simp] theorem State.programDone_rr_lifecycle (s : State) (loc : Nat) : (s.programDone loc).rr.lifecycle = s.rr.lifecycle := by
  simp [State.programDone]

@[simp] theorem State.eraseDone_rr_lifecycle (s : State) (loc : Nat) : (s.eraseDone loc).rr.lifecycle = s.rr.lifecycle := rfl

@[simp] theorem State.nandDone_rr_lifecycle (s : State) (status : Nat) : (s.nandDone status).rr.lifecycle = s.rr.lifecycle := by
  unfold State.nandDone
  (repeat' split) <;> simp

@[simp] theorem State.nandTimeout_rr_lifecycle (s : State) : s.nandTimeout.rr.lifecycle = s.rr.lifecycle := by
  unfold State.nandTimeout
  split <;> simp

@[simp] theorem State.findHead_rr_lifecycle (s : State) : s.findHead.1.rr.lifecycle = s.rr.lifecycle := by simp [State.findHead]

@[simp] theorem State.sealEarly_rr_lifecycle (s : State) : s.sealEarly.rr.lifecycle = s.rr.lifecycle := by
  simp +contextual [State.sealEarly, foldl_rr_lifecycle]

@[simp] theorem State.mountJournal_rr_lifecycle (s : State) : s.mountJournal.rr.lifecycle = s.rr.lifecycle := by simp [State.mountJournal]

@[simp] theorem State.journalReady_rr_lifecycle (s : State) (o : JournalObs) : (s.journalReady o).rr.lifecycle = s.rr.lifecycle := by
  simp [State.journalReady]

@[simp] theorem State.mediumRetry_rr_lifecycle (s : State) (id : Bytes) : (s.mediumRetry id).rr.lifecycle = s.rr.lifecycle := by
  unfold State.mediumRetry
  split <;> simp

@[simp] theorem State.flushDue_rr_lifecycle (s : State) : s.flushDue.rr.lifecycle = s.rr.lifecycle := by simp [State.flushDue]

@[simp] theorem State.gapFirst_rr_lifecycle (s : State) : s.gapFirst.rr.lifecycle = s.rr.lifecycle := by simp [State.gapFirst]

@[simp] theorem State.writeCheckpoint_rr_lifecycle (s : State) : s.writeCheckpoint.rr.lifecycle = s.rr.lifecycle := by
  unfold State.writeCheckpoint
  refine keeps_ite rfl ?_
  extract_lets s0
  split
  · rfl
  · next q signed =>
    have gap : s0.rr.lifecycle = s.rr.lifecycle := s.gapFirst_rr_lifecycle
    have sign : q.1.rr.lifecycle = s0.rr.lifecycle := State.ownSign_rr_lifecycle signed
    rw [State.emit_rr_lifecycle]
    exact sign.trans gap

@[simp] theorem State.checkpointDue_rr_lifecycle (s : State) : s.checkpointDue.rr.lifecycle = s.rr.lifecycle :=
  keeps_ite s.writeCheckpoint_rr_lifecycle rfl

@[simp] theorem State.parkFlush_rr_lifecycle (s : State) : s.parkFlush.rr.lifecycle = s.rr.lifecycle := s.writeCheckpoint_rr_lifecycle

@[simp] theorem State.format_rr_lifecycle (s : State) (bad : List Nat) : (s.format bad).1.rr.lifecycle = s.rr.lifecycle := by simp [State.format]

@[simp] theorem State.requestExport_rr_lifecycle (s : State) (c : Client) (a b : Nat) : (s.requestExport c a b).1.rr.lifecycle = s.rr.lifecycle := by
  unfold State.requestExport
  refine keeps_ite_fst rfl (keeps_ite_fst rfl ?_)
  exact s.writeCheckpoint_rr_lifecycle

@[simp] theorem State.journalRestart_rr_lifecycle (s : State) : s.journalRestart.rr.lifecycle = s.rr.lifecycle := rfl

@[simp] theorem State.cutProgram_rr_lifecycle (s : State) (power : Bool) : (s.cutProgram power).rr.lifecycle = s.rr.lifecycle := by
  unfold State.cutProgram
  (repeat' split) <;> simp

@[simp] theorem State.journalConf_rr_lifecycle (s : State) : s.journalConf.rr.lifecycle = s.rr.lifecycle := by simp [State.journalConf]

@[simp] theorem State.journalSays_rr_lifecycle (s0 : State) : s0.journalSays.rr.lifecycle = s0.rr.lifecycle := by simp [State.journalSays]

/-! ## Distance, motion sensor and GNSS -/

@[simp] theorem State.setTamper_rr_lifecycle (s : State) (b : Nat) : (s.setTamper b).rr.lifecycle = s.rr.lifecycle := by simp [State.setTamper]

@[simp] theorem State.msImplausible_rr_lifecycle (s : State) (cause : Nat) : (s.msImplausible cause).rr.lifecycle = s.rr.lifecycle := by
  simp [State.msImplausible]

@[simp] theorem State.gnssImplausible_rr_lifecycle (s : State) (cause : Nat) : (s.gnssImplausible cause).rr.lifecycle = s.rr.lifecycle := by
  simp [State.gnssImplausible]

@[simp] theorem State.addPulses_rr_lifecycle (s : State) (n : Nat) : (s.addPulses n).rr.lifecycle = s.rr.lifecycle := by simp [State.addPulses]

@[simp] theorem State.newCoeff_rr_lifecycle (s : State) : s.newCoeff.rr.lifecycle = s.rr.lifecycle := by simp [State.newCoeff]

@[simp] theorem State.msPulse_rr_lifecycle (s : State) : s.msPulse.rr.lifecycle = s.rr.lifecycle := by simp [State.msPulse]

theorem State.condition_rr_lifecycle (s : State) (b : Nat) (holds : Bool) (raise : State → State)
    (hf : ∀ t : State, (raise t).rr.lifecycle = t.rr.lifecycle) :
    (s.condition b holds raise).rr.lifecycle = s.rr.lifecycle := by
  simp [State.condition, hf]

@[simp] theorem State.motionChecks_rr_lifecycle (s : State) : s.motionChecks.rr.lifecycle = s.rr.lifecycle := by
  unfold State.motionChecks
  rw [State.condition_rr_lifecycle, State.condition_rr_lifecycle] <;> simp

@[simp] theorem State.speedUpdate_rr_lifecycle (s : State) : s.speedUpdate.rr.lifecycle = s.rr.lifecycle := by simp [State.speedUpdate]

@[simp] theorem State.linkTo_rr_lifecycle (s : State) (st : Nat) : (s.linkTo st).rr.lifecycle = s.rr.lifecycle := by simp [State.linkTo]

@[simp] theorem State.toPulses_rr_lifecycle (s : State) : s.toPulses.rr.lifecycle = s.rr.lifecycle := by simp [State.toPulses]

@[simp] theorem State.pairingFault_rr_lifecycle (s : State) (cause : Nat) : (s.pairingFault cause).rr.lifecycle = s.rr.lifecycle := by
  simp [State.pairingFault]

@[simp] theorem State.sessionReq_rr_lifecycle (s : State) : s.sessionReq.rr.lifecycle = s.rr.lifecycle := by simp [State.sessionReq]

@[simp] theorem State.msMacFail_rr_lifecycle (s : State) : s.msMacFail.rr.lifecycle = s.rr.lifecycle := by simp [State.msMacFail]

@[simp] theorem State.sessionResp_rr_lifecycle (s : State) (fr : Bytes) : (s.sessionResp fr).rr.lifecycle = s.rr.lifecycle := by
  unfold State.sessionResp
  (repeat' split) <;> simp

@[simp] theorem State.msLost_rr_lifecycle (s : State) : s.msLost.rr.lifecycle = s.rr.lifecycle := by simp [State.msLost]

@[simp] theorem State.dataReq_rr_lifecycle (s : State) : s.dataReq.rr.lifecycle = s.rr.lifecycle := by simp [State.dataReq]

@[simp] theorem State.mismatch_rr_lifecycle (s : State) (d : Nat) : (s.mismatch d).rr.lifecycle = s.rr.lifecycle := by
  unfold State.mismatch
  split
  · rfl
  · extract_lets
    split
    · exact State.msImplausible_rr_lifecycle ..
    · rfl

@[simp] theorem State.dataResp_rr_lifecycle (s : State) (fr : Bytes) : (s.dataResp fr).rr.lifecycle = s.rr.lifecycle := by
  unfold State.dataResp
  dsimp only
  (repeat' split) <;> simp

@[simp] theorem State.parkedPulse_rr_lifecycle (s : State) (levels : List Bool) : (s.parkedPulse levels).rr.lifecycle = s.rr.lifecycle := by
  simp [State.parkedPulse]

@[simp] theorem State.linkStop_rr_lifecycle (s : State) : s.linkStop.rr.lifecycle = s.rr.lifecycle := by simp [State.linkStop]

@[simp] theorem State.gnssStop_rr_lifecycle (s : State) : s.gnssStop.rr.lifecycle = s.rr.lifecycle := by simp [State.gnssStop]

@[simp] theorem State.distStart_rr_lifecycle (s : State) : s.distStart.rr.lifecycle = s.rr.lifecycle := by simp [State.distStart]

@[simp] theorem State.positionChecks_rr_lifecycle (s : State) : s.positionChecks.rr.lifecycle = s.rr.lifecycle := by
  unfold State.positionChecks
  dsimp only
  split
  · rfl
  · rw [ite_rr_lifecycle]
    simp only [State.condition_rr_lifecycle, State.msImplausible_rr_lifecycle, State.gnssImplausible_rr_lifecycle, implies_true, ite_self]

@[simp] theorem State.afterSentence_rr_lifecycle (s : State) : s.afterSentence.rr.lifecycle = s.rr.lifecycle := by simp [State.afterSentence]

@[simp] theorem State.rmc_rr_lifecycle (s : State) (f : List Bytes) : (s.rmc f).rr.lifecycle = s.rr.lifecycle := by
  unfold State.rmc
  extract_lets
  refine keeps_ite (State.afterSentence_rr_lifecycle _) ?_
  rw [State.afterSentence_rr_lifecycle, State.condition_rr_lifecycle]
  simp

@[simp] theorem State.gga_rr_lifecycle (s : State) (f : List Bytes) : (s.gga f).rr.lifecycle = s.rr.lifecycle := by simp [State.gga]

@[simp] theorem State.nmea_rr_lifecycle (s : State) (b : Bytes) : (s.nmea b).rr.lifecycle = s.rr.lifecycle := by
  unfold State.nmea
  refine keeps_ite rfl ?_
  split <;> simp

@[simp] theorem State.gnPps_rr_lifecycle (s : State) : s.gnPps.rr.lifecycle = s.rr.lifecycle := by
  unfold State.gnPps
  split
  · rfl
  · rw [State.condition_rr_lifecycle] <;> simp

@[simp] theorem State.ppsTimeout_rr_lifecycle (s : State) : s.ppsTimeout.rr.lifecycle = s.rr.lifecycle := by
  unfold State.ppsTimeout
  rw [ite_rr_lifecycle, State.condition_rr_lifecycle] <;> simp

@[simp] theorem State.clearTamper_rr_lifecycle (s : State) (mask : Nat) : (s.clearTamper mask).rr.lifecycle = s.rr.lifecycle := rfl

/-! ## The scheduler's due values -/

@[simp] theorem State.schedSnap_rr_lifecycle (s : State) (e : Nat) : (s.schedSnap e).rr.lifecycle = s.rr.lifecycle := by simp [State.schedSnap]

@[simp] theorem State.schedTake_rr_lifecycle (s : State) (e : Nat) : (s.schedTake e).rr.lifecycle = s.rr.lifecycle := by simp [State.schedTake]

@[simp] theorem State.schedStart_rr_lifecycle (s : State) : s.schedStart.rr.lifecycle = s.rr.lifecycle := by
  simp +contextual [State.schedStart, foldl_rr_lifecycle]

end Sys2Proof.Machine
end


section
/-! SUPPORT. The lifecycle record under the operations of the LF field, the radio link and the sessions: none of them writes it (R470). -/

namespace Sys2Proof.Machine
open Sys2Proof

/-! ## The LF controller and Rooster -/

@[simp] theorem State.lfState_rr_lifecycle (s : State) : s.lfState.rr.lifecycle = s.rr.lifecycle := by simp [State.lfState]

@[simp] theorem State.antFault_rr_lifecycle (s : State) (k : Nat) : (s.antFault k).rr.lifecycle = s.rr.lifecycle := by simp [State.antFault]

@[simp] theorem State.chipFault_rr_lifecycle (s : State) (n w : Nat) : (s.chipFault n w).rr.lifecycle = s.rr.lifecycle := by simp [State.chipFault]

@[simp] theorem State.takeStatus_rr_lifecycle (s : State) (n w echo : Nat) (diag : Bool) :
    (s.takeStatus n w echo diag).rr.lifecycle = s.rr.lifecycle := by
  simp [State.takeStatus]

@[simp] theorem State.lfSleep_rr_lifecycle (s : State) : s.lfSleep.rr.lifecycle = s.rr.lifecycle := rfl

@[simp] theorem State.diagnose_rr_lifecycle (s : State) (words : List Word) : (s.diagnose words).rr.lifecycle = s.rr.lifecycle := by
  simp +contextual [State.diagnose, foldl_rr_lifecycle]

@[simp] theorem State.lfStart_rr_lifecycle (s : State) (words : List Word) : (s.lfStart words).rr.lifecycle = s.rr.lifecycle := by
  unfold State.lfStart
  dsimp only
  (repeat' split) <;> simp

@[simp] theorem State.runDiagnostics_rr_lifecycle (s : State) : s.runDiagnostics.rr.lifecycle = s.rr.lifecycle := rfl

@[simp] theorem State.diagnosisRepeat_rr_lifecycle (s : State) (diag : List Word) : (s.diagnosisRepeat diag).rr.lifecycle = s.rr.lifecycle := by
  simp [State.diagnosisRepeat]

@[simp] theorem State.statusRecheck_rr_lifecycle (s : State) (words : List Word) : (s.statusRecheck words).rr.lifecycle = s.rr.lifecycle := by
  simp +contextual [State.statusRecheck, foldl_rr_lifecycle]

@[simp] theorem State.lfSnapshot_rr_lifecycle (s : State) : s.lfSnapshot.rr.lifecycle = s.rr.lifecycle := by simp [State.lfSnapshot]

@[simp] theorem State.sendPoll_rr_lifecycle (s : State) (ants : Nat) (presence : Bool) : (s.sendPoll ants presence).rr.lifecycle = s.rr.lifecycle :=
  rfl

@[simp] theorem State.pollDue_rr_lifecycle (s : State) : s.pollDue.rr.lifecycle = s.rr.lifecycle := by
  unfold State.pollDue
  extract_lets _ _ _ s1 _ _ s2 s3
  have snap : s2.rr.lifecycle = s.rr.lifecycle := State.lfSnapshot_rr_lifecycle _
  have sent : s3.rr.lifecycle = s2.rr.lifecycle := State.sendPoll_rr_lifecycle ..
  exact keeps_ite rfl (keeps_ite rfl (keeps_ite rfl (sent.trans snap)))

@[simp] theorem State.answerEnd_rr_lifecycle (s : State) : s.answerEnd.rr.lifecycle = s.rr.lifecycle := by
  unfold State.answerEnd
  split <;> simp

@[simp] theorem State.muteBegin_rr_lifecycle (s : State) : s.muteBegin.rr.lifecycle = s.rr.lifecycle := by simp [State.muteBegin]

@[simp] theorem State.muteOff_rr_lifecycle (s : State) : s.muteOff.rr.lifecycle = s.rr.lifecycle := by simp [State.muteOff]

@[simp] theorem State.muteTimeout_rr_lifecycle (s : State) : s.muteTimeout.rr.lifecycle = s.rr.lifecycle := by simp [State.muteTimeout]

@[simp] theorem State.setToneStep_rr_lifecycle (s : State) (n : Nat) : (s.setToneStep n).rr.lifecycle = s.rr.lifecycle := by simp [State.setToneStep]

@[simp] theorem State.adaptTones_rr_lifecycle (s : State) (saturated valid : Bool) : (s.adaptTones saturated valid).rr.lifecycle = s.rr.lifecycle := by
  simp [State.adaptTones]

@[simp] theorem State.roosterLock_rr_lifecycle (s : State) : s.roosterLock.rr.lifecycle = s.rr.lifecycle := by simp [State.roosterLock]

@[simp] theorem State.roosterUnlock_rr_lifecycle (s : State) : s.roosterUnlock.rr.lifecycle = s.rr.lifecycle := by simp [State.roosterUnlock]

@[simp] theorem State.roosterRestore_rr_lifecycle (s : State) : s.roosterRestore.rr.lifecycle = s.rr.lifecycle := by simp [State.roosterRestore]

@[simp] theorem State.stopPolling_rr_lifecycle (s : State) : s.stopPolling.rr.lifecycle = s.rr.lifecycle := by simp [State.stopPolling]

@[simp] theorem State.restartPolling_rr_lifecycle (s : State) : s.restartPolling.1.rr.lifecycle = s.rr.lifecycle := by simp [State.restartPolling]

@[simp] theorem State.demand_rr_lifecycle (s : State) : s.demand.rr.lifecycle = s.rr.lifecycle := by simp [State.demand]

theorem State.freshNonce_rr_lifecycle {s t : State} {b : Bytes} (h : s.freshNonce = some (t, b)) : t.rr.lifecycle = s.rr.lifecycle := by
  unfold State.freshNonce at h
  repeat' split at h
  · exact State.draw_rr_lifecycle h
  all_goals cases h
  · rfl

@[simp] theorem State.telegramStart_rr_lifecycle (s : State) (n : Nat) : (s.telegramStart n).rr.lifecycle = s.rr.lifecycle := by
  unfold State.telegramStart
  refine keeps_ite rfl ?_
  split
  · rfl
  · next t nonce drawn =>
    have kept : t.rr.lifecycle = s.lfSnapshot.rr.lifecycle := State.freshNonce_rr_lifecycle drawn
    rw [State.captureAll_rr_lifecycle]
    exact kept.trans s.lfSnapshot_rr_lifecycle

@[simp] theorem State.toneNext_rr_lifecycle (s : State) : s.toneNext.rr.lifecycle = s.rr.lifecycle := by
  unfold State.toneNext
  split <;> simp

@[simp] theorem State.replyOpen_rr_lifecycle (s : State) : s.replyOpen.rr.lifecycle = s.rr.lifecycle := by
  unfold State.replyOpen
  split <;> simp

@[simp] theorem State.teleClose_rr_lifecycle (s : State) : s.teleClose.rr.lifecycle = s.rr.lifecycle := by simp [State.teleClose]

@[simp] theorem State.wakeSaid_rr_lifecycle (s : State) (cause : Nat) : (s.wakeSaid cause).rr.lifecycle = s.rr.lifecycle := by simp [State.wakeSaid]

@[simp] theorem State.pollHit_rr_lifecycle (s : State) : s.pollHit.rr.lifecycle = s.rr.lifecycle := by simp [State.pollHit]

/-! ## The ranging group -/

@[simp] theorem State.phySnapshots_rr_lifecycle (s : State) : s.phySnapshots.rr.lifecycle = s.rr.lifecycle := by
  simp [State.phySnapshots]; split <;> simp

@[simp] theorem State.feIssue_rr_lifecycle (s : State) (l : List FeTxn) : (s.feIssue l).rr.lifecycle = s.rr.lifecycle := by simp [State.feIssue]

@[simp] theorem State.setGain_rr_lifecycle (s : State) (g : Nat) : (s.setGain g).rr.lifecycle = s.rr.lifecycle := by simp [State.setGain]

@[simp] theorem State.chooseChannel_rr_lifecycle (s : State) : s.chooseChannel.rr.lifecycle = s.rr.lifecycle := by simp [State.chooseChannel]

@[simp] theorem State.setLane_rr_lifecycle (s : State) (n st : Nat) : (s.setLane n st).rr.lifecycle = s.rr.lifecycle := rfl

@[simp] theorem State.lanesState_rr_lifecycle (s : State) : s.lanesState.rr.lifecycle = s.rr.lifecycle := by simp [State.lanesState]

@[simp] theorem State.excludeFe_rr_lifecycle (s : State) (n : Nat) : (s.excludeFe n).rr.lifecycle = s.rr.lifecycle := by simp [State.excludeFe]

@[simp] theorem State.rangingStart_rr_lifecycle (s : State) (o : FrontEndObs) : (s.rangingStart o).rr.lifecycle = s.rr.lifecycle := by
  simp [State.rangingStart]

@[simp] theorem State.resynchronise_rr_lifecycle (s : State) : s.resynchronise.rr.lifecycle = s.rr.lifecycle := rfl

@[simp] theorem State.feSync_rr_lifecycle (s : State) (inPos : List Bool) : (s.feSync inPos).rr.lifecycle = s.rr.lifecycle := by simp [State.feSync]

@[simp] theorem State.laneDown_rr_lifecycle (s : State) (n : Nat) (why : LaneLoss) : (s.laneDown n why).rr.lifecycle = s.rr.lifecycle := by
  unfold State.laneDown
  split <;> simp

@[simp] theorem State.laneUpAgain_rr_lifecycle (s : State) (n : Nat) : (s.laneUpAgain n).rr.lifecycle = s.rr.lifecycle := by simp [State.laneUpAgain]

@[simp] theorem State.preamble_rr_lifecycle (s : State) (lane phase : Nat) (power : ℤ) :
    (s.preamble lane phase power).rr.lifecycle = s.rr.lifecycle := by
  simp [State.preamble]

@[simp] theorem State.sfdTimeout_rr_lifecycle (s : State) : s.sfdTimeout.rr.lifecycle = s.rr.lifecycle := by
  unfold State.sfdTimeout
  split <;> simp

@[simp] theorem State.frameDelivery_rr_lifecycle (s : State) (f : FrameObs) (hasKey : Bool) (ctx : Nat) :
    (s.frameDelivery f hasKey ctx).rr.lifecycle = s.rr.lifecycle := by
  unfold State.frameDelivery
  dsimp only
  (repeat' split) <;> simp

@[simp] theorem State.noise_rr_lifecycle (s : State) (floors : List ℤ) : (s.noise floors).rr.lifecycle = s.rr.lifecycle := by simp [State.noise]

@[simp] theorem State.feTemps_rr_lifecycle (s : State) (temps : List ℤ) : (s.feTemps temps).rr.lifecycle = s.rr.lifecycle := by simp [State.feTemps]

@[simp] theorem State.deferredWrite_rr_lifecycle (s : State) : s.deferredWrite.rr.lifecycle = s.rr.lifecycle := by simp [State.deferredWrite]

@[simp] theorem State.feStatus_rr_lifecycle (s : State) (n st : Nat) : (s.feStatus n st).rr.lifecycle = s.rr.lifecycle := by
  simp [State.feStatus]; split <;> simp

@[simp] theorem State.calStart_rr_lifecycle (s : State) (hasKey : Bool) : (s.calStart hasKey).1.rr.lifecycle = s.rr.lifecycle := by
  simp [State.calStart]

@[simp] theorem State.calRound_rr_lifecycle (s : State) (tofs : List (Option ℤ)) (phases : List (Option ℤ)) :
    (s.calRound tofs phases).rr.lifecycle = s.rr.lifecycle := by
  unfold State.calRound
  split <;> simp

@[simp] theorem State.calDone_rr_lifecycle (s : State) : s.calDone.rr.lifecycle = s.rr.lifecycle := by
  unfold State.calDone
  split <;> simp

@[simp] theorem State.roundLqf_rr_lifecycle (s : State) (l : List Nat) : (s.roundLqf l).rr.lifecycle = s.rr.lifecycle := by simp [State.roundLqf]

/-! ## The locator -/

@[simp] theorem State.locSnapshot_rr_lifecycle (s : State) : s.locSnapshot.rr.lifecycle = s.rr.lifecycle := by simp [State.locSnapshot]

@[simp] theorem State.zoneMap_rr_lifecycle (s : State) (data : Bytes) : (s.zoneMap data).1.rr.lifecycle = s.rr.lifecycle := by simp [State.zoneMap]

@[simp] theorem State.located_rr_lifecycle (s : State) (n : Nat) (old : Option Located) (l : Located) :
    (s.located n old l).rr.lifecycle = s.rr.lifecycle := by
  simp [State.located]

/-! ## The context table -/

@[simp] theorem State.setRow_rr_lifecycle (s : State) (n : Nat) (r : Row) : (s.setRow n r).rr.lifecycle = s.rr.lifecycle := rfl

@[simp] theorem State.cxSnapshot_rr_lifecycle (s : State) : s.cxSnapshot.rr.lifecycle = s.rr.lifecycle := by simp [State.cxSnapshot]

theorem State.takeService_rr_lifecycle {s t : State} {k q : Nat} {id : Bytes} {n : Nat} (h : s.takeService k q id = some (t, n)) :
    t.rr.lifecycle = s.rr.lifecycle := by
  unfold State.takeService at h
  split at h
  · cases h
  · obtain ⟨m, -, is⟩ := Option.map_eq_some_iff.mp h
    cases is
    exact State.setRow_rr_lifecycle ..

@[simp] theorem State.dropRow_rr_lifecycle (s : State) (n : Nat) : (s.dropRow n).rr.lifecycle = s.rr.lifecycle := rfl

@[simp] theorem State.rowSelect_rr_lifecycle (s : State) (c : Client) (n : Nat) : (s.rowSelect c n).rr.lifecycle = s.rr.lifecycle := rfl

@[simp] theorem State.binCount_rr_lifecycle (s : State) (b : Nat) : (s.binCount b).rr.lifecycle = s.rr.lifecycle := by simp [State.binCount]

@[simp] theorem State.replyInvalid_rr_lifecycle (s : State) (id : Bytes) (cause bin : Nat) :
    (s.replyInvalid id cause bin).rr.lifecycle = s.rr.lifecycle := by
  simp [State.replyInvalid]; split <;> simp

@[simp] theorem State.sessionEnd_rr_lifecycle (s : State) (n cause : Nat) : (s.sessionEnd n cause).rr.lifecycle = s.rr.lifecycle := by
  simp [State.sessionEnd]

@[simp] theorem State.endSessions_rr_lifecycle (s : State) (p : Row → Bool) (cause : Nat) :
    (s.endSessions p cause).rr.lifecycle = s.rr.lifecycle := by
  simp +contextual [State.endSessions, foldl_rr_lifecycle]

@[simp] theorem State.epochEndNow_rr_lifecycle (s : State) (peer : Bool) (cause : Nat) : (s.epochEndNow peer cause).rr.lifecycle = s.rr.lifecycle := by
  simp [State.epochEndNow]

@[simp] theorem State.ctxRevoke_rr_lifecycle (s : State) (slot : Nat) : (s.ctxRevoke slot).rr.lifecycle = s.rr.lifecycle := by simp [State.ctxRevoke]

@[simp] theorem State.setEpoch_rr_lifecycle (s : State) (peer : Bool) (e : Option Epoch) : (s.setEpoch peer e).rr.lifecycle = s.rr.lifecycle := rfl

@[simp] theorem State.epochBegin_rr_lifecycle (s : State) (q : Telegram) (code : Nat) : (s.epochBegin q code).rr.lifecycle = s.rr.lifecycle := rfl

@[simp] theorem State.telegram_rr_lifecycle (s : State) : s.telegram.rr.lifecycle = s.rr.lifecycle := by
  unfold State.telegram
  refine keeps_ite rfl ?_
  extract_lets s1 code s2
  have start : s2.rr.lifecycle = s.rr.lifecycle := by simp [s1, s2]
  split
  · exact keeps_ite ((State.epochBegin_rr_lifecycle ..).trans start) start
  · exact start

@[simp] theorem State.windowOpen_rr_lifecycle (s : State) : s.windowOpen.rr.lifecycle = s.rr.lifecycle := by
  simp only [State.windowOpen]
  split <;> simp

@[simp] theorem State.detect_rr_lifecycle (s : State) (lane phase : Nat) (power : ℤ) : (s.detect lane phase power).rr.lifecycle = s.rr.lifecycle := by
  unfold State.detect
  dsimp only
  (repeat' split) <;> simp

@[simp] theorem State.pushMac_rr_lifecycle (s : State) (w : MacWait) : (s.pushMac w).rr.lifecycle = s.rr.lifecycle := rfl

@[simp] theorem State.reply_rr_lifecycle (s : State) : s.reply.rr.lifecycle = s.rr.lifecycle := by
  unfold State.reply
  split
  · dsimp only
    refine keeps_ite rfl (keeps_ite rfl (keeps_ite rfl ?_))
    split
    · rfl
    · refine keeps_ite (State.replyInvalid_rr_lifecycle ..) (keeps_ite (State.replyInvalid_rr_lifecycle ..) ?_)
      split
      · exact State.replyInvalid_rr_lifecycle ..
      · refine keeps_ite (State.replyInvalid_rr_lifecycle ..) (keeps_ite (State.replyInvalid_rr_lifecycle ..)
          (keeps_ite (State.replyInvalid_rr_lifecycle ..) (keeps_ite rfl ?_)))
        split
        · exact keeps_ite rfl rfl
        · split <;> rfl
  · rfl

theorem State.sessionRow_rr_lifecycle {s t : State} {id : Bytes} {n : Nat} (h : s.sessionRow id = some (t, n)) : t.rr.lifecycle = s.rr.lifecycle := by
  unfold State.sessionRow at h
  split at h
  · cases h; rfl
  · split at h
    · cases h; rfl
    · obtain ⟨m, -, is⟩ := Option.map_eq_some_iff.mp h
      cases is
      exact State.dropRow_rr_lifecycle s m.1

@[simp] theorem State.replyValid_rr_lifecycle (s : State) (w : ReplyWin) (e : Epoch) (m : MacWait) (k : Bytes) :
    (s.replyValid w e m k).rr.lifecycle = s.rr.lifecycle := by
  unfold State.replyValid
  extract_lets
  split
  · exact State.emit_rr_lifecycle ..
  · next q found =>
    have taken : q.1.rr.lifecycle = s.rr.lifecycle := (State.sessionRow_rr_lifecycle found :)
    exact (State.emit_rr_lifecycle ..).trans ((State.setRow_rr_lifecycle ..).trans taken)

@[simp] theorem State.adaptWindow_rr_lifecycle (s : State) : s.adaptWindow.rr.lifecycle = s.rr.lifecycle := by
  unfold State.adaptWindow
  split <;> simp

@[simp] theorem State.macDone_rr_lifecycle (s : State) : s.macDone.rr.lifecycle = s.rr.lifecycle := by
  unfold State.macDone
  extract_lets
  split
  · rfl
  · next m _ =>
    refine keeps_ite rfl ?_
    extract_lets _ _ _ s1 id back s2
    have back_keeps : ∀ t : State, (back t).rr.lifecycle = t.rr.lifecycle := fun t => by
      dsimp only [back]
      split
      · exact keeps_ite (State.setRow_rr_lifecycle ..) rfl
      · rfl
    split
    · exact back_keeps s1
    · split
      · exact back_keeps s1
      · extract_lets _ _ s3
        have ran : s2.rr.lifecycle = s.rr.lifecycle := State.ran_rr_lifecycle ..
        have judged : s3.rr.lifecycle = s.rr.lifecycle := by simp [s3, back_keeps, ran]
        exact keeps_ite ((State.adaptWindow_rr_lifecycle _).trans judged) judged

@[simp] theorem State.trustServed_rr_lifecycle (s : State) : s.trustServed.rr.lifecycle = s.rr.lifecycle := by
  unfold State.trustServed
  (repeat' split) <;> simp

@[simp] theorem State.windowClose_rr_lifecycle (s : State) : s.windowClose.rr.lifecycle = s.rr.lifecycle := by
  unfold State.windowClose
  dsimp only
  (repeat' split) <;> simp

@[simp] theorem State.epochEnd_rr_lifecycle (s : State) : s.epochEnd.rr.lifecycle = s.rr.lifecycle := by simp [State.epochEnd]

/-! ## Rounds -/

@[simp] theorem State.roundFor_rr_lifecycle (s : State) (p : Bool) : (s.roundFor p).rr.lifecycle = s.rr.lifecycle := by
  unfold State.roundFor
  extract_lets s1
  split
  · rfl
  · split
    · rfl
    · split
      · rfl
      · extract_lets _ l _ _ _ _ _ _ _ s2 s3
        have snap : s1.rr.lifecycle = s.rr.lifecycle := by simp [s1]
        have ep : s2.rr.lifecycle = s1.rr.lifecycle := State.setEpoch_rr_lifecycle ..
        have listed : s3.rr.lifecycle = s2.rr.lifecycle := foldl_rr_lifecycle (fun t q => State.setRow_rr_lifecycle ..) l s2
        split
        · exact (State.setEpoch_rr_lifecycle ..).trans snap
        · exact (listed.trans ep).trans snap

@[simp] theorem State.roundStart_rr_lifecycle (s : State) : s.roundStart.rr.lifecycle = s.rr.lifecycle := by simp [State.roundStart]

@[simp] theorem State.sendRound_rr_lifecycle (s : State) (r : Round) (k kind : Nat) (payload : Bytes) :
    (s.sendRound r k kind payload).rr.lifecycle = s.rr.lifecycle :=
  rfl

@[simp] theorem State.roundSlot_rr_lifecycle (s : State) (r : Round) : (s.roundSlot r).rr.lifecycle = s.rr.lifecycle := by simp [State.roundSlot]

@[simp] theorem State.setListed_rr_lifecycle (s : State) (r : Round) (i : Nat) (l : Listed) : (s.setListed r i l).rr.lifecycle = s.rr.lifecycle := rfl

@[simp] theorem State.slotHeard_rr_lifecycle (s : State) : s.slotHeard.rr.lifecycle = s.rr.lifecycle := by
  unfold State.slotHeard
  (repeat' split) <;> simp

@[simp] theorem State.unlisted_rr_lifecycle (s : State) (p : Bytes) : (s.unlisted p).rr.lifecycle = s.rr.lifecycle := by simp [State.unlisted]

@[simp] theorem State.slotFailure_rr_lifecycle (s : State) (n : Nat) (d : DFrame) (mac : Bool) :
    (s.slotFailure n d mac).rr.lifecycle = s.rr.lifecycle := by
  simp [State.slotFailure]

@[simp] theorem State.takeSlot_rr_lifecycle (s : State) (wantReport : Bool) : (s.takeSlot wantReport).rr.lifecycle = s.rr.lifecycle := by
  unfold State.takeSlot
  (repeat' split) <;> simp

@[simp] theorem State.handOver_rr_lifecycle (s : State) (r : Round) (l : Listed) : (s.handOver r l).rr.lifecycle = s.rr.lifecycle := by
  simp [State.handOver]

@[simp] theorem State.missCount_rr_lifecycle (s : State) (l : Listed) : (s.missCount l).rr.lifecycle = s.rr.lifecycle := by simp [State.missCount]

@[simp] theorem State.couplingRound_rr_lifecycle (s : State) (rows : List Nat) : (s.couplingRound rows).rr.lifecycle = s.rr.lifecycle := by
  unfold State.couplingRound
  split <;> simp

@[simp] theorem State.couplingTimeout_rr_lifecycle (s : State) : s.couplingTimeout.rr.lifecycle = s.rr.lifecycle := by simp [State.couplingTimeout]

@[simp] theorem State.calTake_rr_lifecycle (s : State) (r : Round) : (s.calTake r).rr.lifecycle = s.rr.lifecycle := by
  unfold State.calTake
  (repeat' split) <;> simp

@[simp] theorem State.roundEnd_rr_lifecycle (s : State) : s.roundEnd.1.rr.lifecycle = s.rr.lifecycle := by
  unfold State.roundEnd
  (repeat' split) <;> simp +contextual [foldl_rr_lifecycle]

@[simp] theorem State.peerChallenge_rr_lifecycle (s : State) : s.peerChallenge.rr.lifecycle = s.rr.lifecycle := by
  unfold State.peerChallenge
  extract_lets
  split
  · rfl
  · split
    · rfl
    · next h => exact (State.draw_rr_lifecycle (s := s.cxSnapshot) h).trans s.cxSnapshot_rr_lifecycle

/-! ## Pairing and the peer role -/

@[simp] theorem State.setEntry_rr_lifecycle (s : State) (e : Nat) (id : Bytes) (st : Nat) : (s.setEntry e id st).rr.lifecycle = s.rr.lifecycle := by
  simp [State.setEntry]

@[simp] theorem State.endId_rr_lifecycle (s : State) (id : Bytes) (cause : Nat) : (s.endId id cause).rr.lifecycle = s.rr.lifecycle := by
  simp [State.endId]

@[simp] theorem State.ensureKey_rr_lifecycle (s : State) (n ty u l : Nat) : (s.ensureKey n ty u l).rr.lifecycle = s.rr.lifecycle := by
  unfold State.ensureKey
  repeat' split
  · rfl
  · simp [State.draw_rr_lifecycle ‹s.draw 6 l = _›]
  · rfl

@[simp] theorem State.pairPartner_rr_lifecycle (s : State) (id : Bytes) : (s.pairPartner id).1.rr.lifecycle = s.rr.lifecycle := by
  unfold State.pairPartner
  extract_lets _ _ _ s0 s1
  split
  · rfl
  · split
    · rfl
    · split
      · rfl
      · rfl
      · next e tk _ _ =>
        have first : s0.rr.lifecycle = s.rr.lifecycle := keeps_ite rfl rfl
        have keys : s1.rr.lifecycle = s0.rr.lifecycle := by simp [s1]
        split
        · rfl
        · next s2 iv drawn =>
          have iv : s2.rr.lifecycle = s1.rr.lifecycle := State.draw_rr_lifecycle drawn
          simp [iv, keys, first]

@[simp] theorem State.entryStatus_rr_lifecycle (s : State) (role e st : Nat) : (s.entryStatus role e st).1.rr.lifecycle = s.rr.lifecycle := by
  simp [State.entryStatus]

@[simp] theorem State.rotateKey_rr_lifecycle (s : State) (w : Nat) : (s.rotateKey w).1.rr.lifecycle = s.rr.lifecycle := by
  unfold State.rotateKey
  dsimp only
  repeat' split
  · rfl
  · rfl
  · next h => simp [State.draw_rr_lifecycle h]

@[simp] theorem State.importTractor_rr_lifecycle (s : State) (n : Nat) (data : Bytes) : (s.importTractor n data).1.rr.lifecycle = s.rr.lifecycle := by
  unfold State.importTractor
  dsimp only
  (repeat' split) <;> simp

theorem State.withPeerWindow_rr_lifecycle (s : State) (f : State → State) (hf : ∀ t : State, (f t).rr.lifecycle = t.rr.lifecycle) :
    (s.withPeerWindow f).rr.lifecycle = s.rr.lifecycle := by
  simp [State.withPeerWindow, hf]

@[simp] theorem State.challengeReceived_rr_lifecycle (s : State) : s.challengeReceived.rr.lifecycle = s.rr.lifecycle := by
  unfold State.challengeReceived
  split
  · rfl
  · extract_lets
    split
    · rfl
    · split
      · rfl
      · split
        next t n s1 nonce ht hn hd =>
          have kept : s1.rr.lifecycle = s.rr.lifecycle := (State.draw_rr_lifecycle hd :)
          dsimp only
          repeat' split
          any_goals rfl
          all_goals simp [kept]
        · rfl

@[simp] theorem State.peerEnd_rr_lifecycle (s : State) (q : PeerSession) (cause : Nat) : (s.peerEnd q cause).rr.lifecycle = s.rr.lifecycle := by
  simp [State.peerEnd]

@[simp] theorem State.pollReceived_rr_lifecycle (s : State) : s.pollReceived.rr.lifecycle = s.rr.lifecycle := by
  unfold State.pollReceived
  split <;> simp

@[simp] theorem State.finalReceived_rr_lifecycle (s : State) : s.finalReceived.rr.lifecycle = s.rr.lifecycle := by
  unfold State.finalReceived
  split <;> simp

@[simp] theorem State.peerReport_rr_lifecycle (s : State) : s.peerReport.rr.lifecycle = s.rr.lifecycle := by
  unfold State.peerReport
  split <;> simp

@[simp] theorem State.peerTimeout_rr_lifecycle (s : State) : s.peerTimeout.rr.lifecycle = s.rr.lifecycle := by
  unfold State.peerTimeout
  split <;> simp

@[simp] theorem State.slotStart_rr_lifecycle (s : State) : s.slotStart.rr.lifecycle = s.rr.lifecycle := by
  unfold State.slotStart
  dsimp only
  (repeat' split) <;> simp

end Sys2Proof.Machine
end


section
/-! SUPPORT. The lifecycle record under the operations of policy, keys and the vehicle tag: none of them writes it (R470). -/

namespace Sys2Proof.Machine
open Sys2Proof

/-! ## Policy and the outputs -/

@[simp] theorem State.outSnapshot_rr_lifecycle (s : State) : s.outSnapshot.rr.lifecycle = s.rr.lifecycle := by simp [State.outSnapshot]

@[simp] theorem State.polSnapshot_rr_lifecycle (s : State) : s.polSnapshot.rr.lifecycle = s.rr.lifecycle := by simp [State.polSnapshot]

@[simp] theorem State.releaseQueue_rr_lifecycle (s : State) (data : Bytes) : (s.releaseQueue data).rr.lifecycle = s.rr.lifecycle := by
  simp [State.releaseQueue]

@[simp] theorem State.sendRelease_rr_lifecycle (s : State) (out cause cls zone flags : Nat) (id : Bytes) :
    (s.sendRelease out cause cls zone flags id).rr.lifecycle = s.rr.lifecycle := by
  simp [State.sendRelease]

@[simp] theorem State.outcome_rr_lifecycle (s : State) (out cause cls zone row row2 flags src : Nat) (id : Bytes) :
    (s.outcome out cause cls zone row row2 flags src id).rr.lifecycle = s.rr.lifecycle := by
  simp [State.outcome]

@[simp] theorem State.decision_rr_lifecycle (s : State) (out cause cls zone row row2 flags src : Nat) (id : Bytes) :
    (s.decision out cause cls zone row row2 flags src id).rr.lifecycle = s.rr.lifecycle := by
  simp [State.decision]

@[simp] theorem State.refuse_rr_lifecycle (s : State) (cause src : Nat) : (s.refuse cause src).rr.lifecycle = s.rr.lifecycle := by simp [State.refuse]

@[simp] theorem State.unmark_rr_lifecycle (s : State) : s.unmark.rr.lifecycle = s.rr.lifecycle := by simp [State.unmark]

@[simp] theorem State.holdMarks_rr_lifecycle (s : State) : s.holdMarks.rr.lifecycle = s.rr.lifecycle := rfl

@[simp] theorem State.setLock_rr_lifecycle (s : State) (v : Bool) (src : Nat) : (s.setLock v src).rr.lifecycle = s.rr.lifecycle := by
  simp [State.setLock]

@[simp] theorem State.resolveAll_rr_lifecycle (s : State) (out cause : Nat) : (s.resolveAll out cause).rr.lifecycle = s.rr.lifecycle := by
  simp +contextual [State.resolveAll, foldl_rr_lifecycle]

@[simp] theorem State.unlocked_rr_lifecycle (s : State) (src : Nat) : (s.unlocked src).rr.lifecycle = s.rr.lifecycle := by simp [State.unlocked]

@[simp] theorem State.lockRequest_rr_lifecycle (s : State) (src : Nat) : (s.lockRequest src).rr.lifecycle = s.rr.lifecycle := by
  simp [State.lockRequest]

@[simp] theorem State.endRelease_rr_lifecycle (s : State) : s.endRelease.rr.lifecycle = s.rr.lifecycle := by simp [State.endRelease]

@[simp] theorem State.release_rr_lifecycle (s : State) (cls zone row row2 flags src : Nat) (ids : List Bytes) :
    (s.release cls zone row row2 flags src ids).rr.lifecycle = s.rr.lifecycle := by
  simp [State.release]

@[simp] theorem State.bind_rr_lifecycle (s : State) (d1 d2 cls zone flags row out : Nat) :
    (s.bind d1 d2 cls zone flags row out).rr.lifecycle = s.rr.lifecycle := by
  simp [State.bind]

@[simp] theorem State.unbind_rr_lifecycle (s : State) (cause : Nat) : (s.unbind cause).rr.lifecycle = s.rr.lifecycle := by simp [State.unbind]

@[simp] theorem State.latchNow_rr_lifecycle (s : State) : s.latchNow.rr.lifecycle = s.rr.lifecycle := by simp [State.latchNow]

@[simp] theorem State.roosterRest_rr_lifecycle (s : State) : s.roosterRest.rr.lifecycle = s.rr.lifecycle := by simp [State.roosterRest]

@[simp] theorem State.engineState_rr_lifecycle (s : State) (v : Bool) : (s.engineState v).rr.lifecycle = s.rr.lifecycle := by simp [State.engineState]

@[simp] theorem State.ask_rr_lifecycle (s : State) (code src : Nat) : (s.ask code src).rr.lifecycle = s.rr.lifecycle := by simp [State.ask]

@[simp] theorem State.policyRequest_rr_lifecycle (s : State) (code src : Nat) : (s.policyRequest code src).rr.lifecycle = s.rr.lifecycle := by
  simp [State.policyRequest]

@[simp] theorem State.requestFrame_rr_lifecycle (s : State) (bus : Nat) (f : CanFrame) : (s.requestFrame bus f).rr.lifecycle = s.rr.lifecycle := by
  simp [State.requestFrame]

@[simp] theorem State.engineFrame_rr_lifecycle (s : State) (f : CanFrame) : (s.engineFrame f).rr.lifecycle = s.rr.lifecycle := by
  simp [State.engineFrame]

@[simp] theorem State.engineStale_rr_lifecycle (s : State) : s.engineStale.rr.lifecycle = s.rr.lifecycle := by simp [State.engineStale]

@[simp] theorem State.setSuspect_rr_lifecycle (s : State) (x : Suspect) : (s.setSuspect x).rr.lifecycle = s.rr.lifecycle := rfl

@[simp] theorem State.suspicion_rr_lifecycle (s : State) (n : Nat) (id : Bytes) (l : Located) : (s.suspicion n id l).rr.lifecycle = s.rr.lifecycle := by
  simp [State.suspicion]

@[simp] theorem State.unpend_rr_lifecycle (s : State) (code : Nat) : (s.unpend code).rr.lifecycle = s.rr.lifecycle := by simp [State.unpend]

@[simp] theorem State.serveRequest_rr_lifecycle (s : State) (rows : List RowResult) (q : Request) :
    (s.serveRequest rows q).rr.lifecycle = s.rr.lifecycle := by
  unfold State.serveRequest
  dsimp only
  (repeat' split) <;> simp

@[simp] theorem State.rebindCheck_rr_lifecycle (s : State) (rows : List RowResult) : (s.rebindCheck rows).rr.lifecycle = s.rr.lifecycle := by
  fun_cases State.rebindCheck <;> simp

@[simp] theorem State.policyRound_rr_lifecycle (s : State) (r : Round) : (s.policyRound r).rr.lifecycle = s.rr.lifecycle := by
  unfold State.policyRound
  (repeat' split) <;> simp +contextual [foldl_rr_lifecycle]

@[simp] theorem State.roundDone_rr_lifecycle (s : State) : s.roundDone.rr.lifecycle = s.rr.lifecycle := by
  have := s.roundEnd_rr_lifecycle
  unfold State.roundDone
  split
  all_goals simp_all

@[simp] theorem State.decisionTimeout_rr_lifecycle (s : State) : s.decisionTimeout.rr.lifecycle = s.rr.lifecycle := by
  simp +contextual [State.decisionTimeout, foldl_rr_lifecycle]

@[simp] theorem State.suspectCleared_rr_lifecycle (s : State) : s.suspectCleared.rr.lifecycle = s.rr.lifecycle := by
  simp +contextual [State.suspectCleared, foldl_rr_lifecycle]

@[simp] theorem State.walkAway_rr_lifecycle (s : State) : s.walkAway.rr.lifecycle = s.rr.lifecycle := by simp [State.walkAway]

@[simp] theorem State.renewal_rr_lifecycle (s : State) : s.renewal.rr.lifecycle = s.rr.lifecycle := by simp [State.renewal]

@[simp] theorem State.releaseOver_rr_lifecycle (s : State) : s.releaseOver.rr.lifecycle = s.rr.lifecycle := by simp [State.releaseOver]

@[simp] theorem State.latchEnd_rr_lifecycle (s : State) : s.latchEnd.rr.lifecycle = s.rr.lifecycle := by simp [State.latchEnd]

@[simp] theorem State.readback_rr_lifecycle (s : State) (a b : Bool) : (s.readback a b).rr.lifecycle = s.rr.lifecycle := by simp [State.readback]

@[simp] theorem State.releaseMessage_rr_lifecycle (s : State) : s.releaseMessage.rr.lifecycle = s.rr.lifecycle := by simp [State.releaseMessage]

@[simp] theorem State.trustLostMessage_rr_lifecycle (s : State) : s.trustLostMessage.rr.lifecycle = s.rr.lifecycle := by simp [State.trustLostMessage]

@[simp] theorem State.rebindNow_rr_lifecycle (s : State) : s.rebindNow.rr.lifecycle = s.rr.lifecycle := by
  unfold State.rebindNow
  split <;> simp

@[simp] theorem State.presencePoll_rr_lifecycle (s : State) : s.presencePoll.rr.lifecycle = s.rr.lifecycle := by
  simp +contextual [State.presencePoll, foldl_rr_lifecycle]

@[simp] theorem State.presenceHit_rr_lifecycle (s : State) : s.presenceHit.rr.lifecycle = s.rr.lifecycle := rfl

@[simp] theorem State.presenceEnd_rr_lifecycle (s : State) : s.presenceEnd.rr.lifecycle = s.rr.lifecycle := by
  simp +contextual [State.presenceEnd, foldl_rr_lifecycle]

@[simp] theorem State.thermalLevel_rr_lifecycle (s : State) : s.thermalLevel.rr.lifecycle = s.rr.lifecycle := by simp [State.thermalLevel]

@[simp] theorem State.policyStart_rr_lifecycle (s : State) : s.policyStart.rr.lifecycle = s.rr.lifecycle := rfl

@[simp] theorem State.latchResume_rr_lifecycle (s : State) : s.latchResume.rr.lifecycle = s.rr.lifecycle := by
  unfold State.latchResume
  split <;> simp

@[simp] theorem State.policyStore_rr_lifecycle (s : State) : s.policyStore.rr.lifecycle = s.rr.lifecycle := by simp [State.policyStore]

@[simp] theorem State.policyTrustLost_rr_lifecycle (s : State) : s.policyTrustLost.rr.lifecycle = s.rr.lifecycle := by simp [State.policyTrustLost]

@[simp] theorem State.engineSync_rr_lifecycle (s : State) : s.engineSync.rr.lifecycle = s.rr.lifecycle := by simp [State.engineSync]

/-! ## Key operations -/

@[simp] theorem State.keyImport_rr_lifecycle (s : State) (c : Client) : (s.keyImport c).1.rr.lifecycle = s.rr.lifecycle := by
  unfold State.keyImport
  dsimp only
  (repeat' split) <;> simp

@[simp] theorem State.importPlain_rr_lifecycle (s : State) (c : Client) : (s.importPlain c).1.rr.lifecycle = s.rr.lifecycle := by
  simp [State.importPlain]; split <;> simp

@[simp] theorem State.generate_rr_lifecycle (s : State) (c : Client) : (s.generate c).1.rr.lifecycle = s.rr.lifecycle := by
  simp only [State.generate]
  repeat' split
  · rfl
  · rfl
  · next h => simp [State.draw_rr_lifecycle h]

@[simp] theorem State.erase_rr_lifecycle (s : State) (c : Client) : (s.erase c).1.rr.lifecycle = s.rr.lifecycle := by simp [State.erase]

@[simp] theorem State.revokeWorking_rr_lifecycle (s : State) (n : Nat) : (s.revokeWorking n).rr.lifecycle = s.rr.lifecycle := by
  simp [State.revokeWorking]

@[simp] theorem State.zeroizeSlot_rr_lifecycle (s : State) (n kind : Nat) : (s.zeroizeSlot n kind).rr.lifecycle = s.rr.lifecycle := by
  simp +contextual [State.zeroizeSlot, foldl_rr_lifecycle]

@[simp] theorem State.zeroizeNow_rr_lifecycle (s : State) (c : Client) : (s.zeroizeNow c).1.rr.lifecycle = s.rr.lifecycle := by
  simp [State.zeroizeNow]

@[simp] theorem State.zeroizeEvery_rr_lifecycle (s : State) : s.zeroizeEvery.rr.lifecycle = s.rr.lifecycle := by
  simp +contextual [State.zeroizeEvery, foldl_rr_lifecycle]

@[simp] theorem State.zeroizeAll_rr_lifecycle (s : State) (c : Client) : (s.zeroizeAll c).1.rr.lifecycle = s.rr.lifecycle := by
  simp [State.zeroizeAll]

@[simp] theorem State.keyOp_rr_lifecycle (s : State) (c : Client) (code : Nat) : (s.keyOp c code).1.rr.lifecycle = s.rr.lifecycle := by
  simp [State.keyOp]

@[simp] theorem State.slotSelect_rr_lifecycle (s : State) (c : Client) (n : Nat) : (s.slotSelect c n).rr.lifecycle = s.rr.lifecycle := rfl

/-! ## The tag and its UHF path -/

@[simp] theorem State.setTag_rr_lifecycle (s : State) (t : TagDom) : (s.setTag t).rr.lifecycle = s.rr.lifecycle := rfl

@[simp] theorem State.tagSnapshot_rr_lifecycle (s : State) : s.tagSnapshot.rr.lifecycle = s.rr.lifecycle := by simp [State.tagSnapshot]

@[simp] theorem State.tagBadRead_rr_lifecycle (s : State) (bank ptr n : Nat) : (s.tagBadRead bank ptr n).rr.lifecycle = s.rr.lifecycle := by
  simp +contextual [State.tagBadRead, foldl_rr_lifecycle]

@[simp] theorem State.tagBits_rr_lifecycle (s : State) (w : Nat) : (s.tagBits w).1.rr.lifecycle = s.rr.lifecycle := rfl

@[simp] theorem State.fieldCmd_rr_lifecycle (s : State) : s.fieldCmd.rr.lifecycle = s.rr.lifecycle := by simp [State.fieldCmd]

@[simp] theorem State.sessOpen_rr_lifecycle (s : State) (p : Nat) : (s.sessOpen p).1.rr.lifecycle = s.rr.lifecycle := by
  unfold State.sessOpen
  split
  · rfl
  · split
    · next t n taken => exact (State.emit_rr_lifecycle ..).trans (State.takeService_rr_lifecycle taken)
    · exact State.emit_rr_lifecycle ..

@[simp] theorem State.enfRead_rr_lifecycle (s : State) (path : Nat) : (s.enfRead path).rr.lifecycle = s.rr.lifecycle := by simp [State.enfRead]

@[simp] theorem State.uhfError_rr_lifecycle (s : State) (code : Nat) : (s.uhfError code).rr.lifecycle = s.rr.lifecycle := rfl

@[simp] theorem State.tagRefuse_rr_lifecycle (s : State) (code bank : Nat) : (s.tagRefuse code bank).rr.lifecycle = s.rr.lifecycle := by
  simp [State.tagRefuse]

@[simp] theorem State.s1Decay_rr_lifecycle (s : State) : s.s1Decay.rr.lifecycle = s.rr.lifecycle := by simp [State.s1Decay]

theorem State.onUhf_rr_lifecycle (s : State) (f : State → State) (hf : ∀ t : State, (f t).rr.lifecycle = t.rr.lifecycle) :
    (s.onUhf f).rr.lifecycle = s.rr.lifecycle := by
  simp [State.onUhf, hf]

@[simp] theorem State.setFlag_rr_lifecycle (s : State) (i : Nat) (v : Bool) : (s.setFlag i v).rr.lifecycle = s.rr.lifecycle := rfl

@[simp] theorem State.flip_rr_lifecycle (s : State) (i : Nat) : (s.flip i).rr.lifecycle = s.rr.lifecycle := rfl

@[simp] theorem State.uhfSelect_rr_lifecycle (s : State) (q : SelectCmd) : (s.uhfSelect q).rr.lifecycle = s.rr.lifecycle := by simp [State.uhfSelect]

@[simp] theorem State.uhfSlot_rr_lifecycle (s : State) : s.uhfSlot.rr.lifecycle = s.rr.lifecycle := by simp [State.uhfSlot]

@[simp] theorem State.uhfDraw_rr_lifecycle (s : State) : s.uhfDraw.rr.lifecycle = s.rr.lifecycle := by simp [State.uhfDraw]

@[simp] theorem State.uhfLeave_rr_lifecycle (s : State) : s.uhfLeave.rr.lifecycle = s.rr.lifecycle := by simp [State.uhfLeave]

@[simp] theorem State.uhfQuery_rr_lifecycle (s : State) (q : QueryCmd) : (s.uhfQuery q).rr.lifecycle = s.rr.lifecycle := by simp [State.uhfQuery]

@[simp] theorem State.uhfAdjust_rr_lifecycle (s : State) (session upDn : Nat) : (s.uhfAdjust session upDn).rr.lifecycle = s.rr.lifecycle := by
  unfold State.uhfAdjust
  (repeat' split) <;> simp

@[simp] theorem State.uhfRep_rr_lifecycle (s : State) (session : Nat) : (s.uhfRep session).rr.lifecycle = s.rr.lifecycle := by
  unfold State.uhfRep
  (repeat' split) <;> simp

@[simp] theorem State.uhfAck_rr_lifecycle (s : State) (rn : Word) : (s.uhfAck rn).rr.lifecycle = s.rr.lifecycle := by
  unfold State.uhfAck
  split <;> simp

@[simp] theorem State.uhfNak_rr_lifecycle (s : State) : s.uhfNak.rr.lifecycle = s.rr.lifecycle := by simp [State.uhfNak]

@[simp] theorem State.uhfReqRn_rr_lifecycle (s : State) (rn : Word) : (s.uhfReqRn rn).rr.lifecycle = s.rr.lifecycle := by
  unfold State.uhfReqRn
  split
  all_goals simp

theorem State.uhfAccess_rr_lifecycle (s : State) (handle : Word) (f : State → State) (hf : ∀ t : State, (f t).rr.lifecycle = t.rr.lifecycle) :
    (s.uhfAccess handle f).rr.lifecycle = s.rr.lifecycle := by
  unfold State.uhfAccess
  split <;> simp [hf]

@[simp] theorem State.uhfRead_rr_lifecycle (s : State) (bank ptr count : Nat) : (s.uhfRead bank ptr count).rr.lifecycle = s.rr.lifecycle := by
  simp [State.uhfRead]; split <;> simp

@[simp] theorem State.readVtag_rr_lifecycle (s : State) (mv : Nat) : (s.readVtag mv).rr.lifecycle = s.rr.lifecycle := rfl

@[simp] theorem State.uhfWrite_rr_lifecycle (s : State) (kind : TagJobKind) (bank ptr : Nat) (words : List Word) (mv : Nat) :
    (s.uhfWrite kind bank ptr words mv).rr.lifecycle = s.rr.lifecycle := by
  unfold State.uhfWrite
  split <;> simp

@[simp] theorem State.fieldLand_rr_lifecycle (s : State) (j : TagJob) (reply : Bool) : (s.fieldLand j reply).rr.lifecycle = s.rr.lifecycle := by
  simp [State.fieldLand]

@[simp] theorem State.killTag_rr_lifecycle (s : State) (path : Nat) : (s.killTag path).rr.lifecycle = s.rr.lifecycle := by simp [State.killTag]

@[simp] theorem State.uhfKill_rr_lifecycle (s : State) (recom : Nat) (half : Word) (mv : Nat) :
    (s.uhfKill recom half mv).rr.lifecycle = s.rr.lifecycle := by
  simp [State.uhfKill]; split <;> simp

@[simp] theorem State.uhfLock_rr_lifecycle (s : State) (mask action : Nat) : (s.uhfLock mask action).rr.lifecycle = s.rr.lifecycle := by
  simp [State.uhfLock]

@[simp] theorem State.tvSummary_rr_lifecycle (s : State) (ptr count : Nat) : (s.tvSummary ptr count).rr.lifecycle = s.rr.lifecycle := by
  simp [State.tvSummary]

@[simp] theorem State.tagOn_rr_lifecycle (s : State) (mv : Nat) : (s.tagOn mv).rr.lifecycle = s.rr.lifecycle := by simp [State.tagOn]

@[simp] theorem State.tagTorn_rr_lifecycle (s : State) (j : TagJob) : (s.tagTorn j).rr.lifecycle = s.rr.lifecycle := by
  unfold State.tagTorn
  split <;> simp

@[simp] theorem State.tagOff_rr_lifecycle (s : State) (mv : Nat) : (s.tagOff mv).rr.lifecycle = s.rr.lifecycle := by
  unfold State.tagOff
  (repeat' split) <;> simp

/-! ## The HF path -/

theorem State.onHf_rr_lifecycle (s : State) (f : State → State) (hf : ∀ t : State, (f t).rr.lifecycle = t.rr.lifecycle) :
    (s.onHf f).rr.lifecycle = s.rr.lifecycle := by
  simp [State.onHf, hf]

@[simp] theorem State.hfSay_rr_lifecycle (s : State) (b : Bytes) : (s.hfSay b).rr.lifecycle = s.rr.lifecycle := rfl

@[simp] theorem State.hfTo_rr_lifecycle (s : State) (x : HfState) : (s.hfTo x).rr.lifecycle = s.rr.lifecycle := rfl

@[simp] theorem State.hfBack_rr_lifecycle (s : State) : s.hfBack.rr.lifecycle = s.rr.lifecycle := rfl

@[simp] theorem State.hfReqa_rr_lifecycle (s : State) : s.hfReqa.rr.lifecycle = s.rr.lifecycle := by
  unfold State.hfReqa
  split <;> simp

@[simp] theorem State.hfWupa_rr_lifecycle (s : State) : s.hfWupa.rr.lifecycle = s.rr.lifecycle := by
  unfold State.hfWupa
  split <;> simp

@[simp] theorem State.hfHlta_rr_lifecycle (s : State) : s.hfHlta.rr.lifecycle = s.rr.lifecycle := by
  unfold State.hfHlta
  split <;> simp

@[simp] theorem State.hfAnticollision_rr_lifecycle (s : State) (level : Nat) (known : List Bool) :
    (s.hfAnticollision level known).rr.lifecycle = s.rr.lifecycle := by
  simp [State.hfAnticollision]

@[simp] theorem State.hfSelect_rr_lifecycle (s : State) (level : Nat) (uid : Bytes) : (s.hfSelect level uid).rr.lifecycle = s.rr.lifecycle := by
  simp [State.hfSelect]

@[simp] theorem State.hfRats_rr_lifecycle (s : State) (b : Byte) : (s.hfRats b).rr.lifecycle = s.rr.lifecycle := by
  unfold State.hfRats
  refine keeps_ite rfl (keeps_ite ?_ (State.hfBack_rr_lifecycle _))
  simp

@[simp] theorem State.hfNext_rr_lifecycle (s : State) (l : Bytes) : (s.hfNext l).rr.lifecycle = s.rr.lifecycle := rfl

@[simp] theorem State.hfAnswer_rr_lifecycle (s : State) (b : Bytes) : (s.hfAnswer b).rr.lifecycle = s.rr.lifecycle := by simp [State.hfAnswer]

@[simp] theorem State.hfAck_rr_lifecycle (s : State) (n : Nat) : (s.hfAck n).rr.lifecycle = s.rr.lifecycle := by simp [State.hfAck]

@[simp] theorem State.hfNak_rr_lifecycle (s : State) (n : Nat) : (s.hfNak n).rr.lifecycle = s.rr.lifecycle := by simp [State.hfNak]

@[simp] theorem State.hfDeselect_rr_lifecycle (s : State) : s.hfDeselect.rr.lifecycle = s.rr.lifecycle := by simp [State.hfDeselect]

@[simp] theorem State.hfLoss_rr_lifecycle (s : State) : s.hfLoss.rr.lifecycle = s.rr.lifecycle := by simp [State.hfLoss]

@[simp] theorem State.hfEnfRead_rr_lifecycle (s : State) (r : Bytes) : (s.hfEnfRead r).rr.lifecycle = s.rr.lifecycle := by simp [State.hfEnfRead]

@[simp] theorem State.hfSummary_rr_lifecycle (s : State) (inf : Bytes) : (s.hfSummary inf).rr.lifecycle = s.rr.lifecycle := by simp [State.hfSummary]

@[simp] theorem State.hfRead_rr_lifecycle (s : State) (inf : Bytes) : (s.hfRead inf).rr.lifecycle = s.rr.lifecycle := by simp [State.hfRead]

@[simp] theorem State.hfCert_rr_lifecycle (s : State) (inf : Bytes) : (s.hfCert inf).rr.lifecycle = s.rr.lifecycle := by simp [State.hfCert]

/-! ## The tag application -/

@[simp] theorem State.tagBusy_rr_lifecycle (s : State) : s.tagBusy.rr.lifecycle = s.rr.lifecycle := rfl

@[simp] theorem State.windowRead_rr_lifecycle (s : State) (c : Client) : (s.windowRead c).1.rr.lifecycle = s.rr.lifecycle := by
  simp [State.windowRead]

@[simp] theorem State.windowBegin_rr_lifecycle (s : State) (c : Client) (data : Bytes) : (s.windowBegin c data).rr.lifecycle = s.rr.lifecycle := by
  simp [State.windowBegin]

@[simp] theorem State.windowWrite_rr_lifecycle (s : State) (c : Client) (data : Bytes) : (s.windowWrite c data).rr.lifecycle = s.rr.lifecycle := by
  simp [State.windowWrite]

@[simp] theorem State.hostLand_rr_lifecycle (s : State) (j : TagJob) : (s.hostLand j).rr.lifecycle = s.rr.lifecycle := by
  unfold State.hostLand
  split <;> simp

@[simp] theorem State.tagCommit_rr_lifecycle (s : State) : s.tagCommit.rr.lifecycle = s.rr.lifecycle := by
  unfold State.tagCommit
  (repeat' split) <;> simp

@[simp] theorem State.hostTagTimeout_rr_lifecycle (s : State) (c : Client) : (s.hostTagTimeout c).rr.lifecycle = s.rr.lifecycle := by
  simp [State.hostTagTimeout]; split <;> simp

@[simp] theorem State.refresh_rr_lifecycle (s : State) : s.refresh.rr.lifecycle = s.rr.lifecycle := by
  unfold State.refresh
  refine keeps_ite rfl ?_
  extract_lets
  split
  · rfl
  · next t sig signed =>
    rw [State.emit_rr_lifecycle]
    exact (State.ownSign_rr_lifecycle signed :)

@[simp] theorem State.summaryRefresh_rr_lifecycle (s : State) : s.summaryRefresh.rr.lifecycle = s.rr.lifecycle := by simp [State.summaryRefresh]

@[simp] theorem State.refreshNow_rr_lifecycle (s : State) : s.refreshNow.rr.lifecycle = s.rr.lifecycle := rfl

@[simp] theorem State.tagTrustLost_rr_lifecycle (s : State) : s.tagTrustLost.rr.lifecycle = s.rr.lifecycle := by simp [State.tagTrustLost]

@[simp] theorem State.certCopy_rr_lifecycle (s : State) : s.certCopy.rr.lifecycle = s.rr.lifecycle := by simp [State.certCopy]

@[simp] theorem State.summaryCertificate_rr_lifecycle (s : State) (b : Bytes) : (s.summaryCertificate b).1.rr.lifecycle = s.rr.lifecycle := by
  simp [State.summaryCertificate]

@[simp] theorem State.killObject_rr_lifecycle (s : State) (pw : Bytes) : (s.killObject pw).1.rr.lifecycle = s.rr.lifecycle := by
  simp [State.killObject]

@[simp] theorem State.setKillPw_rr_lifecycle (s : State) (pw : Bytes) : (s.setKillPw pw).rr.lifecycle = s.rr.lifecycle := rfl

@[simp] theorem State.harvOn_rr_lifecycle (s : State) (mv : Nat) : (s.harvOn mv).rr.lifecycle = s.rr.lifecycle := by simp [State.harvOn]

@[simp] theorem State.harvLow_rr_lifecycle (s : State) (mv : Nat) : (s.harvLow mv).rr.lifecycle = s.rr.lifecycle := by simp [State.harvLow]

@[simp] theorem State.harvOverload_rr_lifecycle (s : State) : s.harvOverload.rr.lifecycle = s.rr.lifecycle := by simp [State.harvOverload]

@[simp] theorem State.harvRetry_rr_lifecycle (s : State) : s.harvRetry.rr.lifecycle = s.rr.lifecycle := by simp [State.harvRetry]

@[simp] theorem State.tagStart_rr_lifecycle (s : State) : s.tagStart.rr.lifecycle = s.rr.lifecycle := by simp [State.tagStart]

end Sys2Proof.Machine
end


section
/-! SUPPORT. The lifecycle record under boot, supervision, the dictionary server and the consequences of a command: only an advance writes it (R470). -/

namespace Sys2Proof.Machine
open Sys2Proof

/-! ## Boot and firmware -/

@[simp] theorem State.bootFrom_rr_lifecycle (s : State) (n : Nat) (trial fallback : Bool) :
    (s.bootFrom n trial fallback).rr.lifecycle = s.rr.lifecycle := by
  simp [State.bootFrom]

@[simp] theorem State.chooseBank_rr_lifecycle (s : State) : s.chooseBank.rr.lifecycle = s.rr.lifecycle := by
  simp only [State.chooseBank, ite_rr_lifecycle]
  split <;> simp

@[simp] theorem State.trialConfirmed_rr_lifecycle (s : State) : s.trialConfirmed.rr.lifecycle = s.rr.lifecycle := by simp [State.trialConfirmed]

@[simp] theorem State.updateTo_rr_lifecycle (s : State) (n : Nat) : (s.updateTo n).rr.lifecycle = s.rr.lifecycle := by simp [State.updateTo]

@[simp] theorem State.updateBegin_rr_lifecycle (s : State) : s.updateBegin.1.rr.lifecycle = s.rr.lifecycle := by
  unfold State.updateBegin
  split <;> simp

@[simp] theorem State.chunk_rr_lifecycle (s : State) (d : Bytes) : (s.chunk d).1.rr.lifecycle = s.rr.lifecycle := by
  unfold State.chunk
  split <;> simp

@[simp] theorem State.updateVerify_rr_lifecycle (s : State) : s.updateVerify.1.rr.lifecycle = s.rr.lifecycle := by
  unfold State.updateVerify
  split <;> simp

@[simp] theorem State.askReset_rr_lifecycle (s : State) (kind : Nat) (c : Client) : (s.askReset kind c).rr.lifecycle = s.rr.lifecycle := rfl

@[simp] theorem State.activate_rr_lifecycle (s : State) (c : Client) : (s.activate c).1.rr.lifecycle = s.rr.lifecycle := by
  unfold State.activate
  split <;> simp

@[simp] theorem State.factoryKey_rr_lifecycle (s : State) (n ty : Nat) (b : Bytes) : (s.factoryKey n ty b).rr.lifecycle = s.rr.lifecycle := by
  simp [State.factoryKey]

/-! ## Resets, supplies, clocks and power modes -/

@[simp] theorem State.cutNv_rr_lifecycle (s : State) (power : Bool) : (s.cutNv power).rr.lifecycle = s.rr.lifecycle := by
  unfold State.cutNv
  split <;> simp

@[simp] theorem State.resetTo_rr_lifecycle (s : State) (k w : Nat) : (s.resetTo k w).rr.lifecycle = s.rr.lifecycle := by
  simp only [State.resetTo, ite_rr_lifecycle, State.roosterRestore_rr_lifecycle, State.cutProgram_rr_lifecycle, State.cutNv_rr_lifecycle, ite_self]

@[simp] theorem State.railReset_rr_lifecycle (s : State) (rail mv : Nat) : (s.railReset rail mv).rr.lifecycle = s.rr.lifecycle := by
  simp [State.railReset]

@[simp] theorem State.externalReset_rr_lifecycle (s : State) (lowNs : Nat) : (s.externalReset lowNs).rr.lifecycle = s.rr.lifecycle := by
  simp [State.externalReset]

@[simp] theorem State.deferredReset_rr_lifecycle (s : State) : s.deferredReset.rr.lifecycle = s.rr.lifecycle := by
  unfold State.deferredReset
  split <;> simp

@[simp] theorem State.loseCrystal_rr_lifecycle (s : State) : s.loseCrystal.rr.lifecycle = s.rr.lifecycle := by simp [State.loseCrystal]

@[simp] theorem State.clockLost_rr_lifecycle (s : State) : s.clockLost.rr.lifecycle = s.rr.lifecycle := by simp [State.clockLost]

@[simp] theorem State.rangingAgain_rr_lifecycle (s : State) : s.rangingAgain.rr.lifecycle = s.rr.lifecycle := by simp [State.rangingAgain]

@[simp] theorem State.clockRestored_rr_lifecycle (s : State) : s.clockRestored.rr.lifecycle = s.rr.lifecycle := by simp [State.clockRestored]

@[simp] theorem State.portsLost_rr_lifecycle (s : State) : s.portsLost.rr.lifecycle = s.rr.lifecycle := by simp [State.portsLost]

@[simp] theorem State.serLow_rr_lifecycle (s : State) (mv : Nat) : (s.serLow mv).rr.lifecycle = s.rr.lifecycle := by simp [State.serLow]

@[simp] theorem State.serBack_rr_lifecycle (s : State) (mv : Nat) : (s.serBack mv).rr.lifecycle = s.rr.lifecycle := by simp [State.serBack]

@[simp] theorem State.pllLost_rr_lifecycle (s : State) (p : Pll) : (s.pllLost p).rr.lifecycle = s.rr.lifecycle := by
  simp [State.pllLost]; split <;> simp

@[simp] theorem State.pllBack_rr_lifecycle (s : State) (p : Pll) : (s.pllBack p).rr.lifecycle = s.rr.lifecycle := by
  unfold State.pllBack
  (repeat' split) <;> simp

@[simp] theorem State.rcTrim_rr_lifecycle (s : State) (code : Nat) : (s.rcTrim code).rr.lifecycle = s.rr.lifecycle := by simp [State.rcTrim]

@[simp] theorem State.temperature_rr_lifecycle (s : State) (l : List ℤ) : (s.temperature l).rr.lifecycle = s.rr.lifecycle := by
  simp [State.temperature]

@[simp] theorem State.thermalReset_rr_lifecycle (s : State) (l : List ℤ) : (s.thermalReset l).rr.lifecycle = s.rr.lifecycle := by
  simp [State.thermalReset]

@[simp] theorem State.pairRestart_rr_lifecycle (s : State) (vehicle : Bool) (cause code : Nat) :
    (s.pairRestart vehicle cause code).rr.lifecycle = s.rr.lifecycle := by
  simp [State.pairRestart]

@[simp] theorem State.glitch_rr_lifecycle (s : State) (supply clock : Bool) : (s.glitch supply clock).rr.lifecycle = s.rr.lifecycle := by
  simp [State.glitch]

@[simp] theorem State.watchdog_rr_lifecycle (s : State) (g : CoreGroup) : (s.watchdog g).rr.lifecycle = s.rr.lifecycle := by
  unfold State.watchdog
  (repeat' split) <;> simp

@[simp] theorem State.lockstep_rr_lifecycle (s : State) (vehicle : Bool) : (s.lockstep vehicle).rr.lifecycle = s.rr.lifecycle := by
  simp [State.lockstep]

@[simp] theorem State.firewall_rr_lifecycle (s : State) (i : Initiator) (r : Region) : (s.firewall i r).rr.lifecycle = s.rr.lifecycle := by
  simp [State.firewall]

@[simp] theorem State.parkBegin_rr_lifecycle (s : State) (cause : Nat) : (s.parkBegin cause).rr.lifecycle = s.rr.lifecycle := rfl

@[simp] theorem State.parkRequest_rr_lifecycle (s : State) : s.parkRequest.1.rr.lifecycle = s.rr.lifecycle := by simp [State.parkRequest]

@[simp] theorem State.parkIdle_rr_lifecycle (s : State) : s.parkIdle.rr.lifecycle = s.rr.lifecycle := by simp [State.parkIdle]

@[simp] theorem State.parkAbandon_rr_lifecycle (s : State) : s.parkAbandon.rr.lifecycle = s.rr.lifecycle := by simp [State.parkAbandon]

@[simp] theorem State.parkStock_rr_lifecycle (s : State) : s.parkStock.rr.lifecycle = s.rr.lifecycle := by
  unfold State.parkStock
  repeat' split
  · rfl
  · rfl
  · rfl
  · next h => have kept := State.draw_rr_lifecycle h; exact kept

@[simp] theorem State.parkAdvance_rr_lifecycle (s : State) : s.parkAdvance.rr.lifecycle = s.rr.lifecycle := by simp [State.parkAdvance]

@[simp] theorem State.railsOff_rr_lifecycle (s : State) (mode : Nat) : (s.railsOff mode).rr.lifecycle = s.rr.lifecycle := rfl

@[simp] theorem State.toMode_rr_lifecycle (s : State) (mode cause : Nat) : (s.toMode mode cause).rr.lifecycle = s.rr.lifecycle := by
  simp [State.toMode]

@[simp] theorem State.parkingComplete_rr_lifecycle (s : State) : s.parkingComplete.rr.lifecycle = s.rr.lifecycle := by simp [State.parkingComplete]

@[simp] theorem State.ungate_rr_lifecycle (s : State) : s.ungate.rr.lifecycle = s.rr.lifecycle := by simp [State.ungate]

@[simp] theorem State.hostUngate_rr_lifecycle (s : State) : s.hostUngate.rr.lifecycle = s.rr.lifecycle := by simp [State.hostUngate]

@[simp] theorem State.tamperRecord_rr_lifecycle (s : State) (src : Nat) : (s.tamperRecord src).rr.lifecycle = s.rr.lifecycle := by
  simp [State.tamperRecord]

@[simp] theorem State.tamperDetect_rr_lifecycle (s : State) (src : Nat) : (s.tamperDetect src).rr.lifecycle = s.rr.lifecycle := by
  simp [State.tamperDetect]

@[simp] theorem State.meshCheck_rr_lifecycle (s : State) (good : Bool) : (s.meshCheck good).rr.lifecycle = s.rr.lifecycle := by simp [State.meshCheck]

@[simp] theorem State.loopSample_rr_lifecycle (s : State) (good : Bool) : (s.loopSample good).rr.lifecycle = s.rr.lifecycle := by
  simp [State.loopSample]

@[simp] theorem State.lidDetection_rr_lifecycle (s : State) (level : Bool) (heldNs : Nat) :
    (s.lidDetection level heldNs).rr.lifecycle = s.rr.lifecycle := by
  simp [State.lidDetection]

@[simp] theorem State.clearLatches_rr_lifecycle (s : State) (mask : Nat) : (s.clearLatches mask).rr.lifecycle = s.rr.lifecycle := rfl

@[simp] theorem State.tamperOffline_rr_lifecycle (s : State) : s.tamperOffline.rr.lifecycle = s.rr.lifecycle := by
  simp +contextual [State.tamperOffline, foldl_rr_lifecycle]

@[simp] theorem State.recordScan_rr_lifecycle (s : State) (o : BootObs) : (s.recordScan o).rr.lifecycle = s.rr.lifecycle := by
  simp +contextual [State.recordScan, foldl_rr_lifecycle]

@[simp] theorem State.coldStart_rr_lifecycle (s : State) (o : BootObs) : (s.coldStart o).rr.lifecycle = s.rr.lifecycle := by simp [State.coldStart]

/-! ## Wakes -/

@[simp] theorem State.wake_rr_lifecycle (s : State) (cause : Nat) : (s.wake cause).rr.lifecycle = s.rr.lifecycle := by simp [State.wake]

@[simp] theorem State.doorOnce_rr_lifecycle (s : State) : s.doorOnce.rr.lifecycle = s.rr.lifecycle := by simp [State.doorOnce]

@[simp] theorem State.rfOnce_rr_lifecycle (s : State) : s.rfOnce.rr.lifecycle = s.rr.lifecycle := by
  unfold State.rfOnce
  split <;> simp

@[simp] theorem State.wakeDoor_rr_lifecycle (s : State) (levels : List Bool) : (s.wakeDoor levels).rr.lifecycle = s.rr.lifecycle := by
  simp +contextual [State.wakeDoor, times_rr_lifecycle]

@[simp] theorem State.wakeRf_rr_lifecycle (s : State) (levels : List Bool) : (s.wakeRf levels).rr.lifecycle = s.rr.lifecycle := by
  simp +contextual [State.wakeRf, times_rr_lifecycle]

@[simp] theorem State.canWake_rr_lifecycle (s : State) (bus : Nat) (levels : List Bool) : (s.canWake bus levels).rr.lifecycle = s.rr.lifecycle := by
  simp +contextual [State.canWake, times_rr_lifecycle]

@[simp] theorem State.followPhase_rr_lifecycle (s : State) : s.followPhase.rr.lifecycle = s.rr.lifecycle := by simp [State.followPhase]

@[simp] theorem State.pollPhase_rr_lifecycle (s : State) : s.pollPhase.rr.lifecycle = s.rr.lifecycle := by simp [State.pollPhase]

@[simp] theorem State.pollingStopped_rr_lifecycle (s : State) : s.pollingStopped.rr.lifecycle = s.rr.lifecycle := by simp [State.pollingStopped]

@[simp] theorem State.groupPollEnd_rr_lifecycle (s : State) : s.groupPollEnd.rr.lifecycle = s.rr.lifecycle := by
  unfold State.groupPollEnd
  split <;> simp

@[simp] theorem State.windowOver_rr_lifecycle (s : State) : s.windowOver.rr.lifecycle = s.rr.lifecycle := by simp [State.windowOver]

/-! ## Sheepdog and units -/

@[simp] theorem State.excludeLane_rr_lifecycle (s : State) (n : Nat) : (s.excludeLane n).rr.lifecycle = s.rr.lifecycle := by simp [State.excludeLane]

@[simp] theorem State.loseTrust_rr_lifecycle (s : State) : s.loseTrust.rr.lifecycle = s.rr.lifecycle := by simp [State.loseTrust]

@[simp] theorem State.loseVehicle_rr_lifecycle (s : State) : s.loseVehicle.rr.lifecycle = s.rr.lifecycle := by simp [State.loseVehicle]

@[simp] theorem State.act_rr_lifecycle (s : State) (n : Nat) : (s.act n).rr.lifecycle = s.rr.lifecycle := by simp [State.act]

@[simp] theorem State.takeActs_rr_lifecycle (s : State) : s.takeActs.rr.lifecycle = s.rr.lifecycle := by
  unfold State.takeActs
  (repeat' split) <;> simp +contextual [foldl_rr_lifecycle]

@[simp] theorem State.publish_rr_lifecycle (s : State) : s.publish.rr.lifecycle = s.rr.lifecycle := by simp [State.publish]

@[simp] theorem State.levelMeets_rr_lifecycle (s : State) (old : Nat) : (s.levelMeets old).rr.lifecycle = s.rr.lifecycle := by
  simp +contextual [State.levelMeets, foldl_rr_lifecycle]

@[simp] theorem State.followLevel_rr_lifecycle (s : State) : s.followLevel.rr.lifecycle = s.rr.lifecycle := by simp [State.followLevel]

@[simp] theorem State.followRanging_rr_lifecycle (s0 : State) : s0.followRanging.rr.lifecycle = s0.rr.lifecycle := by simp [State.followRanging]

@[simp] theorem State.stepSix_rr_lifecycle (s : State) : s.stepSix.rr.lifecycle = s.rr.lifecycle := by simp [State.stepSix]

@[simp] theorem State.faultEnded_rr_lifecycle (s : State) (n : Nat) : (s.faultEnded n).rr.lifecycle = s.rr.lifecycle := by simp [State.faultEnded]

@[simp] theorem State.clearSummary_rr_lifecycle (s : State) (uid : Nat) : (s.clearSummary uid).1.rr.lifecycle = s.rr.lifecycle := by
  simp [State.clearSummary]

@[simp] theorem State.clearSource_rr_lifecycle (s : State) (role n : Nat) : (s.clearSource role n).1.rr.lifecycle = s.rr.lifecycle := by
  simp [State.clearSource]

@[simp] theorem State.stopOne_rr_lifecycle (s : State) (u : Nat) : (s.stopOne u).rr.lifecycle = s.rr.lifecycle := by simp [State.stopOne]

@[simp] theorem State.unitStop_rr_lifecycle (s : State) (uid : Nat) : (s.unitStop uid).1.rr.lifecycle = s.rr.lifecycle := by
  unfold State.unitStop
  repeat' split
  · rfl
  · rfl
  · exact foldl_rr_lifecycle State.stopOne_rr_lifecycle _ s

@[simp] theorem State.unitStart_rr_lifecycle (s : State) (uid : Nat) : (s.unitStart uid).1.rr.lifecycle = s.rr.lifecycle := by
  simp +contextual [State.unitStart, foldl_rr_lifecycle]

@[simp] theorem State.canStartUp_rr_lifecycle (s : State) (bus : Nat) : (s.canStartUp bus).rr.lifecycle = s.rr.lifecycle := by simp [State.canStartUp]

@[simp] theorem State.startUp_rr_lifecycle (s : State) (uid : Nat) (o : StartObs) : (s.startUp uid o).rr.lifecycle = s.rr.lifecycle := by
  simp [State.startUp]

/-! ## Reads -/

@[simp] theorem State.nextEvent_rr_lifecycle (s : State) : s.nextEvent.rr.lifecycle = s.rr.lifecycle := rfl

@[simp] theorem State.nextFault_rr_lifecycle (s : State) : s.nextFault.rr.lifecycle = s.rr.lifecycle := rfl

@[simp] theorem State.nextRecord_rr_lifecycle (s : State) (bus : Nat) : (s.nextRecord bus).rr.lifecycle = s.rr.lifecycle := by simp [State.nextRecord]

@[simp] theorem State.hpRead_rr_lifecycle (s : State) (bus : Nat) : (s.hpRead bus).rr.lifecycle = s.rr.lifecycle := by simp [State.hpRead]

@[simp] theorem State.clearOverrun_rr_lifecycle (s : State) (bus : Nat) : (s.clearOverrun bus).rr.lifecycle = s.rr.lifecycle := by
  simp [State.clearOverrun]

@[simp] theorem State.readEffect_rr_lifecycle (s : State) (c : Client) (ix sub : Nat) : (s.readEffect c ix sub).rr.lifecycle = s.rr.lifecycle := by
  simp [State.readEffect]

@[simp] theorem State.readObject_rr_lifecycle (s : State) (c : Client) (ix sub : Nat) : (s.readObject c ix sub).1.rr.lifecycle = s.rr.lifecycle := by
  simp [State.readObject]

@[simp] theorem State.readRequest_rr_lifecycle (s : State) (c : Client) (ix sub : Nat) : (s.readRequest c ix sub).rr.lifecycle = s.rr.lifecycle := by
  simp [State.readRequest]

/-! ## Role sessions -/

@[simp] theorem State.dictEvent_rr_lifecycle (s : State) (code param : Nat) : (s.dictEvent code param).rr.lifecycle = s.rr.lifecycle := by
  simp [State.dictEvent]

@[simp] theorem State.clientReset_rr_lifecycle (s : State) (c : Client) : (s.clientReset c).rr.lifecycle = s.rr.lifecycle := rfl

@[simp] theorem State.sessionNone_rr_lifecycle (s : State) (c : Client) : (s.sessionNone c).rr.lifecycle = s.rr.lifecycle := rfl

@[simp] theorem State.openLapsed_rr_lifecycle (s : State) (c : Client) : (s.openLapsed c).rr.lifecycle = s.rr.lifecycle := rfl

@[simp] theorem State.sessionClose_rr_lifecycle (s : State) (c : Client) (cause : Nat) : (s.sessionClose c cause).rr.lifecycle = s.rr.lifecycle := by
  simp [State.sessionClose]; split <;> simp

@[simp] theorem State.roleWrite_rr_lifecycle (s : State) (c : Client) (code : Nat) : (s.roleWrite c code).1.rr.lifecycle = s.rr.lifecycle := by
  unfold State.roleWrite
  dsimp only
  repeat' split
  · rfl
  · rfl
  · next h _ => simp [State.draw_rr_lifecycle h]
  · rfl
  · next h _ _ _ _ h' => simp [State.draw_rr_lifecycle h', State.draw_rr_lifecycle h]

@[simp] theorem State.proofFailed_rr_lifecycle (s : State) (c : Client) (cause : Nat) : (s.proofFailed c cause).rr.lifecycle = s.rr.lifecycle := by
  simp [State.proofFailed]

@[simp] theorem State.proofWrite_rr_lifecycle (s : State) (c : Client) (b : Bytes) : (s.proofWrite c b).1.rr.lifecycle = s.rr.lifecycle := by
  unfold State.proofWrite
  extract_lets x
  refine keeps_ite_fst rfl (keeps_ite_fst (State.openLapsed_rr_lifecycle ..) (keeps_ite_fst rfl ?_))
  extract_lets
  split
  · next k s1 n _ _ opens =>
    have taken : s1.rr.lifecycle = s.rr.lifecycle := by
      split at opens
      · exact State.takeService_rr_lifecycle opens
      · cases opens
    simp [taken]
  · exact State.sessionNone_rr_lifecycle ..
  · exact State.proofFailed_rr_lifecycle ..

@[simp] theorem State.closeWrite_rr_lifecycle (s : State) (c : Client) : (s.closeWrite c).1.rr.lifecycle = s.rr.lifecycle := by
  simp [State.closeWrite]

@[simp] theorem State.openTimeout_rr_lifecycle (s : State) (c : Client) : (s.openTimeout c).rr.lifecycle = s.rr.lifecycle := by
  simp [State.openTimeout]

@[simp] theorem State.holdOffEnd_rr_lifecycle (s : State) (c : Client) : (s.holdOffEnd c).rr.lifecycle = s.rr.lifecycle := by simp [State.holdOffEnd]

@[simp] theorem State.openingWrite_rr_lifecycle (s : State) (c : Client) (sub : Nat) (data : Bytes) :
    (s.openingWrite c sub data).1.rr.lifecycle = s.rr.lifecycle := by
  simp [State.openingWrite]

@[simp] theorem State.tagCheck_rr_lifecycle (s : State) (c : Client) (ix sub : Nat) (data tag : Bytes) :
    (s.tagCheck c ix sub data tag).1.rr.lifecycle = s.rr.lifecycle := by
  simp [State.tagCheck]

@[simp] theorem State.busSessionsClose_rr_lifecycle (s : State) (bus : Nat) : (s.busSessionsClose bus).rr.lifecycle = s.rr.lifecycle := by
  simp +contextual [State.busSessionsClose, foldl_rr_lifecycle]

/-! ## Writes -/

@[simp] theorem State.volatileWrite_rr_lifecycle (s : State) (c : Client) (ix sub : Nat) (data : Bytes) :
    (s.volatileWrite c ix sub data).1.rr.lifecycle = s.rr.lifecycle := by
  simp [State.volatileWrite]

@[simp] theorem State.persistentWrite_rr_lifecycle (s : State) (ix sub : Nat) (data : Bytes) :
    (s.persistentWrite ix sub data).1.rr.lifecycle = s.rr.lifecycle := by
  simp [State.persistentWrite]

@[simp] theorem State.incrementWrite_rr_lifecycle (s : State) (c : Client) (n amount : Nat) :
    (s.incrementWrite c n amount).rr.lifecycle = s.rr.lifecycle := by
  simp [State.incrementWrite]

@[simp] theorem State.controlWrite_rr_lifecycle (s : State) (uid code : Nat) : (s.controlWrite uid code).1.rr.lifecycle = s.rr.lifecycle := by
  simp [State.controlWrite]

@[simp] theorem State.updateCommand_rr_lifecycle (s : State) (c : Client) (code : Nat) : (s.updateCommand c code).1.rr.lifecycle = s.rr.lifecycle := by
  simp [State.updateCommand]

@[simp] theorem State.applyFastMap_rr_lifecycle (s : State) : s.applyFastMap.1.rr.lifecycle = s.rr.lifecycle := by simp [State.applyFastMap]

@[simp] theorem State.timerWrite_rr_lifecycle (s : State) (n sub v : Nat) (tickClock : Bool) :
    (s.timerWrite n sub v tickClock).rr.lifecycle = s.rr.lifecycle := by
  simp [State.timerWrite]

@[simp] theorem State.bufCommand_rr_lifecycle (s : State) (bus b code : Nat) : (s.bufCommand bus b code).1.rr.lifecycle = s.rr.lifecycle := by
  simp [State.bufCommand]

@[simp] theorem State.incDrop_rr_lifecycle (s : State) (c : Client) : (s.incDrop c).rr.lifecycle = s.rr.lifecycle := by
  unfold State.incDrop
  split <;> simp

@[simp] theorem State.nvFenced_rr_lifecycle (s : State) (c : Client) : (s.nvFenced c).rr.lifecycle = s.rr.lifecycle := by
  unfold State.nvFenced
  split <;> simp

/-! ## The host port -/

@[simp] theorem State.hostPut_rr_lifecycle (s : State) (fr : List Word) (abort : Nat) (data : Bytes) (flags off : Nat) (tag : Bytes) (keep : Bool) :
    (s.hostPut fr abort data flags off tag keep).rr.lifecycle = s.rr.lifecycle :=
  rfl

@[simp] theorem State.hostWindow_rr_lifecycle (s : State) (fr : List Word) (ix sub off : Nat) (whole piece : Bytes) (last : Bool) (flags : Nat) :
    (s.hostWindow fr ix sub off whole piece last flags).rr.lifecycle = s.rr.lifecycle := by
  simp [State.hostWindow]

@[simp] theorem State.hostAbort_rr_lifecycle (s : State) (fr : List Word) (k abort off : Nat) :
    (s.hostAbort fr k abort off).rr.lifecycle = s.rr.lifecycle :=
  rfl

@[simp] theorem State.hostStream_rr_lifecycle (s : State) (fr : List Word) (ix sub off : Nat) :
    (s.hostStream fr ix sub off).rr.lifecycle = s.rr.lifecycle := by
  unfold State.hostStream
  split <;> simp

@[simp] theorem State.hostValue_rr_lifecycle (s : State) (ix sub off : Nat) : (s.hostValue ix sub off).1.rr.lifecycle = s.rr.lifecycle := by
  unfold State.hostValue
  split <;> simp

@[simp] theorem State.hostRead_rr_lifecycle (s : State) (fr : List Word) : (s.hostRead fr).rr.lifecycle = s.rr.lifecycle := by simp [State.hostRead]

@[simp] theorem State.hostRespond_rr_lifecycle (s : State) : s.hostRespond.rr.lifecycle = s.rr.lifecycle := by
  unfold State.hostRespond
  (repeat' split) <;> simp

@[simp] theorem State.hostTake_rr_lifecycle (s : State) (n : Nat) : (s.hostTake n).rr.lifecycle = s.rr.lifecycle := rfl

@[simp] theorem State.fastWord_rr_lifecycle (s : State) (addr : Nat) : (s.fastWord addr).1.rr.lifecycle = s.rr.lifecycle := by
  simp [State.fastWord]; split <;> simp

@[simp] theorem State.fastRun_rr_lifecycle (s : State) (n a : Nat) : (s.fastRun n a).1.rr.lifecycle = s.rr.lifecycle := by
  induction n generalizing s a with
  | zero => rfl
  | succ n ih => exact (ih _ _).trans (s.fastWord_rr_lifecycle _)

@[simp] theorem State.hostFast_rr_lifecycle (s : State) (ws : List Word) : (s.hostFast ws).rr.lifecycle = s.rr.lifecycle := by simp [State.hostFast]

@[simp] theorem State.hostBegin_rr_lifecycle (s : State) (ws : List Word) : (s.hostBegin ws).rr.lifecycle = s.rr.lifecycle := rfl

@[simp] theorem State.fastFlags_rr_lifecycle (s : State) : s.fastFlags.rr.lifecycle = s.rr.lifecycle := by
  simp +contextual [State.fastFlags, foldl_rr_lifecycle]

theorem State.transaction_rr_lifecycle (s : State) (ws : List Word) (mine : Bool) (act : State → State)
    (hf : ∀ t : State, (act t).rr.lifecycle = t.rr.lifecycle) :
    (s.transaction ws mine act).rr.lifecycle = s.rr.lifecycle := by
  simp [State.transaction, hf]

@[simp] theorem State.streamIdle_rr_lifecycle (s : State) : s.streamIdle.rr.lifecycle = s.rr.lifecycle := by
  unfold State.streamIdle
  split <;> simp

@[simp] theorem State.snapTimeout_rr_lifecycle (s : State) (c : Client) : (s.snapTimeout c).rr.lifecycle = s.rr.lifecycle := by
  simp [State.snapTimeout]

/-! ## BDP -/

@[simp] theorem State.bdpConfig_rr_lifecycle (s : State) (bus : Nat) : (s.bdpConfig bus).rr.lifecycle = s.rr.lifecycle := by simp [State.bdpConfig]

@[simp] theorem State.idleTimeout_rr_lifecycle (s : State) (c : Client) : (s.idleTimeout c).rr.lifecycle = s.rr.lifecycle := by
  simp [State.idleTimeout]

@[simp] theorem State.bdpSend_rr_lifecycle (s : State) (bus ch : Nat) (fd short : Bool) (b : Bytes) :
    (s.bdpSend bus ch fd short b).rr.lifecycle = s.rr.lifecycle := by
  simp [State.bdpSend]; split <;> simp

@[simp] theorem State.xferDrop_rr_lifecycle (s : State) (c : Client) : (s.xferDrop c).rr.lifecycle = s.rr.lifecycle := rfl

@[simp] theorem State.bdpAbortFrame_rr_lifecycle (s : State) (bus ch : Nat) (fd : Bool) (k code : Nat) :
    (s.bdpAbortFrame bus ch fd k code).rr.lifecycle = s.rr.lifecycle := by
  simp [State.bdpAbortFrame]

@[simp] theorem State.bdpAbort_rr_lifecycle (s : State) (bus ch : Nat) (fd : Bool) (k code : Nat) (late : Bool) :
    (s.bdpAbort bus ch fd k code late).rr.lifecycle = s.rr.lifecycle := by
  simp [State.bdpAbort]

@[simp] theorem State.dropPending_rr_lifecycle (s : State) (c : Client) : (s.dropPending c).rr.lifecycle = s.rr.lifecycle := by
  simp [State.dropPending]

@[simp] theorem State.xferStart_rr_lifecycle (s : State) (c : Client) (t : Xfer) : (s.xferStart c t).rr.lifecycle = s.rr.lifecycle := rfl

@[simp] theorem State.xferSet_rr_lifecycle (s : State) (c : Client) (t : Xfer) : (s.xferSet c t).rr.lifecycle = s.rr.lifecycle := rfl

@[simp] theorem State.bdpWriteInit_rr_lifecycle (s : State) (bus ch : Nat) (fr : Bytes) (fd block : Bool) (ix sub : Nat) :
    (s.bdpWriteInit bus ch fr fd block ix sub).rr.lifecycle = s.rr.lifecycle := by
  simp [State.bdpWriteInit]

@[simp] theorem State.bdpValue_rr_lifecycle (s : State) (c : Client) (ix sub : Nat) : (s.bdpValue c ix sub).1.rr.lifecycle = s.rr.lifecycle := by
  simp [State.bdpValue]; split <;> simp

@[simp] theorem State.bdpBlock_rr_lifecycle (s : State) (bus ch : Nat) (t : Xfer) : (s.bdpBlock bus ch t).rr.lifecycle = s.rr.lifecycle := by
  simp +contextual [State.bdpBlock, foldl_rr_lifecycle]

@[simp] theorem State.bdpReadInit_rr_lifecycle (s : State) (bus ch : Nat) (fr : Bytes) (fd block : Bool) (ix sub : Nat) :
    (s.bdpReadInit bus ch fr fd block ix sub).rr.lifecycle = s.rr.lifecycle := by
  simp [State.bdpReadInit]

@[simp] theorem State.bdpReadEnd_rr_lifecycle (s : State) (bus ch : Nat) (t : Xfer) : (s.bdpReadEnd bus ch t).rr.lifecycle = s.rr.lifecycle := by
  simp [State.bdpReadEnd]

@[simp] theorem State.bdpReadDone_rr_lifecycle (s : State) (c : Client) (t : Xfer) : (s.bdpReadDone c t).rr.lifecycle = s.rr.lifecycle := by
  simp [State.bdpReadDone]

@[simp] theorem State.bdpReadSeg_rr_lifecycle (s : State) (bus ch : Nat) (fr : Bytes) (t : Xfer) :
    (s.bdpReadSeg bus ch fr t).rr.lifecycle = s.rr.lifecycle := by
  simp [State.bdpReadSeg]

@[simp] theorem State.bdpReadAck_rr_lifecycle (s : State) (bus ch : Nat) (fr : Bytes) (t : Xfer) :
    (s.bdpReadAck bus ch fr t).rr.lifecycle = s.rr.lifecycle := by
  simp [State.bdpReadAck]

@[simp] theorem State.bdpReadEndAck_rr_lifecycle (s : State) (bus ch : Nat) (t : Xfer) : (s.bdpReadEndAck bus ch t).rr.lifecycle = s.rr.lifecycle := by
  simp [State.bdpReadEndAck]

@[simp] theorem State.bdpWriteSeg_rr_lifecycle (s : State) (bus ch : Nat) (fr : Bytes) (t : Xfer) :
    (s.bdpWriteSeg bus ch fr t).rr.lifecycle = s.rr.lifecycle := by
  simp [State.bdpWriteSeg]

@[simp] theorem State.bdpBlockSeg_rr_lifecycle (s : State) (bus ch : Nat) (fr : Bytes) (t : Xfer) :
    (s.bdpBlockSeg bus ch fr t).rr.lifecycle = s.rr.lifecycle := by
  simp [State.bdpBlockSeg]

@[simp] theorem State.bdpTouch_rr_lifecycle (s : State) (c : Client) : (s.bdpTouch c).rr.lifecycle = s.rr.lifecycle := by
  simp [State.bdpTouch]; split <;> simp

@[simp] theorem State.bdpTimeout_rr_lifecycle (s : State) (bus ch : Nat) : (s.bdpTimeout bus ch).rr.lifecycle = s.rr.lifecycle := by
  simp [State.bdpTimeout]; split <;> simp

@[simp] theorem State.bdpRespond_rr_lifecycle (s : State) : s.bdpRespond.rr.lifecycle = s.rr.lifecycle := by
  refine foldl_rr_lifecycle (fun t x => ?_) _ s
  repeat' split
  all_goals simp

@[simp] theorem State.conflictDelay_rr_lifecycle (s : State) : s.conflictDelay.1.rr.lifecycle = s.rr.lifecycle := by
  unfold State.conflictDelay
  split
  · exact State.draw_rr_lifecycle ‹_›
  · rfl

@[simp] theorem State.bellRx_rr_lifecycle (s : State) (bus : Nat) (f : CanFrame) : (s.bellRx bus f).rr.lifecycle = s.rr.lifecycle := by
  simp [State.bellRx]

/-! ## Scheduler entries -/

@[simp] theorem State.schedFire_rr_lifecycle (s : State) (e skipped : Nat) : (s.schedFire e skipped).rr.lifecycle = s.rr.lifecycle := by
  simp [State.schedFire]

@[simp] theorem State.schedDisable_rr_lifecycle (s : State) (e : Nat) : (s.schedDisable e).rr.lifecycle = s.rr.lifecycle := by
  simp [State.schedDisable]

@[simp] theorem State.schedTest1_rr_lifecycle (s : State) (e : Nat) : (s.schedTest1 e).rr.lifecycle = s.rr.lifecycle := by
  simp [State.schedTest1]; split <;> simp

@[simp] theorem State.basisStep_rr_lifecycle (s : State) (b : Nat) (before : Option ℤ) : (s.basisStep b before).1.rr.lifecycle = s.rr.lifecycle := by
  unfold State.basisStep
  split <;> simp

@[simp] theorem State.basisSteps_rr_lifecycle (s : State) : s.basisSteps.rr.lifecycle = s.rr.lifecycle := by simp [State.basisSteps]

@[simp] theorem State.schedTest_rr_lifecycle (s : State) : s.schedTest.rr.lifecycle = s.rr.lifecycle := by
  simp +contextual [State.schedTest, foldl_rr_lifecycle]

/-! ## What follows a command -/

@[simp] theorem State.follow_rr_lifecycle (s : State) : s.follow.rr.lifecycle = s.rr.lifecycle := by simp [State.follow]

@[simp] theorem State.store_rr_lifecycle (s : State) : s.store.rr.lifecycle = s.rr.lifecycle := by simp [State.store]

@[simp] theorem State.respond_rr_lifecycle (s : State) : s.respond.rr.lifecycle = s.rr.lifecycle := by simp [State.respond]

@[simp] theorem State.settle_rr_lifecycle (s : State) : s.settle.rr.lifecycle = s.rr.lifecycle := by simp [State.settle]

@[simp] theorem State.turn_rr_lifecycle (s : State) (n : Nat) : (s.turn n).rr.lifecycle = s.rr.lifecycle := by simp [State.turn]

/-! ## Requests by row -/

theorem State.asked_rr_lifecycle (s : State) (c : Client) (f : State → State) (hf : ∀ t : State, (f t).rr.lifecycle = t.rr.lifecycle) :
    (s.asked c f).rr.lifecycle = s.rr.lifecycle := by
  simp [State.asked, hf]

@[simp] theorem State.asksRead_rr_lifecycle (s : State) (c : Client) (ix sub : Nat) : (s.asksRead c ix sub).rr.lifecycle = s.rr.lifecycle :=
  State.asked_rr_lifecycle s c _ fun t => t.readRequest_rr_lifecycle c ix sub

theorem State.whenOn_rr_lifecycle (s : State) (f : State → State) (hf : ∀ t : State, (f t).rr.lifecycle = t.rr.lifecycle) :
    (s.whenOn f).rr.lifecycle = s.rr.lifecycle := by
  simp [State.whenOn, hf]

theorem State.onBus_rr_lifecycle (s : State) (b : Nat) {f : State → State} (hf : ∀ t : State, (f t).rr.lifecycle = t.rr.lifecycle) :
    (s.onBus b f).rr.lifecycle = s.rr.lifecycle := by
  simp [State.onBus, State.whenOn_rr_lifecycle, hf]

@[simp] theorem State.captureSource_rr_lifecycle (s : State) (n : Nat) (latchClock : Bool) :
    (s.captureSource n latchClock).rr.lifecycle = s.rr.lifecycle := by
  simp [State.captureSource]

@[simp] theorem State.frameEnds_rr_lifecycle (s : State) (bus : Nat) (o : FrameOutcome) : (s.frameEnds bus o).rr.lifecycle = s.rr.lifecycle := by
  simp [State.frameEnds]; split <;> simp

end Sys2Proof.Machine
end


section
/-! SUPPORT. The lifecycle state only moves forward: what may advance it, from an advance up to a step (R470). -/

namespace Sys2Proof.Machine
open Sys2Proof

/-- From one of the four lifecycle states, the same one or a later one of the four (R470). -/
structure LifecycleForward (s t : State) : Prop where
  later : s.rr.lifecycle ≤ 4 → s.rr.lifecycle ≤ t.rr.lifecycle
  legal : s.rr.lifecycle ≤ 4 → t.rr.lifecycle ≤ 4

namespace LifecycleForward

variable {s t u : State}

theorem of_eq (h : t.rr.lifecycle = s.rr.lifecycle) : LifecycleForward s t := ⟨fun _ => h.ge, fun legal => h.trans_le legal⟩

theorem reaches {n : Nat} (later : s.rr.lifecycle ≤ n) (legal : n ≤ 4) (h : t.rr.lifecycle = n) : LifecycleForward s t :=
  ⟨fun _ => later.trans_eq h.symm, fun _ => h.trans_le legal⟩

theorem refl (s : State) : LifecycleForward s s := of_eq rfl

theorem then_eq (h : LifecycleForward s t) (k : u.rr.lifecycle = t.rr.lifecycle) : LifecycleForward s u :=
  ⟨fun legal => (h.later legal).trans_eq k.symm, fun legal => k.trans_le (h.legal legal)⟩

theorem after_eq (h : LifecycleForward t u) (k : t.rr.lifecycle = s.rr.lifecycle) : LifecycleForward s u :=
  ⟨fun legal => k.ge.trans (h.later (k.trans_le legal)), fun legal => h.legal (k.trans_le legal)⟩

theorem trans (h : LifecycleForward s t) (k : LifecycleForward t u) : LifecycleForward s u :=
  ⟨fun legal => (h.later legal).trans (k.later (h.legal legal)), fun legal => k.legal (h.legal legal)⟩

theorem ite {p : Prop} [Decidable p] (h : LifecycleForward s t) (k : LifecycleForward s u) : LifecycleForward s (if p then t else u) := by
  split
  · exact h
  · exact k

theorem foldl {α : Type} {f : State → α → State} (h : ∀ t x, LifecycleForward t (f t x)) (l : List α) (s : State) :
    LifecycleForward s (l.foldl f s) := by
  induction l generalizing s with
  | nil => exact refl s
  | cons x l ih => exact (h s x).trans (ih _)

end LifecycleForward

theorem State.lifecycleTo_rr_lifecycle (s : State) (n : Nat) : (s.lifecycleTo n).rr.lifecycle = n := by
  simp [State.lifecycleTo]

theorem State.advance_forward (s : State) (role n : Nat) : LifecycleForward s (s.advance role n).1 := by
  unfold State.advance
  extract_lets cause
  split
  · exact .refl s
  · next may =>
    have next : s.rr.lifecycle + 1 = n := by
      by_contra other
      have refused : cause = abSequence := if_pos (by simpa using Or.inr other)
      exact may (by simp [refused, abSequence])
    split
    · split
      · exact .refl s
      · exact .reaches (by omega) (by omega) (State.lifecycleTo_rr_lifecycle ..)
    · split
      · exact .reaches (by omega) (by omega) (State.lifecycleTo_rr_lifecycle ..)
      · exact ⟨fun legal => by rwa [State.lifecycleTo_rr_lifecycle], fun _ => by rw [State.lifecycleTo_rr_lifecycle]⟩

/-! ## What a write does -/

/-- The act of a way leads on. -/
structure Way.Forward (w : Way) : Prop where
  act : ∀ s, LifecycleForward s (w.act s).1

theorem Way.Forward.of_eq {w : Way} (h : ∀ s, (w.act s).1.rr.lifecycle = s.rr.lifecycle) : w.Forward := ⟨fun s => .of_eq (h s)⟩

theorem plainWay_forward (c : Client) (ix sub : Nat) (data : Bytes) : (plainWay c ix sub data).Forward := by
  unfold plainWay
  split
  · exact .of_eq fun s => s.persistentWrite_rr_lifecycle ..
  · exact .of_eq fun s => s.volatileWrite_rr_lifecycle ..

theorem forward_ite {p : Prop} [Decidable p] {w : Way} {o : Option Way} (first : w.Forward) (others : ∀ v ∈ o, v.Forward) :
    ∀ v ∈ (if p then some w else o), v.Forward := by
  split
  · exact fun v h => Option.some.inj h ▸ first
  · exact others

theorem forward_none : ∀ v ∈ (none : Option Way), v.Forward := fun _ h => nomatch h

theorem wayRoot_forward (c : Client) (ix sub : Nat) (data : Bytes) : ∀ w ∈ wayRoot c ix sub data, w.Forward := by
  unfold wayRoot
  refine forward_ite (.of_eq fun s => s.roleWrite_rr_lifecycle ..) <| forward_ite (.of_eq fun s => s.proofWrite_rr_lifecycle ..) <|
    forward_ite (.of_eq fun s => s.closeWrite_rr_lifecycle c) <| forward_ite (.of_eq fun s => rfl) <|
    forward_ite (.of_eq fun s => s.parkRequest_rr_lifecycle) <| forward_ite (.of_eq fun s => rfl) <|
    forward_ite (.of_eq fun s => s.clearSummary_rr_lifecycle _) <| forward_ite (.of_eq fun s => s.clearSource_rr_lifecycle ..) <|
    forward_ite ⟨fun s => s.advance_forward ..⟩ <| forward_ite (.of_eq fun s => s.updateCommand_rr_lifecycle ..) <|
    forward_ite (.of_eq fun s => s.chunk_rr_lifecycle _) <| forward_ite (.of_eq fun s => rfl) forward_none

theorem wayField_forward (c : Client) (ix sub : Nat) (data : Bytes) : ∀ w ∈ wayField c ix sub data, w.Forward := by
  unfold wayField
  dsimp only
  repeat' refine forward_ite (.of_eq fun s => ?_) ?_
  all_goals simp [okAct]

theorem wayKeys_forward (c : Client) (ix sub : Nat) (data : Bytes) : ∀ w ∈ wayKeys c ix sub data, w.Forward := by
  unfold wayKeys
  dsimp only
  repeat' refine forward_ite (.of_eq fun s => ?_) ?_
  all_goals simp [okAct]

theorem wayBus_forward (c : Client) (ix sub : Nat) (data : Bytes) (bad : List Nat) (tick : Bool) :
    ∀ w ∈ wayBus c ix sub data bad tick, w.Forward := by
  unfold wayBus
  dsimp only
  repeat' refine forward_ite (.of_eq fun s => ?_) ?_
  all_goals simp [okAct]

theorem wayWith_forward (c : Client) (ix sub : Nat) (data : Bytes) (bad : List Nat) (tick : Bool) :
    (wayWith c ix sub data bad tick).Forward := by
  unfold wayWith
  split
  · exact .of_eq fun s => s.controlWrite_rr_lifecycle ..
  · extract_lets own
    cases is : own with
    | none => exact plainWay_forward c ix sub data
    | some w =>
      dsimp only [own] at is
      split at is
      · exact wayRoot_forward _ _ _ _ w is
      · split at is
        · exact wayField_forward _ _ _ _ w is
        · split at is
          · exact wayKeys_forward _ _ _ _ w is
          · exact wayBus_forward _ _ _ _ _ _ w is

section
variable {s : State} {c : Client} {w : Way} (h : w.Forward)
include h

theorem State.runWay_forward (k : Nat) (data : Bytes) : LifecycleForward s (s.runWay c k data w) := by
  have acts : LifecycleForward s ((w.act s).1.answer c k (w.act s).2 [] true) := (h.act s).then_eq (by simp)
  unfold State.runWay
  exact .ite acts (.ite (.of_eq (by simp)) (.ite (.of_eq rfl) acts))

theorem State.startWay_forward (k : Nat) (data : Bytes) : LifecycleForward s (s.startWay c k data w) := by
  unfold State.startWay
  exact .ite (.of_eq (by simp)) (State.runWay_forward h k data)

theorem State.beginWrite_forward (ix sub : Nat) (data : Bytes) : LifecycleForward s (s.beginWrite c ix sub data w) := by
  unfold State.beginWrite
  exact .ite (.of_eq (by simp)) (.ite (.of_eq (by simp)) (.ite (State.runWay_forward h _ data) (State.startWay_forward h _ data)))

theorem State.writeWith_forward (ix sub : Nat) (data : Bytes) : LifecycleForward s (s.writeWith c ix sub data w) := by
  unfold State.writeWith
  exact .ite (.of_eq (by simp)) (State.beginWrite_forward h ix sub data)

end

theorem wayOf_forward (c : Client) (ix sub : Nat) (data : Bytes) : (wayOf c ix sub data).Forward := wayWith_forward c ix sub data [] false

section
variable (s : State)

theorem State.asksWrite_forward (c : Client) (ix sub : Nat) (data : Bytes) : LifecycleForward s (s.asksWrite c ix sub data) := by
  unfold State.asksWrite State.asked
  exact .ite (State.writeWith_forward (wayOf_forward c ix sub data) ix sub data) (.refl s)

theorem State.persistentCommit_forward (c : Client) : LifecycleForward s (s.persistentCommit c) := by
  unfold State.persistentCommit
  split
  · exact .refl s
  · next x _ =>
    exact .ite (.refl s) (.ite (.ite (.refl s) (.of_eq (by simp))) (.ite (.refl s) (.ite (.of_eq (by simp))
      (.after_eq (State.runWay_forward (wayOf_forward ..) _ x.data) rfl))))

theorem State.serveWaits_forward : LifecycleForward s s.serveWaits := by
  refine LifecycleForward.foldl (fun t (w : RngWait) => ?_) _ s
  exact .ite (.refl t) (.after_eq (State.startWay_forward (wayOf_forward ..) _ w.data) rfl)

theorem State.policyAsk_forward (src : Source) (code : Nat) : LifecycleForward s (s.policyAsk src code) := by
  cases src with
  | host c => exact s.asksWrite_forward c 0x2A20 1 _
  | can => exact .of_eq (by simp [State.policyAsk, State.whenOn])
  | door => exact .of_eq (by simp [State.policyAsk, State.whenOn])
  | walkAway => exact .of_eq (by simp [State.policyAsk, State.whenOn])

theorem State.hostWhole_forward (ix sub : Nat) (data tag : Bytes) : LifecycleForward s (s.hostWhole ix sub data tag) := by
  unfold State.hostWhole
  extract_lets x r cause
  have checked : r.1.rr.lifecycle = s.rr.lifecycle := by simp [r]
  exact .ite (.of_eq (by simp)) (.ite (.of_eq (by simp [checked])) (.ite (.of_eq (by simp [checked]))
    (.after_eq (State.beginWrite_forward (wayOf_forward ..) ix sub data) checked)))

theorem State.hostWrite_forward (fr : List Word) : LifecycleForward s (s.hostWrite fr) := by
  unfold State.hostWrite
  exact .ite (.of_eq (by simp)) (.ite (.after_eq (State.hostWhole_forward ..) (by simp)) (.of_eq (by simp)))

theorem State.hostRequest_forward (fr : List Word) : LifecycleForward s (s.hostRequest fr) := by
  unfold State.hostRequest
  refine .ite (.of_eq rfl) (.ite (.of_eq (by simp)) (.ite (.of_eq (by simp)) (.after_eq (State.hostWrite_forward _ fr) ?_)))
  simp

theorem State.hostFrame_forward (ws : List Word) : LifecycleForward s (s.hostFrame ws) := by
  unfold State.hostFrame
  exact .ite (.refl s) (.ite (.of_eq rfl) (.after_eq (State.hostRequest_forward ..) rfl))

theorem State.bdpCommit_forward (c : Client) (t : Xfer) (ix sub : Nat) : LifecycleForward s (s.bdpCommit c t ix sub) :=
  .after_eq (State.beginWrite_forward (wayOf_forward ..) ix sub t.data) (s.xferStart_rr_lifecycle c _)

theorem State.bdpExpedited_forward (bus ch : Nat) (fr : Bytes) (fd : Bool) (ix sub : Nat) :
    LifecycleForward s (s.bdpExpedited bus ch fr fd ix sub) := by
  unfold State.bdpExpedited
  exact .ite (.of_eq (by simp)) (.ite (.of_eq (by simp)) (s.bdpCommit_forward ..))

theorem State.bdpWriteEnd_forward (bus ch : Nat) (fr : Bytes) (t : Xfer) : LifecycleForward s (s.bdpWriteEnd bus ch fr t) := by
  unfold State.bdpWriteEnd
  extract_lets c ix sub r cause
  have checked : r.1.rr.lifecycle = s.rr.lifecycle := by simp [r]
  exact .ite (.of_eq (by simp)) (.ite (.of_eq (by simp)) (.ite (.of_eq (by simp)) (.ite (.of_eq (by simp [checked]))
    (.ite (.of_eq (by simp [checked])) (.after_eq (State.bdpCommit_forward ..) checked)))))

theorem State.bdpInXfer_forward (bus ch : Nat) (fr : Bytes) (t : Xfer) (k : BdpKind) : LifecycleForward s (s.bdpInXfer bus ch fr t k) := by
  cases k with
  | writeEnd => exact .ite (.refl s) (s.bdpWriteEnd_forward bus ch fr t)
  | _ => exact .of_eq (by simp [State.bdpInXfer])

theorem State.bdpInitiate_forward (bus ch : Nat) (fr : Bytes) (fd : Bool) (k : BdpKind) : LifecycleForward s (s.bdpInitiate bus ch fr fd k) := by
  unfold State.bdpInitiate
  extract_lets c ix sub s1
  have free : s1.rr.lifecycle = s.rr.lifecycle := by
    dsimp only [s1]
    split <;> simp
  refine .after_eq ?_ free
  cases k with
  | expedited => exact s1.bdpExpedited_forward bus ch fr fd ix sub
  | _ => exact .of_eq (by simp)

theorem State.bdpFrame_forward (bus ch : Nat) (fr : Bytes) (fd : Bool) : LifecycleForward s (s.bdpFrame bus ch fr fd) := by
  unfold State.bdpFrame
  refine .ite (.refl s) (.after_eq (t := s.bdpTouch (.can bus ch)) ?_ (s.bdpTouch_rr_lifecycle _))
  split
  · exact .refl _
  iterate 5 · exact State.bdpInitiate_forward ..
  · dsimp only
    split
    · exact .refl _
    · exact .ite (State.bdpInXfer_forward ..) (.refl _)

theorem State.bdpRx_forward (bus : Nat) (f : CanFrame) : LifecycleForward s (s.bdpRx bus f) := by
  unfold State.bdpRx
  exact .ite (.refl s) (.ite (.after_eq (State.bdpFrame_forward ..) (s.bdpConfig_rr_lifecycle bus)) (.of_eq (s.bdpConfig_rr_lifecycle bus)))

theorem State.frameIn_forward (bus : Nat) (f : CanFrame) (l : Bool) : LifecycleForward s (s.frameIn bus f l) := by
  unfold State.frameIn
  exact .ite (.refl s) (.after_eq (State.bdpRx_forward _ bus f) (by simp))

theorem State.bdpHeard_forward (bus ch : Nat) (fr : Bytes) (fd : Bool) (mine : BdpKind → Bool) :
    LifecycleForward s (s.bdpHeard bus ch fr fd mine) := by
  unfold State.bdpHeard
  exact .ite (s.frameIn_forward ..) (.refl s)

end

/-! ## Commands and steps -/

/-- What a command answers leads on from the state it was given to. -/
def Leads (s : State) (o : Out) : Prop := ∀ t, o = .next t → LifecycleForward s t

theorem leads_finish {s t : State} (h : LifecycleForward s t) : Leads s (finish s t) := fun _ is => by
  cases is
  exact ⟨h.later, h.legal⟩

/-- What leads on from the state after the time that passes leads on from the state before. -/
theorem leads_turn {s t : State} {dt : Nat} (h : LifecycleForward (s.turn dt) t) : Leads s (finish s t) :=
  leads_finish (h.after_eq (s.turn_rr_lifecycle dt))

theorem State.transaction_forward (s : State) (ws : List Word) (mine : Bool) {act : State → State}
    (h : ∀ t, LifecycleForward t (act t)) :
    LifecycleForward s (s.transaction ws mine act) := by
  unfold State.transaction
  exact .ite (.refl s) (.ite (.after_eq (h _) (by simp)) (.ite (.of_eq (by simp)) (.refl s)))

/-- No command takes the lifecycle state back: requests of a client may advance it, every other command keeps it. -/
theorem exec_leads (i : Instr) (s : State) : Leads s (exec i s) := by
  cases i with
  | unitStop | unitStart | objectWrite | role | proof | close | clearLostCount | applyFastMap | requestTelegram | stopPolling | restartPolling
  | runDiagnostics | resynchronise | calibrationStart | rowSelect | pairPartner | entryStatus | rotateGroupKey | importTractorRecord | zoneMap
  | engineRunning | windowData | refreshNow | killObject | keyImport | generate | erase | zeroizeNow | importPlain | zeroizeAll | slotSelect
  | anchorChange | summaryCertificate | testPattern | increment | requestExport | timerStart | timerStop | timerReset | timerRestart | groupStart
  | groupStop | groupReset | captureTrigger | timerClear | clearTamperFlags | clearOverrun | txRequest | txAbort | recover | resetNow | parkRequest
  | clearSummary | clearSource | clearLatches | advanceIntegration | advanceField | advanceReturned | updateBegin | chunk | updateVerify | activate =>
    exact leads_turn (State.asksWrite_forward ..)
  | expeditedWrite | segmentedWriteInitiate | blockWriteInitiate | readInitiate | blockReadInitiate | segmentedWriteSegment | blockWriteSegment
  | segmentedReadRequest | blockReadAcknowledgement | blockReadEndAcknowledgement | writeEnd | abort =>
    exact leads_turn (State.bdpHeard_forward ..)
  | unlock | start | lock | cancel | unlockedNotice => exact leads_turn (State.policyAsk_forward ..)
  | reqRead | reqWrite => exact leads_turn (State.transaction_forward _ _ _ fun t => t.hostFrame_forward _)
  | response => exact leads_turn (.of_eq (State.transaction_rr_lifecycle _ _ _ _ fun t => t.hostTake_rr_lifecycle _))
  | persistentCommit => exact leads_turn (State.persistentCommit_forward ..)
  | frameReceived => exact leads_turn (State.frameIn_forward ..)
  | refReceived | epochReceived | engineStateFrame => exact leads_turn (.ite (State.frameIn_forward ..) (.refl _))
  | ecb | cbc | ctr | gcm | ccm | cmac | sign | verify | ecdh | hash => exact leads_turn (.ite (State.asksWrite_forward ..) (.refl _))
  | blockRelease => exact leads_turn (.after_eq (State.serveWaits_forward _) (State.rngBlock_rr_lifecycle ..))
  | format | compare => exact leads_turn (.ite (State.writeWith_forward (wayWith_forward ..) ..) (.refl _))
  | _ =>
    exact leads_finish (.of_eq (by simp [State.whenOn, State.onBus, State.onUhf_rr_lifecycle, State.onHf_rr_lifecycle,
      State.uhfAccess_rr_lifecycle, State.transaction_rr_lifecycle, State.withPeerWindow_rr_lifecycle]))

theorem step_forward {s t : State} (h : step s = .next t) : LifecycleForward s t := by
  unfold step at h
  split at h
  · cases h
    exact .of_eq s.settle_rr_lifecycle
  · exact (exec_leads _ _ t h).after_eq rfl

/-- Settles O4: a new part is in FACTORY. -/
theorem lifecycleIsLegalAtReset : Obligations.LifecycleIsLegalAtReset := ⟨by decide, by decide⟩

/-- Settles O5: an advance takes the lifecycle state one on, and nothing else writes it. -/
theorem lifecycleOnlyMovesForward : Obligations.LifecycleOnlyMovesForward :=
  fun _ _ _ legal h => ⟨(step_forward h).later legal, (step_forward h).legal legal⟩

end Sys2Proof.Machine
end

section
/-! SUPPORT. What a reset leaves: the always-on domain, the ReRAM and the tag domain (R456). -/

namespace Sys2Proof.Machine
open Sys2Proof

/-! ## What the end of an operation under way leaves (R354, R456) -/

/-- What a cut of the operations under way leaves for the reset that follows. -/
structure KeepsThroughReset (s t : State) : Prop where
  aon : t.aon = s.aon
  objs : t.rr.objs = s.rr.objs
  slots : t.rr.slots = s.rr.slots
  lifecycle : t.rr.lifecycle = s.rr.lifecycle
  tagd : t.tagd = s.tagd

theorem KeepsThroughReset.refl (s : State) : KeepsThroughReset s s := ⟨rfl, rfl, rfl, rfl, rfl⟩

theorem KeepsThroughReset.trans {s t u : State} (h : KeepsThroughReset s t) (g : KeepsThroughReset t u) : KeepsThroughReset s u :=
  ⟨g.aon.trans h.aon, g.objs.trans h.objs, g.slots.trans h.slots, g.lifecycle.trans h.lifecycle, g.tagd.trans h.tagd⟩

theorem KeepsThroughReset.emitIf {s t : State} (h : KeepsThroughReset s t) {b : Bool} {u code p : Nat} : KeepsThroughReset s (t.emitIf b u code p) :=
  h.trans ⟨by simp, by simp, by simp, by simp, by simp⟩

theorem KeepsThroughReset.counterStore (s : State) (n k : Nat) : KeepsThroughReset s (s.counterStore n k) := by
  unfold State.counterStore
  refine .emitIf ?_
  exact ⟨rfl, rfl, rfl, rfl, rfl⟩

theorem KeepsThroughReset.nvEffect (s : State) (o : NvOp) : KeepsThroughReset s (s.nvEffect o) := by
  unfold State.nvEffect
  split
  · exact .counterStore ..
  · exact .refl s

theorem KeepsThroughReset.cutNv (s : State) (power : Bool) : KeepsThroughReset s (s.cutNv power) := by
  have torn : KeepsThroughReset s { s with free := s.free + 1 } := ⟨rfl, rfl, rfl, rfl, rfl⟩
  unfold State.cutNv
  split
  · exact .refl s
  · dsimp only
    split_ifs
    · exact torn.trans (.nvEffect ..)
    · exact torn
    · exact .nvEffect ..

theorem KeepsThroughReset.cutProgram (s : State) (power : Bool) : KeepsThroughReset s (s.cutProgram power) := by
  unfold State.cutProgram State.eraseDone
  split
  · split <;> exact ⟨rfl, rfl, rfl, rfl, rfl⟩
  · exact .refl s

/-! ## The state in reset (R456) -/

/-- A state in which a reset of a kind is held: what is volatile at its reset value, ReRAM and tag domain as before, and the always-on domain
too, unless VAON was lost. -/
structure InReset (u t : State) (kind wake : Nat) : Prop where
  held : t.sup.held = true
  latest : t.aon.resetKind = kind
  mode : t.aon.mode = 0
  volatile : t.dict = {} ∧ t.evq = [] ∧ t.objs = [] ∧ t.pol = {} ∧ t.us = []
  objs : t.rr.objs = u.rr.objs
  slots : t.rr.slots = u.rr.slots
  lifecycle : t.rr.lifecycle = u.rr.lifecycle
  job : t.tagd.job = u.tagd.job
  vtag : t.tagd.vtag = u.tagd.vtag
  aon : kind ≠ 1 → t.aon = { u.aon with mode := 0, resetKind := kind, wake := wake }
  lost : kind = 1 → t.aon.marks = [] ∧ t.aon.latches = 0 ∧ t.aon.acc = 0 ∧ t.aon.history = []

/-- Rooster's restoration moves its own registers alone (R97). -/
theorem State.roosterRestore_eq (s : State) : ∃ r, s.roosterRestore = { s with aon := { s.aon with rooster := r } } := by
  unfold State.roosterRestore
  split
  · exact ⟨_, rfl⟩
  · exact ⟨_, rfl⟩

theorem State.resetTo_inReset (s : State) (kind wake : Nat) : InReset s (s.resetTo kind wake) kind wake := by
  obtain ⟨aon, objs, slots, lifecycle, tagd⟩ := (KeepsThroughReset.cutNv s (kind == 1 || kind == 2)).trans (.cutProgram _ (kind == 1 || kind == 2))
  unfold State.resetTo
  extract_lets power s1 before keep x
  have job : x.tagd.job = s.tagd.job := (congrArg TagDom.job tagd :)
  have vtag : x.tagd.vtag = s.tagd.vtag := (congrArg TagDom.vtag tagd :)
  by_cases vaon : kind = 1
  · obtain ⟨r, restored⟩ := x.roosterRestore_eq
    have fresh : x.aon = {} := if_pos vaon
    rw [if_pos vaon, restored]
    refine ⟨rfl, ?_, ?_, ⟨rfl, rfl, rfl, rfl, rfl⟩, objs, slots, lifecycle, job, vtag, fun h => absurd vaon h, fun _ => ⟨?_, ?_, ?_, ?_⟩⟩
    all_goals dsimp only; rw [fresh]
    exact vaon.symm
  · have kept : x.aon = { s.aon with mode := 0, resetKind := kind, wake := wake } := by
      rw [← aon]
      exact if_neg vaon
    rw [if_neg vaon]
    exact ⟨rfl, by rw [kept], by rw [kept], ⟨rfl, rfl, rfl, rfl, rfl⟩, objs, slots, lifecycle, job, vtag, fun _ => kept, fun h => absurd h vaon⟩

/-! ## Where resets come from (R444, R450, R456, R507) -/

theorem State.railReset_below (s : State) {rail mv : Nat} (which : rail ≤ 2) (low : mv < Machine.railReset rail) :
    s.railReset rail mv = s.resetTo 2 0 :=
  if_pos (by simp [railLow, which, low])

theorem State.railReset_vaon (s : State) {mv : Nat} (low : mv < 2500) : s.railReset 4 mv = s.resetTo 1 0 :=
  (if_neg (by simp)).trans (if_pos (by simpa [railLow, show Machine.railReset 4 = 2500 from rfl] using low))

theorem State.railReset_above (s : State) {rail mv : Nat} (fine : (rail ≤ 2 ∧ Machine.railReset rail ≤ mv) ∨ rail = 3 ∨ (rail = 4 ∧
    2500 ≤ mv) ∨ 4 < rail) :
    s.railReset rail mv = s := by
  unfold State.railReset
  rw [if_neg, if_neg]
  · rintro h
    simp only [railLow, Bool.and_eq_true, decide_eq_true_eq] at h
    obtain ⟨rfl, low⟩ := h
    rw [show Machine.railReset 4 = 2500 from rfl] at low
    omega
  · rintro h
    simp only [railLow, Bool.and_eq_true, decide_eq_true_eq] at h
    obtain ⟨le, low⟩ := h
    omega

theorem railReset_of_le {rail : Nat} (le : rail ≤ 2) : railReset rail = if rail = 0 then 700 else if rail = 1 then 2800 else 1620 := by
  interval_cases rail <;> rfl

theorem State.externalReset_long (s : State) {ns : Nat} (long : 1000 ≤ ns) : s.externalReset ns = s.resetTo 3 0 := if_pos long

theorem State.externalReset_short (s : State) {ns : Nat} (short : ns < 1000) : s.externalReset ns = s := if_neg (by omega)

theorem State.whenOn_off {s : State} (off : s.powered = false) (f : State → State) : s.whenOn f = s := if_neg (by simp [off])

theorem State.deferredReset_none {s : State} (none_ : s.sup.pendingReset = none) : s.deferredReset = s := by
  rw [State.deferredReset, none_]

section
variable {s : State} {k t : Nat} {d : Client} (asked : s.sup.pendingReset = some (k, d, t))
include asked

theorem State.deferredReset_due (due : s.responseGone d = true ∨ t + 100000000 ≤ s.now) : s.deferredReset = s.resetTo k 0 := by
  have due : s.responseGone d = true ∨ t + 100 * msNs ≤ s.now := due
  rw [State.deferredReset, asked]
  exact if_pos (by simpa only [Bool.or_eq_true, decide_eq_true_eq] using due)

theorem State.deferredReset_early (unsent : s.responseGone d = false) (early : s.now < t + 100000000) : s.deferredReset = s := by
  rw [State.deferredReset, asked]
  exact if_neg (by simp only [unsent, Bool.false_or, decide_eq_true_eq]; exact Nat.not_le.mpr early)

end

theorem State.thermalReset_hot {s : State} (on : s.powered = true) {l : List Int} (four : l.length = 4) (hot : 540 ≤ tjOf l) :
    s.thermalReset l = s.resetTo 5 0 := if_pos (by simp [on, hot, List.take_of_length_le four.le])

theorem State.thermalReset_cool {s : State} {l : List Int} (four : l.length = 4) (cool : tjOf l < 540) : s.thermalReset l = s :=
  if_neg (by simp [cool, List.take_of_length_le four.le])

theorem State.thermalReset_off {s : State} (off : s.powered = false) (l : List Int) : s.thermalReset l = s := if_neg (by simp [off])

end Sys2Proof.Machine
end

section
/-! SUPPORT. Tamper detections: the latch, the log of the detections with the rails down, and the slots (R468, R469). -/

namespace Sys2Proof.Machine
open Sys2Proof

/-! ## What leaves the latches and the log alone -/

structure KeepsTamper (s t : State) : Prop where
  latches : t.aon.latches = s.aon.latches
  offline : t.aon.offline = s.aon.offline

theorem KeepsTamper.refl (s : State) : KeepsTamper s s := ⟨rfl, rfl⟩

theorem KeepsTamper.of_aon {s t : State} (h : t.aon = s.aon) : KeepsTamper s t := ⟨by rw [h], by rw [h]⟩

theorem KeepsTamper.trans {s t u : State} (h : KeepsTamper s t) (g : KeepsTamper t u) : KeepsTamper s u :=
  ⟨g.latches.trans h.latches, g.offline.trans h.offline⟩

theorem KeepsTamper.foldl {α : Type} {f : State → α → State} (h : ∀ s a, KeepsTamper s (f s a)) (l : List α) (s : State) :
    KeepsTamper s (l.foldl f s) := by
  induction l generalizing s with
  | nil => exact .refl s
  | cons a r ih => exact (h s a).trans (ih _)

theorem KeepsTamper.emit {s t : State} (h : KeepsTamper s t) {u code p : Nat} : KeepsTamper s (t.emit u code p) := h.trans (.of_aon (by simp))

theorem KeepsTamper.emitIf {s t : State} (h : KeepsTamper s t) {b : Bool} {u code p : Nat} : KeepsTamper s (t.emitIf b u code p) :=
  h.trans (.of_aon (by simp))

theorem KeepsTamper.counterRefuse (s : State) (n : Nat) : KeepsTamper s (s.counterRefuse n) := by
  unfold State.counterRefuse
  dsimp only
  split
  · exact .refl s
  · refine .emit ?_
    exact ⟨rfl, rfl⟩

theorem KeepsTamper.increment (s : State) (n k : Nat) : KeepsTamper s (s.increment n k) := by
  unfold State.increment
  split
  · exact .counterRefuse s n
  · split
    · exact ⟨rfl, rfl⟩
    · exact .of_aon (s.nvRequest_aon _)

theorem KeepsTamper.addPulses (s : State) (n : Nat) : KeepsTamper s (s.addPulses n) := by
  unfold State.addPulses
  dsimp only
  split_ifs
  · exact .refl s
  · exact ⟨rfl, rfl⟩
  · exact .counterRefuse s 0
  · refine .trans ?_ (.increment ..)
    exact ⟨rfl, rfl⟩

theorem KeepsTamper.toPulses (s : State) : KeepsTamper s s.toPulses := by
  unfold State.toPulses
  split
  · exact .refl s
  · refine .trans ?_ (.addPulses ..)
    exact ⟨rfl, rfl⟩

theorem KeepsTamper.sessionEnd (s : State) (n cause : Nat) : KeepsTamper s (s.sessionEnd n cause) := by
  unfold State.sessionEnd
  dsimp only
  split
  · exact .refl s
  · refine .emit ?_
    exact ⟨rfl, rfl⟩

theorem KeepsTamper.endSessions (s : State) (p : Row → Bool) (cause : Nat) : KeepsTamper s (s.endSessions p cause) := by
  refine .foldl (fun t e => ?_) _ s
  split
  · exact .sessionEnd ..
  · exact .refl t

theorem KeepsTamper.ctxRevoke (s : State) (n : Nat) : KeepsTamper s (s.ctxRevoke n) := by
  unfold State.ctxRevoke
  dsimp only
  split_ifs
  · exact .refl s
  all_goals exact .trans (.endSessions ..) ⟨rfl, rfl⟩

theorem KeepsTamper.revokeWorking (s : State) (n : Nat) : KeepsTamper s (s.revokeWorking n) := by
  unfold State.revokeWorking
  split_ifs
  · exact ⟨rfl, rfl⟩
  · exact .refl s
  · unfold State.linkTo
    refine (KeepsTamper.toPulses s).trans (.emitIf ?_)
    exact ⟨rfl, rfl⟩
  · exact .ctxRevoke s n

theorem KeepsTamper.cipherRevoke (s : State) (n : Nat) : KeepsTamper s (s.cipherRevoke n) := by
  unfold State.cipherRevoke
  split
  · exact .refl s
  · refine .emit ?_
    exact ⟨rfl, rfl⟩

theorem KeepsTamper.pkRevoke (s : State) (n : Nat) : KeepsTamper s (s.pkRevoke n).1 := by
  unfold State.pkRevoke
  split
  · exact .refl s
  · split
    · refine .emit ?_
      exact ⟨rfl, rfl⟩
    · exact .refl s

theorem KeepsTamper.markZeroized {s t : State} (h : KeepsTamper s t) (n : Nat) : KeepsTamper s (t.markZeroized n) := ⟨h.latches, h.offline⟩

/-- A zeroize marks a slot; the latches and the log stay (R300, R469). -/
theorem KeepsTamper.zeroizeSlot (s : State) (n kind : Nat) : KeepsTamper s (s.zeroizeSlot n kind) := by
  have jobs : KeepsTamper s ((s.coresOn n).foldl (fun (t : State) k => t.cipherRevoke k) (s.pkRevoke n).1) :=
    (KeepsTamper.pkRevoke s n).trans (.foldl (fun t k => .cipherRevoke t k) _ _)
  exact (jobs.markZeroized n).trans (KeepsTamper.revokeWorking _ n).emit.emitIf

theorem KeepsTamper.zeroizeEvery (s : State) : KeepsTamper s s.zeroizeEvery := .foldl (fun t n => .zeroizeSlot t n 3) _ s

/-! ## A detection (R468, R469) -/

/-- The latch of a source is set. -/
def State.latch (s : State) (src : Nat) : State := { s with aon := { s.aon with latches := s.aon.latches ||| 2 ^ (src - 1) } }

theorem State.bit_latch (s : State) (src : Nat) : bit (s.latch src).aon.latches (src - 1) = true := by
  rw [State.latch, bit, Nat.testBit_or, Nat.testBit_two_pow_self, Bool.or_true]

theorem State.bit_latch_other (s : State) {src b : Nat} (other : b ≠ src - 1) : bit (s.latch src).aon.latches b = bit s.aon.latches b := by
  rw [State.latch, bit, Nat.testBit_or, Nat.testBit_two_pow_of_ne (Ne.symm other), Bool.or_false, bit]

/-- What a detection from a source does: its latch, the slots where the response zeroizes, the log and the reset with the rails down. -/
structure TamperHit (s t : State) (src : Nat) (zero : Prop) : Prop where
  latched : bit t.aon.latches (src - 1) = true
  others : ∀ b, b ≠ src - 1 → bit t.aon.latches b = bit s.aon.latches b
  emptied : zero → ∀ m, m < 64 → (t.slot m).ty = 0
  kept : ¬zero → ∀ m, t.slot m = s.slot m
  live : (s.aon.mode = 1 ∨ s.powered = true) → s.sup.held = false → s.sup.scan = false → t.aon.offline = s.aon.offline
  logged : ¬(s.aon.mode = 1 ∨ s.powered = true) → s.aon.offline.length < 8 → ∃ e, t.aon.offline = s.aon.offline ++ [e] ∧ e.src = src
  wakes : ¬(s.aon.mode = 1 ∨ s.powered = true) → zero → 2 ≤ s.aon.mode → t.aon.resetKind = 9 ∧ t.aon.mode = 0

/-- What ungating brings back keeps the keys, the latches, the log and the objects. -/
theorem State.ungate_keeps (s : State) : KeepsKeys s s.ungate ∧ KeepsTamper s s.ungate ∧ s.ungate.objs = s.objs ∧ s.ungate.rr.objs = s.rr.objs ∧
    s.ungate.sup = s.sup := by
  unfold State.ungate
  split
  · refine ⟨(KeepsKeys.refl s).trans (.emit ?_), (KeepsTamper.refl s).trans (.emit ?_), by simp, by simp, by simp⟩
    · exact ⟨rfl, rfl, rfl, rfl, rfl, rfl⟩
    · exact ⟨rfl, rfl⟩
  · exact ⟨.refl s, .refl s, rfl, rfl, rfl⟩

/-- The control domain runs after ungating where it ran, and where it was gated with no reset held and no scan. -/
theorem State.ungate_powered (s : State) : s.ungate.powered = (decide (s.aon.mode ≤ 1) && !s.sup.held && !s.sup.scan) := by
  have sup := s.ungate_keeps.2.2.2.2
  have mode : (s.ungate.aon.mode == 0) = decide (s.aon.mode ≤ 1) := by
    unfold State.ungate
    split
    · next gated => rw [State.emit_aon, gated]; rfl
    · next other => rw [Bool.eq_iff_iff, beq_iff_eq, decide_eq_true_eq]; omega
  rw [State.powered, sup, mode]

theorem KeepsKeys.tamperRecord (s : State) (src : Nat) : KeepsKeys s (s.tamperRecord src) := by
  unfold State.tamperRecord
  refine .emit ((KeepsKeys.increment s 5 1).trans ?_)
  exact ⟨rfl, rfl, rfl, rfl, rfl, rfl⟩

theorem KeepsTamper.tamperRecord (s : State) (src : Nat) : KeepsTamper s (s.tamperRecord src) := by
  unfold State.tamperRecord
  refine .emit ((KeepsTamper.increment s 5 1).trans ?_)
  exact ⟨rfl, rfl⟩

/-- Every slot marked (R300, R469). -/
theorem State.slot_allMarked {s : State} {old : List Nat} (marks : s.aon.marks = old ++ List.range 64) {m : Nat} (lt : m < 64) : (s.slot m).ty = 0 :=
    by
  have some_ : s.marksOf m ≠ 0 := by
    rw [State.marksOf, marks, List.filter_append, List.length_append]
    have one : 0 < ((List.range 64).filter (· == m)).length := List.length_pos_iff.mpr (List.ne_nil_of_mem (a := m) (by simp [lt]))
    omega
  rw [State.slot_marked some_]

/-- A detection as the state after ungating finds it, with the control rails up. -/
theorem State.tamperDetect_up (s : State) (src : Nat) (up : (s.latch src).ungate.powered = true) : s.tamperDetect src =
    if (s.latch src).ungate.tamperZeroizes src then ((s.latch src).ungate.tamperRecord src).zeroizeEvery else (s.latch src).ungate.tamperRecord src :=
  if_pos up

/-- The log of a detection with the rails down (R469). -/
def State.logTamper (s : State) (src : Nat) : State :=
  { s with aon := { s.aon with
    offline := if s.aon.offline.length < 8 then s.aon.offline ++ [{ src := src, count := s.aon.clock * 32 / 1000000 % 2 ^ 32 }] else s.aon.offline } }

/-- Every slot's mark is set (R469). -/
def State.markAll (s : State) : State := { s with aon := { s.aon with marks := s.aon.marks ++ List.range 64 } }

/-- A detection with the control rails down. -/
theorem State.tamperDetect_down (s : State) (src : Nat) (down : (s.latch src).ungate.powered = false) : s.tamperDetect src =
    if (s.latch src).ungate.tamperZeroizes src then
      (if 2 ≤ s.aon.mode then ((s.latch src).ungate.logTamper src).markAll.resetTo 9 0 else ((s.latch src).ungate.logTamper src).markAll)
    else (s.latch src).ungate.logTamper src :=
  if_neg (by simpa [State.latch] using down)

/-! What the state after the latch and the ungating has of the state before it. -/

section
variable (s : State) (src : Nat)

theorem State.latched_keys : KeepsKeys s (s.latch src).ungate :=
  (⟨rfl, rfl, rfl, rfl, rfl, rfl⟩ : KeepsKeys s (s.latch src)).trans (s.latch src).ungate_keeps.1

theorem State.latched_offline : (s.latch src).ungate.aon.offline = s.aon.offline := (s.latch src).ungate_keeps.2.1.offline

theorem State.latched_response : (s.latch src).ungate.tamperZeroizes src = s.tamperZeroizes src := by
  obtain ⟨keys, -, ram, reram, -⟩ := (s.latch src).ungate_keeps
  have obj (sub : Nat) : (s.latch src).ungate.obj 0x1482 sub = s.obj 0x1482 sub := State.obj_congr ram reram
  rw [State.tamperZeroizes, State.tamperZeroizes, keys.lifecycle, obj, obj]
  rfl

/-- Latches that stand since then: the source's own set, the others as before. -/
theorem State.latched_bits {t : State} (same : t.aon.latches = (s.latch src).ungate.aon.latches) :
    bit t.aon.latches (src - 1) = true ∧ ∀ b, b ≠ src - 1 → bit t.aon.latches b = bit s.aon.latches b := by
  rw [same, (s.latch src).ungate_keeps.2.1.latches]
  exact ⟨s.bit_latch src, fun b other => s.bit_latch_other other⟩

theorem State.latched_powered :
    (s.latch src).ungate.powered = true ↔ (s.aon.mode = 1 ∨ s.powered = true) ∧ s.sup.held = false ∧ s.sup.scan = false := by
  have mode : s.aon.mode ≤ 1 ↔ s.aon.mode = 1 ∨ s.aon.mode = 0 := by omega
  rw [(s.latch src).ungate_powered, State.powered]
  simp only [State.latch, Bool.and_eq_true, decide_eq_true_eq, Bool.not_eq_true', beq_iff_eq, mode]
  tauto

end

section
variable {s : State} {src : Nat} {zero : Prop} (response : s.tamperZeroizes src = true ↔ zero)
include response

/-- With the control rails up a detection is recorded, and the response zeroizes at once. -/
theorem State.tamperDetect_hit_up (up : (s.latch src).ungate.powered = true) : TamperHit s (s.tamperDetect src) src zero := by
  obtain ⟨live, -, -⟩ := (s.latched_powered src).mp up
  have act := s.tamperDetect_up src up
  have keys := s.latched_keys src
  have offline := s.latched_offline src
  have bits {t : State} := s.latched_bits src (t := t)
  rw [s.latched_response src] at act
  generalize (s.latch src).ungate = v at act keys offline bits
  obtain yes | no := Bool.eq_false_or_eq_true (s.tamperZeroizes src)
  · rw [act, if_pos yes]
    have keep := (KeepsTamper.tamperRecord v src).trans (.zeroizeEvery _)
    obtain ⟨own, others⟩ := bits keep.latches
    exact ⟨own, others, fun _ m lt => by rw [State.zeroizeEvery_slot _ lt], fun spare => absurd (response.mp yes) spare,
      fun _ _ _ => keep.offline.trans offline, fun dead => absurd live dead, fun dead => absurd live dead⟩
  · rw [act, if_neg (by simp [no])]
    have keep := KeepsTamper.tamperRecord v src
    obtain ⟨own, others⟩ := bits keep.latches
    exact ⟨own, others, fun z => absurd (response.mpr z) (by simp [no]), fun _ m => (keys.trans (.tamperRecord v src)).slot m,
      fun _ _ _ => keep.offline.trans offline, fun dead => absurd live dead, fun dead => absurd live dead⟩

/-- With the control rails down a detection is logged; the response marks every slot and wakes the device. -/
theorem State.tamperDetect_hit_down (down : (s.latch src).ungate.powered = false) : TamperHit s (s.tamperDetect src) src zero := by
  have dead : (s.aon.mode = 1 ∨ s.powered = true) → s.sup.held = false → s.sup.scan = false → False := fun live held scan =>
    Bool.false_ne_true (down.symm.trans ((s.latched_powered src).mpr ⟨live, held, scan⟩))
  have act := s.tamperDetect_down src down
  have keys := s.latched_keys src
  have offline := s.latched_offline src
  have bits {t : State} := s.latched_bits src (t := t)
  rw [s.latched_response src] at act
  generalize (s.latch src).ungate = v at act keys offline bits
  have logged (room : s.aon.offline.length < 8) : ∃ e, (v.logTamper src).aon.offline = s.aon.offline ++ [e] ∧ e.src = src := by
    refine ⟨{ src := src, count := v.aon.clock * 32 / 1000000 % 2 ^ 32 }, ?_, rfl⟩
    rw [State.logTamper, if_pos (by rw [offline]; exact room), offline]
  obtain yes | no := Bool.eq_false_or_eq_true (s.tamperZeroizes src)
  · rw [act, if_pos yes]
    have marked {t : State} (same : t.aon.marks = (v.logTamper src).markAll.aon.marks) (m : Nat) (lt : m < 64) : (t.slot m).ty = 0 :=
      State.slot_allMarked (same.trans rfl) lt
    split
    · have aon := ((v.logTamper src).markAll.resetTo_inReset 9 0).aon (by decide)
      obtain ⟨own, others⟩ := bits (t := (v.logTamper src).markAll.resetTo 9 0) (by rw [aon]; rfl)
      exact ⟨own, others, fun _ => marked (by rw [aon]), fun spare => absurd (response.mp yes) spare, fun a b d => (dead a b d).elim,
        fun _ room => by rw [aon]; exact logged room, fun _ _ _ => by rw [aon]; exact ⟨rfl, rfl⟩⟩
    · next awake =>
      obtain ⟨own, others⟩ := bits (t := (v.logTamper src).markAll) rfl
      exact ⟨own, others, fun _ => marked rfl, fun spare => absurd (response.mp yes) spare, fun a b d => (dead a b d).elim,
        fun _ room => logged room, fun _ _ parked => absurd parked awake⟩
  · rw [act, if_neg (by simp [no])]
    obtain ⟨own, others⟩ := bits (t := v.logTamper src) rfl
    exact ⟨own, others, fun z => absurd (response.mpr z) (by simp [no]), fun _ m => (keys.trans ⟨rfl, rfl, rfl, rfl, rfl, rfl⟩).slot m,
      fun a b d => (dead a b d).elim, fun _ room => logged room, fun _ z => absurd (response.mpr z) (by simp [no])⟩

theorem State.tamperDetect_hit : TamperHit s (s.tamperDetect src) src zero := by
  cases up : (s.latch src).ungate.powered with
  | true => exact State.tamperDetect_hit_up response up
  | false => exact State.tamperDetect_hit_down response up

end

end Sys2Proof.Machine
end

section
/-! SUPPORT. Parking, waking from the gated mode, and the confirmation of a trial (R452 to R455, R473). -/

namespace Sys2Proof.Machine
open Sys2Proof

/-! ## Parking (R453, R454) -/

theorem State.mayPark_iff (s : State) : s.mayPark = true ↔ s.pol.engine = false ∧ s.pol.out = 0 ∧ (∀ x ∈ s.dict.clients, x.st = 2 → x.role = roleH) ∧
    s.dict.stream = none ∧ s.cipher.holder = none ∧ s.pk.holder = none ∧ s.phy.cal = none ∧ s.jr.st ≠ 2 ∧ s.sup.update ≠ 1 ∧ s.sup.trial = false := by
  simp [State.mayPark, State.streamOpen, and_assoc]

section
variable {u : State} {c : Client}

theorem asksWrite_park (acc : Accepts u c 0x1201 2 [1]) :
    u.asksWrite c 0x1201 2 [1] = u.parkRequest.1.answer c (key 0x1201 2) u.parkRequest.2 [] true :=
  asksWrite_acts { act := fun s => s.parkRequest } rfl acc (by decide) (by decide) rfl (by simp) rfl

theorem State.parkRequest_barred (barred : u.mayPark = false) : u.parkRequest = (u, abSequence) := if_pos (by simp [barred])

theorem State.parkRequest_again (may : u.mayPark = true) (parking : u.sup.parkStep ≠ 0) : u.parkRequest = (u, abOk) :=
  (if_neg (by simp [may])).trans (if_pos parking)

theorem State.parkRequest_begins (may : u.mayPark = true) (idle : u.sup.parkStep = 0) : u.parkRequest = (u.parkBegin 1, abOk) :=
  (if_neg (by simp [may])).trans (if_neg (not_not.mpr idle))

end

/-- The host port has been idle for 0x1201:03 and parking may begin (R452). -/
def State.IdleParkDue (s : State) : Prop :=
  s.powered = true ∧ s.obj 0x1201 3 ≠ 0 ∧ s.host.idleFrom + s.obj 0x1201 3 * 1000000000 ≤ s.now ∧ s.mayPark = true ∧ s.sup.parkStep = 0

theorem State.parkIdle_if (s : State) : (s.powered && s.obj 0x1201 3 != 0 && decide (s.host.idleFrom + s.obj 0x1201 3 * secNs ≤ s.now) && s.mayPark &&
    s.sup.parkStep == 0) = true ↔ s.IdleParkDue := by
  simp only [State.IdleParkDue, Bool.and_eq_true, bne_iff_ne, decide_eq_true_eq, beq_iff_eq, and_assoc]
  exact Iff.rfl

theorem State.parkIdle_due {s : State} (due : s.IdleParkDue) : s.parkIdle = s.parkBegin 2 := if_pos (s.parkIdle_if.mpr due)

theorem State.parkIdle_waits {s : State} (wait : ¬s.IdleParkDue) : s.parkIdle = s := if_neg (mt s.parkIdle_if.mp wait)

/-- The journal is flushed, or its medium is out of service and 1 s has passed (R454). -/
def State.ParkingDone (s : State) : Prop :=
  s.powered = true ∧ s.sup.parkStep = 4 ∧ s.nv.run = none ∧
    ((s.jr.tail = [] ∧ s.jr.op = none ∧ s.jr.pageRecs = []) ∨ (s.jr.st ≠ 3 ∧ s.sup.parkAt + 1000000000 ≤ s.now))

theorem State.parkingComplete_due {s : State} (due : s.ParkingDone) : s.whenOn State.parkingComplete = s.toMode s.parkMode s.sup.parkCause := by
  obtain ⟨on, step, nv, ready⟩ := due
  refine (State.whenOn_on on _).trans (if_pos ?_)
  have ready : (s.jr.tail = [] ∧ s.jr.op = none ∧ s.jr.pageRecs = []) ∨ (s.jr.st ≠ 3 ∧ s.sup.parkAt + secNs ≤ s.now) := ready
  simpa [step, nv, and_assoc] using ready

theorem State.parkingComplete_waits {s : State} (wait : ¬s.ParkingDone) : s.whenOn State.parkingComplete = s := by
  cases on : s.powered with
  | false => exact State.whenOn_off on _
  | true =>
    refine (State.whenOn_on on _).trans (if_neg fun due => wait ⟨on, ?_⟩)
    have due : s.sup.parkStep = 4 ∧ s.nv.run = none ∧
        ((s.jr.tail = [] ∧ s.jr.op = none ∧ s.jr.pageRecs = []) ∨ (s.jr.st ≠ 3 ∧ s.sup.parkAt + secNs ≤ s.now)) := by
      simpa [and_assoc] using due
    exact due

/-- Gating keeps the volatile state, a mode without the control rails loses it (R452). -/
theorem State.toMode_spec (s : State) (mode cause : Nat) : let t := s.toMode mode cause
    t.aon = { s.aon with mode := mode } ∧ t.rr.objs = s.rr.objs ∧ t.rr.slots = s.rr.slots ∧
      (mode = 1 → t.sup.parkStep = 0 ∧ t.dict = s.dict ∧ t.objs = s.objs) ∧ (mode ≠ 1 → t.dict = {} ∧ t.objs = [] ∧ t.evq = [] ∧ t.rng = {}) := by
  unfold State.toMode
  dsimp only
  split
  · next gated =>
    subst gated
    exact ⟨congrArg (fun a : Aon => { a with mode := 1 }) (s.emit_aon ..), s.emit_rr_objs .., s.emit_rr_slots ..,
      fun _ => ⟨rfl, s.emit_dict .., s.emit_objs ..⟩, fun other => absurd rfl other⟩
  · next off =>
    exact ⟨congrArg (fun a : Aon => { a with mode := mode }) (s.emit_aon ..), s.emit_rr_objs .., s.emit_rr_slots .., fun gated => absurd gated off,
      fun _ => ⟨rfl, rfl, rfl, rfl⟩⟩

/-! ## HOST_UNGATE (R455) -/

theorem State.hostUngate_awake {s : State} (awake : s.aon.mode ≠ 1) : s.hostUngate = s := if_neg awake

theorem State.hostUngate_gated {s : State} (gated : s.aon.mode = 1) : s.hostUngate.aon.mode = 0 ∧ s.hostUngate.host.idleFrom = s.now ∧
    s.hostUngate.dict = s.dict ∧ s.hostUngate.rr.objs = s.rr.objs := by
  simp [State.hostUngate, State.ungate, gated]

/-! ## TRIAL_CONFIRMED (R473) -/

/-- A trial is confirmed 60 s after step 6, with no lasting fault of a pair, once no fence is up. -/
def State.TrialDue (s : State) : Prop :=
  s.powered = true ∧ s.sup.trial = true ∧ s.lasting 1 = false ∧ s.lasting 2 = false ∧ (∃ t, s.sup.step6 = some t ∧ t + 60000000000 ≤ s.now) ∧
      s.fenced = false

theorem State.trialConfirmed_if {s : State} (on : s.powered = true) :
    (s.sup.trial && !s.lasting 1 && !s.lasting 2 && s.sup.step6.any (fun t => decide (t + 60 * secNs ≤ s.now)) && !s.fenced) = true ↔ s.TrialDue := by
  have minute : 60 * secNs = 60000000000 := rfl
  simp [State.TrialDue, on, minute, and_assoc, Option.any_eq_true]

theorem State.trialConfirmed_waits {s : State} (wait : ¬s.TrialDue) : s.whenOn State.trialConfirmed = s := by
  cases on : s.powered with
  | false => exact State.whenOn_off on _
  | true => exact (State.whenOn_on on _).trans (if_neg (mt (State.trialConfirmed_if on).mp wait))

theorem State.trialConfirmed_due {s : State} (due : s.TrialDue) : let t := s.whenOn State.trialConfirmed
    t.rr.active = s.sup.running ∧ t.sup.trial = false ∧ t.rr.trialBank = none ∧
      t.rr.floor = max s.rr.floor (((s.rr.admitted s.sup.running).map (·.version)).getD 0) := by
  intro t
  have act : t = _ := (State.whenOn_on due.1 _).trans (if_pos ((State.trialConfirmed_if due.1).mpr due))
  rw [act]
  exact ⟨rfl, rfl, rfl, rfl⟩

end Sys2Proof.Machine
end

section
/-! SUPPORT. The lifecycle's advances and the tamper latches as writes (R469, R470). -/

namespace Sys2Proof.Machine
open Sys2Proof

/-! ## CLEAR_LATCHES (R469) -/

theorem asksWrite_clearLatches {u : State} {c : Client} {m : Nat} (lt : m < 256) (acc : Accepts u c 0x1481 2 (leBytes 1 m)) :
    u.asksWrite c 0x1481 2 (leBytes 1 m) = (u.clearLatches m).done c 0x1481 2 := by
  have act := asksWrite_acts { act := okAct (fun s => s.clearLatches (leNat (leBytes 1 m))) } rfl acc (by decide) (by decide) rfl (by simp) rfl
  rwa [leNat_leBytes_one lt] at act

/-- A latch is cleared by its mask bit. -/
theorem bit_clearMask {latches : Nat} (three : latches < 8) (m b : Nat) : bit (latches &&& (7 ^^^ (m % 8))) b = (bit latches b && !bit m b) := by
  simp only [bit, Nat.testBit_and, Nat.testBit_xor, show (8 : Nat) = 2 ^ 3 from rfl, Nat.testBit_mod_two_pow]
  by_cases low : b < 3
  · have seven : Nat.testBit 7 b = true := by interval_cases b <;> rfl
    simp [low, seven]
  · have clear : Nat.testBit latches b = false := Nat.testBit_lt_two_pow (three.trans_le (Nat.pow_le_pow_right (n := 2) (by decide) (by omega :
      3 ≤ b)))
    simp [clear]

/-! ## Who may advance (R470) -/

/-- The way of an advance. -/
def advanceWay (c : Client) (n : Nat) : Way :=
  { nv := true, need := fun s => s.advanceNeed (s.role c) n, act := fun s => s.advance (s.role c) n }

section
variable {u : State} {c : Client} {n : Nat}

/-- An accepted advance runs its way with the fence down. -/
theorem asksWrite_advance (low : 2 ≤ n) (high : n ≤ 4) (acc : Accepts u c 0x1401 2 [byte n]) (down : u.fenced = false) :
    u.asksWrite c 0x1401 2 [byte n] = u.runWay c (key 0x1401 2) [byte n] (advanceWay c n) := by
  have way : wayOf c 0x1401 2 [byte n] = advanceWay c n := by interval_cases n <;> rfl
  rw [asksWrite_begins acc, way, State.beginWrite, if_neg (by decide), if_neg (by decide), if_neg (by simp), State.startWay]
  exact if_neg (by simp [advanceWay, down])

/-- The cause against an advance from any state but the one before its target. -/
theorem State.advanceCause_order (role : Nat) (order : u.rr.lifecycle + 1 ≠ n) : u.advanceCause role n = abSequence :=
  if_pos (by simp [order])

section
variable {role : Nat} (low : 2 ≤ n) (order : u.rr.lifecycle + 1 = n)
include low order

theorem State.advanceCause_role (other : role ≠ if n = 2 then roleF else roleW) : u.advanceCause role n = abRole :=
  (if_neg (by simp [order]; omega)).trans (if_pos other)

theorem State.advanceCause_mine (mine : role = if n = 2 then roleF else roleW) : u.advanceCause role n =
    if (n = 3 && (u.rr.map.isEmpty || (u.slot 12).ty == 0)) = true then abSequence
    else if (n = 2 && (u.rngStopped 6 || !u.pkOk || u.trustLost)) = true then abUnavail else 0 :=
  (if_neg (by simp [order]; omega)).trans (if_neg (not_not.mpr mine))

end

section
variable {role : Nat}

theorem State.advanceCause_unavailable (order : u.rr.lifecycle + 1 = 2) (mine : role = roleF)
    (lacking : u.rngStopped 6 = true ∨ u.serving 0x0A = false ∨ u.trustLost = true) : u.advanceCause role 2 = abUnavail :=
  (State.advanceCause_mine (by decide) order mine).trans ((if_neg (by simp)).trans (if_pos (by simpa [State.pkOk, or_assoc] using lacking)))

theorem State.advanceCause_integration (order : u.rr.lifecycle + 1 = 2) (mine : role = roleF) (run : u.rngStopped 6 = false)
    (engine : u.serving 0x0A = true) (trust : u.trustLost = false) : u.advanceCause role 2 = 0 :=
  (State.advanceCause_mine (by decide) order mine).trans ((if_neg (by simp)).trans (if_neg (by simp [State.pkOk, run, engine, trust])))

theorem State.advanceCause_incomplete (order : u.rr.lifecycle + 1 = 3) (mine : role = roleW) (missing : u.rr.map = [] ∨ (u.slot 12).ty = 0) :
    u.advanceCause role 3 = abSequence :=
  (State.advanceCause_mine (by decide) order mine).trans (if_pos (by simpa using missing))

theorem State.advanceCause_field (order : u.rr.lifecycle + 1 = 3) (mine : role = roleW) (map : u.rr.map ≠ []) (slot : (u.slot 12).ty ≠ 0) :
    u.advanceCause role 3 = 0 :=
  (State.advanceCause_mine (by decide) order mine).trans ((if_neg (by simp [map, slot])).trans (if_neg (by simp)))

theorem State.advanceCause_returned (order : u.rr.lifecycle + 1 = 4) (mine : role = roleW) : u.advanceCause role 4 = 0 :=
  State.advanceCause_mine (by decide) order mine

end

/-- An advance turned down draws nothing. -/
theorem State.runWay_advance_refused {data : Bytes} {cause : Nat} (no : u.advanceCause (u.role c) n = cause) (some_ : cause ≠ 0) :
    u.runWay c (key 0x1401 2) data (advanceWay c n) = u.aborted c 0x1401 2 cause := by
  have need : (advanceWay c n).need u = 0 := by simp [advanceWay, State.advanceNeed, no, some_]
  have act : (advanceWay c n).act u = (u, cause) := by
    show u.advance (u.role c) n = _
    rw [State.advance, no]
    exact if_pos some_
  rw [State.runWay_acts need, act]
  rfl

/-- An advance that draws no bytes is made. -/
theorem State.runWay_advance_made {data : Bytes} {t : State} (made : u.advance (u.role c) n = (t, abOk)) (other : n ≠ 2) :
    u.runWay c (key 0x1401 2) data (advanceWay c n) = t.done c 0x1401 2 := by
  have need : (advanceWay c n).need u = 0 := by simp [advanceWay, State.advanceNeed, other]
  have act : (advanceWay c n).act u = (t, abOk) := made
  rw [State.runWay_acts need, act]
  rfl

end

section
variable {u : State} {c : Client} {data : Bytes} (may : u.advanceCause (u.role c) 2 = 0)
include may

theorem advanceWay_need : (advanceWay c 2).need u = 96 := by simp [advanceWay, State.advanceNeed, may]

variable (run : u.rngStopped 6 = false)
include run

/-- The advance to INTEGRATION waits for its random bytes (R327). -/
theorem State.runWay_advance_waits (short : u.rngWaits 6 96 = true) : ∃ w : RngWait, w.c = c ∧ w.need = 96 ∧
    u.runWay c (key 0x1401 2) data (advanceWay c 2) = { u with rng := { u.rng with waits := u.rng.waits ++ [w] } } := by
  have need := advanceWay_need may
  have ch : (advanceWay c 2).ch u = 6 := rfl
  unfold State.runWay
  rw [need, ch, if_neg (by decide), if_neg (by simp [run]), if_pos short]
  exact ⟨_, rfl, rfl, rfl⟩

/-- The advance to INTEGRATION acts where its channel holds them. -/
theorem State.runWay_advance_draws (ready : u.rngWaits 6 96 = false) : u.runWay c (key 0x1401 2) data (advanceWay c 2) =
    (u.advance (u.role c) 2).1.answer c (key 0x1401 2) (u.advance (u.role c) 2).2 [] true := by
  have need := advanceWay_need may
  have ch : (advanceWay c 2).ch u = 6 := rfl
  unfold State.runWay
  rw [need, ch, if_neg (by decide), if_neg (by simp [run]), if_neg (by simp [ready])]
  rfl

end

/-! ## What an advance does (R470) -/

theorem KeepsKeys.lifecycleTo_slot (s : State) (n m : Nat) : (s.lifecycleTo n).slot m = s.slot m := by
  unfold State.lifecycleTo
  refine ((KeepsKeys.refl _).emit.slot m).trans ?_
  have started : KeepsKeys s (if s.rngInjecting then s.rngStartUp else s) := by
    split
    · exact ⟨rfl, rfl, rfl, rfl, rfl, rfl⟩
    · exact .refl s
  have written := started.trans (.recWrite _ 1 (key 0x1401 1) 1)
  exact State.slot_congr (written.backing m) (written.marksOf m) (by rw [← written.vol])

theorem State.lifecycleTo_lifecycle (s : State) (n : Nat) : (s.lifecycleTo n).rr.lifecycle = n := by
  unfold State.lifecycleTo
  rw [State.emit_rr_lifecycle]

/-- A FACTORY key, its slot's fixed usage included. -/
def factorySlot (n ty : Nat) (b : Bytes) : Slot :=
  { ty := ty, usage := ((slotFixed n).map (·.2)).getD 0, pers := true, origin := 1, key := randomKey ty b }

theorem State.factoryKey_takes (s : State) {n : Nat} (free : s.marksOf n = 0) (ty : Nat) (b : Bytes) :
    SlotTakes s n { factorySlot n ty b with gen := (s.slot n).gen + 1 } (s.factoryKey n ty b) := s.putKey_takes free (factorySlot n ty b)

theorem State.marksOf_putKey (s : State) (n m : Nat) (x : Slot) : (s.putKey n x).marksOf m = s.marksOf m := by
  rw [State.marksOf, State.putKey_eq, State.emit_aon]
  rfl

/-- The keys of slots 3, 48 and 49 are generated (R470). -/
def State.factoryKeys (s : State) (b : Bytes) : State :=
  ((s.factoryKey 3 3 (b.take 32)).factoryKey 48 0x10 (slice 32 32 b)).factoryKey 49 0x10 (b.drop 64)

theorem State.factoryKeys_slots (s : State) (b : Bytes) (free : s.marksOf 3 = 0 ∧ s.marksOf 48 = 0 ∧ s.marksOf 49 = 0) : let t := s.factoryKeys b
    (t.slot 3).key = b.take 32 ∧ (t.slot 48).ty = 0x10 ∧ (t.slot 49).ty = 0x10 ∧ (t.slot 3).gen = (s.slot 3).gen + 1 ∧
      ∀ m, m ≠ 3 → m ≠ 48 → m ≠ 49 → t.slot m = s.slot m := by
  obtain ⟨free3, free48, free49⟩ := free
  have one := s.factoryKey_takes free3 3 (b.take 32)
  have two := (s.factoryKey 3 3 (b.take 32)).factoryKey_takes (n := 48) ((State.marksOf_putKey ..).trans free48) 0x10 (slice 32 32 b)
  have three := ((s.factoryKey 3 3 (b.take 32)).factoryKey 48 0x10 (slice 32 32 b)).factoryKey_takes (n := 49)
    ((State.marksOf_putKey ..).trans ((State.marksOf_putKey ..).trans free49)) 0x10 (b.drop 64)
  have slot3 := (three.others 3 (by decide)).trans ((two.others 3 (by decide)).trans one.own)
  have slot48 := (three.others 48 (by decide)).trans two.own
  intro t
  refine ⟨(congrArg Slot.key slot3).trans rfl, (congrArg Slot.ty slot48).trans rfl, (congrArg Slot.ty three.own).trans rfl,
    (congrArg Slot.gen slot3).trans rfl, fun m a b d => ?_⟩
  exact (three.others m d).trans ((two.others m b).trans (one.others m a))

section
variable {u : State} {role : Nat}

theorem State.advance_field (may : u.advanceCause role 3 = 0) : u.advance role 3 = (u.lifecycleTo 3, abOk) := by
  simp [State.advance, may]

theorem State.advance_returned (may : u.advanceCause role 4 = 0) : u.advance role 4 = (u.zeroizeEvery.lifecycleTo 4, abOk) := by
  simp [State.advance, may]

/-- The advance to INTEGRATION draws its keys and generates them (R470). -/
theorem State.advance_integration (may : u.advanceCause role 2 = 0) (run : u.rngStopped 6 = false) (ready : u.rngWaits 6 96 = false) :
    ∃ t, KeepsKeys u t ∧ u.advance role 2 = ((t.factoryKeys ((u.rngBuf 6).take 96)).lifecycleTo 2, abOk) := by
  obtain ⟨r, drawn⟩ := State.draw_some run ready
  refine ⟨{ u with rng := r }, .withRng u r, ?_⟩
  unfold State.advance
  rw [may, if_neg (not_not.mpr rfl), if_pos rfl, drawn]
  rfl

end

/-- What an answer leaves of the slots and the lifecycle. -/
theorem KeepsKeys.done (t : State) (c : Client) (ix sub : Nat) (l : List Instr) : KeepsKeys t { t.done c ix sub with pending := l } :=
  ⟨rfl, rfl, rfl, rfl, rfl, rfl⟩

/-! ## The commands -/

/-- The advances ask for the writes of their states. -/
theorem exec_advance (s : State) (dt : Nat) (c : Client) {n : Nat} (low : 2 ≤ n) (high : n ≤ 4) :
    exec (if n = 2 then .advanceIntegration dt c else if n = 3 then .advanceField dt c else .advanceReturned dt c) s =
      finish s ((s.turn dt).asksWrite c 0x1401 2 [byte n]) := by
  obtain rfl | rfl | rfl : n = 2 ∨ n = 3 ∨ n = 4 := by omega
  all_goals rfl

section
variable {s u : State} {i : Instr} {c : Client} {n : Nat} {data : Bytes}
  (does : exec i s = finish s (u.runWay c (key 0x1401 2) data (advanceWay c n)))
include does

theorem exec_advance_refused {cause : Nat} (no : u.advanceCause (u.role c) n = cause) (some_ : cause ≠ 0) :
    exec i s = finish s (u.aborted c 0x1401 2 cause) := by
  rw [does, State.runWay_advance_refused no some_]

theorem exec_advance_made {t : State} (made : u.advance (u.role c) n = (t, abOk)) (other : n ≠ 2) :
    exec i s = finish s (t.done c 0x1401 2) := by
  rw [does, State.runWay_advance_made made other]

end

section
variable {s u : State} {i : Instr} {c : Client} {data : Bytes} (does : exec i s = finish s (u.runWay c (key 0x1401 2) data (advanceWay c 2)))
  (may : u.advanceCause (u.role c) 2 = 0) (run : u.rngStopped 6 = false)
include does may run

theorem exec_integration_waits (short : u.rngWaits 6 96 = true) :
    ∃ t w, exec i s = .next t ∧ t.rng.waits = u.rng.waits ++ [w] ∧ w.c = c ∧ w.need = 96 ∧ t.rr = u.rr := by
  obtain ⟨w, client, need, waits⟩ := State.runWay_advance_waits (data := data) may run short
  exact ⟨_, w, does.trans (congrArg (finish s) waits), rfl, client, need, rfl⟩

theorem exec_integration_made (ready : u.rngWaits 6 96 = false) (free : u.marksOf 3 = 0 ∧ u.marksOf 48 = 0 ∧ u.marksOf 49 = 0) :
    ∃ t, exec i s = .next t ∧ t.rr.lifecycle = 2 ∧ (t.slot 3).key = (u.rngBuf 6).take 32 ∧ (t.slot 48).ty = 0x10 ∧ (t.slot 49).ty = 0x10 ∧
      (t.slot 3).gen = (u.slot 3).gen + 1 ∧ ∀ m, m ≠ 3 → m ≠ 48 → m ≠ 49 → t.slot m = u.slot m := by
  obtain ⟨v, drawn, made⟩ := State.advance_integration may run ready
  have act := does.trans (congrArg (finish s) (State.runWay_advance_draws may run ready))
  rw [made] at act
  obtain ⟨free3, free48, free49⟩ := free
  obtain ⟨own3, type48, type49, gen3, others⟩ := v.factoryKeys_slots ((u.rngBuf 6).take 96)
    ⟨(drawn.marksOf 3).trans free3, (drawn.marksOf 48).trans free48, (drawn.marksOf 49).trans free49⟩
  have first : ((u.rngBuf 6).take 96).take 32 = (u.rngBuf 6).take 32 := List.take_take ..
  generalize v.factoryKeys ((u.rngBuf 6).take 96) = k at act own3 type48 type49 gen3 others
  have act : exec i s = finish s ((k.lifecycleTo 2).done c 0x1401 2) := act
  have answered := KeepsKeys.done (k.lifecycleTo 2) c 0x1401 2 s.pending
  have slot (m : Nat) := (answered.slot m).trans (KeepsKeys.lifecycleTo_slot k 2 m)
  refine ⟨_, act, answered.lifecycle.trans (k.lifecycleTo_lifecycle 2), ?_, ?_, ?_, ?_, fun m a b d => ?_⟩
  · exact (congrArg Slot.key (slot 3)).trans (own3.trans first)
  · exact (congrArg Slot.ty (slot 48)).trans type48
  · exact (congrArg Slot.ty (slot 49)).trans type49
  · exact (congrArg Slot.gen (slot 3)).trans (by rw [gen3, drawn.slot])
  · exact (slot m).trans ((others m a b d).trans (drawn.slot m))

end

end Sys2Proof.Machine
end

section
/-! SUPPORT. Firmware updates: what each command does to the bank that it writes, and that the other bank stays (R474). -/

namespace Sys2Proof.Machine
open Sys2Proof

/-! ## Bytes of a bank -/

/-- Bytes set from an address on, over a memory of cells. -/
theorem foldl_kvSet_range (d : Bytes) (a i : Nat) (m : List Host.Cell) (x : Nat) :
    kvGet (0xFF : Byte) ((d.zipIdx i).foldl (fun (m : List Host.Cell) q => kvSet 0xFF m (a + q.2) q.1) m) x =
      if a + i ≤ x ∧ x < a + i + d.length then d.getD (x - (a + i)) 0 else kvGet 0xFF m x := by
  induction d generalizing i m with
  | nil => exact (if_neg (by simp)).symm
  | cons b r ih =>
    rw [List.zipIdx_cons, List.foldl_cons, ih]
    by_cases here : x = a + i
    · subst here
      rw [if_neg (by omega), kvGet_kvSet_same, if_pos (by simp), Nat.sub_self, List.getD_cons_zero]
    · rw [kvGet_kvSet_other _ _ _ _ _ here]
      by_cases after : a + (i + 1) ≤ x ∧ x < a + (i + 1) + r.length
      · rw [if_pos after, if_pos (by simp only [List.length_cons]; omega), show x - (a + i) = x - (a + (i + 1)) + 1 by omega, List.getD_cons_succ]
      · rw [if_neg after, if_neg (by simp only [List.length_cons]; omega)]

/-- Programmed bytes read as written, the others as before (R338). -/
theorem FwBank.byte_program (b : FwBank) (a : Nat) (d : Bytes) (x : Nat) :
    (b.program a d).byte x = if a ≤ x ∧ x < a + d.length then d.getD (x - a) 0 else b.byte x :=
  foldl_kvSet_range d a 0 b.mem x

/-- A bank that begins with the byte 0 is no firmware image (R472). -/
theorem FwBank.header_of_zero {b : FwBank} (bare : b.shipped = none) (zero : b.byte 0 = 0) : b.header = none := by
  have image : b.bytes 0 256 = 0 :: (b.bytes 1 255) := by
    rw [FwBank.bytes, show 256 = 255 + 1 from rfl, List.range_succ_eq_map, List.map_cons, zero, List.map_map, FwBank.bytes]
    refine congrArg (List.cons 0) (List.map_congr_left fun i _ => ?_)
    show b.byte (0 + (i + 1)) = b.byte (1 + i)
    congr 1
    omega
  have magic : ((b.bytes 0 256).take 4 == ascii "KVFW") = false := by
    rw [image]
    rfl
  unfold FwBank.header
  rw [bare]
  dsimp only
  rw [magic]
  rfl

/-- What UPDATE_BEGIN leaves of a bank (R474). -/
def FwBank.begun (b : FwBank) : FwBank := ({ b with shipped := none } : FwBank).program 0 [0, 0, 0, 0]

theorem FwBank.header_begun (b : FwBank) : b.begun.header = none :=
  FwBank.header_of_zero rfl (FwBank.byte_program ..)

/-! ## Banks by number -/

theorem ReRam.bank_setBank (r : ReRam) (n : Nat) (b : FwBank) : (r.setBank n b).bank n = b := by
  unfold ReRam.bank ReRam.setBank
  split <;> rfl

theorem ReRam.bank_setBank_other (r : ReRam) {n k : Nat} (b : FwBank) (two : n < 2) (lt : k < 2) (other : k ≠ n) :
    (r.setBank n b).bank k = r.bank k := by
  have cases : (n = 0 ∧ k = 1) ∨ (n = 1 ∧ k = 0) := by omega
  obtain ⟨rfl, rfl⟩ | ⟨rfl, rfl⟩ := cases <;> rfl

theorem State.emit_bank (s : State) (u code p k : Nat) : (s.emit u code p).rr.bank k = s.rr.bank k := by
  rw [ReRam.bank, ReRam.bank, State.emit_rr_fwA, State.emit_rr_fwB]

theorem State.recWrite_banks (s : State) (a k len : Nat) : (s.recWrite a k len).rr.fwA = s.rr.fwA ∧ (s.recWrite a k len).rr.fwB = s.rr.fwB ∧
    (s.recWrite a k len).rr.active = s.rr.active := by
  unfold State.recWrite ReRam.setArea
  dsimp only
  split_ifs <;> exact ⟨rfl, rfl, rfl⟩

theorem State.updateBank_lt {s : State} {n : Nat} (other : s.updateBank = some n) : n < 2 := by
  unfold State.updateBank at other
  dsimp only at other
  split at other
  · exact absurd other (by simp)
  · have := Option.some.inj other
    omega

/-! ## The commands of an update (R474) -/

section
variable {u : State}

theorem State.updateBegin_none (none_ : u.updateBank = none) : u.updateBegin = (u, abSequence) := by rw [State.updateBegin, none_]

theorem State.updateBegin_some {n : Nat} (some_ : u.updateBank = some n) :
    u.updateBegin = ({ u with rr := u.rr.setBank n (u.rr.bank n).begun }.updateTo 1, abOk) := by
  rw [State.updateBegin, some_]
  rfl

theorem State.updateTo_spec (s : State) (n : Nat) : (s.updateTo n).sup.update = n ∧ ∀ k, (s.updateTo n).rr.bank k = s.rr.bank k :=
  ⟨congrArg Sup.update (State.emit_sup ..), State.emit_bank _ _ _ _⟩

theorem State.chunk_refused {d : Bytes} (bad : u.updateBank = none ∨ u.sup.update ≠ 1) : u.chunk d = (u, abSequence) := by
  unfold State.chunk
  cases bank : u.updateBank with
  | none => rfl
  | some n => exact if_pos (bad.resolve_left (by simp [bank]))

section
variable {n : Nat} {d : Bytes} (some_ : u.updateBank = some n) (receiving : u.sup.update = 1) (some_bytes : 0 < d.length) (most : d.length ≤ 4096)
include some_ receiving some_bytes most

theorem State.chunk_over (beyond : 2 ^ 21 < u.obj 0x1421 1 + d.length) : u.chunk d = (u, abRange) := by
  unfold State.chunk
  rw [some_]
  dsimp only
  rw [if_neg (not_not.mpr receiving), if_neg (by simp only [Bool.or_eq_true, decide_eq_true_eq]; omega)]
  exact if_pos beyond

theorem State.chunk_takes (fits : u.obj 0x1421 1 + d.length ≤ 2 ^ 21) :
    u.chunk d = ({ u with rr := u.rr.setBank n ((u.rr.bank n).program (u.obj 0x1421 1) d) }, abOk) := by
  unfold State.chunk
  rw [some_]
  dsimp only
  rw [if_neg (not_not.mpr receiving), if_neg (by simp only [Bool.or_eq_true, decide_eq_true_eq]; omega)]
  exact if_neg (Nat.not_lt.mpr fits)

end

theorem State.updateVerify_refused (bad : u.updateBank = none ∨ u.sup.update ≠ 1) : u.updateVerify = (u, abSequence) := by
  unfold State.updateVerify
  cases bank : u.updateBank with
  | none => rfl
  | some n => exact if_pos (bad.resolve_left (by simp [bank]))

theorem State.updateVerify_checks {n : Nat} (some_ : u.updateBank = some n) (receiving : u.sup.update = 1) :
    u.updateVerify = (u.updateTo (if (u.rr.admitted n).isSome then 2 else 3), abOk) := by
  unfold State.updateVerify
  rw [some_]
  exact if_neg (not_not.mpr receiving)

variable {c : Client}

theorem State.activate_refused (bad : u.updateBank = none ∨ u.sup.update ≠ 2 ∨ u.pol.engine = true ∨ u.pol.out ≠ 0) : u.activate c = (u,
    abSequence) := by
  unfold State.activate
  cases bank : u.updateBank with
  | none => rfl
  | some n => exact if_pos (by simpa [or_assoc] using bad.resolve_left (by simp [bank]))

/-- ACTIVATE marks the bank as TRIAL and asks for a reset. -/
theorem State.activate_marks {n : Nat} (some_ : u.updateBank = some n) (verified : u.sup.update = 2) (engine : u.pol.engine = false) (out :
    u.pol.out = 0) :
    ∃ t, u.activate c = (t, abOk) ∧ t.rr.trialBank = some n ∧ t.sup.pendingReset = some (7, c, u.now) ∧ t.rr.active = u.rr.active ∧
      ∀ k, t.rr.bank k = u.rr.bank k := by
  obtain ⟨fwA, fwB, active⟩ := u.recWrite_banks 1 (key 0x1410 2) 4
  have act : u.activate c = (({ u.recWrite 1 (key 0x1410 2) 4 with
      rr := { (u.recWrite 1 (key 0x1410 2) 4).rr with trialBank := some n, trialRan := false } } : State).askReset 7 c, abOk) := by
    unfold State.activate
    rw [some_]
    exact if_neg (by simp [verified, engine, out])
  refine ⟨_, act, rfl, rfl, active, fun k => ?_⟩
  show (if k = 0 then (u.recWrite 1 (key 0x1410 2) 4).rr.fwA else (u.recWrite 1 (key 0x1410 2) 4).rr.fwB) = _
  rw [fwA, fwB]
  rfl

/-! ## The writes that ask for them -/

/-- An accepted write to the update command acts with the fence down. -/
theorem asksWrite_update {n : Nat} (low : 1 ≤ n) (high : n ≤ 3) (acc : Accepts u c 0x1420 1 [byte n]) (down : u.fenced = false) :
    u.asksWrite c 0x1420 1 [byte n] = (u.updateCommand c n).1.answer c (key 0x1420 1) (u.updateCommand c n).2 [] true := by
  have way : wayOf c 0x1420 1 [byte n] = { nv := decide (n ≠ 2), act := fun s => s.updateCommand c n } := by interval_cases n <;> rfl
  exact asksWrite_acts _ way acc (by decide) (by decide) rfl (fun _ => down) rfl

theorem asksWrite_chunk {d : Bytes} (acc : Accepts u c 0x1421 2 d) (down : u.fenced = false) :
    u.asksWrite c 0x1421 2 d = (u.chunk d).1.answer c (key 0x1421 2) (u.chunk d).2 [] true :=
  asksWrite_acts { nv := true, act := fun s => s.chunk d } rfl acc (by decide) (by decide) rfl (fun _ => down) rfl

end

/-! ## The commands -/

section
variable {s u : State} {c : Client} {i : Instr} (down : u.fenced = false)
include down

theorem exec_updateBegin (acc : Accepts u c 0x1420 1 [1]) (does : exec i s = finish s (u.asksWrite c 0x1420 1 [1])) :
    (u.updateBank = none → exec i s = finish s (u.aborted c 0x1420 1 abSequence)) ∧
      ∀ n, u.updateBank = some n → ∃ t, exec i s = .next t ∧ t.sup.update = 1 ∧ (t.rr.bank n).header = none ∧ ∀ k, k < 2 → k ≠ n →
          t.rr.bank k = u.rr.bank k := by
  have act : exec i s = finish s (u.updateBegin.1.answer c (key 0x1420 1) u.updateBegin.2 [] true) :=
    does.trans (congrArg (finish s) (asksWrite_update (n := 1) (by decide) (by decide) acc down))
  refine ⟨fun none_ => ?_, fun n some_ => ?_⟩
  · rw [State.updateBegin_none none_] at act
    exact act
  · rw [State.updateBegin_some some_] at act
    obtain ⟨update, banks⟩ := State.updateTo_spec { u with rr := u.rr.setBank n (u.rr.bank n).begun } 1
    have own := (banks n).trans (ReRam.bank_setBank u.rr n (u.rr.bank n).begun)
    exact ⟨_, act, update, (congrArg FwBank.header own).trans (FwBank.header_begun _),
      fun k two other => (banks k).trans (ReRam.bank_setBank_other _ _ (State.updateBank_lt some_) two other)⟩

theorem exec_chunk {d : Bytes} (acc : Accepts u c 0x1421 2 d) (does : exec i s = finish s (u.asksWrite c 0x1421 2 d)) :
    (u.updateBank = none ∨ u.sup.update ≠ 1 → exec i s = finish s (u.aborted c 0x1421 2 abSequence)) ∧
      ∀ n, u.updateBank = some n → u.sup.update = 1 → 0 < d.length → d.length ≤ 4096 →
        (2 ^ 21 < u.obj 0x1421 1 + d.length → exec i s = finish s (u.aborted c 0x1421 2 abRange)) ∧
        (u.obj 0x1421 1 + d.length ≤ 2 ^ 21 → ∃ t, exec i s = .next t ∧ (∀ j, j < d.length → (t.rr.bank n).byte (u.obj 0x1421 1 + j) = d.getD j 0) ∧
          (∀ a, a < u.obj 0x1421 1 ∨ u.obj 0x1421 1 + d.length ≤ a → (t.rr.bank n).byte a = (u.rr.bank n).byte a) ∧
          ∀ k, k < 2 → k ≠ n → t.rr.bank k = u.rr.bank k) := by
  have act := does.trans (congrArg (finish s) (asksWrite_chunk acc down))
  refine ⟨fun bad => ?_, fun n some_ receiving some_bytes most => ⟨fun beyond => ?_, fun fits => ?_⟩⟩
  · rw [State.chunk_refused bad] at act
    exact act
  · rw [State.chunk_over some_ receiving some_bytes most beyond] at act
    exact act
  · rw [State.chunk_takes some_ receiving some_bytes most fits] at act
    have bank := u.rr.bank_setBank n ((u.rr.bank n).program (u.obj 0x1421 1) d)
    have byte (x : Nat) := (congrArg (FwBank.byte · x) bank).trans (FwBank.byte_program ..)
    refine ⟨_, act, fun j lt => (byte _).trans ?_, fun a outside => (byte a).trans (if_neg (by omega)), fun k two other => ?_⟩
    · rw [if_pos (by omega), Nat.add_sub_cancel_left]
    · exact u.rr.bank_setBank_other _ (State.updateBank_lt some_) two other

theorem exec_updateVerify (acc : Accepts u c 0x1420 1 [2]) (does : exec i s = finish s (u.asksWrite c 0x1420 1 [2])) :
    (u.updateBank = none ∨ u.sup.update ≠ 1 → exec i s = finish s (u.aborted c 0x1420 1 abSequence)) ∧
      ∀ n, u.updateBank = some n → u.sup.update = 1 → ∃ t, exec i s = .next t ∧ t.sup.update = (if (u.rr.admitted n).isSome then 2 else 3) ∧
        ∀ k, t.rr.bank k = u.rr.bank k := by
  have act : exec i s = finish s (u.updateVerify.1.answer c (key 0x1420 1) u.updateVerify.2 [] true) :=
    does.trans (congrArg (finish s) (asksWrite_update (n := 2) (by decide) (by decide) acc down))
  refine ⟨fun bad => ?_, fun n some_ receiving => ?_⟩
  · rw [State.updateVerify_refused bad] at act
    exact act
  · rw [State.updateVerify_checks some_ receiving] at act
    obtain ⟨update, banks⟩ := u.updateTo_spec (if (u.rr.admitted n).isSome then 2 else 3)
    exact ⟨_, act, update, banks⟩

theorem exec_activate (acc : Accepts u c 0x1420 1 [3]) (does : exec i s = finish s (u.asksWrite c 0x1420 1 [3])) :
    (u.updateBank = none ∨ u.sup.update ≠ 2 ∨ u.pol.engine = true ∨ u.pol.out ≠ 0 → exec i s = finish s (u.aborted c 0x1420 1 abSequence)) ∧
      ∀ n, u.updateBank = some n → u.sup.update = 2 → u.pol.engine = false → u.pol.out = 0 → ∃ t, exec i s = .next t ∧ t.rr.trialBank = some n ∧
        t.sup.pendingReset = some (7, c, u.now) ∧ t.rr.active = u.rr.active ∧ ∀ k, t.rr.bank k = u.rr.bank k := by
  have act : exec i s = finish s ((u.activate c).1.answer c (key 0x1420 1) (u.activate c).2 [] true) :=
    does.trans (congrArg (finish s) (asksWrite_update (n := 3) (by decide) (by decide) acc down))
  refine ⟨fun bad => ?_, fun n some_ verified engine out => ?_⟩
  · rw [State.activate_refused bad] at act
    exact act
  · obtain ⟨v, activates, marked, asks, active, banks⟩ := State.activate_marks (c := c) some_ verified engine out
    rw [activates] at act
    exact ⟨_, act, marked, asks, active, banks⟩

end

end Sys2Proof.Machine
end

section
/-! SUPPORT. Parking, tamper detections, lifecycle advances and updates: the statement (R452 to R455, R468 to R474). -/

namespace Sys2Proof.Machine
open Sys2Proof

/-! ## The sensors (R468) -/

section
variable (u : State)

theorem State.meshCheck_counts (other : u.aon.meshBad ≠ 1) :
    u.meshCheck false = { u with aon := { u.aon with meshBad := min 3 (u.aon.meshBad + 1) } } :=
  if_neg (by simp only [Bool.false_eq_true, if_false]; omega)

theorem State.meshCheck_detects (second : u.aon.meshBad = 1) :
    u.meshCheck false = ({ u with aon := { u.aon with meshBad := 2 } } : State).tamperDetect 3 := by
  unfold State.meshCheck
  rw [second]
  rfl

theorem State.loopSample_unarmed (unarmed : u.obj 0x1482 1 = 0) (good : Bool) : u.loopSample good = u := if_pos unarmed

section
variable (armed : u.obj 0x1482 1 ≠ 0)
include armed

theorem State.loopSample_good : u.loopSample true = { u with aon := { u.aon with loopBad := 0 } } := if_neg armed

theorem State.loopSample_counts (other : u.aon.loopBad ≠ 1) :
    u.loopSample false = { u with aon := { u.aon with loopBad := min 3 (u.aon.loopBad + 1) } } :=
  (if_neg armed).trans (if_neg (by simp only [Bool.false_eq_true, if_false]; omega))

theorem State.loopSample_detects (second : u.aon.loopBad = 1) :
    u.loopSample false = ({ u with aon := { u.aon with loopBad := 2 } } : State).tamperDetect 2 := by
  unfold State.loopSample
  rw [if_neg armed, second]
  rfl

end

/-- The armed lid has stood at its active level for 10 ms. -/
def State.LidSeen (lv : Bool) (ns : Nat) : Prop := u.obj 0x1482 3 ≠ 0 ∧ lv = bit (u.obj 0x1482 4) 1 ∧ 10000000 ≤ ns

theorem State.lidDetection_if (lv : Bool) (ns : Nat) :
    (u.obj 0x1482 3 != 0 && lv == bit (u.obj 0x1482 4) 1 && decide (10 * msNs ≤ ns)) = true ↔ u.LidSeen lv ns := by
  simp only [State.LidSeen, Bool.and_eq_true, bne_iff_ne, beq_iff_eq, decide_eq_true_eq, and_assoc]
  exact Iff.rfl

theorem State.lidDetection_unseen {lv : Bool} {ns : Nat} (no : ¬u.LidSeen lv ns) : u.lidDetection lv ns = u :=
    if_neg (mt (u.lidDetection_if lv ns).mp no)

theorem State.lidDetection_seen {lv : Bool} {ns : Nat} (yes : u.LidSeen lv ns) : u.lidDetection lv ns = u.tamperDetect 1 :=
  if_pos ((u.lidDetection_if lv ns).mpr yes)

/-- The responses that zeroize, source by source. -/
theorem State.tamperZeroizes_mesh : u.tamperZeroizes 3 = true ↔ u.rr.lifecycle = lcField := by simp [State.tamperZeroizes]

theorem State.tamperZeroizes_loop : u.tamperZeroizes 2 = true ↔ u.rr.lifecycle = lcField ∧ u.obj 0x1482 2 = 1 := by simp [State.tamperZeroizes]

theorem State.tamperZeroizes_lid : u.tamperZeroizes 1 = true ↔ u.rr.lifecycle = lcField ∧ bit (u.obj 0x1482 4) 0 = true :=
    by simp [State.tamperZeroizes]

end

/-! ## States that differ in the queue of commands alone -/

section
variable {u t : State} (l : List Instr)

theorem KeepsKeys.withPending (t : State) : KeepsKeys t { t with pending := l } := ⟨rfl, rfl, rfl, rfl, rfl, rfl⟩

theorem TamperHit.withPending {src : Nat} {zero : Prop} (h : TamperHit u t src zero) : TamperHit u { t with pending := l } src zero :=
  ⟨h.latched, h.others, fun z m lt => ((KeepsKeys.withPending l t).slot m).symm ▸ h.emptied z m lt,
    fun z m => ((KeepsKeys.withPending l t).slot m).trans (h.kept z m), h.live, h.logged, h.wakes⟩

/-- A sensor's count plays no part in what a detection does. -/
theorem TamperHit.of_counts {n m src : Nat} {zero : Prop}
    (h : TamperHit { u with aon := { u.aon with meshBad := n, loopBad := m } } t src zero) : TamperHit u t src zero :=
  ⟨h.latched, h.others, h.emptied, fun z k => (h.kept z k).trans (State.slot_congr rfl rfl rfl), h.live, h.logged, h.wakes⟩

end

/-- A command that detects, in the statement's words. -/
theorem exec_hits {s u v : State} {i : Instr} {src : Nat} {zero : Prop} (does : exec i s = finish s (v.tamperDetect src))
    (hit : TamperHit u (v.tamperDetect src) src zero) : ∃ t, exec i s = .next t ∧ bit t.aon.latches (src - 1) = true ∧
       (∀ b, b ≠ src - 1 → bit t.aon.latches b = bit u.aon.latches b) ∧ (zero → ∀ m, m < 64 → (t.slot m).ty = 0) ∧ (¬zero → ∀ m,
           t.slot m = u.slot m) ∧
       (u.aon.mode = 1 ∨ u.powered = true → u.sup.held = false → u.sup.scan = false → t.aon.offline = u.aon.offline) ∧
       (¬(u.aon.mode = 1 ∨ u.powered = true) → u.aon.offline.length < 8 → ∃ e, t.aon.offline = u.aon.offline ++ [e] ∧ e.src = src) ∧
       (¬(u.aon.mode = 1 ∨ u.powered = true) → zero → 2 ≤ u.aon.mode → t.aon.resetKind = 9 ∧ t.aon.mode = 0) := by
  have h := hit.withPending s.pending
  exact ⟨_, does, h.latched, h.others, h.emptied, h.kept, h.live, h.logged, h.wakes⟩

/-- Settles O60: each clause by the rule of its operation. -/
theorem parkingTamperLifecycleAndUpdates : Obligations.ParkingTamperLifecycleAndUpdates := by
  intro s dt c u p
  refine ⟨State.mayPark_iff, fun acc => ?parkRequest, ⟨?idleDue, ?idleWaits⟩, ⟨?gateWaits, ?gates⟩, ?awake, ?ungates, ⟨?trialWaits, ?trialEnds⟩,
      ?tamper, ?latches,
    ?advance, ?update⟩
  case parkRequest =>
    have act : exec (.parkRequest dt c) s = finish s _ := congrArg (finish s) (asksWrite_park acc)
    refine ⟨fun barred => ?_, fun may parking => ?_, fun may idle => ?_⟩
    · rw [act, State.parkRequest_barred barred]; rfl
    · rw [act, State.parkRequest_again may parking]; rfl
    · rw [act, State.parkRequest_begins may idle]; rfl
  case idleDue => exact fun due => congrArg (finish s) (State.parkIdle_due due)
  case idleWaits => exact fun wait => congrArg (finish s) (State.parkIdle_waits wait)
  case gateWaits => exact fun wait => congrArg (finish s) (State.parkingComplete_waits wait)
  case gates =>
    intro due
    obtain ⟨aon, objs, slots, gated, off⟩ := u.toMode_spec u.parkMode u.sup.parkCause
    have act : exec (.parkingComplete dt) s = finish s _ := congrArg (finish s) (State.parkingComplete_due due)
    exact ⟨_, act, aon, objs, slots, gated, off⟩
  case awake => exact fun awake => congrArg (finish s) (State.hostUngate_awake awake)
  case ungates =>
    intro gated
    obtain ⟨mode, idle, dict, objs⟩ := State.hostUngate_gated gated
    exact ⟨_, rfl, mode, idle, dict, objs⟩
  case trialWaits => exact fun wait => congrArg (finish s) (State.trialConfirmed_waits wait)
  case trialEnds =>
    intro due
    obtain ⟨active, trial, bank, floor⟩ := State.trialConfirmed_due due
    exact ⟨_, rfl, active, trial, bank, floor⟩
  case tamper =>
    intro bad armed wrong field up hit
    refine ⟨rfl, fun other => ?_, fun second => ?_, fun unarmed g => ?_, fun arm => ?_, fun arm other => ?_, fun arm second => ?_,
      fun lv ns => ⟨fun no => ?_, fun yes => ?_⟩⟩
    · exact congrArg (finish s) (u.meshCheck_counts other)
    · exact exec_hits (congrArg (finish s) (u.meshCheck_detects second))
        (TamperHit.of_counts (State.tamperDetect_hit (State.tamperZeroizes_mesh _)))
    · exact congrArg (finish s) (u.loopSample_unarmed (not_not.mp unarmed) g)
    · exact congrArg (finish s) (u.loopSample_good arm)
    · exact congrArg (finish s) (u.loopSample_counts arm other)
    · exact exec_hits (congrArg (finish s) (u.loopSample_detects arm second))
        (TamperHit.of_counts (State.tamperDetect_hit (State.tamperZeroizes_loop _)))
    · exact congrArg (finish s) (u.lidDetection_unseen no)
    · exact exec_hits (congrArg (finish s) (u.lidDetection_seen yes)) (State.tamperDetect_hit u.tamperZeroizes_lid)
  case latches =>
    intro m lt acc three
    have act : exec (.clearLatches dt c m) s = finish s _ := congrArg (finish s) (asksWrite_clearLatches lt acc)
    exact ⟨_, act, fun b => bit_clearMask three m b, rfl⟩
  case advance =>
    intro n low high acc down i no mine
    have does : exec i s = finish s (u.runWay c (key 0x1401 2) [byte n] (advanceWay c n)) :=
      (exec_advance s dt c low high).trans (congrArg (finish s) (asksWrite_advance low high acc down))
    refine ⟨fun order => exec_advance_refused does (State.advanceCause_order _ order) (by decide), fun order => ⟨fun other => ?role, ?unavailable,
        ?integration,
      ?incomplete, ?field, ?returned⟩⟩
    case role => exact exec_advance_refused does (State.advanceCause_role low order other) (by decide)
    case unavailable =>
      rintro own rfl lacking
      exact exec_advance_refused does (State.advanceCause_unavailable order own lacking) (by decide)
    case integration =>
      rintro own rfl run engine trust
      have may := State.advanceCause_integration order own run engine trust
      exact ⟨exec_integration_waits does may run, fun ready free3 free48 free49 => exec_integration_made does may run ready ⟨free3, free48, free49⟩⟩
    case incomplete =>
      rintro own rfl missing
      exact exec_advance_refused does (State.advanceCause_incomplete order own missing) (by decide)
    case field =>
      rintro own rfl map slot
      have answered := KeepsKeys.done (u.lifecycleTo 3) c 0x1401 2 s.pending
      have act := exec_advance_made does (State.advance_field (State.advanceCause_field order own map slot)) (by decide)
      exact ⟨_, act, answered.lifecycle.trans (u.lifecycleTo_lifecycle 3), fun m => (answered.slot m).trans (KeepsKeys.lifecycleTo_slot u 3 m)⟩
    case returned =>
      rintro own rfl
      have answered := KeepsKeys.done (u.zeroizeEvery.lifecycleTo 4) c 0x1401 2 s.pending
      have act := exec_advance_made does (State.advance_returned (State.advanceCause_returned order own)) (by decide)
      refine ⟨_, act, answered.lifecycle.trans (State.lifecycleTo_lifecycle _ 4), fun m lt => ?_⟩
      rw [answered.slot m, KeepsKeys.lifecycleTo_slot, State.zeroizeEvery_slot _ lt]
  case update =>
    intro down other seq
    exact ⟨fun acc => exec_updateBegin down acc rfl, fun d acc => exec_chunk down acc rfl, fun acc => exec_updateVerify down acc rfl,
      fun acc => exec_activate down acc rfl⟩

end Sys2Proof.Machine
end

section
/-! SUPPORT. What a fault's count moves, glitches, watchdogs and mismatches, and how faults end (R451, R459 to R462, R508). -/

namespace Sys2Proof.Machine
open Sys2Proof

/-! ## Counts (R460) -/

theorem State.src_congr {s t : State} (sup : t.sup = s.sup) (n : Nat) : t.src n = s.src n := by rw [State.src, State.src, sup]

@[simp] theorem State.src_emit (s : State) (uid code p n : Nat) : (s.emit uid code p).src n = s.src n := State.src_congr (State.emit_sup ..) n

theorem State.src_pushFault (s : State) (e : FaultEntry) (n : Nat) : (s.pushFault e).src n = s.src n := rfl

@[simp] theorem State.src_setSrc (s : State) (n : Nat) (x : FaultSrc) : (s.setSrc n x).src n = x := kvGet_kvSet_same _ _ _ _

theorem State.src_setSrc_other (s : State) {n m : Nat} (x : FaultSrc) (other : m ≠ n) : (s.setSrc n x).src m = s.src m :=
  kvGet_kvSet_other _ _ _ _ _ other

/-- What supervision keeps but for its sources, its fault queue and the actions owed. -/
structure KeepsSup (s t : State) : Prop where
  sup : ∃ srcs faults acts, t.sup = { s.sup with srcs := srcs, faults := faults, acts := acts }

theorem KeepsSup.of_eq {s t : State} (h : t.sup = s.sup) : KeepsSup s t := ⟨_, _, _, h⟩

theorem KeepsSup.trans {s t u : State} (h : KeepsSup s t) (g : KeepsSup t u) : KeepsSup s u := by
  obtain ⟨_, _, _, h⟩ := h
  obtain ⟨a, b, d, g⟩ := g
  exact ⟨a, b, d, by rw [g, h]⟩

theorem KeepsSup.setSrc (s : State) (n : Nat) (x : FaultSrc) : KeepsSup s (s.setSrc n x) := ⟨_, _, _, rfl⟩

/-- One count against a source. -/
structure Charged (s t : State) (n : Nat) : Prop extends KeepsSup s t where
  total : (t.src n).total = min ((s.src n).total + 1) (2 ^ 32 - 1)
  others : ∀ m, m ≠ n → t.src m = s.src m
  pol : t.pol = s.pol

theorem Charged.of_sup {s t u : State} {n : Nat} (h : Charged t u n) (sup : t.sup = s.sup) (pol : t.pol = s.pol) : Charged s u n :=
  ⟨(KeepsSup.of_eq sup).trans h.toKeepsSup, by rw [h.total, State.src_congr sup], fun m other => (h.others m other).trans (State.src_congr sup m),
    h.pol.trans pol⟩

theorem State.makeLasting_src (s : State) (n : Nat) : (s.makeLasting n).src n = { s.src n with st := 2, quiet := s.now } :=
  (State.src_emit (s.setSrc n _) ..).trans (s.src_setSrc n _)

theorem State.makeLasting_src_other (s : State) {n m : Nat} (other : m ≠ n) : (s.makeLasting n).src m = s.src m :=
  (State.src_emit (s.setSrc n _) ..).trans (s.src_setSrc_other _ other)

theorem KeepsSup.makeLasting (s : State) (n : Nat) : KeepsSup s (s.makeLasting n) := by
  have marked := (KeepsSup.setSrc s n { s.src n with st := 2, quiet := s.now }).trans (.of_eq (State.emit_sup _ 0x35 0x1302 n))
  exact marked.trans ⟨_, _, _, rfl⟩

/-- A count, as far as its source does not turn lasting. -/
def State.counted (s : State) (n uid code : Nat) : State :=
  (s.pushFault { src := n, unit := uid, code := code, ms := s.ms % 2 ^ 32 }).setSrc n { s.src n with
    times := srcWindow s.now n (s.src n).times ++ [s.now], total := satAdd 32 (s.src n).total 1, quiet := s.now, st := max (s.src n).st 1 }

theorem State.counted_charged (s : State) (n uid code : Nat) : Charged s (s.counted n uid code) n := by
  refine ⟨⟨_, _, _, rfl⟩, ?_, fun m other => (State.src_setSrc_other _ _ other).trans (s.src_pushFault _ m), rfl⟩
  rw [State.counted, State.src_setSrc]
  rfl

theorem Charged.emit {s t : State} {n : Nat} (h : Charged s t n) {uid code p : Nat} : Charged s (t.emit uid code p) n :=
  ⟨h.toKeepsSup.trans (.of_eq (State.emit_sup ..)), by rw [State.src_emit, h.total], fun m other => (State.src_emit ..).trans (h.others m other),
    (State.emit_pol ..).trans h.pol⟩

theorem Charged.makeLasting {s t : State} {n : Nat} (h : Charged s t n) : Charged s (t.makeLasting n) n :=
  ⟨h.toKeepsSup.trans (.makeLasting t n), by rw [State.makeLasting_src]; exact h.total,
    fun m other => (t.makeLasting_src_other other).trans (h.others m other), (State.makeLasting_pol ..).trans h.pol⟩

theorem State.charge_charged (s : State) (n uid code : Nat) : Charged s (s.charge n uid code) n := by
  have counted := s.counted_charged n uid code
  unfold State.charge State.chargeWith
  dsimp only
  split
  · exact counted
  · split_ifs
    · exact counted.emit.makeLasting
    · exact counted.makeLasting
    · exact counted.emit
    · exact counted

/-! ## Glitches, watchdogs and mismatches (R451, R460) -/

theorem State.pairRestart_charged (s : State) (vehicle : Bool) (cause code : Nat) : Charged s (s.pairRestart vehicle cause code)
    (if vehicle then 2 else 1) := by
  unfold State.pairRestart
  exact (State.charge_charged _ _ _ _).of_sup (State.emit_sup ..) (State.emit_pol ..)

theorem State.glitch_off {s : State} (off : s.powered = false) (a b : Bool) : s.glitch a b = s := if_pos (by simp [off])

theorem State.glitch_none (s : State) : s.glitch false false = s := if_pos (by simp)

/-- A glitch counts once, and once against each pair. -/
theorem State.glitch_counts {s : State} (on : s.powered = true) {a b : Bool} (some_ : a = true ∨ b = true) : let t := s.glitch a b
    t.sup.glitches = min (s.sup.glitches + 1) (2 ^ 32 - 1) ∧ (t.src 1).total = min ((s.src 1).total + 1) (2 ^ 32 - 1) ∧
      (t.src 2).total = min ((s.src 2).total + 1) (2 ^ 32 - 1) ∧ t.pol = s.pol ∧ ∀ n, 3 ≤ n → (t.src n).total = (s.src n).total := by
  let s1 : State := { s with sup := { s.sup with glitches := satAdd 32 s.sup.glitches 1 } }
  let s2 := s1.emit 0x37 0x1207 (b2n a + 2 * b2n b)
  have act : s.glitch a b = (s2.pairRestart false 3 0x1207).pairRestart true 3 0x1207 := if_neg (by cases a <;> cases b <;> simp_all)
  have trust : Charged s1 (s2.pairRestart false 3 0x1207) 1 := (s2.pairRestart_charged false 3 0x1207).of_sup (State.emit_sup ..) (State.emit_pol ..)
  have vehicle : Charged (s2.pairRestart false 3 0x1207) ((s2.pairRestart false 3 0x1207).pairRestart true 3 0x1207) 2 :=
    State.pairRestart_charged _ true 3 0x1207
  obtain ⟨_, _, _, sup⟩ := trust.toKeepsSup.trans vehicle.toKeepsSup
  intro t
  rw [show t = _ from act]
  refine ⟨by rw [sup]; rfl, ?_, ?_, vehicle.pol.trans trust.pol, fun n high => ?_⟩
  · rw [vehicle.others 1 (by decide), trust.total]; rfl
  · rw [vehicle.total, trust.others 2 (by decide)]; rfl
  · rw [vehicle.others n (by omega), trust.others n (by omega)]; rfl

/-- The source that a watchdog counts against (R460). -/
def watchdogSource : CoreGroup → Nat
  | .trust => 1
  | .vehicle => 2
  | .se m => 3 + m % 4

theorem State.watchdog_off {s : State} (off : s.powered = false) (g : CoreGroup) : s.watchdog g = s := if_pos (by simp [off])

theorem State.watchdog_charged {s : State} (on : s.powered = true) (g : CoreGroup) : Charged s (s.watchdog g) (watchdogSource g) := by
  unfold State.watchdog
  rw [if_neg (by simp [on])]
  cases g with
  | trust => exact s.pairRestart_charged false 2 0x1305
  | vehicle => exact s.pairRestart_charged true 2 0x1305
  | se m => exact s.charge_charged ..

theorem State.lockstep_off {s : State} (off : s.powered = false) (vehicle : Bool) : s.lockstep vehicle = s := if_neg (by simp [off])

theorem State.lockstep_charged {s : State} (on : s.powered = true) (vehicle : Bool) : Charged s (s.lockstep vehicle) (if vehicle then 2 else 1) := by
  rw [State.lockstep, if_pos on]
  exact s.pairRestart_charged vehicle 1 0x1305

/-! ## Ends of faults (R459 to R462) -/

/-- A source is clear, and its total stands. -/
structure Cleared (s t : State) (n : Nat) : Prop where
  st : (t.src n).st = 0
  times : (t.src n).times = []
  total : (t.src n).total = (s.src n).total

theorem Cleared.setSrc (s : State) (n : Nat) : Cleared s (s.setSrc n { s.src n with st := 0, times := [] }) n := by
  constructor <;> rw [State.src_setSrc]

theorem Cleared.of_sup {s t u : State} {n : Nat} (h : Cleared s t n) (sup : u.sup = t.sup) : Cleared s u n := by
  have same := State.src_congr sup n
  exact ⟨same ▸ h.st, same ▸ h.times, same ▸ h.total⟩

theorem Cleared.answer {s t : State} {n : Nat} (h : Cleared s t n) {c : Client} {k ab : Nat} {d : Bytes} {late : Bool} :
    Cleared s (t.answer c k ab d late) n := h.of_sup (State.answer_sup ..)

theorem State.endFault_lasting {s : State} {n : Nat} (lasting : (s.src n).st = 2) : Cleared s (s.endFault n) n := by
  rw [State.endFault, if_pos lasting]
  exact (Cleared.setSrc s n).of_sup (State.emit_sup ..)

theorem State.endFault_other {s : State} {n : Nat} (other : (s.src n).st ≠ 2) : s.endFault n = s := if_neg other

/-- The timed end conditions of R460. -/
def State.FaultMet (s : State) (n : Nat) : Prop :=
  s.powered = true ∧ (((n = 7 ∨ n = 0x1C ∨ n = 0x1D) ∧ (s.src n).quiet + 600 * secNs ≤ s.now) ∨ (n = 0x1A ∧ s.jr.st = 3) ∨
    (n = 0x1B ∧ s.dist.link = 2 ∧ s.dist.authSince + 600 * secNs ≤ s.now))

theorem State.faultEnded_eq (s : State) (n : Nat) : (s.FaultMet n → s.whenOn (fun v => v.faultEnded n) = s.endFault n) ∧
    (¬s.FaultMet n → s.whenOn (fun v => v.faultEnded n) = s) := by
  cases on : s.powered with
  | false => exact ⟨fun met => absurd met.1 (by simp [on]), fun _ => State.whenOn_off on _⟩
  | true =>
    rw [State.whenOn_on on, State.faultEnded]
    dsimp only
    rw [on, Bool.true_and]
    have cond : s.FaultMet n ↔ (if n = 0x07 then decide ((s.src n).quiet + 600 * secNs ≤ s.now) else if n = 0x1A then s.jr.st == 3
        else if n = 0x1B then s.dist.link == 2 && decide (s.dist.authSince + 600 * secNs ≤ s.now)
        else if n = 0x1C || n = 0x1D then decide ((s.src n).quiet + 600 * secNs ≤ s.now) else false) = true := by
      unfold State.FaultMet
      split_ifs with a b d e
      · subst a; simp [on]
      · subst b; simp [on]
      · subst d; simp [on]
      · obtain rfl | rfl : n = 0x1C ∨ n = 0x1D := by simpa using e
        · simp [on]
        · simp [on]
      · simp_all
    exact ⟨fun met => if_pos (cond.mp met), fun no => if_neg (mt cond.mpr no)⟩

end Sys2Proof.Machine
end

section
/-! SUPPORT. Supplies, clocks and temperature: what each loss and return makes of the units that depend on it (R444, R447 to R450). -/

namespace Sys2Proof.Machine
open Sys2Proof

/-! ## Own states -/

theorem State.ownState_setUnit_other (s : State) {u v : Nat} (st : Nat) (other : v ≠ u) : (s.setUnit u st).ownState v = s.ownState v := by
  unfold State.ownState
  rw [State.setUnit_sup, State.setUnit, kvGet_kvPut_other _ _ _ _ _ other]

/-- A unit set FAILED is FAILED, with the vehicle pair or without. -/
theorem State.ownState_setUnit_failed (s : State) (u : Nat) : (s.setUnit u stFailed).ownState u = stFailed := by
  unfold State.ownState
  rw [State.setUnit, kvGet_kvPut_same, ite_self]

theorem State.rangingAgain_starts {s : State} (up : s.sup.vehicleLost = false) : s.rangingAgain.ownState 0x04 = stStarting := by
  unfold State.rangingAgain
  exact (State.ownState_setUnit (by rw [State.setUnits_sup, up]) ..).trans (if_pos rfl)

@[simp] theorem State.rangingAgain_sup (s : State) : s.rangingAgain.sup = s.sup := State.setUnits_sup ..

/-! ## VDD_SER (R444) -/

theorem State.portsLost_keeps (s : State) : s.portsLost.sup = s.sup ∧ s.portsLost.pol = s.pol := by
  unfold State.portsLost
  split <;> exact ⟨rfl, rfl⟩

theorem State.portsLost_fails {s : State} (off : s.ownState 0x25 ≠ stOff) (stopped : s.ownState 0x25 ≠ stStopped) :
    s.portsLost.ownState 0x25 = stFailed ∧ s.portsLost.ownState 0x04 = stFailed := by
  unfold State.portsLost
  rw [if_neg (by simp [off, stopped])]
  exact ⟨(State.ownState_setUnit_other _ _ (by decide)).trans (State.ownState_setUnit_failed _ _), State.ownState_setUnit_failed _ _⟩

theorem State.serLow_waits {s : State} {mv : Nat} (no : s.powered = false ∨ 840 ≤ mv) : s.serLow mv = s := by
  have no : s.powered = false ∨ Machine.railReset 3 ≤ mv := no
  exact if_pos (by simpa [railLow] using no)

theorem State.serLow_drops {s : State} (on : s.powered = true) {mv : Nat} (low : mv < 840) :
    s.serLow mv = ({ s with sup := { s.sup with serLow := true, rails := setAt s.sup.rails 3 mv } } : State).portsLost := by
  have low : mv < Machine.railReset 3 := low
  exact if_neg (by simpa [railLow, on] using low)

theorem State.serLow_spec {s : State} (on : s.powered = true) {mv : Nat} (low : mv < 840) : let t := s.serLow mv
    t.sup.serLow = true ∧ t.pol = s.pol ∧ (s.ownState 0x25 ≠ stOff → s.ownState 0x25 ≠ stStopped → t.ownState 0x25 = stFailed ∧
        t.ownState 0x04 = stFailed) := by
  let v : State := { s with sup := { s.sup with serLow := true, rails := setAt s.sup.rails 3 mv } }
  obtain ⟨sup, pol⟩ := v.portsLost_keeps
  have same : v.ownState 0x25 = s.ownState 0x25 := rfl
  intro t
  rw [show t = v.portsLost from State.serLow_drops on low]
  exact ⟨congrArg Sup.serLow sup, pol, fun off stopped => State.portsLost_fails (same ▸ off) (same ▸ stopped)⟩

theorem State.serBack_waits {s : State} {mv : Nat} (no : s.powered = false ∨ s.sup.serLow = false ∨ mv ≤ 860) : s.serBack mv = s :=
  if_pos (by simpa [or_assoc] using no)

/-- VDD_SER is back; ranging starts again unless something else keeps it (R444). -/
theorem State.serBack_recovers {s : State} (on : s.powered = true) (low : s.sup.serLow = true) {mv : Nat} (high : 860 < mv) : let t := s.serBack mv
    t.sup.serLow = false ∧
      (s.sup.rc = false → s.sup.hot = false → s.sup.pllS = false → s.sup.vehicleLost = false → t.ownState 0x04 = stStarting) := by
  intro t
  have act : t = _ := if_neg (by simp [on, low, high])
  rw [act]
  dsimp only
  split
  · next other => exact ⟨rfl, fun rc hot pll => by simp [rc, hot, pll] at other⟩
  · exact ⟨by rw [State.rangingAgain_sup], fun _ _ _ up => State.rangingAgain_starts up⟩

/-! ## The PLLs (R448) -/

theorem State.pllLost_off {s : State} (off : s.powered = false) (l : Pll) : s.pllLost l = s := if_pos (by simp [off])

theorem State.pllBack_off {s : State} (off : s.powered = false) (l : Pll) : s.pllBack l = s := if_pos (by simp [off])

theorem State.pllLost_on {s : State} (on : s.powered = true) : s.pllLost .core = s.resetTo 8 0 ∧
    s.pllLost .sample = ({ s with sup := { s.sup with pllS := true } } : State).portsLost := by
  exact ⟨if_neg (by simp [on]), if_neg (by simp [on])⟩

theorem State.pllLost_sample {s : State} (on : s.powered = true) : let t := s.pllLost .sample
    t.sup.pllS = true ∧ (s.ownState 0x25 ≠ stOff → s.ownState 0x25 ≠ stStopped → t.ownState 0x25 = stFailed) := by
  let v : State := { s with sup := { s.sup with pllS := true } }
  have same : v.ownState 0x25 = s.ownState 0x25 := rfl
  intro t
  rw [show t = v.portsLost from (State.pllLost_on on).2]
  exact ⟨congrArg Sup.pllS v.portsLost_keeps.1, fun off stopped => (State.portsLost_fails (same ▸ off) (same ▸ stopped)).1⟩

theorem State.pllBack_core (s : State) : s.pllBack .core = s := ite_self s

theorem State.pllBack_sample_locked {s : State} (locked : s.sup.pllS = false) : s.pllBack .sample = s := by
  unfold State.pllBack
  split
  · rfl
  · exact if_pos (by simp [locked])

theorem State.pllBack_sample {s : State} (on : s.powered = true) (lost : s.sup.pllS = true) : let t := s.pllBack .sample
    t.sup.pllS = false ∧
      (s.sup.rc = false → s.sup.hot = false → s.sup.serLow = false → s.sup.vehicleLost = false → t.ownState 0x04 = stStarting) := by
  intro t
  have act : t = _ := (if_neg (by simp [on])).trans (if_neg (by simp [lost]))
  rw [act]
  dsimp only
  split
  · next other => exact ⟨rfl, fun rc hot low => by simp [rc, hot, low] at other⟩
  · exact ⟨by rw [State.rangingAgain_sup], fun _ _ _ up => State.rangingAgain_starts up⟩

/-- A controller that loses its PLL stops and is FAILED. -/
def State.canPllLost (s : State) (b : Nat) : State :=
  if s.ownState (canUnit b) == stStopped || s.ownState (canUnit b) == stOff then s else (s.canStop b).setUnit (canUnit b) stFailed

theorem State.pllLost_can {s : State} (on : s.powered = true) :
    s.pllLost .can = (({ s with sup := { s.sup with pllCan := true } } : State).canPllLost 0).canPllLost 1 := if_neg (by simp [on])

theorem State.canPllLost_sup (s : State) (b : Nat) : (s.canPllLost b).sup = s.sup := by
  unfold State.canPllLost
  split
  · rfl
  · exact (KeepsField.setCtl s b _).sup

theorem State.canPllLost_own {s : State} {b : Nat} (lt : b < 2) (stopped : s.ownState (0x2E + b) ≠ stStopped) (off : s.ownState (0x2E + b) ≠ stOff) :
    (s.canPllLost b).ownState (0x2E + b) = stFailed ∧ ((s.canPllLost b).ctl b).st = 0 := by
  rw [← canUnit_of_lt lt] at stopped off ⊢
  unfold State.canPllLost
  rw [if_neg (by simp [stopped, off])]
  refine ⟨State.ownState_setUnit_failed _ _, ?_⟩
  rw [State.ctl_setUnit, State.canStop, State.ctl_setUnit, State.ctl_setCtl]

theorem State.canPllLost_other (s : State) {b e : Nat} (lt : b < 2) (lt' : e < 2) (other : e ≠ b) :
    (s.canPllLost b).ownState (0x2E + e) = s.ownState (0x2E + e) ∧ (s.canPllLost b).ctl e = s.ctl e := by
  have units : 0x2E + e ≠ canUnit b := by rw [canUnit_of_lt lt]; omega
  unfold State.canPllLost
  split
  · exact ⟨rfl, rfl⟩
  · refine ⟨(State.ownState_setUnit_other _ _ units).trans ((State.ownState_setUnit_other _ _ units).trans ((KeepsField.setCtl s b _).ownState _)),
      ?_⟩
    rw [State.ctl_setUnit, State.canStop, State.ctl_setUnit]
    obtain ⟨rfl, rfl⟩ | ⟨rfl, rfl⟩ : (b = 0 ∧ e = 1) ∨ (b = 1 ∧ e = 0) := by omega
    all_goals rfl

/-- The two controllers that lose their PLL. -/
theorem State.canPllLost_both (s : State) : let t := (s.canPllLost 0).canPllLost 1
    t.sup = s.sup ∧ ∀ b, b < 2 → s.ownState (0x2E + b) ≠ stStopped → s.ownState (0x2E + b) ≠ stOff →
      t.ownState (0x2E + b) = stFailed ∧ (t.ctl b).st = 0 := by
  refine ⟨(State.canPllLost_sup ..).trans (State.canPllLost_sup ..), fun b lt stopped off => ?_⟩
  obtain rfl | rfl : b = 0 ∨ b = 1 := by omega
  · obtain ⟨own, st⟩ := State.canPllLost_own lt stopped off
    obtain ⟨later, ctl⟩ := (s.canPllLost 0).canPllLost_other (b := 1) (e := 0) (by decide) (by decide) (by decide)
    exact ⟨later.trans own, ctl ▸ st⟩
  · have before := (s.canPllLost_other (b := 0) (e := 1) (by decide) (by decide) (by decide)).1
    exact State.canPllLost_own lt (before ▸ stopped) (before ▸ off)

theorem State.pllLost_can_spec {s : State} (on : s.powered = true) : let t := s.pllLost .can
    t.sup.pllCan = true ∧ ∀ b, b < 2 → s.ownState (0x2E + b) ≠ stStopped → s.ownState (0x2E + b) ≠ stOff → t.ownState (0x2E + b) = stFailed ∧
        (t.ctl b).st = 0 := by
  let v : State := { s with sup := { s.sup with pllCan := true } }
  have same (n : Nat) : v.ownState n = s.ownState n := rfl
  obtain ⟨sup, both⟩ := v.canPllLost_both
  intro t
  rw [show t = (v.canPllLost 0).canPllLost 1 from State.pllLost_can on]
  exact ⟨congrArg Sup.pllCan sup, fun b lt stopped off => both b lt ((same _).symm ▸ stopped) ((same _).symm ▸ off)⟩

/-- A controller whose PLL is back starts where it was FAILED. -/
def State.canPllBack (s : State) (b : Nat) : State := if s.ownState (canUnit b) == stFailed then s.canStart b else s

theorem State.pllBack_can {s : State} (on : s.powered = true) (lost : s.sup.pllCan = true) :
    s.pllBack .can = (({ s with sup := { s.sup with pllCan := false } } : State).canPllBack 0).canPllBack 1 :=
  (if_neg (by simp [on])).trans (if_neg (by simp [lost]))

theorem State.pllBack_can_locked {s : State} (locked : s.sup.pllCan = false) : s.pllBack .can = s := by
  unfold State.pllBack
  split
  · rfl
  · exact if_pos (by simp [locked])

theorem KeepsUnits.canClock (s : State) (b : Nat) : KeepsUnits s (s.canClock b) := by
  unfold State.canClock
  dsimp only
  split_ifs
  · exact .refl s
  all_goals exact (KeepsField.setCtl s b _).toKeepsUnits.emit

theorem State.canStart_spec (s : State) (b : Nat) : (s.canStart b).sup = s.sup ∧ (∀ v, v ≠ canUnit b → (s.canStart b).ownState v = s.ownState v) ∧
    (s.sup.vehicleLost = false → (s.canStart b).ownState (canUnit b) = stStarting) := by
  unfold State.canStart
  extract_lets u s1 x x1
  have taken : KeepsUnits s s1 := .snapshot ..
  have conf := taken.trans (KeepsField.setCtl s1 b x1).toKeepsUnits
  have clocked := KeepsUnits.canClock ((s1.setCtl b x1).setUnit u stStarting) b
  refine ⟨clocked.sup.trans conf.sup, fun v other => ?_, fun up => ?_⟩
  · exact (clocked.ownState v).trans ((State.ownState_setUnit_other _ _ other).trans (conf.ownState v))
  · exact (clocked.ownState _).trans ((State.ownState_setUnit (by rw [conf.sup, up]) ..).trans (if_pos rfl))

theorem State.canPllBack_spec (s : State) {b : Nat} (lt : b < 2) : (s.canPllBack b).sup = s.sup ∧
    (∀ v, v ≠ 0x2E + b → (s.canPllBack b).ownState v = s.ownState v) ∧
    (s.sup.vehicleLost = false → s.ownState (0x2E + b) = stFailed → (s.canPllBack b).ownState (0x2E + b) = stStarting) := by
  obtain ⟨sup, others, own⟩ := s.canStart_spec b
  unfold State.canPllBack
  rw [canUnit_of_lt lt] at *
  split
  · exact ⟨sup, others, fun up _ => own up⟩
  · next fine => exact ⟨rfl, fun _ _ => rfl, fun _ failed => absurd (by simpa using failed) fine⟩

/-- The two controllers whose PLL is back. -/
theorem State.canPllBack_both (s : State) : let t := (s.canPllBack 0).canPllBack 1
    t.sup = s.sup ∧ ∀ b, b < 2 → s.sup.vehicleLost = false → s.ownState (0x2E + b) = stFailed → t.ownState (0x2E + b) = stStarting := by
  obtain ⟨sup0, others0, own0⟩ := s.canPllBack_spec (b := 0) (by decide)
  obtain ⟨sup1, others1, own1⟩ := (s.canPllBack 0).canPllBack_spec (b := 1) (by decide)
  refine ⟨sup1.trans sup0, fun b lt up failed => ?_⟩
  obtain rfl | rfl : b = 0 ∨ b = 1 := by omega
  · exact (others1 _ (by decide)).trans (own0 up failed)
  · exact own1 (by rw [sup0, up]) ((others0 _ (by decide)).trans failed)

theorem State.pllBack_can_spec {s : State} (on : s.powered = true) (lost : s.sup.pllCan = true) : let t := s.pllBack .can
    t.sup.pllCan = false ∧ ∀ b, b < 2 → s.sup.vehicleLost = false → s.ownState (0x2E + b) = stFailed → t.ownState (0x2E + b) = stStarting := by
  let v : State := { s with sup := { s.sup with pllCan := false } }
  have same (n : Nat) : v.ownState n = s.ownState n := rfl
  obtain ⟨sup, both⟩ := v.canPllBack_both
  intro t
  rw [show t = (v.canPllBack 0).canPllBack 1 from State.pllBack_can on lost]
  exact ⟨congrArg Sup.pllCan sup, fun b lt up failed => both b lt up ((same _).trans failed)⟩

/-! ## The crystal (R447) -/

/-- What keeps supervision and the receiver. -/
structure KeepsReceiver (s t : State) : Prop where
  sup : t.sup = s.sup
  rx : t.phy.rx = s.phy.rx

theorem KeepsReceiver.trans {s t u : State} (h : KeepsReceiver s t) (g : KeepsReceiver t u) : KeepsReceiver s u :=
  ⟨g.sup.trans h.sup, g.rx.trans h.rx⟩

theorem KeepsReceiver.emit {s t : State} (h : KeepsReceiver s t) {uid code p : Nat} : KeepsReceiver s (t.emit uid code p) :=
  h.trans ⟨State.emit_sup .., congrArg Phy.rx (State.emit_phy ..)⟩

theorem KeepsReceiver.lanesState (s : State) : KeepsReceiver s s.lanesState := by
  unfold State.lanesState
  split <;> exact ⟨rfl, rfl⟩

theorem KeepsReceiver.setCtl (s : State) (b : Nat) (x : CanCtl) : KeepsReceiver s (s.setCtl b x) := by
  unfold State.setCtl
  split <;> exact ⟨rfl, rfl⟩

theorem KeepsReceiver.canClock (s : State) (b : Nat) : KeepsReceiver s (s.canClock b) := by
  unfold State.canClock
  dsimp only
  split_ifs
  · exact ⟨rfl, rfl⟩
  all_goals exact (KeepsReceiver.setCtl s b _).emit

theorem KeepsReceiver.bellClockLost (s : State) : KeepsReceiver s s.bellClockLost := by
  unfold State.bellClockLost
  split
  · have valid : KeepsReceiver s (s.bellValid false) := by
      unfold State.bellValid
      exact ⟨State.emitIf_sup .., congrArg Phy.rx (State.emitIf_phy ..)⟩
    exact valid.trans ⟨rfl, rfl⟩
  · exact ⟨rfl, rfl⟩

theorem State.clockLost_off {s : State} (no : s.powered = false ∨ s.sup.rc = true) : s.clockLost = s := by
  obtain off | rc := no
  · exact if_neg (by simp [off])
  · unfold State.clockLost State.loseCrystal
    rw [if_pos rc]
    exact ite_self s

/-- The crystal's fault, and the receiver that ends. -/
def State.crystalFails (s : State) : State :=
  let s1 : State := { s with sup := { s.sup with rc := true, rcSince := s.now, xtalLosses := satAdd 32 s.sup.xtalLosses 1 } }
  let s2 := (s1.emit 0x37 0x1204 0).charge 0x08 0x37 0x1204
  { s2 with phy := { s2.phy with rx := none } }

theorem State.loseCrystal_eq {s : State} (xtal : s.sup.rc = false) :
    s.loseCrystal = (((s.crystalFails.lanesState).canClock 0).canClock 1).bellClockLost := if_neg (by simp [xtal])

theorem State.loseCrystal_spec {s : State} (xtal : s.sup.rc = false) : let t := s.loseCrystal
    t.sup.rc = true ∧ t.sup.rcSince = s.now ∧ t.sup.xtalLosses = min (s.sup.xtalLosses + 1) (2 ^ 32 - 1) ∧
      (t.src 8).total = min ((s.src 8).total + 1) (2 ^ 32 - 1) ∧ t.phy.rx = none := by
  let s1 : State := { s with sup := { s.sup with rc := true, rcSince := s.now, xtalLosses := satAdd 32 s.sup.xtalLosses 1 } }
  have charged : Charged s1 ((s1.emit 0x37 0x1204 0).charge 0x08 0x37 0x1204) 8 :=
    (State.charge_charged _ _ _ _).of_sup (State.emit_sup ..) (State.emit_pol ..)
  have after : KeepsReceiver s.crystalFails s.loseCrystal := by
    rw [State.loseCrystal_eq xtal]
    exact (((KeepsReceiver.lanesState _).trans (.canClock _ 0)).trans (.canClock _ 1)).trans (.bellClockLost _)
  obtain ⟨_, _, _, sup⟩ := charged.toKeepsSup
  have sup : s.loseCrystal.sup = _ := after.sup.trans sup
  intro t
  rw [show t.sup = _ from sup]
  exact ⟨rfl, rfl, rfl, (congrArg FaultSrc.total (State.src_congr after.sup 8)).trans charged.total, after.rx⟩

/-- The crystal has been back for 100 ms with no lasting fault of its own (R447, R460). -/
def State.CrystalDue (s : State) : Prop :=
  s.powered = true ∧ s.sup.rc = true ∧ s.lasting 8 = false ∧ s.sup.rcSince + 100 * msNs ≤ s.now

theorem State.clockRestored_if (s : State) :
    (!s.powered || !s.sup.rc || s.lasting 0x08 || decide (s.now < s.sup.rcSince + 100 * msNs)) = true ↔ ¬s.CrystalDue := by
  simp only [State.CrystalDue, Bool.or_eq_true, Bool.not_eq_true', decide_eq_true_eq, ← Nat.not_le, ← Bool.not_eq_true]
  tauto

theorem State.clockRestored_waits {s : State} (wait : ¬s.CrystalDue) : s.clockRestored = s := if_pos (s.clockRestored_if.mpr wait)

theorem State.bellStart_keeps (s : State) {v : Nat} (other : v ≠ 0x30) : s.bellStart.sup = s.sup ∧ s.bellStart.ownState v = s.ownState v := by
  have conf : KeepsUnits s s.bellTakeConf := .snapshot ..
  exact ⟨conf.sup, (State.ownState_setUnit_other _ _ other).trans (conf.ownState v)⟩

theorem State.clockRestored_back {s : State} (due : s.CrystalDue) : let t := s.clockRestored
    t.sup.rc = false ∧ (s.sup.hot = false → s.sup.vehicleLost = false → t.ownState 0x04 = stStarting) := by
  let s1 : State := { s with sup := { s.sup with rc := false } }
  let s2 := s1.emit 0x37 0x1205 (min ((s.now - s.sup.rcSince) / msNs) (2 ^ 32 - 1))
  let s3 := if s2.sup.hot then s2 else s2.rangingAgain
  have act : s.clockRestored = if s3.ownState 0x30 = stRunning && s3.bell.st != 0 then s3.bellStart else s3 :=
    if_neg (not_not.mpr due ∘ s.clockRestored_if.mp)
  have sup2 : s2.sup = s1.sup := State.emit_sup ..
  have sup3 : s3.sup = s1.sup := by
    show (if s2.sup.hot then s2 else s2.rangingAgain).sup = _
    split
    · exact sup2
    · exact (State.rangingAgain_sup _).trans sup2
  have starts (hot : s.sup.hot = false) (up : s.sup.vehicleLost = false) : s3.ownState 0x04 = stStarting := by
    have cold : s2.sup.hot = false := (congrArg Sup.hot sup2).trans hot
    rw [show s3 = _ from if_neg (by simp [cold])]
    exact State.rangingAgain_starts ((congrArg Sup.vehicleLost sup2).trans up)
  obtain ⟨bellSup, bellOwn⟩ := s3.bellStart_keeps (v := 0x04) (by decide)
  intro t
  rw [show t = _ from act]
  split
  · exact ⟨congrArg Sup.rc (bellSup.trans sup3), fun hot up => bellOwn.trans (starts hot up)⟩
  · exact ⟨congrArg Sup.rc sup3, starts⟩

theorem State.rcTrim_off {s : State} (no : s.sup.rc = true ∨ s.sup.held = true) (k : Nat) : s.rcTrim k = s := if_pos (by simpa using no)

theorem State.rcTrim_on {s : State} (xtal : s.sup.rc = false) (released : s.sup.held = false) {k : Nat} (lt : k < 65536) :
    s.rcTrim k = { s with aon := { s.aon with trim := k } } := by
  rw [State.rcTrim, if_neg (by simp [xtal, released]), Nat.mod_eq_of_lt lt]

/-! ## Temperature (R450) -/

theorem State.temperature_off {s : State} (off : s.powered = false) (l : List Int) : s.temperature l = s := if_pos (by simp [off])

section
variable {s : State} {l : List Int} (on : s.powered = true) (four : l.length = 4)
include on four

/-- 125 °C stops and gates the ranging group. -/
theorem State.temperature_stops (cool : s.sup.hot = false) (high : 500 ≤ tjOf l) : let t := s.temperature l
    t.sup.tj = l ∧ t.sup.hot = true ∧ (s.sup.vehicleLost = false → t.ownState 0x25 = stStopped) ∧ t.phy.rx = none := by
  have take : l.take 4 = l := List.take_of_length_le four.le
  let s2 : State := { s with sup := { s.sup with tj := l.take 4, hot := true }, phy := { s.phy with rx := none } }
  have act : s.temperature l =
      ((s2.setUnits rangingUnits stStopped).setUnit 0x04 stStarting).emit 0x11 0x1206 (1 + 65536 * twos 16 (tjOf (l.take 4))) :=
    (if_neg (by simp [on])).trans (if_pos (by simp [take, cool, high]))
  have sup : (s.temperature l).sup = s2.sup := by rw [act, State.emit_sup, State.setUnit_sup, State.setUnits_sup]
  intro t
  refine ⟨(congrArg Sup.tj sup).trans take, congrArg Sup.hot sup, fun up => ?_, ?_⟩
  · rw [show t = _ from act, State.ownState_congr (State.emit_us ..) (State.emit_sup ..), State.ownState_setUnit_other _ _ (by decide),
      State.setUnits_ownState (s := s2) up]
    rfl
  · rw [show t = _ from act, State.emit_phy, State.setUnit_phy, State.setUnits_phy]

/-- Below 120 °C the group starts again. -/
theorem State.temperature_restarts (hot : s.sup.hot = true) (low : tjOf l < 480) : let t := s.temperature l
    t.sup.tj = l ∧ t.sup.hot = false ∧ (s.sup.vehicleLost = false → t.ownState 0x04 = stStarting) := by
  have take : l.take 4 = l := List.take_of_length_le four.le
  let s1 : State := { s with sup := { s.sup with tj := l.take 4 } }
  have act : s.temperature l = ({ s1.rangingAgain with sup := { s1.rangingAgain.sup with hot := false } } : State).emit 0x11 0x1206
      (65536 * twos 16 (tjOf (l.take 4))) :=
    (if_neg (by simp [on])).trans ((if_neg (by simp [hot])).trans (if_pos (by simp [take, hot, low])))
  intro t
  rw [show t = _ from act]
  refine ⟨?_, ?_, fun up => ?_⟩
  · rw [State.emit_sup]
    exact (congrArg Sup.tj (State.rangingAgain_sup s1)).trans take
  · rw [State.emit_sup]
  · rw [State.ownState_congr (State.emit_us ..) (State.emit_sup ..)]
    exact State.rangingAgain_starts (s := s1) up

/-- Between its thresholds the temperature is noted alone. -/
theorem State.temperature_stays (between : if s.sup.hot = true then 480 ≤ tjOf l else tjOf l < 500) :
    s.temperature l = { s with sup := { s.sup with tj := l } } := by
  have take : l.take 4 = l := List.take_of_length_le four.le
  unfold State.temperature
  rw [if_neg (by simp [on]), take]
  cases hot : s.sup.hot with
  | true =>
    have high : 480 ≤ tjOf l := by simpa [hot] using between
    simp [hot, not_lt.mpr high]
  | false =>
    have low : tjOf l < 500 := by simpa [hot] using between
    simp [hot, not_le.mpr low]

end

end Sys2Proof.Machine
end

section
/-! SUPPORT. The cold start: what its steps keep, the boot count and the choice of the bank (R457, R471 to R473). -/

namespace Sys2Proof.Machine
open Sys2Proof

/-! ## What the steps of a cold start keep -/

/-- What every step of a cold start keeps, once the boot is counted. -/
structure KeepsStart (s t : State) : Prop where
  now : t.now = s.now
  on : t.tagd.on = s.tagd.on
  slots : t.rr.slots = s.rr.slots
  boots : kvGet {} t.rr.ctrs 1 = kvGet {} s.rr.ctrs 1
  held : t.sup.held = s.sup.held

/-- What the steps before the choice of the bank keep as well. -/
structure KeepsBanks (s t : State) : Prop extends KeepsStart s t where
  fwA : t.rr.fwA = s.rr.fwA
  fwB : t.rr.fwB = s.rr.fwB
  floor : t.rr.floor = s.rr.floor
  active : t.rr.active = s.rr.active
  trialBank : t.rr.trialBank = s.rr.trialBank

theorem KeepsStart.refl (s : State) : KeepsStart s s := ⟨rfl, rfl, rfl, rfl, rfl⟩

theorem KeepsStart.trans {s t u : State} (h : KeepsStart s t) (g : KeepsStart t u) : KeepsStart s u :=
  ⟨g.now.trans h.now, g.on.trans h.on, g.slots.trans h.slots, g.boots.trans h.boots, g.held.trans h.held⟩

theorem KeepsBanks.refl (s : State) : KeepsBanks s s := ⟨.refl s, rfl, rfl, rfl, rfl, rfl⟩

theorem KeepsBanks.trans {s t u : State} (h : KeepsBanks s t) (g : KeepsBanks t u) : KeepsBanks s u :=
  ⟨h.toKeepsStart.trans g.toKeepsStart, g.fwA.trans h.fwA, g.fwB.trans h.fwB, g.floor.trans h.floor, g.active.trans h.active,
      g.trialBank.trans h.trialBank⟩

theorem KeepsBanks.foldl {α : Type} {f : State → α → State} (h : ∀ s a, KeepsBanks s (f s a)) (l : List α) (s : State) :
    KeepsBanks s (l.foldl f s) := by
  induction l generalizing s with
  | nil => exact .refl s
  | cons a r ih => exact (h s a).trans (ih _)

theorem KeepsBanks.admitted {s t : State} (h : KeepsBanks s t) (n : Nat) : t.rr.admitted n = s.rr.admitted n := by
  rw [ReRam.admitted, ReRam.admitted, ReRam.bank, ReRam.bank, h.fwA, h.fwB, h.floor]

theorem KeepsBanks.setUnit (s : State) (uid st : Nat) : KeepsBanks s (s.setUnit uid st) := ⟨⟨rfl, rfl, rfl, rfl, rfl⟩, rfl, rfl, rfl, rfl, rfl⟩

/-- A journal record counts in counter 4 alone. -/
theorem State.record_boots (s : State) (ty : Nat) (b : Bytes) : kvGet {} (s.record ty b).rr.ctrs 1 = kvGet {} s.rr.ctrs 1 := by
  unfold State.record
  dsimp only
  split
  · exact kvGet_kvPut_other _ _ _ _ _ (by decide)
  · rfl

theorem State.emit_boots (s : State) (uid code p : Nat) : kvGet {} (s.emit uid code p).rr.ctrs 1 = kvGet {} s.rr.ctrs 1 := by
  unfold State.emit
  split
  · rfl
  · dsimp only
    split
    · rw [State.record_boots, State.pushEvent_rr, State.record_boots, State.pushEvent_rr]
    · rw [State.record_boots, State.pushEvent_rr]

theorem KeepsBanks.emitted (s : State) (uid code p : Nat) : KeepsBanks s (s.emit uid code p) :=
  ⟨⟨State.emit_now .., by rw [State.emit_tagd], State.emit_rr_slots .., State.emit_boots .., by rw [State.emit_sup]⟩, State.emit_rr_fwA ..,
      State.emit_rr_fwB ..,
    State.emit_rr_floor .., State.emit_rr_active .., State.emit_rr_trialBank ..⟩

theorem KeepsBanks.emit {s t : State} (h : KeepsBanks s t) {uid code p : Nat} : KeepsBanks s (t.emit uid code p) := h.trans (.emitted ..)

theorem KeepsBanks.emitIf {s t : State} (h : KeepsBanks s t) {b : Bool} {uid code p : Nat} : KeepsBanks s (t.emitIf b uid code p) := by
  cases b
  · exact h
  · exact h.emit

theorem KeepsStart.emitIf {s t : State} (h : KeepsStart s t) {b : Bool} {uid code p : Nat} : KeepsStart s (t.emitIf b uid code p) :=
  h.trans (KeepsBanks.emitIf (.refl t)).toKeepsStart

theorem KeepsBanks.setSrc (s : State) (n : Nat) (x : FaultSrc) : KeepsBanks s (s.setSrc n x) := ⟨⟨rfl, rfl, rfl, rfl, rfl⟩, rfl, rfl, rfl, rfl, rfl⟩

theorem KeepsBanks.makeLasting (s : State) (n : Nat) : KeepsBanks s (s.makeLasting n) :=
  (KeepsBanks.setSrc s n _).emit.trans ⟨⟨rfl, rfl, rfl, rfl, rfl⟩, rfl, rfl, rfl, rfl, rfl⟩

theorem KeepsBanks.counted (s : State) (n uid code : Nat) : KeepsBanks s (s.counted n uid code) := ⟨⟨rfl, rfl, rfl, rfl, rfl⟩, rfl, rfl, rfl, rfl,
    rfl⟩

theorem KeepsBanks.charge {s t : State} (h : KeepsBanks s t) {n uid code : Nat} : KeepsBanks s (t.charge n uid code) := by
  refine h.trans ?_
  have counted := KeepsBanks.counted t n uid code
  unfold State.charge State.chargeWith
  dsimp only
  split
  · exact counted
  · split_ifs
    · exact counted.emit.trans (.makeLasting ..)
    · exact counted.trans (.makeLasting ..)
    · exact counted.emit
    · exact counted

/-! ## The crystal, the record scan and the tamper log -/

theorem KeepsBanks.lanesState (s : State) : KeepsBanks s s.lanesState := by
  unfold State.lanesState
  split
  · exact .refl s
  · exact (KeepsBanks.setUnit s ..).trans (.setUnit ..)

theorem KeepsBanks.setCtl (s : State) (b : Nat) (x : CanCtl) : KeepsBanks s (s.setCtl b x) := by
  unfold State.setCtl
  split <;> exact ⟨⟨rfl, rfl, rfl, rfl, rfl⟩, rfl, rfl, rfl, rfl, rfl⟩

theorem KeepsBanks.canClock (s : State) (b : Nat) : KeepsBanks s (s.canClock b) := by
  unfold State.canClock
  dsimp only
  split_ifs
  · exact .refl s
  all_goals exact (KeepsBanks.setCtl s b _).emit

theorem KeepsBanks.bellValid (s : State) (v : Bool) : KeepsBanks s (s.bellValid v) := by
  unfold State.bellValid
  refine .emitIf ?_
  exact ⟨⟨rfl, rfl, rfl, rfl, rfl⟩, rfl, rfl, rfl, rfl, rfl⟩

theorem KeepsBanks.bellClockLost (s : State) : KeepsBanks s s.bellClockLost := by
  unfold State.bellClockLost
  split
  · exact (KeepsBanks.bellValid s false).trans ⟨⟨rfl, rfl, rfl, rfl, rfl⟩, rfl, rfl, rfl, rfl, rfl⟩
  · exact .refl s

theorem KeepsBanks.crystalFails (s : State) : KeepsBanks s s.crystalFails := by
  let s1 : State := { s with sup := { s.sup with rc := true, rcSince := s.now, xtalLosses := satAdd 32 s.sup.xtalLosses 1 } }
  have marked : KeepsBanks s s1 := ⟨⟨rfl, rfl, rfl, rfl, rfl⟩, rfl, rfl, rfl, rfl, rfl⟩
  have charged : KeepsBanks s ((s1.emit 0x37 0x1204 0).charge 0x08 0x37 0x1204) := marked.emit.charge
  exact charged.trans ⟨⟨rfl, rfl, rfl, rfl, rfl⟩, rfl, rfl, rfl, rfl, rfl⟩

theorem KeepsBanks.loseCrystal (s : State) : KeepsBanks s s.loseCrystal := by
  cases xtal : s.sup.rc with
  | true =>
    rw [show s.loseCrystal = s from if_pos xtal]
    exact .refl s
  | false =>
    rw [State.loseCrystal_eq xtal]
    exact ((((KeepsBanks.crystalFails s).trans (.lanesState _)).trans (.canClock _ 0)).trans (.canClock _ 1)).trans (.bellClockLost _)

theorem KeepsBanks.counterRefuse (s : State) {n : Nat} (other : n ≠ 1) : KeepsBanks s (s.counterRefuse n) := by
  unfold State.counterRefuse
  dsimp only
  split
  · exact .refl s
  · refine .emit ?_
    exact ⟨⟨rfl, rfl, rfl, kvGet_kvPut_other _ _ _ _ _ other.symm, rfl⟩, rfl, rfl, rfl, rfl, rfl⟩

theorem KeepsBanks.increment (s : State) {n : Nat} (other : n ≠ 1) (k : Nat) : KeepsBanks s (s.increment n k) := by
  unfold State.increment
  split
  · exact .counterRefuse s other
  · split
    · exact ⟨⟨rfl, rfl, rfl, rfl, rfl⟩, rfl, rfl, rfl, rfl, rfl⟩
    · unfold State.nvRequest
      dsimp only
      split
      · split <;> exact ⟨⟨rfl, rfl, rfl, rfl, rfl⟩, rfl, rfl, rfl, rfl, rfl⟩
      · exact ⟨⟨rfl, rfl, rfl, rfl, rfl⟩, rfl, rfl, rfl, rfl, rfl⟩

theorem KeepsBanks.tamperRecord (s : State) (src : Nat) : KeepsBanks s (s.tamperRecord src) := by
  unfold State.tamperRecord
  refine .emit ((KeepsBanks.increment s (n := 5) (by decide) 1).trans ?_)
  exact ⟨⟨rfl, rfl, rfl, rfl, rfl⟩, rfl, rfl, rfl, rfl, rfl⟩

theorem KeepsBanks.tamperOffline (s : State) : KeepsBanks s s.tamperOffline := by
  unfold State.tamperOffline
  dsimp only
  split
  · exact .refl s
  · refine .emit ((KeepsBanks.foldl (fun t (x : OffTamper) => .tamperRecord t x.src) s.aon.offline s).trans ?_)
    exact ⟨⟨rfl, rfl, rfl, rfl, rfl⟩, rfl, rfl, rfl, rfl, rfl⟩

theorem KeepsBanks.recordScan (s : State) (o : BootObs) : KeepsBanks s (s.recordScan o) := by
  unfold State.recordScan
  refine KeepsBanks.trans (KeepsBanks.trans (.foldl (fun t k => .emit ?_) _ _) (.foldl (fun t q => .emit ?_) _ _)) (.foldl (fun t k =>
      .charge (.emit ?_)) _ _)
  all_goals exact ⟨⟨rfl, rfl, rfl, rfl, rfl⟩, rfl, rfl, rfl, rfl, rfl⟩

/-! ## The choice of the bank (R473) -/

theorem KeepsStart.bootFrom (s : State) (n : Nat) (trial fallback : Bool) : KeepsStart s (s.bootFrom n trial fallback) := by
  unfold State.bootFrom
  refine KeepsStart.trans ?_ (KeepsBanks.emitted ..).toKeepsStart
  exact ⟨rfl, rfl, rfl, rfl, rfl⟩

theorem State.bootFrom_boots (s : State) (n : Nat) (fallback : Bool) : let t := s.bootFrom n false fallback
    t.sup.running = n ∧ t.sup.trial = false ∧ t.ownState 0x22 = stRunning := by
  unfold State.bootFrom
  refine ⟨congrArg Sup.running (State.emit_sup ..), congrArg Sup.trial (State.emit_sup ..), ?_⟩
  rw [State.ownState_congr (State.emit_us ..) (State.emit_sup ..), State.ownState, if_neg (by simp [vehicleUnits]), State.setUnit, kvGet_kvPut_same]

theorem KeepsStart.chooseBank (s : State) : KeepsStart s s.chooseBank := by
  unfold State.chooseBank
  extract_lets other old s1
  have rolled : KeepsStart s s1 := by
    show KeepsStart s (if _ then _ else s)
    split
    · refine .emitIf ?_
      exact ⟨rfl, rfl, rfl, rfl, rfl⟩
    · exact .refl s
  split
  · refine rolled.trans (KeepsStart.trans ?_ (.bootFrom ..))
    exact ⟨rfl, rfl, rfl, rfl, rfl⟩
  · split_ifs
    · exact rolled.trans (.bootFrom ..)
    · exact rolled.trans (.bootFrom ..)
    · exact rolled.trans ⟨rfl, rfl, rfl, rfl, rfl⟩

section
variable {s : State} (noTrial : s.rr.trialBank = none)
include noTrial

theorem State.chooseBank_active (good : (s.rr.admitted s.rr.active).isSome = true) : s.chooseBank = s.bootFrom s.rr.active false false := by
  unfold State.chooseBank
  simp [noTrial, good]

theorem State.chooseBank_rom (bad : s.rr.admitted s.rr.active = none) (worse : s.rr.admitted (1 - s.rr.active) = none) :
    s.chooseBank = ({ s with sup := { s.sup with bootRom := true } } : State).setUnit 0x22 stFailed := by
  unfold State.chooseBank
  simp [noTrial, bad, worse]

end

/-! ## The cold start (R457) -/

/-- Every rail is above its reset threshold, and after THERMAL the part is below 115 °C. -/
def State.MayStart (s : State) (o : BootObs) : Prop :=
  s.sup.held = true ∧ s.aon.mode = 0 ∧ 700 ≤ nth 0 o.rails 0 ∧ 2800 ≤ nth 0 o.rails 1 ∧ 1620 ≤ nth 0 o.rails 2 ∧ 2500 ≤ nth 0 o.rails 4 ∧
    (s.aon.resetKind ≠ 5 ∨ tjOf o.sensors < 460)

theorem State.mayColdStart_iff (s : State) (o : BootObs) : s.mayColdStart o = true ↔ s.MayStart o := by
  simp [State.mayColdStart, State.MayStart, railLow, Machine.railReset, and_assoc]

/-- The reset ends. -/
def State.released (s : State) (o : BootObs) : State :=
  { s with
    now := 0
    sup := { s.sup with held := false, rails := o.rails.take 5, tj := o.sensors.take 4 }
    tagd := { s.tagd with on := true, vtag := max (if s.tagd.on then s.tagd.vtag else vTagFeed) vTagFeed } }

/-- The boot is counted (R457). -/
def State.bootCounted (s : State) (o : BootObs) : State := ((s.released o).setUnits [0x35, 0x36, 0x37] stRunning).counterStore 1 1

theorem State.bootCounted_value (s : State) (o : BootObs) :
    (kvGet {} (s.bootCounted o).rr.ctrs 1).value = min ((kvGet {} s.rr.ctrs 1).value + 1) (2 ^ 48 - 1) := by
  have told : KeepsBanks _ (s.bootCounted o) := KeepsBanks.emitIf (.refl _)
  rw [told.boots, kvGet_kvPut_same, State.setUnits_rr]
  rfl

/-- The steps from the boot count to the choice of the bank: the reset's cause, the record scan, the crystal and the tamper log. -/
def State.stepsOneTwo (s : State) (o : BootObs) : State :=
  let s4 := s.emit 0x11 0x1202 (s.aon.resetKind + 65536 * (s.counter 1 % 65536))
  let s5 := (s4.setUnit 0x0D (if s4.sparesLeft = 0 then stDegraded else stRunning)).recordScan o
  let s6 := if o.crystal then s5 else s5.loseCrystal
  s6.tamperOffline.emitIf o.testMode 0x22 0x1405 0

theorem KeepsBanks.stepsOneTwo (s : State) (o : BootObs) : KeepsBanks s (s.stepsOneTwo o) := by
  unfold State.stepsOneTwo
  extract_lets s4 s5 s6
  have scanned : KeepsBanks s s5 := ((KeepsBanks.emitted s ..).trans (.setUnit s4 ..)).trans (.recordScan _ o)
  have clocked : KeepsBanks s5 s6 := by
    show KeepsBanks s5 (if _ then _ else _)
    split
    · exact .refl s5
    · exact .loseCrystal s5
  exact ((scanned.trans clocked).trans (.tamperOffline s6)).emitIf

/-- The wake that the cold start follows is said. -/
def State.wakeTold (s : State) : State :=
  if s.aon.wake = 0 || s.sup.bootRom then s
  else
    let t := (s.wakeSaid s.aon.wake).emitIf (s.aon.wake == 2) 0x03 0x2002 s.aon.rooster.st
    if s.aon.wake ≤ 3 then t.demand else t

/-- What only speaks and asks for a telegram keeps supervision and the units as well. -/
theorem State.wakeTold_keeps (s : State) : KeepsStart s s.wakeTold ∧ s.wakeTold.sup = s.sup ∧ s.wakeTold.us = s.us := by
  have said : KeepsBanks s ((s.wakeSaid s.aon.wake).emitIf (s.aon.wake == 2) 0x03 0x2002 s.aon.rooster.st) ∧
      KeepsUnits s ((s.wakeSaid s.aon.wake).emitIf (s.aon.wake == 2) 0x03 0x2002 s.aon.rooster.st) := by
    unfold State.wakeSaid
    refine ⟨.emitIf (.emit ?_), .trans (.emit ?_) (KeepsField.emitIf (sets := []) _ _ _ _ _).toKeepsUnits⟩
    · exact ⟨⟨rfl, rfl, rfl, rfl, rfl⟩, rfl, rfl, rfl, rfl, rfl⟩
    · exact ⟨⟨rfl, rfl, rfl, rfl, rfl⟩, rfl⟩
  have asks (t : State) : KeepsBanks t t.demand ∧ KeepsUnits t t.demand := by
    unfold State.demand
    dsimp only
    split
    · exact ⟨.refl t, .refl t⟩
    · refine ⟨.emitIf ?_, .trans ?_ (KeepsField.emitIf (sets := []) _ _ _ _ _).toKeepsUnits⟩
      · exact ⟨⟨rfl, rfl, rfl, rfl, rfl⟩, rfl, rfl, rfl, rfl, rfl⟩
      · exact ⟨⟨rfl, rfl, rfl, rfl, rfl⟩, rfl⟩
  obtain ⟨saidStart, saidUnits⟩ := said
  unfold State.wakeTold
  dsimp only
  split_ifs
  · exact ⟨.refl s, rfl, rfl⟩
  · obtain ⟨start, units⟩ := asks ((s.wakeSaid s.aon.wake).emitIf (s.aon.wake == 2) 0x03 0x2002 s.aon.rooster.st)
    exact ⟨saidStart.toKeepsStart.trans start.toKeepsStart, units.sup.trans saidUnits.sup, units.us.trans saidUnits.us⟩
  · exact ⟨saidStart.toKeepsStart, saidUnits.sup, saidUnits.us⟩

section
variable {s : State} {o : BootObs}

theorem State.coldStart_waits (no : ¬s.MayStart o) : s.coldStart o = s := if_pos (by simpa using mt (s.mayColdStart_iff o).mp no)

theorem State.coldStart_scan (may : s.MayStart o) (test : o.testMode = true) (factory : s.rr.lifecycle = lcFactory) :
    s.coldStart o = { s.released o with sup := { (s.released o).sup with scan := true } } :=
  (if_neg (by simp [(s.mayColdStart_iff o).mpr may])).trans (if_pos (by simp [test, factory]))

theorem State.coldStart_boots (may : s.MayStart o) (noScan : ¬(o.testMode = true ∧ s.rr.lifecycle = lcFactory)) :
    s.coldStart o = ((s.bootCounted o).stepsOneTwo o).chooseBank.wakeTold :=
  (if_neg (by simp [(s.mayColdStart_iff o).mpr may])).trans (if_neg (by simpa using noScan))

theorem State.bootCounted_keeps (s : State) (o : BootObs) : let t := s.bootCounted o
    t.now = 0 ∧ t.tagd.on = true ∧ t.rr.slots = s.rr.slots ∧ t.sup.held = false ∧ t.rr.active = s.rr.active ∧ t.rr.trialBank = s.rr.trialBank ∧
      ∀ n, t.rr.admitted n = s.rr.admitted n := by
  have told : KeepsBanks _ (s.bootCounted o) := KeepsBanks.emitIf (.refl _)
  refine ⟨told.now.trans ?_, told.on.trans ?_, told.slots.trans ?_, told.held.trans ?_, told.active.trans ?_, told.trialBank.trans ?_,
    fun n => (told.admitted n).trans ?_⟩
  all_goals simp only [State.setUnits_now, State.setUnits_tagd, State.setUnits_rr, State.setUnits_sup]
  all_goals rfl

/-- A cold start that may begin and is no scan ends the reset and counts the boot. -/
theorem State.coldStart_starts (may : s.MayStart o) (noScan : ¬(o.testMode = true ∧ s.rr.lifecycle = lcFactory)) : let t := s.coldStart o
    t.sup.held = false ∧ t.now = 0 ∧ t.tagd.on = true ∧ t.rr.slots = s.rr.slots ∧
      (kvGet {} t.rr.ctrs 1).value = min ((kvGet {} s.rr.ctrs 1).value + 1) (2 ^ 48 - 1) := by
  obtain ⟨now, on, slots, held, -, -, -⟩ := s.bootCounted_keeps o
  have rest := ((KeepsBanks.stepsOneTwo (s.bootCounted o) o).toKeepsStart.trans (.chooseBank _)).trans (State.wakeTold_keeps _).1
  rw [← State.coldStart_boots may noScan] at rest
  exact ⟨rest.held.trans held, rest.now.trans now, rest.on.trans on, rest.slots.trans slots,
    (congrArg Counter.value rest.boots).trans (s.bootCounted_value o)⟩

section
variable (may : s.MayStart o) (noScan : ¬(o.testMode = true ∧ s.rr.lifecycle = lcFactory)) (noTrial : s.rr.trialBank = none)
include may noScan noTrial

theorem State.coldStart_active (good : (s.rr.admitted s.rr.active).isSome = true) : let t := s.coldStart o
    t.sup.running = s.rr.active ∧ t.sup.trial = false ∧ t.ownState 0x22 = stRunning := by
  obtain ⟨-, -, -, -, active, trial, admitted⟩ := s.bootCounted_keeps o
  have steps := KeepsBanks.stepsOneTwo (s.bootCounted o) o
  have active := steps.active.trans active
  have boots := State.chooseBank_active (s := (s.bootCounted o).stepsOneTwo o) (by rw [steps.trialBank, trial, noTrial])
    (by rw [active, steps.admitted, admitted, good])
  obtain ⟨running, noTrial, own⟩ := ((s.bootCounted o).stepsOneTwo o).bootFrom_boots ((s.bootCounted o).stepsOneTwo o).rr.active false
  obtain ⟨-, sup, us⟩ := ((s.bootCounted o).stepsOneTwo o).chooseBank.wakeTold_keeps
  rw [← State.coldStart_boots may noScan, boots] at sup us
  exact ⟨(congrArg Sup.running sup).trans (running.trans active), (congrArg Sup.trial sup).trans noTrial, (State.ownState_congr us sup _).trans own⟩

theorem State.coldStart_rom (bad : s.rr.admitted s.rr.active = none) (worse : s.rr.admitted (1 - s.rr.active) = none) : let t := s.coldStart o
    t.sup.bootRom = true ∧ t.ownState 0x22 = stFailed := by
  obtain ⟨-, -, -, -, active, trial, admitted⟩ := s.bootCounted_keeps o
  have steps := KeepsBanks.stepsOneTwo (s.bootCounted o) o
  have active := steps.active.trans active
  have stays := State.chooseBank_rom (s := (s.bootCounted o).stepsOneTwo o) (by rw [steps.trialBank, trial, noTrial])
    (by rw [active, steps.admitted, admitted, bad]) (by rw [active, steps.admitted, admitted, worse])
  obtain ⟨-, sup, us⟩ := ((s.bootCounted o).stepsOneTwo o).chooseBank.wakeTold_keeps
  rw [← State.coldStart_boots may noScan, stays] at sup us
  exact ⟨congrArg Sup.bootRom sup, (State.ownState_congr us sup _).trans (State.ownState_setUnit_failed _ _)⟩

end

end

end Sys2Proof.Machine
end

section
/-! SUPPORT. Resets, supplies, clocks, temperature and Sheepdog's counts: the statement (R444 to R462, R507, R508). -/

namespace Sys2Proof.Machine
open Sys2Proof

/-! ## Clears and the fault queue as requests (R462, R508) -/

section
variable {u : State} {c : Client}

theorem asksWrite_resetNow (acc : Accepts u c 0x1210 3 [1]) : u.asksWrite c 0x1210 3 [1] = (u.askReset 6 c).done c 0x1210 3 :=
  asksWrite_acts { act := okAct (fun s => s.askReset 6 c) } rfl acc (by decide) (by decide) rfl (by simp) rfl

theorem asksWrite_clearSummary {id : Nat} (lt : id < 65536) (acc : Accepts u c 0x1302 1 (leBytes 2 id)) :
    u.asksWrite c 0x1302 1 (leBytes 2 id) = (u.clearSummary id).1.answer c (key 0x1302 1) (u.clearSummary id).2 [] true := by
  have act := asksWrite_acts { act := fun s => s.clearSummary (leNat (leBytes 2 id)) } rfl acc (by decide) (by decide) rfl (by simp) rfl
  rwa [leNat_leBytes, Nat.mod_eq_of_lt (show id < 256 ^ 2 from lt)] at act

theorem asksWrite_clearSource {n : Nat} (lt : n < 256) (acc : Accepts u c 0x1302 2 (leBytes 1 n)) :
    u.asksWrite c 0x1302 2 (leBytes 1 n) = (u.clearSource (u.role c) n).1.answer c (key 0x1302 2) (u.clearSource (u.role c) n).2 [] true := by
  have act := asksWrite_acts { act := fun s => s.clearSource (s.role c) (leNat (leBytes 1 n)) } rfl acc (by decide) (by decide) rfl (by simp) rfl
  rwa [leNat_leBytes_one lt] at act

section
variable {role n : Nat}

theorem State.clearSource_barred (barred : role = roleH ∧ n = 1) : u.clearSource role n = (u, abRole) := if_pos (by simpa using barred)

variable (free : ¬(role = roleH ∧ n = 1))
include free

theorem State.clearSource_clear (clear : u.srcState n = 0) : u.clearSource role n = (u, abOk) := by
  unfold State.clearSource
  rw [if_neg (by simpa using free), clear]
  rfl

theorem State.clearSource_transient (transient : u.srcState n = 1) :
    u.clearSource role n = (u.setSrc n { u.src n with st := 0, times := [] }, abOk) := by
  unfold State.clearSource
  rw [if_neg (by simpa using free), transient]
  rfl

theorem State.clearSource_lasting (lasting : u.srcState n = 2) (other : ¬(0x0D ≤ n ∧ n ≤ 0x12)) : u.clearSource role n = (u, abSequence) := by
  unfold State.clearSource
  rw [if_neg (by simpa using free), lasting]
  exact if_neg other

theorem State.clearSource_antenna (lasting : u.srcState n = 2) (antenna : 0x0D ≤ n ∧ n ≤ 0x12) :
    u.clearSource role n = ((u.endFault n).lfState, abOk) := by
  unfold State.clearSource
  rw [if_neg (by simpa using free), lasting]
  exact if_pos antenna

end

theorem State.src_of_srcState {n : Nat} (lasting : u.srcState n = 2) : (u.src n).st = 2 := by
  unfold State.srcState at lasting
  split at lasting
  · exact absurd lasting (by decide)
  · exact lasting

theorem State.lfState_sup (s : State) : s.lfState.sup = s.sup := by
  unfold State.lfState
  split <;> rfl

@[simp] theorem FaultEntry.bytes_length (e : FaultEntry) : e.bytes.length = 12 := by simp [FaultEntry.bytes, leBytes_length]

/-- A read of the oldest fault entry gives its bytes and removes it (R508). -/
theorem State.readObject_fault (s : State) (c : Client) : s.readObject c 0x1320 1 = (s.nextFault, (abOk, s.presentBytes c 0x1320 1)) := rfl

theorem State.presentBytes_fault (s : State) (c : Client) : s.presentBytes c 0x1320 1 = match s.sup.faults with
    | [] => List.replicate 12 0
    | e :: _ => e.bytes := by
  have shown : s.presentBytes c 0x1320 1 = leBytes 12 (leNat ((s.sup.faults.head?.map (·.bytes)).getD [])) := rfl
  rw [shown]
  cases s.sup.faults with
  | nil => rfl
  | cons e r => exact e.bytes_length ▸ leBytes_leNat e.bytes

end

/-! ## Resets in the statement's words -/

/-- A command that resets, with no wake for its cause. -/
theorem exec_resets {s u : State} {i : Instr} {kind : Nat} (does : exec i s = finish s (u.resetTo kind 0)) : ∃ t, exec i s = .next t ∧
    t.sup.held = true ∧
    t.aon.resetKind = kind ∧ t.aon.mode = 0 ∧ t.dict = {} ∧ t.evq = [] ∧ t.objs = [] ∧
      t.pol = {} ∧ t.us = [] ∧ t.rr.objs = u.rr.objs ∧ t.rr.slots = u.rr.slots ∧ t.rr.lifecycle = u.rr.lifecycle ∧ t.tagd.job = u.tagd.job ∧
          t.tagd.vtag = u.tagd.vtag ∧
      (kind ≠ 1 → t.aon = { u.aon with mode := 0, resetKind := kind, wake := 0 }) ∧ (kind = 1 → t.aon.marks = [] ∧ t.aon.latches = 0 ∧
          t.aon.acc = 0 ∧ t.aon.history = []) := by
  obtain ⟨held, latest, mode, ⟨dict, evq, objs, pol, us⟩, reram, slots, lifecycle, job, vtag, aon, lost⟩ := u.resetTo_inReset kind 0
  exact ⟨_, does, held, latest, mode, dict, evq, objs, pol, us, reram, slots, lifecycle, job, vtag, aon, lost⟩

/-! ## Supplies and clocks in the statement's words -/

section
variable (s : State) (dt : Nat)

theorem exec_vddSerLow {mv : Nat} (on : (s.turn dt).powered = true) (low : mv < 840) : ∃ t, exec (.vddSerLow dt mv) s = .next t ∧
    t.sup.serLow = true ∧
    t.pol = (s.turn dt).pol ∧ ((s.turn dt).ownState 0x25 ≠ stOff → (s.turn dt).ownState 0x25 ≠ stStopped → t.ownState 0x25 = stFailed ∧
        t.ownState 0x04 = stFailed) := by
  have act : exec (.vddSerLow dt mv) s = finish s ((s.turn dt).serLow mv) := rfl
  obtain ⟨serLow, pol, units⟩ := State.serLow_spec on low
  generalize (s.turn dt).serLow mv = t at act serLow pol units
  exact ⟨_, act, serLow, pol, units⟩

theorem exec_vddSerRecovered {mv : Nat} (on : (s.turn dt).powered = true) (was : (s.turn dt).sup.serLow = true) (high : 860 < mv) :
    ∃ t, exec (.vddSerRecovered dt mv) s = .next t ∧ t.sup.serLow = false ∧ ((s.turn dt).sup.rc = false → (s.turn dt).sup.hot = false →
      (s.turn dt).sup.pllS = false → (s.turn dt).sup.vehicleLost = false → t.ownState 0x04 = stStarting) := by
  have act : exec (.vddSerRecovered dt mv) s = finish s ((s.turn dt).serBack mv) := rfl
  obtain ⟨serLow, starts⟩ := State.serBack_recovers on was high
  generalize (s.turn dt).serBack mv = t at act serLow starts
  exact ⟨_, act, serLow, starts⟩

theorem exec_clockLost (on : (s.turn dt).powered = true) (xtal : (s.turn dt).sup.rc = false) : ∃ t, exec (.clockLost dt) s = .next t ∧
    t.sup.rc = true ∧
    t.sup.rcSince = (s.turn dt).now ∧ t.sup.xtalLosses = min ((s.turn dt).sup.xtalLosses + 1) (2 ^ 32 - 1) ∧
      (t.src 8).total = min (((s.turn dt).src 8).total + 1) (2 ^ 32 - 1) ∧ t.phy.rx = none := by
  have act : exec (.clockLost dt) s = finish s (s.turn dt).loseCrystal := congrArg (finish s) (if_pos on)
  obtain ⟨rc, since, losses, count, rx⟩ := State.loseCrystal_spec xtal
  generalize (s.turn dt).loseCrystal = t at act rc since losses count rx
  exact ⟨_, act, rc, since, losses, count, rx⟩

theorem exec_clockRestored (due : (s.turn dt).CrystalDue) : ∃ t, exec (.clockRestored dt) s = .next t ∧ t.sup.rc = false ∧
    ((s.turn dt).sup.hot = false → (s.turn dt).sup.vehicleLost = false → t.ownState 0x04 = stStarting) := by
  have act : exec (.clockRestored dt) s = finish s (s.turn dt).clockRestored := rfl
  obtain ⟨rc, starts⟩ := State.clockRestored_back due
  generalize (s.turn dt).clockRestored = t at act rc starts
  exact ⟨_, act, rc, starts⟩

section
variable {s dt}

theorem exec_pllLost_sample (on : (s.turn dt).powered = true) : ∃ t, exec (.pllLockLost dt .sample) s = .next t ∧ t.sup.pllS = true ∧
    ((s.turn dt).ownState 0x25 ≠ stOff → (s.turn dt).ownState 0x25 ≠ stStopped → t.ownState 0x25 = stFailed) := by
  have act : exec (.pllLockLost dt .sample) s = finish s ((s.turn dt).pllLost .sample) := rfl
  obtain ⟨lost, ports⟩ := State.pllLost_sample on
  generalize (s.turn dt).pllLost .sample = t at act lost ports
  exact ⟨_, act, lost, ports⟩

theorem exec_pllLost_can (on : (s.turn dt).powered = true) : ∃ t, exec (.pllLockLost dt .can) s = .next t ∧ t.sup.pllCan = true ∧
    ∀ b, b < 2 → (s.turn dt).ownState (0x2E + b) ≠ stStopped → (s.turn dt).ownState (0x2E + b) ≠ stOff →
      t.ownState (0x2E + b) = stFailed ∧ (t.ctl b).st = 0 := by
  have act : exec (.pllLockLost dt .can) s = finish s ((s.turn dt).pllLost .can) := rfl
  obtain ⟨lost, both⟩ := State.pllLost_can_spec on
  generalize (s.turn dt).pllLost .can = t at act lost both
  exact ⟨_, act, lost, both⟩

theorem exec_pllRelock_sample (on : (s.turn dt).powered = true) (lost : (s.turn dt).sup.pllS = true) : ∃ t, exec (.pllRelock dt .sample) s = .next t ∧
    t.sup.pllS = false ∧ ((s.turn dt).sup.rc = false → (s.turn dt).sup.hot = false → (s.turn dt).sup.serLow = false →
      (s.turn dt).sup.vehicleLost = false → t.ownState 0x04 = stStarting) := by
  have act : exec (.pllRelock dt .sample) s = finish s ((s.turn dt).pllBack .sample) := rfl
  obtain ⟨back, starts⟩ := State.pllBack_sample on lost
  generalize (s.turn dt).pllBack .sample = t at act back starts
  exact ⟨_, act, back, starts⟩

theorem exec_pllRelock_can (on : (s.turn dt).powered = true) (lost : (s.turn dt).sup.pllCan = true) : ∃ t, exec (.pllRelock dt .can) s = .next t ∧
    t.sup.pllCan = false ∧ ∀ b, b < 2 → (s.turn dt).sup.vehicleLost = false → (s.turn dt).ownState (0x2E + b) = stFailed →
        t.ownState (0x2E + b) = stStarting := by
  have act : exec (.pllRelock dt .can) s = finish s ((s.turn dt).pllBack .can) := rfl
  obtain ⟨back, both⟩ := State.pllBack_can_spec on lost
  generalize (s.turn dt).pllBack .can = t at act back both
  exact ⟨_, act, back, both⟩

theorem exec_temperature {l : List Int} (on : (s.turn dt).powered = true) (four : l.length = 4) : ∃ t, exec (.temperature dt l) s = .next t ∧
    t.sup.tj = l ∧
    t.sup.hot = (if (s.turn dt).sup.hot = true then decide (480 ≤ tjOf l) else decide (500 ≤ tjOf l)) ∧
      ((s.turn dt).sup.hot = false → 500 ≤ tjOf l → ((s.turn dt).sup.vehicleLost = false → t.ownState 0x25 = stStopped) ∧ t.phy.rx = none) ∧
      ((s.turn dt).sup.hot = true → tjOf l < 480 → (s.turn dt).sup.vehicleLost = false → t.ownState 0x04 = stStarting) := by
  have act : exec (.temperature dt l) s = finish s ((s.turn dt).temperature l) := rfl
  cases hot : (s.turn dt).sup.hot with
  | true =>
    by_cases high : 480 ≤ tjOf l
    · rw [State.temperature_stays on four (by simpa [hot] using high)] at act
      exact ⟨_, act, rfl, hot.trans (by simp [high]), fun cool => absurd cool (by decide), fun _ low => absurd high (not_le.mpr low)⟩
    · obtain ⟨tj, cool, starts⟩ := State.temperature_restarts on four hot (not_le.mp high)
      generalize (s.turn dt).temperature l = t at act tj cool starts
      exact ⟨_, act, tj, cool.trans (by simp [high]), fun no => absurd no (by decide), fun _ _ => starts⟩
  | false =>
    by_cases high : 500 ≤ tjOf l
    · obtain ⟨tj, gated, stops, rx⟩ := State.temperature_stops on four hot high
      generalize (s.turn dt).temperature l = t at act tj gated stops rx
      exact ⟨_, act, tj, gated.trans (by simp [high]), fun _ _ => ⟨stops, rx⟩, fun no => absurd no (by decide)⟩
    · rw [State.temperature_stays on four (by simpa [hot] using not_le.mp high)] at act
      exact ⟨_, act, rfl, hot.trans (by simp [high]), fun _ yes => absurd yes high, fun no => absurd no (by decide)⟩

/-! ## Sheepdog's counts in the statement's words -/

theorem exec_glitch {a b : Bool} (on : (s.turn dt).powered = true) (some_ : a = true ∨ b = true) : ∃ t, exec (.glitch dt a b) s = .next t ∧
    t.sup.glitches = min ((s.turn dt).sup.glitches + 1) (2 ^ 32 - 1) ∧ (t.src 1).total = min (((s.turn dt).src 1).total + 1) (2 ^ 32 - 1) ∧
      (t.src 2).total = min (((s.turn dt).src 2).total + 1) (2 ^ 32 - 1) ∧ t.pol = (s.turn dt).pol ∧ ∀ n, 3 ≤ n →
          (t.src n).total = ((s.turn dt).src n).total := by
  have act : exec (.glitch dt a b) s = finish s ((s.turn dt).glitch a b) := rfl
  obtain ⟨glitches, one, two, pol, others⟩ := State.glitch_counts on some_
  generalize (s.turn dt).glitch a b = t at act glitches one two pol others
  exact ⟨_, act, glitches, one, two, pol, others⟩

end

end

/-- A command that counts once against a source. -/
theorem exec_charges {s u t : State} {i : Instr} {n : Nat} (does : exec i s = finish s t) (charged : Charged u t n) : ∃ t, exec i s = .next t ∧
    (t.src n).total = min ((u.src n).total + 1) (2 ^ 32 - 1) ∧ t.pol = u.pol ∧ ∀ m, m ≠ n → (t.src m).total = (u.src m).total :=
  ⟨_, does, charged.total, charged.pol, fun m other => congrArg FaultSrc.total (charged.others m other)⟩

/-- A command that clears a source. -/
theorem exec_clears {s u t : State} {i : Instr} {n : Nat} (does : exec i s = finish s t) (cleared : Cleared u t n) : ∃ t, exec i s = .next t ∧
    (t.src n).st = 0 ∧ (t.src n).times = [] ∧ (t.src n).total = (u.src n).total :=
  ⟨_, does, cleared.st, cleared.times, cleared.total⟩

/-- CLEAR_SOURCE, case by case (R462). -/
theorem exec_clearSource {s u : State} {i : Instr} {c : Client} {n : Nat} (lt : n < 256) (acc : Accepts u c 0x1302 2 (leBytes 1 n))
    (does : exec i s = finish s (u.asksWrite c 0x1302 2 (leBytes 1 n))) :
    (u.role c = roleH ∧ n = 1 → exec i s = finish s (u.aborted c 0x1302 2 abRole)) ∧
      (¬(u.role c = roleH ∧ n = 1) → u.srcState n = 0 → exec i s = finish s (u.done c 0x1302 2)) ∧
      (¬(u.role c = roleH ∧ n = 1) → u.srcState n = 1 → ∃ t, exec i s = .next t ∧ (t.src n).st = 0 ∧ (t.src n).times = [] ∧
          (t.src n).total = (u.src n).total) ∧
      (¬(u.role c = roleH ∧ n = 1) → u.srcState n = 2 → ¬(0x0D ≤ n ∧ n ≤ 0x12) → exec i s = finish s (u.aborted c 0x1302 2 abSequence)) ∧
      (¬(u.role c = roleH ∧ n = 1) → u.srcState n = 2 → 0x0D ≤ n ∧ n ≤ 0x12 → ∃ t, exec i s = .next t ∧ (t.src n).st = 0 ∧ (t.src n).times = []) := by
  rw [asksWrite_clearSource lt acc] at does
  refine ⟨fun barred => ?_, fun free clear => ?_, fun free transient => ?_, fun free lasting other => ?_, fun free lasting antenna => ?_⟩
  · rw [State.clearSource_barred barred] at does
    exact does
  · rw [State.clearSource_clear free clear] at does
    exact does
  · rw [State.clearSource_transient free transient] at does
    exact exec_clears does (Cleared.setSrc u n).answer
  · rw [State.clearSource_lasting free lasting other] at does
    exact does
  · rw [State.clearSource_antenna free lasting antenna] at does
    have cleared := (State.endFault_lasting (State.src_of_srcState lasting)).of_sup (State.lfState_sup _)
    obtain ⟨t, act, st, times, -⟩ := exec_clears does cleared.answer
    exact ⟨t, act, st, times⟩

/-- FAULT_ENDED, by its condition (R460). -/
theorem exec_faultEnded (s : State) (dt n : Nat) :
    (¬(s.turn dt).FaultMet n ∨ ((s.turn dt).src n).st ≠ 2 → exec (.faultEnded dt n) s = finish s (s.turn dt)) ∧
      ((s.turn dt).FaultMet n → ((s.turn dt).src n).st = 2 → ∃ t, exec (.faultEnded dt n) s = .next t ∧ (t.src n).st = 0 ∧ (t.src n).times = [] ∧
        (t.src n).total = ((s.turn dt).src n).total) := by
  obtain ⟨ends, waits⟩ := (s.turn dt).faultEnded_eq n
  have act : exec (.faultEnded dt n) s = finish s ((s.turn dt).whenOn (fun v => v.faultEnded n)) := rfl
  refine ⟨fun no => ?_, fun met lasting => ?_⟩
  · by_cases met : (s.turn dt).FaultMet n
    · rw [act, ends met, State.endFault_other (no.resolve_left (not_not.mpr met))]
    · rw [act, waits met]
  · rw [ends met] at act
    exact exec_clears act (State.endFault_lasting lasting)

/-- NEXT_FAULT_ENTRY (R508). -/
theorem exec_nextFaultEntry (s : State) (dt : Nat) (c : Client) (acc : AcceptsRead (s.turn dt) c 0x1320 1) : ∃ t q,
    exec (.nextFaultEntry dt c) s = .next t ∧
    t.sup.faults = (s.turn dt).sup.faults.drop 1 ∧ (t.ctx c).reply = some q ∧ q.abort = 0 ∧
      q.data = (match (s.turn dt).sup.faults with
        | [] => List.replicate 12 0
        | e :: _ => e.bytes) := by
  have act : exec (.nextFaultEntry dt c) s = finish s _ := congrArg (finish s) (asksRead_gives acc)
  rw [State.readObject_fault] at act
  exact ⟨_, _, act, rfl, State.ctx_answer_reply .., rfl, State.presentBytes_fault ..⟩

/-! ## The cold start in the statement's words -/

theorem exec_coldStart {s : State} {dt : Nat} {o : BootObs} (may : (s.turn dt).MayStart o) (noScan : ¬(o.testMode = true ∧
    (s.turn dt).rr.lifecycle = lcFactory)) :
    ∃ t, exec (.coldStart dt o) s = .next t ∧ t.sup.held = false ∧ t.now = 0 ∧ t.tagd.on = true ∧ t.rr.slots = (s.turn dt).rr.slots ∧
      ((kvGet {} (s.turn dt).rr.ctrs 1).value < 2 ^ 48 - 1 → (kvGet {} t.rr.ctrs 1).value = (kvGet {} (s.turn dt).rr.ctrs 1).value + 1) ∧
      ((s.turn dt).rr.trialBank = none → ((s.turn dt).rr.admitted (s.turn dt).rr.active).isSome = true →
        t.sup.running = (s.turn dt).rr.active ∧ t.sup.trial = false ∧ t.ownState 0x22 = stRunning) ∧
      ((s.turn dt).rr.trialBank = none → (s.turn dt).rr.admitted (s.turn dt).rr.active = none →
        (s.turn dt).rr.admitted (1 - (s.turn dt).rr.active) = none → t.sup.bootRom = true ∧ t.ownState 0x22 = stFailed) := by
  have act : exec (.coldStart dt o) s = finish s ((s.turn dt).coldStart o) := rfl
  obtain ⟨held, now, on, slots, value⟩ := State.coldStart_starts may noScan
  have active := State.coldStart_active may noScan
  have rom := State.coldStart_rom may noScan
  generalize (s.turn dt).coldStart o = t at act held now on slots value active rom
  refine ⟨_, act, held, now, on, slots, fun room => value.trans ?_, active, rom⟩
  exact min_eq_left (by omega)

/-- Settles O59: each clause by the rule of its operation. -/
theorem resetsSuppliesClocksAndFaults : Obligations.ResetsSuppliesClocksAndFaults := by
  intro s dt c u p total more resets
  refine ⟨exec_resets rfl, fun rail mv => ?rails, fun ns => ?pin, fun acc => ?now, fun no => ?noneAsked, fun k d t asked on other => ?deferred,
      fun o => ?cold,
    fun mv => ?vddSer, fun no => ?noLoss, fun on xtal => exec_clockLost s dt on xtal, ⟨?xtalWaits, exec_clockRestored s dt⟩, fun off l => ?pllOff,
        fun on => ?plls,
    fun k lt => ?trim, fun l four => ?temperature, fun off => ?faultsOff, ?noGlitch, fun on => ?counts, exec_faultEnded s dt, fun id lt acc =>
        ?summary,
    fun n lt acc => exec_clearSource lt acc rfl, exec_nextFaultEntry s dt c⟩
  case rails =>
    intro floor
    refine ⟨fun which low => ?_, fun vaon low => ?_, fun fine => congrArg (finish s) (u.railReset_above ?_)⟩
    · exact exec_resets (congrArg (finish s) (u.railReset_below which (railReset_of_le which ▸ low)))
    · subst vaon
      exact exec_resets (congrArg (finish s) (u.railReset_vaon low))
    · obtain ⟨which, high⟩ | other := fine
      · exact .inl ⟨which, railReset_of_le which ▸ high⟩
      · exact .inr other
  case pin => exact ⟨fun long => exec_resets (congrArg (finish s) (u.externalReset_long long)), fun short => congrArg (finish s)
      (u.externalReset_short short)⟩
  case now => exact congrArg (finish s) (asksWrite_resetNow acc)
  case noneAsked =>
    refine congrArg (finish s) ?_
    cases on : u.powered with
    | false => exact State.whenOn_off on _
    | true => exact (State.whenOn_on on _).trans (State.deferredReset_none (no.resolve_right (by simp [on])))
  case deferred =>
    exact ⟨fun due => exec_resets (congrArg (finish s) ((State.whenOn_on on _).trans (State.deferredReset_due asked due))),
      fun unsent early => congrArg (finish s) ((State.whenOn_on on _).trans (State.deferredReset_early asked unsent early))⟩
  case cold =>
    intro v may scan boots
    exact ⟨fun no => congrArg (finish s) (State.coldStart_waits no), fun m sc => ⟨_, congrArg (finish s) (State.coldStart_scan m sc.1 sc.2), rfl,
        rfl, rfl⟩,
      fun m noScan => exec_coldStart m noScan⟩
  case vddSer =>
    exact ⟨fun no => congrArg (finish s) (State.serLow_waits no), exec_vddSerLow s dt, fun no => congrArg (finish s) (State.serBack_waits no),
      exec_vddSerRecovered s dt⟩
  case noLoss => exact congrArg (finish s) (State.clockLost_off no)
  case xtalWaits => exact fun wait => congrArg (finish s) (State.clockRestored_waits wait)
  case pllOff => exact ⟨congrArg (finish s) (State.pllLost_off off l), congrArg (finish s) (State.pllBack_off off l)⟩
  case plls =>
    exact ⟨exec_resets (congrArg (finish s) (State.pllLost_on on).1), congrArg (finish s) u.pllBack_core, exec_pllLost_sample on, exec_pllLost_can on,
      fun locked => congrArg (finish s) (State.pllBack_sample_locked locked), fun locked => congrArg (finish s) (State.pllBack_can_locked locked),
      exec_pllRelock_sample on, exec_pllRelock_can on⟩
  case trim => exact ⟨fun no => congrArg (finish s) (State.rcTrim_off no k), fun xtal released => congrArg (finish s)
      (State.rcTrim_on xtal released lt)⟩
  case temperature =>
    intro tj
    exact ⟨fun off => ⟨congrArg (finish s) (State.temperature_off off l), congrArg (finish s) (State.thermalReset_off off l)⟩,
      fun on => ⟨fun hot => exec_resets (congrArg (finish s) (State.thermalReset_hot on four hot)),
        fun cool => congrArg (finish s) (State.thermalReset_cool four cool), exec_temperature on four⟩⟩
  case faultsOff =>
    exact ⟨fun a b => congrArg (finish s) (State.glitch_off off a b), fun g => congrArg (finish s) (State.watchdog_off off g),
      fun b => congrArg (finish s) (State.lockstep_off off b)⟩
  case noGlitch => exact congrArg (finish s) u.glitch_none
  case counts =>
    refine ⟨fun a b some_ => exec_glitch on some_, fun g => ?_, fun b => exec_charges rfl (State.lockstep_charged on b)⟩
    have counted := exec_charges (i := .watchdogExpiry dt g) rfl (State.watchdog_charged on g)
    cases g <;> exact counted
  case summary =>
    have act : exec (.clearSummary dt c id) s = finish s _ := congrArg (finish s) (asksWrite_clearSummary lt acc)
    refine ⟨fun none_ => act.trans ?_, fun some_ => act.trans ?_⟩
    · rw [show u.clearSummary id = (u, abRange) from if_pos (by simp [none_])]
      rfl
    · rw [show u.clearSummary id = _ from if_neg (by simpa using some_)]
      rfl

end Sys2Proof.Machine
end
